-- ==== Sys2Proof/Word.lean ====
section
/-! DEFINITION. The machine's plainest words: a byte of a memory or frame, a 32-bit register word (spec/00_scope.md,
Registers). -/

namespace Sys2Proof

/-- One byte. -/
abbrev Byte := BitVec 8

/-- One 32-bit register word (R11). -/
abbrev Word := BitVec 32

end Sys2Proof
end

