-- ==== Sys2Proof/Syntax.lean ====
section
/-! DEFINITION. The commands of the block: one constructor per row of spec/opcode_table.json, with the operands that the
environment supplies (a stamp, a code, a received frame or record, a requester and the value it writes). Times inside
operands are in the unit their name or docstring gives; the command itself acts at the current raw tick.
notes/assumptions/3.md says how operands were chosen. -/

namespace Sys2Proof

/-- Who sends a register or SRAM access: the masters of R488 that reach the register target, each with its own snapshots and
select copies (R18, R19), the supervisor cores in user mode (R529), the three engines' masters, which have no copies, and an engine
thread with its counter-read instruction (R529). -/
inductive Requester
  | host | sup0 | sup1 | sup2 | sup3 | user0 | user1 | user2 | user3 | jtag | dma | cluster | pairLink
  | thread (engine : Nat)
  deriving DecidableEq, Repr

/-- The copy of per-requester registers that a requester uses. -/
def Requester.idx : Requester → Nat
  | .host => 0 | .sup0 | .user0 => 1 | .sup1 | .user1 => 2 | .sup2 | .user2 => 3 | .sup3 | .user3 => 4 | .jtag => 5 | .dma => 6
  | .cluster => 7 | .pairLink => 8 | .thread k => 9 + k

/-- The master number of R488. -/
def Requester.master : Requester → Nat
  | .host => 4 | .sup0 | .user0 => 0 | .sup1 | .user1 => 1 | .sup2 | .user2 => 2 | .sup3 | .user3 => 3 | .jtag => 8 | .dma => 5
  | .cluster => 6 | .pairLink => 7 | .thread _ => 6

/-- A supervisor core. -/
def Requester.isSup : Requester → Bool
  | .sup0 | .sup1 | .sup2 | .sup3 => true
  | _ => false

/-- User-mode code (R529). -/
def Requester.isUser : Requester → Bool
  | .user0 | .user1 | .user2 | .user3 | .thread _ => true
  | _ => false

/-- What an access addresses: the registers, SRAM through BAR2, or the MSI-X table through BAR4 (R500). -/
inductive Space | bar0 | bar2 | bar4
  deriving DecidableEq, Repr

/-- The requests MG0 answers in starter mode beside TFTP (R139). -/
inductive EchoKind | arp | icmp | ndp | icmp6
  deriving DecidableEq, Repr

/-- What happens on an NTS-KE connection (R395): it is opened; its one exchange completes under exported keys (C2S, then S2C),
with an acceptable protocol and algorithm or not; or its handshake ends by an alert. -/
inductive KeEvent
  | opened
  | exchange (keys : List Byte) (acceptable : Bool)
  | alert
  deriving DecidableEq, Repr

/-- The AtomicOps of R502. -/
inductive AtomicKind | fetchAdd | swap | cas
  deriving DecidableEq, Repr

/-- What ends the PCIe link's service (R504): the link falls, a hot reset, PERST#, or a function-level reset. -/
inductive LinkReset | fall | hot | perst | flr
  deriving DecidableEq, Repr

/-- What the event outside the cluster's registers counts (R530): an engine's counter set or the cluster's. -/
inductive PmuSet
  | engine (k : Nat)
  | cluster
  deriving DecidableEq, Repr


/-- The commands. Each constructor cites the rule its row of the table names. -/
inductive Instr where
  /-- TOKEN_LAUNCH (R41). Every 625 ticks the Hearth launches a sync token, with a pair block when due, on every time-bus route. -/
  | tokenLaunch
  /-- TOKEN_ARRIVAL (R48). An island receives a token, checks its CRCs and compares its replica with TICK plus Lt. -/
  | tokenArrival (n : Nat) (bytes : List Byte) (edge : Nat)
  /-- TOKEN_TIMEOUT (R49). With no good token for 1,250 ticks, the island reports ERRB unbounded and refuses new appointments. -/
  | tokenTimeout (n : Nat)
  /-- PAIR_COMMIT (R50). When a replica reaches a pending pair's COMMIT tick, every reader of the island switches to the new generation. -/
  | pairCommit (n : Nat)
  /-- ROUTE_CALIBRATION_DONE (R52). The loopback calibration of a route ends, and L is applied from the mean round trip plus SKEW. -/
  | routeCalibrationDone (n sum sumSq : Nat)
  /-- ROUND_TRIP_MEASURED (R54). An in-service round trip on channel 23 updates the route filter and moves the applied L by one crumb if needed. -/
  | roundTripMeasured (n rt : Nat)
  /-- WAKE_CALIBRATION_DONE (R55). The 256-marker calibration of a woken island's route ends, and the replica loads from the next good token. -/
  | wakeCalibrationDone (n sum sumSq : Nat)
  /-- POWER_UP (R70). Once VIN has been in range for 10 ms with PORST# high, the power-up sequence starts the regulators, the raw counter and the boot ROM. -/
  | powerUp (home fstartN : Bool) (bankSel : Nat)
  /-- HOLDUP_CHARGED (R445). The vault hold-up reaches charge, HOLDOK sets and queued updates may run. -/
  | holdupCharged
  /-- VIN_WARNING (R69). VIN falls below 11.2 V, which sets UVW and raises the supply warning event. -/
  | vinWarning
  /-- OVERVOLTAGE_WARNING (R69). VIN rises above 13.0 V, which sets OVW and raises the supply warning event. -/
  | overvoltageWarning
  /-- POWER_FAIL (R72). VIN below 10.8 V for 50 µs runs the power-fail sequence through to the end. -/
  | powerFail (zeroMs : Nat)
  /-- OVERVOLTAGE_SHUTDOWN (R69). VIN above 13.5 V for 50 µs starts the power-fail sequence. -/
  | overvoltageShutdown (zeroMs : Nat)
  /-- PORST_ASSERT (R71). PORST# held low for 1 ms ends the run with STOP 0x03 and switches the regulators off. -/
  | porstAssert
  /-- THERMAL_WARNING (R73). The hottest die sensor reaches 100 °C, which sets HOTW and raises the supply warning event. -/
  | thermalWarning (celsius : Int)
  /-- THERMAL_SHUTDOWN (R73). The hottest die sensor reaches 115 °C, which runs the power-fail sequence and records thermal shutdown. -/
  | thermalShutdown (celsius : Int) (zeroMs : Nat)
  /-- SUPPLY_UPDATE (R88). Every 1 ms GLB_SUPPLY is updated and any warning bit that was cleared while its condition holds is set again. -/
  | supplyUpdate (vin : Nat) (hottest : Int)
  /-- RCP_CHECK (R124). The CHECK command validates a recipe bank without applying it. -/
  | rcpCheck (req : Requester) (bank : Nat)
  /-- RCP_RELOAD (R119). The RELOAD command validates a bank and reloads from it by reload class. -/
  | rcpReload (req : Requester) (bank : Nat)
  /-- RCP_PROG (R125). The PROG command erases a recipe bank, writes an image from SRAM into it and reads it back. -/
  | rcpProg (req : Requester) (bank : Nat)
  /-- RCP_PREFER (R125). The PREFER command validates a bank and makes it the preferred bank in the start record. -/
  | rcpPrefer (req : Requester) (bank : Nat)
  /-- RECIPE_VALIDATION_DONE (R115). Validation of an image ends in pass or failure, and the requested action proceeds or ends. -/
  | recipeValidationDone
  /-- LIVE_SHADOW_ACK (R121). An island acknowledges the shadow values of a LIVE commit. -/
  | liveShadowAck (island : Nat)
  /-- LIVE_ACK_DEADLINE (R121). At C − 128 ticks with an acknowledgement missing, the shadow is cancelled and retried, or the reload ends after three failures. -/
  | liveAckDeadline
  /-- RECIPE_LIVE_SWITCH (R122). Islands reach C and switch to the new LIVE values together, and the recipe generation increments. -/
  | recipeLiveSwitch
  /-- PROG_DONE (R125). Programming of a recipe or firmware bank completes with its read-back, or ends with a mismatch code. -/
  | progDone (mismatch : Bool)
  /-- DOMAINS_GOOD (R130). The regulators of the domains the recipe uses report good, and route calibration begins. -/
  | domainsGood
  /-- REGULATOR_TIMEOUT (R134). A domain regulator that does not report good within 10 ms ends the start with code 0x21. -/
  | regulatorTimeout (d : Nat)
  /-- FIRMWARE_VALIDATED (R128). Validation of a firmware bank ends, and the firmware is loaded and SUP0 to SUP3 start at ENTRY. -/
  | firmwareValidated
  /-- SUP_READY (R484). The firmware sets SUP_STATUS.READY once its services run. -/
  | supReady
  /-- BOOT_LIMIT_EXPIRY (R129). A start that is not complete within BOOT_LIMIT ends with code 0x28. -/
  | bootLimitExpiry
  /-- STABLE_TIMER (R135). 300 s after the start completes, STABLE is set and ATTEMPTS is cleared. -/
  | stableTimer
  /-- LAST_SEC_WRITE (R132). Every 1,024 s in service, LAST_SEC is written to the start record. -/
  | lastSecWrite
  /-- BOOT_WARM (R140). The WARM command resets every domain except AON and reruns steps 2 to 7 of the start. -/
  | bootWarm (req : Requester) (key : Nat)
  /-- BOOT_COLD (R140). The COLD command switches off every domain, AON included, and restarts. -/
  | bootCold (req : Requester) (key : Nat)
  /-- BOOT_STARTER (R136). The STARTER command sets STARTER_REQ and makes a cold restart. -/
  | bootStarter (req : Requester) (key : Nat)
  /-- BOOT_CLRFAIL (R138). The CLRFAIL command sets ATTEMPTS to 0 in the start record. -/
  | bootClrfail (req : Requester) (key : Nat)
  /-- BOOT_FWPROG (R138). The FWPROG command programs a firmware bank from SRAM. -/
  | bootFwprog (req : Requester) (key bank : Nat)
  /-- BOOT_FWPREFER (R138). The FWPREFER command validates a firmware bank and makes it preferred. -/
  | bootFwprefer (req : Requester) (key bank : Nat)
  /-- TFTP_WRITE_IMAGE (R139). A TFTP write of a recipe or firmware image in starter mode stages, programs and validates it. -/
  | tftpWriteImage (fw : Bool) (bank : Nat) (image : List Byte)
  /-- TFTP_WRITE_RESTART (R139). A TFTP write of restart makes a cold restart after the final acknowledgement. -/
  | tftpWriteRestart
  /-- TFTP_READ_STARTREC (R139). A TFTP read of startrec returns the 64-byte start record. -/
  | tftpReadStartrec
  /-- MG0_RECOVERY_ECHO (R139). In starter mode MG0 answers ARP, NDP and ICMP echo at its fixed addresses. -/
  | mg0RecoveryEcho (kind : EchoKind) (payload : List Byte)
  /-- PULSE_EDGE (R144). An edge of a pulse channel is accepted, starts a new run, or is discarded as spurious. -/
  | pulseEdge (c : Nat)
  /-- ACTIVITY_TIMEOUT (R144). With no accepted edge for 2.5 nominal periods, ACTIVITY clears and the channel is disqualified. -/
  | activityTimeout (c : Nat)
  /-- FREQ_ACTIVITY_COUNT (R145). At the end of each millisecond the edge count of a frequency channel sets or clears ACTIVITY. -/
  | freqActivityCount (c : Nat)
  /-- IRIG_FRAME (R147). A complete IRIG-B frame is decoded, labelled and its Pr stamp used, or failed. -/
  | irigFrame (c code : Nat) (widths : List Nat) (pr16 : Nat)
  /-- GNSS_EPOCH_STROBE (R149). The baseband epoch strobe is stamped on REF0's TDC channel. -/
  | gnssEpochStrobe (half code kStop : Nat)
  /-- GNSS_SOLUTION (R149). Firmware returns the time solution of a strobe and the Hearth forms the GNSS offset. -/
  | gnssSolution (tsys : Nat) (corr : Int) (ukind used dual : Nat) (moved validated : Bool) (pos : List Int) (sats : List Nat)
  /-- GNSS_SURVEY_COMPLETE (R149). The 3,600 s survey fixes the position and the receiver solves for time alone. -/
  | gnssSurveyComplete
  /-- GNSS_NO_FIX_TIMEOUT (R565). With no fix for 5 s, REF0 loses ACTIVITY. -/
  | gnssNoFixTimeout
  /-- ANTENNA_CURRENT_SAMPLE (R151). Each 1 µs sample of the feed current sets or clears OPEN and SHORT and REF0's presence. -/
  | antennaCurrentSample (mA : Nat)
  /-- ANTENNA_SHORT_CUTOFF (R151). A short that lasts 1 ms switches the antenna feed off. -/
  | antennaShortCutoff
  /-- ANTENNA_RETRY (R151). Every 10 s the feed is switched on for 1 ms and the short is ended or kept. -/
  | antennaRetry (mA : Nat)
  /-- ESMC_PDU (R153). A received ESMC PDU sets the quality level of a SyncE channel. -/
  | esmcPdu (c : Nat) (bytes : List Byte)
  /-- ESMC_TIMEOUT (R153). With no valid ESMC PDU for 5 s, the level becomes QL-FAILED. -/
  | esmcTimeout (c : Nat)
  /-- ANNOUNCE_RECEIPT_TIMEOUT (R154). The announce receipt timeout of the profile disqualifies the PTP upstream channel. -/
  | announceReceiptTimeout (c : Nat)
  /-- QCLASS_EVALUATION (R159). At least every 1 ms QCLASS is derived from each kind's indication and QCHG is set on a change. -/
  | qclassEvaluation (c : Nat)
  /-- UIN_SENSE_SAMPLE (R546). Each 1 µs sense sample of a UIN forms the sensed resistance and its presence. -/
  | uinSenseSample (k : Nat) (nV : Option Nat)
  /-- PLUG_HOLD_DONE (R165). After 100 ms of unbroken presence PLUG is set and the channel enters qualification with no history. -/
  | plugHoldDone (c : Nat)
  /-- HELD_STAMP_RELEASE (R163). A stamp held for 32 µs is released to measurement and qualification. -/
  | heldStampRelease (c : Nat)
  /-- REF_CFG_WRITE (R164). A write of REF_CFG changes channel settings, and clearing EN disqualifies the channel. -/
  | refCfgWrite (req : Requester) (c data : Nat)
  /-- REF_NOMFREQ_WRITE (R145). A write of the nominal frequency is held until the high word is written and then takes effect, recomputing the prescaler. -/
  | refNomfreqWrite (req : Requester) (c : Nat) (high : Bool) (data : Nat)
  /-- TDC_EDGE (R169). An edge at a TDC channel is stamped by an armed interpolator half and counted. -/
  | tdcEdge (n half code kStop : Nat)
  /-- INTERPOLATOR_CALIBRATION (R171). A half whose pair is 64 ticks old, or that has just stamped, takes a new calibration pair. -/
  | interpolatorCalibration (n half c1 c2 : Nat)
  /-- PHASE_RESULT_MS (R176). At each millisecond boundary a fast pulse channel delivers the mean phase of its accepted edges. -/
  | phaseResultMs (c : Nat)
  /-- INTERVAL_RECORD (R178). Once the pairing window after a stop has closed, the interval record of the stop is produced. -/
  | intervalRecord (n : Nat)
  /-- GATE_END (R181). At a gate boundary the regression of a frequency channel yields y_raw, σ_r and N. -/
  | gateEnd (n : Nat)
  /-- TDC_CLRCNT (R177). The CLRCNT command clears TDC_CNT of the channel. -/
  | tdcClrcnt (req : Requester) (n : Nat)
  /-- TDC_TB_WRITE (R187). A write of TDC_TB selects the measurement time base, checked for EXT. -/
  | tdcTbWrite (req : Requester) (data : Nat)
  /-- TDC_GATE_WRITE (R192). A write of the gate length is held until the next gate boundary. -/
  | tdcGateWrite (req : Requester) (n data : Nat)
  /-- CELL_HEATING_DONE (R196). Cell and VCSEL temperatures reach window and the standard enters optical search. -/
  | cellHeatingDone
  /-- OPTICAL_SEARCH_DONE (R196). Absorption is found and the standard enters microwave search. -/
  | opticalSearchDone
  /-- MICROWAVE_LOCK (R196). The CPT resonance holds for 10 s and the standard enters Locked with CELL_LOCK set. -/
  | microwaveLock
  /-- CELL_SEARCH_TIMEOUT (R196). A search or heating time limit expires and the standard enters Fault. -/
  | cellSearchTimeout
  /-- CELL_FAULT_RETRY (R196). 60 s after Fault the standard returns to Heating. -/
  | cellFaultRetry
  /-- CELL_UNLOCK (R197). When Locked ends, the VCXO freezes, CELL_LOCK clears, UNLOCK sets and SRV2's estimate is discarded. -/
  | cellUnlock (inWindow : Bool)
  /-- OVEN_PROOF_CLEAR (R198). After 300 s with the oven error within ±10 mK, OVEN_PROOF clears. -/
  | ovenProofClear
  /-- CELL_PROOF_CLEAR (R198). After OSC_SETTLE.CELL seconds of lock, CELL_PROOF clears. -/
  | cellProofClear
  /-- OVEN_DEVIATION (R199). An oven error beyond ±50 mK for 1 s sets OVEN_PROOF and OVENDEV. -/
  | ovenDeviation
  /-- CELL_PROOF_SET (R199). A standard that has not returned to Locked within 60 s sets CELL_PROOF again. -/
  | cellProofSet
  /-- HEATER_FAULT (R201). A heater that has not reached window 10 minutes after power-up sets HEATFLT. -/
  | heaterFault (cell : Bool)
  /-- SENSOR_SAMPLE (R202). Every 1 ms the Hearth samples the die, oven and cell sensors. -/
  | sensorSample (temps : List Int) (oven cell : Int) (ovenHeat cellHeat : Nat)
  /-- LOAD_REPORT (R369). A quarter reports its used issue slots of the last microsecond to the Hearth. -/
  | loadReport (q used : Nat)
  /-- LOAD_REPORT_MISSING (R369). A report not arrived 625 ticks after its TICK is missing and the quarter is taken at full activity. -/
  | loadReportMissing (q : Nat)
  /-- OPERATING_POINT_UPDATE (R204). At each second the operating point bins are updated. -/
  | operatingPointUpdate
  /-- AGEING_DAY_END (R212). At the end of each DTIME day the daily means and ageing slopes are updated. -/
  | ageingDayEnd
  /-- MODEL_STORE_WRITE (R213). Every 1,024 s the model state is written to the model store in flash. -/
  | modelStoreWrite (ok : Bool)
  /-- OSC_CLR_C (R214). The CLR_C command clears the CELL model set unless it is in use in holdover. -/
  | oscClrC (req : Requester) (key : Nat)
  /-- OSC_CLR_O (R214). The CLR_O command clears the OVEN model set unless it is in use in holdover. -/
  | oscClrO (req : Requester) (key : Nat)
  /-- OSC_RELOCK (R197). The RELOCK command treats the cell as having lost lock. -/
  | oscRelock (req : Requester) (key : Nat)
  /-- OSC_STORE (R213). The STORE command writes the model store at once. -/
  | oscStore (req : Requester) (key : Nat) (ok : Bool)
  /-- SRV_UPDATE (R225). At each multiple of its period a servo instance applies its law to its new results and proposes a pair. -/
  | srvUpdate (n : Nat)
  /-- DP_GO (R222). The GO command proposes the staged host pair. -/
  | dpGo (req : Requester) (key : Nat)
  /-- SRV_MAN_WRITE (R232). Setting or clearing MAN hands the pair to the host or back to SRV0 after any pending pair commits. -/
  | srvManWrite (req : Requester) (data : Nat)
  /-- SRV_CLRI (R228). The CLRI command sets the integrator to the rate in force at the next update. -/
  | srvClri (req : Requester) (n : Nat)
  /-- UTC_SOURCE_REPORT (R236). A source reports the UTC offset and any pending change to the Hearth. -/
  | utcSourceReport (src : Nat) (offset : Int) (ann leapSec : Nat) (after : Int)
  /-- LEAP_SEC_REACHED (R238). At LEAP_SEC the offset changes, the previous one is recorded and LEAPDONE sets. -/
  | leapSecReached
  /-- UTC_DISAGREE_TIMEOUT (R239). A followed source that reports a different offset for 60 s sets UTCERR. -/
  | utcDisagreeTimeout
  /-- UTCW_SETOFF (R239). The SETOFF command reports the host's UTC offset. -/
  | utcwSetoff (req : Requester) (offset : Int)
  /-- SETOFF_APPLY (R239). At the first disciplined second at least 2 s after SETOFF, the offset changes and VALID sets. -/
  | setoffApply
  /-- UTCW_SCHED (R237). The SCHED command reports a host leap change at HRT_UTCW_SEC. -/
  | utcwSched (req : Requester) (del : Bool)
  /-- UTCW_CANCEL (R238). The CANCEL command reports that no change is pending. -/
  | utcwCancel (req : Requester)
  /-- SECOND_BOUNDARY (R241). At each disciplined second boundary HRT_EPOCH_SEC is updated and EV26 is raised. -/
  | secondBoundary
  /-- REF_EVALUATION (R246). Each second the selection unit evaluates every qualifying channel against its windows and drift. -/
  | refEvaluation (c : Nat)
  /-- HOLDOFF_END (R245). The hold-off of a disqualified channel ends and it may enter QUALIFYING. -/
  | holdoffEnd (c : Nat)
  /-- QTIME_EXPIRY (R244). A channel that stays QUALIFYING for QTIME without a breach becomes QUALIFIED. -/
  | qtimeExpiry (c : Nat)
  /-- SELECTION_EVALUATION (R253). Every 1 ms, and on any disqualification, selection ranks the candidates and chooses the selected channel. -/
  | selectionEvaluation
  /-- REF_SELCTL_WRITE (R253). A write of FORCE, FCH or HOLD changes what selection may choose. -/
  | refSelctlWrite (req : Requester) (data : Nat)
  /-- SYN_FREQ_WRITE (R280). Writing a unit frequency relocks the unit by gating or by slewing. -/
  | synFreqWrite (req : Requester) (u : Nat) (high : Bool) (data : Nat)
  /-- SYN_LOCK_DECLARED (R277). After 65,536 reference cycles of ACQUIRE the unit enters LOCKED and RELOCKED sets. -/
  | synLockDeclared (u : Nat)
  /-- OUTPUT_RELEASE (R280). A gated output is released at the first boundary of its grid after lock. -/
  | outputRelease (n : Nat)
  /-- SLEW_STEP (R281). Every 1,024 ticks a slewing unit moves its frequency one step towards the target. -/
  | slewStep (u : Nat)
  /-- SYN_LOSS_OF_LOCK (R278). A phase monitor loss sets LOL, freezes the MDLL and puts the unit in COAST. -/
  | synLossOfLock (u : Nat)
  /-- SYN_REFERENCE_LOSS (R278). A missing or extra reference edge sets REFLOSS and puts the unit in COAST. -/
  | synReferenceLoss (u : Nat)
  /-- COAST_END (R279). After 1 ms in COAST the unit begins a gated relock. -/
  | coastEnd (u : Nat)
  /-- OUT_EN_WRITE (R284). Enabling or disabling an output starts or ends its driving at boundaries. -/
  | outEnWrite (req : Requester) (n data : Nat)
  /-- OUT_REGRID_WRITE (R285). A write of DIV, PARAM or PHASE re-grids a driving output after its current period. -/
  | outRegridWrite (req : Requester) (n which value : Nat)
  /-- OUT_REALIGN (R280). The REALIGN command runs a gated relock at the current frequency. -/
  | outRealign (req : Requester) (u data : Nat)
  /-- OUT_RECAL (R289). The RECAL command makes the output's next dwell a first dwell. -/
  | outRecal (req : Requester) (n : Nat)
  /-- LOOPBACK_DWELL_END (R289). At the end of a loopback dwell the calibrated latency is trimmed and CALOK or CALERR updated. -/
  | loopbackDwellEnd (n began : Nat) (lams : List Int)
  /-- LINE_START_EDGE (R295). A line-start stamp sets an alignment target for a pulse or frame output, or is ignored or LATE. -/
  | lineStartEdge (n at16 : Nat)
  /-- FRAME_RECEIVED (R310). A received frame is stamped at the reference plane and given its port stamp record. -/
  | frameReceived (n edge b : Nat) (preempt : Bool) (bytes : List Byte)
  /-- FRAME_TRANSMITTED (R311). A frame whose stamp point crossed the ball gets a transmit record in the egress stamp FIFO. -/
  | frameTransmitted (n : Nat) (q : Option Nat) (edge b : Nat)
  /-- BLOCK_LOCK (R308). A port reaches block lock and begins measuring its latencies. -/
  | blockLock (n : Nat)
  /-- LATENCY_MEASURED (R308). The latency measurement completes and LATOK sets. -/
  | latencyMeasured (n rx tx : Nat)
  /-- PRT_LATCAL (R308). The LATCAL command re-measures L_rx and L_tx. -/
  | prtLatcal (req : Requester) (n : Nat)
  /-- LINK_DOWN (R317). A port loses its link, truncating a frame on the wire and collapsing its appointments with LINK. -/
  | linkDown (n : Nat) (cut : Option (Option Nat × Nat × Nat))
  /-- PAUSE_FRAME (R338). A received PAUSE is honoured or ignored, and may collapse appointments it covers. -/
  | pauseFrame (n quanta : Nat)
  /-- PREEMPT_VERIFY_DONE (R301). The 802.3br verification at link-up succeeds or fails. -/
  | preemptVerifyDone (n : Nat) (ok : Bool)
  /-- PRT_ASYMCAL (R314). The ASYMCAL command starts an asymmetry calibration or fails at once with ACWHY. -/
  | prtAsymcal (req : Requester) (n : Nat)
  /-- ASYMCAL_WINDOW_END (R314). At the end of the calibration window PRT_ASYM and PRT_LINKUNC are written and ACDONE sets. -/
  | asymcalWindowEnd (n : Nat)
  /-- ESMC_INFO_SEND (R305). Each second the port sends an ESMC information PDU. -/
  | esmcInfoSend (n : Nat) (event : Bool)
  /-- MG0_RX_INTERRUPT (R316). MG0 raises its receive interrupt and latches the replica RAW for coarse stamps. -/
  | mg0RxInterrupt
  /-- SFP_ABS_CHANGE (R548). A change of PTn_ABS marks the transceiver present or absent and the port link down. -/
  | sfpAbsChange (n : Nat) (abs : Bool)
  /-- SFP_LOS (R548). A high PTn_LOS is taken as loss of block lock within 1 µs. -/
  | sfpLos (n : Nat) (los : Bool)
  /-- RESERVATION (R322). A packet engine asks the egress gate for a crossing and receives GRANT or REFUSE. -/
  | reservation (id : Nat) (starts : List Nat)
  /-- SEALED_MESSAGE_ARRIVAL (R325). A sealed message reaches the gate buffer, its margin is recorded, or it collapses LATE. -/
  | sealedMessageArrival (id : Nat)
  /-- DEPARTURE_RELEASE (R324). At the start word edge the gate releases the appointed frame or collapses it. -/
  | departureRelease (n : Nat)
  /-- COMMIT_RECORD (R357). The commit unit applies every debit, grant update and service count of a request in one step. -/
  | commitRecord (id : Nat)
  /-- APD_CLRCNT (R341). The CLRCNT command clears every departure counter of the port. -/
  | apdClrcnt (req : Requester) (n : Nat)
  /-- APD_CLRMARG (R325). The CLRMARG command resets the smallest margin. -/
  | apdClrmarg (req : Requester) (n : Nat)
  /-- PIPELINE_DEQUEUE (R345). A queued request is given to the first engine of its stage with a free context. -/
  | pipelineDequeue (p st : Nat)
  /-- LANE_GRANT (R355). A cipher lane arbiter grants a waiting operation to the lowest free lane. -/
  | laneGrant (hmac : Bool)
  /-- LANE_RESULT (R356). A cipher lane operation completes and returns its result, with STALE or REFUSED where due. -/
  | laneResult (j : Nat) (bad : Bool)
  /-- RING_PROD_WRITE (R361). The host advances PROD of a ring, posting buffers or ringing the doorbell. -/
  | ringProdWrite (req : Requester) (r prod : Nat) (posted : List (List Byte × List Byte))
  /-- DESCRIPTOR_WRITEBACK (R362). The engine completes a descriptor and writes it back with PHASE inverted. -/
  | descriptorWriteback (r : Nat) (host : List Byte)
  /-- RING_EN_WRITE (R366). Enabling a ring resets its indices, and disabling it stops it after the current descriptor. -/
  | ringEnWrite (req : Requester) (r data : Nat)
  /-- RING_COALESCE_TIMEOUT (R365). COALT after the first unsignalled completion the ring's interrupt is sent. -/
  | ringCoalesceTimeout (r : Nat)
  /-- PKE_DRAIN_WRITE (R368). Setting DRAIN stops delivery to pipelines and abandons uncommitted requests. -/
  | pkeDrainWrite (req : Requester) (data : Nat)
  /-- DRAINED (R368). DRAINED sets once no context is held and the commit unit is idle. -/
  | drained
  /-- ENGINE_FAULT (R370). A faulting engine abandons its uncommitted requests, drops its committed messages and sets ENGFLT. -/
  | engineFault (k : Nat) (reload : Bool)
  /-- CLS_WRITE (R353). The WRITE command copies the bank in force, places the window entry and schedules a bank swap. -/
  | clsWrite (req : Requester)
  /-- CLS_READ (R353). The READ command loads the window from the entry in force. -/
  | clsRead (req : Requester)
  /-- CLS_BANK_SWAP (R352). At the chosen tick the classifier banks swap. -/
  | clsBankSwap
  /-- PCNT_CLR (R346). The CLR command clears the pipeline drop counters. -/
  | pcntClr (req : Requester) (p : Nat)
  /-- NTS_REQUEST (R372). A service-1 pipeline processes an NTP or NTS request to a reply or an abandonment. -/
  | ntsRequest (id : Nat)
  /-- KEY_ROTATION (R381). Every PERIOD seconds a rotation derives a new master key position. -/
  | keyRotation
  /-- NTS_ROTATE (R381). The ROTATE command starts a rotation. -/
  | ntsRotate (req : Requester) (key : Nat)
  /-- ROTATION_SWITCH (R381). At the switch tick the old position becomes GRACE and the new one CURRENT. -/
  | rotationSwitch
  /-- ENCSLOT_RETIRE (R381). 1 ms after the switch the old ENCSLOT is retired. -/
  | encslotRetire
  /-- GRACE_EXPIRY (R382). A position in GRACE for GRACE seconds becomes EMPTY. -/
  | graceExpiry (p : Nat)
  /-- SKETCH_SWEEP (R392). Every 62.5 ms each rate-sketch counter is lowered by RATE_min units. -/
  | sketchSweep
  /-- NTS_RESEED (R391). The RESEED command draws a new sketch key and clears every counter. -/
  | ntsReseed (req : Requester) (key : Nat)
  /-- DRBG_RESEED (R379). Every 2²⁰ requests the nonce DRBG is reseeded from the entropy source. -/
  | drbgReseed
  /-- NTS_CLRCNT (R387). The CLRCNT command clears every NTS counter. -/
  | ntsClrcnt (req : Requester)
  /-- NTS_KE_CONNECTION (R395). The firmware accepts an NTS-KE connection and serves one TLS 1.3 exchange, or refuses it at MAXCONN. -/
  | ntsKeConnection (c : Nat) (ev : KeEvent)
  /-- NTS_KE_IDLE_TIMEOUT (R395). An NTS-KE connection idle for 10 s is closed. -/
  | ntsKeIdleTimeout (c : Nat)
  /-- MG0_NTP_REQUEST (R397). The firmware answers an NTP or NTS request on MG0 with coarse stamps. -/
  | mg0NtpRequest (frame : List Byte)
  /-- PTP_MESSAGE (R401). A service-2 pipeline processes a received PTP message or abandons it with a reason. -/
  | ptpMessage (id : Nat)
  /-- STREAM_BUILD (R405). At NEXT minus the lead a Sync or Announce of a stream is built and scheduled. -/
  | streamBuild (uni : Option Nat) (n mt : Nat)
  /-- GRANT_EXPIRY (R408). A grant whose EXPIRY has passed is cleared when the scheduler or a lookup reaches it. -/
  | grantExpiry (slot : Nat)
  /-- BMCA_EVALUATION (R413). Every 125 ms the firmware re-evaluates the data sets and port states. -/
  | bmcaEvaluation
  /-- PTP_GREAD (R406). The READ command copies a grant entry into PTP_GWIN. -/
  | ptpGread (req : Requester)
  /-- PTP_GINVAL (R408). The INVAL command clears one grant entry at the next commit slot. -/
  | ptpGinval (req : Requester) (key : Nat)
  /-- PTP_GFLUSH (R408). The FLUSH command clears every grant entry. -/
  | ptpGflush (req : Requester) (key : Nat)
  /-- KVT_DERIVE (R427). The DERIVE operation derives a slot's key from its parent with a new context. -/
  | kvtDerive (req : Requester) (data : Nat)
  /-- KVT_INVAL (R437). The INVAL operation makes a slot INVALID and its descendants STALE. -/
  | kvtInval (req : Requester) (data : Nat)
  /-- KVT_IMPORT (R433). The IMPORT operation unwraps 64 bytes of key material into a slot. -/
  | kvtImport (req : Requester) (data : Nat)
  /-- KVT_EXPORT (R434). The EXPORT operation writes the wrap of a slot for a certified vault. -/
  | kvtExport (req : Requester) (data : Nat)
  /-- KVT_AGREE (R431). The AGREE operation keys a WRAP slot by ECDH with a peer's public key. -/
  | kvtAgree (req : Requester) (data : Nat)
  /-- KVT_SIGN (R430). The SIGN operation signs a digest with an ENC slot. -/
  | kvtSign (req : Requester) (data : Nat)
  /-- KVT_PUBKEY (R430). The PUBKEY operation writes the public key of an ENC slot. -/
  | kvtPubkey (req : Requester) (data : Nat)
  /-- VAULT_UPDATE (R443). A queued update runs its two journal phases and makes its effects visible together. -/
  | vaultUpdate (phase2 : Bool)
  /-- SHARE_REFRESH (R435). Every 1 ms the vault draws fresh shares and checks each stored key. -/
  | shareRefresh (failed : List Nat)
  /-- HOLDUP_TEST (R445). At power-on and every 24 h the vault tests its hold-up and sets HOLDFLT if short. -/
  | holdupTest (projected : Nat)
  /-- KVT_ZEROISE (R446). The ZEROISE command with KEY starts zeroise. -/
  | kvtZeroise (req : Requester) (key : Nat)
  /-- DBG_EN_SET (R448). Setting DBG_EN through JTAG substitutes the test root and rederives every slot. -/
  | dbgEnSet
  /-- HELLO_RECORD (R455). A received HELLO record gives the twin's serial, role, state and digests. -/
  | helloRecord (lane : Nat) (bytes : List Byte)
  /-- PPSM_RECORD (R466). A received PPSM record gives the twin's m, from which x and d are formed. -/
  | ppsmRecord (lane : Nat) (bytes : List Byte)
  /-- HEALTH_RECORD (R468). A received HEALTH record gives the twin's verdict and self bound. -/
  | healthRecord (lane : Nat) (bytes : List Byte)
  /-- BOUND_RECORD (R477). A received BOUND record gives the active's bound for the standby's ERRB. -/
  | boundRecord (lane : Nat) (bytes : List Byte)
  /-- RESULT_JOURNAL_RECORD (R462). A received RESULT record holds a result for replay. -/
  | resultJournalRecord (lane : Nat) (bytes : List Byte)
  /-- UPDATE_RECORD (R462). A received UPDATE record makes the standby perform one SRV0 update in step. -/
  | updateRecord (lane : Nat) (bytes : List Byte)
  /-- SELECT_RECORD (R462). A received SELECT record sets the standby's journaled selection, state and build-out. -/
  | selectRecord (lane : Nat) (bytes : List Byte)
  /-- LEAP_RECORD (R463). A received LEAP record replaces the standby's UTC offset state. -/
  | leapRecord (lane : Nat) (bytes : List Byte)
  /-- DIGEST_RECORD (R462). A received DIGEST is compared with the standby's own once ASEQ is applied. -/
  | digestRecord (lane : Nat) (bytes : List Byte)
  /-- PARAM_RECORD (R462). A received PARAM record sets the standby's journaled SRV0 parameters. -/
  | paramRecord (lane : Nat) (bytes : List Byte)
  /-- SRVSTATE_RECORD (R464). A received SRVSTATE record loads the standby's SRV0 state. -/
  | srvstateRecord (lane : Nat) (bytes : List Byte)
  /-- GRANT_RECORD (R463). A received GRANT record updates the standby's grant table. -/
  | grantRecord (lane : Nat) (bytes : List Byte)
  /-- NTSKEY_RECORD (R463). A received NTSKEY record drives the standby's NTS key positions. -/
  | ntskeyRecord (lane : Nat) (bytes : List Byte)
  /-- SNAP_RECORD (R464). A received SNAP record begins or ends a snapshot load during SYNC. -/
  | snapRecord (lane : Nat) (bytes : List Byte)
  /-- VREQ_RECORD (R467). A received VREQ opens a verdict exchange and triggers a self-check. -/
  | vreqRecord (lane : Nat) (bytes : List Byte)
  /-- VERDICT_RECORD (R469). A received VERDICT completes an exchange, which is ranked and settled. -/
  | verdictRecord (lane : Nat) (bytes : List Byte)
  /-- SWAP_RECORD (R475). A received SWAP names boundary N and is answered SWAPOK or SWAPNO. -/
  | swapRecord (lane : Nat) (bytes : List Byte)
  /-- ACK_RECORD (R461). A received ACK names the first missing SEQ and triggers retransmission. -/
  | ackRecord (lane : Nat) (bytes : List Byte)
  /-- TAKE_RECORD (R471). A received TAKE reverses the journal and makes the receiver standby. -/
  | takeRecord (lane : Nat) (bytes : List Byte)
  /-- KEYX_RECORD (R465). A received KEYX carries a certificate or wrapped key for the pair re-key. -/
  | keyxRecord (lane : Nat) (bytes : List Byte)
  /-- HELLO_SEND (R460). Every 1 ms each unit sends a HELLO record. -/
  | helloSend
  /-- HEALTH_SEND (R460). Every 1 ms each unit sends a HEALTH record. -/
  | healthSend
  /-- BOUND_SEND (R460). Every 16 µs the active sends a BOUND record. -/
  | boundSend
  /-- DIGEST_SEND (R462). At each millisecond tick the active sends a DIGEST record. -/
  | digestSend
  /-- ACK_SEND (R461). Every 100 µs, and on a gap, a unit sends an ACK record. -/
  | ackSend
  /-- PPI_EDGE (R453). A rising PPI edge is stamped and its level sampled 200 µs later to read the twin's role. -/
  | ppiEdge (half code kStop : Nat) (active : Bool)
  /-- PPI_STALE (R466). With no x for 2 s the comparison is stale and PPSFLT sets. -/
  | ppiStale
  /-- SEEK_EVALUATION (R455). Every 1 ms a unit in SEEK decides whether to join, become active or wait. -/
  | seekEvaluation (alertLow : Bool)
  /-- HOME_RANDOM_WAIT (R456). The random wait of 1 to 8 s ends and the unit becomes active or returns to SEEK. -/
  | homeRandomWait
  /-- JOURNAL_GAP_TIMEOUT (R461). A gap unfilled after 100 µs sets JGAP and returns the standby to JOIN. -/
  | journalGapTimeout
  /-- SELF_CHECK (R468). Each second a unit forms its verdict from its own channels and atomic check. -/
  | selfCheck
  /-- DISPUTE_EXCHANGE (R470). Every 1 s in DISPUTE the units exchange verdicts. -/
  | disputeExchange
  /-- TWIN_LOST (R469). Both lanes down for 500 ns with ALERT# held by the twin makes the standby take control. -/
  | twinLost (alertLow : Bool)
  /-- LANE_LOCK_LOSS (R458). A pair-link lane leaves block lock and the journal continues on the other lane. -/
  | laneLockLoss (lane : Nat)
  /-- WTR_EXPIRY (R474). A home standby CLEAN for WTR seconds makes the active schedule a swap. -/
  | wtrExpiry
  /-- SWAP_BOUNDARY (R475). At boundary N the roles change hitlessly and tied outputs are handed over. -/
  | swapBoundary
  /-- PAIR_SWAP (R474). The SWAP command requests a planned swap. -/
  | pairSwap (req : Requester) (key : Nat)
  /-- PAIR_RESYNC (R464). The RESYNC command makes the standby run SYNC again. -/
  | pairResync (req : Requester) (key : Nat)
  /-- ENSEMBLE_UPDATE (R480). Each second the peer ensemble of each group is formed from the reachable peers. -/
  | ensembleUpdate
  /-- MBX_DOORBELL (R486). The host rings the mailbox doorbell, submitting a request. -/
  | mbxDoorbell (req : Requester)
  /-- MBX_PING (R487). The PING operation echoes its payload. -/
  | mbxPing
  /-- MBX_VERSION (R487). The VERSION operation returns the firmware and boot ROM versions. -/
  | mbxVersion
  /-- MBX_ADDR_SET (R487). The ADDR_SET operation installs a served address. -/
  | mbxAddrSet
  /-- MBX_ADDR_GET (R487). The ADDR_GET operation returns an address slot. -/
  | mbxAddrGet
  /-- MBX_KE_CERT (R487). The KE_CERT operation installs the NTS-KE certificate chain. -/
  | mbxKeCert
  /-- MBX_PTP_DS (R487). The PTP_DS operation returns a PTP data set. -/
  | mbxPtpDs
  /-- MBX_NAV (R487). The NAV operation restarts the survey or sets the position. -/
  | mbxNav
  /-- MBX_LOG (R487). The LOG operation writes the firmware log to SRAM. -/
  | mbxLog
  /-- MBX_RESPONSE (R486). The firmware posts its response and sets S2HVALID. -/
  | mbxResponse
  /-- WDOG_KICK (R485). A supervisor core kicks the watchdog, restarting its period. -/
  | wdogKick (req : Requester)
  /-- WDOG_EXPIRY (R485). The watchdog expires, ending the start attempt or making a restart with STOP 0x07. -/
  | wdogExpiry
  /-- FIRMWARE_FATAL (R485). The firmware reports a fatal error, handled as a watchdog expiry with STOP 0x08. -/
  | firmwareFatal (code : Nat)
  /-- LOCKED_SEQUENCE (R493). A locked read-then-write holds an SRAM target for one master. -/
  | lockedSequence (m addr n : Nat) (write : Option (List Byte))
  /-- LOCK_TIMEOUT (R494). 64 cycles after a locked read the lock is released and the late write will end LOCKTO. -/
  | lockTimeout (t : Nat)
  /-- MASTER_RESET (R495). A reset master's converter completes its burst, releases its lock and aborts its next access. -/
  | masterReset (m : Nat) (inFlight : Bool)
  /-- SRAM_SCRUB (R498). Each microsecond the scrubber reads and corrects one line of every powered bank. -/
  | sramScrub (found : List (Nat × Bool))
  /-- PCIE_LINK_RESET (R504). A link fall, hot reset, PERST# or FLR resets the PCI domain and disables every ring. -/
  | pcieLinkReset (k : LinkReset)
  /-- PCIE_LINK_UP (R557). When the link returns, one message is sent for each vector with a pending enabled event. -/
  | pcieLinkUp (speed width : Nat)
  /-- ATOMIC_OP (R502). A PCIe AtomicOp to BAR2 is completed as a locked sequence. -/
  | atomicOp (k : AtomicKind) (space : Space) (n addr a b : Nat) (late : Bool)
  /-- XBR_HWIN_WRITE (R501). A supervisor write of XBR_HWIN opens or closes SRAM banks to the host. -/
  | xbrHwinWrite (req : Requester) (data : Nat)
  /-- PWR_REQ_WRITE (R512). A write of REQ requests a sleep state or wake for a domain. -/
  | pwrReqWrite (req : Requester) (d value : Nat)
  /-- SLEEP_ENTRY_BEGIN (R513). When its condition holds, a waiting domain begins entry to S2 or S3. -/
  | sleepEntryBegin (d : Nat)
  /-- SLEEP_REQUEST_WITHDRAWN (R512). A request still waiting after 10 ms is withdrawn and REFUSED set. -/
  | sleepRequestWithdrawn (d : Nat)
  /-- SLEEP_ENTRY_COMPLETE (R513). The clock stops and the rail drops, and the domain reaches its sleep state. -/
  | sleepEntryComplete (d : Nat)
  /-- DOMAIN_WAKE (R514). An access or other source wakes a sleeping domain and records the wake. -/
  | domainWake (d src master : Nat)
  /-- WAKE_STALL_END (R516). The wake stall ends, clamps release and retention checks begin. -/
  | wakeStallEnd (d : Nat)
  /-- RETENTION_CHECK_DONE (R516). A retention bank's check completes and a failed bank is invalidated. -/
  | retentionCheckDone (d bank : Nat) (ok : Bool)
  /-- PLVL_WRITE (R510). A write of PLVL starts a change of a quarter's performance level. -/
  | plvlWrite (req : Requester) (d level : Nat)
  /-- PLVL_CHANGE_DONE (R510). The rail ramp and clock switch complete and the new level is in force. -/
  | plvlChangeDone (d : Nat)
  /-- PMU_COUNTER_OVERFLOW (R525). A counter passes from 0xFFFF_FFFF to 0 and flags its overflow. -/
  | pmuCounterOverflow (set : PmuSet) (j n : Nat)
  /-- PMU_COUNTER_WRITE (R526). A write to a counter or its control takes effect at its next event boundary. -/
  | pmuCounterWrite (req : Requester) (set : PmuSet) (j : Nat) (ctl : Bool) (data : Nat)
  /-- PMU_FREEZE_WRITE (R527). Setting or clearing FREEZE stops or restarts every counter at its next boundary. -/
  | pmuFreezeWrite (req : Requester) (on : Bool)
  /-- PMU_CLRALL (R535). The CLRALL command clears every counter, overflow bit and the sample ring. -/
  | pmuClrall (req : Requester)
  /-- PRECISE_SAMPLE_TAG (R532). Every PERIODth retired instruction is tagged at issue, or skipped if the engine holds a tag. -/
  | preciseSampleTag (k : Nat)
  /-- PRECISE_SAMPLE_RECORD (R533). A tagged instruction retires and its sample record is written to the ring. -/
  | preciseSampleRecord (k pc insn thread lat flags ctx : Nat)
  /-- PMU_SR_CONS_WRITE (R534). A write of the sample ring consumer index consumes records. -/
  | pmuSrConsWrite (req : Requester) (value : Nat)
  /-- KEY_SAMPLE (R537). Every 1 ms the keys are sampled and debounced presses and releases are reported. -/
  | keySample (low : Nat) (zeroA zeroB : Bool)
  /-- KEY_HOLD (R537). A press lasting HOLD ms sets KHOLD once. -/
  | keyHold (k : Nat)
  /-- TOUCH_SAMPLE (R539). Every 1 ms each electrode is measured, its baseline tracked and touches reported. -/
  | touchSample (caps : List Nat)
  /-- TOUCH_TIMEOUT (R539). A touch lasting 60 s is reported as released and the baseline reset. -/
  | touchTimeout (t : Nat)
  /-- LED_UPDATE (R540). Every 1 ms each LED driver's lit state is updated from its source and blink pattern. -/
  | ledUpdate
  /-- LEDOPEN (R541). A lit driver at its compliance limit for 10 ms sets LEDOPEN. -/
  | ledopen (n : Nat)
  /-- ZEROISE_COUNT_COMPLETE (R543). Both zeroise balls asserted for ZHOLD sets ZSTART and starts zeroise. -/
  | zeroiseCountComplete
  /-- ZFAULT (R544). Exactly one zeroise ball asserted for 1 s sets ZFAULT. -/
  | zfault
  /-- EVT_SWSET (R558). A write of EVT_SWSET raises a software event for each bit set. -/
  | evtSwset (req : Requester) (bits : Nat)
  /-- SIGNAL_INSTRUCTION (R558). An engine thread's signal instruction raises a software event. -/
  | signalInstruction (engine k : Nat)
  /-- EVT_TIMER_ARM (R559). Writing EN of a timer arms it with its target, raising at once if already past. -/
  | evtTimerArm (req : Requester) (n sec ns per : Nat)
  /-- EVT_TIMER_EXPIRY (R559). Disciplined time reaches a timer's target and the timer raises its event. -/
  | evtTimerExpiry (n : Nat)
  /-- EVT_QCONS_WRITE (R556). A write of the event queue consumer index consumes records or is discarded. -/
  | evtQconsWrite (req : Requester) (side value : Nat)
  /-- EVT_EN_WRITE (R555). Setting EN of a pending event sends a message without a record. -/
  | evtEnWrite (req : Requester) (side group value : Nat)
  /-- SNAPSHOT_READ (R18). A read of the lowest word of a multi-word value captures the requester's snapshot. -/
  | snapshotRead (req : Requester) (space : Space) (off : Nat)
  /-- REGISTER_WRITE (R11). A write to a register without behaviour of its own takes effect under the access types. -/
  | registerWrite (req : Requester) (space : Space) (off data be : Nat)
  /-- PL0_BLOCK_LOCK (R458). A pair-link lane regains block lock, so the journal returns to both lanes, LANE1 clears and HELLO exchange can resume. -/
  | pl0BlockLock (lane : Nat)
  /-- MG0_LINK_CHANGE (R315). MG0 auto-negotiation brings the management link up or down, setting LINKUP or LINKDN and SPEED in PRT_MG_STAT. -/
  | mg0LinkChange (speed : Nat)
  /-- PAUSE_END (R338). An honoured pause runs out and the gate again admits held frames and starts frames at its start positions. -/
  | pauseEnd (n : Nat)
  /-- DELAY_REQ_SEND (R418). At the interval the master advertises, the PTP upstream channel sends an unappointed Delay_Req or Pdelay_Req and takes t3 from its transmit record. -/
  | delayReqSend (peer : Option Nat)
  /-- GRANT_REQUEST_SEND (R478). The firmware sends or renews REQUEST_UNICAST_TRANSMISSION for Sync and Delay_Resp grants to an enabled peer at PEER_CFG.LOGINT. -/
  | grantRequestSend (k : Nat)
  /-- PEER_REACH_TIMEOUT (R479). A peer with no offset formed within 4 Sync intervals ceases to be reachable, REACH clears and LOST sets. -/
  | peerReachTimeout (k : Nat)
  /-- UTC_SOURCE_EXPIRY (R236). A non-host offset source that has not reported for 86,400 s stops counting, which may change the followed source and cancel a pending change. -/
  | utcSourceExpiry (src : Nat)
  /-- PCI_LOW_POWER_ENTRY (R512). The PCI domain enters S1 by itself when the link enters L1 or the function enters D3hot. -/
  | pciLowPowerEntry
  /-- NTS_KE_CERT_EXPIRY (R561). The firmware finds the NTS-KE server certificate within 30 days of expiry and raises EV47 with cause 3. -/
  | ntsKeCertExpiry (seconds : Nat)
  deriving DecidableEq, Repr

end Sys2Proof
end

