-- ==== Sys2Proof/Config.lean ====
section
/-! DEFINITION. What one module fixes and the spec leaves open: constants with no body, so that no proof can see their
values (notes/assumptions/2.md lists them): identities, keys, cryptographic primitives and free values. -/

namespace Sys2Proof.Config

/-- GLB_SERIAL: the module's serial number, fixed at manufacture (spec/22_events.md, GLB_SERIAL). -/
opaque serial : Nat

/-- GLB_MAC: the base MAC address as 48 bits, octet 0 lowest (spec/22_events.md, GLB_MAC_LO). -/
opaque mac : Nat

/-- SUP_PCIID.VID: the vendor ID of the endpoint (spec/18_system.md, SUP_PCIID). -/
opaque pciVid : Nat

/-- The SHA-384 digest of the root public key that the boot ROM holds (R94). -/
opaque rootDigest : List Byte

/-- The device root in the vault's fuses (R422). -/
opaque deviceRoot : List Byte

/-- The `n`-th value the spec leaves open (undefined, random or not stated); the state counts them. -/
opaque freeNat : Nat → Nat

/-- SHA-384 (R94). -/
opaque sha384 : List Byte → List Byte

/-- SHA-256. -/
opaque sha256 : List Byte → List Byte

/-- ECDSA over P-384 with SHA-384: public point, message, signature (R94). -/
opaque ecdsaVerify : List Byte → List Byte → List Byte → Bool

/-- ECDSA signature r ‖ s: curve (0 P-256, 1 P-384), private scalar, digest, nonce seed (R430). -/
opaque ecdsaSign : Nat → Nat → List Byte → Nat → List Byte

/-- The public point X ‖ Y of a private scalar: curve, scalar (R430). -/
opaque publicPoint : Nat → Nat → List Byte

/-- The x-coordinate of the ECDH product on P-384 of a scalar and a peer's point; none where the point is not on the curve
(R431). -/
opaque ecdh : Nat → List Byte → Option (List Byte)

/-- AES-256-GCM decryption: key, nonce, associated data, message, tag (R96). -/
opaque gcmOpen : List Byte → List Byte → List Byte → List Byte → List Byte → Option (List Byte)

/-- AES-SIV seal: key, associated data, plaintext; the tag comes first (spec/14_nts.md). -/
opaque sivSeal : List Byte → List (List Byte) → List Byte → List Byte

/-- AES-SIV open; none where the tag fails. -/
opaque sivOpen : List Byte → List (List Byte) → List Byte → Option (List Byte)

/-- HMAC-SHA-256 (spec/15_ptp.md and spec/16_vault.md). -/
opaque hmac : List Byte → List Byte → List Byte

/-- The test root of R448, the same in every module. -/
opaque testRoot : List Byte

/-- Key wrap of R433 and R434: wrapping key, material. -/
opaque keyWrap : List Byte → List Byte → List Byte

/-- Key unwrap; none where the check fails. -/
opaque keyUnwrap : List Byte → List Byte → Option (List Byte)

/-- One step of the recursive least squares of R206: fit state, inputs (ten temperatures, mean load, lagged load), fitted
quantity; the new fit state, whose first twelve entries are the coefficients. The spec gives neither the first covariance
nor the arithmetic. -/
opaque rlsStep : List Rat → List Rat → Rat → List Rat

/-- The factory thermal lag of each die sensor in seconds, 8 to 30 (R209). -/
opaque sensorLag : Nat → Rat

/-- The receiver's factory-calibrated group delay in ps for a dual-band (true) or single-band solution (R149). -/
opaque groupDelay : Bool → Int

/-- I_cal of each UIN's sense bias in nA, factory-measured (R546). -/
opaque uinBias : Nat → Nat

/-- The factory value of an output's launch-to-ball latency in crumbs (R289). -/
opaque launchLatency : Nat → Int

/-- The clockIdentity of the home unit of a pair, in a unit that is not it (R419); no record carries it. -/
opaque homeClockId : List Byte

/-- The link-layer address that an IP address resolves to on a port: 48 bits. -/
opaque neighbour : Nat → List Byte → Nat

/-- IP header fields the spec does not give: 0 TOS or traffic class, 1 identification, 2 TTL or hop limit, 3 flow label. -/
opaque ipField : Nat → Nat

/-- The keyed 128-bit hash of the rate sketch (R391): number of the key drawn, row, prefix bits. -/
opaque sketchHash : Nat → Nat → Nat → Nat

/-- The public point X ‖ Y of the leaf certificate of a DER chain (R487, KE_CERT); none where the chain does not parse. -/
opaque leafKey : List Byte → Option (List Byte)

/-- The firmware log, newest last (R487, LOG), as it stands at a draw of a free value. -/
opaque firmwareLog : Nat → List Byte

/-- The engine code version and the boot ROM version that VERSION returns (R487). -/
opaque engineVersion : Nat
opaque bootRomVersion : Nat

end Sys2Proof.Config
end

