-- ==== Sys2Proof/Machine/Bytes.lean ====
section
/-! DEFINITION. Byte lists: byte order, slices, CRCs (R8, R42, R92), and the vault's key derivation (R427). -/

namespace Sys2Proof.Machine

/-- Bytes given as numbers. -/
def bytesOf (l : List Nat) : List Byte := l.map (BitVec.ofNat 8)

/-- A byte list as a little-endian number (R8). -/
def leNat : List Byte → Nat
  | [] => 0
  | b :: t => b.toNat + 256 * leNat t

/-- A number as `n` little-endian bytes. -/
def leBytes : Nat → Nat → List Byte
  | 0, _ => []
  | n + 1, v => BitVec.ofNat 8 v :: leBytes n (v / 256)

/-- A byte list as a big-endian number. -/
def beNat (l : List Byte) : Nat := leNat l.reverse

/-- A number as `n` big-endian bytes. -/
def beBytes (n v : Nat) : List Byte := (leBytes n v).reverse

/-- `n` bytes of a list from an offset, with zeros past its end. -/
def sliceB (l : List Byte) (off n : Nat) : List Byte :=
  let t := (l.drop off).take n
  t ++ List.replicate (n - t.length) 0

/-- A little-endian field of a byte list. -/
def leAt (l : List Byte) (off n : Nat) : Nat := leNat (sliceB l off n)

/-- A big-endian field of a byte list. -/
def beAt (l : List Byte) (off n : Nat) : Nat := beNat (sliceB l off n)

/-- Replace bytes of a list from an offset. -/
def putAt (l : List Byte) (off : Nat) (b : List Byte) : List Byte := l.take off ++ b ++ l.drop (off + b.length)

/-- One step of a most-significant-first CRC of 16 bits. -/
def crc16Bit (c : Nat) : Nat := if c < 0x8000 then c * 2 else (c * 2 % 0x10000) ^^^ 0x1021

/-- CRC-16 of R42: polynomial 0x1021, initial value 0xFFFF, no reflection, no final XOR. -/
def crc16 (l : List Byte) : Nat :=
  l.foldl (fun c b => Nat.repeat crc16Bit 8 (c ^^^ (b.toNat * 256))) 0xFFFF

/-- One step of the reflected CRC-32C. -/
def crc32Bit (c : Nat) : Nat := if c % 2 = 0 then c / 2 else (c / 2) ^^^ 0x82F63B78

/-- CRC-32C of R92: Castagnoli, reflected, initial and final value all ones. -/
def crc32c (l : List Byte) : Nat :=
  l.foldl (fun c b => Nat.repeat crc32Bit 8 (c ^^^ b.toNat)) 0xFFFFFFFF ^^^ 0xFFFFFFFF

/-- ASCII "ROOT", "RCPK", "IDNT", "STOR", "YSKV", "NTSM" and "KCHK". -/
def ascRoot : List Byte := bytesOf [0x52, 0x4F, 0x4F, 0x54]
def ascRcpk : List Byte := bytesOf [0x52, 0x43, 0x50, 0x4B]
def ascIdnt : List Byte := bytesOf [0x49, 0x44, 0x4E, 0x54]
def ascStor : List Byte := bytesOf [0x53, 0x54, 0x4F, 0x52]
def ascYskv : List Byte := bytesOf [0x59, 0x53, 0x4B, 0x56]
def ascNtsm : List Byte := bytesOf [0x4E, 0x54, 0x53, 0x4D]
def ascKchk : List Byte := bytesOf [0x4B, 0x43, 0x48, 0x4B]

/-- R427: the 64-byte key derived from a parent's key material under a 12-byte context. -/
def kdf (parent ctx : List Byte) : List Byte :=
  let k := fun (i : Nat) => Config.hmac parent (beBytes 4 i ++ ascYskv ++ [0] ++ ctx ++ beBytes 4 512)
  k 1 ++ k 2

/-- The contexts of slots 0 and 1 (R423): slot 0's holds the zeroise epoch. -/
def rootCtx (zepoch : Nat) : List Byte := ascRoot ++ leBytes 4 zepoch ++ leBytes 4 0
def rcpCtx : List Byte := ascRcpk ++ leBytes 8 0

end Sys2Proof.Machine
end

