-- ==== Sys2Proof/Machine/Parts.lean ====
section
/-! DEFINITION. The parts of the state that no register shows, one structure per block, and what the block sends out. All of it
is plain data. -/

namespace Sys2Proof.Machine

/-- A discipline pair (spec/08_timescale.md; token layout R43): `rate` in ppq, `offset` the DTIME at the anchor as one count
of 2⁻¹⁶ ns units since the epoch (R24), `anchor` and `commit` raw ticks, `step` the step S in the same units. -/
structure Pair where
  gen : Nat := 0
  rate : Int := 0
  offset : Nat := 0
  anchor : Nat := 0
  commit : Nat := 0
  step : Int := 0
  deriving DecidableEq, Repr

/-- One time-bus route's island (R47 to R55): the replica's distance from the forwarded tick count, the last good token's
TICK, the ERRB in use, the pairs the island holds, the generation the last token showed, and the round-trip filter. -/
structure Route where
  repOff : Int := 0
  awaitLoad : Bool := false
  lastTick : Nat := 0
  errb : Nat := 0xFFFFFFFF
  lost : Bool := false
  cur : Option Pair := none
  pend : Option Pair := none
  missing : Bool := false
  hold : Bool := false
  leap : Bool := false
  filter : Rat := 0
  nudge : Int := 0
  deriving DecidableEq, Repr

/-- The time bus: the islands by route number (entry 0 is unused), the routes that await a
calibration of the start or of a wake, in order. -/
structure TimeBusSt where
  routes : List Route := List.replicate 14 {}
  calQ : List Nat := []
  deriving DecidableEq, Repr

/-- Supply and reset (spec/02_module.md): AON powered, PGOOD, ALERT# held (R454), and the service ports, outputs and pair link stopped from driving (R72). -/
structure SupplySt where
  on : Bool := true
  pgood : Bool := false
  alert : Bool := true
  quiet : Bool := false
  deriving DecidableEq, Repr

/-- The start record's fields (R132). -/
structure StartRec where
  seq : Nat := 0
  attempts : Nat := 0
  prefRcp : Nat := 0
  prefFw : Nat := 0
  inStart : Bool := false
  stable : Bool := false
  strap00 : Bool := false
  starterReq : Bool := false
  warm : Bool := false
  starts : Nat := 0
  why : List Nat := [0, 0, 0, 0]
  lastSec : Nat := 0
  lastRcp : Nat := 0
  lastFw : Nat := 0
  stop : Nat := 0
  detail : Nat := 0
  rcpSerial : Nat := 0
  deriving DecidableEq, Repr

/-- One model set (R205 to R212): fit state (first twelve entries: c0 to c9, g0, g1), input means and their weight,
residuals of its last samples, map cells (index TBIN × 8 + LBIN: seconds, weighted sum of y_s, weight), daily means by day
number, the running day (day, seconds, weighted sum). -/
structure ModelSet where
  fit : List Rat := []
  means : List Rat := List.replicate 10 0
  weight : Rat := 0
  resid : List Rat := []
  map : List (Nat × (Nat × Rat × Rat)) := []
  days : List (Nat × Rat) := []
  day : Nat × Nat × Rat := (0, 0, 0)
  deriving DecidableEq, Repr

/-- One copy of the model store (R213): sequence number, both sets, D_n, σ_D,n in 10⁻¹⁸ per day and the counted days. -/
structure StoreCopy where
  seq : Nat
  sets : List ModelSet := [{}, {}]
  d : List Int := [0, 0]
  u : List Nat := [10000000, 200000000]
  days : List Nat := [0, 0]
  deriving DecidableEq, Repr

/-- One record of the vault's store (R425, R428, R437): PARENT and USE as derived, ORIGIN, context, KGEN, whether the slot is
INVALID, CERT, and the wrapped stored copy of an imported or agreed key. -/
structure KvtRec where
  slot : Nat
  parent : Nat
  use : Nat
  origin : Nat
  ctx : List Byte
  kgen : Nat
  invalid : Bool := false
  cert : Bool := false
  copy : List Byte := []
  deriving DecidableEq, Repr

/-- One NTS key position as the vault keeps it (R380, R384): state, generation, DTIME second of entry. -/
structure PosRec where
  state : Nat := 0
  gen : Nat := 0
  since : Nat := 0
  deriving DecidableEq, Repr

/-- The vault's store (R441, R442, R447): slot records, position records, the second of the next rotation, and the journal (the
undo entries and positions of an update in phase 2, with its SEQ). -/
structure KvtStore where
  recs : List KvtRec := []
  pos : List PosRec := List.replicate 4 {}
  nextRot : Nat := 0
  seq : Nat := 0
  undo : Option (List (Nat × Option KvtRec) × List PosRec × Nat) := none
  deriving DecidableEq, Repr

/-- The vault's non-volatile memory outside the slots: the two copies of the start record (none where a copy's CRC is not
valid), the customer pin, the two rollback floors (R95, R128, R132) and the two copies of the model
store in flash, whose byte layout the spec does not give (R213; notes/assumptions/10.md), the vault's production and test
stores (R448) and its zeroise epoch fuses (R447). -/
structure NvSt where
  recA : Option StartRec := none
  recB : Option StartRec := none
  pin : Nat := 0
  floor : Nat := 0
  fwFloor : Nat := 0
  storeA : Option StoreCopy := some { seq := 0 }
  storeB : Option StoreCopy := some { seq := 1 }
  kvt : KvtStore := {}
  kvtTest : KvtStore := {}
  zepoch : Nat := 0
  zepMax : Bool := false
  deriving DecidableEq, Repr

/-- The attempt in progress (R129, R130): starter mode, warm, deadline tick, sampled limit, banks tried and the codes of
banks that failed first, and the tick the start completed. -/
structure BootSt where
  starter : Bool := false
  warm : Bool := false
  deadline : Nat := 0
  rcpTry : Nat := 0
  rcpFail : Option Nat := none
  fwTry : Nat := 0
  fwFail : Option Nat := none
  complete : Option Nat := none
  lastSecAt : Nat := 0
  deriving DecidableEq, Repr

/-- An action on a bank that runs (R124): `fw` tells a firmware bank. -/
inductive BankAction
  | check (bank : Nat)
  | reload (bank : Nat)
  | prefer (fw : Bool) (bank : Nat)
  | prog (fw : Bool) (bank : Nat) (src len : Nat)
  deriving DecidableEq, Repr

/-- A LIVE commit in progress (R121): commit tick, attempt, islands still to acknowledge, the LIVE sections to switch. -/
structure LiveSt where
  c : Nat
  attempt : Nat
  missing : List Nat
  sections : List (Nat × List Byte)
  deriving DecidableEq, Repr

/-- The recipe: the running image's sections by TYPE (decrypted payloads) and its bytes, the running action, banks left
unusable by programming (recipe 0 and 1, firmware 2 and 3), the LIVE commit, the blocks a reload keeps quiesced (0x100 + reference
channel, 0x200 + output, 0x300 + port, 0x400 + servo instance, 0x500 the cluster), the fields locked (offset and mask), and the
values that the fields of SVC had before its latest LIVE switch and the tick of that, for requests stamped before it (R122). -/
structure RcpSt where
  sections : List (Nat × List Byte) := []
  image : List Byte := []
  bank : Nat := 0
  action : Option BankAction := none
  unusable : List Nat := []
  live : Option LiveSt := none
  held : List Nat := []
  locks : List (Nat × Nat) := []
  oldSvc : List Nat := []
  switchTick : Nat := 0
  deriving DecidableEq, Repr

/-- A register access that waits (R17): who, where, the value and byte enables of a write, none for a read. -/
structure Access1 where
  req : Requester
  off : Nat
  write : Option (Nat × Nat) := none
  deriving DecidableEq, Repr

/-- One power domain (R510 to R518): the tick a request began to wait, a wake asked for during entry (source, master), the tick the
wake began, the tick entry completed, a level held, the banks whose check runs, the state being entered, the level a change that
runs leads to, and the accesses that wait for the domain or a bank's check. -/
structure DomSt where
  waitSince : Nat := 0
  wakePending : Option (Nat × Nat) := none
  wakeStart : Option Nat := none
  sleepStart : Nat := 0
  heldPlvl : Option Nat := none
  checking : List Nat := []
  target : Nat := 0
  toLevel : Nat := 0
  stalled : List Access1 := []
  deriving DecidableEq, Repr

/-- An event record (R553) without its reserved bytes. -/
structure EvRec where
  ev : Nat := 0
  bit : Nat := 0
  inst : Nat := 0
  seq : Nat := 0
  raw : Nat := 0
  detail : Nat := 0
  noraw : Bool := false
  deriving DecidableEq, Repr

/-- The two sides' record memories of 32 positions and sequence counters (R553, R556), and each timer's target in nanoseconds, as it
stood when EN was written (R559). -/
structure EvtSt where
  q0 : List EvRec := List.replicate 32 {}
  q1 : List EvRec := List.replicate 32 {}
  seq0 : Nat := 0
  seq1 : Nat := 0
  targets : List Nat := List.replicate 5 0
  deriving DecidableEq, Repr

/-- One servo instance (R225 to R234): integrator I and rate r in ppq, the updates in a row inside LOCKLIM, inside 4 × LOCKLIM
and outside 4 × LOCKLIM, MODE 2's phase state, the shadow phase integral in ps, the tick of the latest update, its e and e − φ in ps and
ŷ, the committed rates of SRV0 with the tick each took force (newest first, for the holdover average of R259), and the tick
of the last update that had a result, and the channel followed with the tick whose later results ŷ uses (R242). -/
structure SrvSt where
  i : Rat := 0
  r : Rat := 0
  run : Nat := 0
  near : Nat := 0
  bad : Nat := 0
  phaseState : Bool := false
  shadow : Rat := 0
  lastTick : Nat := 0
  lastE : Rat := 0
  lastEc : Rat := 0
  yhat : Rat := 0
  rates : List (Nat × Rat) := []
  lastResult : Nat := 0
  chan : Option Nat := none
  chanAt : Nat := 0
  deriving DecidableEq, Repr

/-- One UTC source's latest report (R236): offset, pending change (LEAP_SEC, deletion), DTIME second of the report, and the
second since which it has reported a different offset (R239). -/
structure UtcReport where
  offset : Int := 0
  change : Option (Nat × Bool) := none
  at_ : Nat := 0
  differs : Option Nat := none
  deriving DecidableEq, Repr

/-- The time scale (spec/08_timescale.md): pair in force, pending pair (true: the host's), the 16 latest pairs in force
(newest first), MAN changes that wait, whether SRV0 has locked, may step in this first ACQUIRE and has stepped in this ACQUIRE, the
four instances, the UTC source reports (1 host, 2 GNSS, 3 PTP, 4 IRIG-B), and a SETOFF that waits for its second. -/
structure HrtSt where
  cur : Pair := {}
  pend : Option (Pair × Bool) := none
  history : List Pair := [{}]
  manSet : Bool := false
  manClear : Bool := false
  stopWait : Bool := false
  everLocked : Bool := false
  stepArmed : Bool := false
  stepDone : Bool := false
  srv : List SrvSt := List.replicate 4 {}
  reports : List (Nat × UtcReport) := []
  setoff : Option (Nat × Int) := none
  deriving DecidableEq, Repr

/-- An address the firmware installs (R487, ADDR_SET): port, VLAN, four or sixteen address bytes, prefix length, service mask (bit
0 NTP, bit 1 NTS-KE, bit 2 PTP, bit 3 echo). -/
structure NetAddr where
  port : Nat
  vlan : Nat
  addr : List Byte
  plen : Nat
  mask : Nat
  deriving DecidableEq, Repr

/-- An access that waits for its SRAM target (R490, R493): master, address, bytes read; the operation of an AtomicOp with its two
operands, and whether its write comes too late; whether it is an ordinary access, and the bytes it then writes (none: a read). -/
structure XbarReq where
  master : Nat
  addr : Nat
  n : Nat
  atomic : Option (AtomicKind × Nat × Nat) := none
  late : Bool := false
  plain : Bool := false
  store : Option (List (Nat × Byte)) := none
  deriving DecidableEq, Repr

/-- The host interface and the supervisor (spec/18_system.md): the MSI-X table's words as a store of differences from their
reset values (vector control resets masked), the pending-bit array, the masters whose next access ends with RESETABORT
(R495), the watchdog's deadline, each target's lock (holder and tick of the grant), the locked sequences that wait and the
starvation counts (key 16 × target + master), the SRAM words that hold an uncorrectable error, the served addresses, the NTS-KE
certificate chain and whether its expiry was reported, the words of an answer to be posted, the cores that have asked for S2, and
whether the link is in L1 or the function in D3hot. -/
structure SysSt where
  msixTable : List (Nat × Nat) := []
  pba : Nat := 0
  aborts : List Nat := []
  wdogAt : Nat := 0
  locks : List (Nat × (Nat × Nat)) := []
  waits : List XbarReq := []
  starve : List (Nat × Nat) := []
  bad : List Nat := []
  addrs : List (Nat × NetAddr) := []
  keCert : List Byte := []
  keCertWarned : Bool := false
  answer : Option (List Nat) := none
  supS2 : List Nat := []
  lowPower : Bool := false
  deriving DecidableEq, Repr

/-- Performance monitoring (spec/20_pmu.md): the sample records that wait (oldest first), the next SEQ, and the engines that hold a
tag. -/
structure PmuSt where
  ring : List (List Byte) := []
  seq : Nat := 0
  tags : List Nat := []
  deriving DecidableEq, Repr

/-- A key (R537): samples in a row against its state, the tick it was pressed, and whether this press has reached HOLD. -/
structure KeySt where
  run : Nat := 0
  downAt : Nat := 0
  held : Bool := false
  deriving DecidableEq, Repr

/-- A touch electrode (R539): its baseline in units of 10 fF, the tick it was touched, whether this touch has reached HOLD, the
samples in a row out of range, and whether it is out of range under R539. -/
structure TouchSt where
  base : Option Rat := none
  downAt : Nat := 0
  held : Bool := false
  bad : Nat := 0
  fault : Bool := false
  deriving DecidableEq, Repr

/-- The panel (spec/21_panel.md): keys, electrodes, the samples in a row with both zeroise balls asserted and with exactly one, and
whether the present assertion has already completed its count, or set ZFAULT. -/
structure PnlSt where
  keys : List KeySt := List.replicate 8 {}
  touch : List TouchSt := List.replicate 4 {}
  zBoth : Nat := 0
  zOne : Nat := 0
  zDone : Bool := false
  zFaulted : Bool := false
  deriving DecidableEq, Repr

/-- A stamp that waits out its hold (R163): edge in sixteenths of a crumb, generation, edge index, tick taken, CALERR,
and its class under R144 (0 not yet judged, 1 accepted, 2 first of a run). -/
structure Held where
  at16 : Nat
  gen : Nat
  edge : Nat
  taken : Nat
  calErr : Bool
  cls : Nat := 0
  deriving DecidableEq, Repr

/-- A result delivered to qualification and the servos: value (ps of phase, or a fractional frequency), the raw instant in
crumbs of its stamp or gate end, the tick it was delivered, and whether it is a frequency. -/
structure Result1 where
  value : Rat
  stamp : Nat
  tick : Nat
  freq : Bool
  deriving DecidableEq, Repr

/-- A complete gate of a frequency channel (R181): y_raw, σ_r in crumbs, stamps, gate length in ms, closing tick. -/
structure GateRes where
  y : Rat
  sigma : Rat
  n : Nat
  ms : Nat
  tick : Nat
  deriving DecidableEq, Repr

/-- One reference channel beside its registers: presence hold, accepted edges, held stamps and IRIG-B's released stamps, IRIG and ESMC and PTP
indications, and its qualification (R144 to R165, R244 to R256); each of `xs` is an evaluation's x_c in ps, the mean stamp in
crumbs of its results, and its tick. -/
structure RefSt where
  presAt : Option Nat := none
  lastEdge : Option Nat := none
  prs : List Nat := []
  held : List Held := []
  msSum : Int := 0
  msCount : Nat := 0
  msStamp : Nat := 0
  good : Nat := 0
  failed : Nat := 0
  lastTime : Nat := 0
  announced : Option Bool := none
  extended : Bool := false
  qlOk : Bool := false
  heardAt : Nat := 0
  results : List Result1 := []
  gate : Option GateRes := none
  holdUntil : Nat := 0
  dqHist : List Nat := []
  qSince : Nat := 0
  qLen : Nat := 60
  evalAt : Nat := 0
  xs : List (Rat × Nat × Nat) := []
  ys : List (Rat × Nat) := []
  yD : Option Rat := none
  sigY : Rat := 0
  yT : Option Rat := none
  quiet : Nat := 0
  driftQuiet : Nat := 0
  softAt : Nat := 0
  phaseSoft : Bool := false
  twinClass : Nat := 15
  deriving DecidableEq, Repr

/-- A JUDGED channel (R256): the servo instance whose selection judged it, the channel, the other one, and the tick since
which the two have agreed. -/
structure Judge where
  inst : Nat
  chan : Nat
  other : Nat
  since : Nat
  deriving DecidableEq, Repr

/-- The references together: GNSS strobe that waits for its solution (sixteenths), held position, survey seconds left, last fix
tick, antenna short and retry times, the selected channel per servo (SRV0 and SRV3), the build-out φ in ps,
the channel it was formed for, U_ref of the channel SRV0 last followed (R263), the JUDGED channels, the disagreement's start, the tick of the last disagreement, and the
low words of nominal frequencies that wait for their high words. -/
structure SelSt where
  strobe : Option Nat := none
  posHeld : Bool := false
  surveyLeft : Nat := 3600
  lastFix : Nat := 0
  shortSince : Option Nat := none
  retryAt : Nat := 0
  sel : Option Nat := none
  sel3 : Option Nat := none
  phi : Rat := 0
  phiFor : Option Nat := none
  lastU : Nat := 0
  judged : List Judge := []
  disagSince : Nat := 0
  agreeSince : Nat := 0
  nomLow : List (Nat × Nat) := []
  deriving DecidableEq, Repr

/-- A holdover segment (R257, R263): set in use, start tick, rate in force there, and the terms fixed at its start. -/
structure Segment where
  hset : Nat
  start : Nat
  rs : Rat
  y0 : Rat
  deriving DecidableEq, Repr

/-- An open carry (R262): start tick, U_CARRY, the frequency-only channel's rate of growth (none in holdover), σ_y0, the
integrals of σ_TEMP and σ_LOAD in seconds, the set, y_O at its start for R264, and the tick up to which the integrals are formed. -/
structure Carry where
  tc : Nat
  u0 : Nat
  freq : Option Rat
  sy0 : Rat
  iTemp : Rat
  iLoad : Rat
  hset : Nat
  yO : Rat
  upTo : Nat
  deriving DecidableEq, Repr

/-- The error-bound unit (R261 to R269): the direct terms in the order of R261, the open carry, the holdover segment, the
port asymmetry and pair terms, whether SRV0 has ever left FREE, and the latest breakdown record. -/
structure BoundSt where
  terms : List Nat := List.replicate 8 0xFFFFFFFF
  carry : Option Carry := none
  seg : Option Segment := none
  traced : Bool := false
  record : List Byte := []
  tokenErrb : Nat := 0xFFFFFFFF
  deriving DecidableEq, Repr

/-- One interpolator half (R170 to R173): its codes c1 and c2 where it holds a pair, the tick it took them, and its last
passing pair, and whether the pair it holds failed its check (R173). -/
structure Half where
  pair : Option (Nat × Nat × Nat) := none
  passing : Option (Nat × Nat) := none
  bad : Bool := false
  deriving DecidableEq, Repr

/-- The exact sums of a regression (R181): N, Σn, Σt, Σn², Σnt, Σt². -/
structure Sums where
  n : Nat := 0
  sn : Nat := 0
  st : Int := 0
  snn : Nat := 0
  snt : Int := 0
  stt : Int := 0
  deriving DecidableEq, Repr

/-- A frequency gate (R181, R182): opening tick, length in ms, edge count at its opening, decimation, its sums, excluded
stamps, outlier limit, whether it excludes nothing, time base and its channel, and the second regression's sums (R186). -/
structure Gate where
  openTick : Nat
  ms : Nat
  first : Nat
  d : Nat
  sums : Sums := {}
  excl : Nat := 0
  lim : Nat
  free : Bool
  tb : Nat
  tbCh : Nat
  ext : Sums := {}
  deriving DecidableEq, Repr

/-- A stop that waits for its pairing window (R178): its instant in sixteenths of a crumb, START as it stood, CALERR. -/
structure Stop where
  at16 : Nat
  start : Nat
  taken : Nat
  calErr : Bool
  deriving DecidableEq, Repr

/-- One TDC channel beside its registers (R168 to R192): the halves, failed and passed pairs in a row, edge counter, the
latest stamps for interval pairing (sixteenths and tick taken), the open and the closing gate, the previous gate's line (a
in crumbs of RAW, b, and its first edge), stops that wait, record sequence, flags for the next record, the latest record,
the fraction against raw time of the latest complete gate with its stamp count, and the edge count at the last
millisecond. -/
structure TdcSt where
  h0 : Half := {}
  h1 : Half := {}
  fails : Nat := 0
  passes : Nat := 0
  edges : Nat := 0
  stamps : List (Nat × Nat) := []
  gate : Option Gate := none
  closing : Option Gate := none
  line : Option (Rat × Rat × Nat) := none
  stops : List Stop := []
  seq : Nat := 0
  missed : Bool := false
  calErr : Bool := false
  tbLoss : Bool := false
  record : List Byte := []
  yExt : Option Rat := none
  countAt : Nat := 0
  deriving DecidableEq, Repr

/-- The oscillators (spec/07_oscillators.md): instants of cell state entry and lock, of the oven's entry into and departure
from its window, sensor values (1/128 °C; errors in 0.1 mK) and failure counts, load, the two sets, the characteriser's
gates of the last 4,096 s, its discard, the tick of its latest gate, the 60 s history of the mean and sensors, and the rate term's end. -/
structure OscSt where
  stateAt : Nat := 0
  heatAt : Option Nat := none
  lockAt : Nat := 0
  leftLock : Option Nat := none
  ovenIn : Option Nat := none
  ovenOut : Option Nat := none
  ovenReached : Bool := false
  temps : List Int := List.replicate 10 0
  failCount : List Nat := List.replicate 8 0
  goodSince : List Nat := List.replicate 8 0
  quarters : List (Rat × Nat) := List.replicate 4 (0, 0)
  loadSum : Rat := 0
  lbar : Rat := 0
  h : Rat := 0
  sets : List ModelSet := [{}, {}]
  gates : List (Nat × Rat × Nat) := []
  sinceDiscard : Nat := 0
  discarded : Bool := true
  yat : Rat := 0
  frozenAt : Nat := 0
  hist : List (Nat × List Int) := []
  rateUntil : Nat := 0
  rateTerm : List Rat := [0, 0]
  deriving DecidableEq, Repr

/-- One synthesis unit (R272 to R282; entry 4 is the transmit synthesiser of R302): the reference edge index at which ACQUIRE
began, the tick of the latest gated relock, the phase line (unit periods `n0` at the disciplined instant `ps0` in ps, at
`freq` in units of 2⁻¹⁶ Hz), the tick of the next slew step, the tick COAST began, whether the accumulator restarts after
it, whether a slew has run since the last gated relock, and a low word of FREQ that waits. -/
structure UnitSt where
  ref0 : Int := 0
  relockTick : Nat := 0
  ps0 : Rat := 0
  n0 : Rat := 0
  freq : Rat := 0
  stepAt : Nat := 0
  coastAt : Nat := 0
  restart : Bool := false
  slewed : Bool := false
  low : Option Nat := none
  deriving DecidableEq, Repr

/-- One output (R283 to R297): released, the DIV, PARAM and PHASE in effect, the instant from which a boundary may release it,
a re-grid that waits (end of the running period, first boundary of the new grid), the boundary at which a cleared EN takes
its driver off, whether its next dwell is a first dwell, the tick of its latest release or gating, the pending alignment
target (count of 2⁻¹⁶ ns, launch in crumbs), the latest target emitted, and the latest line-start edge that set a target
(count of 2⁻¹⁶ ns), and the crumb of raw time at which the high phase that a gating or a cleared EN lets complete ends. Instants are
disciplined picoseconds. -/
structure OutSt where
  released : Bool := false
  div : Nat := 1
  param : Nat := 0
  phase : Int := 0
  relFrom : Option Rat := none
  regrid : Option (Rat × Rat) := none
  offAt : Option Rat := none
  first : Bool := true
  since : Nat := 0
  target : Option (Nat × Int) := none
  anchor : Option Nat := none
  lastSet : Option Nat := none
  highTo : Option Int := none
  deriving DecidableEq, Repr

/-- What a ring or queue is to deliver (R363): ring number (0 to 63 host-bound, 128 to 135 supervisor-bound queues), TYPE,
SRC, FLAGS, GEN, SSTAMP, ERRB and the bytes for the buffer. -/
structure RingItem where
  ring : Nat
  type : Nat
  src : Nat
  flags : Nat := 0
  gen : Nat
  sstamp : Nat := 0
  errb : Nat
  data : List Byte
  deriving DecidableEq, Repr

/-- One vault slot (R425): `key` is the XOR of its two shares, and `mask` names the free value that is the share (R435). -/
structure Slot where
  state : Nat := 0
  use : Nat := 0
  parent : Nat := 0
  depth : Nat := 0
  origin : Nat := 0
  cause : Nat := 0
  test : Bool := false
  cert : Bool := false
  label : Nat := 0
  ctx : List Byte := List.replicate 12 0
  kgen : Nat := 0
  uses : Nat := 0
  key : List Byte := []
  mask : Nat := 0
  deriving DecidableEq, Repr

/-- A vault request (KVT_OP): requester copy (9 for the NTS block), CODE (8 derives an NTS position, 9 stores the positions),
TREE, RAWPEER, SLOT, WSLOT, context, SRAM address, the position and generation of an NTS request, and what a request of the
pair link (10) carries in place of SRAM. -/
structure VaultReq where
  by_ : Nat
  code : Nat
  tree : Bool := false
  raw : Bool := false
  slot : Nat := 0
  wslot : Nat := 0
  ctx : List Byte := []
  addr : Nat := 0
  pos : Nat := 0
  gen : Nat := 0
  data : List Byte := []
  deriving DecidableEq, Repr

/-- The vault (spec/16_vault.md): the slots, the updates in request order, the key the front update has computed where its
phase 2 has begun, with whether it read a certificate, and the tick of the latest hold-up test. -/
structure KvtSt where
  slots : List Slot := List.replicate 256 {}
  queue : List VaultReq := []
  opened : Option (List Byte × Bool) := none
  stale : Bool := false
  holdTest : Nat := 0
  deriving DecidableEq, Repr

/-- A rotation that runs (R381): position, generation, and its switch tick once its slots are derived. -/
structure Rotation where
  pos : Nat
  gen : Nat
  switch : Option Nat := none
  deriving DecidableEq, Repr

/-- The NTS block beside its registers (spec/14_nts.md): positions, the rotation, the position whose ENCSLOT retires and when,
the rate sketch (counter index row × 65,536 + hash, level; unlisted counters are 0), the number of the sketch key, requests
since the DRBG was reseeded and the number of its seed, and the open NTS-KE connections with the tick each was last active,
and the ticks of the handshakes of the last second. -/
structure NtsSt where
  pos : List PosRec := List.replicate 4 {}
  rot : Option Rotation := none
  retire : Option (Nat × Nat) := none
  sketch : List (Nat × Nat) := []
  sketchKey : Nat := 0
  drbg : Nat := 0
  seed : Nat := 0
  conns : List (Nat × Nat) := []
  shakes : List Nat := []
  deriving DecidableEq, Repr

/-- A cipher-lane operation (R354, R355): the context it serves, an HMAC lane's, its slot if any and the use it needs, bytes
processed, the deadline in crumbs of a seal of an appointed message, and whether it is the message's seal. -/
structure LaneOp where
  ctx : Nat
  hmac : Bool
  slot : Option Nat
  use : Nat
  n : Nat
  deadline : Option Nat
  isSeal : Bool
  deriving DecidableEq, Repr

/-- A cipher lane: the operation it runs with its grant tick, STALE and REFUSED, and the slots whose schedules it caches. -/
structure Lane where
  op : Option (LaneOp × Nat) := none
  stale : Bool := false
  refused : Bool := false
  cache : List Nat := []
  deriving DecidableEq, Repr

/-- A port stamp record (R310): RAW in crumbs (on the island's replica), ERRB, GEN, FLAGS, PORT and TAG. -/
structure StampRec where
  raw : Nat := 0
  errb : Nat := 0xFFFFFFFF
  gen : Nat := 0
  flags : Nat := 0
  port : Nat := 0
  tag : Nat := 0
  deriving DecidableEq, Repr

/-- Whose frame a port sends: an engine-bound ring's or queue's descriptor, a context's message, or the port's or firmware's
own. -/
inductive TxSrc
  | ring (r idx : Nat)
  | ctx (id : Nat)
  | own
  deriving DecidableEq, Repr

/-- A frame that waits for, or is on, a port's wire: its source, bytes, tag, whether its transmit stamp is asked for, and
whether the express MAC sends it. -/
structure TxFrame where
  src : TxSrc
  bytes : List Byte
  tag : Nat := 0
  stamp : Bool := false
  express : Bool := true
  deriving DecidableEq, Repr

/-- A reservation (R322): its context, crossing c and start edge e in crumbs, occupation in crumbs, recorded GEN and bound, its
deadline, the instant the sealed message arrived, and whether it rests on a planned cut (R337), with addFragSize at the GRANT. -/
structure Resv where
  ctx : Nat
  c : Nat
  e : Nat
  occ : Nat
  gen : Nat
  errbW : Nat
  deadline : Nat
  arrived : Option Nat := none
  cut : Bool := false
  frag : Nat := 0
  deriving DecidableEq, Repr

/-- A frame on the wire: the frame, whether it left by appointment, its start and end in crumbs, and whether its transmission
has completed (it then only keeps the wire busy until its end). -/
structure Wire where
  frame : TxFrame
  appointed : Bool
  start : Nat
  stop : Nat
  complete : Bool := false
  deriving DecidableEq, Repr

/-- An asymmetry calibration that runs (R314): start tick, channel, count, sum and sum of squares of the offsets in ps, the
largest ERRB and U_kind seen. -/
structure AsymCal where
  start : Nat
  chan : Nat
  n : Nat := 0
  sum : Rat := 0
  sumSq : Rat := 0
  errb : Nat := 0
  ukind : Nat := 0
  deriving DecidableEq, Repr

/-- A service port (spec/11_ports.md, spec/12_departure.md): a latency measurement that runs, the calendar in order of e, the
egress stamp FIFO, frames that wait for a gap, the frame on the wire, the end in crumbs of an honoured pause, addFragSize, a
calibration that runs, the levels of the latest ESMC PDU as advertised, and whether the transmit synthesiser has been LOCKED since
the port came into use (R302). -/
structure PortSt where
  latRun : Bool := false
  cal : List Resv := []
  fifo : List (StampRec × TxFrame) := []
  waiting : List TxFrame := []
  wire : Option Wire := none
  pause : Option Nat := none
  addFrag : Nat := 0
  acal : Option AsymCal := none
  esmc : Option (Nat × Nat) := none
  txOn : Bool := false
  deriving DecidableEq, Repr

/-- A frame in a pipeline's ingress queue, with its record, LABEL, the offsets and retry limit in force at its stamp, and whether
it matched no entry of the classifier. -/
structure InFrame where
  frame : List Byte
  recd : StampRec
  label : Nat
  off : Nat
  ptpOff : Nat
  retry : Nat
  dflt : Bool := false
  deriving DecidableEq, Repr

/-- A unicast grant (R406); CLIENT and ADDR in wire order. -/
structure Grant where
  auth : Bool
  transport : Nat
  port : Nat
  mtype : Nat
  logint : Int
  duration : Nat
  expiry : Nat
  next : Nat
  seqid : Nat
  tokens : Nat
  client : List Byte
  spp : Nat
  domain : Nat
  addr : List Byte
  vlan : Nat
  deriving DecidableEq, Repr

/-- One effect of a commit record (R387, R410): a rate-sketch debit (profile, client prefix), a counter (0 REPLY, 1 PLAIN, 2
UNKNOWN, 3 BADCOOKIE, 4 KISS), a grant placed, a grant cleared, a Delay_Req charged to a grant, a stream's advance (unicast
entry, or port and type), a PTP counter (port, index), and a denial for lack of entries. -/
inductive Eff
  | debit (prof : Nat) (addr : List Byte)
  | count (which : Nat)
  | grantSet (idx : Nat) (g : Grant)
  | grantClear (idx : Nat)
  | charge (idx : Nat)
  | advance (idx : Nat)
  | advanceMc (port mtype : Nat)
  | ptpCount (port k : Nat)
  | grantFull
  deriving DecidableEq, Repr

/-- A count of the egress gate that a message not yet committed holds back (R326): a GRANT, a collapse with its cause, a re-seal, a
two-step fallback and a free release. -/
inductive GateCount
  | appt
  | coll (cause : Nat)
  | reseal
  | twoStep
  | freeRel
  deriving DecidableEq, Repr

/-- A request context (R343), or a message built by a scheduler or the firmware (engine 16): what it works on, what its reply
is, and how far it is. `kind`: 0 not processed, 1 NTS reply, 2 NTS NAK, 3 authenticated RATE kiss, 4 plain reply, 5 plain
RATE kiss, 6 one-step Pdelay_Resp, 7 one-step Sync, 8 appointed Delay_Resp, 9 two-step event message with its follow-up to
come, 10 any other message, not appointed, 11 Delay_Req or Pdelay_Req of the PTP upstream channel, 12 one to the peer `pos` (R478). `req` is the request's
payload or the message's template; `dest` the bytes before the payload; `key` the S2C key; `uid` the Unique Identifier;
`cookies` new cookies asked for and `fresh` those made; `sa` the security association; `held` the gate's counts that wait for the
commit; `reseal` tells that a collapse at release makes the next seal a re-seal. -/
structure Ctx where
  id : Nat
  engine : Nat := 16
  pipe : Nat := 0
  stage : Nat := 0
  service : Nat := 0
  frame : List Byte := []
  recd : StampRec := {}
  label : Nat := 0
  off : Nat := 0
  retry : Nat := 0
  kind : Nat := 0
  port : Nat := 0
  req : List Byte := []
  dest : List Byte := []
  len : Nat := 0
  t0 : Nat := 0
  born : Nat := 0
  retries : Nat := 0
  key : List Byte := []
  uid : List Byte := []
  cookies : Nat := 0
  pos : Nat := 0
  fresh : List Byte := []
  sa : Option Nat := none
  ops : Nat := 0
  effs : List Eff := []
  granted : Bool := false
  sealed_ : Bool := false
  committed : Bool := false
  stale : Bool := false
  refused : Bool := false
  held : List GateCount := []
  reseal : Bool := false
  c : Nat := 0
  errbW : Nat := 0
  gen : Nat := 0
  msg : List Byte := []
  deriving DecidableEq, Repr

/-- An engine-bound descriptor that waits to be written back (R364): ring, STATUS and the transmit record. -/
structure TxDone where
  ring : Nat
  idx : Nat
  status : Nat
  recd : StampRec
  stamp : Bool
  deriving DecidableEq, Repr

/-- The packet cluster's shared blocks (spec/13_engines.md): items for rings, lanes and waiting lane operations, the ingress
queues, the engine chosen last for each pipeline and stage (key 4 × pipeline + stage), the contexts and the number of the
next, the classifier's two banks by index (the 72 bytes of an entry; unlisted entries are zero), hit counters, a swap that
waits (tick, bank to come), the tick of the latest swap and the DEFAULT before it, the unsignalled completions of a ring
(count, first tick), the descriptors to write back, the engine-bound descriptors the engine has fetched, and MG0's latch. -/
structure PkeSt where
  ringQ : List RingItem := []
  lanes : List Lane := List.replicate 12 {}
  laneQ : List LaneOp := []
  pipes : List (List InFrame) := List.replicate 8 []
  lastEng : List (Nat × Nat) := []
  ctxs : List Ctx := []
  nextCtx : Nat := 0
  bankA : List (Nat × List Byte) := []
  bankB : List (Nat × List Byte) := []
  hits : List (Nat × Nat) := []
  swap : Option (Nat × Nat) := none
  swapAt : Nat := 0
  oldDefault : Nat := 0xFFFF
  coal : List (Nat × (Nat × Nat)) := []
  done : List TxDone := []
  mgRec : StampRec := {}
  deriving DecidableEq, Repr

/-- A PTP stream that is not a grant's: NEXT and sequenceId. -/
structure Stream where
  next : Nat := 0
  seq : Nat := 0
  deriving DecidableEq, Repr

/-- A foreign master's latest Announce on a port (R413): sender, the priority1 to grandmasterIdentity fields as sent, stepsRemoved, flags,
UTC offset, logMessageInterval, the tick heard, and the sender's address. -/
structure Foreign where
  port : Nat
  id : List Byte
  ds : List Byte
  steps : Nat
  flags : Nat
  log : Int
  at_ : Nat
  addr : List Byte
  deriving DecidableEq, Repr

/-- The PTP block beside its registers (spec/15_ptp.md): grants by entry, multicast Sync and Announce streams by port, the foreign
masters, the parent (port and portIdentity), the parent's bound TLV values (Sync, then Announce) with their ticks, a two-step
Sync that waits for its Follow_Up (sequenceId, t2's record, correctionField), the latest Sync's t2 − t1 − c_sync in 2⁻¹⁶ ns, a
Delay_Req that waits (sequenceId, t3), a two-step Pdelay_Resp that waits (t2 + its correctionField, t4), meanPathDelay in 2⁻¹⁶
ns, the upstream sequenceId and its NEXT, the advertised interval, the tick of the latest re-evaluation, and for each port the
tick it began to listen. -/
structure PtpSt where
  grants : List (Nat × Grant) := []
  syncs : List Stream := List.replicate 4 {}
  anns : List Stream := List.replicate 4 {}
  foreign : List Foreign := []
  parent : Option (Nat × List Byte) := none
  boundSync : Option (Nat × Nat) := none
  boundAnn : Option (Nat × Nat) := none
  pendSync : Option (Nat × StampRec × Int) := none
  ms : Option Int := none
  logSync : Int := 0
  reqPend : Option (Nat × Option Nat) := none
  respPend : Option (Int × Nat) := none
  mpd : Option Rat := none
  reqSeq : Nat := 0
  reqNext : Nat := 0
  reqLog : Int := 0
  evalAt : Nat := 0
  listenAt : List Nat := List.replicate 4 0
  deriving DecidableEq, Repr

/-- One peer engine (R478, R479): a Sync that waits for its Follow_Up, the latest t2 − t1 − c_sync, a delay request that waits and a
two-step response, meanPathDelay, sequenceIds and the NEXT of its delay requests, the intervals in use, the latest bound TLV
values (Sync, then Announce) with their ticks, and the tick, θ and B of the latest offset. -/
structure PeerSt where
  pendSync : Option (Nat × StampRec × Int) := none
  ms : Option Int := none
  reqPend : Option (Nat × Option Nat) := none
  mpd : Option Rat := none
  reqSeq : Nat := 0
  reqNext : Nat := 0
  reqLog : Int := 0
  sigSeq : Nat := 0
  logSync : Int := 0
  logAnn : Int := 0
  boundSync : Option (Nat × Nat) := none
  boundAnn : Option (Nat × Nat) := none
  offsetAt : Nat := 0
  theta : Rat := 0
  bnd : Nat := 0xFFFFFFFF
  deriving DecidableEq, Repr

/-- A journaled result that waits for its UPDATE record (R460). -/
structure JResult where
  ch : Nat
  freq : Bool
  value : Rat
  stamp : Nat
  deriving DecidableEq, Repr

/-- The redundant pair (spec/17_pair.md): the lanes in block lock and the tick both were last lost; what HELLO told of the twin
(whether one has come since the lanes came up, role, state, HOME, RDIGEST, PCHECK); a HOME strap conflict; the tick of the last PPI
edge and the seconds in a row PPI has shown the twin active or not; the tick of a random wait; m of both units with its second (and the stamp of the own); the
two latest x in ps with their ticks; B with its tick; the verdicts' masks, the exchange in progress (VID, own verdict), the last VID;
DISPUTE's largest x and its comparisons in a row inside THR; the countdown's start; the swap scheduled
(second, answered SWAPOK, requested here); the journal's own SEQ, its store (newest first) and the lane to use next; the next SEQ
awaited, records that came early, the tick a gap opened; the phase of JOIN (0 ALIGN, 1 SYNC asked, 2 the snapshot loads); the results
not yet consumed and those already used, the journaled rates, the SELECT and LEAP payloads in force, PARAM as last sent, the count of
GRANT records, whether a proposal waits whether SRVSTATE is awaited after a swap and whether a warm restart waits for one; NTS positions to come (position, state,
generation, DTIME); the PCHECK pair a re-key was begun for and the certificate and blob parts received; and the peers. -/
structure PairSt where
  lane0 : Bool := false
  lane1 : Bool := false
  downAt : Nat := 0
  hello : Bool := false
  twinRole : Nat := 0
  twinState : Nat := 0
  twinHome : Bool := false
  twinRcp : List Byte := []
  twinCheck : Nat := 0
  conflict : Bool := false
  ppiAt : Option Nat := none
  seenActive : Nat := 0
  seenIdle : Nat := 0
  waitFrom : Option Nat := none
  seekAt : Nat := 0
  mOwn : Option (Nat × Int × Nat) := none
  mTwin : Option (Nat × Int) := none
  x : Option (Rat × Nat) := none
  xPrev : Option Rat := none
  bound : Option (Nat × Nat) := none
  checked : Nat := 0
  agreed : Nat := 0
  atChk : Bool := false
  atPass : Bool := false
  xWorst : Rat := 0
  exch : Option (Nat × Nat) := none
  vid : Nat := 0
  dispMax : Rat := 0
  dispGood : Nat := 0
  wtrFrom : Option Nat := none
  swap : Option (Nat × Bool) := none
  seq : Nat := 0
  store : List (Nat × List Byte) := []
  turn : Nat := 0
  next : Option Nat := none
  early : List (Nat × Nat × List Byte) := []
  gapAt : Option Nat := none
  phase : Nat := 0
  results : List JResult := []
  used : List JResult := []
  rates : List (Nat × Int × Int) := []
  select : List Byte := []
  leap : List Byte := []
  param : List Byte := []
  grants : Nat := 0
  retry : Bool := false
  swapState : Bool := false
  warmWait : Bool := false
  keys : List (Nat × Nat × Nat × Nat) := []
  rekey : Option (Nat × Nat) := none
  cert : List (Nat × List Byte) := []
  peers : List (Nat × PeerSt) := []
  deriving DecidableEq, Repr

/-- What the block sends out, in order. A completion answers an access of a master: status 0 success, 1 to 5 an error of R496 (Completer
Abort to the host), 6 Unsupported Request. -/
inductive Emission
  | msix (vec : Nat)
  | supLine (line : Nat)
  | token (route : Nat) (bytes : List Byte)
  | mg0Reply (kind : Nat) (bytes : List Byte)
  | readback (req : Nat) (value : Nat)
  | frame (port : Nat) (bytes : List Byte)
  | dma (addr : Nat) (bytes : List Byte)
  | ntsKe (conn : Nat) (cookies : List Byte)
  | keReset (conn : Nat)
  | pairRecord (lane : Nat) (bytes : List Byte)
  | ppo (us : Nat)
  | completion (master status : Nat) (bytes : List Byte)
  deriving DecidableEq, Repr

end Sys2Proof.Machine
end

