-- ==== Sys2Proof/Machine/Field.lean ====
section
/-! DEFINITION. A register field's address, and the store that holds every field's value: one association list in a canonical
form (keys rising, no zero value), so that equal register states are equal data. A field's value is kept as its difference
(exclusive or) from its reset value, so that an unlisted field holds its reset value and the store is empty at reset. -/

namespace Sys2Proof.Machine

/-- A register field: the copy it belongs to (a channel of a channelled block, a requester of a per-requester register, else
0), the BAR0 offset of its word, its lowest bit, its width in bits (a value of R18 that spans words is one wide field at its
lowest word), and its reset value. -/
structure Fld where
  ch : Nat
  off : Nat
  lo : Nat
  w : Nat
  rst : Nat
  deriving DecidableEq, Repr

/-- The field's key in the store: copy, offset (26 bits of BAR0), bit. -/
def Fld.key (f : Fld) : Nat := (f.ch * 0x4000000 + f.off) * 32 + f.lo

/-- The value a key holds; an unlisted key holds 0. -/
def storeGet : List (Nat × Nat) → Nat → Nat
  | [], _ => 0
  | (k, v) :: t, q => if q = k then v else storeGet t q

/-- The list without a key. -/
def storeErase : List (Nat × Nat) → Nat → List (Nat × Nat)
  | [], _ => []
  | (k, v) :: t, q => if q = k then storeErase t q else (k, v) :: storeErase t q

/-- Place a key's value in rising key order. -/
def storePut : List (Nat × Nat) → Nat → Nat → List (Nat × Nat)
  | [], q, x => [(q, x)]
  | (k, v) :: t, q, x =>
    if q < k then (q, x) :: (k, v) :: t
    else if q = k then (q, x) :: t
    else (k, v) :: storePut t q x

/-- Write a key: a zero removes its entry, so that the canonical form stays. -/
def storeSet (l : List (Nat × Nat)) (q x : Nat) : List (Nat × Nat) :=
  if x = 0 then storeErase l q else storePut l q x

/-- The canonical form: keys strictly rising from above `b`, and no zero value. -/
def storeWfFrom : Option Nat → List (Nat × Nat) → Bool
  | _, [] => true
  | b, (k, v) :: t =>
    (match b with
      | none => true
      | some m => decide (m < k)) && (v != 0) && storeWfFrom (some k) t

/-- The canonical form of a whole store. -/
def storeWf (l : List (Nat × Nat)) : Bool := storeWfFrom none l

end Sys2Proof.Machine
end

