-- ==== Sys2Proof/Machine/RegFields.lean ====
section
/-! DEFINITION. The register fields of BAR0, by the names of the spec's register tables (spec/02 to spec/22): one
constant (or, for an array, a channelled or a per-requester register, one function) per named field.
An index of an array is the index the spec uses; a channelled register takes its channel first, a per-requester
register its requester first. A value that spans several words is one field at its lowest word. -/

namespace Sys2Proof.Machine.F

-- block GLB
def GLB_ID.PART : Fld := ⟨0, 0x0, 0, 16, 0x9612⟩
def GLB_ID.STEP : Fld := ⟨0, 0x0, 16, 8, 0x1⟩
def GLB_ID.VENDOR : Fld := ⟨0, 0x0, 24, 8, 0x47⟩
def GLB_STRAP.HOME : Fld := ⟨0, 0x4, 0, 1, 0⟩
def GLB_STRAP.FSTART_N : Fld := ⟨0, 0x4, 1, 1, 0⟩
def GLB_STRAP.BANK_SEL : Fld := ⟨0, 0x4, 2, 2, 0⟩
def GLB_SUPPLY.VIN : Fld := ⟨0, 0x8, 0, 11, 0⟩
def GLB_SUPPLY.UVW : Fld := ⟨0, 0x8, 12, 1, 0⟩
def GLB_SUPPLY.OVW : Fld := ⟨0, 0x8, 13, 1, 0⟩
def GLB_SUPPLY.HOTW : Fld := ⟨0, 0x8, 14, 1, 0⟩
def GLB_SUPPLY.TMAX : Fld := ⟨0, 0x8, 16, 8, 0⟩
def GLB_SERIAL.SERIAL : Fld := ⟨0, 0xC, 0, 64, 0⟩
def GLB_MAC.MAC : Fld := ⟨0, 0x14, 0, 48, 0⟩
def GLB_SCRATCH.DATA : Fld := ⟨0, 0x1C, 0, 32, 0⟩
def GLB_DBG.DBG_EN : Fld := ⟨0, 0x20, 0, 1, 0⟩
def GLB_DBG.TAPACT : Fld := ⟨0, 0x20, 1, 1, 0⟩
-- block BOOT
def BOOT_STATUS.STAGE : Fld := ⟨0, 0x100000, 0, 4, 0⟩
def BOOT_STATUS.STABLE : Fld := ⟨0, 0x100000, 4, 1, 0⟩
def BOOT_STATUS.WARM : Fld := ⟨0, 0x100000, 5, 1, 0⟩
def BOOT_STATUS.FWBANK : Fld := ⟨0, 0x100000, 6, 1, 0⟩
def BOOT_STATUS.ATTEMPTS : Fld := ⟨0, 0x100000, 8, 8, 0⟩
def BOOT_WHY.CODE : Fld := ⟨0, 0x100004, 0, 8, 0x1⟩
def BOOT_WHY.STOP : Fld := ⟨0, 0x100004, 8, 8, 0⟩
def BOOT_WHY.DETAIL : Fld := ⟨0, 0x100004, 16, 8, 0⟩
def BOOT_CTRL.WARM : Fld := ⟨0, 0x100008, 0, 1, 0⟩
def BOOT_CTRL.COLD : Fld := ⟨0, 0x100008, 1, 1, 0⟩
def BOOT_CTRL.STARTER : Fld := ⟨0, 0x100008, 2, 1, 0⟩
def BOOT_CTRL.CLRFAIL : Fld := ⟨0, 0x100008, 3, 1, 0⟩
def BOOT_CTRL.FWPROG : Fld := ⟨0, 0x100008, 4, 1, 0⟩
def BOOT_CTRL.FWPREFER : Fld := ⟨0, 0x100008, 5, 1, 0⟩
def BOOT_CTRL.FWBANK : Fld := ⟨0, 0x100008, 8, 1, 0⟩
def BOOT_CTRL.KEY : Fld := ⟨0, 0x100008, 16, 16, 0⟩
def BOOT_LIMIT.LIMIT : Fld := ⟨0, 0x10000C, 0, 16, 0x78⟩
def BOOT_REC.WORD (n : Nat) : Fld := ⟨0, 0x100040 + 0x4 * n, 0, 32, 0⟩
-- block RCP
def RCP_STATUS.BANK : Fld := ⟨0, 0x200000, 0, 1, 0⟩
def RCP_STATUS.ENC : Fld := ⟨0, 0x200000, 1, 1, 0⟩
def RCP_STATUS.STATE : Fld := ⟨0, 0x200000, 4, 3, 0⟩
def RCP_STATUS.GEN : Fld := ⟨0, 0x200000, 8, 8, 0⟩
def RCP_SERIAL.SERIAL : Fld := ⟨0, 0x200004, 0, 32, 0⟩
def RCP_CTRL.BANK : Fld := ⟨0, 0x200008, 0, 1, 0⟩
def RCP_CTRL.CHECK : Fld := ⟨0, 0x200008, 1, 1, 0⟩
def RCP_CTRL.RELOAD : Fld := ⟨0, 0x200008, 2, 1, 0⟩
def RCP_CTRL.PROG : Fld := ⟨0, 0x200008, 3, 1, 0⟩
def RCP_CTRL.PREFER : Fld := ⟨0, 0x200008, 4, 1, 0⟩
def RCP_FAIL.CODE : Fld := ⟨0, 0x20000C, 0, 8, 0⟩
def RCP_FAIL.INDEX : Fld := ⟨0, 0x20000C, 8, 6, 0⟩
def RCP_FAIL.TYPE : Fld := ⟨0, 0x20000C, 16, 16, 0⟩
def RCP_SRC.ADDR : Fld := ⟨0, 0x200010, 6, 26, 0⟩
def RCP_LEN.LEN : Fld := ⟨0, 0x200014, 0, 24, 0⟩
def RCP_WARM.REFMAP : Fld := ⟨0, 0x200018, 0, 1, 0⟩
def RCP_WARM.TDCMAP : Fld := ⟨0, 0x200018, 1, 1, 0⟩
def RCP_WARM.UINCFG : Fld := ⟨0, 0x200018, 2, 1, 0⟩
def RCP_WARM.SRVTOP : Fld := ⟨0, 0x200018, 3, 1, 0⟩
def RCP_WARM.SYNPLAN : Fld := ⟨0, 0x200018, 4, 1, 0⟩
def RCP_WARM.OUTKIND : Fld := ⟨0, 0x200018, 5, 1, 0⟩
def RCP_WARM.SERDES : Fld := ⟨0, 0x200018, 6, 1, 0⟩
def RCP_WARM.PIPE : Fld := ⟨0, 0x200018, 7, 1, 0⟩
def RCP_LEAD.LEAD : Fld := ⟨0, 0x20001C, 0, 24, 0xF424⟩
-- block PWR
def PWR_GSTAT.ASLEEP : Fld := ⟨0, 0x300000, 0, 13, 0⟩
def PWR_DOM_CTRL.REQ (n : Nat) : Fld := ⟨0, 0x300100 + 0x20 * n, 0, 2, 0⟩
def PWR_DOM_CTRL.PLVL (n : Nat) : Fld := ⟨0, 0x300100 + 0x20 * n, 2, 2, 0⟩
def PWR_DOM_STAT.STATE (n : Nat) : Fld := ⟨0, 0x300104 + 0x20 * n, 0, 2, 0⟩
def PWR_DOM_STAT.ENTERING (n : Nat) : Fld := ⟨0, 0x300104 + 0x20 * n, 2, 1, 0⟩
def PWR_DOM_STAT.WAITING (n : Nat) : Fld := ⟨0, 0x300104 + 0x20 * n, 3, 1, 0⟩
def PWR_DOM_STAT.PLVL (n : Nat) : Fld := ⟨0, 0x300104 + 0x20 * n, 4, 2, 0⟩
def PWR_DOM_STAT.PLCHG (n : Nat) : Fld := ⟨0, 0x300104 + 0x20 * n, 6, 1, 0⟩
def PWR_DOM_STAT.CHECK (n : Nat) : Fld := ⟨0, 0x300104 + 0x20 * n, 7, 1, 0⟩
def PWR_DOM_STAT.RETFAIL (n : Nat) : Fld := ⟨0, 0x300104 + 0x20 * n, 16, 8, 0⟩
def PWR_DOM_STAT.REFUSED (n : Nat) : Fld := ⟨0, 0x300104 + 0x20 * n, 24, 1, 0⟩
def PWR_WAKE.WSRC (n : Nat) : Fld := ⟨0, 0x300108 + 0x20 * n, 0, 4, 0⟩
def PWR_WAKE.WREQ (n : Nat) : Fld := ⟨0, 0x300108 + 0x20 * n, 4, 4, 0⟩
def PWR_WAKE.DURING (n : Nat) : Fld := ⟨0, 0x300108 + 0x20 * n, 8, 1, 0⟩
def PWR_WAKE.FROM (n : Nat) : Fld := ⟨0, 0x300108 + 0x20 * n, 9, 2, 0⟩
def PWR_WAKET.TICK (n : Nat) : Fld := ⟨0, 0x30010C + 0x20 * n, 0, 64, 0⟩
def PWR_SLEEP_ACC.TICKS (n : Nat) : Fld := ⟨0, 0x300114 + 0x20 * n, 0, 64, 0⟩
def PWR_SLEEP_CNT.ENTRIES (n : Nat) : Fld := ⟨0, 0x30011C + 0x20 * n, 0, 32, 0⟩
-- block HRT
def HRT_EPOCH_SEC.SEC : Fld := ⟨0, 0x400030, 0, 48, 0⟩
def HRT_STAT.STEP : Fld := ⟨0, 0x400038, 0, 1, 0⟩
def HRT_STAT.LEAPDONE : Fld := ⟨0, 0x400038, 1, 1, 0⟩
def HRT_STAT.LEAPSCHED : Fld := ⟨0, 0x400038, 2, 1, 0⟩
def HRT_STAT.UTCERR : Fld := ⟨0, 0x400038, 3, 1, 0⟩
def HRT_STAT.DPREF : Fld := ⟨0, 0x400038, 4, 1, 0⟩
def HRT_STAT.STATE : Fld := ⟨0, 0x400038, 5, 1, 0⟩
def HRT_STAT.CLAMP : Fld := ⟨0, 0x400038, 6, 1, 0⟩
def HRT_DP_VIEW.WHAT (q : Nat) : Fld := ⟨q, 0x40003C, 0, 2, 0⟩
def HRT_DP_VIEW.GEN (q : Nat) : Fld := ⟨q, 0x40003C, 8, 8, 0⟩
def HRT_DPW_RATE.RATE : Fld := ⟨0, 0x400080, 0, 48, 0⟩
def HRT_DPW_OFFSET.OFFSET : Fld := ⟨0, 0x400088, 0, 128, 0⟩
def HRT_DPW_ANCHOR.ANCHOR : Fld := ⟨0, 0x400098, 0, 64, 0⟩
def HRT_DP_COMMIT.COMMIT : Fld := ⟨0, 0x4000A0, 0, 64, 0⟩
def HRT_DP_CTRL.GO : Fld := ⟨0, 0x4000A8, 0, 1, 0⟩
def HRT_DP_CTRL.KEY : Fld := ⟨0, 0x4000A8, 16, 16, 0⟩
def HRT_DP_STAT.RESULT : Fld := ⟨0, 0x4000AC, 0, 3, 0⟩
def HRT_DP_STAT.GEN : Fld := ⟨0, 0x4000AC, 8, 8, 0⟩
def HRT_DP_STAT.HOST : Fld := ⟨0, 0x4000AC, 16, 1, 0⟩
def HRT_DP_STAT.SEQ : Fld := ⟨0, 0x4000AC, 24, 8, 0⟩
def HRT_LASTSTEP_0.GEN : Fld := ⟨0, 0x4000B0, 0, 8, 0⟩
def HRT_LASTSTEP_0.ANY : Fld := ⟨0, 0x4000B0, 8, 1, 0⟩
def HRT_LASTSTEP_S.S : Fld := ⟨0, 0x4000B4, 0, 64, 0⟩
def HRT_SRV_LEAD.LEAD : Fld := ⟨0, 0x400100, 0, 20, 0x186A⟩
def HRT_SRV_LIM.STEPLIM : Fld := ⟨0, 0x400104, 0, 16, 0x3E8⟩
def HRT_SRV_LIM.LOCKLIM : Fld := ⟨0, 0x400104, 16, 16, 0x64⟩
def HRT_SRV_CTRL.MAN (n : Nat) : Fld := ⟨0, 0x400200 + 0x20 * n, 0, 1, 0⟩
def HRT_SRV_CTRL.STEP_EN (n : Nat) : Fld := ⟨0, 0x400200 + 0x20 * n, 1, 1, 0⟩
def HRT_SRV_CTRL.CLRI (n : Nat) : Fld := ⟨0, 0x400200 + 0x20 * n, 2, 1, 0⟩
def HRT_SRV_CTRL.KEY (n : Nat) : Fld := ⟨0, 0x400200 + 0x20 * n, 16, 16, 0⟩
def HRT_SRV_STAT.STATE (n : Nat) : Fld := ⟨0, 0x400204 + 0x20 * n, 0, 3, 0⟩
def HRT_SRV_STAT.SEL (n : Nat) : Fld := ⟨0, 0x400204 + 0x20 * n, 4, 4, 0⟩
def HRT_SRV_STAT.NOREF (n : Nat) : Fld := ⟨0, 0x400204 + 0x20 * n, 8, 1, 0⟩
def HRT_SRV_STAT.SLOWED (n : Nat) : Fld := ⟨0, 0x400204 + 0x20 * n, 9, 1, 0⟩
def HRT_SRV_STAT.CLAMPED (n : Nat) : Fld := ⟨0, 0x400204 + 0x20 * n, 16, 1, 0⟩
def HRT_SRV_STAT.STEPPED (n : Nat) : Fld := ⟨0, 0x400204 + 0x20 * n, 17, 1, 0⟩
def HRT_SRV_ERR.E (n : Nat) : Fld := ⟨0, 0x400208 + 0x20 * n, 0, 32, 0⟩
def HRT_SRV_OUT.RATE (n : Nat) : Fld := ⟨0, 0x40020C + 0x20 * n, 0, 48, 0⟩
def HRT_SRV_KP.KP (n : Nat) : Fld := ⟨0, 0x400214 + 0x20 * n, 0, 32, 0⟩
def HRT_SRV_KI.KI (n : Nat) : Fld := ⟨0, 0x400218 + 0x20 * n, 0, 32, 0⟩
def HRT_SRV_FSTEP.FSTEP (n : Nat) : Fld := ⟨0, 0x40021C + 0x20 * n, 0, 32, 0⟩
def HRT_UTC.OFFSET : Fld := ⟨0, 0x400300, 0, 16, 0x25⟩
def HRT_UTC.VALID : Fld := ⟨0, 0x400300, 16, 1, 0⟩
def HRT_UTC.SRC : Fld := ⟨0, 0x400300, 17, 3, 0⟩
def HRT_UTC.LEAPPEND : Fld := ⟨0, 0x400300, 20, 1, 0⟩
def HRT_UTC.DIR : Fld := ⟨0, 0x400300, 21, 1, 0⟩
def HRT_LEAP.SEC : Fld := ⟨0, 0x400304, 0, 48, 0⟩
def HRT_UTCPREV.SEC : Fld := ⟨0, 0x40030C, 0, 48, 0⟩
def HRT_UTCPREV_HI.PREV : Fld := ⟨0, 0x400310, 16, 16, 0⟩
def HRT_UTCW.OFFSET : Fld := ⟨0, 0x400314, 0, 16, 0⟩
def HRT_UTCW.SETOFF : Fld := ⟨0, 0x400314, 16, 1, 0⟩
def HRT_UTCW.SCHED : Fld := ⟨0, 0x400314, 17, 1, 0⟩
def HRT_UTCW.DIR : Fld := ⟨0, 0x400314, 18, 1, 0⟩
def HRT_UTCW.CANCEL : Fld := ⟨0, 0x400314, 19, 1, 0⟩
def HRT_UTCW_SEC.SEC : Fld := ⟨0, 0x400318, 0, 48, 0⟩
def HRT_TB_ROUTE.LC (n : Nat) : Fld := ⟨0, 0x400C00 + 0x4 * n, 0, 9, 0⟩
def HRT_TB_ROUTE.LT (n : Nat) : Fld := ⟨0, 0x400C00 + 0x4 * n, 9, 6, 0⟩
def HRT_TB_ROUTE.CRCERR (n : Nat) : Fld := ⟨0, 0x400C00 + 0x4 * n, 16, 8, 0⟩
def HRT_TB_ROUTE.EN (n : Nat) : Fld := ⟨0, 0x400C00 + 0x4 * n, 28, 1, 0⟩
def HRT_TB_ROUTE.VALID (n : Nat) : Fld := ⟨0, 0x400C00 + 0x4 * n, 29, 1, 0⟩
def HRT_TB_ROUTE.CAL (n : Nat) : Fld := ⟨0, 0x400C00 + 0x4 * n, 30, 1, 0⟩
def HRT_TB_ROUTE.FAULT (n : Nat) : Fld := ⟨0, 0x400C00 + 0x4 * n, 31, 1, 0⟩
-- block TDC
def TDC_CHSEL.CH (q : Nat) : Fld := ⟨q, 0x500000, 0, 5, 0⟩
def TDC_CFG.MODE (c : Nat) : Fld := ⟨c, 0x500004, 0, 2, 0⟩
def TDC_CFG.UNSIGNED (c : Nat) : Fld := ⟨c, 0x500004, 2, 1, 0⟩
def TDC_CFG.PRESCALE (c : Nat) : Fld := ⟨c, 0x500004, 3, 1, 0⟩
def TDC_CFG.PSK (c : Nat) : Fld := ⟨c, 0x500004, 4, 3, 0⟩
def TDC_CFG.RING (c : Nat) : Fld := ⟨c, 0x500004, 7, 1, 0⟩
def TDC_CFG.START (c : Nat) : Fld := ⟨c, 0x500004, 8, 5, 0x1F⟩
def TDC_CFG.CLRCNT (c : Nat) : Fld := ⟨c, 0x500004, 13, 1, 0⟩
def TDC_STAT.ARMED (c : Nat) : Fld := ⟨c, 0x500008, 0, 1, 0⟩
def TDC_STAT.GATE (c : Nat) : Fld := ⟨c, 0x500008, 1, 1, 0⟩
def TDC_STAT.MISSED (c : Nat) : Fld := ⟨c, 0x500008, 8, 1, 0⟩
def TDC_STAT.REJ (c : Nat) : Fld := ⟨c, 0x500008, 9, 1, 0⟩
def TDC_STAT.CALERR (c : Nat) : Fld := ⟨c, 0x500008, 10, 1, 0⟩
def TDC_STAT.CALFAULT (c : Nat) : Fld := ⟨c, 0x500008, 11, 1, 0⟩
def TDC_STAT.NOSTART (c : Nat) : Fld := ⟨c, 0x500008, 12, 1, 0⟩
def TDC_STAT.OUTLIER (c : Nat) : Fld := ⟨c, 0x500008, 13, 1, 0⟩
def TDC_GATE.GATE (c : Nat) : Fld := ⟨c, 0x50000C, 0, 20, 0x3E8⟩
def TDC_DEC.D (c : Nat) : Fld := ⟨c, 0x500010, 0, 18, 0x1⟩
def TDC_WIN.WIN (c : Nat) : Fld := ⟨c, 0x500014, 0, 30, 0x12A05F20⟩
def TDC_OUTLIM.LIM (c : Nat) : Fld := ⟨c, 0x500018, 0, 16, 0x280⟩
def TDC_CAL.SPAN (c : Nat) : Fld := ⟨c, 0x50001C, 0, 16, 0⟩
def TDC_CAL.NOM (c : Nat) : Fld := ⟨c, 0x50001C, 16, 16, 0x400⟩
def TDC_CNT.MISS (c : Nat) : Fld := ⟨c, 0x500020, 0, 16, 0⟩
def TDC_CNT.REJ (c : Nat) : Fld := ⟨c, 0x500020, 16, 16, 0⟩
def TDC_TB.SEL : Fld := ⟨0, 0x500024, 0, 2, 0⟩
def TDC_TB.ACT : Fld := ⟨0, 0x500024, 2, 2, 0⟩
def TDC_TB.CH : Fld := ⟨0, 0x500024, 4, 4, 0⟩
def TDC_TB.TBLOSS : Fld := ⟨0, 0x500024, 8, 1, 0⟩
def TDC_RES.WORD (c n : Nat) : Fld := ⟨c, 0x500040 + 0x4 * n, 0, 32, 0⟩
-- block REF
def REF_CHSEL.CH (q : Nat) : Fld := ⟨q, 0x600000, 0, 4, 0⟩
def REF_CFG.EN (c : Nat) : Fld := ⟨c, 0x600004, 0, 1, 0⟩
def REF_CFG.FORCE_DQ (c : Nat) : Fld := ⟨c, 0x600004, 1, 1, 0⟩
def REF_CFG.QOVR_EN (c : Nat) : Fld := ⟨c, 0x600004, 2, 1, 0⟩
def REF_CFG.QOVR (c : Nat) : Fld := ⟨c, 0x600004, 4, 4, 0x6⟩
def REF_CFG.ANTOPEN_OK (c : Nat) : Fld := ⟨c, 0x600004, 8, 1, 0⟩
def REF_CFG.SINGLE (c : Nat) : Fld := ⟨c, 0x600004, 9, 1, 0⟩
def REF_CFG.CONST (c : Nat) : Fld := ⟨c, 0x600004, 10, 3, 0x7⟩
def REF_CFG.GSYS (c : Nat) : Fld := ⟨c, 0x600004, 13, 2, 0⟩
def REF_CFG.PORT (c : Nat) : Fld := ⟨c, 0x600004, 16, 2, 0⟩
def REF_CFG.EXTQL (c : Nat) : Fld := ⟨c, 0x600004, 18, 1, 0x1⟩
def REF_CFG.TSCALE (c : Nat) : Fld := ⟨c, 0x600004, 19, 2, 0⟩
def REF_STAT.KIND (c : Nat) : Fld := ⟨c, 0x600008, 0, 4, 0⟩
def REF_STAT.SOURCE (c : Nat) : Fld := ⟨c, 0x600008, 4, 3, 0⟩
def REF_STAT.QCLASS (c : Nat) : Fld := ⟨c, 0x600008, 8, 4, 0⟩
def REF_STAT.PRESENT (c : Nat) : Fld := ⟨c, 0x600008, 12, 1, 0⟩
def REF_STAT.ACTIVITY (c : Nat) : Fld := ⟨c, 0x600008, 13, 1, 0⟩
def REF_STAT.LABELLED (c : Nat) : Fld := ⟨c, 0x600008, 14, 1, 0⟩
def REF_STAT.UNPLUG (c : Nat) : Fld := ⟨c, 0x600008, 16, 1, 0⟩
def REF_STAT.PLUG (c : Nat) : Fld := ⟨c, 0x600008, 17, 1, 0⟩
def REF_STAT.QCHG (c : Nat) : Fld := ⟨c, 0x600008, 18, 1, 0⟩
def REF_STAT.LABELERR (c : Nat) : Fld := ⟨c, 0x600008, 19, 1, 0⟩
def REF_STAT.SPUR (c : Nat) : Fld := ⟨c, 0x600008, 20, 1, 0⟩
def REF_UNC.UNC (c : Nat) : Fld := ⟨c, 0x60000C, 0, 32, 0⟩
def REF_UKIND.UKIND (c : Nat) : Fld := ⟨c, 0x600010, 0, 32, 0xFFFFFFFF⟩
def REF_DLY.DLY (c : Nat) : Fld := ⟨c, 0x600014, 0, 24, 0⟩
def REF_DLYUNC.DLYUNC (c : Nat) : Fld := ⟨c, 0x600018, 0, 16, 0⟩
def REF_QUAL.RAW (c : Nat) : Fld := ⟨c, 0x60001C, 0, 8, 0⟩
def REF_QUAL.AUX (c : Nat) : Fld := ⟨c, 0x60001C, 8, 8, 0⟩
def REF_QUAL.AGE (c : Nat) : Fld := ⟨c, 0x60001C, 16, 8, 0xFF⟩
def REF_NOMFREQ.FREQ (c : Nat) : Fld := ⟨c, 0x600020, 0, 48, 0⟩
def REF_ANT.CURRENT : Fld := ⟨0, 0x600028, 0, 7, 0⟩
def REF_ANT.FEEDON : Fld := ⟨0, 0x600028, 7, 1, 0⟩
def REF_ANT.OPEN : Fld := ⟨0, 0x600028, 8, 1, 0⟩
def REF_ANT.SHORT : Fld := ⟨0, 0x600028, 9, 1, 0⟩
def REF_ANT.OPENEV : Fld := ⟨0, 0x600028, 12, 1, 0⟩
def REF_ANT.SHORTEV : Fld := ⟨0, 0x600028, 13, 1, 0⟩
def REF_PRES.UIN : Fld := ⟨0, 0x60002C, 0, 6, 0⟩
def REF_PRES.ANT : Fld := ⟨0, 0x60002C, 6, 1, 0⟩
def REF_PRIO.PRIO (c : Nat) : Fld := ⟨c, 0x600030, 0, 8, 0⟩
def REF_QCFG.QTIME (c : Nat) : Fld := ⟨c, 0x600034, 0, 12, 0x3C⟩
def REF_QCFG.HOLDOFF (c : Nat) : Fld := ⟨c, 0x600034, 16, 12, 0xA⟩
def REF_FSOFT.LIM (c : Nat) : Fld := ⟨c, 0x600038, 0, 32, 0x2710⟩
def REF_FHARD.LIM (c : Nat) : Fld := ⟨c, 0x60003C, 0, 32, 0xC350⟩
def REF_PMARG.MARG (c : Nat) : Fld := ⟨c, 0x600040, 0, 32, 0x3E8⟩
def REF_QSTAT.QSTATE (c : Nat) : Fld := ⟨c, 0x600044, 0, 2, 0⟩
def REF_QSTAT.CAND (c : Nat) : Fld := ⟨c, 0x600044, 2, 1, 0⟩
def REF_QSTAT.SOFT (c : Nat) : Fld := ⟨c, 0x600044, 3, 1, 0⟩
def REF_QSTAT.DRIFT (c : Nat) : Fld := ⟨c, 0x600044, 4, 1, 0⟩
def REF_QSTAT.JUDGED (c : Nat) : Fld := ⟨c, 0x600044, 5, 1, 0⟩
def REF_QSTAT.FBASIS (c : Nat) : Fld := ⟨c, 0x600044, 6, 1, 0⟩
def REF_QSTAT.DQWHY (c : Nat) : Fld := ⟨c, 0x600044, 8, 4, 0⟩
def REF_QSTAT.LEFT (c : Nat) : Fld := ⟨c, 0x600044, 12, 16, 0⟩
def REF_QSTAT.HARDEV (c : Nat) : Fld := ⟨c, 0x600044, 28, 1, 0⟩
def REF_QSTAT.SOFTEV (c : Nat) : Fld := ⟨c, 0x600044, 29, 1, 0⟩
def REF_QSTAT.DRIFTEV (c : Nat) : Fld := ⟨c, 0x600044, 30, 1, 0⟩
def REF_PDEV.X (c : Nat) : Fld := ⟨c, 0x600048, 0, 32, 0⟩
def REF_FDEV.Y (c : Nat) : Fld := ⟨c, 0x60004C, 0, 64, 0⟩
def REF_DRIFT.LIM (c : Nat) : Fld := ⟨c, 0x600054, 0, 32, 0x3E8⟩
def REF_DRATE.RATE (c : Nat) : Fld := ⟨c, 0x600058, 0, 32, 0⟩
def REF_SELCTL.FCH : Fld := ⟨0, 0x600100, 0, 4, 0⟩
def REF_SELCTL.FORCE : Fld := ⟨0, 0x600100, 4, 1, 0⟩
def REF_SELCTL.HOLD : Fld := ⟨0, 0x600100, 5, 1, 0⟩
def REF_SELSTAT.SEL : Fld := ⟨0, 0x600104, 0, 4, 0⟩
def REF_SELSTAT.NONE : Fld := ⟨0, 0x600104, 4, 1, 0x1⟩
def REF_SELSTAT.REFOK : Fld := ⟨0, 0x600104, 5, 1, 0⟩
def REF_SELSTAT.DISAGREE : Fld := ⟨0, 0x600104, 6, 1, 0⟩
def REF_SELSTAT.CARRIED : Fld := ⟨0, 0x600104, 7, 1, 0⟩
def REF_SELSTAT.FORCEFAIL : Fld := ⟨0, 0x600104, 8, 1, 0⟩
def REF_SELSTAT.NOREF : Fld := ⟨0, 0x600104, 9, 1, 0⟩
def REF_SELSTAT.DISCH : Fld := ⟨0, 0x600104, 12, 4, 0⟩
def REF_SELSTAT.SWITCH : Fld := ⟨0, 0x600104, 16, 1, 0⟩
def REF_SELSTAT.HOLDIN : Fld := ⟨0, 0x600104, 17, 1, 0⟩
def REF_SELSTAT.HOLDOUT : Fld := ⟨0, 0x600104, 18, 1, 0⟩
def REF_SELSTAT.DISAG : Fld := ⟨0, 0x600104, 19, 1, 0⟩
def REF_SELSTAT.JUDGE : Fld := ⟨0, 0x600104, 20, 1, 0⟩
def REF_SELSTAT.EBHI : Fld := ⟨0, 0x600104, 21, 1, 0⟩
def REF_SELSTAT.EBLO : Fld := ⟨0, 0x600104, 22, 1, 0⟩
def REF_SELSTAT.QEV : Fld := ⟨0, 0x600104, 23, 1, 0⟩
def REF_TOL.TOL : Fld := ⟨0, 0x600108, 0, 32, 0x4E20⟩
def REF_SWSLEW.SLEW : Fld := ⟨0, 0x60010C, 0, 20, 0x3E8⟩
def REF_HAVG.SEC : Fld := ⟨0, 0x600110, 0, 17, 0x12C⟩
def REF_ERRB.ERRB : Fld := ⟨0, 0x600114, 0, 32, 0xFFFFFFFF⟩
def REF_EBTHR.THR : Fld := ⟨0, 0x600118, 0, 32, 0xFFFFFFFF⟩
def REF_EB.WORD (n : Nat) : Fld := ⟨0, 0x600140 + 0x4 * n, 0, 32, 0⟩
-- block OSC
def OSC_STAT.OVEN_PROOF : Fld := ⟨0, 0x700000, 0, 1, 0x1⟩
def OSC_STAT.CELL_PROOF : Fld := ⟨0, 0x700000, 1, 1, 0x1⟩
def OSC_STAT.PROOFING : Fld := ⟨0, 0x700000, 2, 1, 0x1⟩
def OSC_STAT.CELL_LOCK : Fld := ⟨0, 0x700000, 3, 1, 0⟩
def OSC_STAT.CELL_STATE : Fld := ⟨0, 0x700000, 4, 3, 0⟩
def OSC_STAT.LOAD_UNTRAINED : Fld := ⟨0, 0x700000, 7, 1, 0⟩
def OSC_STAT.HSET : Fld := ⟨0, 0x700000, 8, 1, 0⟩
def OSC_STAT.UNLOCK : Fld := ⟨0, 0x700000, 16, 1, 0⟩
def OSC_STAT.OVENDEV : Fld := ⟨0, 0x700000, 17, 1, 0⟩
def OSC_STAT.UNTR : Fld := ⟨0, 0x700000, 18, 1, 0⟩
def OSC_STAT.SENSFAIL : Fld := ⟨0, 0x700000, 19, 1, 0⟩
def OSC_STAT.HEATFLT : Fld := ⟨0, 0x700000, 20, 1, 0⟩
def OSC_STAT.STOREERR : Fld := ⟨0, 0x700000, 21, 1, 0⟩
def OSC_CTRL.CLR_C : Fld := ⟨0, 0x700004, 0, 1, 0⟩
def OSC_CTRL.CLR_O : Fld := ⟨0, 0x700004, 1, 1, 0⟩
def OSC_CTRL.RELOCK : Fld := ⟨0, 0x700004, 2, 1, 0⟩
def OSC_CTRL.STORE : Fld := ⟨0, 0x700004, 3, 1, 0⟩
def OSC_CTRL.KEY : Fld := ⟨0, 0x700004, 16, 16, 0⟩
def OSC_OVEN.TERR : Fld := ⟨0, 0x700008, 0, 16, 0⟩
def OSC_OVEN.HEAT : Fld := ⟨0, 0x700008, 16, 8, 0⟩
def OSC_CELL.TERR : Fld := ⟨0, 0x70000C, 0, 16, 0⟩
def OSC_CELL.HEAT : Fld := ⟨0, 0x70000C, 16, 8, 0⟩
def OSC_CELL.LOCKS : Fld := ⟨0, 0x70000C, 24, 8, 0⟩
def OSC_OP.TBIN : Fld := ⟨0, 0x700010, 0, 5, 0⟩
def OSC_OP.LBIN : Fld := ⟨0, 0x700010, 5, 3, 0⟩
def OSC_OP.LOAD : Fld := ⟨0, 0x700010, 8, 9, 0⟩
def OSC_SETTLE.CELL : Fld := ⟨0, 0x700014, 0, 16, 0x384⟩
def OSC_SETTLE.MAPMIN : Fld := ⟨0, 0x700014, 16, 16, 0x258⟩
def OSC_TS.TEMP (n : Nat) : Fld := ⟨0, 0x700020 + 0x4 * n, 0, 16, 0⟩
def OSC_TS.FAIL (n : Nat) : Fld := ⟨0, 0x700020 + 0x4 * n, 16, 1, 0⟩
def OSC_YAT.YAT : Fld := ⟨0, 0x700040, 0, 64, 0⟩
def OSC_YAT_U.U : Fld := ⟨0, 0x700048, 0, 32, 0x989680⟩
def OSC_AGE_D.D (n : Nat) : Fld := ⟨0, 0x700050 + 0x4 * n, 0, 32, 0⟩
def OSC_AGE_U_0.U : Fld := ⟨0, 0x700058, 0, 32, 0x989680⟩
def OSC_AGE_U_1.U : Fld := ⟨0, 0x70005C, 0, 32, 0xBEBC200⟩
def OSC_LEARN.DAYS (n : Nat) : Fld := ⟨0, 0x700060 + 0x4 * n, 0, 8, 0⟩
def OSC_LEARN.LEARNT (n : Nat) : Fld := ⟨0, 0x700060 + 0x4 * n, 8, 1, 0⟩
def OSC_TL.SIG (n : Nat) : Fld := ⟨0, 0x700068 + 0x4 * n, 0, 32, 0xFFFFFFFF⟩
def OSC_UNTR_0.FLOOR : Fld := ⟨0, 0x700070, 0, 32, 0x1E8480⟩
def OSC_UNTR_1.FLOOR : Fld := ⟨0, 0x700074, 0, 32, 0x2FAF080⟩
def OSC_MAPSEL.TBIN : Fld := ⟨0, 0x700080, 0, 5, 0⟩
def OSC_MAPSEL.LBIN : Fld := ⟨0, 0x700080, 5, 3, 0⟩
def OSC_MAPSEL.SET : Fld := ⟨0, 0x700080, 8, 1, 0⟩
def OSC_MAPVAL.COUNT : Fld := ⟨0, 0x700084, 0, 16, 0⟩
def OSC_MAPVAL.TRAINED : Fld := ⟨0, 0x700084, 16, 1, 0⟩
def OSC_MAPY.Y : Fld := ⟨0, 0x700088, 0, 32, 0⟩
-- block OUT
def OUT_CHSEL.CH (q : Nat) : Fld := ⟨q, 0x800000, 0, 4, 0⟩
def OUT_CFG.KIND (c : Nat) : Fld := ⟨c, 0x800004, 0, 2, 0⟩
def OUT_CFG.SYN (c : Nat) : Fld := ⟨c, 0x800004, 2, 2, 0⟩
def OUT_CFG.ELEC (c : Nat) : Fld := ⟨c, 0x800004, 4, 2, 0⟩
def OUT_CFG.TIE (c : Nat) : Fld := ⟨c, 0x800004, 6, 1, 0⟩
def OUT_CFG.COMP (c : Nat) : Fld := ⟨c, 0x800004, 7, 1, 0⟩
def OUT_CFG.EN (c : Nat) : Fld := ⟨c, 0x800004, 8, 1, 0⟩
def OUT_CFG.SQUELCH (c : Nat) : Fld := ⟨c, 0x800004, 9, 1, 0⟩
def OUT_STAT.DRIVE (c : Nat) : Fld := ⟨c, 0x800008, 0, 1, 0⟩
def OUT_STAT.GATED (c : Nat) : Fld := ⟨c, 0x800008, 1, 1, 0⟩
def OUT_STAT.ALIGNED (c : Nat) : Fld := ⟨c, 0x800008, 2, 1, 0⟩
def OUT_STAT.ARMED (c : Nat) : Fld := ⟨c, 0x800008, 3, 1, 0⟩
def OUT_STAT.CALERR (c : Nat) : Fld := ⟨c, 0x800008, 16, 1, 0⟩
def OUT_STAT.LATE (c : Nat) : Fld := ⟨c, 0x800008, 17, 1, 0⟩
def OUT_STAT.MERGE (c : Nat) : Fld := ⟨c, 0x800008, 18, 1, 0⟩
def OUT_STAT.ALLOSS (c : Nat) : Fld := ⟨c, 0x800008, 19, 1, 0⟩
def OUT_DIV.DIV (c : Nat) : Fld := ⟨c, 0x80000C, 0, 32, 0⟩
def OUT_PARAM.PARAM (c : Nat) : Fld := ⟨c, 0x800010, 0, 32, 0⟩
def OUT_PHASE.PHASE (c : Nat) : Fld := ⟨c, 0x800014, 0, 32, 0⟩
def OUT_DELAY.DELAY (c : Nat) : Fld := ⟨c, 0x800018, 0, 16, 0⟩
def OUT_ALCFG.MODE (c : Nat) : Fld := ⟨c, 0x80001C, 0, 2, 0⟩
def OUT_ALCFG.HELD (c : Nat) : Fld := ⟨c, 0x80001C, 2, 1, 0⟩
def OUT_ALCFG.CH (c : Nat) : Fld := ⟨c, 0x80001C, 4, 4, 0⟩
def OUT_ALCFG.MINSPC (c : Nat) : Fld := ⟨c, 0x80001C, 8, 20, 0x3E8⟩
def OUT_ALOFF.ALOFF (c : Nat) : Fld := ⟨c, 0x800020, 0, 32, 0x7D0⟩
def OUT_CAL.TRIM (c : Nat) : Fld := ⟨c, 0x800024, 0, 11, 0⟩
def OUT_CAL.CALOK (c : Nat) : Fld := ⟨c, 0x800024, 12, 1, 0⟩
def OUT_CAL.CALSRC (c : Nat) : Fld := ⟨c, 0x800024, 13, 1, 0⟩
def OUT_CAL.RECAL (c : Nat) : Fld := ⟨c, 0x800024, 14, 1, 0⟩
def OUT_CAL.ERR (c : Nat) : Fld := ⟨c, 0x800024, 16, 16, 0⟩
def OUT_ERRB.ERRB (c : Nat) : Fld := ⟨c, 0x800028, 0, 32, 0xFFFFFFFF⟩
def OUT_SYN_FREQ.FREQ (n : Nat) : Fld := ⟨0, 0x800100 + 0x20 * n, 0, 48, 0⟩
def OUT_SYN_CTRL.RELOCK (n : Nat) : Fld := ⟨0, 0x800108 + 0x20 * n, 0, 1, 0⟩
def OUT_SYN_CTRL.REALIGN (n : Nat) : Fld := ⟨0, 0x800108 + 0x20 * n, 1, 1, 0⟩
def OUT_SYN_CTRL.KEY (n : Nat) : Fld := ⟨0, 0x800108 + 0x20 * n, 16, 16, 0⟩
def OUT_SYN_STAT.STATE (n : Nat) : Fld := ⟨0, 0x80010C + 0x20 * n, 0, 3, 0⟩
def OUT_SYN_STAT.M (n : Nat) : Fld := ⟨0, 0x80010C + 0x20 * n, 3, 5, 0⟩
def OUT_SYN_STAT.KEXP (n : Nat) : Fld := ⟨0, 0x80010C + 0x20 * n, 8, 5, 0⟩
def OUT_SYN_STAT.NOUT (n : Nat) : Fld := ⟨0, 0x80010C + 0x20 * n, 13, 2, 0⟩
def OUT_SYN_STAT.LOL (n : Nat) : Fld := ⟨0, 0x80010C + 0x20 * n, 16, 1, 0⟩
def OUT_SYN_STAT.REFLOSS (n : Nat) : Fld := ⟨0, 0x80010C + 0x20 * n, 17, 1, 0⟩
def OUT_SYN_STAT.NOSLEW (n : Nat) : Fld := ⟨0, 0x80010C + 0x20 * n, 18, 1, 0⟩
def OUT_SYN_STAT.RELOCKED (n : Nat) : Fld := ⟨0, 0x80010C + 0x20 * n, 19, 1, 0⟩
-- block PRT
def PRT_CTRL.ADMIN (n : Nat) : Fld := ⟨0, 0x900000 + 0x100 * n, 0, 1, 0⟩
def PRT_CTRL.RXPAUSE (n : Nat) : Fld := ⟨0, 0x900000 + 0x100 * n, 1, 1, 0⟩
def PRT_CTRL.LATCAL (n : Nat) : Fld := ⟨0, 0x900000 + 0x100 * n, 2, 1, 0⟩
def PRT_CTRL.ASYMCAL (n : Nat) : Fld := ⟨0, 0x900000 + 0x100 * n, 3, 1, 0⟩
def PRT_STAT.MODE (n : Nat) : Fld := ⟨0, 0x900004 + 0x100 * n, 0, 2, 0⟩
def PRT_STAT.FEC (n : Nat) : Fld := ⟨0, 0x900004 + 0x100 * n, 2, 2, 0⟩
def PRT_STAT.PREEMPT (n : Nat) : Fld := ⟨0, 0x900004 + 0x100 * n, 4, 1, 0⟩
def PRT_STAT.SYNCE_TX (n : Nat) : Fld := ⟨0, 0x900004 + 0x100 * n, 5, 1, 0⟩
def PRT_STAT.LINK (n : Nat) : Fld := ⟨0, 0x900004 + 0x100 * n, 6, 1, 0⟩
def PRT_STAT.LATOK (n : Nat) : Fld := ⟨0, 0x900004 + 0x100 * n, 7, 1, 0⟩
def PRT_STAT.VERIFY (n : Nat) : Fld := ⟨0, 0x900004 + 0x100 * n, 8, 2, 0⟩
def PRT_STAT.LINKUP (n : Nat) : Fld := ⟨0, 0x900004 + 0x100 * n, 16, 1, 0⟩
def PRT_STAT.LINKDN (n : Nat) : Fld := ⟨0, 0x900004 + 0x100 * n, 17, 1, 0⟩
def PRT_STAT.STAMPOVF (n : Nat) : Fld := ⟨0, 0x900004 + 0x100 * n, 18, 1, 0⟩
def PRT_STAT.ACDONE (n : Nat) : Fld := ⟨0, 0x900004 + 0x100 * n, 19, 1, 0⟩
def PRT_STAT.ACFAIL (n : Nat) : Fld := ⟨0, 0x900004 + 0x100 * n, 20, 1, 0⟩
def PRT_STAT.ACWHY (n : Nat) : Fld := ⟨0, 0x900004 + 0x100 * n, 24, 4, 0⟩
def PRT_PLANE.TXDLY (n : Nat) : Fld := ⟨0, 0x900008 + 0x100 * n, 0, 16, 0⟩
def PRT_PLANE.RXDLY (n : Nat) : Fld := ⟨0, 0x900008 + 0x100 * n, 16, 16, 0⟩
def PRT_PLANEUNC.UNC (n : Nat) : Fld := ⟨0, 0x90000C + 0x100 * n, 0, 16, 0⟩
def PRT_ASYM.ASYM (n : Nat) : Fld := ⟨0, 0x900010 + 0x100 * n, 0, 32, 0⟩
def PRT_LINKUNC.UNC (n : Nat) : Fld := ⟨0, 0x900014 + 0x100 * n, 0, 32, 0xFFFFFFFF⟩
def PRT_UASYM.UASYM (n : Nat) : Fld := ⟨0, 0x900018 + 0x100 * n, 0, 32, 0xFFFFFFFF⟩
def PRT_LAT.TXLAT (n : Nat) : Fld := ⟨0, 0x90001C + 0x100 * n, 0, 16, 0⟩
def PRT_LAT.RXLAT (n : Nat) : Fld := ⟨0, 0x90001C + 0x100 * n, 16, 16, 0⟩
def PRT_ACAL.SEC (n : Nat) : Fld := ⟨0, 0x900020 + 0x100 * n, 0, 17, 0x258⟩
def PRT_ESMC.MSSM (n : Nat) : Fld := ⟨0, 0x900024 + 0x100 * n, 0, 4, 0xF⟩
def PRT_ESMC.MESSM (n : Nat) : Fld := ⟨0, 0x900024 + 0x100 * n, 4, 8, 0xFF⟩
def PRT_ESMC.TXEN (n : Nat) : Fld := ⟨0, 0x900024 + 0x100 * n, 12, 1, 0⟩
def PRT_ESMC.AUTO (n : Nat) : Fld := ⟨0, 0x900024 + 0x100 * n, 13, 1, 0x1⟩
def PRT_ESMC.EXT (n : Nat) : Fld := ⟨0, 0x900024 + 0x100 * n, 14, 1, 0x1⟩
def PRT_ESMC.SSSM (n : Nat) : Fld := ⟨0, 0x900024 + 0x100 * n, 16, 4, 0⟩
def PRT_ESMC.SESSM (n : Nat) : Fld := ⟨0, 0x900024 + 0x100 * n, 20, 8, 0⟩
def PRT_CNT.OVF (n : Nat) : Fld := ⟨0, 0x900028 + 0x100 * n, 0, 16, 0⟩
def PRT_CNT.NOLAT (n : Nat) : Fld := ⟨0, 0x900028 + 0x100 * n, 16, 16, 0⟩
def PRT_MG_CTRL.ADMIN : Fld := ⟨0, 0x900400, 0, 1, 0x1⟩
def PRT_MG_CTRL.NTP : Fld := ⟨0, 0x900400, 1, 1, 0⟩
def PRT_MG_STAT.SPEED : Fld := ⟨0, 0x900404, 0, 2, 0⟩
def PRT_MG_STAT.LINKUP : Fld := ⟨0, 0x900404, 16, 1, 0⟩
def PRT_MG_STAT.LINKDN : Fld := ⟨0, 0x900404, 17, 1, 0⟩
def PRT_SYT_STAT.STATE : Fld := ⟨0, 0x900800, 0, 3, 0⟩
def PRT_SYT_STAT.LIMIT : Fld := ⟨0, 0x900800, 3, 1, 0⟩
def PRT_SYT_STAT.LOL : Fld := ⟨0, 0x900800, 16, 1, 0⟩
-- block APD
def APD_OFFSET.NTS : Fld := ⟨0, 0xA00000, 0, 16, 0⟩
def APD_OFFSET.PTP : Fld := ⟨0, 0xA00000, 16, 16, 0⟩
def APD_RETRY.RETRY : Fld := ⟨0, 0xA00004, 0, 3, 0⟩
def APD_REOFF.REOFF : Fld := ⟨0, 0xA00008, 0, 14, 0xA0⟩
def APD_SLIP.SLIP : Fld := ⟨0, 0xA0000C, 0, 14, 0x7D0⟩
def APD_SLIP.MAXAGE : Fld := ⟨0, 0xA0000C, 16, 10, 0x32⟩
def APD_BGUARD.GUARD : Fld := ⟨0, 0xA00010, 0, 16, 0x10⟩
def APD_PSTAT.PEND (n : Nat) : Fld := ⟨0, 0xA00100 + 0x100 * n, 0, 7, 0⟩
def APD_PSTAT.HOLD (n : Nat) : Fld := ⟨0, 0xA00100 + 0x100 * n, 7, 1, 0⟩
def APD_PSTAT.LASTCAUSE (n : Nat) : Fld := ⟨0, 0xA00100 + 0x100 * n, 8, 4, 0⟩
def APD_PSTAT.COLLAPSED (n : Nat) : Fld := ⟨0, 0xA00100 + 0x100 * n, 16, 1, 0⟩
def APD_PSTAT.FALLBACK (n : Nat) : Fld := ⟨0, 0xA00100 + 0x100 * n, 17, 1, 0⟩
def APD_PSTAT.DROP (n : Nat) : Fld := ⟨0, 0xA00100 + 0x100 * n, 18, 1, 0⟩
def APD_PSTAT.TRUNC (n : Nat) : Fld := ⟨0, 0xA00100 + 0x100 * n, 19, 1, 0⟩
def APD_PCTRL.CLRCNT (n : Nat) : Fld := ⟨0, 0xA00104 + 0x100 * n, 0, 1, 0⟩
def APD_PCTRL.CLRMARG (n : Nat) : Fld := ⟨0, 0xA00104 + 0x100 * n, 1, 1, 0⟩
def APD_APPT.APPT (n : Nat) : Fld := ⟨0, 0xA00108 + 0x100 * n, 0, 64, 0⟩
def APD_SENT.SENT (n : Nat) : Fld := ⟨0, 0xA00110 + 0x100 * n, 0, 64, 0⟩
def APD_RESEAL.RESEAL (n : Nat) : Fld := ⟨0, 0xA00118 + 0x100 * n, 0, 32, 0⟩
def APD_FB.TWOSTEP (n : Nat) : Fld := ⟨0, 0xA0011C + 0x100 * n, 0, 16, 0⟩
def APD_FB.FREE (n : Nat) : Fld := ⟨0, 0xA0011C + 0x100 * n, 16, 16, 0⟩
def APD_DROP.DROP (n : Nat) : Fld := ⟨0, 0xA00120 + 0x100 * n, 0, 16, 0⟩
def APD_DROP.TRUNC (n : Nat) : Fld := ⟨0, 0xA00120 + 0x100 * n, 16, 16, 0⟩
def APD_COLL.CA (n j : Nat) : Fld := ⟨0, 0xA00124 + 0x100 * n + 0x4 * j, 0, 16, 0⟩
def APD_COLL.CB (n j : Nat) : Fld := ⟨0, 0xA00124 + 0x100 * n + 0x4 * j, 16, 16, 0⟩
def APD_MARGIN.MIN (n : Nat) : Fld := ⟨0, 0xA0013C + 0x100 * n, 0, 16, 0x7FFF⟩
def APD_MARGIN.LAST (n : Nat) : Fld := ⟨0, 0xA0013C + 0x100 * n, 16, 16, 0⟩
def APD_SPEC_IN.IN : Fld := ⟨0, 0xA00800, 0, 64, 0⟩
def APD_SPEC_ABORT.ABORT : Fld := ⟨0, 0xA00808, 0, 64, 0⟩
def APD_SPEC_COMMIT.COMMIT : Fld := ⟨0, 0xA00810, 0, 64, 0⟩
-- block PKE
def PKE_CTRL.DRAIN : Fld := ⟨0, 0xB00000, 0, 1, 0⟩
def PKE_STAT.DRAINED : Fld := ⟨0, 0xB00004, 0, 1, 0⟩
def PKE_STAT.NPIPE : Fld := ⟨0, 0xB00004, 8, 8, 0⟩
def PKE_STAT.ENGFLT : Fld := ⟨0, 0xB00004, 16, 1, 0⟩
def PKE_STAT.QFULL : Fld := ⟨0, 0xB00004, 17, 1, 0⟩
def PKE_STAT.RINGDROP : Fld := ⟨0, 0xB00004, 18, 1, 0⟩
def PKE_STAT.REFUSED : Fld := ⟨0, 0xB00004, 19, 1, 0⟩
def PKE_QSTAT.PLEVEL (n : Nat) : Fld := ⟨0, 0xB00010 + 0x4 * n, 0, 2, 0⟩
def PKE_QSTAT.SLEEP (n : Nat) : Fld := ⟨0, 0xB00010 + 0x4 * n, 2, 2, 0⟩
def PKE_QSTAT.MISSING (n : Nat) : Fld := ⟨0, 0xB00010 + 0x4 * n, 4, 1, 0⟩
def PKE_QSTAT.USED (n : Nat) : Fld := ⟨0, 0xB00010 + 0x4 * n, 16, 16, 0⟩
def PKE_ENG.PIPE (n : Nat) : Fld := ⟨0, 0xB00020 + 0x4 * n, 0, 8, 0⟩
def PKE_ENG.STAGE (n : Nat) : Fld := ⟨0, 0xB00020 + 0x4 * n, 8, 2, 0⟩
def PKE_ENG.THREADS (n : Nat) : Fld := ⟨0, 0xB00020 + 0x4 * n, 10, 4, 0⟩
def PKE_ENG.RUN (n : Nat) : Fld := ⟨0, 0xB00020 + 0x4 * n, 14, 1, 0⟩
def PKE_ENG.FAULT (n : Nat) : Fld := ⟨0, 0xB00020 + 0x4 * n, 15, 1, 0⟩
def PKE_ENG.CTX (n : Nat) : Fld := ⟨0, 0xB00020 + 0x4 * n, 16, 6, 0⟩
def PKE_LANE.SIVBUSY : Fld := ⟨0, 0xB00080, 0, 8, 0⟩
def PKE_LANE.HMBUSY : Fld := ⟨0, 0xB00080, 8, 4, 0⟩
def PKE_LANE.REFCNT : Fld := ⟨0, 0xB00080, 16, 16, 0⟩
def PKE_CLS_CTRL.WRITE : Fld := ⟨0, 0xB00100, 0, 1, 0⟩
def PKE_CLS_CTRL.READ : Fld := ⟨0, 0xB00100, 1, 1, 0⟩
def PKE_CLS_SEL.IDX (q : Nat) : Fld := ⟨q, 0xB00104, 0, 12, 0⟩
def PKE_CLS_STAT.COUNT : Fld := ⟨0, 0xB00108, 0, 13, 0⟩
def PKE_CLS_STAT.BANK : Fld := ⟨0, 0xB00108, 13, 1, 0⟩
def PKE_CLS_STAT.DEFAULT : Fld := ⟨0, 0xB00108, 16, 16, 0⟩
def PKE_CLS_HIT.HIT : Fld := ⟨0, 0xB0010C, 0, 32, 0⟩
def PKE_CLS_WIN.WORD (q n : Nat) : Fld := ⟨q, 0xB00110 + 0x4 * n, 0, 32, 0⟩
def PKE_PCNT_IN.IN (n : Nat) : Fld := ⟨0, 0xB00200 + 0x10 * n, 0, 32, 0⟩
def PKE_PCNT_DROP.QFULL (n : Nat) : Fld := ⟨0, 0xB00204 + 0x10 * n, 0, 16, 0⟩
def PKE_PCNT_DROP.LONG (n : Nat) : Fld := ⟨0, 0xB00204 + 0x10 * n, 16, 16, 0⟩
def PKE_PCNT_DRDROP.DRDROP (n : Nat) : Fld := ⟨0, 0xB00208 + 0x10 * n, 0, 32, 0⟩
def PKE_PCNT_CLR.CLR (n : Nat) : Fld := ⟨0, 0xB0020C + 0x10 * n, 0, 1, 0⟩
def PKE_RING_BASE_LO.ADDR (n : Nat) : Fld := ⟨0, 0xB10000 + 0x20 * n, 6, 26, 0⟩
def PKE_RING_BASE_HI.ADDR (n : Nat) : Fld := ⟨0, 0xB10004 + 0x20 * n, 0, 32, 0⟩
def PKE_RING_CFG.SIZE (n : Nat) : Fld := ⟨0, 0xB10008 + 0x20 * n, 0, 4, 0⟩
def PKE_RING_CFG.EN (n : Nat) : Fld := ⟨0, 0xB10008 + 0x20 * n, 4, 1, 0⟩
def PKE_RING_CFG.IRQEN (n : Nat) : Fld := ⟨0, 0xB10008 + 0x20 * n, 5, 1, 0⟩
def PKE_RING_CFG.VEC (n : Nat) : Fld := ⟨0, 0xB10008 + 0x20 * n, 6, 7, 0⟩
def PKE_RING_CFG.COALN (n : Nat) : Fld := ⟨0, 0xB10008 + 0x20 * n, 16, 8, 0⟩
def PKE_RING_CFG.COALT (n : Nat) : Fld := ⟨0, 0xB10008 + 0x20 * n, 24, 8, 0⟩
def PKE_RING_DEST.PORT (n : Nat) : Fld := ⟨0, 0xB1000C + 0x20 * n, 0, 3, 0⟩
def PKE_RING_DEST.TOPIPE (n : Nat) : Fld := ⟨0, 0xB1000C + 0x20 * n, 3, 1, 0⟩
def PKE_RING_DEST.PIPE (n : Nat) : Fld := ⟨0, 0xB1000C + 0x20 * n, 4, 3, 0⟩
def PKE_RING_PROD.PROD (n : Nat) : Fld := ⟨0, 0xB10010 + 0x20 * n, 0, 17, 0⟩
def PKE_RING_CONS.CONS (n : Nat) : Fld := ⟨0, 0xB10014 + 0x20 * n, 0, 17, 0⟩
def PKE_RING_DROP.DROP (n : Nat) : Fld := ⟨0, 0xB10018 + 0x20 * n, 0, 32, 0⟩
-- block NTS
def NTS_CFG.NTS : Fld := ⟨0, 0xC00000, 0, 1, 0⟩
def NTS_CFG.PLAIN : Fld := ⟨0, 0xC00000, 1, 1, 0⟩
def NTS_CFG.V3 : Fld := ⟨0, 0xC00000, 2, 1, 0⟩
def NTS_CFG.UNSYNC : Fld := ⟨0, 0xC00000, 4, 1, 0x1⟩
def NTS_CFG.PFX6 : Fld := ⟨0, 0xC00000, 8, 7, 0x40⟩
def NTS_STAT.CUR : Fld := ⟨0, 0xC00004, 0, 2, 0⟩
def NTS_STAT.TESTKEY : Fld := ⟨0, 0xC00004, 2, 1, 0⟩
def NTS_STAT.ROTBUSY : Fld := ⟨0, 0xC00004, 3, 1, 0⟩
def NTS_STAT.ROTATED : Fld := ⟨0, 0xC00004, 16, 1, 0⟩
def NTS_STAT.EARLYEXP : Fld := ⟨0, 0xC00004, 17, 1, 0⟩
def NTS_STAT.KEYFAIL : Fld := ⟨0, 0xC00004, 18, 1, 0⟩
def NTS_STAT.STALE : Fld := ⟨0, 0xC00004, 19, 1, 0⟩
def NTS_SRV.PREC : Fld := ⟨0, 0xC00008, 0, 8, 0xE0⟩
def NTS_REFID.REFID : Fld := ⟨0, 0xC0000C, 0, 32, 0⟩
def NTS_ROT.PERIOD : Fld := ⟨0, 0xC00010, 0, 16, 0x2A30⟩
def NTS_ROT.GRACE : Fld := ⟨0, 0xC00010, 16, 16, 0x5460⟩
def NTS_ROTCTRL.ROTATE : Fld := ⟨0, 0xC00014, 0, 1, 0⟩
def NTS_ROTCTRL.RESEED : Fld := ⟨0, 0xC00014, 1, 1, 0⟩
def NTS_ROTCTRL.KEY : Fld := ⟨0, 0xC00014, 16, 16, 0⟩
def NTS_CTRL.CLRCNT : Fld := ⟨0, 0xC00018, 0, 1, 0⟩
def NTS_KPOS.ENCSLOT (n : Nat) : Fld := ⟨0, 0xC00020 + 0x4 * n, 0, 8, 0⟩
def NTS_KPOS.DECSLOT (n : Nat) : Fld := ⟨0, 0xC00020 + 0x4 * n, 8, 8, 0⟩
def NTS_KPOS.STATE (n : Nat) : Fld := ⟨0, 0xC00020 + 0x4 * n, 16, 2, 0⟩
def NTS_KPOS.GEN (n : Nat) : Fld := ⟨0, 0xC00020 + 0x4 * n, 18, 14, 0⟩
def NTS_KSINCE.SEC (n : Nat) : Fld := ⟨0, 0xC00030 + 0x4 * n, 0, 32, 0⟩
def NTS_RATE.RATE (n : Nat) : Fld := ⟨0, 0xC00040 + 0x4 * n, 0, 11, 0x40⟩
def NTS_RATE.ACT (n : Nat) : Fld := ⟨0, 0xC00040 + 0x4 * n, 11, 1, 0⟩
def NTS_RATE.BURST (n : Nat) : Fld := ⟨0, 0xC00040 + 0x4 * n, 16, 12, 0x100⟩
def NTS_KE.CERTSLOT : Fld := ⟨0, 0xC00050, 0, 8, 0⟩
def NTS_KE.SRVNEG : Fld := ⟨0, 0xC00050, 8, 1, 0⟩
def NTS_KE.MAXCONN : Fld := ⟨0, 0xC00050, 16, 15, 0x4000⟩
def NTS_KE_STAT.OPEN : Fld := ⟨0, 0xC00054, 0, 15, 0⟩
def NTS_KE_STAT.HS : Fld := ⟨0, 0xC00054, 16, 16, 0⟩
def NTS_REPLY.REPLY : Fld := ⟨0, 0xC00100, 0, 64, 0⟩
def NTS_PLAIN.PLAIN : Fld := ⟨0, 0xC00108, 0, 64, 0⟩
def NTS_NAK.UNKNOWN : Fld := ⟨0, 0xC00110, 0, 16, 0⟩
def NTS_NAK.BADCOOKIE : Fld := ⟨0, 0xC00110, 16, 16, 0⟩
def NTS_KISS.KISS : Fld := ⟨0, 0xC00114, 0, 32, 0⟩
def NTS_STALE.STALE : Fld := ⟨0, 0xC00118, 0, 32, 0⟩
def NTS_SPEC.CNT (n : Nat) : Fld := ⟨0, 0xC00200 + 0x4 * n, 0, 32, 0⟩
-- block PTP
def PTP_CFG.PROFILE : Fld := ⟨0, 0xD00000, 0, 2, 0⟩
def PTP_CFG.ONESTEP : Fld := ⟨0, 0xD00000, 2, 1, 0⟩
def PTP_CFG.UNGRANTED : Fld := ⟨0, 0xD00000, 3, 1, 0⟩
def PTP_CFG.BTLV : Fld := ⟨0, 0xD00000, 4, 1, 0x1⟩
def PTP_CFG.BTLVRX : Fld := ⟨0, 0xD00000, 5, 1, 0x1⟩
def PTP_CFG.DOMAIN : Fld := ⟨0, 0xD00000, 8, 8, 0⟩
def PTP_CFG.SDOID : Fld := ⟨0, 0xD00000, 16, 4, 0⟩
def PTP_STAT.CLASS : Fld := ⟨0, 0xD00004, 0, 8, 0xF8⟩
def PTP_STAT.ACC : Fld := ⟨0, 0xD00004, 8, 8, 0xFE⟩
def PTP_STAT.TRACE : Fld := ⟨0, 0xD00004, 16, 1, 0⟩
def PTP_STAT.GRANTFULL : Fld := ⟨0, 0xD00004, 24, 1, 0⟩
def PTP_STAT.AUTHFAIL : Fld := ⟨0, 0xD00004, 25, 1, 0⟩
def PTP_STAT.CLASSCHG : Fld := ⟨0, 0xD00004, 26, 1, 0⟩
def PTP_STAT.PARENT : Fld := ⟨0, 0xD00004, 27, 1, 0⟩
def PTP_STAT.LAGGED : Fld := ⟨0, 0xD00004, 28, 1, 0⟩
def PTP_VAR.VAR : Fld := ⟨0, 0xD00008, 0, 16, 0x4E5D⟩
def PTP_PRIO.PRIO1 : Fld := ⟨0, 0xD0000C, 0, 8, 0x80⟩
def PTP_PRIO.PRIO2 : Fld := ⟨0, 0xD0000C, 8, 8, 0x80⟩
def PTP_PRIO.LOCALPRIO : Fld := ⟨0, 0xD0000C, 16, 8, 0x80⟩
def PTP_HOLDSPEC.LIM : Fld := ⟨0, 0xD00010, 0, 32, 0xF4240⟩
def PTP_BTLV.ORGID : Fld := ⟨0, 0xD00014, 0, 24, 0x4A9612⟩
def PTP_PAIR.STBYMODE : Fld := ⟨0, 0xD00018, 0, 2, 0x2⟩
def PTP_PAIR.SHAREDID : Fld := ⟨0, 0xD00018, 2, 1, 0⟩
def PTP_PAIR.STBYADD : Fld := ⟨0, 0xD00018, 3, 8, 0x1⟩
def PTP_GLIM.SYNCMIN : Fld := ⟨0, 0xD0001C, 0, 8, 0xF9⟩
def PTP_GLIM.ANNMIN : Fld := ⟨0, 0xD0001C, 8, 8, 0xFD⟩
def PTP_GLIM.DRMIN : Fld := ⟨0, 0xD0001C, 16, 8, 0xF9⟩
def PTP_GDUR.MAXDUR : Fld := ⟨0, 0xD00020, 0, 16, 0x12C⟩
def PTP_GSTAT.VALID : Fld := ⟨0, 0xD00024, 0, 17, 0⟩
def PTP_GSEL.IDX (q : Nat) : Fld := ⟨q, 0xD00028, 0, 16, 0⟩
def PTP_GCTRL.READ : Fld := ⟨0, 0xD0002C, 0, 1, 0⟩
def PTP_GCTRL.INVAL : Fld := ⟨0, 0xD0002C, 1, 1, 0⟩
def PTP_GCTRL.FLUSH : Fld := ⟨0, 0xD0002C, 2, 1, 0⟩
def PTP_GCTRL.KEY : Fld := ⟨0, 0xD0002C, 16, 16, 0⟩
def PTP_SCHED.LEAD : Fld := ⟨0, 0xD00030, 0, 16, 0x3E8⟩
def PTP_GWIN.WORD (q n : Nat) : Fld := ⟨q, 0xD00040 + 0x4 * n, 0, 32, 0⟩
def PTP_SA_0.SPP (n : Nat) : Fld := ⟨0, 0xD00080 + 0x8 * n, 0, 8, 0⟩
def PTP_SA_0.ENCSLOT (n : Nat) : Fld := ⟨0, 0xD00080 + 0x8 * n, 8, 8, 0⟩
def PTP_SA_0.DECSLOT (n : Nat) : Fld := ⟨0, 0xD00080 + 0x8 * n, 16, 8, 0⟩
def PTP_SA_0.VALID (n : Nat) : Fld := ⟨0, 0xD00080 + 0x8 * n, 24, 1, 0⟩
def PTP_SA_0.TX (n : Nat) : Fld := ⟨0, 0xD00080 + 0x8 * n, 25, 1, 0⟩
def PTP_SA_1.KEYID (n : Nat) : Fld := ⟨0, 0xD00084 + 0x8 * n, 0, 32, 0⟩
def PTP_PCFG.EN (n : Nat) : Fld := ⟨0, 0xD00100 + 0x40 * n, 0, 1, 0⟩
def PTP_PCFG.TRANSPORT (n : Nat) : Fld := ⟨0, 0xD00100 + 0x40 * n, 1, 2, 0⟩
def PTP_PCFG.P2P (n : Nat) : Fld := ⟨0, 0xD00100 + 0x40 * n, 3, 1, 0⟩
def PTP_PCFG.MCAST (n : Nat) : Fld := ⟨0, 0xD00100 + 0x40 * n, 4, 1, 0x1⟩
def PTP_PCFG.NFWD (n : Nat) : Fld := ⟨0, 0xD00100 + 0x40 * n, 5, 1, 0⟩
def PTP_PCFG.AUTHREQ (n : Nat) : Fld := ⟨0, 0xD00100 + 0x40 * n, 6, 1, 0⟩
def PTP_PCFG.MASTERONLY (n : Nat) : Fld := ⟨0, 0xD00100 + 0x40 * n, 7, 1, 0⟩
def PTP_PCFG.SPP (n : Nat) : Fld := ⟨0, 0xD00100 + 0x40 * n, 8, 8, 0⟩
def PTP_PINTV.LOGSYNC (n : Nat) : Fld := ⟨0, 0xD00104 + 0x40 * n, 0, 8, 0⟩
def PTP_PINTV.LOGANN (n : Nat) : Fld := ⟨0, 0xD00104 + 0x40 * n, 8, 8, 0x1⟩
def PTP_PINTV.LOGMINDREQ (n : Nat) : Fld := ⟨0, 0xD00104 + 0x40 * n, 16, 8, 0⟩
def PTP_PINTV.LOGPDREQ (n : Nat) : Fld := ⟨0, 0xD00104 + 0x40 * n, 24, 8, 0⟩
def PTP_PSTAT.STATE (n : Nat) : Fld := ⟨0, 0xD00108 + 0x40 * n, 0, 4, 0x1⟩
def PTP_PSTAT.STATECHG (n : Nat) : Fld := ⟨0, 0xD00108 + 0x40 * n, 16, 1, 0⟩
def PTP_CNT.CNT (n j : Nat) : Fld := ⟨0, 0xD00110 + 0x40 * n + 0x4 * j, 0, 32, 0⟩
def PTP_PCTRL.CLRCNT (n : Nat) : Fld := ⟨0, 0xD00130 + 0x40 * n, 0, 1, 0⟩
def PTP_SPEC.CNT (n : Nat) : Fld := ⟨0, 0xD00400 + 0x4 * n, 0, 32, 0⟩
-- block KVT
def KVT_STAT.HOLDOK : Fld := ⟨0, 0xE00000, 0, 1, 0⟩
def KVT_STAT.DBG : Fld := ⟨0, 0xE00000, 1, 1, 0⟩
def KVT_STAT.PFAIL : Fld := ⟨0, 0xE00000, 2, 1, 0⟩
def KVT_STAT.BUSY : Fld := ⟨0, 0xE00000, 3, 1, 0⟩
def KVT_STAT.ZEPMAX : Fld := ⟨0, 0xE00000, 4, 1, 0⟩
def KVT_STAT.ZEPOCH : Fld := ⟨0, 0xE00000, 5, 6, 0⟩
def KVT_STAT.ROLLBACK : Fld := ⟨0, 0xE00000, 16, 1, 0⟩
def KVT_STAT.ZEROISED : Fld := ⟨0, 0xE00000, 17, 1, 0⟩
def KVT_STAT.CELLFLT : Fld := ⟨0, 0xE00000, 18, 1, 0⟩
def KVT_STAT.HOLDFLT : Fld := ⟨0, 0xE00000, 19, 1, 0⟩
def KVT_STAT.STALEOP : Fld := ⟨0, 0xE00000, 20, 1, 0⟩
def KVT_STAT.RESTORE : Fld := ⟨0, 0xE00000, 21, 1, 0⟩
def KVT_CTRL.ZEROISE : Fld := ⟨0, 0xE00004, 0, 1, 0⟩
def KVT_CTRL.KEY : Fld := ⟨0, 0xE00004, 16, 16, 0⟩
def KVT_SEL.SLOT (q : Nat) : Fld := ⟨q, 0xE00008, 0, 8, 0⟩
def KVT_OP.CODE (q : Nat) : Fld := ⟨q, 0xE00010, 0, 4, 0⟩
def KVT_OP.TREE (q : Nat) : Fld := ⟨q, 0xE00010, 4, 1, 0⟩
def KVT_OP.CURVE (q : Nat) : Fld := ⟨q, 0xE00010, 5, 1, 0⟩
def KVT_OP.RAWPEER (q : Nat) : Fld := ⟨q, 0xE00010, 6, 1, 0⟩
def KVT_OP.START (q : Nat) : Fld := ⟨q, 0xE00010, 7, 1, 0⟩
def KVT_OP.SLOT (q : Nat) : Fld := ⟨q, 0xE00010, 8, 8, 0⟩
def KVT_OP.WSLOT (q : Nat) : Fld := ⟨q, 0xE00010, 16, 8, 0⟩
def KVT_OPCTX.CTX (q n : Nat) : Fld := ⟨q, 0xE00014 + 0x4 * n, 0, 32, 0⟩
def KVT_OPADDR.ADDR (q : Nat) : Fld := ⟨q, 0xE00020, 6, 26, 0⟩
def KVT_OPSTAT.RESULT (q : Nat) : Fld := ⟨q, 0xE00024, 0, 4, 0⟩
def KVT_OPSTAT.STALE (q : Nat) : Fld := ⟨q, 0xE00024, 4, 1, 0⟩
def KVT_OPSTAT.WAIT (q : Nat) : Fld := ⟨q, 0xE00024, 5, 1, 0⟩
def KVT_OPSTAT.QUEUE (q : Nat) : Fld := ⟨q, 0xE00024, 6, 3, 0⟩
def KVT_DESC.WORD (n : Nat) : Fld := ⟨0, 0xE00040 + 0x4 * n, 0, 32, 0⟩
-- block PAIR
def PAIR_CFG.EN : Fld := ⟨0, 0xF00000, 0, 1, 0⟩
def PAIR_CFG.WTR : Fld := ⟨0, 0xF00000, 16, 12, 0⟩
def PAIR_THR.THR : Fld := ⟨0, 0xF00004, 0, 16, 0x7D0⟩
def PAIR_THR.PPSUNC : Fld := ⟨0, 0xF00004, 16, 16, 0x14⟩
def PAIR_STAT.ROLE : Fld := ⟨0, 0xF00008, 0, 2, 0⟩
def PAIR_STAT.STATE : Fld := ⟨0, 0xF00008, 2, 3, 0⟩
def PAIR_STAT.HOME : Fld := ⟨0, 0xF00008, 5, 1, 0⟩
def PAIR_STAT.ARMED : Fld := ⟨0, 0xF00008, 6, 1, 0⟩
def PAIR_STAT.CLEAN : Fld := ⟨0, 0xF00008, 7, 1, 0⟩
def PAIR_STAT.VERD : Fld := ⟨0, 0xF00008, 8, 2, 0⟩
def PAIR_STAT.TVERD : Fld := ⟨0, 0xF00008, 10, 2, 0⟩
def PAIR_STAT.RCPDIFF : Fld := ⟨0, 0xF00008, 12, 1, 0⟩
def PAIR_STAT.LANE1 : Fld := ⟨0, 0xF00008, 13, 1, 0⟩
def PAIR_STAT.TAKEOVER : Fld := ⟨0, 0xF00008, 16, 1, 0⟩
def PAIR_STAT.YIELD : Fld := ⟨0, 0xF00008, 17, 1, 0⟩
def PAIR_STAT.SWAPPED : Fld := ⟨0, 0xF00008, 18, 1, 0⟩
def PAIR_STAT.DISPEV : Fld := ⟨0, 0xF00008, 19, 1, 0⟩
def PAIR_STAT.MISMATCH : Fld := ⟨0, 0xF00008, 20, 1, 0⟩
def PAIR_STAT.LINKFLT : Fld := ⟨0, 0xF00008, 21, 1, 0⟩
def PAIR_STAT.JOINED : Fld := ⟨0, 0xF00008, 22, 1, 0⟩
def PAIR_STAT.HOMECONF : Fld := ⟨0, 0xF00008, 23, 1, 0⟩
def PAIR_STAT.SWAPFAIL : Fld := ⟨0, 0xF00008, 24, 1, 0⟩
def PAIR_STAT.JGAP : Fld := ⟨0, 0xF00008, 25, 1, 0⟩
def PAIR_STAT.PPSFLT : Fld := ⟨0, 0xF00008, 26, 1, 0⟩
def PAIR_CTRL.SWAP : Fld := ⟨0, 0xF0000C, 0, 1, 0⟩
def PAIR_CTRL.RESYNC : Fld := ⟨0, 0xF0000C, 1, 1, 0⟩
def PAIR_CTRL.KEY : Fld := ⟨0, 0xF0000C, 16, 16, 0⟩
def PAIR_X.X : Fld := ⟨0, 0xF00010, 0, 32, 0⟩
def PAIR_XMAX.XMAX : Fld := ⟨0, 0xF00014, 0, 32, 0⟩
def PAIR_UPAIR.UPAIR : Fld := ⟨0, 0xF00018, 0, 32, 0⟩
def PAIR_TWINB.B : Fld := ⟨0, 0xF0001C, 0, 32, 0xFFFFFFFF⟩
def PAIR_WTR.LEFT : Fld := ⟨0, 0xF00020, 0, 12, 0⟩
def PAIR_DLY.D : Fld := ⟨0, 0xF00024, 0, 16, 0⟩
def PAIR_JTX.TX : Fld := ⟨0, 0xF00028, 0, 32, 0⟩
def PAIR_JRX.RX : Fld := ⟨0, 0xF0002C, 0, 32, 0⟩
def PAIR_JERR.RETX : Fld := ⟨0, 0xF00030, 0, 16, 0⟩
def PAIR_JERR.DIGERR : Fld := ⟨0, 0xF00030, 16, 16, 0⟩
def PAIR_KEY.PSLOT : Fld := ⟨0, 0xF00034, 0, 8, 0⟩
def PAIR_KEY.WSLOT : Fld := ⟨0, 0xF00034, 8, 8, 0⟩
def PAIR_TWINID.MODULE : Fld := ⟨0, 0xF00038, 0, 64, 0⟩
def PEER_SEL.PEER (q : Nat) : Fld := ⟨q, 0xF00100, 0, 11, 0⟩
def PEER_CFG.EN (c : Nat) : Fld := ⟨c, 0xF00104, 0, 1, 0⟩
def PEER_CFG.GROUP (c : Nat) : Fld := ⟨c, 0xF00104, 1, 1, 0⟩
def PEER_CFG.PORT (c : Nat) : Fld := ⟨c, 0xF00104, 2, 2, 0⟩
def PEER_CFG.TRANSPORT (c : Nat) : Fld := ⟨c, 0xF00104, 4, 2, 0⟩
def PEER_CFG.SPP (c : Nat) : Fld := ⟨c, 0xF00104, 8, 8, 0⟩
def PEER_CFG.LOGINT (c : Nat) : Fld := ⟨c, 0xF00104, 16, 8, 0⟩
def PEER_ADDR.ADDR (c n : Nat) : Fld := ⟨c, 0xF00108 + 0x4 * n, 0, 32, 0⟩
def PEER_ASYM.ASYM (c : Nat) : Fld := ⟨c, 0xF00118, 0, 32, 0⟩
def PEER_UNC.UNC (c : Nat) : Fld := ⟨c, 0xF0011C, 0, 32, 0xFFFFFFFF⟩
def PEER_STAT.REACH (c : Nat) : Fld := ⟨c, 0xF00120, 0, 1, 0⟩
def PEER_STAT.INCLIQ (c : Nat) : Fld := ⟨c, 0xF00120, 1, 1, 0⟩
def PEER_STAT.LOST (c : Nat) : Fld := ⟨c, 0xF00120, 16, 1, 0⟩
def PEER_THETA.THETA (c : Nat) : Fld := ⟨c, 0xF00124, 0, 32, 0⟩
def PEER_BND.B (c : Nat) : Fld := ⟨c, 0xF00128, 0, 32, 0xFFFFFFFF⟩
def PAIR_ENS_X.X (n : Nat) : Fld := ⟨0, 0xF00200 + 0x10 * n, 0, 32, 0⟩
def PAIR_ENS_U.U (n : Nat) : Fld := ⟨0, 0xF00204 + 0x10 * n, 0, 32, 0xFFFFFFFF⟩
def PAIR_ENS_N.N (n : Nat) : Fld := ⟨0, 0xF00208 + 0x10 * n, 0, 12, 0⟩
def PAIR_ENS_N.C (n : Nat) : Fld := ⟨0, 0xF00208 + 0x10 * n, 16, 12, 0⟩
-- block XBR
def XBR_CTRL.HIPRI : Fld := ⟨0, 0x1000000, 0, 12, 0xE0⟩
def XBR_ERR.MASTER : Fld := ⟨0, 0x1000004, 0, 4, 0⟩
def XBR_ERR.TARGET : Fld := ⟨0, 0x1000004, 4, 4, 0⟩
def XBR_ERR.CODE : Fld := ⟨0, 0x1000004, 8, 3, 0⟩
def XBR_ERR.ERR : Fld := ⟨0, 0x1000004, 16, 1, 0⟩
def XBR_ERR.MORE : Fld := ⟨0, 0x1000004, 17, 1, 0⟩
def XBR_ERRADDR.ADDR : Fld := ⟨0, 0x1000008, 0, 32, 0⟩
def XBR_AERR.REQ : Fld := ⟨0, 0x100000C, 0, 4, 0⟩
def XBR_AERR.CAUSE : Fld := ⟨0, 0x100000C, 4, 4, 0⟩
def XBR_AERR.AERR : Fld := ⟨0, 0x100000C, 16, 1, 0⟩
def XBR_AERR.MORE : Fld := ⟨0, 0x100000C, 17, 1, 0⟩
def XBR_AERRADDR.ADDR : Fld := ⟨0, 0x1000010, 0, 32, 0⟩
def XBR_ECC.CE : Fld := ⟨0, 0x1000014, 0, 16, 0⟩
def XBR_ECC.UECNT : Fld := ⟨0, 0x1000014, 16, 8, 0⟩
def XBR_ECC.BANK : Fld := ⟨0, 0x1000014, 24, 3, 0⟩
def XBR_ECC.UE : Fld := ⟨0, 0x1000014, 31, 1, 0⟩
def XBR_ECCADDR.ADDR : Fld := ⟨0, 0x1000018, 0, 32, 0⟩
def XBR_HWIN.BANKS : Fld := ⟨0, 0x100001C, 0, 6, 0x1⟩
def XBR_TSTAT.OWNER (n : Nat) : Fld := ⟨0, 0x1000040 + 0x4 * n, 0, 4, 0⟩
def XBR_TSTAT.LOCKED (n : Nat) : Fld := ⟨0, 0x1000040 + 0x4 * n, 4, 1, 0⟩
def XBR_TSTAT.BUSY (n : Nat) : Fld := ⟨0, 0x1000040 + 0x4 * n, 5, 1, 0⟩
def XBR_TSTAT.LOCKTO (n : Nat) : Fld := ⟨0, 0x1000040 + 0x4 * n, 16, 16, 0⟩
-- block EVT
def EVT_SWSET.SW : Fld := ⟨0, 0x1100000, 0, 24, 0⟩
def EVT_TMR.SEC (n : Nat) : Fld := ⟨0, 0x1100040 + 0x10 * n, 0, 48, 0⟩
def EVT_TMR_NS.NS (n : Nat) : Fld := ⟨0, 0x1100048 + 0x10 * n, 0, 30, 0⟩
def EVT_TMR_NS.EN (n : Nat) : Fld := ⟨0, 0x1100048 + 0x10 * n, 31, 1, 0⟩
def EVT_TMR_PER.PER (n : Nat) : Fld := ⟨0, 0x110004C + 0x10 * n, 0, 32, 0⟩
def EVT_ROUTE.VEC (n : Nat) : Fld := ⟨0, 0x1100100 + 0x4 * n, 0, 7, 0⟩
def EVT_ROUTE.LINE (n : Nat) : Fld := ⟨0, 0x1100100 + 0x4 * n, 8, 5, 0⟩
def EVT_ROUTE.SEV (n : Nat) : Fld := ⟨0, 0x1100100 + 0x4 * n, 16, 2, 0⟩
def EVT_COUNT.COUNT (n : Nat) : Fld := ⟨0, 0x1100300 + 0x4 * n, 0, 32, 0⟩
def EVT_PEND.PEND (n j : Nat) : Fld := ⟨0, 0x1101000 + 0x1000 * n + 0x4 * j, 0, 32, 0⟩
def EVT_EN.EN (n j : Nat) : Fld := ⟨0, 0x1101010 + 0x1000 * n + 0x4 * j, 0, 32, 0⟩
def EVT_QSTAT.PROD (n : Nat) : Fld := ⟨0, 0x1101020 + 0x1000 * n, 0, 8, 0⟩
def EVT_QSTAT.LOST (n : Nat) : Fld := ⟨0, 0x1101020 + 0x1000 * n, 16, 8, 0⟩
def EVT_QCONS.CONS (n : Nat) : Fld := ⟨0, 0x1101024 + 0x1000 * n, 0, 8, 0⟩
-- block PMU
def PMU_CTRL.USER_EN : Fld := ⟨0, 0x1200000, 0, 1, 0⟩
def PMU_CTRL.FREEZE : Fld := ⟨0, 0x1200000, 1, 1, 0⟩
def PMU_CTRL.FRZOVF : Fld := ⟨0, 0x1200000, 2, 1, 0⟩
def PMU_CTRL.CLRALL : Fld := ⟨0, 0x1200000, 3, 1, 0⟩
def PMU_STAT.EOVF : Fld := ⟨0, 0x1200004, 0, 16, 0⟩
def PMU_STAT.COVF : Fld := ⟨0, 0x1200004, 16, 1, 0⟩
def PMU_STAT.UDENY : Fld := ⟨0, 0x1200004, 24, 1, 0⟩
def PMU_STAT.SLOST : Fld := ⟨0, 0x1200004, 25, 1, 0⟩
def PMU_STAT.SRHIGH : Fld := ⟨0, 0x1200004, 26, 1, 0⟩
def PMU_ECTL.EVT (n j : Nat) : Fld := ⟨0, 0x1200100 + 0x40 * n + 0x4 * j, 0, 6, 0⟩
def PMU_ECTL.EN (n j : Nat) : Fld := ⟨0, 0x1200100 + 0x40 * n + 0x4 * j, 6, 1, 0⟩
def PMU_ECTL.CHAIN (n j : Nat) : Fld := ⟨0, 0x1200100 + 0x40 * n + 0x4 * j, 7, 1, 0⟩
def PMU_ECTL.SMP (n j : Nat) : Fld := ⟨0, 0x1200100 + 0x40 * n + 0x4 * j, 8, 1, 0⟩
def PMU_ECTL.IRQ (n j : Nat) : Fld := ⟨0, 0x1200100 + 0x40 * n + 0x4 * j, 9, 1, 0⟩
def PMU_ECTL.THR (n j : Nat) : Fld := ⟨0, 0x1200100 + 0x40 * n + 0x4 * j, 12, 3, 0⟩
def PMU_ECNT.COUNT (n j : Nat) : Fld := ⟨0, 0x1200120 + 0x40 * n + 0x4 * j, 0, 32, 0⟩
def PMU_EOVF.OVF (n : Nat) : Fld := ⟨0, 0x1200600 + 0x4 * n, 0, 8, 0⟩
def PMU_CCTL.EVT (n : Nat) : Fld := ⟨0, 0x1200800 + 0x4 * n, 0, 8, 0⟩
def PMU_CCTL.EN (n : Nat) : Fld := ⟨0, 0x1200800 + 0x4 * n, 8, 1, 0⟩
def PMU_CCTL.CHAIN (n : Nat) : Fld := ⟨0, 0x1200800 + 0x4 * n, 9, 1, 0⟩
def PMU_CCTL.IRQ (n : Nat) : Fld := ⟨0, 0x1200800 + 0x4 * n, 10, 1, 0⟩
def PMU_CCTL.FILTEN (n : Nat) : Fld := ⟨0, 0x1200800 + 0x4 * n, 11, 1, 0⟩
def PMU_CCTL.FILT (n : Nat) : Fld := ⟨0, 0x1200800 + 0x4 * n, 12, 7, 0⟩
def PMU_CCNT.COUNT (n : Nat) : Fld := ⟨0, 0x1200840 + 0x4 * n, 0, 32, 0⟩
def PMU_COVF.OVF : Fld := ⟨0, 0x1200880, 0, 16, 0⟩
def PMU_PS_CTRL.EN : Fld := ⟨0, 0x1200900, 0, 1, 0⟩
def PMU_PS_CTRL.JIT : Fld := ⟨0, 0x1200900, 1, 1, 0⟩
def PMU_PS_ENG.MASK : Fld := ⟨0, 0x1200904, 0, 16, 0⟩
def PMU_PS_PERIOD.PERIOD : Fld := ⟨0, 0x1200908, 0, 24, 0x400⟩
def PMU_PS_SKIP.SKIP : Fld := ⟨0, 0x120090C, 0, 32, 0⟩
def PMU_SR_CFG.THR : Fld := ⟨0, 0x1200910, 0, 12, 0xC00⟩
def PMU_SR_CFG.WRAP : Fld := ⟨0, 0x1200910, 12, 1, 0⟩
def PMU_SR_PROD.PROD : Fld := ⟨0, 0x1200914, 0, 13, 0⟩
def PMU_SR_CONS.CONS : Fld := ⟨0, 0x1200918, 0, 13, 0⟩
def PMU_SR_LOST.LOST : Fld := ⟨0, 0x120091C, 0, 32, 0⟩
-- block PNL
def PNL_KSTAT.KDOWN : Fld := ⟨0, 0x1300000, 0, 8, 0⟩
def PNL_KSTAT.TDOWN : Fld := ⟨0, 0x1300000, 8, 4, 0⟩
def PNL_KEV.KPRESS : Fld := ⟨0, 0x1300004, 0, 8, 0⟩
def PNL_KEV.KREL : Fld := ⟨0, 0x1300004, 8, 8, 0⟩
def PNL_KEV.KHOLD : Fld := ⟨0, 0x1300004, 16, 8, 0⟩
def PNL_TEV.TPRESS : Fld := ⟨0, 0x1300008, 0, 4, 0⟩
def PNL_TEV.TREL : Fld := ⟨0, 0x1300008, 4, 4, 0⟩
def PNL_TEV.THOLD : Fld := ⟨0, 0x1300008, 8, 4, 0⟩
def PNL_TEV.TFLT : Fld := ⟨0, 0x1300008, 12, 4, 0⟩
def PNL_KCFG.DEB : Fld := ⟨0, 0x130000C, 0, 4, 0x5⟩
def PNL_KCFG.HOLD : Fld := ⟨0, 0x130000C, 16, 16, 0x7D0⟩
def PNL_KACT.ACT : Fld := ⟨0, 0x1300010, 0, 16, 0⟩
def PNL_TCFG.TTHR : Fld := ⟨0, 0x1300014, 0, 12, 0x32⟩
def PNL_TCAP.C (n : Nat) : Fld := ⟨0, 0x1300020 + 0x4 * n, 0, 13, 0⟩
def PNL_TCAP.BASE (n : Nat) : Fld := ⟨0, 0x1300020 + 0x4 * n, 16, 13, 0⟩
def PNL_LED.CUR (n : Nat) : Fld := ⟨0, 0x1300040 + 0x4 * n, 0, 5, 0⟩
def PNL_LED.MODE (n : Nat) : Fld := ⟨0, 0x1300040 + 0x4 * n, 5, 2, 0⟩
def PNL_LED.INV (n : Nat) : Fld := ⟨0, 0x1300040 + 0x4 * n, 7, 1, 0⟩
def PNL_LED.SRC (n : Nat) : Fld := ⟨0, 0x1300040 + 0x4 * n, 8, 8, 0⟩
def PNL_LED.ON (n : Nat) : Fld := ⟨0, 0x1300040 + 0x4 * n, 16, 1, 0⟩
def PNL_LED.LIT (n : Nat) : Fld := ⟨0, 0x1300040 + 0x4 * n, 17, 1, 0⟩
def PNL_LED.LEDOPEN (n : Nat) : Fld := ⟨0, 0x1300040 + 0x4 * n, 18, 1, 0⟩
def PNL_MGLED.LNK : Fld := ⟨0, 0x1300080, 0, 5, 0xA⟩
def PNL_MGLED.ACT : Fld := ⟨0, 0x1300080, 8, 5, 0xA⟩
def PNL_ZSTAT.A : Fld := ⟨0, 0x1300084, 0, 1, 0⟩
def PNL_ZSTAT.B : Fld := ⟨0, 0x1300084, 1, 1, 0⟩
def PNL_ZSTAT.COUNTING : Fld := ⟨0, 0x1300084, 2, 1, 0⟩
def PNL_ZSTAT.ZSTART : Fld := ⟨0, 0x1300084, 16, 1, 0⟩
def PNL_ZSTAT.ZFAULT : Fld := ⟨0, 0x1300084, 17, 1, 0⟩
def PNL_ZCFG.ZHOLD : Fld := ⟨0, 0x1300088, 0, 8, 0x14⟩
def PNL_SENSE.RS (n : Nat) : Fld := ⟨0, 0x1300090 + 0x4 * n, 0, 20, 0xFFFFF⟩
def PNL_SENSE.PRES (n : Nat) : Fld := ⟨0, 0x1300090 + 0x4 * n, 20, 1, 0⟩
def PNL_SENSE.SENSEOFF (n : Nat) : Fld := ⟨0, 0x1300090 + 0x4 * n, 21, 1, 0⟩
def PNL_SFP.ABS : Fld := ⟨0, 0x13000B0, 0, 4, 0⟩
def PNL_SFP.LOS : Fld := ⟨0, 0x13000B0, 4, 4, 0⟩
def PNL_SFP.TXDIS : Fld := ⟨0, 0x13000B0, 8, 4, 0⟩
def PNL_SFP.ABSCHG : Fld := ⟨0, 0x13000B0, 16, 4, 0⟩
-- block SUP
def SUP_STATUS.READY : Fld := ⟨0, 0x1400000, 0, 1, 0⟩
def SUP_STATUS.RUN : Fld := ⟨0, 0x1400000, 1, 4, 0⟩
def SUP_FWVER.VER : Fld := ⟨0, 0x1400004, 0, 32, 0⟩
def SUP_WDOG.PERIOD : Fld := ⟨0, 0x1400008, 0, 16, 0x7D0⟩
def SUP_WDOG.KICK : Fld := ⟨0, 0x1400008, 16, 1, 0⟩
def SUP_MBX.H2SBUSY : Fld := ⟨0, 0x1400010, 0, 1, 0⟩
def SUP_MBX.DOORBELL : Fld := ⟨0, 0x1400010, 1, 1, 0⟩
def SUP_MBX.S2HVALID : Fld := ⟨0, 0x1400010, 2, 1, 0⟩
def SUP_MBX.VEC : Fld := ⟨0, 0x1400010, 8, 7, 0⟩
def SUP_MBX.IRQEN : Fld := ⟨0, 0x1400010, 15, 1, 0⟩
def SUP_PCIID.VID : Fld := ⟨0, 0x1400020, 0, 16, 0⟩
def SUP_PCIID.DID : Fld := ⟨0, 0x1400020, 16, 16, 0x9612⟩
def SUP_LINK.SPEED : Fld := ⟨0, 0x1400024, 0, 4, 0⟩
def SUP_LINK.WIDTH : Fld := ⟨0, 0x1400024, 4, 3, 0⟩
def SUP_LINK.LINKDN : Fld := ⟨0, 0x1400024, 16, 1, 0⟩
def SUP_LINK.FLR : Fld := ⟨0, 0x1400024, 17, 1, 0⟩
def SUP_H2S.WORD (n : Nat) : Fld := ⟨0, 0x1400100 + 0x4 * n, 0, 32, 0⟩
def SUP_S2H.WORD (n : Nat) : Fld := ⟨0, 0x1400200 + 0x4 * n, 0, 32, 0⟩
-- block GNS
def GNS_STAT.FIX : Fld := ⟨0, 0x1500000, 0, 2, 0⟩
def GNS_STAT.HOLD : Fld := ⟨0, 0x1500000, 2, 1, 0⟩
def GNS_STAT.SURVEY : Fld := ⟨0, 0x1500000, 3, 1, 0⟩
def GNS_STAT.MOVED : Fld := ⟨0, 0x1500000, 4, 1, 0⟩
def GNS_STAT.USED : Fld := ⟨0, 0x1500000, 8, 8, 0⟩
def GNS_SURVEY.LEFT : Fld := ⟨0, 0x1500004, 0, 12, 0⟩
def GNS_LAT.LAT : Fld := ⟨0, 0x1500008, 0, 32, 0⟩
def GNS_LON.LON : Fld := ⟨0, 0x150000C, 0, 32, 0⟩
def GNS_HGT.HGT : Fld := ⟨0, 0x1500010, 0, 32, 0⟩
def GNS_SOLN.SOLN : Fld := ⟨0, 0x1500014, 0, 32, 0⟩
def GNS_AGE.AGE : Fld := ⟨0, 0x1500018, 0, 32, 0⟩
def GNS_SAT.SYS (n : Nat) : Fld := ⟨0, 0x1500100 + 0x4 * n, 0, 2, 0⟩
def GNS_SAT.PRN (n : Nat) : Fld := ⟨0, 0x1500100 + 0x4 * n, 2, 6, 0⟩
def GNS_SAT.BAND1 (n : Nat) : Fld := ⟨0, 0x1500100 + 0x4 * n, 8, 1, 0⟩
def GNS_SAT.BAND2 (n : Nat) : Fld := ⟨0, 0x1500100 + 0x4 * n, 9, 1, 0⟩
def GNS_SAT.USED (n : Nat) : Fld := ⟨0, 0x1500100 + 0x4 * n, 10, 1, 0⟩
def GNS_SAT.CN0 (n : Nat) : Fld := ⟨0, 0x1500100 + 0x4 * n, 12, 8, 0⟩
def GNS_SAT.ELEV (n : Nat) : Fld := ⟨0, 0x1500100 + 0x4 * n, 20, 8, 0⟩
def OSC_UNTR.FLOOR (n : Nat) : Fld := if n = 0 then OSC_UNTR_0.FLOOR else OSC_UNTR_1.FLOOR
def OSC_AGE_U.U (n : Nat) : Fld := if n = 0 then OSC_AGE_U_0.U else OSC_AGE_U_1.U

end Sys2Proof.Machine.F
end

