-- ==== Sys2Proof/Machine/State.lean ====
section
/-! DEFINITION. The state of the block, its ways to stop, and the state right after reset. -/

namespace Sys2Proof.Machine

/-- Everything the spec gives the block: the waiting commands (the model's own queue, first in first out), the raw counter
in ticks (R22), every register field (Field.lean), the blocks' inner state, the memories as canonical lists of cells, what
was sent out, the snapshots of R18 (requester, lowest word's offset and copy, words) and the count of free values used. -/
structure State where
  pending : List Instr := []
  raw : Nat := 0
  regs : List (Nat × Nat) := []
  supply : SupplySt := {}
  nv : NvSt := {}
  flash : List Host.Cell := []
  sram : List Host.Cell := []
  boot : BootSt := {}
  rcp : RcpSt := {}
  tb : TimeBusSt := {}
  hrt : HrtSt := {}
  ref : List RefSt := List.replicate 16 {}
  sel : SelSt := {}
  bound : BoundSt := {}
  tdc : List TdcSt := List.replicate 24 {}
  osc : OscSt := {}
  syn : List UnitSt := List.replicate 5 {}
  outp : List OutSt := List.replicate 12 {}
  pwr : List DomSt := List.replicate 13 {}
  evt : EvtSt := {}
  sys : SysSt := {}
  pmu : PmuSt := {}
  pnl : PnlSt := {}
  pke : PkeSt := {}
  port : List PortSt := List.replicate 4 {}
  nts : NtsSt := {}
  ptp : PtpSt := {}
  kvt : KvtSt := {}
  pair : PairSt := {}
  snaps : List ((Nat × Nat) × List Nat) := []
  out : List Emission := []
  free : Nat := 0
  deriving DecidableEq, Repr

/-- Why a command stops the machine. -/
inductive Fault
  /-- A command names a unit the hardware does not have (a route, channel, port, slot or bank outside its range): raised by
  the command's meaning. Safe: no such happening exists. -/
  | noSuchUnit
  deriving DecidableEq, Repr

/-- Why a command has no meaning here. -/
inductive Refusal
  /-- The command's row has no meaning yet: raised by its arm of exec. Safe. -/
  | notModelled (mnemonic : String)
  deriving DecidableEq, Repr

/-- The outcome of a command. -/
abbrev Result := Host.Outcome State Fault Refusal

/-- The machine right after reset: AON has just powered on in a cold start with every strap open (R22, R70, R78) and a new
module's memories, the vault has derived slots 0 and 1 (R423), and the boot ROM has taken step 1 of R130 (the start record read,
and rewritten with IN_START set). -/
def State.reset : State :=
  { regs := [(F.GLB_STRAP.HOME.key, 1), (F.GLB_STRAP.FSTART_N.key, 1), (F.GLB_STRAP.BANK_SEL.key, 3)]
    nv := { recA := some { seq := 1, inStart := true, starts := 1 } }
    kvt := { slots :=
      { state := 2, use := 3, key := kdf Config.deviceRoot (rootCtx 0), ctx := rootCtx 0 } ::
      { state := 2, use := 1, depth := 1, key := kdf Config.deviceRoot rcpCtx, ctx := rcpCtx } :: List.replicate 254 {} }
    boot := { deadline := 74997500000 } }

end Sys2Proof.Machine
end

