-- ==== Sys2Proof/Machine/Ops.lean ====
section
/-! DEFINITION. The named operations over registers, memories, bytes and counters that every meaning uses. -/

namespace Sys2Proof.Machine

/-- A command on a unit that exists; else the machine stops. -/
def onUnit (ok : Bool) (t : State) : Result := if ok then .next t else .fault .noSuchUnit

/-- Do the effect where the command's condition holds; a command whose condition does not hold changes nothing. -/
def State.when (s : State) (c : Bool) (f : State → State) : State := if c then f s else s

/-! Registers. -/

/-- Read a field. -/
def State.get (s : State) (f : Fld) : Nat := storeGet s.regs f.key ^^^ f.rst

/-- Write a field: the value is cut to the field's width. -/
def State.set (s : State) (f : Fld) (v : Nat) : State :=
  { s with regs := storeSet s.regs f.key ((v % 2 ^ f.w) ^^^ f.rst) }

/-- A one-bit field as a truth value. -/
def State.bit (s : State) (f : Fld) : Bool := s.get f != 0

/-- Write a one-bit field. -/
def State.setBit (s : State) (f : Fld) (b : Bool) : State := s.set f (if b then 1 else 0)

/-- A two's-complement reading of the low `w` bits. -/
def toSigned (w v : Nat) : Int :=
  let m := v % 2 ^ w
  if m < 2 ^ (w - 1) then m else (m : Int) - 2 ^ w

/-- The low `w` bits of an integer in two's complement. -/
def ofSigned (w : Nat) (v : Int) : Nat := (v % (2 ^ w : Int)).toNat

/-- Read a signed field. -/
def State.getI (s : State) (f : Fld) : Int := toSigned f.w (s.get f)

/-- Write a signed field. -/
def State.setI (s : State) (f : Fld) (v : Int) : State := s.set f (ofSigned f.w v)

/-- Write several fields in order. -/
def State.sets (s : State) (l : List (Fld × Nat)) : State := l.foldl (fun t p => t.set p.1 p.2) s

/-- Set every field of a list to 0. -/
def State.clearAll (s : State) (l : List Fld) : State := l.foldl (fun t f => t.set f 0) s

/-- Add to a counter that wraps. -/
def State.bump (s : State) (f : Fld) (n : Nat := 1) : State := s.set f (s.get f + n)

/-- Add to a counter that saturates at its largest value. -/
def State.bumpSat (s : State) (f : Fld) (n : Nat := 1) : State := s.set f (min (2 ^ f.w - 1) (s.get f + n))

/-- Write a signed value into a signed field of the same width, saturating. -/
def State.setISat (s : State) (f : Fld) (v : Int) : State :=
  s.setI f (max (-(2 ^ (f.w - 1) : Int)) (min (2 ^ (f.w - 1) - 1 : Int) v))

/-- Write a value into an unsigned field, saturating. -/
def State.setSat (s : State) (f : Fld) (v : Nat) : State := s.set f (min (2 ^ f.w - 1) v)

/-- Return every field of a range of BAR0 offsets to its reset value (a domain's reset, R511). -/
def State.resetBlock (s : State) (lo hi : Nat) : State :=
  { s with regs := s.regs.filter (fun e => let o := e.1 / 32 % 0x4000000; !(decide (lo ≤ o) && decide (o < hi))) }

/-! Bits of a number. -/

/-- Set bit `i`. -/
def setBitN (v i : Nat) : Nat := v ||| 2 ^ i

/-- Clear the bits of `m` in a `w`-bit number. -/
def clearBits (w v m : Nat) : Nat := v &&& ((2 ^ w - 1) ^^^ (m % 2 ^ w))

/-- The field of `w` bits of `v` from bit `lo`. -/
def bitsOf (v lo w : Nat) : Nat := v / 2 ^ lo % 2 ^ w

/-- `v` with its `w` bits from bit `lo` replaced. -/
def putBits (v lo w x : Nat) : Nat := v - bitsOf v lo w * 2 ^ lo + x % 2 ^ w * 2 ^ lo

/-! Lists as arrays. -/

/-- Change the element at an index, if there is one. -/
def modAt {α : Type} (l : List α) (i : Nat) (f : α → α) : List α :=
  match l, i with
  | [], _ => []
  | a :: t, 0 => f a :: t
  | a :: t, k + 1 => a :: modAt t k f

/-- Look up a key of an association list. -/
def lookup {α : Type} (k : Nat) : List (Nat × α) → Option α
  | [] => none
  | (q, a) :: t => if q = k then some a else lookup k t

/-- Put a key into an association list in rising key order. -/
def insertAt {α : Type} (k : Nat) (a : α) : List (Nat × α) → List (Nat × α)
  | [] => [(k, a)]
  | (q, b) :: t => if k < q then (k, a) :: (q, b) :: t else if k = q then (k, a) :: t else (q, b) :: insertAt k a t

/-- Drop a key from an association list. -/
def dropKey {α : Type} (k : Nat) (l : List (Nat × α)) : List (Nat × α) := l.filter (fun p => p.1 != k)

/-! Memories: canonical lists of cells (addresses rising, no entry equal to what an unlisted address reads as). -/

/-- The byte at an address; an unlisted address reads `d`. -/
def memGet (d : Byte) : List Host.Cell → Nat → Byte
  | [], _ => d
  | (k, v) :: t, a => if a = k then v else memGet d t a

/-- The list without an address. -/
def memErase : List Host.Cell → Nat → List Host.Cell
  | [], _ => []
  | (k, v) :: t, a => if a = k then memErase t a else (k, v) :: memErase t a

/-- Place an address's byte in rising order. -/
def memPut : List Host.Cell → Nat → Byte → List Host.Cell
  | [], a, x => [(a, x)]
  | (k, v) :: t, a, x =>
    if a < k then (a, x) :: (k, v) :: t
    else if a = k then (a, x) :: t
    else (k, v) :: memPut t a x

/-- Write a byte: what an unlisted address reads as removes the entry. -/
def memSet (d : Byte) (l : List Host.Cell) (a : Nat) (x : Byte) : List Host.Cell :=
  if x = d then memErase l a else memPut l a x

/-- Write bytes at rising addresses. -/
def memSets (d : Byte) (l : List Host.Cell) (a : Nat) : List Byte → List Host.Cell
  | [] => l
  | b :: t => memSets d (memSet d l a b) (a + 1) t

/-- Read `n` bytes at rising addresses. -/
def memGets (d : Byte) (l : List Host.Cell) (a n : Nat) : List Byte := (List.range n).map (fun i => memGet d l (a + i))

/-- The canonical form, from above a bound. -/
def memWfFrom (d : Byte) : Option Nat → List Host.Cell → Bool
  | _, [] => true
  | b, (k, v) :: t =>
    (match b with
      | none => true
      | some m => decide (m < k)) && (v != d) && memWfFrom d (some k) t

/-- The canonical form of a memory whose unlisted bytes read `d`. -/
def Memory.wf (d : Byte) (l : List Host.Cell) : Bool := memWfFrom d none l

/-- What a byte of SRAM that nothing has written reads as (notes/assumptions/4.md; DESIGN CHOICE). -/
def sramDefault : Byte := 0

/-- What an erased byte of flash reads as (R89). -/
def flashDefault : Byte := 0xFF

/-- Read SRAM bytes. -/
def State.sramRead (s : State) (a n : Nat) : List Byte := memGets sramDefault s.sram a n

/-- Write SRAM bytes. -/
def State.sramWrite (s : State) (a : Nat) (b : List Byte) : State := { s with sram := memSets sramDefault s.sram a b }

/-- Read flash bytes. -/
def State.flashRead (s : State) (a n : Nat) : List Byte := memGets flashDefault s.flash a n

/-- Erase a range of flash and write bytes at its start (R125). -/
def State.flashProgram (s : State) (base size : Nat) (b : List Byte) : State :=
  { s with flash := memSets flashDefault (s.flash.filter (fun c => !(decide (base ≤ c.1) && decide (c.1 < base + size)))) base b }

/-! Output and free values. -/

/-- Send something out; a module whose AON is off sends nothing. -/
def State.emit (s : State) (e : Emission) : State := if s.supply.on then { s with out := s.out ++ [e] } else s

/-- The next free value: nothing constrains it (Config.freeNat). -/
def State.freeVal (s : State) : Nat := Config.freeNat s.free

/-- Advance to the next free value. -/
def State.useFree (s : State) : State := { s with free := s.free + 1 }

/-- The raw counter in crumbs (R23). -/
def State.now (s : State) : Nat := s.raw * 512

/-! Rounding. -/

/-- Round a rational to the nearest integer, halves away from zero (R52). -/
def roundAway (q : Rat) : Int := if 0 ≤ q then (q + 1 / 2).floor else -((-q + 1 / 2).floor)

/-- Round to the nearest integer, halves to the even one (R27). -/
def roundEven (q : Rat) : Int :=
  let f := q.floor
  let r := q - f
  if r < 1 / 2 then f else if r = 1 / 2 then (if f % 2 = 0 then f else f + 1) else f + 1

/-- Round to the nearest integer, halves up. -/
def roundUpHalf (q : Rat) : Int := (q + 1 / 2).floor

/-- Round up. -/
def ceilR (q : Rat) : Int := -((-q).floor)

/-- The smallest natural number whose square is at least `n`, by bits from `2 ^ k` down. -/
def sqrtCeilBits : Nat → Nat → Nat → Nat
  | 0, n, r => if r * r < n then r + 1 else r
  | k + 1, n, r => let t := r + 2 ^ k; sqrtCeilBits k n (if t * t < n then t else r)

/-- The square root of a natural number below 2^256, rounded up. -/
def sqrtCeil (n : Nat) : Nat := sqrtCeilBits 128 n 0

/-- A non-negative rational's square root, as a rational at least the root and within 10⁻⁶ of it. -/
def sqrtR (q : Rat) : Rat := (sqrtCeil (ceilR (q * 1000000000000)).toNat : Rat) / 1000000

end Sys2Proof.Machine
end

