-- ==== Sys2Proof/Machine/Time.lean ====
section
/-! DEFINITION. Disciplined time: the conversions of R216 and R217, DTIME and RAW layouts, short stamps (R21 to R30). -/

namespace Sys2Proof.Machine

/-- Divide, rounding to the nearest integer and halves to the even one (R27). -/
def divEven (n : Int) (d : Nat) : Int :=
  let q := n / d
  let r := n % d
  if 2 * r < d then q else if 2 * r = d then (if q % 2 = 0 then q else q + 1) else q + 1

/-- Divide, rounding to the nearest integer and halves up, that is, to the later instant (R217). -/
def divLater (n : Int) (d : Nat) : Int := (2 * n + d) / (2 * d)

/-- R216: the DTIME of a raw reading in crumbs under a pair, as a count of 2⁻¹⁶ ns; none before the epoch. -/
def Pair.dtime (p : Pair) (crumbs : Nat) : Option Nat :=
  let delta : Int := crumbs - (p.anchor * 512 : Nat)
  let v := divEven ((p.offset : Int) * 5000000000000000 + delta * 1024 * (1000000000000000 + p.rate)) 5000000000000000
  if 0 ≤ v then some v.toNat else none

/-- R217: the raw instant, in units of 1/`sub` crumb, at which disciplined time reaches a target given as a rational count
of 2⁻¹⁶ ns. -/
def Pair.rawOf (p : Pair) (sub : Nat) (t : Rat) : Int :=
  roundUpHalf ((p.anchor * 512 * sub : Nat) +
    (t - (p.offset : Rat)) * 5000000000000000 * sub / (1024 * (1000000000000000 + p.rate)))

/-- One second in units of 2⁻¹⁶ ns. -/
def fracPerSec : Nat := 65536000000000

/-- The DTIME seconds of a count of 2⁻¹⁶ ns. -/
def dtSec (t : Nat) : Nat := t / fracPerSec

/-- The NS field of a count of 2⁻¹⁶ ns. -/
def dtNs (t : Nat) : Nat := t % fracPerSec / 65536

/-- The four words of a DTIME in the layout of R24. -/
def dtimeWords (t : Nat) : List Nat := [t % 65536, dtNs t, dtSec t % 2 ^ 32, dtSec t / 2 ^ 32 % 65536]

/-- The sixteen bytes of a DTIME. -/
def dtimeBytes (t : Nat) : List Byte := (dtimeWords t).flatMap (leBytes 4)

/-- Read sixteen bytes as a DTIME; none where it is invalid (R26). -/
def dtimeOf (l : List Byte) : Option Nat :=
  let ns := leAt l 4 4 % 2 ^ 30
  if ns < 1000000000 then some ((leAt l 8 6 * 1000000000 + ns) * 65536 + leAt l 0 2) else none

/-- The three words of a RAW in the layout of R21. -/
def rawWords (crumbs : Nat) : List Nat := [crumbs % 512, crumbs / 512 % 2 ^ 32, crumbs / 512 / 2 ^ 32 % 2 ^ 32]

/-- The twelve bytes of a RAW. -/
def rawBytes (crumbs : Nat) : List Byte := (rawWords crumbs).flatMap (leBytes 4)

/-- The SSTAMP of a DTIME (R28). -/
def sstamp (t : Nat) : Nat := t / 65536 % 2 ^ 32 * 65536 + t % 65536

/-- R30: extend an SSTAMP against a second count. -/
def extendStamp (sec st : Nat) : Nat :=
  let ref := sec * 1000000000 % 2 ^ 32
  let d := toSigned 32 ((st / 65536 + 2 ^ 32 - ref) % 2 ^ 32)
  (sec * 1000000000 + d).toNat * 65536 + st % 65536

/-- Disciplined time now in the Hearth; none before the epoch. -/
def State.dnow (s : State) : Option Nat := s.hrt.cur.dtime s.now

/-- The DTIME second now (0 before the epoch). -/
def State.dsec (s : State) : Nat := dtSec (s.dnow.getD 0)

/-- R216's rate of a pair as a fraction. -/
def Pair.rateFrac (p : Pair) : Rat := (p.rate : Rat) / 1000000000000000

end Sys2Proof.Machine
end

