-- ==== Sys2Proof/Machine/Events.lean ====
section
/-! DEFINITION. Event sources, pending bits, records and messages (spec/22_events.md), the access-error record (R497), and the
commands of the event block. -/

namespace Sys2Proof.Machine

/-- The time-bus route whose replica stamps a source's occurrences; none for a source in AON (R553, R36). -/
def evIsland (ev : Nat) : Option Nat :=
  if 32 ≤ ev ∧ ev ≤ 35 then some (ev - 31)
  else if ev = 36 then some 5
  else if 38 ≤ ev ∧ ev ≤ 41 then some (ev - 37)
  else if 42 ≤ ev ∧ ev ≤ 44 then some 6
  else if ev = 45 then some 11
  else if ev = 46 then some 6
  else if ev = 47 ∨ ev = 70 then some 10
  else none

/-- The severity of each source (R552): 0 information, 1 a degradation, 2 a fault. -/
def evSeverity (ev : Nat) : Nat :=
  if ev = 17 ∨ ev = 21 ∨ ev = 68 ∨ ev = 69 ∨ ev = 85 then 2
  else if ev = 19 ∨ (26 ≤ ev ∧ ev ≤ 36) ∨ ev = 44 ∨ ev = 46 ∨ (48 ≤ ev ∧ ev ≤ 63) ∨ ev = 65 ∨ ev = 66 ∨ ev = 83 ∨ ev = 86
      ∨ (88 ≤ ev ∧ ev ≤ 95) then 0
  else 1

/-- Signal an MSI-X vector: lost while the link is down (R557), held pending while its entry is masked (R503). -/
def State.msix (s : State) (vec : Nat) : State :=
  if s.get F.SUP_LINK.SPEED = 0 then s
  else if (storeGet s.sys.msixTable (16 * vec + 12) ^^^ 1) % 2 = 1 then
    { s with sys := { s.sys with pba := setBitN s.sys.pba vec } }
  else s.emit (.msix vec)

/-- One message of an event to a side (R555): side 0's vector, side 1's supervisor line. -/
def State.message (s : State) (side ev : Nat) : State :=
  if side = 0 then s.msix (s.get (F.EVT_ROUTE.VEC ev)) else s.emit (.supLine (s.get (F.EVT_ROUTE.LINE ev)))

/-- Whether a side's enable for an event is set. -/
def State.evEnabled (s : State) (side ev : Nat) : Bool := (s.get (F.EVT_EN.EN side (ev / 32))).testBit (ev % 32)

/-- Whether a side's pending bit for an event is set. -/
def State.evPending (s : State) (side ev : Nat) : Bool := (s.get (F.EVT_PEND.PEND side (ev / 32))).testBit (ev % 32)

/-- Steps 2 and 3 of R555: set PEND, and send one message when PEND AND EN goes from 0 to 1. -/
def State.pendAndTell (s : State) (side ev : Nat) : State :=
  let was := s.evPending side ev
  let t := s.set (F.EVT_PEND.PEND side (ev / 32)) (setBitN (s.get (F.EVT_PEND.PEND side (ev / 32))) (ev % 32))
  if !was && s.evEnabled side ev then t.message side ev else t

/-- A dropped record (R556): LOST counts, and EV87 is raised on that side; EV87 writes no record. -/
def State.dropRecord (s : State) (side : Nat) : State :=
  ((s.bumpSat (F.EVT_QSTAT.LOST side)).bump (F.EVT_COUNT.COUNT 87)).pendAndTell side 87

/-- Step 1 of R555: write a record to a side's queue, or drop it when 32 wait (R556). -/
def State.pushRecord (s : State) (side : Nat) (r : EvRec) : State :=
  let prod := s.get (F.EVT_QSTAT.PROD side)
  if 32 ≤ (prod + 256 - s.get (F.EVT_QCONS.CONS side)) % 256 then s.dropRecord side
  else
    let t := s.set (F.EVT_QSTAT.PROD side) (prod + 1)
    if side = 0 then
      { t with evt := { s.evt with q0 := s.evt.q0.set (prod % 32) { r with seq := s.evt.seq0 }, seq0 := (s.evt.seq0 + 1) % 2 ^ 32 } }
    else
      { t with evt := { s.evt with q1 := s.evt.q1.set (prod % 32) { r with seq := s.evt.seq1 }, seq1 := (s.evt.seq1 + 1) % 2 ^ 32 } }

/-- R555 for one side. -/
def State.tellSide (s : State) (side : Nat) (r : EvRec) : State :=
  (if s.evEnabled side r.ev then s.pushRecord side r else s).pendAndTell side r.ev

/-- One occurrence of an event (R554, R555), stamped at a raw instant in crumbs. -/
def State.occurAt (s : State) (ev bit inst detail crumbs : Nat) : State :=
  let valid := match evIsland ev with
    | none => true
    | some n => s.bit (F.HRT_TB_ROUTE.VALID n)
  let off : Int := match evIsland ev with
    | none => 0
    | some n => (s.tb.routes.getD n {}).repOff
  let r : EvRec := { ev := ev, bit := bit, inst := inst, raw := if valid then ((crumbs : Int) + 512 * off).toNat else 0, detail := detail, noraw := !valid }
  ((s.bump (F.EVT_COUNT.COUNT ev)).tellSide 0 r).tellSide 1 r

/-- One occurrence now. -/
def State.occur (s : State) (ev bit inst detail : Nat) : State := s.occurAt ev bit inst detail s.now

/-- Set a source bit; its change from 0 to 1 is an occurrence (R554). -/
def State.flag (s : State) (f : Fld) (ev inst : Nat) (detail : Nat := 0) : State :=
  if s.bit f then s else (s.set f 1).occur ev f.lo inst detail

/-- Set one bit of a source field of several bits; its change from 0 to 1 is an occurrence. -/
def State.flagBit (s : State) (f : Fld) (i ev inst : Nat) (detail : Nat := 0) : State :=
  if (s.get f).testBit i then s else (s.set f (setBitN (s.get f) i)).occur ev (f.lo + i) inst detail

/-- R497: an access error of a requester at an address; the first is recorded, a further one sets MORE. -/
def State.accessError (s : State) (req : Requester) (cause addr : Nat) : State :=
  let detail := addr % 2 ^ 32 + cause * 2 ^ 32
  if s.bit F.XBR_AERR.AERR then s.flag F.XBR_AERR.MORE 64 req.master detail
  else (s.sets [(F.XBR_AERR.REQ, req.master), (F.XBR_AERR.CAUSE, cause), (F.XBR_AERRADDR.ADDR, addr)]).flag
    F.XBR_AERR.AERR 64 req.master detail

/-- R557: when the link returns, one message for each vector with an event both pending and enabled on side 0. -/
def State.linkReturnMessages (s : State) : State :=
  let vecs := ((List.range 96).filter (fun e => s.evPending 0 e && s.evEnabled 0 e)).map (fun e => s.get (F.EVT_ROUTE.VEC e))
  vecs.eraseDups.foldl (fun t v => t.msix v) s

/-- The 32 bytes of a record (R553). -/
def EvRec.bytes (r : EvRec) : List Byte :=
  leBytes 1 r.ev ++ leBytes 1 r.bit ++ leBytes 2 r.inst ++ leBytes 4 r.seq ++ rawBytes r.raw ++ leBytes 8 r.detail ++
    leBytes 1 (if r.noraw then 1 else 0) ++ leBytes 3 0

end Sys2Proof.Machine
end

