-- ==== Sys2Proof/Machine/RegMap.lean ====
section
/-! DEFINITION. The register map of BAR0 (spec/22_events.md R562 and every chapter's register tables): each register word
with its offset, its array strides, which copy a requester sees, and each field with its access type (R11) and reset value.
Fields whose reset is the recipe's, a strap's or the store's are listed with 0 here: the rule that loads them sets them. -/

namespace Sys2Proof.Machine

/-- The names of the register words of BAR0, one per row of the register tables (an array is one name). -/
inductive RegName
  | GLB_ID | GLB_STRAP | GLB_SUPPLY | GLB_SERIAL_LO | GLB_SERIAL_HI | GLB_MAC_LO | GLB_MAC_HI | GLB_SCRATCH
  | GLB_DBG | BOOT_STATUS | BOOT_WHY | BOOT_CTRL | BOOT_LIMIT | BOOT_REC | RCP_STATUS | RCP_SERIAL | RCP_CTRL
  | RCP_FAIL | RCP_SRC | RCP_LEN | RCP_WARM | RCP_LEAD | PWR_GSTAT | PWR_DOM_CTRL | PWR_DOM_STAT | PWR_WAKE
  | PWR_WAKET_LO | PWR_WAKET_HI | PWR_SLEEP_ACC_LO | PWR_SLEEP_ACC_HI | PWR_SLEEP_CNT | HRT_SNAP_0 | HRT_SNAP_1
  | HRT_SNAP_2 | HRT_SNAP_3 | HRT_SNAP_4 | HRT_SNAP_5 | HRT_SNAP_6 | HRT_SNAP_7 | HRT_SNAP_8 | HRT_EPOCH_SEC_LO
  | HRT_EPOCH_SEC_HI | HRT_STAT | HRT_DP_VIEW | HRT_DP_RATE_LO | HRT_DP_RATE_HI | HRT_DP_OFFSET_0 | HRT_DP_OFFSET_1
  | HRT_DP_OFFSET_2 | HRT_DP_OFFSET_3 | HRT_DP_ANCHOR_LO | HRT_DP_ANCHOR_HI | HRT_DP_GEN | HRT_DP_CTICK_LO
  | HRT_DP_CTICK_HI | HRT_DPW_RATE_LO | HRT_DPW_RATE_HI | HRT_DPW_OFFSET_0 | HRT_DPW_OFFSET_1 | HRT_DPW_OFFSET_2
  | HRT_DPW_OFFSET_3 | HRT_DPW_ANCHOR_LO | HRT_DPW_ANCHOR_HI | HRT_DP_COMMIT_LO | HRT_DP_COMMIT_HI | HRT_DP_CTRL
  | HRT_DP_STAT | HRT_LASTSTEP_0 | HRT_LASTSTEP_1 | HRT_LASTSTEP_2 | HRT_SRV_LEAD | HRT_SRV_LIM | HRT_SRV_CTRL
  | HRT_SRV_STAT | HRT_SRV_ERR | HRT_SRV_OUT_LO | HRT_SRV_OUT_HI | HRT_SRV_KP | HRT_SRV_KI | HRT_SRV_FSTEP
  | HRT_UTC | HRT_LEAP_LO | HRT_LEAP_HI | HRT_UTCPREV_LO | HRT_UTCPREV_HI | HRT_UTCW | HRT_UTCW_SEC_LO
  | HRT_UTCW_SEC_HI | HRT_TB_ROUTE | TDC_CHSEL | TDC_CFG | TDC_STAT | TDC_GATE | TDC_DEC | TDC_WIN | TDC_OUTLIM
  | TDC_CAL | TDC_CNT | TDC_TB | TDC_RES | REF_CHSEL | REF_CFG | REF_STAT | REF_UNC | REF_UKIND | REF_DLY
  | REF_DLYUNC | REF_QUAL | REF_NOMFREQ_LO | REF_NOMFREQ_HI | REF_ANT | REF_PRES | REF_PRIO | REF_QCFG
  | REF_FSOFT | REF_FHARD | REF_PMARG | REF_QSTAT | REF_PDEV | REF_FDEV_LO | REF_FDEV_HI | REF_DRIFT
  | REF_DRATE | REF_SELCTL | REF_SELSTAT | REF_TOL | REF_SWSLEW | REF_HAVG | REF_ERRB | REF_EBTHR | REF_EB
  | OSC_STAT | OSC_CTRL | OSC_OVEN | OSC_CELL | OSC_OP | OSC_SETTLE | OSC_TS | OSC_YAT_LO | OSC_YAT_HI
  | OSC_YAT_U | OSC_AGE_D | OSC_AGE_U_0 | OSC_AGE_U_1 | OSC_LEARN | OSC_TL | OSC_UNTR_0 | OSC_UNTR_1
  | OSC_MAPSEL | OSC_MAPVAL | OSC_MAPY | OUT_CHSEL | OUT_CFG | OUT_STAT | OUT_DIV | OUT_PARAM | OUT_PHASE
  | OUT_DELAY | OUT_ALCFG | OUT_ALOFF | OUT_CAL | OUT_ERRB | OUT_SYN_FREQ_LO | OUT_SYN_FREQ_HI | OUT_SYN_CTRL
  | OUT_SYN_STAT | PRT_CTRL | PRT_STAT | PRT_PLANE | PRT_PLANEUNC | PRT_ASYM | PRT_LINKUNC | PRT_UASYM
  | PRT_LAT | PRT_ACAL | PRT_ESMC | PRT_CNT | PRT_MG_CTRL | PRT_MG_STAT | PRT_SYT_STAT | APD_OFFSET | APD_RETRY
  | APD_REOFF | APD_SLIP | APD_BGUARD | APD_PSTAT | APD_PCTRL | APD_APPT_LO | APD_APPT_HI | APD_SENT_LO
  | APD_SENT_HI | APD_RESEAL | APD_FB | APD_DROP | APD_COLL | APD_MARGIN | APD_SPEC_IN_LO | APD_SPEC_IN_HI
  | APD_SPEC_ABORT_LO | APD_SPEC_ABORT_HI | APD_SPEC_COMMIT_LO | APD_SPEC_COMMIT_HI | PKE_CTRL | PKE_STAT
  | PKE_QSTAT | PKE_ENG | PKE_LANE | PKE_CLS_CTRL | PKE_CLS_SEL | PKE_CLS_STAT | PKE_CLS_HIT | PKE_CLS_WIN
  | PKE_PCNT_IN | PKE_PCNT_DROP | PKE_PCNT_DRDROP | PKE_PCNT_CLR | PKE_RING_BASE_LO | PKE_RING_BASE_HI
  | PKE_RING_CFG | PKE_RING_DEST | PKE_RING_PROD | PKE_RING_CONS | PKE_RING_DROP | NTS_CFG | NTS_STAT
  | NTS_SRV | NTS_REFID | NTS_ROT | NTS_ROTCTRL | NTS_CTRL | NTS_KPOS | NTS_KSINCE | NTS_RATE | NTS_KE
  | NTS_KE_STAT | NTS_REPLY_LO | NTS_REPLY_HI | NTS_PLAIN_LO | NTS_PLAIN_HI | NTS_NAK | NTS_KISS | NTS_STALE
  | NTS_SPEC | PTP_CFG | PTP_STAT | PTP_VAR | PTP_PRIO | PTP_HOLDSPEC | PTP_BTLV | PTP_PAIR | PTP_GLIM
  | PTP_GDUR | PTP_GSTAT | PTP_GSEL | PTP_GCTRL | PTP_SCHED | PTP_GWIN | PTP_SA_0 | PTP_SA_1 | PTP_PCFG
  | PTP_PINTV | PTP_PSTAT | PTP_CNT | PTP_PCTRL | PTP_SPEC | KVT_STAT | KVT_CTRL | KVT_SEL | KVT_OP | KVT_OPCTX
  | KVT_OPADDR | KVT_OPSTAT | KVT_DESC | PAIR_CFG | PAIR_THR | PAIR_STAT | PAIR_CTRL | PAIR_X | PAIR_XMAX
  | PAIR_UPAIR | PAIR_TWINB | PAIR_WTR | PAIR_DLY | PAIR_JTX | PAIR_JRX | PAIR_JERR | PAIR_KEY | PAIR_TWINID_LO
  | PAIR_TWINID_HI | PEER_SEL | PEER_CFG | PEER_ADDR | PEER_ASYM | PEER_UNC | PEER_STAT | PEER_THETA
  | PEER_BND | PAIR_ENS_X | PAIR_ENS_U | PAIR_ENS_N | XBR_CTRL | XBR_ERR | XBR_ERRADDR | XBR_AERR | XBR_AERRADDR
  | XBR_ECC | XBR_ECCADDR | XBR_HWIN | XBR_TSTAT | EVT_SWSET | EVT_TMR_SLO | EVT_TMR_SHI | EVT_TMR_NS
  | EVT_TMR_PER | EVT_ROUTE | EVT_COUNT | EVT_PEND | EVT_EN | EVT_QSTAT | EVT_QCONS | EVT_REC | PMU_CTRL
  | PMU_STAT | PMU_ECTL | PMU_ECNT | PMU_EOVF | PMU_CCTL | PMU_CCNT | PMU_COVF | PMU_PS_CTRL | PMU_PS_ENG
  | PMU_PS_PERIOD | PMU_PS_SKIP | PMU_SR_CFG | PMU_SR_PROD | PMU_SR_CONS | PMU_SR_LOST | PMU_SR_WIN | PNL_KSTAT
  | PNL_KEV | PNL_TEV | PNL_KCFG | PNL_KACT | PNL_TCFG | PNL_TCAP | PNL_LED | PNL_MGLED | PNL_ZSTAT | PNL_ZCFG
  | PNL_SENSE | PNL_SFP | SUP_STATUS | SUP_FWVER | SUP_WDOG | SUP_MBX | SUP_PCIID | SUP_LINK | SUP_H2S
  | SUP_S2H | GNS_STAT | GNS_SURVEY | GNS_LAT | GNS_LON | GNS_HGT | GNS_SOLN | GNS_AGE | GNS_SAT
  deriving DecidableEq, Repr

/-- Which copy of a register an access reaches (R18, R19): the one copy, the copy of the channel that the block's select
register names, or the requester's own copy. -/
inductive Scope | plain | ref | tdc | out | peer | req
  deriving DecidableEq, Repr

/-- The access types of R11. -/
inductive Access | rw | ro | wo | w1c | w1s | sc | rwl
  deriving DecidableEq, Repr

/-- One field of a register word: its place in the word, its type and reset value, and the stored field it shows:
`back` bytes below this word (0 for its own), starting at bit `klo` there, from bit `src` of a stored value of `tot` bits. -/
structure Piece where
  lo : Nat
  w : Nat
  ty : Access
  rst : Nat
  back : Nat
  klo : Nat
  src : Nat
  tot : Nat
  deriving DecidableEq, Repr

/-- How a word belongs to a multi-word value of R18: it stands alone, it is `d` bytes above the value's lowest word, or the
value is the last array dimension itself. -/
inductive Span | single | above (d : Nat) | array
  deriving DecidableEq, Repr

/-- One row of the register map: first offset, the two array dimensions (count and stride, count 1 where there is none),
which copy, how it joins a multi-word value, and its fields. -/
structure RegRow where
  name : RegName
  off : Nat
  n1 : Nat
  s1 : Nat
  n2 : Nat
  s2 : Nat
  scope : Scope
  span : Span
  pieces : List Piece
  deriving DecidableEq, Repr

/-- Registers of the block GLB. -/
def regMap_GLB : List RegRow := [
  ⟨.GLB_ID, 0x0, 1, 0, 1, 0, .plain, .single, [⟨0, 16, .ro, 0x9612, 0, 0, 0, 16⟩, ⟨16, 8, .ro, 0x1, 0, 16, 0, 8⟩, ⟨24, 8, .ro, 0x47, 0, 24, 0, 8⟩]⟩,
  ⟨.GLB_STRAP, 0x4, 1, 0, 1, 0, .plain, .single, [⟨0, 1, .ro, 0x0, 0, 0, 0, 1⟩, ⟨1, 1, .ro, 0x0, 0, 1, 0, 1⟩, ⟨2, 2, .ro, 0x0, 0, 2, 0, 2⟩]⟩,
  ⟨.GLB_SUPPLY, 0x8, 1, 0, 1, 0, .plain, .single, [⟨0, 11, .ro, 0x0, 0, 0, 0, 11⟩, ⟨12, 1, .w1c, 0x0, 0, 12, 0, 1⟩, ⟨13, 1, .w1c, 0x0, 0, 13, 0, 1⟩, ⟨14, 1, .w1c, 0x0, 0, 14, 0, 1⟩, ⟨16, 8, .ro, 0x0, 0, 16, 0, 8⟩]⟩,
  ⟨.GLB_SERIAL_LO, 0xC, 1, 0, 1, 0, .plain, .above 0, [⟨0, 32, .ro, 0x0, 0, 0, 0, 64⟩]⟩,
  ⟨.GLB_SERIAL_HI, 0x10, 1, 0, 1, 0, .plain, .above 4, [⟨0, 32, .ro, 0x0, 4, 0, 32, 64⟩]⟩,
  ⟨.GLB_MAC_LO, 0x14, 1, 0, 1, 0, .plain, .above 0, [⟨0, 32, .ro, 0x0, 0, 0, 0, 48⟩]⟩,
  ⟨.GLB_MAC_HI, 0x18, 1, 0, 1, 0, .plain, .above 4, [⟨0, 16, .ro, 0x0, 4, 0, 32, 48⟩]⟩,
  ⟨.GLB_SCRATCH, 0x1C, 1, 0, 1, 0, .plain, .single, [⟨0, 32, .rw, 0x0, 0, 0, 0, 32⟩]⟩,
  ⟨.GLB_DBG, 0x20, 1, 0, 1, 0, .plain, .single, [⟨0, 1, .ro, 0x0, 0, 0, 0, 1⟩, ⟨1, 1, .ro, 0x0, 0, 1, 0, 1⟩]⟩]

/-- Registers of the block BOOT. -/
def regMap_BOOT : List RegRow := [
  ⟨.BOOT_STATUS, 0x100000, 1, 0, 1, 0, .plain, .single, [⟨0, 4, .ro, 0x0, 0, 0, 0, 4⟩, ⟨4, 1, .ro, 0x0, 0, 4, 0, 1⟩, ⟨5, 1, .ro, 0x0, 0, 5, 0, 1⟩, ⟨6, 1, .ro, 0x0, 0, 6, 0, 1⟩, ⟨8, 8, .ro, 0x0, 0, 8, 0, 8⟩]⟩,
  ⟨.BOOT_WHY, 0x100004, 1, 0, 1, 0, .plain, .single, [⟨0, 8, .ro, 0x1, 0, 0, 0, 8⟩, ⟨8, 8, .ro, 0x0, 0, 8, 0, 8⟩, ⟨16, 8, .ro, 0x0, 0, 16, 0, 8⟩]⟩,
  ⟨.BOOT_CTRL, 0x100008, 1, 0, 1, 0, .plain, .single, [⟨0, 1, .sc, 0x0, 0, 0, 0, 1⟩, ⟨1, 1, .sc, 0x0, 0, 1, 0, 1⟩, ⟨2, 1, .sc, 0x0, 0, 2, 0, 1⟩, ⟨3, 1, .sc, 0x0, 0, 3, 0, 1⟩, ⟨4, 1, .sc, 0x0, 0, 4, 0, 1⟩, ⟨5, 1, .sc, 0x0, 0, 5, 0, 1⟩, ⟨8, 1, .rw, 0x0, 0, 8, 0, 1⟩, ⟨16, 16, .wo, 0x0, 0, 16, 0, 16⟩]⟩,
  ⟨.BOOT_LIMIT, 0x10000C, 1, 0, 1, 0, .plain, .single, [⟨0, 16, .rw, 0x78, 0, 0, 0, 16⟩]⟩,
  ⟨.BOOT_REC, 0x100040, 16, 4, 1, 0, .plain, .array, [⟨0, 32, .ro, 0x0, 0, 0, 0, 32⟩]⟩]

/-- Registers of the block RCP. -/
def regMap_RCP : List RegRow := [
  ⟨.RCP_STATUS, 0x200000, 1, 0, 1, 0, .plain, .single, [⟨0, 1, .ro, 0x0, 0, 0, 0, 1⟩, ⟨1, 1, .ro, 0x0, 0, 1, 0, 1⟩, ⟨4, 3, .ro, 0x0, 0, 4, 0, 3⟩, ⟨8, 8, .ro, 0x0, 0, 8, 0, 8⟩]⟩,
  ⟨.RCP_SERIAL, 0x200004, 1, 0, 1, 0, .plain, .single, [⟨0, 32, .ro, 0x0, 0, 0, 0, 32⟩]⟩,
  ⟨.RCP_CTRL, 0x200008, 1, 0, 1, 0, .plain, .single, [⟨0, 1, .rw, 0x0, 0, 0, 0, 1⟩, ⟨1, 1, .sc, 0x0, 0, 1, 0, 1⟩, ⟨2, 1, .sc, 0x0, 0, 2, 0, 1⟩, ⟨3, 1, .sc, 0x0, 0, 3, 0, 1⟩, ⟨4, 1, .sc, 0x0, 0, 4, 0, 1⟩]⟩,
  ⟨.RCP_FAIL, 0x20000C, 1, 0, 1, 0, .plain, .single, [⟨0, 8, .ro, 0x0, 0, 0, 0, 8⟩, ⟨8, 6, .ro, 0x0, 0, 8, 0, 6⟩, ⟨16, 16, .ro, 0x0, 0, 16, 0, 16⟩]⟩,
  ⟨.RCP_SRC, 0x200010, 1, 0, 1, 0, .plain, .single, [⟨6, 26, .rw, 0x0, 0, 6, 0, 26⟩]⟩,
  ⟨.RCP_LEN, 0x200014, 1, 0, 1, 0, .plain, .single, [⟨0, 24, .rw, 0x0, 0, 0, 0, 24⟩]⟩,
  ⟨.RCP_WARM, 0x200018, 1, 0, 1, 0, .plain, .single, [⟨0, 1, .ro, 0x0, 0, 0, 0, 1⟩, ⟨1, 1, .ro, 0x0, 0, 1, 0, 1⟩, ⟨2, 1, .ro, 0x0, 0, 2, 0, 1⟩, ⟨3, 1, .ro, 0x0, 0, 3, 0, 1⟩, ⟨4, 1, .ro, 0x0, 0, 4, 0, 1⟩, ⟨5, 1, .ro, 0x0, 0, 5, 0, 1⟩, ⟨6, 1, .ro, 0x0, 0, 6, 0, 1⟩, ⟨7, 1, .ro, 0x0, 0, 7, 0, 1⟩]⟩,
  ⟨.RCP_LEAD, 0x20001C, 1, 0, 1, 0, .plain, .single, [⟨0, 24, .rw, 0xF424, 0, 0, 0, 24⟩]⟩]

/-- Registers of the block PWR. -/
def regMap_PWR : List RegRow := [
  ⟨.PWR_GSTAT, 0x300000, 1, 0, 1, 0, .plain, .single, [⟨0, 13, .ro, 0x0, 0, 0, 0, 13⟩]⟩,
  ⟨.PWR_DOM_CTRL, 0x300100, 13, 32, 1, 0, .plain, .single, [⟨0, 2, .rw, 0x0, 0, 0, 0, 2⟩, ⟨2, 2, .rw, 0x0, 0, 2, 0, 2⟩]⟩,
  ⟨.PWR_DOM_STAT, 0x300104, 13, 32, 1, 0, .plain, .single, [⟨0, 2, .ro, 0x0, 0, 0, 0, 2⟩, ⟨2, 1, .ro, 0x0, 0, 2, 0, 1⟩, ⟨3, 1, .ro, 0x0, 0, 3, 0, 1⟩, ⟨4, 2, .ro, 0x0, 0, 4, 0, 2⟩, ⟨6, 1, .ro, 0x0, 0, 6, 0, 1⟩, ⟨7, 1, .ro, 0x0, 0, 7, 0, 1⟩, ⟨16, 8, .w1c, 0x0, 0, 16, 0, 8⟩, ⟨24, 1, .w1c, 0x0, 0, 24, 0, 1⟩]⟩,
  ⟨.PWR_WAKE, 0x300108, 13, 32, 1, 0, .plain, .single, [⟨0, 4, .ro, 0x0, 0, 0, 0, 4⟩, ⟨4, 4, .ro, 0x0, 0, 4, 0, 4⟩, ⟨8, 1, .ro, 0x0, 0, 8, 0, 1⟩, ⟨9, 2, .ro, 0x0, 0, 9, 0, 2⟩]⟩,
  ⟨.PWR_WAKET_LO, 0x30010C, 13, 32, 1, 0, .plain, .above 0, [⟨0, 32, .ro, 0x0, 0, 0, 0, 64⟩]⟩,
  ⟨.PWR_WAKET_HI, 0x300110, 13, 32, 1, 0, .plain, .above 4, [⟨0, 32, .ro, 0x0, 4, 0, 32, 64⟩]⟩,
  ⟨.PWR_SLEEP_ACC_LO, 0x300114, 13, 32, 1, 0, .plain, .above 0, [⟨0, 32, .ro, 0x0, 0, 0, 0, 64⟩]⟩,
  ⟨.PWR_SLEEP_ACC_HI, 0x300118, 13, 32, 1, 0, .plain, .above 4, [⟨0, 32, .ro, 0x0, 4, 0, 32, 64⟩]⟩,
  ⟨.PWR_SLEEP_CNT, 0x30011C, 13, 32, 1, 0, .plain, .single, [⟨0, 32, .ro, 0x0, 0, 0, 0, 32⟩]⟩]

/-- Registers of the block HRT. -/
def regMap_HRT : List RegRow := [
  ⟨.HRT_SNAP_0, 0x400000, 1, 0, 1, 0, .plain, .above 0, []⟩,
  ⟨.HRT_SNAP_1, 0x400004, 1, 0, 1, 0, .plain, .above 4, []⟩,
  ⟨.HRT_SNAP_2, 0x400008, 1, 0, 1, 0, .plain, .above 8, []⟩,
  ⟨.HRT_SNAP_3, 0x40000C, 1, 0, 1, 0, .plain, .above 12, []⟩,
  ⟨.HRT_SNAP_4, 0x400010, 1, 0, 1, 0, .plain, .above 16, []⟩,
  ⟨.HRT_SNAP_5, 0x400014, 1, 0, 1, 0, .plain, .above 20, []⟩,
  ⟨.HRT_SNAP_6, 0x400018, 1, 0, 1, 0, .plain, .above 24, []⟩,
  ⟨.HRT_SNAP_7, 0x40001C, 1, 0, 1, 0, .plain, .above 28, []⟩,
  ⟨.HRT_SNAP_8, 0x400020, 1, 0, 1, 0, .plain, .above 32, []⟩,
  ⟨.HRT_EPOCH_SEC_LO, 0x400030, 1, 0, 1, 0, .plain, .above 0, [⟨0, 32, .ro, 0x0, 0, 0, 0, 48⟩]⟩,
  ⟨.HRT_EPOCH_SEC_HI, 0x400034, 1, 0, 1, 0, .plain, .above 4, [⟨0, 16, .ro, 0x0, 4, 0, 32, 48⟩]⟩,
  ⟨.HRT_STAT, 0x400038, 1, 0, 1, 0, .plain, .single, [⟨0, 1, .w1c, 0x0, 0, 0, 0, 1⟩, ⟨1, 1, .w1c, 0x0, 0, 1, 0, 1⟩, ⟨2, 1, .w1c, 0x0, 0, 2, 0, 1⟩, ⟨3, 1, .w1c, 0x0, 0, 3, 0, 1⟩, ⟨4, 1, .w1c, 0x0, 0, 4, 0, 1⟩, ⟨5, 1, .w1c, 0x0, 0, 5, 0, 1⟩, ⟨6, 1, .w1c, 0x0, 0, 6, 0, 1⟩]⟩,
  ⟨.HRT_DP_VIEW, 0x40003C, 1, 0, 1, 0, .req, .single, [⟨0, 2, .rw, 0x0, 0, 0, 0, 2⟩, ⟨8, 8, .rw, 0x0, 0, 8, 0, 8⟩]⟩,
  ⟨.HRT_DP_RATE_LO, 0x400040, 1, 0, 1, 0, .plain, .above 0, []⟩,
  ⟨.HRT_DP_RATE_HI, 0x400044, 1, 0, 1, 0, .plain, .above 4, []⟩,
  ⟨.HRT_DP_OFFSET_0, 0x400048, 1, 0, 1, 0, .plain, .above 8, []⟩,
  ⟨.HRT_DP_OFFSET_1, 0x40004C, 1, 0, 1, 0, .plain, .above 12, []⟩,
  ⟨.HRT_DP_OFFSET_2, 0x400050, 1, 0, 1, 0, .plain, .above 16, []⟩,
  ⟨.HRT_DP_OFFSET_3, 0x400054, 1, 0, 1, 0, .plain, .above 20, []⟩,
  ⟨.HRT_DP_ANCHOR_LO, 0x400058, 1, 0, 1, 0, .plain, .above 24, []⟩,
  ⟨.HRT_DP_ANCHOR_HI, 0x40005C, 1, 0, 1, 0, .plain, .above 28, []⟩,
  ⟨.HRT_DP_GEN, 0x400060, 1, 0, 1, 0, .plain, .above 32, []⟩,
  ⟨.HRT_DP_CTICK_LO, 0x400064, 1, 0, 1, 0, .plain, .above 36, []⟩,
  ⟨.HRT_DP_CTICK_HI, 0x400068, 1, 0, 1, 0, .plain, .above 40, []⟩]

/-- Registers of the block HRT. -/
def regMap_HRT_2 : List RegRow := [
  ⟨.HRT_DPW_RATE_LO, 0x400080, 1, 0, 1, 0, .plain, .single, [⟨0, 32, .rw, 0x0, 0, 0, 0, 48⟩]⟩,
  ⟨.HRT_DPW_RATE_HI, 0x400084, 1, 0, 1, 0, .plain, .single, [⟨0, 16, .rw, 0x0, 4, 0, 32, 48⟩]⟩,
  ⟨.HRT_DPW_OFFSET_0, 0x400088, 1, 0, 1, 0, .plain, .single, [⟨0, 32, .rw, 0x0, 0, 0, 0, 128⟩]⟩,
  ⟨.HRT_DPW_OFFSET_1, 0x40008C, 1, 0, 1, 0, .plain, .single, [⟨0, 32, .rw, 0x0, 4, 0, 32, 128⟩]⟩,
  ⟨.HRT_DPW_OFFSET_2, 0x400090, 1, 0, 1, 0, .plain, .single, [⟨0, 32, .rw, 0x0, 8, 0, 64, 128⟩]⟩,
  ⟨.HRT_DPW_OFFSET_3, 0x400094, 1, 0, 1, 0, .plain, .single, [⟨0, 32, .rw, 0x0, 12, 0, 96, 128⟩]⟩,
  ⟨.HRT_DPW_ANCHOR_LO, 0x400098, 1, 0, 1, 0, .plain, .single, [⟨0, 32, .rw, 0x0, 0, 0, 0, 64⟩]⟩,
  ⟨.HRT_DPW_ANCHOR_HI, 0x40009C, 1, 0, 1, 0, .plain, .single, [⟨0, 32, .rw, 0x0, 4, 0, 32, 64⟩]⟩,
  ⟨.HRT_DP_COMMIT_LO, 0x4000A0, 1, 0, 1, 0, .plain, .single, [⟨0, 32, .rw, 0x0, 0, 0, 0, 64⟩]⟩,
  ⟨.HRT_DP_COMMIT_HI, 0x4000A4, 1, 0, 1, 0, .plain, .single, [⟨0, 32, .rw, 0x0, 4, 0, 32, 64⟩]⟩,
  ⟨.HRT_DP_CTRL, 0x4000A8, 1, 0, 1, 0, .plain, .single, [⟨0, 1, .sc, 0x0, 0, 0, 0, 1⟩, ⟨16, 16, .wo, 0x0, 0, 16, 0, 16⟩]⟩,
  ⟨.HRT_DP_STAT, 0x4000AC, 1, 0, 1, 0, .plain, .single, [⟨0, 3, .ro, 0x0, 0, 0, 0, 3⟩, ⟨8, 8, .ro, 0x0, 0, 8, 0, 8⟩, ⟨16, 1, .ro, 0x0, 0, 16, 0, 1⟩, ⟨24, 8, .ro, 0x0, 0, 24, 0, 8⟩]⟩,
  ⟨.HRT_LASTSTEP_0, 0x4000B0, 1, 0, 1, 0, .plain, .above 0, [⟨0, 8, .ro, 0x0, 0, 0, 0, 8⟩, ⟨8, 1, .ro, 0x0, 0, 8, 0, 1⟩]⟩,
  ⟨.HRT_LASTSTEP_1, 0x4000B4, 1, 0, 1, 0, .plain, .above 4, [⟨0, 32, .ro, 0x0, 0, 0, 0, 64⟩]⟩,
  ⟨.HRT_LASTSTEP_2, 0x4000B8, 1, 0, 1, 0, .plain, .above 8, [⟨0, 32, .ro, 0x0, 4, 0, 32, 64⟩]⟩,
  ⟨.HRT_SRV_LEAD, 0x400100, 1, 0, 1, 0, .plain, .single, [⟨0, 20, .rw, 0x186A, 0, 0, 0, 20⟩]⟩,
  ⟨.HRT_SRV_LIM, 0x400104, 1, 0, 1, 0, .plain, .single, [⟨0, 16, .rw, 0x3E8, 0, 0, 0, 16⟩, ⟨16, 16, .rw, 0x64, 0, 16, 0, 16⟩]⟩,
  ⟨.HRT_SRV_CTRL, 0x400200, 4, 32, 1, 0, .plain, .single, [⟨0, 1, .rw, 0x0, 0, 0, 0, 1⟩, ⟨1, 1, .rw, 0x0, 0, 1, 0, 1⟩, ⟨2, 1, .sc, 0x0, 0, 2, 0, 1⟩, ⟨16, 16, .wo, 0x0, 0, 16, 0, 16⟩]⟩,
  ⟨.HRT_SRV_STAT, 0x400204, 4, 32, 1, 0, .plain, .single, [⟨0, 3, .ro, 0x0, 0, 0, 0, 3⟩, ⟨4, 4, .ro, 0x0, 0, 4, 0, 4⟩, ⟨8, 1, .ro, 0x0, 0, 8, 0, 1⟩, ⟨9, 1, .ro, 0x0, 0, 9, 0, 1⟩, ⟨16, 1, .w1c, 0x0, 0, 16, 0, 1⟩, ⟨17, 1, .w1c, 0x0, 0, 17, 0, 1⟩]⟩,
  ⟨.HRT_SRV_ERR, 0x400208, 4, 32, 1, 0, .plain, .single, [⟨0, 32, .ro, 0x0, 0, 0, 0, 32⟩]⟩,
  ⟨.HRT_SRV_OUT_LO, 0x40020C, 4, 32, 1, 0, .plain, .above 0, [⟨0, 32, .ro, 0x0, 0, 0, 0, 48⟩]⟩,
  ⟨.HRT_SRV_OUT_HI, 0x400210, 4, 32, 1, 0, .plain, .above 4, [⟨0, 16, .ro, 0x0, 4, 0, 32, 48⟩]⟩,
  ⟨.HRT_SRV_KP, 0x400214, 4, 32, 1, 0, .plain, .single, [⟨0, 32, .rw, 0x0, 0, 0, 0, 32⟩]⟩,
  ⟨.HRT_SRV_KI, 0x400218, 4, 32, 1, 0, .plain, .single, [⟨0, 32, .rw, 0x0, 0, 0, 0, 32⟩]⟩]

/-- Registers of the block HRT. -/
def regMap_HRT_3 : List RegRow := [
  ⟨.HRT_SRV_FSTEP, 0x40021C, 4, 32, 1, 0, .plain, .single, [⟨0, 32, .rw, 0x0, 0, 0, 0, 32⟩]⟩,
  ⟨.HRT_UTC, 0x400300, 1, 0, 1, 0, .plain, .single, [⟨0, 16, .ro, 0x25, 0, 0, 0, 16⟩, ⟨16, 1, .ro, 0x0, 0, 16, 0, 1⟩, ⟨17, 3, .ro, 0x0, 0, 17, 0, 3⟩, ⟨20, 1, .ro, 0x0, 0, 20, 0, 1⟩, ⟨21, 1, .ro, 0x0, 0, 21, 0, 1⟩]⟩,
  ⟨.HRT_LEAP_LO, 0x400304, 1, 0, 1, 0, .plain, .above 0, [⟨0, 32, .ro, 0x0, 0, 0, 0, 48⟩]⟩,
  ⟨.HRT_LEAP_HI, 0x400308, 1, 0, 1, 0, .plain, .above 4, [⟨0, 16, .ro, 0x0, 4, 0, 32, 48⟩]⟩,
  ⟨.HRT_UTCPREV_LO, 0x40030C, 1, 0, 1, 0, .plain, .above 0, [⟨0, 32, .ro, 0x0, 0, 0, 0, 48⟩]⟩,
  ⟨.HRT_UTCPREV_HI, 0x400310, 1, 0, 1, 0, .plain, .above 4, [⟨0, 16, .ro, 0x0, 4, 0, 32, 48⟩, ⟨16, 16, .ro, 0x0, 0, 16, 0, 16⟩]⟩,
  ⟨.HRT_UTCW, 0x400314, 1, 0, 1, 0, .plain, .single, [⟨0, 16, .rw, 0x0, 0, 0, 0, 16⟩, ⟨16, 1, .sc, 0x0, 0, 16, 0, 1⟩, ⟨17, 1, .sc, 0x0, 0, 17, 0, 1⟩, ⟨18, 1, .rw, 0x0, 0, 18, 0, 1⟩, ⟨19, 1, .sc, 0x0, 0, 19, 0, 1⟩]⟩,
  ⟨.HRT_UTCW_SEC_LO, 0x400318, 1, 0, 1, 0, .plain, .single, [⟨0, 32, .rw, 0x0, 0, 0, 0, 48⟩]⟩,
  ⟨.HRT_UTCW_SEC_HI, 0x40031C, 1, 0, 1, 0, .plain, .single, [⟨0, 16, .rw, 0x0, 4, 0, 32, 48⟩]⟩,
  ⟨.HRT_TB_ROUTE, 0x400C04, 13, 4, 1, 0, .plain, .single, [⟨0, 9, .ro, 0x0, 0, 0, 0, 9⟩, ⟨9, 6, .ro, 0x0, 0, 9, 0, 6⟩, ⟨16, 8, .ro, 0x0, 0, 16, 0, 8⟩, ⟨28, 1, .ro, 0x0, 0, 28, 0, 1⟩, ⟨29, 1, .ro, 0x0, 0, 29, 0, 1⟩, ⟨30, 1, .ro, 0x0, 0, 30, 0, 1⟩, ⟨31, 1, .w1c, 0x0, 0, 31, 0, 1⟩]⟩]

/-- Registers of the block TDC. -/
def regMap_TDC : List RegRow := [
  ⟨.TDC_CHSEL, 0x500000, 1, 0, 1, 0, .req, .single, [⟨0, 5, .rw, 0x0, 0, 0, 0, 5⟩]⟩,
  ⟨.TDC_CFG, 0x500004, 1, 0, 1, 0, .tdc, .single, [⟨0, 2, .ro, 0x0, 0, 0, 0, 2⟩, ⟨2, 1, .ro, 0x0, 0, 2, 0, 1⟩, ⟨3, 1, .ro, 0x0, 0, 3, 0, 1⟩, ⟨4, 3, .ro, 0x0, 0, 4, 0, 3⟩, ⟨7, 1, .rw, 0x0, 0, 7, 0, 1⟩, ⟨8, 5, .rw, 0x1F, 0, 8, 0, 5⟩, ⟨13, 1, .sc, 0x0, 0, 13, 0, 1⟩]⟩,
  ⟨.TDC_STAT, 0x500008, 1, 0, 1, 0, .tdc, .single, [⟨0, 1, .ro, 0x0, 0, 0, 0, 1⟩, ⟨1, 1, .ro, 0x0, 0, 1, 0, 1⟩, ⟨8, 1, .w1c, 0x0, 0, 8, 0, 1⟩, ⟨9, 1, .w1c, 0x0, 0, 9, 0, 1⟩, ⟨10, 1, .w1c, 0x0, 0, 10, 0, 1⟩, ⟨11, 1, .w1c, 0x0, 0, 11, 0, 1⟩, ⟨12, 1, .w1c, 0x0, 0, 12, 0, 1⟩, ⟨13, 1, .w1c, 0x0, 0, 13, 0, 1⟩]⟩,
  ⟨.TDC_GATE, 0x50000C, 1, 0, 1, 0, .tdc, .single, [⟨0, 20, .rw, 0x3E8, 0, 0, 0, 20⟩]⟩,
  ⟨.TDC_DEC, 0x500010, 1, 0, 1, 0, .tdc, .single, [⟨0, 18, .ro, 0x1, 0, 0, 0, 18⟩]⟩,
  ⟨.TDC_WIN, 0x500014, 1, 0, 1, 0, .tdc, .single, [⟨0, 30, .rw, 0x12A05F20, 0, 0, 0, 30⟩]⟩,
  ⟨.TDC_OUTLIM, 0x500018, 1, 0, 1, 0, .tdc, .single, [⟨0, 16, .rw, 0x280, 0, 0, 0, 16⟩]⟩,
  ⟨.TDC_CAL, 0x50001C, 1, 0, 1, 0, .tdc, .single, [⟨0, 16, .ro, 0x0, 0, 0, 0, 16⟩, ⟨16, 16, .ro, 0x400, 0, 16, 0, 16⟩]⟩,
  ⟨.TDC_CNT, 0x500020, 1, 0, 1, 0, .tdc, .single, [⟨0, 16, .ro, 0x0, 0, 0, 0, 16⟩, ⟨16, 16, .ro, 0x0, 0, 16, 0, 16⟩]⟩,
  ⟨.TDC_TB, 0x500024, 1, 0, 1, 0, .plain, .single, [⟨0, 2, .rw, 0x0, 0, 0, 0, 2⟩, ⟨2, 2, .ro, 0x0, 0, 2, 0, 2⟩, ⟨4, 4, .rw, 0x0, 0, 4, 0, 4⟩, ⟨8, 1, .w1c, 0x0, 0, 8, 0, 1⟩]⟩,
  ⟨.TDC_RES, 0x500040, 8, 4, 1, 0, .tdc, .array, [⟨0, 32, .ro, 0x0, 0, 0, 0, 32⟩]⟩]

/-- Registers of the block REF. -/
def regMap_REF : List RegRow := [
  ⟨.REF_CHSEL, 0x600000, 1, 0, 1, 0, .req, .single, [⟨0, 4, .rw, 0x0, 0, 0, 0, 4⟩]⟩,
  ⟨.REF_CFG, 0x600004, 1, 0, 1, 0, .ref, .single, [⟨0, 1, .rw, 0x0, 0, 0, 0, 1⟩, ⟨1, 1, .rw, 0x0, 0, 1, 0, 1⟩, ⟨2, 1, .rw, 0x0, 0, 2, 0, 1⟩, ⟨4, 4, .rw, 0x6, 0, 4, 0, 4⟩, ⟨8, 1, .rw, 0x0, 0, 8, 0, 1⟩, ⟨9, 1, .rw, 0x0, 0, 9, 0, 1⟩, ⟨10, 3, .rw, 0x7, 0, 10, 0, 3⟩, ⟨13, 2, .rw, 0x0, 0, 13, 0, 2⟩, ⟨16, 2, .rw, 0x0, 0, 16, 0, 2⟩, ⟨18, 1, .rw, 0x1, 0, 18, 0, 1⟩, ⟨19, 2, .rw, 0x0, 0, 19, 0, 2⟩]⟩,
  ⟨.REF_STAT, 0x600008, 1, 0, 1, 0, .ref, .single, [⟨0, 4, .ro, 0x0, 0, 0, 0, 4⟩, ⟨4, 3, .ro, 0x0, 0, 4, 0, 3⟩, ⟨8, 4, .ro, 0x0, 0, 8, 0, 4⟩, ⟨12, 1, .ro, 0x0, 0, 12, 0, 1⟩, ⟨13, 1, .ro, 0x0, 0, 13, 0, 1⟩, ⟨14, 1, .ro, 0x0, 0, 14, 0, 1⟩, ⟨16, 1, .w1c, 0x0, 0, 16, 0, 1⟩, ⟨17, 1, .w1c, 0x0, 0, 17, 0, 1⟩, ⟨18, 1, .w1c, 0x0, 0, 18, 0, 1⟩, ⟨19, 1, .w1c, 0x0, 0, 19, 0, 1⟩, ⟨20, 1, .w1c, 0x0, 0, 20, 0, 1⟩]⟩,
  ⟨.REF_UNC, 0x60000C, 1, 0, 1, 0, .ref, .single, [⟨0, 32, .rw, 0x0, 0, 0, 0, 32⟩]⟩,
  ⟨.REF_UKIND, 0x600010, 1, 0, 1, 0, .ref, .single, [⟨0, 32, .ro, 0xFFFFFFFF, 0, 0, 0, 32⟩]⟩,
  ⟨.REF_DLY, 0x600014, 1, 0, 1, 0, .ref, .single, [⟨0, 24, .rw, 0x0, 0, 0, 0, 24⟩]⟩,
  ⟨.REF_DLYUNC, 0x600018, 1, 0, 1, 0, .ref, .single, [⟨0, 16, .rw, 0x0, 0, 0, 0, 16⟩]⟩,
  ⟨.REF_QUAL, 0x60001C, 1, 0, 1, 0, .ref, .single, [⟨0, 8, .ro, 0x0, 0, 0, 0, 8⟩, ⟨8, 8, .ro, 0x0, 0, 8, 0, 8⟩, ⟨16, 8, .ro, 0xFF, 0, 16, 0, 8⟩]⟩,
  ⟨.REF_NOMFREQ_LO, 0x600020, 1, 0, 1, 0, .ref, .above 0, [⟨0, 32, .rw, 0x0, 0, 0, 0, 48⟩]⟩,
  ⟨.REF_NOMFREQ_HI, 0x600024, 1, 0, 1, 0, .ref, .above 4, [⟨0, 16, .rw, 0x0, 4, 0, 32, 48⟩]⟩,
  ⟨.REF_ANT, 0x600028, 1, 0, 1, 0, .plain, .single, [⟨0, 7, .ro, 0x0, 0, 0, 0, 7⟩, ⟨7, 1, .ro, 0x0, 0, 7, 0, 1⟩, ⟨8, 1, .ro, 0x0, 0, 8, 0, 1⟩, ⟨9, 1, .ro, 0x0, 0, 9, 0, 1⟩, ⟨12, 1, .w1c, 0x0, 0, 12, 0, 1⟩, ⟨13, 1, .w1c, 0x0, 0, 13, 0, 1⟩]⟩,
  ⟨.REF_PRES, 0x60002C, 1, 0, 1, 0, .plain, .single, [⟨0, 6, .ro, 0x0, 0, 0, 0, 6⟩, ⟨6, 1, .ro, 0x0, 0, 6, 0, 1⟩]⟩,
  ⟨.REF_PRIO, 0x600030, 1, 0, 1, 0, .ref, .single, [⟨0, 8, .rw, 0x0, 0, 0, 0, 8⟩]⟩,
  ⟨.REF_QCFG, 0x600034, 1, 0, 1, 0, .ref, .single, [⟨0, 12, .rw, 0x3C, 0, 0, 0, 12⟩, ⟨16, 12, .rw, 0xA, 0, 16, 0, 12⟩]⟩,
  ⟨.REF_FSOFT, 0x600038, 1, 0, 1, 0, .ref, .single, [⟨0, 32, .rw, 0x2710, 0, 0, 0, 32⟩]⟩,
  ⟨.REF_FHARD, 0x60003C, 1, 0, 1, 0, .ref, .single, [⟨0, 32, .rw, 0xC350, 0, 0, 0, 32⟩]⟩,
  ⟨.REF_PMARG, 0x600040, 1, 0, 1, 0, .ref, .single, [⟨0, 32, .rw, 0x3E8, 0, 0, 0, 32⟩]⟩,
  ⟨.REF_QSTAT, 0x600044, 1, 0, 1, 0, .ref, .single, [⟨0, 2, .ro, 0x0, 0, 0, 0, 2⟩, ⟨2, 1, .ro, 0x0, 0, 2, 0, 1⟩, ⟨3, 1, .ro, 0x0, 0, 3, 0, 1⟩, ⟨4, 1, .ro, 0x0, 0, 4, 0, 1⟩, ⟨5, 1, .ro, 0x0, 0, 5, 0, 1⟩, ⟨6, 1, .ro, 0x0, 0, 6, 0, 1⟩, ⟨8, 4, .ro, 0x0, 0, 8, 0, 4⟩, ⟨12, 16, .ro, 0x0, 0, 12, 0, 16⟩, ⟨28, 1, .w1c, 0x0, 0, 28, 0, 1⟩, ⟨29, 1, .w1c, 0x0, 0, 29, 0, 1⟩, ⟨30, 1, .w1c, 0x0, 0, 30, 0, 1⟩]⟩,
  ⟨.REF_PDEV, 0x600048, 1, 0, 1, 0, .ref, .single, [⟨0, 32, .ro, 0x0, 0, 0, 0, 32⟩]⟩,
  ⟨.REF_FDEV_LO, 0x60004C, 1, 0, 1, 0, .ref, .above 0, [⟨0, 32, .ro, 0x0, 0, 0, 0, 64⟩]⟩,
  ⟨.REF_FDEV_HI, 0x600050, 1, 0, 1, 0, .ref, .above 4, [⟨0, 32, .ro, 0x0, 4, 0, 32, 64⟩]⟩,
  ⟨.REF_DRIFT, 0x600054, 1, 0, 1, 0, .ref, .single, [⟨0, 32, .rw, 0x3E8, 0, 0, 0, 32⟩]⟩,
  ⟨.REF_DRATE, 0x600058, 1, 0, 1, 0, .ref, .single, [⟨0, 32, .ro, 0x0, 0, 0, 0, 32⟩]⟩,
  ⟨.REF_SELCTL, 0x600100, 1, 0, 1, 0, .plain, .single, [⟨0, 4, .rw, 0x0, 0, 0, 0, 4⟩, ⟨4, 1, .rw, 0x0, 0, 4, 0, 1⟩, ⟨5, 1, .rw, 0x0, 0, 5, 0, 1⟩]⟩]

/-- Registers of the block REF. -/
def regMap_REF_2 : List RegRow := [
  ⟨.REF_SELSTAT, 0x600104, 1, 0, 1, 0, .plain, .single, [⟨0, 4, .ro, 0x0, 0, 0, 0, 4⟩, ⟨4, 1, .ro, 0x1, 0, 4, 0, 1⟩, ⟨5, 1, .ro, 0x0, 0, 5, 0, 1⟩, ⟨6, 1, .ro, 0x0, 0, 6, 0, 1⟩, ⟨7, 1, .ro, 0x0, 0, 7, 0, 1⟩, ⟨8, 1, .ro, 0x0, 0, 8, 0, 1⟩, ⟨9, 1, .ro, 0x0, 0, 9, 0, 1⟩, ⟨12, 4, .ro, 0x0, 0, 12, 0, 4⟩, ⟨16, 1, .w1c, 0x0, 0, 16, 0, 1⟩, ⟨17, 1, .w1c, 0x0, 0, 17, 0, 1⟩, ⟨18, 1, .w1c, 0x0, 0, 18, 0, 1⟩, ⟨19, 1, .w1c, 0x0, 0, 19, 0, 1⟩, ⟨20, 1, .w1c, 0x0, 0, 20, 0, 1⟩, ⟨21, 1, .w1c, 0x0, 0, 21, 0, 1⟩, ⟨22, 1, .w1c, 0x0, 0, 22, 0, 1⟩, ⟨23, 1, .w1c, 0x0, 0, 23, 0, 1⟩]⟩,
  ⟨.REF_TOL, 0x600108, 1, 0, 1, 0, .plain, .single, [⟨0, 32, .rw, 0x4E20, 0, 0, 0, 32⟩]⟩,
  ⟨.REF_SWSLEW, 0x60010C, 1, 0, 1, 0, .plain, .single, [⟨0, 20, .rw, 0x3E8, 0, 0, 0, 20⟩]⟩,
  ⟨.REF_HAVG, 0x600110, 1, 0, 1, 0, .plain, .single, [⟨0, 17, .rw, 0x12C, 0, 0, 0, 17⟩]⟩,
  ⟨.REF_ERRB, 0x600114, 1, 0, 1, 0, .plain, .single, [⟨0, 32, .ro, 0xFFFFFFFF, 0, 0, 0, 32⟩]⟩,
  ⟨.REF_EBTHR, 0x600118, 1, 0, 1, 0, .plain, .single, [⟨0, 32, .rw, 0xFFFFFFFF, 0, 0, 0, 32⟩]⟩,
  ⟨.REF_EB, 0x600140, 24, 4, 1, 0, .plain, .array, [⟨0, 32, .ro, 0x0, 0, 0, 0, 32⟩]⟩]

/-- Registers of the block OSC. -/
def regMap_OSC : List RegRow := [
  ⟨.OSC_STAT, 0x700000, 1, 0, 1, 0, .plain, .single, [⟨0, 1, .ro, 0x1, 0, 0, 0, 1⟩, ⟨1, 1, .ro, 0x1, 0, 1, 0, 1⟩, ⟨2, 1, .ro, 0x1, 0, 2, 0, 1⟩, ⟨3, 1, .ro, 0x0, 0, 3, 0, 1⟩, ⟨4, 3, .ro, 0x0, 0, 4, 0, 3⟩, ⟨7, 1, .ro, 0x0, 0, 7, 0, 1⟩, ⟨8, 1, .ro, 0x0, 0, 8, 0, 1⟩, ⟨16, 1, .w1c, 0x0, 0, 16, 0, 1⟩, ⟨17, 1, .w1c, 0x0, 0, 17, 0, 1⟩, ⟨18, 1, .w1c, 0x0, 0, 18, 0, 1⟩, ⟨19, 1, .w1c, 0x0, 0, 19, 0, 1⟩, ⟨20, 1, .w1c, 0x0, 0, 20, 0, 1⟩, ⟨21, 1, .w1c, 0x0, 0, 21, 0, 1⟩]⟩,
  ⟨.OSC_CTRL, 0x700004, 1, 0, 1, 0, .plain, .single, [⟨0, 1, .sc, 0x0, 0, 0, 0, 1⟩, ⟨1, 1, .sc, 0x0, 0, 1, 0, 1⟩, ⟨2, 1, .sc, 0x0, 0, 2, 0, 1⟩, ⟨3, 1, .sc, 0x0, 0, 3, 0, 1⟩, ⟨16, 16, .wo, 0x0, 0, 16, 0, 16⟩]⟩,
  ⟨.OSC_OVEN, 0x700008, 1, 0, 1, 0, .plain, .single, [⟨0, 16, .ro, 0x0, 0, 0, 0, 16⟩, ⟨16, 8, .ro, 0x0, 0, 16, 0, 8⟩]⟩,
  ⟨.OSC_CELL, 0x70000C, 1, 0, 1, 0, .plain, .single, [⟨0, 16, .ro, 0x0, 0, 0, 0, 16⟩, ⟨16, 8, .ro, 0x0, 0, 16, 0, 8⟩, ⟨24, 8, .ro, 0x0, 0, 24, 0, 8⟩]⟩,
  ⟨.OSC_OP, 0x700010, 1, 0, 1, 0, .plain, .single, [⟨0, 5, .ro, 0x0, 0, 0, 0, 5⟩, ⟨5, 3, .ro, 0x0, 0, 5, 0, 3⟩, ⟨8, 9, .ro, 0x0, 0, 8, 0, 9⟩]⟩,
  ⟨.OSC_SETTLE, 0x700014, 1, 0, 1, 0, .plain, .single, [⟨0, 16, .rw, 0x384, 0, 0, 0, 16⟩, ⟨16, 16, .rw, 0x258, 0, 16, 0, 16⟩]⟩,
  ⟨.OSC_TS, 0x700020, 8, 4, 1, 0, .plain, .single, [⟨0, 16, .ro, 0x0, 0, 0, 0, 16⟩, ⟨16, 1, .ro, 0x0, 0, 16, 0, 1⟩]⟩,
  ⟨.OSC_YAT_LO, 0x700040, 1, 0, 1, 0, .plain, .above 0, [⟨0, 32, .ro, 0x0, 0, 0, 0, 64⟩]⟩,
  ⟨.OSC_YAT_HI, 0x700044, 1, 0, 1, 0, .plain, .above 4, [⟨0, 32, .ro, 0x0, 4, 0, 32, 64⟩]⟩,
  ⟨.OSC_YAT_U, 0x700048, 1, 0, 1, 0, .plain, .single, [⟨0, 32, .ro, 0x989680, 0, 0, 0, 32⟩]⟩,
  ⟨.OSC_AGE_D, 0x700050, 2, 4, 1, 0, .plain, .single, [⟨0, 32, .ro, 0x0, 0, 0, 0, 32⟩]⟩,
  ⟨.OSC_AGE_U_0, 0x700058, 1, 0, 1, 0, .plain, .single, [⟨0, 32, .ro, 0x989680, 0, 0, 0, 32⟩]⟩,
  ⟨.OSC_AGE_U_1, 0x70005C, 1, 0, 1, 0, .plain, .single, [⟨0, 32, .ro, 0xBEBC200, 0, 0, 0, 32⟩]⟩,
  ⟨.OSC_LEARN, 0x700060, 2, 4, 1, 0, .plain, .single, [⟨0, 8, .ro, 0x0, 0, 0, 0, 8⟩, ⟨8, 1, .ro, 0x0, 0, 8, 0, 1⟩]⟩,
  ⟨.OSC_TL, 0x700068, 2, 4, 1, 0, .plain, .single, [⟨0, 32, .ro, 0xFFFFFFFF, 0, 0, 0, 32⟩]⟩,
  ⟨.OSC_UNTR_0, 0x700070, 1, 0, 1, 0, .plain, .single, [⟨0, 32, .rw, 0x1E8480, 0, 0, 0, 32⟩]⟩,
  ⟨.OSC_UNTR_1, 0x700074, 1, 0, 1, 0, .plain, .single, [⟨0, 32, .rw, 0x2FAF080, 0, 0, 0, 32⟩]⟩,
  ⟨.OSC_MAPSEL, 0x700080, 1, 0, 1, 0, .plain, .single, [⟨0, 5, .rw, 0x0, 0, 0, 0, 5⟩, ⟨5, 3, .rw, 0x0, 0, 5, 0, 3⟩, ⟨8, 1, .rw, 0x0, 0, 8, 0, 1⟩]⟩,
  ⟨.OSC_MAPVAL, 0x700084, 1, 0, 1, 0, .plain, .single, [⟨0, 16, .ro, 0x0, 0, 0, 0, 16⟩, ⟨16, 1, .ro, 0x0, 0, 16, 0, 1⟩]⟩,
  ⟨.OSC_MAPY, 0x700088, 1, 0, 1, 0, .plain, .single, [⟨0, 32, .ro, 0x0, 0, 0, 0, 32⟩]⟩]

/-- Registers of the block OUT. -/
def regMap_OUT : List RegRow := [
  ⟨.OUT_CHSEL, 0x800000, 1, 0, 1, 0, .req, .single, [⟨0, 4, .rw, 0x0, 0, 0, 0, 4⟩]⟩,
  ⟨.OUT_CFG, 0x800004, 1, 0, 1, 0, .out, .single, [⟨0, 2, .ro, 0x0, 0, 0, 0, 2⟩, ⟨2, 2, .ro, 0x0, 0, 2, 0, 2⟩, ⟨4, 2, .ro, 0x0, 0, 4, 0, 2⟩, ⟨6, 1, .ro, 0x0, 0, 6, 0, 1⟩, ⟨7, 1, .ro, 0x0, 0, 7, 0, 1⟩, ⟨8, 1, .rw, 0x0, 0, 8, 0, 1⟩, ⟨9, 1, .rw, 0x0, 0, 9, 0, 1⟩]⟩,
  ⟨.OUT_STAT, 0x800008, 1, 0, 1, 0, .out, .single, [⟨0, 1, .ro, 0x0, 0, 0, 0, 1⟩, ⟨1, 1, .ro, 0x0, 0, 1, 0, 1⟩, ⟨2, 1, .ro, 0x0, 0, 2, 0, 1⟩, ⟨3, 1, .ro, 0x0, 0, 3, 0, 1⟩, ⟨16, 1, .w1c, 0x0, 0, 16, 0, 1⟩, ⟨17, 1, .w1c, 0x0, 0, 17, 0, 1⟩, ⟨18, 1, .w1c, 0x0, 0, 18, 0, 1⟩, ⟨19, 1, .w1c, 0x0, 0, 19, 0, 1⟩]⟩,
  ⟨.OUT_DIV, 0x80000C, 1, 0, 1, 0, .out, .single, [⟨0, 32, .rw, 0x0, 0, 0, 0, 32⟩]⟩,
  ⟨.OUT_PARAM, 0x800010, 1, 0, 1, 0, .out, .single, [⟨0, 32, .rw, 0x0, 0, 0, 0, 32⟩]⟩,
  ⟨.OUT_PHASE, 0x800014, 1, 0, 1, 0, .out, .single, [⟨0, 32, .rw, 0x0, 0, 0, 0, 32⟩]⟩,
  ⟨.OUT_DELAY, 0x800018, 1, 0, 1, 0, .out, .single, [⟨0, 16, .rw, 0x0, 0, 0, 0, 16⟩]⟩,
  ⟨.OUT_ALCFG, 0x80001C, 1, 0, 1, 0, .out, .single, [⟨0, 2, .rw, 0x0, 0, 0, 0, 2⟩, ⟨2, 1, .rw, 0x0, 0, 2, 0, 1⟩, ⟨4, 4, .rw, 0x0, 0, 4, 0, 4⟩, ⟨8, 20, .rw, 0x3E8, 0, 8, 0, 20⟩]⟩,
  ⟨.OUT_ALOFF, 0x800020, 1, 0, 1, 0, .out, .single, [⟨0, 32, .rw, 0x7D0, 0, 0, 0, 32⟩]⟩,
  ⟨.OUT_CAL, 0x800024, 1, 0, 1, 0, .out, .single, [⟨0, 11, .ro, 0x0, 0, 0, 0, 11⟩, ⟨12, 1, .ro, 0x0, 0, 12, 0, 1⟩, ⟨13, 1, .ro, 0x0, 0, 13, 0, 1⟩, ⟨14, 1, .sc, 0x0, 0, 14, 0, 1⟩, ⟨16, 16, .ro, 0x0, 0, 16, 0, 16⟩]⟩,
  ⟨.OUT_ERRB, 0x800028, 1, 0, 1, 0, .out, .single, [⟨0, 32, .ro, 0xFFFFFFFF, 0, 0, 0, 32⟩]⟩,
  ⟨.OUT_SYN_FREQ_LO, 0x800100, 4, 32, 1, 0, .plain, .above 0, [⟨0, 32, .rw, 0x0, 0, 0, 0, 48⟩]⟩,
  ⟨.OUT_SYN_FREQ_HI, 0x800104, 4, 32, 1, 0, .plain, .above 4, [⟨0, 16, .rw, 0x0, 4, 0, 32, 48⟩]⟩,
  ⟨.OUT_SYN_CTRL, 0x800108, 4, 32, 1, 0, .plain, .single, [⟨0, 1, .rw, 0x0, 0, 0, 0, 1⟩, ⟨1, 1, .sc, 0x0, 0, 1, 0, 1⟩, ⟨16, 16, .wo, 0x0, 0, 16, 0, 16⟩]⟩,
  ⟨.OUT_SYN_STAT, 0x80010C, 4, 32, 1, 0, .plain, .single, [⟨0, 3, .ro, 0x0, 0, 0, 0, 3⟩, ⟨3, 5, .ro, 0x0, 0, 3, 0, 5⟩, ⟨8, 5, .ro, 0x0, 0, 8, 0, 5⟩, ⟨13, 2, .ro, 0x0, 0, 13, 0, 2⟩, ⟨16, 1, .w1c, 0x0, 0, 16, 0, 1⟩, ⟨17, 1, .w1c, 0x0, 0, 17, 0, 1⟩, ⟨18, 1, .w1c, 0x0, 0, 18, 0, 1⟩, ⟨19, 1, .w1c, 0x0, 0, 19, 0, 1⟩]⟩]

/-- Registers of the block PRT. -/
def regMap_PRT : List RegRow := [
  ⟨.PRT_CTRL, 0x900000, 4, 256, 1, 0, .plain, .single, [⟨0, 1, .rw, 0x0, 0, 0, 0, 1⟩, ⟨1, 1, .rw, 0x0, 0, 1, 0, 1⟩, ⟨2, 1, .sc, 0x0, 0, 2, 0, 1⟩, ⟨3, 1, .sc, 0x0, 0, 3, 0, 1⟩]⟩,
  ⟨.PRT_STAT, 0x900004, 4, 256, 1, 0, .plain, .single, [⟨0, 2, .ro, 0x0, 0, 0, 0, 2⟩, ⟨2, 2, .ro, 0x0, 0, 2, 0, 2⟩, ⟨4, 1, .ro, 0x0, 0, 4, 0, 1⟩, ⟨5, 1, .ro, 0x0, 0, 5, 0, 1⟩, ⟨6, 1, .ro, 0x0, 0, 6, 0, 1⟩, ⟨7, 1, .ro, 0x0, 0, 7, 0, 1⟩, ⟨8, 2, .ro, 0x0, 0, 8, 0, 2⟩, ⟨16, 1, .w1c, 0x0, 0, 16, 0, 1⟩, ⟨17, 1, .w1c, 0x0, 0, 17, 0, 1⟩, ⟨18, 1, .w1c, 0x0, 0, 18, 0, 1⟩, ⟨19, 1, .w1c, 0x0, 0, 19, 0, 1⟩, ⟨20, 1, .w1c, 0x0, 0, 20, 0, 1⟩, ⟨24, 4, .ro, 0x0, 0, 24, 0, 4⟩]⟩,
  ⟨.PRT_PLANE, 0x900008, 4, 256, 1, 0, .plain, .single, [⟨0, 16, .rw, 0x0, 0, 0, 0, 16⟩, ⟨16, 16, .rw, 0x0, 0, 16, 0, 16⟩]⟩,
  ⟨.PRT_PLANEUNC, 0x90000C, 4, 256, 1, 0, .plain, .single, [⟨0, 16, .rw, 0x0, 0, 0, 0, 16⟩]⟩,
  ⟨.PRT_ASYM, 0x900010, 4, 256, 1, 0, .plain, .single, [⟨0, 32, .rw, 0x0, 0, 0, 0, 32⟩]⟩,
  ⟨.PRT_LINKUNC, 0x900014, 4, 256, 1, 0, .plain, .single, [⟨0, 32, .rw, 0xFFFFFFFF, 0, 0, 0, 32⟩]⟩,
  ⟨.PRT_UASYM, 0x900018, 4, 256, 1, 0, .plain, .single, [⟨0, 32, .ro, 0xFFFFFFFF, 0, 0, 0, 32⟩]⟩,
  ⟨.PRT_LAT, 0x90001C, 4, 256, 1, 0, .plain, .single, [⟨0, 16, .ro, 0x0, 0, 0, 0, 16⟩, ⟨16, 16, .ro, 0x0, 0, 16, 0, 16⟩]⟩,
  ⟨.PRT_ACAL, 0x900020, 4, 256, 1, 0, .plain, .single, [⟨0, 17, .rw, 0x258, 0, 0, 0, 17⟩]⟩,
  ⟨.PRT_ESMC, 0x900024, 4, 256, 1, 0, .plain, .single, [⟨0, 4, .rw, 0xF, 0, 0, 0, 4⟩, ⟨4, 8, .rw, 0xFF, 0, 4, 0, 8⟩, ⟨12, 1, .rw, 0x0, 0, 12, 0, 1⟩, ⟨13, 1, .rw, 0x1, 0, 13, 0, 1⟩, ⟨14, 1, .rw, 0x1, 0, 14, 0, 1⟩, ⟨16, 4, .ro, 0x0, 0, 16, 0, 4⟩, ⟨20, 8, .ro, 0x0, 0, 20, 0, 8⟩]⟩,
  ⟨.PRT_CNT, 0x900028, 4, 256, 1, 0, .plain, .single, [⟨0, 16, .ro, 0x0, 0, 0, 0, 16⟩, ⟨16, 16, .ro, 0x0, 0, 16, 0, 16⟩]⟩,
  ⟨.PRT_MG_CTRL, 0x900400, 1, 0, 1, 0, .plain, .single, [⟨0, 1, .rw, 0x1, 0, 0, 0, 1⟩, ⟨1, 1, .rw, 0x0, 0, 1, 0, 1⟩]⟩,
  ⟨.PRT_MG_STAT, 0x900404, 1, 0, 1, 0, .plain, .single, [⟨0, 2, .ro, 0x0, 0, 0, 0, 2⟩, ⟨16, 1, .w1c, 0x0, 0, 16, 0, 1⟩, ⟨17, 1, .w1c, 0x0, 0, 17, 0, 1⟩]⟩,
  ⟨.PRT_SYT_STAT, 0x900800, 1, 0, 1, 0, .plain, .single, [⟨0, 3, .ro, 0x0, 0, 0, 0, 3⟩, ⟨3, 1, .ro, 0x0, 0, 3, 0, 1⟩, ⟨16, 1, .w1c, 0x0, 0, 16, 0, 1⟩]⟩]

/-- Registers of the block APD. -/
def regMap_APD : List RegRow := [
  ⟨.APD_OFFSET, 0xA00000, 1, 0, 1, 0, .plain, .single, [⟨0, 16, .rw, 0x0, 0, 0, 0, 16⟩, ⟨16, 16, .rw, 0x0, 0, 16, 0, 16⟩]⟩,
  ⟨.APD_RETRY, 0xA00004, 1, 0, 1, 0, .plain, .single, [⟨0, 3, .rw, 0x0, 0, 0, 0, 3⟩]⟩,
  ⟨.APD_REOFF, 0xA00008, 1, 0, 1, 0, .plain, .single, [⟨0, 14, .rw, 0xA0, 0, 0, 0, 14⟩]⟩,
  ⟨.APD_SLIP, 0xA0000C, 1, 0, 1, 0, .plain, .single, [⟨0, 14, .rw, 0x7D0, 0, 0, 0, 14⟩, ⟨16, 10, .rw, 0x32, 0, 16, 0, 10⟩]⟩,
  ⟨.APD_BGUARD, 0xA00010, 1, 0, 1, 0, .plain, .single, [⟨0, 16, .rw, 0x10, 0, 0, 0, 16⟩]⟩,
  ⟨.APD_PSTAT, 0xA00100, 4, 256, 1, 0, .plain, .single, [⟨0, 7, .ro, 0x0, 0, 0, 0, 7⟩, ⟨7, 1, .ro, 0x0, 0, 7, 0, 1⟩, ⟨8, 4, .ro, 0x0, 0, 8, 0, 4⟩, ⟨16, 1, .w1c, 0x0, 0, 16, 0, 1⟩, ⟨17, 1, .w1c, 0x0, 0, 17, 0, 1⟩, ⟨18, 1, .w1c, 0x0, 0, 18, 0, 1⟩, ⟨19, 1, .w1c, 0x0, 0, 19, 0, 1⟩]⟩,
  ⟨.APD_PCTRL, 0xA00104, 4, 256, 1, 0, .plain, .single, [⟨0, 1, .sc, 0x0, 0, 0, 0, 1⟩, ⟨1, 1, .sc, 0x0, 0, 1, 0, 1⟩]⟩,
  ⟨.APD_APPT_LO, 0xA00108, 4, 256, 1, 0, .plain, .above 0, [⟨0, 32, .ro, 0x0, 0, 0, 0, 64⟩]⟩,
  ⟨.APD_APPT_HI, 0xA0010C, 4, 256, 1, 0, .plain, .above 4, [⟨0, 32, .ro, 0x0, 4, 0, 32, 64⟩]⟩,
  ⟨.APD_SENT_LO, 0xA00110, 4, 256, 1, 0, .plain, .above 0, [⟨0, 32, .ro, 0x0, 0, 0, 0, 64⟩]⟩,
  ⟨.APD_SENT_HI, 0xA00114, 4, 256, 1, 0, .plain, .above 4, [⟨0, 32, .ro, 0x0, 4, 0, 32, 64⟩]⟩,
  ⟨.APD_RESEAL, 0xA00118, 4, 256, 1, 0, .plain, .single, [⟨0, 32, .ro, 0x0, 0, 0, 0, 32⟩]⟩,
  ⟨.APD_FB, 0xA0011C, 4, 256, 1, 0, .plain, .single, [⟨0, 16, .ro, 0x0, 0, 0, 0, 16⟩, ⟨16, 16, .ro, 0x0, 0, 16, 0, 16⟩]⟩,
  ⟨.APD_DROP, 0xA00120, 4, 256, 1, 0, .plain, .single, [⟨0, 16, .ro, 0x0, 0, 0, 0, 16⟩, ⟨16, 16, .ro, 0x0, 0, 16, 0, 16⟩]⟩,
  ⟨.APD_COLL, 0xA00124, 4, 256, 6, 4, .plain, .single, [⟨0, 16, .ro, 0x0, 0, 0, 0, 16⟩, ⟨16, 16, .ro, 0x0, 0, 16, 0, 16⟩]⟩,
  ⟨.APD_MARGIN, 0xA0013C, 4, 256, 1, 0, .plain, .single, [⟨0, 16, .ro, 0x7FFF, 0, 0, 0, 16⟩, ⟨16, 16, .ro, 0x0, 0, 16, 0, 16⟩]⟩,
  ⟨.APD_SPEC_IN_LO, 0xA00800, 1, 0, 1, 0, .plain, .above 0, [⟨0, 32, .ro, 0x0, 0, 0, 0, 64⟩]⟩,
  ⟨.APD_SPEC_IN_HI, 0xA00804, 1, 0, 1, 0, .plain, .above 4, [⟨0, 32, .ro, 0x0, 4, 0, 32, 64⟩]⟩,
  ⟨.APD_SPEC_ABORT_LO, 0xA00808, 1, 0, 1, 0, .plain, .above 0, [⟨0, 32, .ro, 0x0, 0, 0, 0, 64⟩]⟩,
  ⟨.APD_SPEC_ABORT_HI, 0xA0080C, 1, 0, 1, 0, .plain, .above 4, [⟨0, 32, .ro, 0x0, 4, 0, 32, 64⟩]⟩,
  ⟨.APD_SPEC_COMMIT_LO, 0xA00810, 1, 0, 1, 0, .plain, .above 0, [⟨0, 32, .ro, 0x0, 0, 0, 0, 64⟩]⟩,
  ⟨.APD_SPEC_COMMIT_HI, 0xA00814, 1, 0, 1, 0, .plain, .above 4, [⟨0, 32, .ro, 0x0, 4, 0, 32, 64⟩]⟩]

/-- Registers of the block PKE. -/
def regMap_PKE : List RegRow := [
  ⟨.PKE_CTRL, 0xB00000, 1, 0, 1, 0, .plain, .single, [⟨0, 1, .rw, 0x0, 0, 0, 0, 1⟩]⟩,
  ⟨.PKE_STAT, 0xB00004, 1, 0, 1, 0, .plain, .single, [⟨0, 1, .ro, 0x0, 0, 0, 0, 1⟩, ⟨8, 8, .ro, 0x0, 0, 8, 0, 8⟩, ⟨16, 1, .w1c, 0x0, 0, 16, 0, 1⟩, ⟨17, 1, .w1c, 0x0, 0, 17, 0, 1⟩, ⟨18, 1, .w1c, 0x0, 0, 18, 0, 1⟩, ⟨19, 1, .w1c, 0x0, 0, 19, 0, 1⟩]⟩,
  ⟨.PKE_QSTAT, 0xB00010, 4, 4, 1, 0, .plain, .single, [⟨0, 2, .ro, 0x0, 0, 0, 0, 2⟩, ⟨2, 2, .ro, 0x0, 0, 2, 0, 2⟩, ⟨4, 1, .ro, 0x0, 0, 4, 0, 1⟩, ⟨16, 16, .ro, 0x0, 0, 16, 0, 16⟩]⟩,
  ⟨.PKE_ENG, 0xB00020, 16, 4, 1, 0, .plain, .single, [⟨0, 8, .ro, 0x0, 0, 0, 0, 8⟩, ⟨8, 2, .ro, 0x0, 0, 8, 0, 2⟩, ⟨10, 4, .ro, 0x0, 0, 10, 0, 4⟩, ⟨14, 1, .ro, 0x0, 0, 14, 0, 1⟩, ⟨15, 1, .ro, 0x0, 0, 15, 0, 1⟩, ⟨16, 6, .ro, 0x0, 0, 16, 0, 6⟩]⟩,
  ⟨.PKE_LANE, 0xB00080, 1, 0, 1, 0, .plain, .single, [⟨0, 8, .ro, 0x0, 0, 0, 0, 8⟩, ⟨8, 4, .ro, 0x0, 0, 8, 0, 4⟩, ⟨16, 16, .ro, 0x0, 0, 16, 0, 16⟩]⟩,
  ⟨.PKE_CLS_CTRL, 0xB00100, 1, 0, 1, 0, .plain, .single, [⟨0, 1, .sc, 0x0, 0, 0, 0, 1⟩, ⟨1, 1, .sc, 0x0, 0, 1, 0, 1⟩]⟩,
  ⟨.PKE_CLS_SEL, 0xB00104, 1, 0, 1, 0, .req, .single, [⟨0, 12, .rw, 0x0, 0, 0, 0, 12⟩]⟩,
  ⟨.PKE_CLS_STAT, 0xB00108, 1, 0, 1, 0, .plain, .single, [⟨0, 13, .ro, 0x0, 0, 0, 0, 13⟩, ⟨13, 1, .ro, 0x0, 0, 13, 0, 1⟩, ⟨16, 16, .ro, 0x0, 0, 16, 0, 16⟩]⟩,
  ⟨.PKE_CLS_HIT, 0xB0010C, 1, 0, 1, 0, .plain, .single, [⟨0, 32, .rw, 0x0, 0, 0, 0, 32⟩]⟩,
  ⟨.PKE_CLS_WIN, 0xB00110, 18, 4, 1, 0, .req, .single, [⟨0, 32, .rw, 0x0, 0, 0, 0, 32⟩]⟩,
  ⟨.PKE_PCNT_IN, 0xB00200, 8, 16, 1, 0, .plain, .single, [⟨0, 32, .ro, 0x0, 0, 0, 0, 32⟩]⟩,
  ⟨.PKE_PCNT_DROP, 0xB00204, 8, 16, 1, 0, .plain, .single, [⟨0, 16, .ro, 0x0, 0, 0, 0, 16⟩, ⟨16, 16, .ro, 0x0, 0, 16, 0, 16⟩]⟩,
  ⟨.PKE_PCNT_DRDROP, 0xB00208, 8, 16, 1, 0, .plain, .single, [⟨0, 32, .ro, 0x0, 0, 0, 0, 32⟩]⟩,
  ⟨.PKE_PCNT_CLR, 0xB0020C, 8, 16, 1, 0, .plain, .single, [⟨0, 1, .sc, 0x0, 0, 0, 0, 1⟩]⟩,
  ⟨.PKE_RING_BASE_LO, 0xB10000, 144, 32, 1, 0, .plain, .single, [⟨6, 26, .rw, 0x0, 0, 6, 0, 26⟩]⟩,
  ⟨.PKE_RING_BASE_HI, 0xB10004, 144, 32, 1, 0, .plain, .single, [⟨0, 32, .rw, 0x0, 0, 0, 0, 32⟩]⟩,
  ⟨.PKE_RING_CFG, 0xB10008, 144, 32, 1, 0, .plain, .single, [⟨0, 4, .rw, 0x0, 0, 0, 0, 4⟩, ⟨4, 1, .rw, 0x0, 0, 4, 0, 1⟩, ⟨5, 1, .rw, 0x0, 0, 5, 0, 1⟩, ⟨6, 7, .rw, 0x0, 0, 6, 0, 7⟩, ⟨16, 8, .rw, 0x0, 0, 16, 0, 8⟩, ⟨24, 8, .rw, 0x0, 0, 24, 0, 8⟩]⟩,
  ⟨.PKE_RING_DEST, 0xB1000C, 144, 32, 1, 0, .plain, .single, [⟨0, 3, .rw, 0x0, 0, 0, 0, 3⟩, ⟨3, 1, .rw, 0x0, 0, 3, 0, 1⟩, ⟨4, 3, .rw, 0x0, 0, 4, 0, 3⟩]⟩,
  ⟨.PKE_RING_PROD, 0xB10010, 144, 32, 1, 0, .plain, .single, [⟨0, 17, .rw, 0x0, 0, 0, 0, 17⟩]⟩,
  ⟨.PKE_RING_CONS, 0xB10014, 144, 32, 1, 0, .plain, .single, [⟨0, 17, .ro, 0x0, 0, 0, 0, 17⟩]⟩,
  ⟨.PKE_RING_DROP, 0xB10018, 144, 32, 1, 0, .plain, .single, [⟨0, 32, .rw, 0x0, 0, 0, 0, 32⟩]⟩]

/-- Registers of the block NTS. -/
def regMap_NTS : List RegRow := [
  ⟨.NTS_CFG, 0xC00000, 1, 0, 1, 0, .plain, .single, [⟨0, 1, .rw, 0x0, 0, 0, 0, 1⟩, ⟨1, 1, .rw, 0x0, 0, 1, 0, 1⟩, ⟨2, 1, .rw, 0x0, 0, 2, 0, 1⟩, ⟨4, 1, .rw, 0x1, 0, 4, 0, 1⟩, ⟨8, 7, .rw, 0x40, 0, 8, 0, 7⟩]⟩,
  ⟨.NTS_STAT, 0xC00004, 1, 0, 1, 0, .plain, .single, [⟨0, 2, .ro, 0x0, 0, 0, 0, 2⟩, ⟨2, 1, .ro, 0x0, 0, 2, 0, 1⟩, ⟨3, 1, .ro, 0x0, 0, 3, 0, 1⟩, ⟨16, 1, .w1c, 0x0, 0, 16, 0, 1⟩, ⟨17, 1, .w1c, 0x0, 0, 17, 0, 1⟩, ⟨18, 1, .w1c, 0x0, 0, 18, 0, 1⟩, ⟨19, 1, .w1c, 0x0, 0, 19, 0, 1⟩]⟩,
  ⟨.NTS_SRV, 0xC00008, 1, 0, 1, 0, .plain, .single, [⟨0, 8, .rw, 0xE0, 0, 0, 0, 8⟩]⟩,
  ⟨.NTS_REFID, 0xC0000C, 1, 0, 1, 0, .plain, .single, [⟨0, 32, .rw, 0x0, 0, 0, 0, 32⟩]⟩,
  ⟨.NTS_ROT, 0xC00010, 1, 0, 1, 0, .plain, .single, [⟨0, 16, .rw, 0x2A30, 0, 0, 0, 16⟩, ⟨16, 16, .rw, 0x5460, 0, 16, 0, 16⟩]⟩,
  ⟨.NTS_ROTCTRL, 0xC00014, 1, 0, 1, 0, .plain, .single, [⟨0, 1, .sc, 0x0, 0, 0, 0, 1⟩, ⟨1, 1, .sc, 0x0, 0, 1, 0, 1⟩, ⟨16, 16, .wo, 0x0, 0, 16, 0, 16⟩]⟩,
  ⟨.NTS_CTRL, 0xC00018, 1, 0, 1, 0, .plain, .single, [⟨0, 1, .sc, 0x0, 0, 0, 0, 1⟩]⟩,
  ⟨.NTS_KPOS, 0xC00020, 4, 4, 1, 0, .plain, .single, [⟨0, 8, .rwl, 0x0, 0, 0, 0, 8⟩, ⟨8, 8, .rwl, 0x0, 0, 8, 0, 8⟩, ⟨16, 2, .ro, 0x0, 0, 16, 0, 2⟩, ⟨18, 14, .ro, 0x0, 0, 18, 0, 14⟩]⟩,
  ⟨.NTS_KSINCE, 0xC00030, 4, 4, 1, 0, .plain, .single, [⟨0, 32, .ro, 0x0, 0, 0, 0, 32⟩]⟩,
  ⟨.NTS_RATE, 0xC00040, 4, 4, 1, 0, .plain, .single, [⟨0, 11, .rw, 0x40, 0, 0, 0, 11⟩, ⟨11, 1, .rw, 0x0, 0, 11, 0, 1⟩, ⟨16, 12, .rw, 0x100, 0, 16, 0, 12⟩]⟩,
  ⟨.NTS_KE, 0xC00050, 1, 0, 1, 0, .plain, .single, [⟨0, 8, .rw, 0x0, 0, 0, 0, 8⟩, ⟨8, 1, .rw, 0x0, 0, 8, 0, 1⟩, ⟨16, 15, .rw, 0x4000, 0, 16, 0, 15⟩]⟩,
  ⟨.NTS_KE_STAT, 0xC00054, 1, 0, 1, 0, .plain, .single, [⟨0, 15, .ro, 0x0, 0, 0, 0, 15⟩, ⟨16, 16, .ro, 0x0, 0, 16, 0, 16⟩]⟩,
  ⟨.NTS_REPLY_LO, 0xC00100, 1, 0, 1, 0, .plain, .above 0, [⟨0, 32, .ro, 0x0, 0, 0, 0, 64⟩]⟩,
  ⟨.NTS_REPLY_HI, 0xC00104, 1, 0, 1, 0, .plain, .above 4, [⟨0, 32, .ro, 0x0, 4, 0, 32, 64⟩]⟩,
  ⟨.NTS_PLAIN_LO, 0xC00108, 1, 0, 1, 0, .plain, .above 0, [⟨0, 32, .ro, 0x0, 0, 0, 0, 64⟩]⟩,
  ⟨.NTS_PLAIN_HI, 0xC0010C, 1, 0, 1, 0, .plain, .above 4, [⟨0, 32, .ro, 0x0, 4, 0, 32, 64⟩]⟩,
  ⟨.NTS_NAK, 0xC00110, 1, 0, 1, 0, .plain, .single, [⟨0, 16, .ro, 0x0, 0, 0, 0, 16⟩, ⟨16, 16, .ro, 0x0, 0, 16, 0, 16⟩]⟩,
  ⟨.NTS_KISS, 0xC00114, 1, 0, 1, 0, .plain, .single, [⟨0, 32, .ro, 0x0, 0, 0, 0, 32⟩]⟩,
  ⟨.NTS_STALE, 0xC00118, 1, 0, 1, 0, .plain, .single, [⟨0, 32, .ro, 0x0, 0, 0, 0, 32⟩]⟩,
  ⟨.NTS_SPEC, 0xC00204, 13, 4, 1, 0, .plain, .single, [⟨0, 32, .ro, 0x0, 0, 0, 0, 32⟩]⟩]

/-- Registers of the block PTP. -/
def regMap_PTP : List RegRow := [
  ⟨.PTP_CFG, 0xD00000, 1, 0, 1, 0, .plain, .single, [⟨0, 2, .ro, 0x0, 0, 0, 0, 2⟩, ⟨2, 1, .ro, 0x0, 0, 2, 0, 1⟩, ⟨3, 1, .rw, 0x0, 0, 3, 0, 1⟩, ⟨4, 1, .rw, 0x1, 0, 4, 0, 1⟩, ⟨5, 1, .rw, 0x1, 0, 5, 0, 1⟩, ⟨8, 8, .rw, 0x0, 0, 8, 0, 8⟩, ⟨16, 4, .ro, 0x0, 0, 16, 0, 4⟩]⟩,
  ⟨.PTP_STAT, 0xD00004, 1, 0, 1, 0, .plain, .single, [⟨0, 8, .ro, 0xF8, 0, 0, 0, 8⟩, ⟨8, 8, .ro, 0xFE, 0, 8, 0, 8⟩, ⟨16, 1, .ro, 0x0, 0, 16, 0, 1⟩, ⟨24, 1, .w1c, 0x0, 0, 24, 0, 1⟩, ⟨25, 1, .w1c, 0x0, 0, 25, 0, 1⟩, ⟨26, 1, .w1c, 0x0, 0, 26, 0, 1⟩, ⟨27, 1, .w1c, 0x0, 0, 27, 0, 1⟩, ⟨28, 1, .w1c, 0x0, 0, 28, 0, 1⟩]⟩,
  ⟨.PTP_VAR, 0xD00008, 1, 0, 1, 0, .plain, .single, [⟨0, 16, .rw, 0x4E5D, 0, 0, 0, 16⟩]⟩,
  ⟨.PTP_PRIO, 0xD0000C, 1, 0, 1, 0, .plain, .single, [⟨0, 8, .rw, 0x80, 0, 0, 0, 8⟩, ⟨8, 8, .rw, 0x80, 0, 8, 0, 8⟩, ⟨16, 8, .rw, 0x80, 0, 16, 0, 8⟩]⟩,
  ⟨.PTP_HOLDSPEC, 0xD00010, 1, 0, 1, 0, .plain, .single, [⟨0, 32, .rw, 0xF4240, 0, 0, 0, 32⟩]⟩,
  ⟨.PTP_BTLV, 0xD00014, 1, 0, 1, 0, .plain, .single, [⟨0, 24, .ro, 0x4A9612, 0, 0, 0, 24⟩]⟩,
  ⟨.PTP_PAIR, 0xD00018, 1, 0, 1, 0, .plain, .single, [⟨0, 2, .rw, 0x2, 0, 0, 0, 2⟩, ⟨2, 1, .rwl, 0x0, 0, 2, 0, 1⟩, ⟨3, 8, .rw, 0x1, 0, 3, 0, 8⟩]⟩,
  ⟨.PTP_GLIM, 0xD0001C, 1, 0, 1, 0, .plain, .single, [⟨0, 8, .rw, 0xF9, 0, 0, 0, 8⟩, ⟨8, 8, .rw, 0xFD, 0, 8, 0, 8⟩, ⟨16, 8, .rw, 0xF9, 0, 16, 0, 8⟩]⟩,
  ⟨.PTP_GDUR, 0xD00020, 1, 0, 1, 0, .plain, .single, [⟨0, 16, .rw, 0x12C, 0, 0, 0, 16⟩]⟩,
  ⟨.PTP_GSTAT, 0xD00024, 1, 0, 1, 0, .plain, .single, [⟨0, 17, .ro, 0x0, 0, 0, 0, 17⟩]⟩,
  ⟨.PTP_GSEL, 0xD00028, 1, 0, 1, 0, .req, .single, [⟨0, 16, .rw, 0x0, 0, 0, 0, 16⟩]⟩,
  ⟨.PTP_GCTRL, 0xD0002C, 1, 0, 1, 0, .plain, .single, [⟨0, 1, .sc, 0x0, 0, 0, 0, 1⟩, ⟨1, 1, .sc, 0x0, 0, 1, 0, 1⟩, ⟨2, 1, .sc, 0x0, 0, 2, 0, 1⟩, ⟨16, 16, .wo, 0x0, 0, 16, 0, 16⟩]⟩,
  ⟨.PTP_SCHED, 0xD00030, 1, 0, 1, 0, .plain, .single, [⟨0, 16, .rw, 0x3E8, 0, 0, 0, 16⟩]⟩,
  ⟨.PTP_GWIN, 0xD00040, 16, 4, 1, 0, .req, .array, [⟨0, 32, .ro, 0x0, 0, 0, 0, 32⟩]⟩,
  ⟨.PTP_SA_0, 0xD00080, 16, 8, 1, 0, .plain, .single, [⟨0, 8, .rw, 0x0, 0, 0, 0, 8⟩, ⟨8, 8, .rwl, 0x0, 0, 8, 0, 8⟩, ⟨16, 8, .rwl, 0x0, 0, 16, 0, 8⟩, ⟨24, 1, .rw, 0x0, 0, 24, 0, 1⟩, ⟨25, 1, .rw, 0x0, 0, 25, 0, 1⟩]⟩,
  ⟨.PTP_SA_1, 0xD00084, 16, 8, 1, 0, .plain, .single, [⟨0, 32, .rw, 0x0, 0, 0, 0, 32⟩]⟩,
  ⟨.PTP_PCFG, 0xD00100, 4, 64, 1, 0, .plain, .single, [⟨0, 1, .rw, 0x0, 0, 0, 0, 1⟩, ⟨1, 2, .rw, 0x0, 0, 1, 0, 2⟩, ⟨3, 1, .rw, 0x0, 0, 3, 0, 1⟩, ⟨4, 1, .rw, 0x1, 0, 4, 0, 1⟩, ⟨5, 1, .rw, 0x0, 0, 5, 0, 1⟩, ⟨6, 1, .rw, 0x0, 0, 6, 0, 1⟩, ⟨7, 1, .rw, 0x0, 0, 7, 0, 1⟩, ⟨8, 8, .rw, 0x0, 0, 8, 0, 8⟩]⟩,
  ⟨.PTP_PINTV, 0xD00104, 4, 64, 1, 0, .plain, .single, [⟨0, 8, .rw, 0x0, 0, 0, 0, 8⟩, ⟨8, 8, .rw, 0x1, 0, 8, 0, 8⟩, ⟨16, 8, .rw, 0x0, 0, 16, 0, 8⟩, ⟨24, 8, .rw, 0x0, 0, 24, 0, 8⟩]⟩,
  ⟨.PTP_PSTAT, 0xD00108, 4, 64, 1, 0, .plain, .single, [⟨0, 4, .ro, 0x1, 0, 0, 0, 4⟩, ⟨16, 1, .w1c, 0x0, 0, 16, 0, 1⟩]⟩,
  ⟨.PTP_CNT, 0xD00110, 4, 64, 6, 4, .plain, .single, [⟨0, 32, .ro, 0x0, 0, 0, 0, 32⟩]⟩,
  ⟨.PTP_PCTRL, 0xD00130, 4, 64, 1, 0, .plain, .single, [⟨0, 1, .sc, 0x0, 0, 0, 0, 1⟩]⟩,
  ⟨.PTP_SPEC, 0xD00404, 12, 4, 1, 0, .plain, .single, [⟨0, 32, .ro, 0x0, 0, 0, 0, 32⟩]⟩]

/-- Registers of the block KVT. -/
def regMap_KVT : List RegRow := [
  ⟨.KVT_STAT, 0xE00000, 1, 0, 1, 0, .plain, .single, [⟨0, 1, .ro, 0x0, 0, 0, 0, 1⟩, ⟨1, 1, .ro, 0x0, 0, 1, 0, 1⟩, ⟨2, 1, .ro, 0x0, 0, 2, 0, 1⟩, ⟨3, 1, .ro, 0x0, 0, 3, 0, 1⟩, ⟨4, 1, .ro, 0x0, 0, 4, 0, 1⟩, ⟨5, 6, .ro, 0x0, 0, 5, 0, 6⟩, ⟨16, 1, .w1c, 0x0, 0, 16, 0, 1⟩, ⟨17, 1, .w1c, 0x0, 0, 17, 0, 1⟩, ⟨18, 1, .w1c, 0x0, 0, 18, 0, 1⟩, ⟨19, 1, .w1c, 0x0, 0, 19, 0, 1⟩, ⟨20, 1, .w1c, 0x0, 0, 20, 0, 1⟩, ⟨21, 1, .w1c, 0x0, 0, 21, 0, 1⟩]⟩,
  ⟨.KVT_CTRL, 0xE00004, 1, 0, 1, 0, .plain, .single, [⟨0, 1, .sc, 0x0, 0, 0, 0, 1⟩, ⟨16, 16, .wo, 0x0, 0, 16, 0, 16⟩]⟩,
  ⟨.KVT_SEL, 0xE00008, 1, 0, 1, 0, .req, .single, [⟨0, 8, .rw, 0x0, 0, 0, 0, 8⟩]⟩,
  ⟨.KVT_OP, 0xE00010, 1, 0, 1, 0, .req, .single, [⟨0, 4, .rw, 0x0, 0, 0, 0, 4⟩, ⟨4, 1, .rw, 0x0, 0, 4, 0, 1⟩, ⟨5, 1, .rw, 0x0, 0, 5, 0, 1⟩, ⟨6, 1, .rw, 0x0, 0, 6, 0, 1⟩, ⟨7, 1, .sc, 0x0, 0, 7, 0, 1⟩, ⟨8, 8, .rw, 0x0, 0, 8, 0, 8⟩, ⟨16, 8, .rw, 0x0, 0, 16, 0, 8⟩]⟩,
  ⟨.KVT_OPCTX, 0xE00014, 3, 4, 1, 0, .req, .single, [⟨0, 32, .rw, 0x0, 0, 0, 0, 32⟩]⟩,
  ⟨.KVT_OPADDR, 0xE00020, 1, 0, 1, 0, .req, .single, [⟨6, 26, .rw, 0x0, 0, 6, 0, 26⟩]⟩,
  ⟨.KVT_OPSTAT, 0xE00024, 1, 0, 1, 0, .req, .single, [⟨0, 4, .ro, 0x0, 0, 0, 0, 4⟩, ⟨4, 1, .ro, 0x0, 0, 4, 0, 1⟩, ⟨5, 1, .ro, 0x0, 0, 5, 0, 1⟩, ⟨6, 3, .ro, 0x0, 0, 6, 0, 3⟩]⟩,
  ⟨.KVT_DESC, 0xE00040, 8, 4, 1, 0, .plain, .array, [⟨0, 32, .ro, 0x0, 0, 0, 0, 32⟩]⟩]

/-- Registers of the block PAIR. -/
def regMap_PAIR : List RegRow := [
  ⟨.PAIR_CFG, 0xF00000, 1, 0, 1, 0, .plain, .single, [⟨0, 1, .ro, 0x0, 0, 0, 0, 1⟩, ⟨16, 12, .rw, 0x0, 0, 16, 0, 12⟩]⟩,
  ⟨.PAIR_THR, 0xF00004, 1, 0, 1, 0, .plain, .single, [⟨0, 16, .rw, 0x7D0, 0, 0, 0, 16⟩, ⟨16, 16, .rw, 0x14, 0, 16, 0, 16⟩]⟩,
  ⟨.PAIR_STAT, 0xF00008, 1, 0, 1, 0, .plain, .single, [⟨0, 2, .ro, 0x0, 0, 0, 0, 2⟩, ⟨2, 3, .ro, 0x0, 0, 2, 0, 3⟩, ⟨5, 1, .ro, 0x0, 0, 5, 0, 1⟩, ⟨6, 1, .ro, 0x0, 0, 6, 0, 1⟩, ⟨7, 1, .ro, 0x0, 0, 7, 0, 1⟩, ⟨8, 2, .ro, 0x0, 0, 8, 0, 2⟩, ⟨10, 2, .ro, 0x0, 0, 10, 0, 2⟩, ⟨12, 1, .ro, 0x0, 0, 12, 0, 1⟩, ⟨13, 1, .ro, 0x0, 0, 13, 0, 1⟩, ⟨16, 1, .w1c, 0x0, 0, 16, 0, 1⟩, ⟨17, 1, .w1c, 0x0, 0, 17, 0, 1⟩, ⟨18, 1, .w1c, 0x0, 0, 18, 0, 1⟩, ⟨19, 1, .w1c, 0x0, 0, 19, 0, 1⟩, ⟨20, 1, .w1c, 0x0, 0, 20, 0, 1⟩, ⟨21, 1, .w1c, 0x0, 0, 21, 0, 1⟩, ⟨22, 1, .w1c, 0x0, 0, 22, 0, 1⟩, ⟨23, 1, .w1c, 0x0, 0, 23, 0, 1⟩, ⟨24, 1, .w1c, 0x0, 0, 24, 0, 1⟩, ⟨25, 1, .w1c, 0x0, 0, 25, 0, 1⟩, ⟨26, 1, .w1c, 0x0, 0, 26, 0, 1⟩]⟩,
  ⟨.PAIR_CTRL, 0xF0000C, 1, 0, 1, 0, .plain, .single, [⟨0, 1, .sc, 0x0, 0, 0, 0, 1⟩, ⟨1, 1, .sc, 0x0, 0, 1, 0, 1⟩, ⟨16, 16, .wo, 0x0, 0, 16, 0, 16⟩]⟩,
  ⟨.PAIR_X, 0xF00010, 1, 0, 1, 0, .plain, .single, [⟨0, 32, .ro, 0x0, 0, 0, 0, 32⟩]⟩,
  ⟨.PAIR_XMAX, 0xF00014, 1, 0, 1, 0, .plain, .single, [⟨0, 32, .ro, 0x0, 0, 0, 0, 32⟩]⟩,
  ⟨.PAIR_UPAIR, 0xF00018, 1, 0, 1, 0, .plain, .single, [⟨0, 32, .ro, 0x0, 0, 0, 0, 32⟩]⟩,
  ⟨.PAIR_TWINB, 0xF0001C, 1, 0, 1, 0, .plain, .single, [⟨0, 32, .ro, 0xFFFFFFFF, 0, 0, 0, 32⟩]⟩,
  ⟨.PAIR_WTR, 0xF00020, 1, 0, 1, 0, .plain, .single, [⟨0, 12, .ro, 0x0, 0, 0, 0, 12⟩]⟩,
  ⟨.PAIR_DLY, 0xF00024, 1, 0, 1, 0, .plain, .single, [⟨0, 16, .ro, 0x0, 0, 0, 0, 16⟩]⟩,
  ⟨.PAIR_JTX, 0xF00028, 1, 0, 1, 0, .plain, .single, [⟨0, 32, .ro, 0x0, 0, 0, 0, 32⟩]⟩,
  ⟨.PAIR_JRX, 0xF0002C, 1, 0, 1, 0, .plain, .single, [⟨0, 32, .ro, 0x0, 0, 0, 0, 32⟩]⟩,
  ⟨.PAIR_JERR, 0xF00030, 1, 0, 1, 0, .plain, .single, [⟨0, 16, .ro, 0x0, 0, 0, 0, 16⟩, ⟨16, 16, .ro, 0x0, 0, 16, 0, 16⟩]⟩,
  ⟨.PAIR_KEY, 0xF00034, 1, 0, 1, 0, .plain, .single, [⟨0, 8, .rwl, 0x0, 0, 0, 0, 8⟩, ⟨8, 8, .rwl, 0x0, 0, 8, 0, 8⟩]⟩,
  ⟨.PAIR_TWINID_LO, 0xF00038, 1, 0, 1, 0, .plain, .above 0, [⟨0, 32, .ro, 0x0, 0, 0, 0, 64⟩]⟩,
  ⟨.PAIR_TWINID_HI, 0xF0003C, 1, 0, 1, 0, .plain, .above 4, [⟨0, 32, .ro, 0x0, 4, 0, 32, 64⟩]⟩,
  ⟨.PEER_SEL, 0xF00100, 1, 0, 1, 0, .req, .single, [⟨0, 11, .rw, 0x0, 0, 0, 0, 11⟩]⟩,
  ⟨.PEER_CFG, 0xF00104, 1, 0, 1, 0, .peer, .single, [⟨0, 1, .rw, 0x0, 0, 0, 0, 1⟩, ⟨1, 1, .rw, 0x0, 0, 1, 0, 1⟩, ⟨2, 2, .rw, 0x0, 0, 2, 0, 2⟩, ⟨4, 2, .rw, 0x0, 0, 4, 0, 2⟩, ⟨8, 8, .rw, 0x0, 0, 8, 0, 8⟩, ⟨16, 8, .rw, 0x0, 0, 16, 0, 8⟩]⟩,
  ⟨.PEER_ADDR, 0xF00108, 4, 4, 1, 0, .peer, .single, [⟨0, 32, .rw, 0x0, 0, 0, 0, 32⟩]⟩,
  ⟨.PEER_ASYM, 0xF00118, 1, 0, 1, 0, .peer, .single, [⟨0, 32, .rw, 0x0, 0, 0, 0, 32⟩]⟩,
  ⟨.PEER_UNC, 0xF0011C, 1, 0, 1, 0, .peer, .single, [⟨0, 32, .rw, 0xFFFFFFFF, 0, 0, 0, 32⟩]⟩,
  ⟨.PEER_STAT, 0xF00120, 1, 0, 1, 0, .peer, .single, [⟨0, 1, .ro, 0x0, 0, 0, 0, 1⟩, ⟨1, 1, .ro, 0x0, 0, 1, 0, 1⟩, ⟨16, 1, .w1c, 0x0, 0, 16, 0, 1⟩]⟩,
  ⟨.PEER_THETA, 0xF00124, 1, 0, 1, 0, .peer, .single, [⟨0, 32, .ro, 0x0, 0, 0, 0, 32⟩]⟩,
  ⟨.PEER_BND, 0xF00128, 1, 0, 1, 0, .peer, .single, [⟨0, 32, .ro, 0xFFFFFFFF, 0, 0, 0, 32⟩]⟩]

/-- Registers of the block PAIR. -/
def regMap_PAIR_2 : List RegRow := [
  ⟨.PAIR_ENS_X, 0xF00200, 2, 16, 1, 0, .plain, .single, [⟨0, 32, .ro, 0x0, 0, 0, 0, 32⟩]⟩,
  ⟨.PAIR_ENS_U, 0xF00204, 2, 16, 1, 0, .plain, .single, [⟨0, 32, .ro, 0xFFFFFFFF, 0, 0, 0, 32⟩]⟩,
  ⟨.PAIR_ENS_N, 0xF00208, 2, 16, 1, 0, .plain, .single, [⟨0, 12, .ro, 0x0, 0, 0, 0, 12⟩, ⟨16, 12, .ro, 0x0, 0, 16, 0, 12⟩]⟩]

/-- Registers of the block XBR. -/
def regMap_XBR : List RegRow := [
  ⟨.XBR_CTRL, 0x1000000, 1, 0, 1, 0, .plain, .single, [⟨0, 12, .rw, 0xE0, 0, 0, 0, 12⟩]⟩,
  ⟨.XBR_ERR, 0x1000004, 1, 0, 1, 0, .plain, .single, [⟨0, 4, .ro, 0x0, 0, 0, 0, 4⟩, ⟨4, 4, .ro, 0x0, 0, 4, 0, 4⟩, ⟨8, 3, .ro, 0x0, 0, 8, 0, 3⟩, ⟨16, 1, .w1c, 0x0, 0, 16, 0, 1⟩, ⟨17, 1, .w1c, 0x0, 0, 17, 0, 1⟩]⟩,
  ⟨.XBR_ERRADDR, 0x1000008, 1, 0, 1, 0, .plain, .single, [⟨0, 32, .ro, 0x0, 0, 0, 0, 32⟩]⟩,
  ⟨.XBR_AERR, 0x100000C, 1, 0, 1, 0, .plain, .single, [⟨0, 4, .ro, 0x0, 0, 0, 0, 4⟩, ⟨4, 4, .ro, 0x0, 0, 4, 0, 4⟩, ⟨16, 1, .w1c, 0x0, 0, 16, 0, 1⟩, ⟨17, 1, .w1c, 0x0, 0, 17, 0, 1⟩]⟩,
  ⟨.XBR_AERRADDR, 0x1000010, 1, 0, 1, 0, .plain, .single, [⟨0, 32, .ro, 0x0, 0, 0, 0, 32⟩]⟩,
  ⟨.XBR_ECC, 0x1000014, 1, 0, 1, 0, .plain, .single, [⟨0, 16, .ro, 0x0, 0, 0, 0, 16⟩, ⟨16, 8, .ro, 0x0, 0, 16, 0, 8⟩, ⟨24, 3, .ro, 0x0, 0, 24, 0, 3⟩, ⟨31, 1, .w1c, 0x0, 0, 31, 0, 1⟩]⟩,
  ⟨.XBR_ECCADDR, 0x1000018, 1, 0, 1, 0, .plain, .single, [⟨0, 32, .ro, 0x0, 0, 0, 0, 32⟩]⟩,
  ⟨.XBR_HWIN, 0x100001C, 1, 0, 1, 0, .plain, .single, [⟨0, 6, .rw, 0x1, 0, 0, 0, 6⟩]⟩,
  ⟨.XBR_TSTAT, 0x1000040, 10, 4, 1, 0, .plain, .single, [⟨0, 4, .ro, 0x0, 0, 0, 0, 4⟩, ⟨4, 1, .ro, 0x0, 0, 4, 0, 1⟩, ⟨5, 1, .ro, 0x0, 0, 5, 0, 1⟩, ⟨16, 16, .ro, 0x0, 0, 16, 0, 16⟩]⟩]

/-- Registers of the block EVT. -/
def regMap_EVT : List RegRow := [
  ⟨.EVT_SWSET, 0x1100000, 1, 0, 1, 0, .plain, .single, [⟨0, 24, .wo, 0x0, 0, 0, 0, 24⟩]⟩,
  ⟨.EVT_TMR_SLO, 0x1100040, 5, 16, 1, 0, .plain, .single, [⟨0, 32, .rw, 0x0, 0, 0, 0, 48⟩]⟩,
  ⟨.EVT_TMR_SHI, 0x1100044, 5, 16, 1, 0, .plain, .single, [⟨0, 16, .rw, 0x0, 4, 0, 32, 48⟩]⟩,
  ⟨.EVT_TMR_NS, 0x1100048, 5, 16, 1, 0, .plain, .single, [⟨0, 30, .rw, 0x0, 0, 0, 0, 30⟩, ⟨31, 1, .rw, 0x0, 0, 31, 0, 1⟩]⟩,
  ⟨.EVT_TMR_PER, 0x110004C, 5, 16, 1, 0, .plain, .single, [⟨0, 32, .rw, 0x0, 0, 0, 0, 32⟩]⟩,
  ⟨.EVT_ROUTE, 0x1100100, 96, 4, 1, 0, .plain, .single, [⟨0, 7, .rw, 0x0, 0, 0, 0, 7⟩, ⟨8, 5, .rw, 0x0, 0, 8, 0, 5⟩, ⟨16, 2, .ro, 0x0, 0, 16, 0, 2⟩]⟩,
  ⟨.EVT_COUNT, 0x1100300, 96, 4, 1, 0, .plain, .single, [⟨0, 32, .rw, 0x0, 0, 0, 0, 32⟩]⟩,
  ⟨.EVT_PEND, 0x1101000, 2, 4096, 3, 4, .plain, .single, [⟨0, 32, .w1c, 0x0, 0, 0, 0, 32⟩]⟩,
  ⟨.EVT_EN, 0x1101010, 2, 4096, 3, 4, .plain, .single, [⟨0, 32, .rw, 0x0, 0, 0, 0, 32⟩]⟩,
  ⟨.EVT_QSTAT, 0x1101020, 2, 4096, 1, 0, .plain, .single, [⟨0, 8, .ro, 0x0, 0, 0, 0, 8⟩, ⟨16, 8, .ro, 0x0, 0, 16, 0, 8⟩]⟩,
  ⟨.EVT_QCONS, 0x1101024, 2, 4096, 1, 0, .plain, .single, [⟨0, 8, .rw, 0x0, 0, 0, 0, 8⟩]⟩,
  ⟨.EVT_REC, 0x1101100, 2, 4096, 256, 4, .plain, .single, []⟩]

/-- Registers of the block PMU. -/
def regMap_PMU : List RegRow := [
  ⟨.PMU_CTRL, 0x1200000, 1, 0, 1, 0, .plain, .single, [⟨0, 1, .rw, 0x0, 0, 0, 0, 1⟩, ⟨1, 1, .rw, 0x0, 0, 1, 0, 1⟩, ⟨2, 1, .rw, 0x0, 0, 2, 0, 1⟩, ⟨3, 1, .sc, 0x0, 0, 3, 0, 1⟩]⟩,
  ⟨.PMU_STAT, 0x1200004, 1, 0, 1, 0, .plain, .single, [⟨0, 16, .ro, 0x0, 0, 0, 0, 16⟩, ⟨16, 1, .ro, 0x0, 0, 16, 0, 1⟩, ⟨24, 1, .w1c, 0x0, 0, 24, 0, 1⟩, ⟨25, 1, .w1c, 0x0, 0, 25, 0, 1⟩, ⟨26, 1, .w1c, 0x0, 0, 26, 0, 1⟩]⟩,
  ⟨.PMU_ECTL, 0x1200100, 16, 64, 8, 4, .plain, .single, [⟨0, 6, .rw, 0x0, 0, 0, 0, 6⟩, ⟨6, 1, .rw, 0x0, 0, 6, 0, 1⟩, ⟨7, 1, .rw, 0x0, 0, 7, 0, 1⟩, ⟨8, 1, .rw, 0x0, 0, 8, 0, 1⟩, ⟨9, 1, .rw, 0x0, 0, 9, 0, 1⟩, ⟨12, 3, .rw, 0x0, 0, 12, 0, 3⟩]⟩,
  ⟨.PMU_ECNT, 0x1200120, 16, 64, 8, 4, .plain, .single, [⟨0, 32, .rw, 0x0, 0, 0, 0, 32⟩]⟩,
  ⟨.PMU_EOVF, 0x1200600, 16, 4, 1, 0, .plain, .single, [⟨0, 8, .w1c, 0x0, 0, 0, 0, 8⟩]⟩,
  ⟨.PMU_CCTL, 0x1200800, 16, 4, 1, 0, .plain, .single, [⟨0, 8, .rw, 0x0, 0, 0, 0, 8⟩, ⟨8, 1, .rw, 0x0, 0, 8, 0, 1⟩, ⟨9, 1, .rw, 0x0, 0, 9, 0, 1⟩, ⟨10, 1, .rw, 0x0, 0, 10, 0, 1⟩, ⟨11, 1, .rw, 0x0, 0, 11, 0, 1⟩, ⟨12, 7, .rw, 0x0, 0, 12, 0, 7⟩]⟩,
  ⟨.PMU_CCNT, 0x1200840, 16, 4, 1, 0, .plain, .single, [⟨0, 32, .rw, 0x0, 0, 0, 0, 32⟩]⟩,
  ⟨.PMU_COVF, 0x1200880, 1, 0, 1, 0, .plain, .single, [⟨0, 16, .w1c, 0x0, 0, 0, 0, 16⟩]⟩,
  ⟨.PMU_PS_CTRL, 0x1200900, 1, 0, 1, 0, .plain, .single, [⟨0, 1, .rw, 0x0, 0, 0, 0, 1⟩, ⟨1, 1, .rw, 0x0, 0, 1, 0, 1⟩]⟩,
  ⟨.PMU_PS_ENG, 0x1200904, 1, 0, 1, 0, .plain, .single, [⟨0, 16, .rw, 0x0, 0, 0, 0, 16⟩]⟩,
  ⟨.PMU_PS_PERIOD, 0x1200908, 1, 0, 1, 0, .plain, .single, [⟨0, 24, .rw, 0x400, 0, 0, 0, 24⟩]⟩,
  ⟨.PMU_PS_SKIP, 0x120090C, 1, 0, 1, 0, .plain, .single, [⟨0, 32, .ro, 0x0, 0, 0, 0, 32⟩]⟩,
  ⟨.PMU_SR_CFG, 0x1200910, 1, 0, 1, 0, .plain, .single, [⟨0, 12, .rw, 0xC00, 0, 0, 0, 12⟩, ⟨12, 1, .rw, 0x0, 0, 12, 0, 1⟩]⟩,
  ⟨.PMU_SR_PROD, 0x1200914, 1, 0, 1, 0, .plain, .single, [⟨0, 13, .ro, 0x0, 0, 0, 0, 13⟩]⟩,
  ⟨.PMU_SR_CONS, 0x1200918, 1, 0, 1, 0, .plain, .single, [⟨0, 13, .rw, 0x0, 0, 0, 0, 13⟩]⟩,
  ⟨.PMU_SR_LOST, 0x120091C, 1, 0, 1, 0, .plain, .single, [⟨0, 32, .ro, 0x0, 0, 0, 0, 32⟩]⟩,
  ⟨.PMU_SR_WIN, 0x1200940, 8, 4, 1, 0, .plain, .array, []⟩]

/-- Registers of the block PNL. -/
def regMap_PNL : List RegRow := [
  ⟨.PNL_KSTAT, 0x1300000, 1, 0, 1, 0, .plain, .single, [⟨0, 8, .ro, 0x0, 0, 0, 0, 8⟩, ⟨8, 4, .ro, 0x0, 0, 8, 0, 4⟩]⟩,
  ⟨.PNL_KEV, 0x1300004, 1, 0, 1, 0, .plain, .single, [⟨0, 8, .w1c, 0x0, 0, 0, 0, 8⟩, ⟨8, 8, .w1c, 0x0, 0, 8, 0, 8⟩, ⟨16, 8, .w1c, 0x0, 0, 16, 0, 8⟩]⟩,
  ⟨.PNL_TEV, 0x1300008, 1, 0, 1, 0, .plain, .single, [⟨0, 4, .w1c, 0x0, 0, 0, 0, 4⟩, ⟨4, 4, .w1c, 0x0, 0, 4, 0, 4⟩, ⟨8, 4, .w1c, 0x0, 0, 8, 0, 4⟩, ⟨12, 4, .w1c, 0x0, 0, 12, 0, 4⟩]⟩,
  ⟨.PNL_KCFG, 0x130000C, 1, 0, 1, 0, .plain, .single, [⟨0, 4, .rw, 0x5, 0, 0, 0, 4⟩, ⟨16, 16, .rw, 0x7D0, 0, 16, 0, 16⟩]⟩,
  ⟨.PNL_KACT, 0x1300010, 1, 0, 1, 0, .plain, .single, [⟨0, 16, .rw, 0x0, 0, 0, 0, 16⟩]⟩,
  ⟨.PNL_TCFG, 0x1300014, 1, 0, 1, 0, .plain, .single, [⟨0, 12, .rw, 0x32, 0, 0, 0, 12⟩]⟩,
  ⟨.PNL_TCAP, 0x1300020, 4, 4, 1, 0, .plain, .single, [⟨0, 13, .ro, 0x0, 0, 0, 0, 13⟩, ⟨16, 13, .ro, 0x0, 0, 16, 0, 13⟩]⟩,
  ⟨.PNL_LED, 0x1300040, 16, 4, 1, 0, .plain, .single, [⟨0, 5, .rw, 0x0, 0, 0, 0, 5⟩, ⟨5, 2, .rw, 0x0, 0, 5, 0, 2⟩, ⟨7, 1, .rw, 0x0, 0, 7, 0, 1⟩, ⟨8, 8, .rw, 0x0, 0, 8, 0, 8⟩, ⟨16, 1, .rw, 0x0, 0, 16, 0, 1⟩, ⟨17, 1, .ro, 0x0, 0, 17, 0, 1⟩, ⟨18, 1, .w1c, 0x0, 0, 18, 0, 1⟩]⟩,
  ⟨.PNL_MGLED, 0x1300080, 1, 0, 1, 0, .plain, .single, [⟨0, 5, .rw, 0xA, 0, 0, 0, 5⟩, ⟨8, 5, .rw, 0xA, 0, 8, 0, 5⟩]⟩,
  ⟨.PNL_ZSTAT, 0x1300084, 1, 0, 1, 0, .plain, .single, [⟨0, 1, .ro, 0x0, 0, 0, 0, 1⟩, ⟨1, 1, .ro, 0x0, 0, 1, 0, 1⟩, ⟨2, 1, .ro, 0x0, 0, 2, 0, 1⟩, ⟨16, 1, .w1c, 0x0, 0, 16, 0, 1⟩, ⟨17, 1, .w1c, 0x0, 0, 17, 0, 1⟩]⟩,
  ⟨.PNL_ZCFG, 0x1300088, 1, 0, 1, 0, .plain, .single, [⟨0, 8, .rwl, 0x14, 0, 0, 0, 8⟩]⟩,
  ⟨.PNL_SENSE, 0x1300090, 6, 4, 1, 0, .plain, .single, [⟨0, 20, .ro, 0xFFFFF, 0, 0, 0, 20⟩, ⟨20, 1, .ro, 0x0, 0, 20, 0, 1⟩, ⟨21, 1, .rw, 0x0, 0, 21, 0, 1⟩]⟩,
  ⟨.PNL_SFP, 0x13000B0, 1, 0, 1, 0, .plain, .single, [⟨0, 4, .ro, 0x0, 0, 0, 0, 4⟩, ⟨4, 4, .ro, 0x0, 0, 4, 0, 4⟩, ⟨8, 4, .ro, 0x0, 0, 8, 0, 4⟩, ⟨16, 4, .w1c, 0x0, 0, 16, 0, 4⟩]⟩]

/-- Registers of the block SUP. -/
def regMap_SUP : List RegRow := [
  ⟨.SUP_STATUS, 0x1400000, 1, 0, 1, 0, .plain, .single, [⟨0, 1, .ro, 0x0, 0, 0, 0, 1⟩, ⟨1, 4, .ro, 0x0, 0, 1, 0, 4⟩]⟩,
  ⟨.SUP_FWVER, 0x1400004, 1, 0, 1, 0, .plain, .single, [⟨0, 32, .ro, 0x0, 0, 0, 0, 32⟩]⟩,
  ⟨.SUP_WDOG, 0x1400008, 1, 0, 1, 0, .plain, .single, [⟨0, 16, .rw, 0x7D0, 0, 0, 0, 16⟩, ⟨16, 1, .sc, 0x0, 0, 16, 0, 1⟩]⟩,
  ⟨.SUP_MBX, 0x1400010, 1, 0, 1, 0, .plain, .single, [⟨0, 1, .ro, 0x0, 0, 0, 0, 1⟩, ⟨1, 1, .sc, 0x0, 0, 1, 0, 1⟩, ⟨2, 1, .w1c, 0x0, 0, 2, 0, 1⟩, ⟨8, 7, .rw, 0x0, 0, 8, 0, 7⟩, ⟨15, 1, .rw, 0x0, 0, 15, 0, 1⟩]⟩,
  ⟨.SUP_PCIID, 0x1400020, 1, 0, 1, 0, .plain, .single, [⟨0, 16, .ro, 0x0, 0, 0, 0, 16⟩, ⟨16, 16, .ro, 0x9612, 0, 16, 0, 16⟩]⟩,
  ⟨.SUP_LINK, 0x1400024, 1, 0, 1, 0, .plain, .single, [⟨0, 4, .ro, 0x0, 0, 0, 0, 4⟩, ⟨4, 3, .ro, 0x0, 0, 4, 0, 3⟩, ⟨16, 1, .w1c, 0x0, 0, 16, 0, 1⟩, ⟨17, 1, .w1c, 0x0, 0, 17, 0, 1⟩]⟩,
  ⟨.SUP_H2S, 0x1400100, 64, 4, 1, 0, .plain, .single, [⟨0, 32, .rw, 0x0, 0, 0, 0, 32⟩]⟩,
  ⟨.SUP_S2H, 0x1400200, 64, 4, 1, 0, .plain, .single, [⟨0, 32, .ro, 0x0, 0, 0, 0, 32⟩]⟩]

/-- Registers of the block GNS. -/
def regMap_GNS : List RegRow := [
  ⟨.GNS_STAT, 0x1500000, 1, 0, 1, 0, .plain, .single, [⟨0, 2, .ro, 0x0, 0, 0, 0, 2⟩, ⟨2, 1, .ro, 0x0, 0, 2, 0, 1⟩, ⟨3, 1, .ro, 0x0, 0, 3, 0, 1⟩, ⟨4, 1, .ro, 0x0, 0, 4, 0, 1⟩, ⟨8, 8, .ro, 0x0, 0, 8, 0, 8⟩]⟩,
  ⟨.GNS_SURVEY, 0x1500004, 1, 0, 1, 0, .plain, .single, [⟨0, 12, .ro, 0x0, 0, 0, 0, 12⟩]⟩,
  ⟨.GNS_LAT, 0x1500008, 1, 0, 1, 0, .plain, .single, [⟨0, 32, .ro, 0x0, 0, 0, 0, 32⟩]⟩,
  ⟨.GNS_LON, 0x150000C, 1, 0, 1, 0, .plain, .single, [⟨0, 32, .ro, 0x0, 0, 0, 0, 32⟩]⟩,
  ⟨.GNS_HGT, 0x1500010, 1, 0, 1, 0, .plain, .single, [⟨0, 32, .ro, 0x0, 0, 0, 0, 32⟩]⟩,
  ⟨.GNS_SOLN, 0x1500014, 1, 0, 1, 0, .plain, .single, [⟨0, 32, .ro, 0x0, 0, 0, 0, 32⟩]⟩,
  ⟨.GNS_AGE, 0x1500018, 1, 0, 1, 0, .plain, .single, [⟨0, 32, .ro, 0x0, 0, 0, 0, 32⟩]⟩,
  ⟨.GNS_SAT, 0x1500100, 64, 4, 1, 0, .plain, .single, [⟨0, 2, .ro, 0x0, 0, 0, 0, 2⟩, ⟨2, 6, .ro, 0x0, 0, 2, 0, 6⟩, ⟨8, 1, .ro, 0x0, 0, 8, 0, 1⟩, ⟨9, 1, .ro, 0x0, 0, 9, 0, 1⟩, ⟨10, 1, .ro, 0x0, 0, 10, 0, 1⟩, ⟨12, 8, .ro, 0x0, 0, 12, 0, 8⟩, ⟨20, 8, .ro, 0x0, 0, 20, 0, 8⟩]⟩]

/-- The whole register map. -/
def regMap : List RegRow :=
  regMap_GLB ++ regMap_BOOT ++ regMap_RCP ++ regMap_PWR ++ regMap_HRT ++ regMap_HRT_2 ++ regMap_HRT_3 ++ regMap_TDC ++ regMap_REF ++ regMap_REF_2 ++ regMap_OSC ++ regMap_OUT ++ regMap_PRT ++ regMap_APD ++
  regMap_PKE ++ regMap_NTS ++ regMap_PTP ++ regMap_KVT ++ regMap_PAIR ++ regMap_PAIR_2 ++ regMap_XBR ++ regMap_EVT ++ regMap_PMU ++ regMap_PNL ++ regMap_SUP ++ regMap_GNS

end Sys2Proof.Machine
end

