-- ==== Sys2Proof/Machine/RecipeCheck.lean ====
section
/-! DEFINITION. The recipe image and its validation (spec/03_recipe.md, R89 to R115), and a firmware image's (R127, R128). -/

namespace Sys2Proof.Machine

/-- A failed check: the code, section table index and TYPE that RCP_FAIL shows (R115). -/
structure CheckFail where
  code : Nat
  index : Nat := 0
  type : Nat := 0
  deriving DecidableEq, Repr

/-- One section table entry (R93). -/
structure SecEntry where
  type : Nat
  version : Nat
  res : Nat
  off : Nat
  len : Nat
  crc : Nat
  deriving DecidableEq, Repr

/-- A validated image: its header's facts and its decrypted payloads by TYPE. -/
structure Recipe where
  enc : Bool
  rollback : Nat
  serial : Nat
  custId : Nat
  sections : List (Nat × List Byte)
  image : List Byte
  deriving DecidableEq, Repr

/-- What validation reads beside the image: pin and floor (R95), and slot 1's key where the vault has it (R96). -/
structure CheckEnv where
  pin : Nat
  floor : Nat
  slot1 : Option (List Byte)
  deriving DecidableEq, Repr

/-- A byte of a list as a number. -/
def byteAt (l : List Byte) (i : Nat) : Nat := (l.getD i 0).toNat

/-- Whether every listed byte is zero. -/
def zeroAt (l : List Byte) (is : List Nat) : Bool := is.all (fun i => byteAt l i == 0)

/-- Whether the bytes of a range are zero. -/
def zeroRange (l : List Byte) (off n : Nat) : Bool := (List.range n).all (fun i => byteAt l (off + i) == 0)

/-- The first element that fails a check, by position. -/
def firstBad {α : Type} (l : List α) (ok : Nat → α → Bool) : Option (Nat × α) :=
  (l.zipIdx.find? (fun p => !ok p.2 p.1)).map (fun p => (p.2, p.1))

/-- The sections in the table of R97: TYPE, reload class (0 LIVE, 1 WARM, 2 COLD), required. -/
def sectionTypes : List (Nat × (Nat × Bool)) :=
  [(0x10, (1, true)), (0x11, (1, true)), (0x12, (1, true)), (0x20, (1, true)), (0x21, (0, true)), (0x30, (1, true)),
   (0x31, (1, true)), (0x40, (1, true)), (0x50, (1, true)), (0x58, (0, true)), (0x60, (2, true)), (0x68, (2, true)),
   (0x70, (2, true)), (0x78, (2, false)), (0x88, (2, false)), (0x90, (0, true))]

/-- A TYPE of the NOTE range (R97). -/
def isNote (t : Nat) : Bool := decide (0xF000 ≤ t) && decide (t ≤ 0xFFFF)

/-- The section table (R93). -/
def secTable (img : List Byte) : List SecEntry :=
  (List.range (leAt img 0x18 2)).map (fun i =>
    let o := 128 + 16 * i
    { type := leAt img o 2, version := byteAt img (o + 2), res := byteAt img (o + 3), off := leAt img (o + 4) 4,
      len := leAt img (o + 8) 4, crc := leAt img (o + 12) 4 })

/-- Step 1 of R115: the header. -/
def checkHeader (img : List Byte) : Option Nat :=
  let enc := leAt img 0x1C 4 % 2 = 1
  if leAt img 0 4 ≠ 0x50435259 then some 0x01
  else if byteAt img 4 ≠ 1 ∨ leAt img 6 2 ≠ 128 ∨ leAt img 0x1A 2 ≠ 128 then some 0x02
  else if leAt img 0x7C 4 ≠ crc32c (sliceB img 0 0x7C) then some 0x03
  else if leAt img 0x0C 2 ≠ 0x9612 ∨ 1 < byteAt img 0x0E ∨ byteAt img 0x0F < 1 then some 0x04
  else if 0x800000 < leAt img 8 4 ∨ leAt img 8 4 ≠ leAt img 0x20 4 + leAt img 0x24 4 ∨ leAt img 0x24 4 ≠ 408
      ∨ leAt img 0x20 4 % 16 ≠ 0 ∨ leAt img 0x20 4 < 128 + 16 * leAt img 0x18 2 then some 0x05
  else if !zeroRange img 0x70 12 ∨ 2 ≤ leAt img 0x1C 4 ∨ (¬ enc ∧ !zeroRange img 0x34 28) then some 0x06
  else none

/-- Step 2 of R115: the section table. -/
def checkTable (img : List Byte) (tab : List SecEntry) : Option CheckFail :=
  let n := leAt img 0x18 2
  let sigOff := leAt img 0x20 4
  let start := 128 + 16 * n
  let prev := fun (i : Nat) => tab.getD (i - 1) ⟨0, 0, 0, 0, 0, 0⟩
  if n = 0 ∨ 64 < n then some { code := 0x08 }
  else match firstBad tab (fun i e => (i == 0 || decide ((prev i).type < e.type)) && ((lookup e.type sectionTypes).isSome || isNote e.type)) with
  | some (i, e) => some ⟨0x09, i, e.type⟩
  | none =>
    match firstBad tab (fun i e => e.off % 16 == 0 && decide (start ≤ e.off) && decide (e.off + e.len ≤ sigOff) &&
        (i == 0 || decide ((prev i).off + (prev i).len ≤ e.off))) with
    | some (i, e) => some ⟨0x0A, i, e.type⟩
    | none =>
      match firstBad tab (fun _ e => e.version == 1 && e.res == 0) with
      | some (i, e) => some ⟨0x0B, i, e.type⟩
      | none =>
        match sectionTypes.find? (fun p => p.2.2 && !(tab.any (fun e => e.type == p.1))) with
        | some p => some ⟨0x0C, 0, p.1⟩
        | none => none

/-- Step 3 of R115: section CRCs, then the gaps of R90; a gap concerns the section before it, or the first section. -/
def checkPayloads (img : List Byte) (tab : List SecEntry) : Option CheckFail :=
  let sigOff := leAt img 0x20 4
  match firstBad tab (fun _ e => e.crc == crc32c (sliceB img e.off e.len)) with
  | some (i, e) => some ⟨0x10, i, e.type⟩
  | none =>
    let first := (tab.getD 0 ⟨0, 0, 0, 0, 0, 0⟩)
    let start := 128 + 16 * tab.length
    if !zeroRange img start (first.off - start) then some ⟨0x11, 0, first.type⟩
    else match firstBad tab (fun i e =>
        let e2 := if i + 1 < tab.length then (tab.getD (i + 1) first).off else sigOff
        zeroRange img (e.off + e.len) (e2 - (e.off + e.len))) with
      | some (i, e) => some ⟨0x11, i, e.type⟩
      | none => none

/-- Step 4 of R115: the signature block at an offset (R94). -/
def checkSig (img : List Byte) (sigOff : Nat) (custOk : Nat → Bool) (pinFail : Nat → Bool) : Option Nat :=
  let b := sliceB img sigOff 408
  if leAt b 0 4 ≠ 0x47495359 ∨ leAt b 4 2 ≠ 1 ∨ leAt b 6 2 ≠ 408 ∨ !zeroRange b 0x70 8 ∨ !custOk (leAt b 0x68 4) then some 0x20
  else if Config.sha384 (sliceB b 8 96) ≠ Config.rootDigest then some 0x21
  else if !Config.ecdsaVerify (sliceB b 8 96) (sliceB b 0x68 0x70) (sliceB b 0xD8 96) then some 0x22
  else if pinFail (leAt b 0x68 4) then some 0x23
  else if !Config.ecdsaVerify (sliceB b 0x78 96) (sliceB img 0 sigOff) (sliceB b 0x138 96) then some 0x24
  else none

/-- The LENGTH a section must have (R97); none for NOTE. -/
def sectionLen (t : Nat) (p : List Byte) : Option Nat :=
  if isNote t then none else some
    (if t = 0x10 then 128 else if t = 0x11 then 96 else if t = 0x12 then 56 else if t = 0x20 ∨ t = 0x21 ∨ t = 0x30 then 64
     else if t = 0x31 then 192 else if t = 0x40 then 40 else if t = 0x50 then 100 else if t = 0x58 then 16 + leAt p 0 2 * 72
     else if t = 0x60 then 52 else if t = 0x68 then 4 + 4 * leAt p 0 2 else if t = 0x70 ∨ t = 0x78 then 4 + 8 * leAt p 0 2 else 8)

/-- Entries of fixed length, as lists of bytes. -/
def entries (p : List Byte) (off len n : Nat) : List (List Byte) := (List.range n).map (fun i => sliceB p (off + len * i) len)

/-- Whether a section's reserved fields are zero (R114). -/
def reservedOk (t : Nat) (p : List Byte) : Bool :=
  if t = 0x10 then (entries p 0 8 16).all (fun e => decide (byteAt e 3 < 4))
  else if t = 0x11 then (entries p 0 4 24).all (fun e => decide (byteAt e 2 < 4) && byteAt e 3 == 0)
  else if t = 0x12 then (entries p 0 8 6).all (fun e => byteAt e 7 == 0) && zeroAt (sliceB p 48 8) [1, 2, 3, 6, 7]
  else if t = 0x20 then (entries p 0 16 4).all (fun e => zeroRange e 8 8)
  else if t = 0x21 then (entries p 0 16 4).all (fun e => zeroRange e 12 4)
  else if t = 0x30 then (entries p 0 16 4).all (fun e => zeroRange e 9 7)
  else if t = 0x31 then (entries p 0 16 12).all (fun e => decide (byteAt e 3 < 8) && byteAt e 11 == 0)
  else if t = 0x40 then (entries p 0 8 5).all (fun e => decide (byteAt e 2 < 4) && zeroRange e 3 5)
  else if t = 0x50 then zeroRange p 1 3 && (entries p 4 4 16).all (fun e => byteAt e 3 == 0) && (entries p 68 4 8).all (fun e => zeroAt e [2, 3])
  else if t = 0x58 then zeroRange p 6 10 && (entries p 16 72 (leAt p 0 2)).all (fun e => decide (byteAt e 67 < 2))
  else if t = 0x60 then (entries p 0 4 13).all (fun e => byteAt e 1 == 0)
  else if t = 0x68 then zeroAt p [2, 3] && (entries p 4 4 (leAt p 0 2)).all (fun e => byteAt e 3 == 0)
  else if t = 0x70 then zeroAt p [2, 3] && (entries p 4 8 (leAt p 0 2)).all (fun e => byteAt e 3 == 0)
  else if t = 0x78 then zeroAt p [2, 3]
  else if t = 0x88 then zeroAt p [1, 4, 5, 6, 7]
  else if t = 0x90 then decide (byteAt p 6 < 8) && byteAt p 7 == 0
  else true

/-- A valid EDGE_ID (R517). -/
def edgeIdOk (id policy : Nat) : Bool :=
  let a := id / 16
  let b := id % 16
  decide (1 ≤ a) && decide (a ≤ 12) && (decide (b ≤ 12) || b == 15) && a != b && (policy != 2 || b == 15)

/-- Whether every field of a section lies in its stated range (code 0x42). -/
def rangeOk (t : Nat) (p : List Byte) : Bool :=
  if t = 0x10 then (entries p 0 8 16).all (fun e =>
    let k := byteAt e 0
    let src := byteAt e 1
    decide (k ≤ 9) && (if k = 2 ∨ k = 3 ∨ k = 4 then decide (src ≤ 5) else if k = 5 then decide (src ≤ 3)
      else if k = 9 then decide (src ≤ 1) else src == 0) && (k == 0 || byteAt e 2 != 0))
  else if t = 0x11 then (entries p 0 4 24).all (fun e =>
    decide (byteAt e 0 ≤ 4) && (if byteAt e 0 = 1 ∨ byteAt e 0 = 4 then decide (byteAt e 1 ≤ 15) else byteAt e 1 == 0))
  else if t = 0x12 then (entries p 0 8 6).all (fun e =>
    decide (byteAt e 0 ≤ 3) && decide (byteAt e 1 ≤ 1) && (byteAt e 0 != 2 || byteAt e 1 == 0) &&
      (byteAt e 0 == 2 || (decide (10 ≤ leAt e 2 2) && decide (leAt e 2 2 ≤ 250))) && decide (byteAt e 6 ≤ 1)) && decide (byteAt p 48 ≤ 2)
  else if t = 0x20 then ((entries p 0 16 4).zipIdx).all (fun q =>
    let e := q.1
    decide (byteAt e 0 ≤ 1) && (byteAt e 0 == 0 || q.2 == 2 ||
      (decide (byteAt e 1 ≤ 2) && decide (625 ≤ leAt e 4 4) && decide (leAt e 4 4 ≤ 625000000))))
  else if t = 0x30 then (entries p 0 16 4).all (fun e =>
    decide (65536 ≤ leAt e 0 8) && decide (leAt e 0 8 ≤ 98304000000000) && decide (byteAt e 8 ≤ 1))
  else if t = 0x31 then ((entries p 0 16 12).zipIdx).all (fun q =>
    let e := q.1
    decide (byteAt e 0 ≤ 3) && decide (byteAt e 1 ≤ 3) && (if q.2 < 8 then decide (byteAt e 2 ≤ 3) && byteAt e 10 == 0
      else byteAt e 2 == 0 && decide (byteAt e 10 ≤ 8)) && decide (1 ≤ leAt e 4 4))
  else if t = 0x40 then ((entries p 0 8 5).zipIdx).all (fun q =>
    decide (byteAt q.1 0 ≤ (if q.2 = 4 then 1 else 3)) && decide (byteAt q.1 1 ≤ 2))
  else if t = 0x50 then
    let np := byteAt p 0
    decide (1 ≤ np) && decide (np ≤ 8) &&
    (entries p 4 4 16).all (fun e => byteAt e 0 == 0xFF || (decide (byteAt e 1 ≤ 3) && decide (1 ≤ byteAt e 2) && decide (byteAt e 2 ≤ 8))) &&
    (entries p 68 4 np).all (fun e => decide (1 ≤ byteAt e 0) && decide (byteAt e 0 ≤ 3) && decide (1 ≤ byteAt e 1) && decide (byteAt e 1 ≤ 4))
  else if t = 0x58 then decide (leAt p 0 2 ≤ 4096) && leAt p 2 2 == 72 &&
    (entries p 16 72 (leAt p 0 2)).all (fun e => decide (byteAt e 64 ≤ 4))
  else if t = 0x60 then (entries p 0 4 13).all (fun e =>
    decide (byteAt e 0 ≤ 1) && decide (-256 ≤ toSigned 16 (leAt e 2 2)) && decide (toSigned 16 (leAt e 2 2) ≤ 255))
  else if t = 0x68 then (entries p 4 4 (leAt p 0 2)).all (fun e => decide (byteAt e 2 ≤ 2) && edgeIdOk (leAt e 0 2) (byteAt e 2))
  else if t = 0x70 then decide (leAt p 0 2 ≤ 254) && (entries p 4 8 (leAt p 0 2)).all (fun e => decide (2 ≤ byteAt e 0) && decide (byteAt e 2 ≤ 3))
  else if t = 0x88 then decide (byteAt p 0 ≤ 1) && decide (10 ≤ leAt p 2 2) && decide (leAt p 2 2 ≤ 3600)
  else if t = 0x90 then decide (200 ≤ leAt p 0 2) && decide (leAt p 0 2 ≤ 10000) && decide (150 ≤ leAt p 2 2) &&
    decide (leAt p 2 2 ≤ 10000) && decide (byteAt p 4 ≤ 7) && decide (byteAt p 5 ≤ 3)
  else true

/-- FSTEP's range binds SRVGAIN entries of instances that run, SRV2 apart (R102). -/
def gainRangeOk (top gain : List Byte) : Bool :=
  (List.range 4).all (fun n => byteAt top (16 * n) == 0 || n == 2 || decide (1 ≤ leAt gain (16 * n + 8) 4))

/-- A payload by TYPE; empty where the section is absent. -/
def payload (secs : List (Nat × List Byte)) (t : Nat) : List Byte := (lookup t secs).getD []

/-- KIND of REF channel n. -/
def refKind (secs : List (Nat × List Byte)) (n : Nat) : Nat := byteAt (payload secs 0x10) (8 * n)

/-- How many of the first `n` numbers meet a condition. -/
def countIf (n : Nat) (c : Nat → Bool) : Nat := ((List.range n).filter c).length

/-- Whether any time-bus route is enabled. -/
def anyRoute (secs : List (Nat × List Byte)) : Bool := (List.range 13).any (fun i => byteAt (payload secs 0x60) (4 * i) == 1)

/-- R100: the TDC assignment (code 0x50). -/
def tdcOk (secs : List (Nat × List Byte)) : Bool :=
  let t := payload secs 0x11
  let use := fun n => byteAt t (4 * n)
  let tgt := fun n => byteAt t (4 * n + 1)
  let pre := fun n => (byteAt t (4 * n + 2)).testBit 1
  (!anyRoute secs || use 23 == 3) && (List.range 23).all (fun n => use n != 3) &&
  (List.range 16).all (fun r =>
    let k := refKind secs r
    let n1 := countIf 24 (fun n => use n == 1 && tgt n == r)
    let n4 := countIf 24 (fun n => use n == 4 && tgt n == r)
    if (1 ≤ k ∧ k ≤ 5) ∨ k = 8 then n1 == 1 && n4 == 0 else if k = 7 then n4 == 1 && n1 == 0 else n1 == 0 && n4 == 0) &&
  (List.range 24).all (fun n => !pre n || (use n == 1 && refKind secs (tgt n) == 3)) &&
  ((List.range 12).all (fun o => !((byteAt (payload secs 0x31) (16 * o + 3)).testBit 2)) || (List.range 24).any (fun n => use n == 2))

/-- Whether a channel measures a UIN. -/
def uinKind (k : Nat) : Bool := k == 2 || k == 3 || k == 4

/-- R99: the reference mapping (code 0x51). -/
def refOk (secs : List (Nat × List Byte)) : Bool :=
  let p := payload secs 0x10
  let src := fun n => byteAt p (8 * n + 1)
  let uinK := fun n => uinKind (refKind secs n)
  [1, 7, 8].all (fun k => decide (countIf 16 (fun n => refKind secs n == k) ≤ 1)) &&
  (List.range 6).all (fun u => decide (countIf 16 (fun n => uinK n && src n == u) ≤ 1)) &&
  (List.range 4).all (fun q => decide (countIf 16 (fun n => refKind secs n == 5 && src n == q) ≤ 1)) &&
  (List.range 16).all (fun n => !(byteAt p (8 * n + 3)).testBit 1 || refKind secs n == 8)

/-- R101: each mapped UIN has the mode of its channel (code 0x51). -/
def uinOk (secs : List (Nat × List Byte)) : Bool :=
  (List.range 16).all (fun n => !uinKind (refKind secs n) ||
    byteAt (payload secs 0x12) (8 * byteAt (payload secs 0x10) (8 * n + 1)) == refKind secs n - 1)

/-- Whether PAIRCFG is present with EN 1. -/
def pairEn (secs : List (Nat × List Byte)) : Bool := byteAt (payload secs 0x88) 0 == 1

/-- R102: the servo topology (code 0x52). -/
def servoOk (secs : List (Nat × List Byte)) : Bool :=
  let p := payload secs 0x20
  byteAt p 0 == 1 && (byteAt p 32 == 1 || (List.range 16).all (fun n => refKind secs n != 8)) && (byteAt p 16 == 0 || pairEn secs) &&
  [0, 1, 3].all (fun n => byteAt p (16 * n) == 0 ||
    (List.range 16).all (fun c => !(leAt p (16 * n + 2) 2).testBit c || refKind secs c != 0))

/-- R283: the limits of an output's PARAM. -/
def paramOk (kind div param : Nat) : Bool :=
  if kind = 1 then param == 0
  else if kind = 2 then decide (1 ≤ param) && decide (param + 1 ≤ div)
  else if kind = 3 then
    let p := param % 256
    let sp := param / 256 % 4096
    let w := param / 2 ^ 20 % 4096
    decide (1 ≤ p) && decide (1 ≤ w) && decide (w + 1 ≤ sp) && decide ((p - 1) * sp + w < div)
  else true

/-- The highest output frequency of a ball type and ELEC in Hz (R75). -/
def outMaxHz (o elec : Nat) : Nat := if 8 ≤ o then 1500000000 else if elec = 3 then 800000000 else 250000000

/-- Whether an output's frequency fits its ball, and its tie (R81, R104): FREQ in units of 2⁻¹⁶ Hz. -/
def outFreqOk (o elec : Nat) (tie : Bool) (freq div : Nat) : Bool :=
  decide (65536 * div ≤ freq) && decide (freq ≤ outMaxHz o elec * 65536 * div) && (!tie || decide (freq ≤ 50000000 * 65536 * div))

/-- R104: the output plan (code 0x53). -/
def outOk (secs : List (Nat × List Byte)) : Bool :=
  let p := payload secs 0x31
  let kind := fun o => byteAt p (16 * o)
  let syn := fun o => byteAt p (16 * o + 1)
  (List.range 12).all (fun o => kind o == 0 ||
    (let tie := (byteAt p (16 * o + 3)).testBit 0
     outFreqOk o (byteAt p (16 * o + 2)) tie (leAt (payload secs 0x30) (16 * syn o) 8) (leAt p (16 * o + 4) 4) &&
     (!tie || pairEn secs) && paramOk (kind o) (leAt p (16 * o + 4) 4) (leAt p (16 * o + 12) 4))) &&
  (List.range 4).all (fun u => decide (countIf 12 (fun o => kind o != 0 && syn o == u) ≤ 3))

/-- Whether engine k is used (R106). -/
def engUsed (secs : List (Nat × List Byte)) (k : Nat) : Bool := byteAt (payload secs 0x50) (4 + 4 * k) != 0xFF

/-- R105: what a port's mode allows (code 0x54). -/
def serdesOk (secs : List (Nat × List Byte)) : Bool :=
  let sd := payload secs 0x40
  let mode := fun n => byteAt sd (8 * n)
  (List.range 5).all (fun n => (byteAt sd (8 * n + 1) != 2 || mode n == 1) && (mode n != 3 || byteAt sd (8 * n + 1) == 0) &&
    (mode n != 3 || !(byteAt sd (8 * n + 2)).testBit 0)) && byteAt sd 34 == 0

/-- R108: the routes that must be enabled are (code 0x54). -/
def routesOk (secs : List (Nat × List Byte)) : Bool :=
  let mode := fun n => byteAt (payload secs 0x40) (8 * n)
  let en := fun r => byteAt (payload secs 0x60) (4 * (r - 1)) == 1
  (List.range 4).all (fun n => mode n == 0 || en (n + 1)) && [1, 5, 6, 10, 12, 13].all en &&
  (List.range 4).all (fun q => en (6 + q) || (List.range 4).all (fun i => !engUsed secs (4 * q + i))) && (mode 4 == 0 || en 11)

/-- R112: a paired unit has PL0 enabled (code 0x54). -/
def pairPortOk (secs : List (Nat × List Byte)) : Bool := !pairEn secs || byteAt (payload secs 0x40) 32 == 1

/-- R106: engines and pipelines (code 0x55). -/
def pipeOk (secs : List (Nat × List Byte)) : Bool :=
  let p := payload secs 0x50
  let np := byteAt p 0
  let nst := fun q => byteAt p (69 + 4 * q)
  (List.range 16).all (fun k => !engUsed secs k ||
    (decide (byteAt p (4 + 4 * k) < np) && decide (byteAt p (5 + 4 * k) < nst (byteAt p (4 + 4 * k))))) &&
  (List.range np).all (fun q => (List.range (nst q)).all (fun st =>
    (List.range 16).any (fun k => byteAt p (4 + 4 * k) == q && byteAt p (5 + 4 * k) == st)))

/-- R107 and R350: the classifier (code 0x55). -/
def classOk (secs : List (Nat × List Byte)) : Bool :=
  let np := byteAt (payload secs 0x50) 0
  let c := payload secs 0x58
  (leAt c 4 2 == 0xFFFF || decide (leAt c 4 2 < np)) &&
  (entries c 16 72 (leAt c 0 2)).all (fun e =>
    let a := byteAt e 64
    let tg := byteAt e 65
    (List.range 32).all (fun i => byteAt e i &&& (255 ^^^ byteAt e (32 + i)) == 0) &&
    (if a = 1 ∨ a = 4 then decide (tg < np) else if a = 2 then decide (tg ≤ 63) else if a = 3 then decide (tg ≤ 7) else true) &&
    (if a = 4 then decide (byteAt e 66 ≤ 63) else byteAt e 66 == 0))

/-- R113: pipelines of services 1 and 2 exist only where SVC serves them (code 0x55). -/
def svcOk (secs : List (Nat × List Byte)) : Bool :=
  let fl := byteAt (payload secs 0x90) 6
  (List.range (byteAt (payload secs 0x50) 0)).all (fun q =>
    let svc := byteAt (payload secs 0x50) (68 + 4 * q)
    (svc != 1 || fl.testBit 0) && (svc != 2 || fl.testBit 1))

/-- The VAULT entries: slot, parent, use, label (R110). -/
def vaultEntries (secs : List (Nat × List Byte)) : List (Nat × Nat × Nat × Nat) :=
  let p := payload secs 0x70
  (entries p 4 8 (leAt p 0 2)).map (fun e => (byteAt e 0, byteAt e 1, byteAt e 2, leAt e 4 4))

/-- Whether a slot reaches the device root within `k` levels. -/
def reachesRoot (v : List (Nat × Nat × Nat × Nat)) : Nat → Nat → Bool
  | _, 0 => true
  | 0, _ => false
  | k + 1, slot => match v.find? (fun e => e.1 == slot) with
    | some e => reachesRoot v k e.2.1
    | none => false

/-- R110: the vault tree (code 0x56). -/
def vaultOk (secs : List (Nat × List Byte)) : Bool :=
  let v := vaultEntries secs
  (v.map (·.1)).eraseDups.length == v.length &&
  v.all (fun e => (e.2.1 == 0 || v.any (fun q => q.1 == e.2.1 && q.2.2.1 == 3)) && reachesRoot v 4 e.1)

/-- Whether an offset lies in a row of the register map. -/
def RegRow.holds (r : RegRow) (off : Nat) : Option (Nat × Nat) :=
  if off < r.off then none
  else
    let d := off - r.off
    match (List.range r.n1).find? (fun i => decide (r.s1 * i ≤ d) && (r.n2 == 1 && d == r.s1 * i ||
        r.n2 != 1 && (d - r.s1 * i) % r.s2 == 0 && decide ((d - r.s1 * i) / r.s2 < r.n2))) with
    | none => none
    | some i => some (i, if r.n2 = 1 then 0 else (d - r.s1 * i) / r.s2)

/-- Find a register word by its BAR0 offset. -/
def findReg (off : Nat) : Option (RegRow × Nat × Nat) :=
  regMap.findSome? (fun r => (r.holds off).map (fun ij => (r, ij.1, ij.2)))

/-- R111: every LOCK entry's MASK covers whole RWL fields of a register (code 0x57). -/
def lockOk (secs : List (Nat × List Byte)) : Bool :=
  let p := payload secs 0x78
  let es := (entries p 4 8 (leAt p 0 2)).map (fun e => (leAt e 0 4, leAt e 4 4))
  es.all (fun e => match findReg e.1 with
    | none => false
    | some (r, _, _) =>
      let all := (es.filter (fun q => q.1 == e.1)).foldl (fun m q => m ||| q.2) 0
      let rwl := r.pieces.filter (fun f => f.ty == .rwl)
      let cover := rwl.foldl (fun m f => m ||| ((2 ^ f.w - 1) * 2 ^ f.lo)) 0
      decide (e.2 ≠ 0) && e.2 &&& (0xFFFFFFFF ^^^ cover) == 0 &&
      rwl.all (fun f => bitsOf all f.lo f.w == 0 || bitsOf all f.lo f.w == 2 ^ f.w - 1))

/-- R109: no edge is named twice (code 0x58). -/
def edgeDupOk (secs : List (Nat × List Byte)) : Bool :=
  let p := payload secs 0x68
  let ids := (entries p 4 4 (leAt p 0 2)).map (fun e => leAt e 0 2)
  ids.eraseDups.length == ids.length

/-- Steps 7 and 8 of R115 over the decrypted payloads. -/
def checkContents (tab : List SecEntry) (secs : List (Nat × List Byte)) : Option CheckFail :=
  let idx := fun (t : Nat) => (tab.findIdx (fun e => e.type == t))
  match firstBad tab (fun _ e => match sectionLen e.type (payload secs e.type) with | none => true | some n => n == e.len) with
  | some (i, e) => some ⟨0x40, i, e.type⟩
  | none =>
    match firstBad tab (fun _ e => reservedOk e.type (payload secs e.type)) with
    | some (i, e) => some ⟨0x41, i, e.type⟩
    | none =>
      match firstBad tab (fun _ e => rangeOk e.type (payload secs e.type) &&
          (e.type != 0x21 || gainRangeOk (payload secs 0x20) (payload secs 0x21))) with
      | some (i, e) => some ⟨0x42, i, e.type⟩
      | none =>
        match ([(0x50, 0x11, tdcOk secs), (0x51, 0x10, refOk secs), (0x51, 0x12, uinOk secs), (0x52, 0x20, servoOk secs), (0x53, 0x31, outOk secs),
            (0x54, 0x40, serdesOk secs), (0x54, 0x60, routesOk secs), (0x54, 0x88, pairPortOk secs), (0x55, 0x50, pipeOk secs),
            (0x55, 0x58, classOk secs), (0x55, 0x90, svcOk secs), (0x56, 0x70, vaultOk secs), (0x57, 0x78, lockOk secs),
            (0x58, 0x68, edgeDupOk secs)] : List (Nat × Nat × Bool)).find? (fun c => !c.2.2) with
        | some c => some ⟨c.1, idx c.2.1, c.2.1⟩
        | none => none

/-- Step 6 of R115: the payloads in clear (R96). -/
def openPayloads (img : List Byte) (tab : List SecEntry) (slot1 : Option (List Byte)) : Except Nat (List (Nat × List Byte)) :=
  if leAt img 0x1C 4 % 2 = 0 then .ok (tab.map (fun e => (e.type, sliceB img e.off e.len)))
  else match slot1 with
    | none => .error 0x30
    | some key =>
      let start := 128 + 16 * tab.length
      let sigOff := leAt img 0x20 4
      match Config.gcmOpen key (sliceB img 0x34 12) (sliceB img 0 0x34 ++ sliceB img 128 (16 * tab.length))
          (sliceB img start (sigOff - start)) (sliceB img 0x40 16) with
      | none => .error 0x31
      | some m => .ok (tab.map (fun e => (e.type, sliceB m (e.off - start) e.len)))

/-- R115: validate the bytes of a bank, stopping at the first failure. -/
def checkRecipe (img : List Byte) (env : CheckEnv) : Except CheckFail Recipe :=
  match checkHeader img with
  | some c => .error { code := c }
  | none =>
    let tab := secTable img
    match checkTable img tab with
    | some f => .error f
    | none =>
      match checkPayloads img tab with
      | some f => .error f
      | none =>
        let sigOff := leAt img 0x20 4
        match checkSig img sigOff (fun _ => true) (fun c => env.pin != 0 && c != env.pin) with
        | some c => .error { code := c }
        | none =>
          if leAt img 0x10 4 < env.floor then .error { code := 0x28 }
          else match openPayloads img tab env.slot1 with
            | .error c => .error { code := c }
            | .ok secs =>
              match checkContents tab secs with
              | some f => .error f
              | none => .ok { enc := leAt img 0x1C 4 % 2 = 1, rollback := leAt img 0x10 4, serial := leAt img 0x14 4,
                              custId := leAt img (sigOff + 0x68) 4, sections := secs, image := sliceB img 0 (leAt img 8 4) }

/-- R128: validate a firmware bank: steps 1, 4 and 5 of R115 with the same codes; answers ROLLBACK and FW_VER. -/
def checkFirmware (img : List Byte) (floor : Nat) : Except Nat (Nat × Nat) :=
  let sigOff := leAt img 0x18 4
  if leAt img 0 4 ≠ 0x49574659 then .error 0x01
  else if byteAt img 4 ≠ 1 ∨ leAt img 6 2 ≠ 64 then .error 0x02
  else if leAt img 0x3C 4 ≠ crc32c (sliceB img 0 0x3C) then .error 0x03
  else if leAt img 0x0C 2 ≠ 0x9612 ∨ 1 < byteAt img 0x0E ∨ byteAt img 0x0F < 1 then .error 0x04
  else if 0xFFFFF0 < leAt img 8 4 ∨ leAt img 8 4 ≠ sigOff + 408 ∨ sigOff % 16 ≠ 0 ∨ sigOff < 64 then .error 0x05
  else if byteAt img 5 ≠ 0 ∨ !zeroRange img 0x20 28 then .error 0x06
  else match checkSig img sigOff (fun c => c == 0) (fun _ => false) with
    | some c => .error c
    | none => if leAt img 0x10 4 < floor then .error 0x28 else .ok (leAt img 0x10 4, leAt img 0x14 4)

end Sys2Proof.Machine
end

