-- ==== Sys2Proof/Machine/Start.lean ====
section
/-! DEFINITION. Supply and start (spec/02_module.md, spec/04_startup.md): the start record, the ends of a run, and the shared
operations of a start. -/

namespace Sys2Proof.Machine

/-- The 64 bytes of a start record with its CRC (R132). -/
def StartRec.bytes (r : StartRec) : List Byte :=
  let flags := (if r.inStart then 1 else 0) + (if r.stable then 2 else 0) + (if r.strap00 then 4 else 0) +
    (if r.starterReq then 8 else 0) + (if r.warm then 16 else 0)
  let b := leBytes 4 0x52545359 ++ leBytes 2 1 ++ leBytes 2 64 ++ leBytes 4 r.seq ++ leBytes 1 r.attempts ++ leBytes 1 r.prefRcp ++
    leBytes 1 r.prefFw ++ leBytes 1 flags ++ leBytes 4 r.starts ++ (r.why.flatMap (leBytes 1)) ++ leBytes 8 (r.lastSec % 2 ^ 48) ++
    leBytes 1 r.lastRcp ++ leBytes 1 r.lastFw ++ leBytes 1 r.stop ++ leBytes 1 r.detail ++ leBytes 4 r.rcpSerial ++ leBytes 20 0
  b ++ leBytes 4 (crc32c b)

/-- R132: the copy with a valid CRC and the higher SEQ; a record of zeros where neither is valid. -/
def NvSt.record (n : NvSt) : StartRec :=
  match n.recA, n.recB with
  | some a, some b => if a.seq < b.seq then b else a
  | some a, none => a
  | none, some b => b
  | none, none => {}

/-- R132: a write goes to the copy with the lower SEQ, with SEQ one above the other copy. -/
def NvSt.writeRecord (n : NvSt) (r : StartRec) : NvSt :=
  match n.recA, n.recB with
  | some a, some b => if a.seq ≤ b.seq then { n with recA := some { r with seq := b.seq + 1 } }
      else { n with recB := some { r with seq := a.seq + 1 } }
  | some a, none => { n with recB := some { r with seq := a.seq + 1 } }
  | none, some b => { n with recA := some { r with seq := b.seq + 1 } }
  | none, none => { n with recA := some { r with seq := 1 } }

/-- Change the start record; nothing writes it while AON is off. -/
def State.updRecord (s : State) (f : StartRec → StartRec) : State :=
  if s.supply.on then { s with nv := s.nv.writeRecord (f s.nv.record) } else s

/-- Push a BOOT_WHY code as the newest of WHY_HIST, with its DETAIL (R132). -/
def StartRec.push (r : StartRec) (code detail : Nat) : StartRec := { r with why := (code :: r.why).take 4, detail := detail % 256 }

/-- STAGE of BOOT_STATUS. -/
def State.stage (s : State) : Nat := s.get F.BOOT_STATUS.STAGE

/-- Enter a stage; entering 6 or 7 raises the start event (R141). -/
def State.enterStage (s : State) (n : Nat) : State :=
  let t := s.set F.BOOT_STATUS.STAGE n
  if n = 6 ∨ n = 7 then
    t.occur 66 0xFF 0 (n + t.get F.BOOT_WHY.CODE * 256 + (if t.bit F.BOOT_STATUS.STABLE then 2 ^ 16 else 0))
  else t

/-- The flash base and size of a bank: recipe banks 8 MiB (R89), firmware banks 16 MiB (R127). -/
def bankBase (fw : Bool) (bank : Nat) : Nat := if fw then 0x2000000 + bank % 2 * 0x1000000 else 0x1000000 + bank % 2 * 0x800000
def bankSize (fw : Bool) : Nat := if fw then 0x1000000 else 0x800000

/-- A bank is left partly written: how much of it is a free value (R125). -/
def State.partProgram (s : State) (fw : Bool) (bank src len : Nat) : State :=
  (s.flashProgram (bankBase fw bank) (bankSize fw) ((s.sramRead src len).take (s.freeVal % len))).useFree

/-- R124, R125: the action that runs is abandoned; a bank that was being programmed is left erased or partly written. -/
def State.abandonAction (s : State) : State :=
  let a := { s with rcp := { s.rcp with action := none, live := none } }
  match s.rcp.action with
  | some (.prog fw bank src len) =>
    let b := a.partProgram fw bank src len
    { b with rcp := { b.rcp with unusable := (bank + if fw then 2 else 0) :: b.rcp.unusable } }
  | _ => a

/-- Every domain off, AON included (R71, R72): what the vault's non-volatile memory, the flash and the outside hold stays;
ALERT# is held (R454). -/
def State.powerOff (s0 : State) : State :=
  let s := s0.abandonAction
  { pending := s.pending, flash := s.flash, out := s.out, free := s.free, nv := s.nv,
    supply := { on := false, alert := true, quiet := true },
    hrt := { history := [] } }

/-- The power-fail sequence (R72): STOP and LAST_SEC are recorded, ALERT# asserts, everything stops driving and switches
off. -/
def State.powerFail (s : State) (stop : Nat) : State :=
  (s.updRecord (fun r => { r with stop := stop, lastSec := s.dsec })).powerOff

/-- A cold restart (R140): STOP is written, and every domain switches off as under PORST#. POWER_UP brings the engine up
again. -/
def State.coldRestart (s : State) (stop : Nat) : State :=
  (s.updRecord (fun r => { r with stop := stop })).powerOff

/-- R135: a failed start attempt: BOOT_WHY shows the code, the record counts it, and the engine restarts cold with STOP
0x09. -/
def State.failStart (s : State) (code detail : Nat) : State :=
  ((s.sets [(F.BOOT_WHY.CODE, code), (F.BOOT_WHY.DETAIL, detail)]).updRecord
    (fun r => { r.push code detail with attempts := min 255 (r.attempts + 1), inStart := false })).coldRestart 0x09

/-- The running image's payload of a TYPE. -/
def State.sec (s : State) (t : Nat) : List Byte := payload s.rcp.sections t

/-- KIND of a REF channel as loaded. -/
def State.kind (s : State) (c : Nat) : Nat := s.get (F.REF_STAT.KIND c)

/-- Whether a reload keeps a block quiesced (R120). -/
def State.isHeld (s : State) (code : Nat) : Bool := s.rcp.held.contains code

/-- The pair's EN as loaded. -/
def State.paired (s : State) : Bool := s.bit F.PAIR_CFG.EN

end Sys2Proof.Machine
end

