-- ==== Sys2Proof/Machine/Bus.lean ====
section
/-! DEFINITION. The way of an access to a register (spec/18_system.md R488, R489, R495; spec/04_startup.md R131; spec/00_scope.md R17):
crossbar errors, the gate of a start, and the stall at a sleeping domain, with the wake it begins (spec/19_power.md, R514). -/

namespace Sys2Proof.Machine

/-- The SRAM bank that holds an address (R489): none above bank 5. -/
def bankOf (addr : Nat) : Option Nat := if addr < 0x3000000 then some (addr / 0x800000) else none

/-- Change the system block's inner state. -/
def State.updSys (s : State) (f : SysSt → SysSt) : State := { s with sys := f s.sys }

/-- R496, R506: a crossbar error of a master at a target (0xF none); the first is recorded, a further one sets MORE. -/
def State.xbrError (s : State) (m t code addr : Nat) : State :=
  if s.bit F.XBR_ERR.ERR then s.set F.XBR_ERR.MORE 1
  else (s.sets [(F.XBR_ERR.MASTER, m), (F.XBR_ERR.TARGET, t), (F.XBR_ERR.CODE, code), (F.XBR_ERRADDR.ADDR, addr)]).flag F.XBR_ERR.ERR 69 m addr

/-- An access ends with an error, which its master sees. -/
def State.xbrFail (s : State) (m t code addr : Nat) : State := (s.xbrError m t code addr).emit (.completion m code [])

/-- R495 step 3: whether a master's next access ends with RESETABORT. -/
def State.aborted (s : State) (m : Nat) : Bool := s.sys.aborts.any (· == m)

/-- End that access. -/
def State.abortAccess (s : State) (m addr : Nat) : State :=
  (s.updSys (fun y => { y with aborts := y.aborts.filter (· != m) })).xbrFail m ((bankOf addr).getD 0xF) 3 addr

/-- End a register access that R495 aborts. -/
def State.abortRegister (s : State) (m off : Nat) : State :=
  (s.updSys (fun y => { y with aborts := y.aborts.filter (· != m) })).xbrFail m 6 3 off

/-- Change a domain's inner state. -/
def State.updDom (s : State) (d : Nat) (f : DomSt → DomSt) : State := { s with pwr := modAt s.pwr d f }

/-- A domain's inner state. -/
def State.dm (s : State) (d : Nat) : DomSt := s.pwr.getD d {}

/-- The domain that holds a register of BAR0 (R507, R36): 0 is AON. -/
def domOf (off : Nat) : Nat :=
  let b := off / 0x100000
  let lo := off % 0x100000
  if b = 9 then (if lo < 0x400 then 6 + lo / 0x100 else if lo < 0x800 then 6 else 0)
  else if b = 0xA then (if 0x100 ≤ lo ∧ lo < 0x500 then 5 + lo / 0x100 else 1)
  else if b = 0xB then (if 0x20 ≤ lo ∧ lo < 0x60 then 1 + (lo - 0x20) / 0x10 else 1)
  else if b = 0xC ∨ b = 0xD then 1
  else if b = 0xF then 12
  else if b = 0x10 ∨ b = 0x14 then 5
  else if b = 0x12 then
    (if 0x100 ≤ lo ∧ lo < 0x500 then 1 + (lo - 0x100) / 0x100 else if 0x600 ≤ lo ∧ lo < 0x640 then 1 + (lo - 0x600) / 0x10 else 1)
  else if b = 0x15 then 10
  else 0

/-- A domain that sleeps. -/
def State.asleep (s : State) (d : Nat) : Bool := s.get (F.PWR_DOM_STAT.STATE d) != 0

/-- A wake begins (R514, R518): its source, master and instant are recorded, and the sleep interval ends. -/
def State.recordWake (s : State) (d src master : Nat) (during : Bool) : State :=
  let slept := s.raw - (s.dm d).sleepStart
  ((s.sets [(F.PWR_WAKE.WSRC d, src), (F.PWR_WAKE.WREQ d, master), (F.PWR_WAKE.DURING d, if during then 1 else 0),
    (F.PWR_WAKE.FROM d, s.get (F.PWR_DOM_STAT.STATE d)), (F.PWR_WAKET.TICK d, s.raw)]).bump (F.PWR_SLEEP_ACC.TICKS d) slept).updDom d
    (fun x => { x with wakeStart := some s.raw, wakePending := none })

/-- A wake source acts on a domain (R514): one that sleeps begins to wake; during entry it waits for the entry's end. Afterwards the
request is for `req`. -/
def State.beginWake (s : State) (d src master req : Nat) : State :=
  if s.bit (F.PWR_DOM_STAT.ENTERING d) then
    (s.set (F.PWR_DOM_CTRL.REQ d) req).updDom d (fun x => { x with wakePending := if x.wakePending.isNone then some (src, master) else x.wakePending })
  else if s.asleep d then
    let a := s.set (F.PWR_DOM_CTRL.REQ d) req
    if (s.dm d).wakeStart.isSome then a else a.recordWake d src master false
  else s

/-- Whether an access to SRAM touches a word with an uncorrectable error (R498). -/
def State.badWord (s : State) (addr n : Nat) : Bool := s.sys.bad.any (fun w => decide (w < addr + n) && decide (addr < w + 8))

/-- R498: an uncorrectable word is recorded. -/
def State.eccError (s : State) (addr : Nat) : State :=
  ((s.bumpSat F.XBR_ECC.UECNT).sets [(F.XBR_ECC.BANK, (bankOf addr).getD 0), (F.XBR_ECCADDR.ADDR, addr)]).flag F.XBR_ECC.UE 69 0 (s.get F.XBR_ERRADDR.ADDR)

/-- Write SRAM: words written whole hold no error afterwards. -/
def State.sramStore (s : State) (addr : Nat) (b : List Byte) : State :=
  (s.sramWrite addr b).updSys (fun y => { y with bad := y.bad.filter (fun w => !(decide (addr ≤ w) && decide (w + 8 ≤ addr + b.length))) })

/-- Write single SRAM bytes, in order. -/
def State.sramBytes (s : State) (l : List (Nat × Byte)) : State := l.foldl (fun t p => t.sramStore p.1 [p.2]) s

/-- Whether an SRAM bank answers at once: the SUP domain is awake and the bank is checked (R514, R516). -/
def State.sramReady (s : State) (bank : Nat) : Bool :=
  s.get (F.PWR_DOM_STAT.STATE 5) == 0 && !s.bit (F.PWR_DOM_STAT.ENTERING 5) && !(s.dm 5).checking.contains bank

/-- A master's access to SRAM wakes the SUP domain (R514, R519). -/
def State.touchSram (s : State) (m : Nat) : State := if s.get (F.PWR_DOM_STAT.STATE 5) = 0 then s else s.beginWake 5 3 m 0

/-- A register access waits for a domain, which it wakes (R17, R514). -/
def State.stall (s : State) (d : Nat) (a : Access1) : State :=
  (s.beginWake d 2 a.req.master 0).updDom d (fun x => { x with stalled := x.stalled ++ [a] })

/-- Whether a domain's registers answer at once: it is awake, does not enter a sleep state, and its register bank is checked (R514,
R516). -/
def State.regsReady (s : State) (d : Nat) : Bool :=
  s.get (F.PWR_DOM_STAT.STATE d) == 0 && !s.bit (F.PWR_DOM_STAT.ENTERING d) && !(s.dm d).checking.contains 7

/-- R131: whether the block at an offset answers a requester at this stage. -/
def State.blockAnswers (s : State) (req : Requester) (off : Nat) : Bool :=
  decide (off < 0x300000) || s.stage == 6 || (s.stage == 7 && req != .host && req != .jtag)

/-- R489: M5, M6 and M7 reach only the registers of the PKE, NTS, PTP and PAIR blocks. -/
def fabricAllows (req : Requester) (off : Nat) : Bool :=
  let b := off / 0x100000
  !(req.master == 5 || req.master == 6 || req.master == 7) || b == 0xB || b == 0xC || b == 0xD || b == 0xF

/-- A register access reaches the fabric: it ends with RESETABORT or DECODE, finds a block that does not answer yet, or is served. -/
def State.atFabric (s : State) (req : Requester) (off : Nat) (f : State → State) : State :=
  if !s.supply.on then s
  else if s.aborted req.master then s.abortRegister req.master off
  else if !fabricAllows req off then s.xbrFail req.master 6 1 off
  else if !s.blockAnswers req off then s
  else f (s.set (F.XBR_TSTAT.OWNER 6) req.master)

/-- A write of a register of a domain that may sleep: it waits until the domain answers. -/
def State.atDomain (s : State) (req : Requester) (off data : Nat) (f : State → State) : State :=
  s.atFabric req off (fun s =>
    if s.regsReady (domOf off) then f s else s.stall (domOf off) { req := req, off := off, write := some (data, 15) })

end Sys2Proof.Machine
end

