-- ==== Sys2Proof/Machine/EventCmds.lean ====
section
/-! DEFINITION. The commands of the event block (spec/22_events.md). -/

namespace Sys2Proof.Machine

/-- R558: one occurrence of SWk for each bit set, in ascending order. -/
def swEvent (k : Nat) : Nat := if k < 16 then 48 + k else 72 + k

/-- A write of EVT_SWSET (R558): from any requester; INST the master number, DETAIL 0xFF. -/
def State.swset (s : State) (req : Requester) (bits : Nat) : State :=
  (List.range 24).foldl (fun t k => if bits.testBit k then t.occur (swEvent k) 0xFF req.master 0xFF else t) s

/-- EVT_SWSET (R558). -/
def execEvtSwset (req : Requester) (bits : Nat) (s : State) : Result := .next (s.atFabric req 0x1100000 (·.swset req bits))

/-- SIGNAL_INSTRUCTION (R558): a thread of an engine raises SW0 to SW15; the packet cluster is master 6. -/
def execSignalInstruction (engine k : Nat) (s : State) : Result :=
  onUnit (decide (engine < 16) && decide (k < 16)) (s.occur (swEvent k) 0xFF 6 engine)

/-- A timer's target as a count of 2⁻¹⁶ ns. -/
def State.timerTarget (s : State) (n : Nat) : Nat := s.evt.targets.getD n 0 * 65536

/-- Give a timer a target in nanoseconds. -/
def State.setTarget (s : State) (n ns : Nat) : State := { s with evt := { s.evt with targets := modAt s.evt.targets n (fun _ => ns) } }

/-- R559: raise a timer whose target disciplined time has reached: a repeating one moves its target by PER milliseconds, a
single-shot one disarms. -/
def State.timerFire (s : State) (n : Nat) : State :=
  match s.dnow with
  | none => s
  | some d =>
    if s.bit (F.EVT_TMR_NS.EN n) && decide (s.timerTarget n ≤ d) then
      let ns := s.evt.targets.getD n 0
      let t := s.occur (27 + n) 0xFF n (ns / 1000000000)
      let per := s.get (F.EVT_TMR_PER.PER n)
      if per = 0 then t.set (F.EVT_TMR_NS.EN n) 0 else t.setTarget n (ns + per * 1000000)
    else s

/-- A write of EVT_TMR_NS_n with EN set arms the timer: its target is taken as the registers stand. -/
def State.armTimer (s : State) (n : Nat) : State :=
  (s.setTarget n (s.get (F.EVT_TMR.SEC n) * 1000000000 + s.get (F.EVT_TMR_NS.NS n))).timerFire n

/-- EVT_TIMER_EXPIRY (R559). -/
def execEvtTimerExpiry (n : Nat) (s : State) : Result := onUnit (decide (n < 5)) (s.timerFire n)

/-- EVT_TIMER_ARM (R559): the target and period are written and EN set; a target already past raises at once. An NS of 10⁹
or more is discarded (R26). -/
def execEvtTimerArm (req : Requester) (n sec ns per : Nat) (s : State) : Result :=
  onUnit (decide (n < 5))
    (s.atFabric req (0x1100048 + 0x10 * n) (fun s =>
      if 1000000000 ≤ ns then s.accessError req 4 (0x1100048 + 0x10 * n)
      else (s.sets [(F.EVT_TMR.SEC n, sec), (F.EVT_TMR_PER.PER n, per), (F.EVT_TMR_NS.NS n, ns), (F.EVT_TMR_NS.EN n, 1)]).armTimer n))

/-- A write of EVT_QCONS (R556): a consumer index moves only forwards and to PROD at most. -/
def State.writeQcons (s : State) (req : Requester) (side value : Nat) : State :=
  let v := value % 256
  let cons := s.get (F.EVT_QCONS.CONS side)
  let prod := s.get (F.EVT_QSTAT.PROD side)
  if (v + 256 - cons) % 256 ≤ (prod + 256 - cons) % 256 then s.set (F.EVT_QCONS.CONS side) v
  else s.accessError req 7 (0x1101024 + 0x1000 * side)

/-- EVT_QCONS_WRITE (R556). -/
def execEvtQconsWrite (req : Requester) (side value : Nat) (s : State) : Result :=
  onUnit (decide (side < 2)) (s.atFabric req (0x1101024 + 0x1000 * side) (·.writeQcons req side value))

/-- Write a word of enables: each enable that goes from 0 to 1 while its event is pending sends one message (R555). -/
def State.writeEnables (s : State) (side group value : Nat) : State :=
  let old := s.get (F.EVT_EN.EN side group)
  let t := s.set (F.EVT_EN.EN side group) value
  (List.range 32).foldl (fun u k =>
    if value.testBit k && !old.testBit k && u.evPending side (32 * group + k) then u.message side (32 * group + k) else u) t

/-- EVT_EN_WRITE (R555). -/
def execEvtEnWrite (req : Requester) (side group value : Nat) (s : State) : Result :=
  onUnit (decide (side < 2) && decide (group < 3)) (s.atFabric req (0x1101010 + 0x1000 * side + 4 * group) (·.writeEnables side group value))

/-- Clear pending bits; clearing EV87's also clears LOST (EVT_QSTAT.LOST). -/
def State.clearPending (s : State) (side group mask : Nat) : State :=
  let t := s.set (F.EVT_PEND.PEND side group) (clearBits 32 (s.get (F.EVT_PEND.PEND side group)) mask)
  if group = 2 ∧ mask.testBit 23 then t.set (F.EVT_QSTAT.LOST side) 0 else t

end Sys2Proof.Machine
end

