-- ==== Sys2Proof/Machine/Journal.lean ====
section
/-! DEFINITION. The records of the pair link (R458 to R461) and what every block does to journal its changes (R460). -/

namespace Sys2Proof.Machine

/-- Kinds that carry frequency only (R142). -/
def freqOnly (k : Nat) : Bool := k == 3 || k == 5 || k == 8

/-- Change the pair's inner state. -/
def State.updPair (s : State) (f : PairSt → PairSt) : State := { s with pair := f s.pair }

/-- PAIR_STAT.ROLE: 0 none, 1 active, 2 standby. -/
def State.role (s : State) : Nat := s.get F.PAIR_STAT.ROLE

/-- PAIR_STAT.STATE: 0 SINGLE, 1 SEEK, 2 SOLO, 3 PART, 4 JOIN, 5 INSTEP, 6 DISPUTE. -/
def State.pairState (s : State) : Nat := s.get F.PAIR_STAT.STATE

/-- The standby replays SRV0 from the journal (R462). -/
def State.inStep (s : State) : Bool := s.role == 2 && (s.pairState == 5 || s.pairState == 6)

/-- Whether this unit behaves as a standby (R455): also in SEEK. -/
def State.standby (s : State) : Bool := s.role == 2 || s.pairState == 1

/-- Both lanes in block lock, or one at least. -/
def PairSt.both (p : PairSt) : Bool := p.lane0 && p.lane1
def PairSt.any (p : PairSt) : Bool := p.lane0 || p.lane1

/-- R482: raise a PAIR_STAT bit. -/
def State.pairFlag (s : State) (f : Fld) : State := s.flag f 45 0 s.pairState

/-- The bytes of a record (R459). -/
def recordBytes (seq type flags tick : Nat) (payload : List Byte) : List Byte :=
  let b := leBytes 4 seq ++ leBytes 1 type ++ leBytes 1 payload.length ++ leBytes 1 flags ++ [0] ++ leBytes 8 tick ++ payload
  b ++ leBytes 4 (crc32c b)

/-- Put a record on a lane (R458): the lanes in turn, or the one left. -/
def State.onLane (s : State) (b : List Byte) : State :=
  let lane := if s.pair.both then s.pair.turn else if s.pair.lane0 then 0 else 1
  (s.emit (.pairRecord lane b)).updPair (fun p => { p with turn := 1 - lane })

/-- Send a record and keep it (R458 to R461). With no lane in block lock nothing is sent. -/
def State.sendRecord (s : State) (type : Nat) (payload : List Byte) : State :=
  if !s.paired || !s.pair.any then s
  else
    let b := recordBytes s.pair.seq type 0 s.raw payload
    ((s.onLane b).updPair (fun p => { p with seq := (p.seq + 1) % 2 ^ 32, store := ((p.seq, b) :: p.store).take 65536 })).bump F.PAIR_JTX.TX

/-- The active journals while a standby joins it or replays it (R464). -/
def State.journals (s : State) : Bool := s.role == 1 && s.pair.any && (s.pairState == 4 || s.pairState == 5 || s.pairState == 6)

/-- SELECT's payload (R460). -/
def State.selectPayload (s : State) : List Byte :=
  let fo := match s.sel.sel with | some c => freqOnly (s.kind c) | none => false
  let fl := s.get F.REF_SELSTAT.DISAGREE + 2 * s.get F.REF_SELCTL.HOLD + (if fo then 4 else 0)
  leBytes 1 (s.sel.sel.getD 0xFF) ++ leBytes 1 (s.get (F.HRT_SRV_STAT.STATE 0)) ++ leBytes 1 fl ++ [0] ++ leBytes 8 (ofSigned 64 (roundEven (s.sel.phi * 65536)))

/-- LEAP's payload. -/
def State.leapPayload (s : State) : List Byte :=
  leBytes 2 (s.get F.HRT_UTC.OFFSET) ++
    leBytes 1 (s.get F.HRT_UTC.VALID + 2 * s.get F.HRT_UTC.LEAPPEND + 4 * s.get F.HRT_UTC.DIR) ++ leBytes 1 (s.get F.HRT_UTC.SRC) ++
    leBytes 8 (s.get F.HRT_LEAP.SEC) ++ leBytes 8 (s.get F.HRT_UTCPREV.SEC) ++ leBytes 2 (s.get F.HRT_UTCPREV_HI.PREV) ++ leBytes 2 0

/-- PARAM's payload; PERIOD is SRVTOP's (R102). -/
def State.paramPayload (s : State) : List Byte :=
  leBytes 4 (s.get (F.HRT_SRV_KP.KP 0)) ++ leBytes 4 (s.get (F.HRT_SRV_KI.KI 0)) ++ leBytes 4 (s.get (F.HRT_SRV_FSTEP.FSTEP 0)) ++
    leBytes 4 (s.get F.HRT_SRV_LEAD.LEAD) ++ leBytes 2 (s.get F.HRT_SRV_LIM.STEPLIM) ++ leBytes 2 (s.get F.HRT_SRV_LIM.LOCKLIM) ++
    leBytes 4 (s.get F.REF_SWSLEW.SLEW) ++ leBytes 4 (s.get F.REF_HAVG.SEC) ++ leBytes 4 (leAt (s.sec 0x20) 4 4)

/-- SRVSTATE's payload: SRV0 without SRV1's part (R233). -/
def State.srvStatePayload (s : State) : List Byte :=
  let v := s.hrt.srv.getD 0 {}
  let w := fun (q : Rat) => leBytes 8 (ofSigned 64 (roundEven (q * 65536)))
  w v.i ++ leBytes 8 (ofSigned 64 (roundAway v.r)) ++ w v.lastE ++ w (v.yhat * 1000000000000000) ++ leBytes 1 (s.get (F.HRT_SRV_STAT.STATE 0)) ++
    leBytes 1 (if v.phaseState then 1 else 0) ++ leBytes 2 v.run ++ leBytes 4 0

/-- Send SELECT, LEAP and PARAM where they have changed (R460). -/
def State.journalChanges (s : State) : State :=
  if !s.journals then s
  else
    let a := if s.pair.select = s.selectPayload then s else (s.sendRecord 0x12 s.selectPayload).updPair (fun p => { p with select := s.selectPayload })
    let b := if a.pair.leap = s.leapPayload then a else (a.sendRecord 0x13 s.leapPayload).updPair (fun p => { p with leap := s.leapPayload })
    if b.pair.param = s.paramPayload then b else (b.sendRecord 0x15 s.paramPayload).updPair (fun p => { p with param := s.paramPayload })

/-- RESULT's payload: channel, frequency, value in ps or as a fraction, stamp tick, generation, count and sigma (R460). -/
def resultPayload (c : Nat) (isFreq : Bool) (v : Rat) (tick gen count sigma : Nat) : List Byte :=
  let n := if isFreq then roundEven (v * 1000000000000000000) else roundEven (v * 65536)
  leBytes 1 c ++ leBytes 1 (if isFreq then 4 else 2) ++ leBytes 2 count ++ leBytes 8 (ofSigned 64 n) ++ leBytes 8 tick ++ leBytes 4 sigma ++
    leBytes 1 gen ++ leBytes 7 0

/-- Journal a result delivered to SRV0. -/
def State.journalResult (s : State) (c : Nat) (isFreq : Bool) (v : Rat) (stamp gen count sigma : Nat) : State :=
  if s.journals && s.sel.sel == some c then s.sendRecord 0x10 (resultPayload c isFreq v (stamp / 512) gen count sigma) else s

/-- Journal an SRV0 update: whether its rate is given, the results it consumed, and its step (R460). -/
def State.journalUpdate (s : State) (given : Bool) (nres : Nat) : State :=
  if !s.journals then s
  else
    let v := s.hrt.srv.getD 0 {}
    let step := match s.hrt.pend with | some (p, false) => p.step | _ => 0
    s.sendRecord 0x11 (leBytes 8 s.raw ++ leBytes 8 (s.raw + s.get F.HRT_SRV_LEAD.LEAD) ++ leBytes 1 (if given then 1 else 0) ++
      leBytes 1 (s.get (F.HRT_SRV_STAT.STATE 0)) ++ leBytes 2 nres ++ leBytes 8 (if given then ofSigned 64 (roundAway v.r) else 0) ++
      leBytes 8 (ofSigned 64 step) ++ leBytes 4 0)

/-- Journal a grant's commit: entry and its bytes. -/
def State.journalGrant (s : State) (i : Nat) (bytes : List Byte) : State :=
  if s.journals then (s.sendRecord 0x18 (leBytes 2 i ++ leBytes 2 0 ++ bytes)).updPair (fun p => { p with grants := p.grants + 1 }) else s

/-- NTSKEY's payload: position, state, generation, the switch as DTIME (a count of 2⁻¹⁶ ns). -/
def ntsKeyPayload (pos state gen d : Nat) : List Byte :=
  leBytes 1 pos ++ leBytes 1 state ++ leBytes 2 0 ++ leBytes 4 gen ++ leBytes 8 (d / 65536000000000) ++ leBytes 4 (d % 65536000000000 / 65536) ++ leBytes 4 0

/-- Journal a position's change. -/
def State.journalPos (s : State) (pos state gen d : Nat) : State :=
  if s.journals then s.sendRecord 0x19 (ntsKeyPayload pos state gen d) else s

/-- A unit enters SEEK when its start completes; without the pair it is single (R455). -/
def State.pairStart (s : State) : State :=
  if s.paired then
    (s.sets [(F.PAIR_STAT.STATE, 1), (F.PAIR_STAT.ROLE, 0), (F.PAIR_STAT.HOME, s.get F.GLB_STRAP.HOME)]).updPair (fun p => { p with seekAt := s.raw })
  else s.sets [(F.PAIR_STAT.STATE, 0), (F.PAIR_STAT.ROLE, 0)]

end Sys2Proof.Machine
end

