-- ==== Sys2Proof/Machine/OscOps.lean ====
section
/-! DEFINITION. The thermal model's arithmetic (spec/07_oscillators.md, R204 to R209) and least-squares lines, which several
blocks use. -/

namespace Sys2Proof.Machine

/-- Sum of rationals. -/
def sumR (l : List Rat) : Rat := l.foldl (· + ·) 0

/-- Mean of rationals; 0 of none. -/
def meanR (l : List Rat) : Rat := if l = [] then 0 else sumR l / l.length

/-- Absolute value. -/
def absR (q : Rat) : Rat := if q < 0 then -q else q

/-- A least-squares line through points (t, x): slope and value at t = 0; slope 0 where the points fix none. -/
def fitLine (pts : List (Rat × Rat)) : Rat × Rat :=
  let n : Rat := pts.length
  let st := sumR (pts.map (·.1))
  let sx := sumR (pts.map (·.2))
  let stt := sumR (pts.map (fun p => p.1 * p.1))
  let stx := sumR (pts.map (fun p => p.1 * p.2))
  let d := n * stt - st * st
  let b := if d = 0 then 0 else (n * stx - st * sx) / d
  (b, if n = 0 then 0 else (sx - b * st) / n)

/-- The sum of squared residuals of points about a line. -/
def residSq (pts : List (Rat × Rat)) (ln : Rat × Rat) : Rat :=
  sumR (pts.map (fun p => let r := p.2 - ln.2 - ln.1 * p.1; r * r))

/-- The standard error of a fitted slope; 0 below three points. -/
def slopeErr (pts : List (Rat × Rat)) (ln : Rat × Rat) : Rat :=
  let n : Rat := pts.length
  let st := sumR (pts.map (·.1))
  let sxx := sumR (pts.map (fun p => p.1 * p.1)) - (if n = 0 then 0 else st * st / n)
  if pts.length < 3 ∨ sxx = 0 then 0 else sqrtR (residSq pts ln / (n - 2) / sxx)

/-- Ticks as seconds. -/
def secs (ticks : Int) : Rat := (ticks : Rat) / 625000000

/-- The die sensors that have not failed (R202). -/
def State.goodSensors (s : State) : List Nat := (List.range 8).filter (fun i => !s.bit (F.OSC_TS.FAIL i))

/-- T̄ in °C (R204): the mean of what the die sensors that have not failed read; with none of them its value is open. -/
def State.tbar (s : State) : Rat :=
  if s.goodSensors.isEmpty then ((s.freeVal % 24321 : Nat) : Rat) / 128 - 40
  else meanR (s.goodSensors.map (fun i => (s.getI (F.OSC_TS.TEMP i) : Rat) / 128))

/-- Input i of the model: °C for the die sensors, kelvin for the loop errors (R202). -/
def OscSt.input (o : OscSt) (i : Nat) : Rat := if i < 8 then (o.temps.getD i 0 : Rat) / 128 else (o.temps.getD i 0 : Rat) / 10000

/-- A model set. -/
def State.mset (s : State) (n : Nat) : ModelSet := s.osc.sets.getD n {}

/-- R205: the predicted deviation of a set. -/
def State.modelY (s : State) (n : Nat) : Rat :=
  let m := s.mset n
  sumR ((List.range 10).map (fun i => m.fit.getD i 0 * (s.osc.input i - m.means.getD i 0))) +
    m.fit.getD 10 0 * s.osc.lbar + m.fit.getD 11 0 * s.osc.h

/-- The training seconds of a map cell. -/
def ModelSet.count (m : ModelSet) (cell : Nat) : Nat := ((lookup cell m.map).getD (0, 0, 0)).1

/-- The recorded mean of a map cell (R206). -/
def ModelSet.mean (m : ModelSet) (cell : Nat) : Rat :=
  let e := (lookup cell m.map).getD (0, 0, 0)
  if e.2.2 = 0 then 0 else e.2.1 / e.2.2

/-- Whether a cell is trained (R206). -/
def State.trained (s : State) (n cell : Nat) : Bool := decide (s.get F.OSC_SETTLE.MAPMIN ≤ (s.mset n).count cell)

/-- The current cell. -/
def State.cellNow (s : State) : Nat := s.get F.OSC_OP.TBIN * 8 + s.get F.OSC_OP.LBIN

/-- Distance of two numbers. -/
def distN (a b : Nat) : Nat := if a < b then b - a else a - b

/-- R208: the nearest trained cell, ties to the lower LBIN, then the lower TBIN. -/
def State.nearestCell (s : State) (n : Nat) : Option Nat :=
  let here := s.cellNow
  let key := fun (c : Nat) => (distN (c / 8) (here / 8) + distN (c % 8) (here % 8)) * 1024 + (c % 8) * 32 + c / 8
  ((List.range 208).filter (s.trained n)).foldl (fun b c => match b with
    | none => some c
    | some d => if key c < key d then some c else some d) none

/-- R208: the applied correction of a set. -/
def State.appliedY (s : State) (n : Nat) : Rat :=
  if s.trained n s.cellNow then s.modelY n
  else match s.nearestCell n with
    | some c => (s.mset n).mean c
    | none => 0

/-- σ_fit of a set (R206). -/
def ModelSet.sigFit (m : ModelSet) : Rat := sqrtR (meanR (m.resid.map (fun r => r * r)))

/-- The untrained floor of a set as a fraction. -/
def State.untrFloor (s : State) (n : Nat) : Rat := (s.get (F.OSC_UNTR.FLOOR n) : Rat) / 1000000000000000000

/-- σ_TEMP of R263: σ_fit, the failed-sensor additions of R205 and the rate addition of R209. -/
def State.sigTemp (s : State) (n : Nat) : Rat :=
  let m := s.mset n
  m.sigFit + sumR (((List.range 8).filter (fun i => s.bit (F.OSC_TS.FAIL i))).map (fun i => absR (m.fit.getD i 0) * 5)) +
    (if s.raw < s.osc.rateUntil then s.osc.rateTerm.getD n 0 else 0)

/-- σ_LOAD of R263: the untrained additions of R208. -/
def State.sigLoad (s : State) (n : Nat) : Rat :=
  if s.trained n s.cellNow then 0
  else match s.nearestCell n with
    | some _ => absR (s.modelY n - s.appliedY n) + s.untrFloor n
    | none => 10 * s.untrFloor n

/-- σ_TL of R208 and R209 in units of 10⁻¹⁸, rounded up; with no trained cell 10 × OSC_UNTR alone takes σ_fit's place. -/
def State.sigTL (s : State) (n : Nat) : Nat := (ceilR ((s.sigTemp n + s.sigLoad n) * 1000000000000000000)).toNat

/-- The REF channel of a kind, if one is mapped. -/
def State.channelOfKind (s : State) (k : Nat) : Option Nat := (List.range 16).find? (fun c => s.kind c == k)

/-- The holdover set (R207): 0 CELL while the atomic channel is present with CELL_PROOF clear, else 1 OVEN. -/
def State.hset (s : State) : Nat :=
  match s.channelOfKind 8 with
  | some c => if s.bit (F.REF_STAT.PRESENT c) && !s.bit F.OSC_STAT.CELL_PROOF then 0 else 1
  | none => 1

/-- ŷ_AT + y_applied,CELL: the predicted frequency of the atomic standard against traceable time (R248). -/
def State.zA (s : State) : Rat := s.osc.yat + s.appliedY 0

/-- D_n as a fraction per day (R212). -/
def State.ageD (s : State) (n : Nat) : Rat := (s.getI (F.OSC_AGE_D.D n) : Rat) / 1000000000000000000

/-- σ_D,n as a fraction per day (R212). -/
def State.ageU (s : State) (n : Nat) : Rat := (s.get (F.OSC_AGE_U.U n) : Rat) / 1000000000000000000

end Sys2Proof.Machine
end

