-- ==== Sys2Proof/Machine/RefOps.lean ====
section
/-! DEFINITION. What references, selection, the servo, holdover and the error bound share: U_ref, candidates, qualification,
disqualification, selection, carries and the bound (spec/05_references.md, spec/08_timescale.md, spec/09_selection.md). -/

namespace Sys2Proof.Machine

/-! Bounds (R32, R33). -/

/-- The unbounded value. -/
def unbounded : Nat := 0xFFFFFFFF

/-- A result above the largest finite bound is unbounded. -/
def errbCap (n : Nat) : Nat := if 0xFFFFFFFE < n then unbounded else n

/-- A calculation in picoseconds, rounded up. -/
def errbUp (q : Rat) : Nat := errbCap (ceilR q).toNat

/-- A sum of bounds: unbounded where an operand is. -/
def errbSum (l : List Nat) : Nat := if l.any (fun n => decide (unbounded ≤ n)) then unbounded else errbCap (l.foldl (· + ·) 0)

/-! Pairs in time. -/

/-- Picoseconds of disciplined time of a raw instant in crumbs under a pair, before rounding (R216). -/
def Pair.ps (p : Pair) (crumbs : Rat) : Rat :=
  ((p.offset : Rat) + (crumbs - (p.anchor * 512 : Nat)) * 1024 * (1000000000000000 + p.rate) / 5000000000000000) * 1000 / 65536

/-- The pair in force in the Hearth at a raw instant in crumbs, from the 16 kept (R220). -/
def State.pairAt (s : State) (crumbs : Nat) : Pair :=
  (s.hrt.history.find? (fun p => decide (p.commit * 512 ≤ crumbs))).getD (s.hrt.history.getLastD s.hrt.cur)

/-- The mean of pair rates over an interval of ticks, each weighted by the time it was in force (R186), as a fraction; and
whether a pair committed inside it. -/
def meanRate (hist : List Pair) (a b : Nat) : Rat × Bool :=
  let r := hist.foldl (fun (acc : Rat × Nat) p =>
    let lo := max a p.commit
    if lo < acc.2 then (acc.1 + p.rateFrac * ((acc.2 - lo : Nat) : Rat), lo) else acc) (0, b)
  let r' := if a < r.2 then r.1 + ((hist.getLast?.map Pair.rateFrac).getD 0) * ((r.2 - a : Nat) : Rat) else r.1
  (if b ≤ a then 0 else r' / ((b - a : Nat) : Rat), hist.any (fun p => decide (a < p.commit) && decide (p.commit < b)))

/-! Configuration read from the running image. -/

/-- EN of a servo instance's SRVTOP entry (R102). -/
def State.srvEn (s : State) (n : Nat) : Bool := leAt (s.sec 0x20) (16 * n) 1 == 1

/-! Ageing (R212). -/

/-- The default σ_D in 10⁻¹⁸ per day. -/
def ageDefault (n : Nat) : Nat := if n = 0 then 10000000 else 200000000

/-- A set after a day that has ended (R212): a day of 72,000 s or more counts. -/
def ModelSet.endDay (m : ModelSet) (dayNow : Nat) : ModelSet :=
  if m.day.1 < dayNow ∧ 72000 ≤ m.day.2.1 then
    { m with days := (m.day.1, m.day.2.2 / m.day.2.1) :: m.days, day := (dayNow, 0, 0) }
  else if m.day.1 < dayNow then { m with day := (dayNow, 0, 0) }
  else m

/-- D_n and σ_D,n of a set's counted days (R212). -/
def ModelSet.ageing (m : ModelSet) (n : Nat) : Int × Nat :=
  let k := m.days.length
  let pts := (m.days.take 30).map (fun p => ((p.1 : Rat), p.2))
  let ln := fitLine pts
  let exa : Rat := 1000000000000000000
  if k < 3 then (0, ageDefault n)
  else (roundAway (ln.1 * exa), max (ceilR (slopeErr pts ln * exa)).toNat (if k < 14 then ageDefault n else ageDefault n / 20))

/-- Show a set's ageing (R212); with SRV2 disabled its terms take their defaults (R210). -/
def State.showAgeing (s : State) (n : Nat) : State :=
  let m := s.mset n
  let a := if s.srvEn 2 then m.ageing n else (0, ageDefault n)
  let k := m.days.length
  ((s.setISat (F.OSC_AGE_D.D n) a.1).setSat (F.OSC_AGE_U.U n) a.2).sets
    [(F.OSC_LEARN.DAYS n, min 255 k), (F.OSC_LEARN.LEARNT n, if 14 ≤ k then 1 else 0)]

/-- MODE of a servo instance. -/
def State.srvMode (s : State) (n : Nat) : Nat := leAt (s.sec 0x20) (16 * n + 1) 1

/-- INPUTS of a servo instance. -/
def State.srvInputs (s : State) (n : Nat) : Nat := leAt (s.sec 0x20) (16 * n + 2) 2

/-- PERIOD of a servo instance. -/
def State.srvPeriod (s : State) (n : Nat) : Nat := leAt (s.sec 0x20) (16 * n + 4) 4

/-- The effective period P (R225). -/
def State.srvP (s : State) (n : Nat) : Nat :=
  let p := s.srvPeriod n
  let need := s.get F.HRT_SRV_LEAD.LEAD + 1250
  if need ≤ p ∨ p = 0 then p else p * ((need + p - 1) / p)

/-- USE, TARGET and FLAGS of a TDC channel (R100). -/
def State.tdcUse (s : State) (n : Nat) : Nat := leAt (s.sec 0x11) (4 * n) 1
def State.tdcTarget (s : State) (n : Nat) : Nat := leAt (s.sec 0x11) (4 * n + 1) 1

/-- The TDC channel that serves a REF channel, if one does. -/
def State.tdcOf (s : State) (c : Nat) : Option Nat :=
  (List.range 24).find? (fun n => (s.tdcUse n == 1 || s.tdcUse n == 4) && s.tdcTarget n == c)

/-- The signed UINCFG DELAY of a REF channel's ball, in crumbs (R87, R101). -/
def State.boardDelay (s : State) (c : Nat) : Int :=
  let k := s.kind c
  if k = 1 then toSigned 16 (leAt (s.sec 0x12) 52 2)
  else if k = 2 ∨ k = 3 ∨ k = 4 then toSigned 16 (leAt (s.sec 0x12) (8 * s.get (F.REF_STAT.SOURCE c) + 4) 2)
  else 0

/-- Kinds that name the second (R142). -/
def timeLabelled (k : Nat) : Bool := k == 1 || k == 4 || k == 6 || k == 7 || k == 9

/-- A reference channel's inner state. -/
def State.rf (s : State) (c : Nat) : RefSt := s.ref.getD c {}

/-- Change a reference channel's inner state. -/
def State.updRef (s : State) (c : Nat) (f : RefSt → RefSt) : State := { s with ref := modAt s.ref c f }

/-- A TDC channel's inner state. -/
def State.td (s : State) (n : Nat) : TdcSt := s.tdc.getD n {}

/-- Change a TDC channel's inner state. -/
def State.updTdc (s : State) (n : Nat) (f : TdcSt → TdcSt) : State := { s with tdc := modAt s.tdc n f }

/-- A servo instance's inner state. -/
def State.sv (s : State) (n : Nat) : SrvSt := s.hrt.srv.getD n {}

/-- Change a servo instance's inner state. -/
def State.updSrv (s : State) (n : Nat) (f : SrvSt → SrvSt) : State := { s with hrt := { s.hrt with srv := modAt s.hrt.srv n f } }

/-- QSTATE of a channel. -/
def State.qstate (s : State) (c : Nat) : Nat := s.get (F.REF_QSTAT.QSTATE c)

/-- ERRB in force in the Hearth (R267). -/
def State.errb (s : State) : Nat := s.get F.REF_ERRB.ERRB

/-- SRV0's state (R231). -/
def State.srvState (s : State) : Nat := s.get (F.HRT_SRV_STAT.STATE 0)

/-- Raise a REF_STAT bit's event (R167). -/
def State.refFlag (s : State) (f : Fld) (c : Nat) : State := s.flag f c c

/-- Raise a REF_SELSTAT bit's event (R271). -/
def State.selFlag (s : State) (f : Fld) (inst : Nat := 0) (detail : Nat := 0) : State := s.flag f 20 inst detail

/-- Raise an HRT_STAT bit's event (R243). -/
def State.hrtFlag (s : State) (f : Fld) (detail : Nat := 0) : State := s.flag f 19 0 detail

/-! Uncertainty (R161). -/

/-- U_ref of a channel in ps, or in ps/s for KIND 0x03 and 0x05; not formed for KIND 0x08. -/
def State.uref (s : State) (c : Nat) : Nat :=
  let k := s.kind c
  let m := max (s.get (F.REF_UNC.UNC c)) (s.get (F.REF_UKIND.UKIND c))
  if k = 8 then 0
  else if k = 3 ∨ k = 5 then m
  else errbSum [m, if 1 ≤ k ∧ k ≤ 4 then 20 else 0, s.get (F.REF_DLYUNC.DLYUNC c)]

/-- The U_kind that a kind has before any indication (R161). -/
def State.ukindRest (s : State) (c : Nat) : Nat :=
  let k := s.kind c
  if k = 2 ∨ k = 3 ∨ k = 5 ∨ (k = 4 ∧ s.get (F.REF_CFG.TSCALE c) ≠ 1) then 0 else unbounded

/-! The referee (R248). -/

/-- The referee's channel: KIND 0x08 with FLAGS.REFEREE in REFMAP. -/
def State.refereeChannel (s : State) : Option Nat :=
  (List.range 16).find? (fun c => s.kind c == 8 && (leAt (s.sec 0x10) (8 * c + 3) 1).testBit 1)

/-- Whether the referee is available. -/
def State.refereeOk (s : State) : Bool :=
  match s.refereeChannel with
  | none => false
  | some c => s.bit (F.REF_STAT.PRESENT c) && !s.bit F.OSC_STAT.CELL_PROOF && decide (s.get F.OSC_YAT_U.U < 10000000)

/-! The UTC source that leads (R236, R238). -/

/-- The offset in force, signed seconds. -/
def State.utcOffset (s : State) : Int := s.getI F.HRT_UTC.OFFSET

/-- Whether a source counts (R236): the host from its first action; another while its channel is qualified and it has reported
within 86,400 s. -/
def State.sourceCounts (s : State) (src : Nat) : Bool :=
  match lookup src s.hrt.reports with
  | none => false
  | some r =>
    src == 1 || (match s.channelOfKind (if src = 2 then 1 else if src = 3 then 6 else 4) with
      | none => false
      | some c => s.qstate c == 3 && decide (s.raw ≤ r.at_ + 86400 * 625000000))

/-- The followed source: the highest precedence that counts (R236). -/
def State.followedSource (s : State) : Nat := ([1, 2, 3, 4].find? s.sourceCounts).getD 0

/-- Within the last 3,600 s before LEAP_SEC a scheduled change stands (R238). -/
def State.leapStands (s : State) : Bool :=
  s.bit F.HRT_UTC.LEAPPEND && decide (s.get F.HRT_LEAP.SEC ≤ s.dsec + 3600)

/-- Cancel a scheduled change (R238). -/
def State.cancelLeap (s : State) : State :=
  if s.bit F.HRT_UTC.LEAPPEND && !s.leapStands then
    (s.sets [(F.HRT_UTC.LEAPPEND, 0), (F.HRT_UTC.DIR, 0), (F.HRT_LEAP.SEC, 0)]).hrtFlag F.HRT_STAT.LEAPSCHED
  else s

/-- The followed source is chosen anew (R236); a change that the source which then leads does not state is cancelled (R238).
Where no source leads any more the change stands, unless the last one fell silent for 86,400 s (`silent`). -/
def State.reviewLead (s : State) (silent : Bool) : State :=
  let lead := s.followedSource
  if lead = s.get F.HRT_UTC.SRC then s
  else
    let b := s.set F.HRT_UTC.SRC lead
    if s.inStep ∨ (lead = 0 ∧ silent = false) then b
    else match (lookup lead b.hrt.reports).bind (·.change) with
      | some c => if b.get F.HRT_LEAP.SEC = c.1 ∧ b.bit F.HRT_UTC.DIR = c.2 then b else b.cancelLeap
      | none => b.cancelLeap

/-! Asymmetry calibration's early ends (R314). -/

/-- End port `n`'s asymmetry calibration with a cause. -/
def State.acalFail (s : State) (n why : Nat) : State :=
  (({ s with port := modAt s.port n (fun p => { p with acal := none }) }.set (F.PRT_CTRL.ASYMCAL n) 0).set (F.PRT_STAT.ACWHY n) why).flag
    (F.PRT_STAT.ACFAIL n) (32 + n) n why

/-- The cause that ends, or keeps from starting, a calibration with channel `c`: 2, 5, 3 or 6; 0 for none. -/
def State.acalWhy (s : State) (c : Nat) : Nat :=
  if s.sel.sel = some c then 2 else if s.qstate c < 2 then 5 else if s.srvState ≠ 2 then 3 else if s.errb = unbounded then 6 else 0

/-- End every calibration whose conditions no longer hold. -/
def State.reviewAcal (s : State) : State :=
  (List.range 4).foldl (fun t n => match (t.port.getD n {}).acal with
    | none => t
    | some k => if t.acalWhy k.chan = 0 then t else t.acalFail n (t.acalWhy k.chan)) s

/-! Servo states. -/

/-- CELL's training condition but for the gate (R206). -/
def State.cellCond (s : State) : Bool :=
  s.srvState == 2 && (match s.sel.sel with | some c => s.kind c != 8 | none => false) && decide (s.errb < unbounded) &&
    !s.bit F.OSC_STAT.CELL_PROOF && s.bit F.OSC_STAT.CELL_LOCK

/-- ŷ_AT freezes where the training condition stops holding (R211). -/
def State.freezeYat (s : State) : State := if s.cellCond then { s with osc := { s.osc with frozenAt := s.raw } } else s

/-- Change SRV0's state (R231): each change sets STATE and raises the time-scale event. -/
def State.setSrvState (s : State) (n : Nat) : State :=
  if s.srvState = n then s
  else
    let t := { s.freezeYat with bound := { s.bound with traced := s.bound.traced || s.srvState == 0 } }
    ((t.set (F.HRT_SRV_STAT.STATE 0) n).hrtFlag F.HRT_STAT.STATE n).reviewAcal

/-- The deviation of the oven that a segment's correction uses (R259): y_applied,OVEN plus ageing since a tick. -/
def State.yO (s : State) (since : Nat) (t : Nat) : Rat := s.appliedY 1 + s.ageD 1 * secs ((t : Int) - since) / 86400

/-! The bound (R261 to R266). -/

/-- U_PM (R476). -/
def State.uPM (s : State) : Rat := 50 + s.get F.PAIR_THR.PPSUNC

/-- Whether the comparison is stale at a tick: no x for 2 s (R466). -/
def PairSt.stale (p : PairSt) (t : Nat) : Bool := match p.x with | none => true | some x => decide (x.2 + 1250000000 ≤ t)

/-- U_PAIR at a tick (R476). -/
def State.uPairAt (s : State) (t : Nat) : Nat :=
  let p := s.pair
  let fresh := match p.bound with | none => false | some b => decide (t ≤ b.2 + 40000)
  let x := (p.x.map (·.1)).getD 0
  let y := p.xPrev.getD x
  if s.role = 2 ∧ (p.stale t ∨ fresh = false ∨ s.pairState = 3) then unbounded
  else if s.pairState = 6 then errbSum [errbUp (p.dispMax + s.uPM), s.get F.PAIR_TWINB.B]
  else if s.role = 2 then errbUp (max (absR x) (absR y) + absR (x - y) + s.uPM)
  else 0

/-- U_PAIR as it stands. -/
def State.uPair (s : State) : Nat := s.uPairAt s.raw

/-- The direct bound (R261): the sum of the terms while SRV0 is LOCKED or ACQUIRE on a selected channel that carries phase.
Until SRV0's first update on a newly selected channel its error and build-out are another channel's, and the direct bound does
not exist. -/
def State.direct (s : State) : Nat :=
  match s.sel.sel with
  | none => unbounded
  | some c => if (s.srvState = 1 ∨ s.srvState = 2) ∧ !freqOnly (s.kind c) ∧ (s.sv 0).chan = some c ∧ s.sel.phiFor = some c
      then errbSum s.bound.terms else unbounded

/-- The square root of seconds as a rational. -/
def sqrtSecs (q : Rat) : Rat := sqrtR q

/-- The five growth terms H of an open carry at a tick (R262 to R264): H_Y0, H_TEMP, H_LOAD, H_AGE, H_NOISE. -/
def State.growth (s : State) (k : Carry) (t : Nat) : List Nat :=
  let dt := secs ((t : Int) - k.tc)
  let since := secs ((t : Int) - k.upTo)
  let tera : Rat := 1000000000000
  match k.freq with
  | some rate => [errbUp (rate * dt * tera), 0, 0, 0, 0]
  | none =>
    let h : Rat := if k.hset = 0 then 30 / tera else 10 / tera
    let stopped : Rat := if s.srvState = 5 then 3 * absR (s.yO k.tc t - k.yO) * dt else 0
    [errbUp (3 * k.sy0 * dt * tera),
     errbUp ((3 * (k.iTemp + s.sigTemp k.hset * since) + stopped) * tera),
     errbUp (3 * (k.iLoad + s.sigLoad k.hset * since) * tera),
     errbUp (3 / 2 * s.ageU k.hset * dt * dt / 86400 * tera),
     errbUp (3 * h * sqrtSecs dt * tera)]

/-- The carried bound at a tick, where a carry is open (R262). -/
def State.carriedAt (s : State) (t : Nat) : Option Nat :=
  s.bound.carry.map (fun k => errbSum (k.u0 :: s.uPairAt t :: s.growth k t))

/-- Why the bound is forced unbounded (R266): 1 never traced, 2 MAN, 3 starter mode; 0 where it is not. -/
def State.boundCause (s : State) : Nat :=
  if s.boot.starter then 3
  else if s.bit (F.HRT_SRV_CTRL.MAN 0) ∨ s.srvState = 4 then 2
  else if !s.bound.traced then 1
  else 0

/-- ERRB at a tick (R265, R266; in a standby R477). -/
def State.errbAt (s : State) (t : Nat) : Nat :=
  if s.boundCause ≠ 0 then unbounded
  else if s.role = 2 then errbSum [(s.pair.bound.map (·.1)).getD unbounded, s.uPairAt t]
  else match s.carriedAt t with
    | none => s.direct
    | some k => min s.direct k

/-- Open a carry at this tick (R262): it records ERRB less U_PAIR as they stood before the change. -/
def State.openCarry (s : State) (errb : Nat) (freq : Option Rat) (sy0 : Rat) (hset : Nat) : State :=
  let u0 := if errb = unbounded then unbounded else errb - min errb s.uPair
  let k : Carry := ⟨s.raw, u0, freq, sy0, 0, 0, hset, s.yO s.raw s.raw, s.raw⟩
  { s with bound := { s.bound with carry := some k } }.setBit F.REF_SELSTAT.CARRIED true

/-- End the carry (R265). -/
def State.endCarry (s : State) : State :=
  { s with bound := { s.bound with carry := none } }.setBit F.REF_SELSTAT.CARRIED false

/-- R265: a carry ends at an evaluation at which the direct bound is at or below it, never during holdover, while STOPPED
or during a frequency-only selection. -/
def State.reviewCarry (s : State) : State :=
  match s.carriedAt s.raw with
  | none => s
  | some k =>
    let held := s.srvState == 3 || s.srvState == 5 || (match s.sel.sel with | some c => freqOnly (s.kind c) | none => false)
    if !held && decide (s.direct ≤ k) && s.direct != unbounded then s.endCarry else s

/-! Holdover (R257 to R263). -/

/-- The committed rates over the averaging window: the time-weighted mean and standard deviation, in ppq (R259, R263). -/
def rateStats (rates : List (Nat × Rat)) (a b : Nat) : Rat × Rat :=
  let parts := (rates.foldl (fun (acc : List (Rat × Rat) × Nat) p =>
    let lo := max a p.1
    if lo < acc.2 then ((p.2, ((acc.2 - lo : Nat) : Rat)) :: acc.1, lo) else acc) ([], b)).1
  let w := sumR (parts.map (·.2))
  let m := if w = 0 then 0 else sumR (parts.map (fun p => p.1 * p.2)) / w
  let v := if w = 0 then 0 else sumR (parts.map (fun p => (p.1 - m) * (p.1 - m) * p.2)) / w
  (m, sqrtR v)

/-- The window of R259: REF_HAVG seconds that ended at the last update that had a result. -/
def State.havg (s : State) : Rat × Rat :=
  let b := (s.sv 0).lastResult
  rateStats (s.sv 0).rates (b - min b (s.get F.REF_HAVG.SEC * 625000000)) b

/-- σ_y0 of a first segment with a set (R263). -/
def State.firstSy0 (s : State) (set : Nat) : Rat :=
  if set = 0 then (s.get F.OSC_YAT_U.U : Rat) / 1000000000000000000
  else max (1 / 10000000000000) (s.havg.2 / 1000000000000000 + (s.sel.lastU : Rat) / 1000000000000 / s.get F.REF_HAVG.SEC)

/-- Start a holdover segment and its carry (R257, R262, R263). -/
def State.startSegment (s : State) (first : Bool) (errb : Nat) : State :=
  let set := s.get F.OSC_STAT.HSET
  let m := if s.sv 0 |>.rates |>.isEmpty then (s.hrt.cur.rate : Rat) else s.havg.1
  let rs := if first && set == 1 then m else (s.hrt.cur.rate : Rat)
  let sy0 :=
    if first then s.firstSy0 set
    else match s.bound.seg, s.bound.carry with
      | some g, some k =>
        let tf := if g.hset = 0 then s.osc.frozenAt else g.start
        k.sy0 + (s.sigTL g.hset : Rat) / 1000000000000000000 + s.ageU g.hset * secs ((s.raw : Int) - tf) / 86400
      | _, _ => 0
  let t := s.openCarry errb none sy0 set
  { t with bound := { t.bound with seg := some { hset := set, start := s.raw, rs := rs / 1000000000000000, y0 := s.appliedY 1 } } }

/-- Enter HOLDOVER (R254, R257): the build-out is abandoned, a segment and a carry start. -/
def State.enterHoldover (s : State) (errb : Nat) : State :=
  let t := { s with sel := { s.sel with phi := 0, phiFor := none } }.setSrvState 3
  (t.startSegment true errb).selFlag F.REF_SELSTAT.HOLDIN

/-- A change of HSET (R207): during holdover a new segment starts (R214, R263). -/
def State.setHset (s : State) (n : Nat) : State :=
  if s.get F.OSC_STAT.HSET = n then s
  else
    let e := s.errbAt s.raw
    let t := s.set F.OSC_STAT.HSET n
    if s.srvState = 3 ∧ s.inStep = false then (
      -- the terms of the set in use until now anchor the new segment
      let u := s.startSegment false e
      let v := { t with bound := u.bound }.setBit F.REF_SELSTAT.CARRIED true
      let k := v.bound.carry.map (fun k => { k with hset := n })
      let g := v.bound.seg.map (fun g => { g with hset := n })
      { v with bound := { v.bound with carry := k, seg := g } })
    else t

/-- Bring HSET and PROOFING up to date after a change of the atomic standard's or the oven's condition. -/
def State.refreshHset (s : State) : State :=
  let t := s.setBit F.OSC_STAT.PROOFING (s.bit F.OSC_STAT.OVEN_PROOF || s.bit F.OSC_STAT.CELL_PROOF)
  t.setHset t.hset

/-! Qualification (R244, R245). -/

/-- Clear a channel's evaluation history. -/
def RefSt.noHistory (r : RefSt) : RefSt :=
  { r with results := [], xs := [], ys := [], yD := none, yT := none, quiet := 0, driftQuiet := 0, msSum := 0, msCount := 0,
           gate := none }

/-- Clear the evaluation results a channel's registers and gates show, on entry into QUALIFYING. -/
def State.freshChannel (s : State) (c : Nat) : State :=
  let t := s.updRef c RefSt.noHistory
  match s.tdcOf c with
  | none => t
  | some n => (t.updTdc n (fun d => { d with gate := none, closing := none, line := none })).set (F.TDC_STAT.GATE n) 0

/-- Enter QUALIFYING (R244). -/
def State.enterQualifying (s : State) (c : Nat) : State :=
  ((s.freshChannel c).set (F.REF_QSTAT.QSTATE c) 2).updRef c (fun r => { r with qSince := s.raw, qLen := s.get (F.REF_QCFG.QTIME c), evalAt := s.raw })

/-- Whether a CALFAULT keeps a channel from qualifying: 16 consecutive pairs have not yet passed (R173, R245). -/
def State.calBad (s : State) (c : Nat) : Bool :=
  match s.tdcOf c with
  | none => false
  | some n => s.bit (F.TDC_STAT.CALFAULT n) && decide ((s.td n).passes < 16)

/-- Enter QUALIFYING from DQ where the hold-off has ended and R244's conditions hold. -/
def State.tryQualify (s : State) (c : Nat) : State :=
  let r := s.rf c
  if s.qstate c = 1 ∧ r.presAt = none ∧ r.holdUntil ≤ s.raw ∧ s.bit (F.REF_STAT.PRESENT c) ∧ s.bit (F.REF_STAT.ACTIVITY c) ∧
      s.get (F.REF_STAT.QCLASS c) ≠ 15 ∧ s.calBad c = false then s.enterQualifying c
  else s

/-- The state of a channel that is not in use: OFF while EN is 0, FORCE_DQ is 1 or it is quiesced (R244). -/
def State.offNow (s : State) (c : Nat) : Bool :=
  !s.bit (F.REF_CFG.EN c) || s.bit (F.REF_CFG.FORCE_DQ c) || s.isHeld (0x100 + c)

/-- The records of a channel's open gates on EXT are abandoned (time base 3), and its next record is marked; qualification still
receives what those gates measure (R183, R188, R192). -/
def TdcSt.loseExt (d : TdcSt) : TdcSt :=
  let lose := fun (g : Gate) => if g.tb = 1 then { g with tb := 3 } else g
  { d with gate := d.gate.map lose, closing := d.closing.map lose, tbLoss := true }

/-- Ticks between a stamp and its release (R163): 20,000 for KIND 0x01 to 0x05, else none. -/
def holdTicks (k : Nat) : Nat := if 1 ≤ k ∧ k ≤ 5 then 20000 else 0

/-- The tick at which a gate ends. -/
def Gate.endTick (g : Gate) : Nat := g.openTick + g.ms * 625000

/-- R164: abandon every gate whose last stamp has not been released; one whose last stamp was released completes. -/
def TdcSt.abandon (d : TdcSt) (raw k : Nat) : TdcSt :=
  { d with gate := none, closing := d.closing.filter (fun g => decide (g.endTick + holdTicks k ≤ raw)), line := none }

/-- R188: the loss of the EXT time base. -/
def State.timeBaseLoss (s : State) : State :=
  let t := { s with tdc := s.tdc.map TdcSt.loseExt }
  (t.set F.TDC_TB.ACT 0).flag F.TDC_TB.TBLOSS 17 0x1F

/-- The hold-off of a cause, in ticks (R245). -/
def State.holdoff (s : State) (c why : Nat) : Nat :=
  if why = 5 ∨ why = 6 then
    let k := ((s.rf c).dqHist.filter (fun t => decide (s.raw ≤ t + 3600 * 625000000))).length
    min 3600 (s.get (F.REF_QCFG.HOLDOFF c) * 2 ^ k) * 625000000
  else 0

/-! Selection (R252 to R257). -/

/-- The latest phase offset of a channel's evaluation in ps. -/
def State.xc (s : State) (c : Nat) : Rat := ((s.rf c).xs.head?.map (·.1)).getD 0

/-- Whether a channel is JUDGED for an instance (R256). -/
def State.isJudged (s : State) (inst c : Nat) : Bool := s.sel.judged.any (fun j => j.inst == inst && j.chan == c)

/-- R252: whether a channel is a candidate of an instance. -/
def State.candidate (s : State) (inst c : Nat) : Bool :=
  let k := s.kind c
  decide (s.qstate c = 3) && (s.srvInputs inst).testBit c && k != 0 && k != 7 && k != 8 && decide (s.uref c < unbounded) &&
  !s.isJudged inst c && (!timeLabelled k || s.bit (F.REF_STAT.LABELLED c)) &&
  (k != 2 ||
    let f := s.get (F.REF_NOMFREQ.FREQ c)
    let quarter : Rat := 1000000000000 * 65536 / (4 * f)
    decide (s.errb < unbounded) && decide ((s.errb : Rat) < quarter) && decide (absR (s.xc c) < quarter))

/-- The rank key of R253, lower is better. -/
def State.rankKey (s : State) (c : Nat) : Nat :=
  s.get (F.REF_STAT.QCLASS c) * 512 + s.get (F.REF_QSTAT.SOFT c) * 256 + s.get (F.REF_PRIO.PRIO c)

/-- The best candidate: lowest key, ties to the lower channel number. -/
def State.best (s : State) (inst : Nat) : Option Nat :=
  ((List.range 16).filter (s.candidate inst)).foldl (fun b c => match b with
    | none => some c
    | some d => if s.rankKey c < s.rankKey d then some c else b) none

/-- R253 without FORCE and HOLD: keep the current choice within its rank, else take the best. -/
def State.choose (s : State) (inst : Nat) (cur : Option Nat) : Option Nat :=
  match s.best inst with
  | none => none
  | some b => match cur with
    | some c => if s.candidate inst c && decide (s.rankKey c ≤ s.rankKey b) then some c else some b
    | none => some b

/-- The frequency part of R255. -/
def State.freqDisagree (s : State) (a b : Nat) : Bool :=
  match (s.rf a).yD, (s.rf b).yD with
  | some x, some y => decide ((s.get F.REF_TOL.TOL : Rat) / 1000000000000000 < absR (x - y))
  | _, _ => false

/-- The phase part of R255: both carry phase and were evaluated together. -/
def State.phaseDisagree (s : State) (a b : Nat) : Bool :=
  match (s.rf a).xs.head?, (s.rf b).xs.head? with
  | some x, some y =>
    !freqOnly (s.kind a) && !freqOnly (s.kind b) && x.2.2 == y.2.2 &&
      decide (((s.uref a + s.uref b + max (s.get (F.REF_PMARG.MARG a)) (s.get (F.REF_PMARG.MARG b)) : Nat) : Rat) < absR (x.1 - y.1))
  | _, _ => false

/-- Whether two channels disagree (R255), leaving their rank aside. -/
def State.disagree (s : State) (a b : Nat) : Bool := s.freqDisagree a b || s.phaseDisagree a b

/-- The pairs of candidates of an instance that R255 compares: not SOFT, both at the best key. -/
def State.rivals (s : State) (inst : Nat) : List (Nat × Nat) :=
  match s.best inst with
  | none => []
  | some b =>
    let g := (List.range 16).filter (fun c => s.candidate inst c && s.rankKey c == s.rankKey b && s.get (F.REF_QSTAT.SOFT c) == 0)
    (g.flatMap (fun a => (g.filter (fun c => decide (a < c))).map (fun c => (a, c)))).filter (fun p => s.disagree p.1 p.2)

/-- The soft frequency limit of a channel with a referee (R249). -/
def State.softLimit (s : State) (c : Nat) : Rat :=
  max ((s.get (F.REF_FSOFT.LIM c) : Rat) / 1000000000000000)
    (3 * ((s.get F.OSC_YAT_U.U : Rat) / 1000000000000000000 + (s.sigTL 0 : Rat) / 1000000000000000000 + (s.rf c).sigY))

/-- R256, first row: the channel of a pair that is JUDGED, where the referee settles it. -/
def State.judgeOf (s : State) (p : Nat × Nat) : Option (Nat × Nat) :=
  if s.refereeOk && s.freqDisagree p.1 p.2 then
    match (s.rf p.1).yT, (s.rf p.2).yT with
    | some x, some y =>
      let good := if absR x ≤ absR y then p.1 else p.2
      let bad := if good = p.1 then p.2 else p.1
      if absR (if good = p.1 then x else y) ≤ s.softLimit good then some (bad, good) else none
    | _, _ => none
  else none

/-- Drop the JUDGED entries that R256 ends, and restart the agreement time of those that disagree. -/
def State.reviewJudged (s : State) (inst : Nat) : State :=
  let keep := s.sel.judged.filterMap (fun j =>
    if j.inst ≠ inst then some j
    else if s.qstate j.chan ≠ 3 ∨ !s.refereeOk then none
    else if s.disagree j.chan j.other then some { j with since := s.raw }
    else if s.raw - j.since < 60 * 625000000 then some j else none)
  { s with sel := { s.sel with judged := keep } }

/-- R256: settle the disagreements of an instance's candidates. -/
def State.settle (s : State) (inst : Nat) : State :=
  (s.rivals inst).foldl (fun t p =>
    if t.candidate inst p.1 && t.candidate inst p.2 then
      match t.judgeOf p with
      | some (bad, good) =>
        let u := { t with sel := { t.sel with judged := { inst := inst, chan := bad, other := good, since := t.raw } :: t.sel.judged } }
        if inst = 0 then u.selFlag F.REF_SELSTAT.JUDGE bad else u
      | none => t
    else t) (s.reviewJudged inst)

/-- DISAGREE and DISCH of R256 for SRV0. -/
def State.reviewDisagree (s : State) : State :=
  let r := s.rivals 0
  if r.isEmpty then
    if s.bit F.REF_SELSTAT.DISAGREE && decide (60 * 625000000 ≤ s.raw - s.sel.agreeSince) then s.set F.REF_SELSTAT.DISAGREE 0 else s
  else
    let other := match s.sel.sel with
      | none => none
      | some c => (r.find? (fun p => p.1 == c || p.2 == c)).map (fun p => if p.1 = c then p.2 else p.1)
    let t := match other with
      | none => s
      | some d => s.set F.REF_SELSTAT.DISCH d
    let since := if t.bit F.REF_SELSTAT.DISAGREE then t.sel.disagSince else t.raw
    let u := { t with sel := { t.sel with agreeSince := t.raw, disagSince := since } }
    if s.bit F.REF_SELSTAT.DISAGREE then u else (u.set F.REF_SELSTAT.DISAGREE 1).selFlag F.REF_SELSTAT.DISAG

/-- Show CAND and JUDGED of every channel. -/
def State.showCandidates (s : State) : State :=
  (List.range 16).foldl (fun t c => (t.setBit (F.REF_QSTAT.CAND c) (t.candidate 0 c)).setBit (F.REF_QSTAT.JUDGED c) (t.isJudged 0 c)) s

/-- What SRV0's selection chooses (R253), and whether FORCE fails. -/
def State.chooseMain (s : State) : Option Nat × Bool :=
  if s.bit F.REF_SELCTL.HOLD then (none, false)
  else if s.bit F.REF_SELCTL.FORCE then
    let c := s.get F.REF_SELCTL.FCH
    if s.candidate 0 c then (some c, false) else (none, true)
  else (s.choose 0 s.sel.sel, false)

/-- Show the selection in REF_SELSTAT. -/
def State.showSel (s : State) (n : Option Nat) : State :=
  match n with
  | none => (s.set F.REF_SELSTAT.NONE 1).set F.REF_SELSTAT.SEL 0
  | some c => (s.set F.REF_SELSTAT.NONE 0).set F.REF_SELSTAT.SEL c

/-- A carry for a selection of channel `c` (R262): a frequency-only channel's grows with its own terms; one at a switch
to another channel grows as in holdover with the set in use. -/
def State.carryFor (s : State) (c errb : Nat) : State :=
  if freqOnly (s.kind c) then
    s.openCarry errb (some ((s.uref c : Rat) / 1000000000000 + 3 * (s.rf c).sigY)) 0 (s.get F.OSC_STAT.HSET)
  else s.openCarry errb none (s.firstSy0 (s.get F.OSC_STAT.HSET)) (s.get F.OSC_STAT.HSET)

/-- A change of SRV0's selection (R231, R254, R257, R260, R262). -/
def State.changeSel (s : State) (old new : Option Nat) : State :=
  let e := s.errbAt s.raw
  let st := s.srvState
  let t := { s with sel := { s.sel with sel := new } }.showSel new
  if s.inStep then t
  else match new with
  | none =>
    if (st = 2 ∨ st = 1) ∧ s.hrt.everLocked then t.enterHoldover e
    else
      let u := if old = none then t else t.selFlag F.REF_SELSTAT.SWITCH (old.getD 0)
      if st = 1 then { u with sel := { u.sel with phi := 0, phiFor := none } }.setSrvState 0 else u
  | some c =>
    let u := t.carryFor c e
    if st = 3 then
      let v := (u.setSrvState 1).updSrv 0 (fun r => { r with i := u.hrt.cur.rate, run := 0, near := 0, bad := 0 })
      { v with hrt := { v.hrt with stepArmed := false, stepDone := false }, bound := { v.bound with seg := none } }.selFlag
        F.REF_SELSTAT.HOLDOUT
    else if st = 0 then
      let v := (u.setSrvState 1).updSrv 0 (fun r => { r with run := 0, near := 0, bad := 0 })
      { v with hrt := { v.hrt with stepArmed := true, stepDone := false } }.selFlag
        F.REF_SELSTAT.SWITCH c
    else u.selFlag F.REF_SELSTAT.SWITCH c

/-- R253 and R256: re-evaluate selection for SRV0 and, by its own selection, for SRV3 (R234). -/
def State.evalSelection (s : State) : State :=
  let a := (s.setBit F.REF_SELSTAT.REFOK s.refereeOk)
  let b := a.settle 0
  let r := b.chooseMain
  let c := b.setBit F.REF_SELSTAT.FORCEFAIL r.2
  let st := c.srvState
  let due := !c.inStep && match r.1 with
    | none => st == 1 || st == 2
    | some _ => st == 0 || st == 3
  let d := if r.1 = c.sel.sel && !due then c else c.changeSel c.sel.sel r.1
  let e := (d.reviewDisagree.showCandidates).setBit F.REF_SELSTAT.NOREF (!s.refereeOk && d.sel.sel.isSome)
  let f := if e.srvEn 3 then
      let g := e.settle 3
      { g with sel := { g.sel with sel3 := g.choose 3 g.sel.sel3 } }
    else e
  f.reviewAcal.journalChanges

/-- R164 and R245: disqualify a channel for a cause. On one already DQ or OFF nothing changes (R166), save that a cause of
4 takes it to OFF. Selection is re-evaluated at once. -/
def State.disqualify (s : State) (c why : Nat) : State :=
  let level := if why = 4 then 0 else 1
  if s.qstate c < 2 then (if why = 4 then s.set (F.REF_QSTAT.QSTATE c) 0 else s)
  else
    let hold := s.holdoff c why
    let a := (s.sets [(F.REF_QSTAT.QSTATE c, level), (F.REF_QSTAT.DQWHY c, why)]).updRef c (fun r => { r with
      holdUntil := s.raw + hold, dqHist := if why = 5 ∨ why = 6 then s.raw :: r.dqHist else r.dqHist, results := [] })
    let b := match s.tdcOf c with
      | none => a
      | some n => (a.updTdc n (fun d => d.abandon s.raw (s.kind c))).set (F.TDC_STAT.GATE n) 0
    let d := if s.get F.TDC_TB.ACT = 1 ∧ s.get F.TDC_TB.CH = c then b.timeBaseLoss else b
    (d.reviewLead false).evalSelection

/-- R295: the outputs aligned to a channel that loses presence set ALLOSS. -/
def State.alignLoss (s : State) (c : Nat) : State :=
  (List.range 12).foldl (fun t n =>
    if t.get (F.OUT_ALCFG.MODE n) ≠ 0 ∧ t.get (F.OUT_ALCFG.CH n) = c then
      t.flag (F.OUT_STAT.ALLOSS n) (22 + t.get (F.OUT_CFG.SYN n)) n else t) s

/-- R163: loss of presence: disqualified, held stamps discarded, PRESENT cleared, UNPLUG set. -/
def State.losePresence (s : State) (c : Nat) : State :=
  if !s.bit (F.REF_STAT.PRESENT c) then s.updRef c (fun r => { r with presAt := none })
  else
    let a := s.disqualify c 1
    let b := a.updRef c (fun r => { r with held := [], presAt := none, lastEdge := none, msSum := 0, msCount := 0, good := 0 })
    let d := match s.tdcOf c with
      | none => b
      | some n => b.updTdc n (fun d => { d with
          stamps := d.stamps.filter (fun p => decide (p.2 + 20000 < s.raw)), stops := d.stops.filter (fun p => decide (p.taken + 20000 < s.raw)) })
    let e := if s.get F.TDC_TB.ACT = 1 ∧ s.get F.TDC_TB.CH = c ∧ s.qstate c < 2 then d.timeBaseLoss else d
    ((e.sets [(F.REF_STAT.PRESENT c, 0), (F.REF_STAT.LABELLED c, 0)]).refFlag (F.REF_STAT.UNPLUG c) c).alignLoss c

/-- Presence returns (R165): the 100 ms hold starts. -/
def State.gainPresence (s : State) (c : Nat) : State :=
  if s.bit (F.REF_STAT.PRESENT c) then s
  else (s.set (F.REF_STAT.PRESENT c) 1).updRef c (fun r => { r with presAt := some s.raw })

/-- Loss of ACTIVITY (R144): disqualified without the discard of held stamps. -/
def State.loseActivity (s : State) (c : Nat) : State :=
  if !s.bit (F.REF_STAT.ACTIVITY c) then s
  else
    let t := (s.set (F.REF_STAT.ACTIVITY c) 0).disqualify c 2
    if s.get F.TDC_TB.ACT = 1 ∧ s.get F.TDC_TB.CH = c ∧ s.qstate c < 2 then t.timeBaseLoss else t

/-- ACTIVITY sets, and the channel may enter QUALIFYING. -/
def State.gainActivity (s : State) (c : Nat) : State := (s.set (F.REF_STAT.ACTIVITY c) 1).tryQualify c

/-- A channel that is no longer to be OFF goes to DQ with no hold-off and may enter QUALIFYING (R245, cause 4). -/
def State.leaveOff (s : State) (c : Nat) : State :=
  if s.qstate c = 0 ∧ s.offNow c = false then ((s.set (F.REF_QSTAT.QSTATE c) 1).updRef c (fun r => { r with holdUntil := s.raw })).tryQualify c
  else s

/-- Follow EN, FORCE_DQ and quiescing: into OFF or out of it (R244). -/
def State.reviewOff (s : State) (c : Nat) : State := if s.offNow c then s.disqualify c 4 else s.leaveOff c

/-- A result delivered to qualification and the servos. -/
def State.deliver (s : State) (c : Nat) (v : Rat) (stamp : Nat) (isFreq : Bool) (count sigma : Nat := 0) : State :=
  (s.updRef c (fun r => { r with results := ({ value := v, stamp := stamp, tick := s.raw, freq := isFreq } :: r.results).take 256 })).journalResult
    c isFreq v stamp (s.pairAt stamp).gen (max 1 (min 65535 count)) sigma

end Sys2Proof.Machine
end

