-- ==== Sys2Proof/Machine/PairOps.lean ====
section
/-! DEFINITION. The discipline pair: proposals, commits and MAN (R219 to R226, R231, R232). -/

namespace Sys2Proof.Machine

/-- The RESULT of a proposal (R222): 5 BUSY, 6 OWNER, 7 INVALID, 3 NEAR, 4 FAR, 1 PENDING. `offset` is none where the DTIME is
invalid (R26). -/
def State.checkPair (s : State) (host : Bool) (rate : Int) (offset : Option Nat) (anchor commit : Nat) : Nat :=
  if s.hrt.pend.isSome then 5
  else if host && (!s.bit (F.HRT_SRV_CTRL.MAN 0)) then 6
  else if rate < -200000000000 ∨ 200000000000 < rate ∨ offset = none ∨ commit < anchor then 7
  else if (commit - 128) / 625 < s.raw / 625 + 2 then 3
  else if s.raw + 625000000 < commit then 4
  else 1

/-- DTIME as a count of 2⁻¹⁶ ns at a tick under a pair; zero before the epoch (R216). -/
def Pair.at (p : Pair) (tick : Nat) : Nat := (p.dtime (tick * 512)).getD 0

/-- R222 and R223: the Hearth checks a proposal and, where it passes, holds it as the pending pair with GEN one above the
pair in force. -/
def State.propose (s : State) (host : Bool) (rate : Int) (offset : Option Nat) (anchor commit : Nat) : State :=
  let r := s.checkPair host rate offset anchor commit
  let a := ((s.set F.HRT_DP_STAT.RESULT r).setBit F.HRT_DP_STAT.HOST host).bump F.HRT_DP_STAT.SEQ
  if r = 1 then
    let g := (s.hrt.cur.gen + 1) % 256
    let p : Pair := { gen := g, rate := rate, offset := offset.getD 0, anchor := anchor, commit := commit }
    let q := { p with step := (p.at commit : Int) - (s.hrt.cur.at commit : Int) }
    let b := a.set F.HRT_DP_STAT.GEN g
    { b with hrt := { b.hrt with pend := some (q, host) } }
  else a.hrtFlag F.HRT_STAT.DPREF

/-- HRT_EPOCH_SEC takes the second in force, and EV26 is raised (R241, R560). -/
def State.markSecond (s : State) : State := (s.set F.HRT_EPOCH_SEC.SEC s.dsec).occur 26 0xFF 0 s.dsec

/-- MAN's clearing takes effect (R232): ACQUIRE with I := r; a carry starts from an unbounded bound (R270). -/
def State.leaveManual (s : State) : State :=
  let r : Rat := s.hrt.cur.rate
  let a := { s with hrt := { s.hrt with manClear := false, stepArmed := false, stepDone := false } }
  let b := (a.setSrvState 1).updSrv 0 (fun v => { v with i := r, r := r, run := 0, near := 0, bad := 0 })
  (b.openCarry unbounded none 0 (b.get F.OSC_STAT.HSET)).evalSelection

/-- SRV0 enters MANUAL (R232). -/
def State.enterManual (s : State) : State := { s with hrt := { s.hrt with manSet := false } }.setSrvState 4

/-- SRV0 enters STOPPED, its rate held and its bound carried as for HSET 1 (R231, R264). -/
def State.enterStopped (s : State) : State :=
  let e := s.errbAt s.raw
  ({ s with hrt := { s.hrt with stopWait := false } }.setSrvState 5).openCarry e none (s.firstSy0 1) 1

/-- SRV0 restarts after STOPPED (R242): ACQUIRE, or HOLDOVER if it had locked, and selection decides from there. -/
def State.leaveStopped (s : State) : State :=
  let e := s.errbAt s.raw
  (if s.hrt.everLocked then s.enterHoldover e else s.setSrvState 1).evalSelection

/-- The pending pair takes force in the Hearth (R50, R222, R223). -/
def State.commitHearth (s : State) : State :=
  match s.hrt.pend with
  | none => s
  | some (p, host) =>
    let h := { s.hrt with cur := p, pend := none, history := (p :: s.hrt.history).take 16 }
    let a := { s with hrt := h }
    let b := if a.get F.HRT_DP_STAT.RESULT = 1 then a.set F.HRT_DP_STAT.RESULT 2 else a
    let c := if host then b else b.updSrv 0 (fun v => { v with rates := ((p.commit, (p.rate : Rat)) :: v.rates).take 100000 })
    let d := if p.step = 0 then c
      else
        let x := ((c.set F.HRT_LASTSTEP_0.GEN p.gen).set F.HRT_LASTSTEP_0.ANY 1).setI F.HRT_LASTSTEP_S.S p.step
        let y := x.hrtFlag F.HRT_STAT.STEP
        let z := if host then y else y.set (F.HRT_SRV_STAT.STEPPED 0) 1
        let w := z.markSecond
        if 0 < p.step then [0, 1, 2, 3, 4].foldl State.timerFire w else w
    let e := if d.hrt.manSet then d.enterManual else d
    let f := if e.hrt.manClear then e.leaveManual else e
    if f.hrt.stopWait then f.enterStopped else f

/-- The current pair of an island where it may convert (R51): the generation the tokens show to be in force. -/
def Route.usable (r : Route) : Option Pair := if r.missing then none else r.cur

/-- The conversion of a reading at an island's replica: none without a pair or before the epoch. -/
def Route.dtime (r : Route) (crumbs : Nat) : Option Nat := r.usable.bind (fun p => p.dtime crumbs)

end Sys2Proof.Machine
end

