-- ==== Sys2Proof/Machine/ServoOps.lean ====
section
/-! DEFINITION. Servo arithmetic and the direct terms of the bound (R227 to R231, R257 to R261). -/

namespace Sys2Proof.Machine

/-- One crumb in picoseconds. -/
def crumbPs : Rat := 25 / 8

/-- Intermediate values are kept to 2⁻¹⁶ ps (R227); halves to even, where the spec gives no rounding. -/
def q16 (x : Rat) : Rat := (roundEven (x * 65536) : Rat) / 65536

/-- The phase in ps that changes of rate and steps have added since a stamp (crumbs), from a history of (commit tick, rate in
ppq, step in 2⁻¹⁶ ns), newest first. -/
def addedPhase (stamp : Nat) : List (Nat × Int × Int) → Rat
  | (c, r, st) :: (c', r', st') :: t =>
    if stamp < c * 512 then
      ((r' - r : Int) : Rat) * (((c * 512 - stamp : Nat) : Rat) * crumbPs) / 1000000000000000 + (st : Rat) * 1000 / 65536 + addedPhase stamp ((c', r', st') :: t)
    else 0
  | _ => 0

/-- The pair history as `addedPhase` reads it. -/
def pairLog (l : List Pair) : List (Nat × Int × Int) := l.map (fun p => (p.commit, p.rate, p.step))

/-- R227: a phase value stamped at a raw instant, referred to the pair now in force: less the phase that changes of rate and
steps have added since. -/
def State.refer (s : State) (x : Rat) (stamp : Nat) : Rat := x - addedPhase stamp (pairLog s.hrt.history)

/-- ŷ from (value, stamp in crumbs) of phase results, newest first, and a history (R227): the slope of the last 16 referred
results; 0 below four. -/
def slopeOf (rs : List (Rat × Nat)) (hist : List (Nat × Int × Int)) : Rat :=
  let l := rs.take 16
  let base := (l.getLast?.map (·.2)).getD 0
  if l.length < 4 then 0
  else (fitLine (l.map (fun r => (((r.2 - base : Nat) : Rat) * crumbPs, q16 (r.1 - addedPhase r.2 hist))))).1

/-- ŷ of an instance on a channel (R227); it restarts where the instance turned to the channel (R242). -/
def State.slope (s : State) (n c : Nat) : Rat :=
  let v := s.sv n
  let since := if v.chan = some c then v.chanAt else v.lastTick
  slopeOf (((s.rf c).results.filter (fun r => !r.freq && decide (since < r.tick))).map (fun r => (r.value, r.stamp))) (pairLog s.hrt.history)

/-- An instance follows a channel from its results since its latest update on (R242). -/
def SrvSt.onChannel (v : SrvSt) (c : Nat) : SrvSt := if v.chan = some c then v else { v with chan := some c, chanAt := v.lastTick }

/-- The results of a channel delivered since a tick. -/
def State.newResults (s : State) (c since : Nat) : List Result1 := (s.rf c).results.filter (fun r => decide (since < r.tick))

/-- e of R227: the mean of the run-ahead results. -/
def runAhead (rs : List Result1) (y : Rat) (commit : Nat) : Rat :=
  q16 (meanR (rs.map (fun r => r.value + y * (((commit * 512 : Nat) : Rat) - r.stamp) * crumbPs)))

/-- R229 in ppq: the new rate, the integrator and whether the update was clamped. -/
def endUpdate (iPrev rPrev fstep i u : Rat) : Rat × Rat × Bool :=
  let d := u - rPrev
  let c1 := decide (fstep < absR d)
  let d' := if fstep < absR d then (if d < 0 then -fstep else fstep) else d
  let r := rPrev + d'
  let lim : Rat := 200000000000
  let c2 := decide (lim < absR r)
  let r' := if lim < absR r then (if r < 0 then -lim else lim) else r
  (roundAway r', if c1 || c2 then iPrev else i, c1 || c2)

/-- KP as a number (R102). -/
def State.kp (s : State) (n : Nat) : Rat := (s.getI (F.HRT_SRV_KP.KP n) : Rat) / 4294967296

/-- KI as a number (R102). -/
def State.ki (s : State) (n : Nat) : Rat := (s.getI (F.HRT_SRV_KI.KI n) : Rat) / 281474976710656

/-- FSTEP in ppq. -/
def State.fstep (s : State) (n : Nat) : Rat := s.get (F.HRT_SRV_FSTEP.FSTEP n)

/-- T = P × 1,600 ps. -/
def State.periodPs (s : State) (n : Nat) : Rat := (s.srvP n : Rat) * 1600

/-- The phase law (R228): the new integrator and u, in ppq. -/
def State.phaseLaw (s : State) (n : Nat) (i e : Rat) : Rat × Rat :=
  let q := e / s.periodPs n * 1000000000000000
  let i' := q16 (i + s.ki n * q)
  (i', s.kp n * q + i')

/-- Whether instance n uses the phase law on an input that carries phase (R228). -/
def State.usesPhase (s : State) (n : Nat) : Bool := s.srvMode n == 0 || (s.srvMode n == 2 && (s.sv n).phaseState)

/-- Show an update's outcome in the instance's registers. -/
def State.showUpdate (s : State) (n c : Nat) (e : Option Rat) (r : Rat) (clamped : Bool) : State :=
  let a := ((s.set (F.HRT_SRV_STAT.SEL n) c).set (F.HRT_SRV_STAT.NOREF n) 0).setI (F.HRT_SRV_OUT.RATE n) r.floor
  let b := match e with
    | none => a
    | some x => a.setI (F.HRT_SRV_ERR.E n) (max (-2147483647) (min 2147483647 (roundAway x)))
  let d := b.setBit (F.HRT_SRV_STAT.SLOWED n) (decide (b.srvPeriod n < b.srvP n))
  if clamped then
    let f := d.set (F.HRT_SRV_STAT.CLAMPED n) 1
    if n = 0 then f.hrtFlag F.HRT_STAT.CLAMP else f
  else d

/-- The counts of updates in a row by |e| (R230, R231). -/
def SrvSt.count (v : SrvSt) (e lock : Rat) : SrvSt :=
  { v with run := if absR e < lock then v.run + 1 else 0
           near := if absR e < 4 * lock then v.near + 1 else 0
           bad := if absR e < 4 * lock then 0 else v.bad + 1 }

/-- LOCKLIM in ps. -/
def State.lockLim (s : State) : Rat := (s.get F.HRT_SRV_LIM.LOCKLIM * 1000 : Nat)

/-- MODE 2's moves between its states, once an update has ended (R230). -/
def SrvSt.hybrid (v : SrvSt) (mode : Nat) : SrvSt :=
  if mode ≠ 2 then v
  else if !v.phaseState && decide (4 ≤ v.near) then { v with phaseState := true, i := v.r }
  else if v.phaseState && decide (4 ≤ v.bad) then { v with phaseState := false }
  else v

/-- SRV0's moves between ACQUIRE and LOCKED (R231). -/
def State.reviewLock (s : State) : State :=
  if s.srvState = 1 ∧ 16 ≤ (s.sv 0).run then
    { s with hrt := { s.hrt with everLocked := true, stepArmed := false } }.setSrvState 2
  else if s.srvState = 2 ∧ 4 ≤ (s.sv 0).bad then
    ({ s with hrt := { s.hrt with stepArmed := false, stepDone := false } }.updSrv 0 (fun v => { v with run := 0 })).setSrvState 1
  else s

/-- Whether this ACQUIRE allows a step (R231). -/
def State.stepAllowed (s : State) : Bool :=
  s.srvState == 1 && !s.hrt.stepDone &&
    (s.hrt.stepArmed || (s.bit (F.HRT_SRV_CTRL.STEP_EN 0) && !(s.role == 1 && (s.pairState == 5 || s.pairState == 6))))

/-- The rate that SRV0's update commits (R226, R233): in the standby SRV1's output is added. -/
def State.committedRate (s : State) (r0 : Rat) : Int :=
  let r := if s.inStep then r0 + (s.sv 1).r else r0
  max (-200000000000) (min 200000000000 (roundAway r))

/-- R226: SRV0 proposes its pair with a step in 2⁻¹⁶ ns. -/
def State.proposeSrv (s : State) (r0 : Rat) (step : Int) : State :=
  let c := s.raw + s.get F.HRT_SRV_LEAD.LEAD
  s.propose false (s.committedRate r0) (some ((s.hrt.cur.at c : Int) + step).toNat) c c

/-- The build-out φ at an update that follows channel `c` with error e (R257). -/
def State.buildOut (s : State) (c : Nat) (e : Rat) : Rat :=
  if s.sel.phiFor = some c then s.sel.phi
  else if freqOnly (s.kind c) || s.stepAllowed then 0
  else e

/-- After an update φ moves towards 0 by REF_SWSLEW × P × 1.6 ns (R257). -/
def State.movePhi (s : State) : State :=
  let d := (s.get F.REF_SWSLEW.SLEW : Rat) * s.srvP 0 * 16 / 10000000000
  let p := s.sel.phi
  { s with sel := { s.sel with phi := if absR p ≤ d then 0 else if p < 0 then p + d else p - d } }

/-- The law of an SRV0 update on a phase channel: its error e, e less the build-out, ŷ (R228 to R230); and its proposal. -/
def State.lawUpdate (s : State) (c : Nat) (e ec y : Rat) : State :=
  let v := s.sv 0
  let l := if s.usesPhase 0 then s.phaseLaw 0 v.i ec else (v.i, v.r + s.kp 0 * (y * 1000000000000000))
  let o := endUpdate v.i v.r (s.fstep 0) l.1 l.2
  let b := s.updSrv 0 (fun w => (({ w with r := o.1, i := o.2.1 }).count ec s.lockLim).hybrid (s.srvMode 0))
  (b.showUpdate 0 c (some e) o.1 o.2.2).proposeSrv o.1 0

/-- U_ref of the channel SRV0 follows, kept for a holdover (R263). -/
def State.keepUref (s : State) (c : Nat) : State :=
  if s.uref c < unbounded then { s with sel := { s.sel with lastU := s.uref c } } else s

/-- SRV0's update on a followed channel with new results (R227 to R231). -/
def State.followUpdate (s : State) (c : Nat) (rs : List Result1) : State :=
  let s := s.keepUref c
  let v := s.sv 0
  let cm := s.raw + s.get F.HRT_SRV_LEAD.LEAD
  if freqOnly (s.kind c) then
    let rt := meanR (rs.map (·.value)) * 1000000000000000
    let o := endUpdate v.i v.r (s.fstep 0) v.i (v.r + s.kp 0 * (rt - v.r))
    let ok := decide (absR (rt - v.r) < 10000)
    let a := { s with sel := { s.sel with phi := 0, phiFor := some c } }.updSrv 0 (fun w => { w.onChannel c with
      r := o.1, i := o.2.1, run := if ok then w.run + 1 else 0, bad := 0, lastResult := s.raw, yhat := 0 })
    ((a.showUpdate 0 c none o.1 o.2.2).proposeSrv o.1 0).reviewLock
  else
    let y := s.slope 0 c
    let e := runAhead rs y cm
    let phi := q16 (s.buildOut c e)
    let ec := e - phi
    let a := { s with sel := { s.sel with phi := phi, phiFor := some c } }
    let mark := fun (w : SrvSt) => { w.onChannel c with lastE := e, lastEc := ec, yhat := y, lastResult := s.raw }
    if a.stepAllowed && decide (((a.get F.HRT_SRV_LIM.STEPLIM * 1000 : Nat) : Rat) < absR ec) then
      let b := { a with hrt := { a.hrt with stepDone := true, stepArmed := false } }.updSrv 0 (fun w => ((mark w).count ec s.lockLim).hybrid (s.srvMode 0))
      ((b.showUpdate 0 c (some e) v.r false).proposeSrv v.r (roundAway (ec * 65536 / 1000))).reviewLock
    else ((a.lawUpdate c e ec y).updSrv 0 mark).reviewLock

/-- The holdover rate at this update in ppq, where there is one (R258, R259). -/
def State.holdRate (s : State) : Option Rat :=
  match s.bound.seg with
  | none => none
  | some g =>
    let ppq : Rat := 1000000000000000
    if g.hset = 0 then
      match s.channelOfKind 8 with
      | none => none
      | some a =>
        let rs := s.newResults a (s.sv 0).lastTick
        match rs.head? with
        | none => none
        | some x =>
          let z := s.zA + s.ageD 0 * secs ((s.raw : Int) - s.osc.frozenAt) / 86400
          some (((1 + x.value) / (1 + z) - 1) * ppq)
    else some (((1 + g.rs) * (1 + g.y0) / (1 + s.yO g.start s.raw) - 1) * ppq)

/-- SRV0's update in HOLDOVER: the rate of the holdover correction, I frozen (R230, R258, R259). -/
def State.holdUpdate (s : State) : State :=
  match s.holdRate with
  | none => s
  | some u =>
    let v := s.sv 0
    let o := endUpdate v.i v.r (s.fstep 0) v.i u
    let a := s.updSrv 0 (fun w => { w with r := o.1 })
    let b := a.setI (F.HRT_SRV_OUT.RATE 0) o.1.floor
    (if o.2.2 then (b.set (F.HRT_SRV_STAT.CLAMPED 0) 1).hrtFlag F.HRT_STAT.CLAMP else b).proposeSrv o.1 0

/-- SRV0's update in FREE: the frequency law on the atomic channel with KP 0.0625 while it is present with CELL_PROOF clear
(R230). -/
def State.freeUpdate (s : State) : State :=
  match s.channelOfKind 8 with
  | none => s
  | some a =>
    let rs := s.newResults a (s.sv 0).lastTick
    if s.bit (F.REF_STAT.PRESENT a) && !s.bit F.OSC_STAT.CELL_PROOF && !rs.isEmpty then
      let v := s.sv 0
      let y := meanR (rs.map (·.value))
      let rt := ((1 + y) / (1 + s.osc.yat) - 1) * 1000000000000000
      let o := endUpdate v.i v.r (s.fstep 0) v.i (v.r + 1 / 16 * (rt - v.r))
      ((s.updSrv 0 (fun w => { w with r := o.1 })).showUpdate 0 a none o.1 o.2.2).proposeSrv o.1 0
    else s

/-- An update of SRV1 or SRV3, whose rate is not proposed by itself (R233, R234). `shadow` tells SRV3. -/
def State.sideUpdate (s : State) (n c : Nat) (rs : List Result1) : State :=
  let v := s.sv n
  let cm := s.raw + s.get F.HRT_SRV_LEAD.LEAD
  let dt := s.periodPs n
  let sh := if n = 3 then v.shadow + (v.r - (s.sv 0).r) / 1000000000000000 * dt else 0
  if freqOnly (s.kind c) then
    let rt := meanR (rs.map (·.value)) * 1000000000000000
    let o := endUpdate v.i v.r (s.fstep n) v.i (v.r + s.kp n * (rt - v.r))
    ((s.updSrv n (fun w => { w.onChannel c with r := o.1, i := o.2.1, shadow := sh })).showUpdate n c none o.1 o.2.2).set (F.HRT_SRV_STAT.STATE n) 1
  else
    let y := s.slope n c
    let e := runAhead rs y cm - sh
    let phase := n == 1 || s.usesPhase n
    let l := if phase then s.phaseLaw n v.i e else (v.i, v.r + s.kp n * (s.hrt.cur.rate + y * 1000000000000000 - v.r))
    let o := endUpdate v.i v.r (s.fstep n) l.1 l.2
    ((s.updSrv n (fun w => (({ w.onChannel c with r := o.1, i := o.2.1, shadow := sh, lastE := e, yhat := y }).count e s.lockLim).hybrid
      (if n = 1 then 0 else s.srvMode n))).showUpdate n c (some e) o.1 o.2.2).set (F.HRT_SRV_STAT.STATE n) (if phase then 2 else 1)

/-- A coasting update of SRV3 still moves its shadow phase (R234). -/
def State.coastSide (s : State) (n : Nat) : State :=
  if n = 3 then s.updSrv 3 (fun v => { v with shadow := v.shadow + (v.r - (s.sv 0).r) / 1000000000000000 * s.periodPs 3 }) else s

/-! The direct terms (R261). -/

/-- U_REF: inflated while SOFT. -/
def State.uRefTerm (s : State) (c : Nat) : Nat :=
  if s.bit (F.REF_QSTAT.SOFT c) then
    let r := s.rf c
    errbSum [s.uref c, if r.phaseSoft then errbUp (absR (s.xc c))
      else errbUp (absR (r.yT.getD (r.yD.getD 0)) * secs ((s.raw : Int) - r.softAt) * 1000000000000)]
  else s.uref c

/-- U_DISAG. -/
def State.uDisag (s : State) (c : Nat) : Nat :=
  if s.bit F.REF_SELSTAT.DISAGREE then
    let d := s.get F.REF_SELSTAT.DISCH
    let x := if freqOnly (s.kind c) || freqOnly (s.kind d) then 0 else absR (s.xc c - s.xc d)
    let y := absR ((s.rf c).yD.getD 0 - (s.rf d).yD.getD 0) * secs ((s.raw : Int) - s.sel.disagSince) * 1000000000000
    errbUp (x + y)
  else 0

/-- The referred evaluations of a channel, oldest time 0, as (seconds, ps) points. -/
def State.xPoints (s : State) (c : Nat) : List (Rat × Rat) :=
  let xs := (s.rf c).xs.take 64
  let base := (xs.getLast?.map (fun p => p.2.1)).getD 0
  xs.map (fun p => (((p.2.1 : Int) - base : Int) * crumbPs / 1000000000000, s.refer p.1 p.2.1))

/-- U_MEAS: three times the rms of the per-second offsets about their fit, at least 12 ps. -/
def State.uMeas (s : State) (c : Nat) : Nat :=
  let pts := s.xPoints c
  let ms := if pts.isEmpty then 0 else residSq pts (fitLine pts) / pts.length
  max 12 (errbUp (3 * sqrtR ms))

/-- Recompute the direct terms, and review the carry (R261, R265, R267). -/
def State.recompute (s : State) : State :=
  let any := (List.range 14).any (fun n => decide (0 < n) && s.bit (F.HRT_TB_ROUTE.VALID n))
  let l := match s.sel.sel with
    | none => [unbounded, 0, 0, 0, 0, if any then 4 else 0, 0, s.uPair]
    | some c =>
      let v := s.sv 0
      [s.uRefTerm c, errbUp (absR s.sel.phi), s.uDisag c, s.uMeas c,
        errbUp (absR v.lastEc + absR v.yhat * s.periodPs 0), if any then 4 else 0,
        if s.kind c = 6 then s.get (F.PRT_UASYM.UASYM (s.get (F.REF_CFG.PORT c))) else 0, s.uPair]
  { s with bound := { s.bound with terms := l } }.reviewCarry

end Sys2Proof.Machine
end

