-- ==== Sys2Proof/Machine/Osc.lean ====
section
/-! DEFINITION. The commands of the oven and the atomic standard and of their models (spec/07_oscillators.md). -/

namespace Sys2Proof.Machine

/-- CELL_STATE (R196). -/
def State.cellState (s : State) : Nat := s.get F.OSC_STAT.CELL_STATE

/-- Enter a state of the atomic standard. -/
def State.enterCell (s : State) (n : Nat) : State :=
  let a := { s with osc := { s.osc with stateAt := s.raw } }.set F.OSC_STAT.CELL_STATE n
  if n = 0 then (({ a with osc := { a.osc with heatAt := some s.raw } }).set F.OSC_STAT.CELL_PROOF 1).refreshHset else a

/-- Whether a time in seconds has passed since the standard's state was entered. -/
def State.cellWaited (s : State) (sec : Nat) : Bool := decide (s.osc.stateAt + sec * 625000000 ≤ s.raw)

/-- CELL_HEATING_DONE (R196): both temperatures are in window. -/
def execCellHeatingDone (s : State) : Result := .next (s.when (s.cellState == 0) (·.enterCell 1))

/-- OPTICAL_SEARCH_DONE (R196). -/
def execOpticalSearchDone (s : State) : Result := .next (s.when (s.cellState == 1) (·.enterCell 2))

/-- MICROWAVE_LOCK (R196): both loops have held their limits for 10 s. CELL_LOCK is the atomic channel's presence (R156). -/
def execMicrowaveLock (s : State) : Result :=
  .next (s.when (s.cellState == 2 && s.cellWaited 10) (fun s =>
    let a := ((s.enterCell 3).set F.OSC_STAT.CELL_LOCK 1).bumpSat F.OSC_CELL.LOCKS
    let b := { a with osc := { a.osc with lockAt := s.raw, leftLock := none } }
    let c := match b.channelOfKind 8 with | some c => b.gainPresence c | none => b
    c.refreshHset))

/-- CELL_SEARCH_TIMEOUT (R196): heating lasts 10 minutes, the optical search 20 s or the microwave search 10 s. -/
def execCellSearchTimeout (s : State) : Result :=
  .next (s.when ((s.cellState == 0 && s.cellWaited 600) || (s.cellState == 1 && s.cellWaited 20) || (s.cellState == 2 && s.cellWaited 10))
    (·.enterCell 4))

/-- CELL_FAULT_RETRY (R196). -/
def execCellFaultRetry (s : State) : Result := .next (s.when (s.cellState == 4 && s.cellWaited 60) (·.enterCell 0))

/-- Locked ends (R197): the 10 MHz coasts, the atomic channel loses its presence, UNLOCK sets, SRV2's estimate is discarded. -/
def State.cellUnlocked (s : State) (inWindow : Bool) : State :=
  let a := s.freezeYat.set F.OSC_STAT.CELL_LOCK 0
  let b := match a.channelOfKind 8 with | some c => a.losePresence c | none => a
  let c := b.flag F.OSC_STAT.UNLOCK 18 0
  let d := { c with osc := { c.osc with gates := [], sinceDiscard := 0, discarded := true, leftLock := some s.raw } }
  ((d.set F.OSC_YAT_U.U 10000000).enterCell (if inWindow then 1 else 0)).refreshHset

/-- CELL_UNLOCK (R197): `inWindow` tells whether the cell and VCSEL temperatures stayed in window. -/
def execCellUnlock (inWindow : Bool) (s : State) : Result := .next (s.when (s.cellState == 3) (·.cellUnlocked inWindow))

/-- A PROOFING bit clears: the event is raised with the bit PROOFING (R215). -/
def State.proofCleared (s : State) (f : Fld) : State := ((s.set f 0).refreshHset).occur 18 2 0 0

/-- OVEN_PROOF_CLEAR (R198): the oven error has stayed within ±10 mK for 300 s. -/
def execOvenProofClear (s : State) : Result :=
  .next (match s.osc.ovenIn with
    | none => s
    | some t => s.when (s.bit F.OSC_STAT.OVEN_PROOF && decide (t + 300 * 625000000 ≤ s.raw)) (·.proofCleared F.OSC_STAT.OVEN_PROOF))

/-- CELL_PROOF_CLEAR (R198): CELL_LOCK has stayed at 1 for OSC_SETTLE.CELL seconds. -/
def execCellProofClear (s : State) : Result :=
  .next (s.when (s.bit F.OSC_STAT.CELL_PROOF && s.bit F.OSC_STAT.CELL_LOCK &&
    decide (s.osc.lockAt + s.get F.OSC_SETTLE.CELL * 625000000 ≤ s.raw)) (·.proofCleared F.OSC_STAT.CELL_PROOF))

/-- OVEN_DEVIATION (R199): the oven error has exceeded ±50 mK for 1 s after OVEN_PROOF had cleared. -/
def execOvenDeviation (s : State) : Result :=
  .next (match s.osc.ovenOut with
    | none => s
    | some t => s.when (!s.bit F.OSC_STAT.OVEN_PROOF && decide (t + 625000000 ≤ s.raw)) (fun s =>
        ((s.set F.OSC_STAT.OVEN_PROOF 1).refreshHset).flag F.OSC_STAT.OVENDEV 18 0))

/-- CELL_PROOF_SET (R199): the standard has not returned to Locked within 60 s. -/
def execCellProofSet (s : State) : Result :=
  .next (match s.osc.leftLock with
    | none => s
    | some t => s.when (!s.bit F.OSC_STAT.CELL_LOCK && !s.bit F.OSC_STAT.CELL_PROOF && decide (t + 60 * 625000000 ≤ s.raw))
        (fun s => (s.set F.OSC_STAT.CELL_PROOF 1).refreshHset))

/-- HEATER_FAULT (R201): 10 minutes after the instant of R70, 4 ms before the raw counter started, an enclosure has not yet
reached its window. The cell then enters Fault. -/
def execHeaterFault (cell : Bool) (s : State) : Result :=
  .next (s.when (decide (374997500000 ≤ s.raw) && (if cell then s.cellState == 0 && s.osc.heatAt.isNone else !s.osc.ovenReached)) (fun s =>
    let a := s.flag F.OSC_STAT.HEATFLT 18 0
    if cell then a.enterCell 4 else a))

/-! Sensors and load. -/

/-- R202: whether a die sensor's reading (1/128 °C) is outside its limits, against the mean of the other seven. -/
def sensorBad (temps : List Int) (i : Nat) : Bool :=
  let t := temps.getD i 0
  let others := (List.range 8).filter (· != i)
  let sum := (others.map (fun j => temps.getD j 0)).foldl (· + ·) 0
  decide (t < -5120) || decide (19200 < t) || decide (7 * 5120 < (7 * t - sum).natAbs)

/-- One die sensor's sample: its register, its count of bad samples and FAIL (R202, OSC_TS). -/
def State.sampleSensor (s : State) (temps : List Int) (i : Nat) : State :=
  let bad := sensorBad temps i
  let a := s.setI (F.OSC_TS.TEMP i) (temps.getD i 0)
  let n := if bad then s.osc.failCount.getD i 0 + 1 else 0
  let good := if bad then s.raw else s.osc.goodSince.getD i 0
  let t := if bad || s.bit (F.OSC_TS.FAIL i) then s.osc.temps else s.osc.temps.set i (temps.getD i 0)
  let b := { a with osc := { a.osc with failCount := s.osc.failCount.set i n, goodSince := s.osc.goodSince.set i good, temps := t } }
  if 10 ≤ n ∧ !s.bit (F.OSC_TS.FAIL i) then (b.set (F.OSC_TS.FAIL i) 1).flag F.OSC_STAT.SENSFAIL 18 i
  else if !bad ∧ s.bit (F.OSC_TS.FAIL i) ∧ good + 625000000 ≤ s.raw then b.set (F.OSC_TS.FAIL i) 0
  else b

/-- The load of R203 now. -/
def OscSt.load (o : OscSt) : Rat := sumR (o.quarters.map (·.1)) / 4

/-- Keep the first instant at which a condition began to hold. -/
def since (c : Bool) (old : Option Nat) (now : Nat) : Option Nat := if c then some (old.getD now) else none

/-- SENSOR_SAMPLE (R195, R202, R203): the eight die sensors in 1/128 °C, the oven and cell loop errors in 0.1 mK, and the heater
powers in 50 mW. -/
def execSensorSample (temps : List Int) (oven cell : Int) (ovenHeat cellHeat : Nat) (s : State) : Result :=
  let a := (List.range 8).foldl (fun t i => t.sampleSensor temps i) s
  let b := ((a.setISat F.OSC_OVEN.TERR oven).setISat F.OSC_CELL.TERR cell).sets
    [(F.OSC_OVEN.HEAT, min 255 ovenHeat), (F.OSC_CELL.HEAT, min 255 cellHeat)]
  let inW := decide (oven.natAbs ≤ 100)
  let o := b.osc
  let o' := { o with
    temps := (o.temps.set 8 oven).set 9 cell
    ovenIn := since inW o.ovenIn s.raw
    ovenOut := since (decide (500 < oven.natAbs)) o.ovenOut s.raw
    ovenReached := o.ovenReached || inW
    h := o.h + (o.load - o.h) / 45000 }
  let c := { b with osc := o' }
  let hot := (c.goodSensors.map (fun i => c.getI (F.OSC_TS.TEMP i))).foldl max (-5120)
  .next (if c.goodSensors.isEmpty then (c.setI F.GLB_SUPPLY.TMAX (c.freeVal : Int)).useFree else c.setI F.GLB_SUPPLY.TMAX (hot / 128))

/-- W_q of a performance level (R203). -/
def levelWeight (p : Nat) : Rat := if p = 0 then 1 else if p = 1 then 584 / 1000 else if p = 2 then 292 / 1000 else 125 / 1000

/-- f_q of a performance level in MHz (R509). -/
def levelMHz (p : Nat) : Nat := if p = 0 then 1600 else if p = 1 then 1200 else if p = 2 then 800 else 400

/-- Take a quarter's contribution A_q × W_q of one microsecond. -/
def State.takeLoad (s : State) (q : Nat) (v : Rat) : State :=
  { s with osc := { s.osc with quarters := s.osc.quarters.set q (v, s.raw), loadSum := s.osc.loadSum + v } }

/-- LOAD_REPORT (R203, R369): used issue slots of a quarter in one microsecond; a sleeping quarter sends none. -/
def execLoadReport (q used : Nat) (s : State) : Result :=
  onUnit (decide (q < 4)) (s.when (s.get (F.PWR_DOM_STAT.STATE (q + 1)) == 0) (fun s =>
    let p := s.get (F.PWR_DOM_STAT.PLVL (q + 1))
    ((s.set (F.PKE_QSTAT.MISSING q) 0).setSat (F.PKE_QSTAT.USED q) used).takeLoad q (min 1 ((used : Rat) / (4 * levelMHz p)) * levelWeight p)))

/-- LOAD_REPORT_MISSING (R58, R369): an awake quarter is taken at full activity; one in S1, S2 or S3 contributes 0. -/
def execLoadReportMissing (q : Nat) (s : State) : Result :=
  onUnit (decide (q < 4)) (if s.get (F.PWR_DOM_STAT.STATE (q + 1)) = 0 then (s.set (F.PKE_QSTAT.MISSING q) 1).takeLoad q 1 else s.takeLoad q 0)

/-- The change over 60 s of T̄ (°C) and of each die sensor (°C), where the history reaches back that far (R209). -/
def State.change60 (s : State) : Option (Rat × List Rat) :=
  (s.osc.hist.getLast?).bind (fun p =>
    if s.raw < p.1 + 60 * 625000000 then none
    else
      let old := meanR (s.goodSensors.map (fun i => (p.2.getD i 0 : Rat) / 128))
      some (meanR (s.goodSensors.map (fun i => (s.osc.temps.getD i 0 : Rat) / 128)) - old, (List.range 8).map (fun i => ((s.osc.temps.getD i 0 - p.2.getD i 0 : Int) : Rat) / 128)))

/-- R209: while the lid changes faster than 2 °C per minute, and for 300 s afterwards, a term formed at each second adds to σ_TL. -/
def State.reviewRate (s : State) : State :=
  let h := ((s.raw, s.osc.temps) :: s.osc.hist).take 61
  let a := { s with osc := { s.osc with hist := h } }
  match a.change60 with
  | none => a
  | some (dT, ds) =>
    let until_ := if 2 < absR dT then s.raw + 300 * 625000000 else s.osc.rateUntil
    if s.raw ≤ until_ then
      let term := fun (n : Nat) => sumR ((List.range 8).map (fun i =>
        absR ((s.mset n).fit.getD i 0) * Config.sensorLag i * absR (ds.getD i 0) / 60))
      { a with osc := { a.osc with rateUntil := until_, rateTerm := [term 0, term 1] } }
    else a

/-- Charge the open carry with σ_TEMP and σ_LOAD as they stood up to this tick (R263). -/
def State.chargeCarry (s : State) : State :=
  match s.bound.carry with
  | none => s
  | some k =>
    let dt := secs ((s.raw : Int) - k.upTo)
    let k' := { k with iTemp := k.iTemp + s.sigTemp k.hset * dt, iLoad := k.iLoad + s.sigLoad k.hset * dt, upTo := s.raw }
    { s with bound := { s.bound with carry := some k' } }

/-- LOAD_UNTRAINED of the holdover set (R207); with SRV2 disabled it stays set (R210). -/
def State.reviewUntrained (s : State) : State :=
  if s.srvEn 2 && s.trained s.hset s.cellNow then s.set F.OSC_STAT.LOAD_UNTRAINED 0
  else if s.bit F.OSC_STAT.LOAD_UNTRAINED then s
  else (s.set F.OSC_STAT.LOAD_UNTRAINED 1).flag F.OSC_STAT.UNTR 18 0

/-- OPERATING_POINT_UPDATE (R204, R207 to R209): at each second of raw time. -/
def execOperatingPointUpdate (s : State) : Result :=
  .next (s.when (s.raw % 625000000 == 0) (fun s =>
    let a := s.chargeCarry
    let l : Rat := min 1 (s.osc.loadSum / 4000000)
    let b := { a with osc := { a.osc with lbar := l, loadSum := 0 } }
    let tb := max 0 (min 25 ((b.tbar + 20) / 5).floor)
    let b := if b.goodSensors.isEmpty then b.useFree else b
    let c := b.sets [(F.OSC_OP.TBIN, tb.toNat), (F.OSC_OP.LBIN, (min 7 (8 * l).floor).toNat), (F.OSC_OP.LOAD, (roundAway (256 * l)).toNat)]
    let d := c.reviewRate.reviewUntrained
    (d.setSat (F.OSC_TL.SIG 0) (d.sigTL 0)).setSat (F.OSC_TL.SIG 1) (d.sigTL 1)))

/-! Ageing and the model store (R212, R213). -/

/-- AGEING_DAY_END (R212): a DTIME day has ended. -/
def execAgeingDayEnd (s : State) : Result :=
  let day := s.dsec / 86400
  let a := { s with osc := { s.osc with sets := s.osc.sets.map (fun (m : ModelSet) => m.endDay day) } }
  .next ((a.showAgeing 0).showAgeing 1)

/-- The model state as a copy of the store with a sequence number. -/
def State.storeCopy (s : State) (seq : Nat) : StoreCopy :=
  { seq := seq, sets := s.osc.sets, d := [s.getI (F.OSC_AGE_D.D 0), s.getI (F.OSC_AGE_D.D 1)],
    u := [s.get (F.OSC_AGE_U.U 0), s.get (F.OSC_AGE_U.U 1)], days := [s.get (F.OSC_LEARN.DAYS 0), s.get (F.OSC_LEARN.DAYS 1)] }

/-- R213: write the copy with the lower sequence number, as the start record's copies are written; a failed write sets
STOREERR and leaves that copy without a valid check. -/
def State.writeStore (s : State) (ok : Bool) : State :=
  if !s.supply.on then s else
  let sa := s.nv.storeA.map (·.seq)
  let sb := s.nv.storeB.map (·.seq)
  let toA := match sa, sb with
    | none, _ => true
    | some _, none => false
    | some x, some y => decide (x ≤ y)
  let seq := (match sa, sb with | none, none => 0 | some x, none => x | none, some y => y | some x, some y => max x y) + 1
  let cp := if ok then some (s.storeCopy seq) else none
  let a := { s with nv := if toA then { s.nv with storeA := cp } else { s.nv with storeB := cp } }
  if ok then a else a.flag F.OSC_STAT.STOREERR 18 0

/-- The newest valid copy of the model store. -/
def NvSt.newestStore (n : NvSt) : Option StoreCopy :=
  match n.storeA, n.storeB with
  | some a, some b => some (if a.seq < b.seq then b else a)
  | some a, none => some a
  | none, b => b

/-- MODEL_STORE_WRITE (R213): every 1,024 s; one due during a warm restart waits for the first boundary after it (R214). -/
def execModelStoreWrite (ok : Bool) (s : State) : Result :=
  .next (s.when (s.raw % 640000000000 == 0 && !(s.boot.warm && decide (s.stage < 6))) (·.writeStore ok))

/-- A keyed action of OSC_CTRL (R564). -/
def State.oscAction (s : State) (req : Requester) (key : Nat) (f : State → State) : State :=
  if key % 65536 ≠ 0x9612 then s.accessError req 6 0x700004 else f s

/-- Clear a set, unless it is in use in holdover (OSC_CTRL, R214). -/
def State.clearSet (s : State) (req : Requester) (n : Nat) : State :=
  if s.get F.OSC_STAT.HSET = n ∧ s.srvState = 3 then s.accessError req 7 0x700004
  else { s with osc := { s.osc with sets := s.osc.sets.set n {} } }.showAgeing n

/-- A write of OSC_CTRL; a refused clear discards it as a whole (R214). -/
def State.writeOscCtrl (s : State) (req : Requester) (data : Nat) : State :=
  let refused := s.srvState == 3 && data.testBit (s.get F.OSC_STAT.HSET)
  if data % 16 = 0 then s
  else s.oscAction req (bitsOf data 16 16) (fun s =>
    if refused then s.accessError req 7 0x700004
    else (((s.when (data.testBit 0) (·.clearSet req 0)).when (data.testBit 1) (·.clearSet req 1)).when (data.testBit 2) (fun s =>
      s.when (s.cellState == 3) (·.cellUnlocked (decide ((s.getI F.OSC_CELL.TERR).natAbs ≤ 200))))).when (data.testBit 3) (·.writeStore true))

/-- OSC_CLR_C (R214). -/
def execOscClrC (req : Requester) (key : Nat) (s : State) : Result :=
  .next (s.atFabric req (0x700004) (fun s => s.oscAction req key (·.clearSet req 0)))

/-- OSC_CLR_O (R214). -/
def execOscClrO (req : Requester) (key : Nat) (s : State) : Result :=
  .next (s.atFabric req (0x700004) (fun s => s.oscAction req key (·.clearSet req 1)))

/-- RELOCK from Locked (OSC_CTRL): the cell's temperature decides where the search resumes. -/
def State.relock (s : State) : State := s.when (s.cellState == 3) (·.cellUnlocked (decide ((s.getI F.OSC_CELL.TERR).natAbs ≤ 200)))

/-- OSC_RELOCK (R197, R214). -/
def execOscRelock (req : Requester) (key : Nat) (s : State) : Result :=
  .next (s.atFabric req (0x700004) (fun s => s.oscAction req key State.relock))

/-- OSC_STORE (R213). -/
def execOscStore (req : Requester) (key : Nat) (ok : Bool) (s : State) : Result :=
  .next (s.atFabric req (0x700004) (fun s => s.oscAction req key (·.writeStore ok)))

end Sys2Proof.Machine
end

