-- ==== Sys2Proof/Machine/PmuOps.lean ====
section
/-! DEFINITION. Performance monitoring (spec/20_pmu.md): counters, chains and overflows, the sample ring, and the cluster's own events
that the model counts as they happen. Indices of counters: j of an engine's E0 to E7, or of the cluster's C0 to C15. -/

namespace Sys2Proof.Machine

/-- R536: raise a PMU_STAT bit. -/
def State.pmuFlag (s : State) (f : Fld) : State := s.flag f 46 0 0

/-- Change the block's inner state. -/
def State.updPmu (s : State) (f : PmuSt → PmuSt) : State := { s with pmu := f s.pmu }

/-! Fields of a counter of either set (R523). -/

/-- How many counters a set has. -/
def pmuCount : PmuSet → Nat
  | .engine _ => 8
  | .cluster => 16

def pmuCnt : PmuSet → Nat → Fld
  | .engine k, j => F.PMU_ECNT.COUNT k j
  | .cluster, j => F.PMU_CCNT.COUNT j

def pmuEn : PmuSet → Nat → Fld
  | .engine k, j => F.PMU_ECTL.EN k j
  | .cluster, j => F.PMU_CCTL.EN j

def pmuChain : PmuSet → Nat → Fld
  | .engine k, j => F.PMU_ECTL.CHAIN k j
  | .cluster, j => F.PMU_CCTL.CHAIN j

def pmuIrq : PmuSet → Nat → Fld
  | .engine k, j => F.PMU_ECTL.IRQ k j
  | .cluster, j => F.PMU_CCTL.IRQ j

def pmuEvt : PmuSet → Nat → Fld
  | .engine k, j => F.PMU_ECTL.EVT k j
  | .cluster, j => F.PMU_CCTL.EVT j

def pmuOvf : PmuSet → Fld
  | .engine k => F.PMU_EOVF.OVF k
  | .cluster => F.PMU_COVF.OVF

/-- The power domain of a set. -/
def pmuDom : PmuSet → Nat
  | .engine k => 1 + k / 4
  | .cluster => 1

/-- The set's number in an event's INST (R536). -/
def pmuInst : PmuSet → Nat
  | .engine k => k
  | .cluster => 16

/-- R523: whether counter j counts now. -/
def State.pmuRuns (s : State) (set : PmuSet) (j : Nat) : Bool :=
  s.bit (pmuEn set j) && !s.bit F.PMU_CTRL.FREEZE && s.get (F.PWR_DOM_STAT.STATE (pmuDom set)) == 0

/-- Whether counter j is chained into its successor (R524). -/
def State.pmuChained (s : State) (set : PmuSet) (j : Nat) : Bool := decide (j + 1 < pmuCount set) && s.bit (pmuChain set (j + 1))

/-- R525 without the sample: the overflow bit, the event, and FRZOVF. -/
def State.pmuReport (s : State) (set : PmuSet) (j : Nat) : State :=
  let a := s.set (pmuOvf set) (setBitN (s.get (pmuOvf set)) j)
  let b := if a.bit (pmuIrq set j) then a.occur 46 0xFF (pmuInst set + 256 * j) 0 else a
  if b.bit F.PMU_CTRL.FRZOVF then b.set F.PMU_CTRL.FREEZE 1 else b

/-- Add occurrences to counter j and carry through its chain (R524): `fuel` bounds the chain. The answer tells the top counter that
overflowed, if one did. -/
def State.pmuAdd (s : State) (set : PmuSet) : Nat → Nat → Nat → State × Option Nat
  | 0, _, _ => (s, none)
  | fuel + 1, j, n =>
    let c := s.get (pmuCnt set j) + n
    let a := s.set (pmuCnt set j) c
    if c < 2 ^ 32 then (a, none)
    else if s.pmuChained set j then (if s.pmuRuns set (j + 1) then a.pmuAdd set fuel (j + 1) (c / 2 ^ 32) else (a, none))
    else (a.pmuReport set j, some j)

/-- An occurrence of a cluster event (R530) with its filter value: every counter that selects it counts. -/
def State.clusterEvent (s : State) (ev filt : Nat) : State :=
  (List.range 16).foldl (fun t j =>
    if s.pmuRuns .cluster j && !s.bit (F.PMU_CCTL.CHAIN j) && s.get (F.PMU_CCTL.EVT j) == ev && (!s.bit (F.PMU_CCTL.FILTEN j) || s.get (F.PMU_CCTL.FILT j) == filt)
    then (t.pmuAdd .cluster 16 j 1).1 else t) s

/-! The sample ring (R533, R534). -/

/-- A record that is not written, or a tag lost (R532, R534). -/
def State.sampleLost (s : State) : State := ((s.bumpSat F.PMU_SR_LOST.LOST).pmuFlag F.PMU_STAT.SLOST).clusterEvent 0xF 0

/-- The 32 bytes of a record (R533): `pc`, `insn`, engine, thread, kind, skid, latency, flags, counter, context. The instant comes from
replica 6, the level from the quarter. -/
def State.sampleRec (s : State) (pc insn k thread kind skid lat flags counter ctx : Nat) : List Byte :=
  let r := s.tb.routes.getD 6 {}
  let crumbs := ((s.raw : Int) + r.repOff).toNat * 512
  let t := (r.cur.bind (fun p => p.dtime crumbs)).getD 0
  leBytes 4 pc ++ leBytes 4 insn ++ leBytes 1 k ++ leBytes 1 thread ++ leBytes 1 kind ++ leBytes 1 skid ++ leBytes 2 lat ++ leBytes 2 flags ++
    leBytes 6 (Sys2Proof.Machine.sstamp t) ++ leBytes 1 ((r.cur.map Pair.gen).getD 0) ++ leBytes 1 (s.get (F.PWR_DOM_STAT.PLVL (1 + k / 4))) ++ leBytes 1 counter ++
    leBytes 1 ctx ++ leBytes 2 0 ++ leBytes 4 s.pmu.seq

/-- Write a record to the ring (R534). -/
def State.pushSample (s : State) (b : List Byte) : State :=
  let n := s.pmu.ring.length
  if 4096 ≤ n ∧ s.bit F.PMU_SR_CFG.WRAP = false then s.sampleLost
  else
    let full := decide (4096 ≤ n)
    let old := if full then s.pmu.ring.drop 1 else s.pmu.ring
    let a := s.updPmu (fun p => { p with ring := old ++ [b], seq := (p.seq + 1) % 2 ^ 32 })
    let c := (if full then a.bump F.PMU_SR_CONS.CONS else a).bump F.PMU_SR_PROD.PROD
    let d := if !full && n + 1 == s.get F.PMU_SR_CFG.THR then c.pmuFlag F.PMU_STAT.SRHIGH else c
    d.clusterEvent 0xE 0

/-- R531: a skid sample of an engine's counter. What the thread executes is a free value; an event of no thread has SKID 0xFF. -/
def State.skidSample (s : State) (k j : Nat) : State :=
  let v := s.freeVal
  let ev := s.get (F.PMU_ECTL.EVT k j)
  let skid := if ev = 1 ∨ ev = 4 ∨ ev = 7 then 0xFF else bitsOf v 64 16 % 13
  (s.useFree).pushSample (s.sampleRec (bitsOf v 0 32) (bitsOf v 32 32) k (bitsOf v 80 3) 1 skid 0 (bitsOf v 83 6) j (bitsOf v 89 8))

/-- An engine's counter j counts occurrences (R523 to R525). -/
def State.engineCount (s : State) (k j n : Nat) : State :=
  let r := s.pmuAdd (.engine k) 8 j n
  match r.2 with
  | some t => if s.bit (F.PMU_ECTL.SMP k t) then r.1.skidSample k t else r.1
  | none => r.1

/-- An occurrence of an engine event (R530). Engine 16 and above is none: the schedulers and the firmware. -/
def State.engineEvent (s : State) (k ev : Nat) : State :=
  if 16 ≤ k then s
  else (List.range 8).foldl (fun t j =>
    if s.pmuRuns (.engine k) j && !s.bit (F.PMU_ECTL.CHAIN k j) && s.get (F.PMU_ECTL.EVT k j) == ev then t.engineCount k j 1 else t) s

/-- The events the model counts as they happen, not through PMU_COUNTER_OVERFLOW. -/
def pmuOwn : PmuSet → Nat → Bool
  | .engine _, ev => ev == 8 || ev == 0xA || ev == 0xB || ev == 0xC
  | .cluster, ev => ev == 2 || ev == 3 || (decide (6 ≤ ev) && decide (ev ≤ 0xF))

/-- PMU_CTRL.CLRALL (R535): every counter and overflow bit, the ring, and the sampler's counts. -/
def State.clrAll (s : State) : State :=
  let a := { s with regs := s.regs.filter (fun e =>
    let o := e.1 / 32 % 0x4000000
    !((decide (0x1200120 ≤ o) && decide (o < 0x1200500) && decide (0x20 ≤ o % 0x40)) || (decide (0x1200600 ≤ o) && decide (o < 0x1200640)) ||
      (decide (0x1200840 ≤ o) && decide (o < 0x1200884)))) }
  (a.sets [(F.PMU_PS_SKIP.SKIP, 0), (F.PMU_SR_LOST.LOST, 0), (F.PMU_SR_PROD.PROD, 0), (F.PMU_SR_CONS.CONS, 0)]).updPmu (fun p => { p with ring := [] })

/-- A write of the consumer index (R534): it moves forwards and to PROD at most. -/
def State.writeSrCons (s : State) (req : Requester) (v : Nat) : State :=
  let cons := s.get F.PMU_SR_CONS.CONS
  let n := (v % 8192 + 8192 - cons) % 8192
  if s.pmu.ring.length < n then s.accessError req 7 0x1200918
  else (s.set F.PMU_SR_CONS.CONS v).updPmu (fun p => { p with ring := p.ring.drop n })

end Sys2Proof.Machine
end

