-- ==== Sys2Proof/Machine/SynOps.lean ====
section
/-! DEFINITION. Output synthesis (spec/10_outputs.md): K and M, phase lines, gated relocks, slews, period boundaries, release,
alignment targets and output bounds. Unit 4 is the transmit synthesiser of R302. -/

namespace Sys2Proof.Machine

/-- The exponent of K: the least k for which a FREQ (2⁻¹⁶ Hz) times 2^k reaches 750 MHz (R273). -/
def kExp (freq : Nat) : Nat := ((List.range 31).find? (fun k => decide (750000000 * 65536 ≤ freq * 2 ^ k))).getD 30

/-- M = ceil(f_v ÷ 62.5 MHz) (R273). -/
def mOf (freq : Nat) : Nat := (freq * 2 ^ kExp freq + 62500000 * 65536 - 1) / (62500000 * 65536)

/-- A unit's inner state. -/
def State.un (s : State) (u : Nat) : UnitSt := s.syn.getD u {}

/-- Change a unit's inner state. -/
def State.updUnit (s : State) (u : Nat) (f : UnitSt → UnitSt) : State := { s with syn := modAt s.syn u f }

/-- An output's inner state. -/
def State.ou (s : State) (n : Nat) : OutSt := s.outp.getD n {}

/-- Change an output's inner state. -/
def State.updOut (s : State) (n : Nat) (f : OutSt → OutSt) : State := { s with outp := modAt s.outp n f }

/-- The register that shows a unit's state. -/
def unitStateFld (u : Nat) : Fld := if u = 4 then F.PRT_SYT_STAT.STATE else F.OUT_SYN_STAT.STATE u

/-- A unit's state (R276): 0 OFF, 1 ACQUIRE, 2 LOCKED, 3 SLEW, 4 COAST. -/
def State.unitState (s : State) (u : Nat) : Nat := s.get (unitStateFld u)

/-- A unit's FREQ in units of 2⁻¹⁶ Hz; the transmit synthesiser's is fixed (R302). -/
def State.unitFreq (s : State) (u : Nat) : Nat := if u = 4 then 156250000 * 65536 else s.get (F.OUT_SYN_FREQ.FREQ u)

/-- Outputs with a kind that a unit drives. -/
def State.unitOuts (s : State) (u : Nat) : List Nat :=
  (List.range 12).filter (fun n => u != 4 && s.get (F.OUT_CFG.SYN n) == u && s.get (F.OUT_CFG.KIND n) != 0)

/-- Disciplined picoseconds now in the Hearth. -/
def State.psNow (s : State) : Rat := s.hrt.cur.ps s.now

/-- R298: raise an output's bit. -/
def State.outFlag (s : State) (f : Fld) (n : Nat) : State := s.flag f (22 + s.get (F.OUT_CFG.SYN n)) n

/-- R298, R318: raise a unit's bit. -/
def State.unitFlag (s : State) (f : Fld) (u : Nat) : State := if u = 4 then s.flag f 37 5 else s.flag f (22 + u) (0x10 + u)

/-- Unit periods elapsed on a unit's phase line at a disciplined instant in ps. -/
def UnitSt.phaseAt (x : UnitSt) (p : Rat) : Rat := x.n0 + (p - x.ps0) * x.freq / 65536000000000000

/-- The instant in ps at which a unit's phase line reaches a count of unit periods. -/
def UnitSt.instantOf (x : UnitSt) (n : Rat) : Rat := if x.freq = 0 then x.ps0 else x.ps0 + (n - x.n0) * 65536000000000000 / x.freq

/-- PHASE of an output's grid in ps (R274). -/
def phasePs (phase : Int) : Rat := (phase : Rat) * 25 / 8

/-- The first period boundary of a grid at or after an instant (R274). -/
def UnitSt.boundary (x : UnitSt) (div : Nat) (phase : Int) (p : Rat) : Rat :=
  let k := ceilR (x.phaseAt (p - phasePs phase) / div)
  x.instantOf ((k * div : Int) : Rat) + phasePs phase

/-- Whether the role lets an output drive (R81). -/
def State.roleDrives (s : State) (n : Nat) : Bool := !s.bit (F.OUT_CFG.TIE n) || s.get F.PAIR_STAT.ROLE == 1

/-- R284: whether an output drives its ball. -/
def State.mayDrive (s : State) (n : Nat) : Bool :=
  s.get (F.OUT_CFG.KIND n) != 0 && (s.bit (F.OUT_CFG.EN n) || (s.ou n).offAt.isSome) && !s.rcp.sections.isEmpty &&
  s.supply.on && !s.supply.quiet && !s.boot.starter && s.roleDrives n

/-- Show an output's DRIVE, GATED, ALIGNED, ARMED and CALSRC. -/
def State.showOut (s : State) (n : Nat) : State :=
  let o := s.ou n
  let u := s.get (F.OUT_CFG.SYN n)
  let d := s.mayDrive n
  let al := s.bit (F.OUT_CFG.EN n) && o.released && s.unitState u == 2 && !(s.un u).slewed &&
    (s.get (F.OUT_ALCFG.MODE n) == 0 || o.anchor.isSome)
  ((((s.setBit (F.OUT_STAT.DRIVE n) d).setBit (F.OUT_STAT.GATED n) (s.bit (F.OUT_CFG.EN n) && !o.released)).setBit
    (F.OUT_STAT.ALIGNED n) al).setBit (F.OUT_STAT.ARMED n) o.target.isSome).setBit (F.OUT_CAL.CALSRC n)
    (s.bit (F.OUT_CFG.EN n) && !(d && o.released))

/-- Show a unit's M, KEXP and NOUT, and its outputs' bits. -/
def State.showUnit (s : State) (u : Nat) : State :=
  if u = 4 then s
  else
    let f := s.unitFreq u
    let t := s.sets [(F.OUT_SYN_STAT.M u, mOf f), (F.OUT_SYN_STAT.KEXP u, kExp f),
      (F.OUT_SYN_STAT.NOUT u, ((s.unitOuts u).filter (fun n => s.bit (F.OUT_CFG.EN n))).length)]
    (s.unitOuts u).foldl State.showOut t

/-- Where in an output period the high phase ends that holds at a count of unit periods since the boundary (R283); none where the
output is low. -/
def shapeEnd (kind div param : Nat) (x : Rat) : Option Rat :=
  let upTo := fun (e : Rat) => if x < e then some e else none
  if kind = 1 then upTo (if div = 1 then 1 / 2 else ((div + 1) / 2 : Nat))
  else if kind = 2 then upTo param
  else if kind = 3 then
    let p := param % 256
    let sp := param / 256 % 4096
    let w := param / 2 ^ 20 % 4096
    (List.range p).findSome? (fun i => if ((i * sp : Nat) : Rat) ≤ x then upTo ((i * sp + w : Nat) : Rat) else none)
  else none

/-- Where an output stands in its shape at an instant of disciplined time in ps: unit periods since its boundary, or, aligned, since
its latest target, in MODE 1 repeated each period; none before a target. -/
def State.shapePos (s : State) (n : Nat) (p : Rat) : Option Rat :=
  let o := s.ou n
  let x := s.un (s.get (F.OUT_CFG.SYN n))
  let wrap := fun (y : Rat) => y - (o.div : Rat) * (y / o.div).floor
  if s.get (F.OUT_ALCFG.MODE n) = 0 then some (wrap (x.phaseAt (p - phasePs o.phase)))
  else o.anchor.bind (fun a =>
    let y : Rat := (p - (a : Rat) * 1000 / 65536) * x.freq / 65536000000000000
    if y < 0 then none else some (if s.get (F.OUT_ALCFG.MODE n) = 1 then wrap y else y))

/-- Whether the shape of an output is high at an instant in ps. -/
def State.shapeHigh (s : State) (n : Nat) (p : Rat) : Bool :=
  match s.shapePos n p with
  | none => false
  | some y => (shapeEnd (s.get (F.OUT_CFG.KIND n)) (s.ou n).div (s.ou n).param y).isSome

/-- The pair under which a running high phase ends (R280, R282): the one before, where a step has just committed. -/
def State.runningPair (s : State) : Pair :=
  if s.hrt.cur.step ≠ 0 ∧ s.hrt.cur.commit = s.raw then (s.hrt.history[1]?).getD s.hrt.cur else s.hrt.cur

/-- The crumb of raw time at which an output's running high phase ends, where it runs and is high. -/
def State.highEnd (s : State) (n : Nat) : Option Int :=
  let o := s.ou n
  let x := s.un (s.get (F.OUT_CFG.SYN n))
  let q := s.runningPair
  let p := q.ps s.now
  let waits := match o.regrid with | some r => decide (r.1 ≤ p) | none => false
  if !o.released || x.freq == 0 || waits || o.offAt.isSome then o.highTo
  else (s.shapePos n p).bind (fun y => (shapeEnd (s.get (F.OUT_CFG.KIND n)) o.div o.param y).map (fun e =>
    q.rawOf 1 ((p + (e - y) * 65536000000000000 / x.freq) * 65536 / 1000)))

/-- R280, R276: a gated relock begins: every enabled output of the unit is gated from the end of its high phase and the MDLL restarts
in ACQUIRE; the lock count starts at the first reference edge after this instant. -/
def State.gatedRelock (s : State) (u : Nat) : State :=
  let f := s.unitFreq u
  let fr : Rat := (f * 2 ^ kExp f : Nat) / (mOf f : Rat)
  let edge := (s.psNow * fr / 65536000000000000).floor + 1
  let a := s.updUnit u (fun x => { x with ref0 := edge, relockTick := s.raw, ps0 := 0, n0 := 0, freq := f, slewed := false })
  let b := (s.unitOuts u).foldl (fun t n => t.updOut n (fun o => { o with
    highTo := s.highEnd n, released := false, relFrom := none, regrid := none, first := true, since := s.raw })) a
  (b.set (unitStateFld u) 1).showUnit u

/-- R276: a unit that no enabled output uses is OFF. -/
def State.reviewUnit (s : State) (u : Nat) : State :=
  if u ≠ 4 ∧ (s.unitOuts u).all (fun n => !s.bit (F.OUT_CFG.EN n) && (s.ou n).offAt.isNone) then
    (s.set (unitStateFld u) 0).showUnit u
  else s

/-- R277: whether 65,536 reference cycles of ACQUIRE have passed. -/
def State.acquired (s : State) (u : Nat) : Bool :=
  let f := s.unitFreq u
  let fr : Rat := (f * 2 ^ kExp f : Nat) / (mOf f : Rat)
  decide ((((s.un u).ref0 + 65536 : Int) : Rat) ≤ s.psNow * fr / 65536000000000000)

/-- The enabled outputs of a LOCKED unit that are not yet released may be released from an instant on. -/
def State.armReleases (s : State) (u : Nat) : State :=
  (s.unitOuts u).foldl (fun t n => if t.bit (F.OUT_CFG.EN n) && !(t.ou n).released then
    t.updOut n (fun o => { o with relFrom := some s.psNow }) else t) s

/-- The launch of an output's pending target: emitted, merged with a running pulse, or LATE (R295). -/
def State.settleTarget (s : State) (n : Nat) : State :=
  match (s.ou n).target with
  | none => s
  | some (t, launch) =>
    if (s.now : Int) < launch then s
    else
      let a := s.updOut n (fun o => { o with target := none })
      if (s.ou n).released && s.unitState (s.get (F.OUT_CFG.SYN n)) == 2 then
        let b := if s.shapeHigh n ((t : Rat) * 1000 / 65536) then a.outFlag (F.OUT_STAT.MERGE n) n else a
        b.updOut n (fun o => { o with anchor := some t })
      else a.outFlag (F.OUT_STAT.LATE n) n

/-- The register values of DIV, PARAM and PHASE come into effect. -/
def OutSt.take (o : OutSt) (s : State) (n : Nat) : OutSt :=
  let p := s.getI (F.OUT_PHASE.PHASE n)
  { o with div := s.get (F.OUT_DIV.DIV n), param := s.get (F.OUT_PARAM.PARAM n), phase := p }

/-- No high phase that was running when the output was stopped (R280, R284) goes on at tick `now`. -/
def OutSt.highDone (o : OutSt) (now : Nat) : Bool := o.highTo.all (fun e => decide (e ≤ (now : Int)))

/-- Bring one output up to the present: the end of a cleared EN, its release, a re-grid and a target's launch. -/
def State.settleOut (s : State) (n : Nat) : State :=
  let u := s.get (F.OUT_CFG.SYN n)
  let p := s.psNow
  let a := match (s.ou n).offAt with
    | some q => if q ≤ p then (s.updOut n (fun o => { o with offAt := none, released := false, regrid := none, highTo := none })).reviewUnit u else s
    | none => s
  let b := match (a.ou n).relFrom with
    | some q =>
      if a.unitState u = 2 ∧ (a.ou n).highDone a.now = true ∧ (a.un u).boundary (a.get (F.OUT_DIV.DIV n)) (a.getI (F.OUT_PHASE.PHASE n)) q ≤ p then
        (a.updOut n (fun o => o.take a n)).updOut n (fun o => { o with released := true, relFrom := none, first := true, since := a.raw, anchor := none, highTo := none })
      else a
    | none => a
  let c := match (b.ou n).regrid with
    | some q => if q.2 ≤ p then b.updOut n (fun o => { o.take b n with regrid := none }) else b
    | none => b
  (c.settleTarget n).showOut n

/-- Bring every output up to the present. -/
def State.settleOuts (s : State) : State := (List.range 12).foldl State.settleOut s

/-- R282: a pair with S ≠ 0 has committed: every unit that is not OFF relocks; a slew is abandoned. -/
def State.stepRelock (s : State) : State :=
  (List.range 4).foldl (fun t u => if t.unitState u = 0 then t else t.gatedRelock u) s

/-- R303: whether the transmit synthesiser is limited at ±100 ppm. -/
def State.showLimit (s : State) : State :=
  s.setBit F.PRT_SYT_STAT.LIMIT (s.unitState 4 != 0 && decide (100000000000 < s.hrt.cur.rate.natAbs))

/-- Begin COAST (R279) after a loss. -/
def State.enterCoast (s : State) (u : Nat) (restart : Bool) : State :=
  let t := s.updUnit u (fun x => { x with coastAt := s.raw, restart := restart })
  (t.set (unitStateFld u) 4).showUnit u

/-- R286: whether every output of a unit stays within its frequency limits at a FREQ. -/
def State.freqAllowed (s : State) (u freq : Nat) : Bool :=
  decide (65536 ≤ freq) && decide (freq ≤ 98304000000000) &&
  (s.unitOuts u).all (fun n => outFreqOk n (s.get (F.OUT_CFG.ELEC n)) (s.bit (F.OUT_CFG.TIE n)) freq (s.get (F.OUT_DIV.DIV n)))

/-- A new FREQ takes effect (R280, R281, R297). -/
def State.newFreq (s : State) (u freq : Nat) : State :=
  let st := s.unitState u
  let old := s.unitFreq u
  let same := kExp freq == kExp old && mOf freq == mOf old
  let p := s.psNow
  let slew := fun (t : State) => ((t.updUnit u (fun x => { x with slewed := true, stepAt := s.raw + 1024, n0 := x.phaseAt p, ps0 := p })).set (unitStateFld u) 3).showUnit u
  let t := s.set (F.OUT_SYN_FREQ.FREQ u) freq
  if st = 0 ∨ st = 4 then t.showUnit u
  else if st = 1 then t.gatedRelock u
  else if st = 3 then (if same then t.showUnit u else (t.gatedRelock u).unitFlag (F.OUT_SYN_STAT.NOSLEW u) u)
  else if s.bit (F.OUT_SYN_CTRL.RELOCK u) then
    (if same then slew t else (t.gatedRelock u).unitFlag (F.OUT_SYN_STAT.NOSLEW u) u)
  else t.gatedRelock u

/-- One slew step (R281): at most 1×10⁻⁴ of the current frequency; the last lands on the target and anchors the grid at the
first unit edge from here. -/
def State.slewStep (s : State) (u : Nat) : State :=
  let x := s.un u
  let p := s.psNow
  let f := x.freq
  let target : Rat := s.unitFreq u
  let ph := x.phaseAt p
  if absR (target - f) ≤ f / 10000 then
    let y : UnitSt := { x with n0 := ph, ps0 := p, freq := target }
    let e := y.instantOf (ceilR ph)
    (((s.updUnit u (fun _ => { y with n0 := ceilR ph, ps0 := e })).set (unitStateFld u) 2).armReleases u).showUnit u
  else
    let g := if f < target then f + f / 10000 else f - f / 10000
    s.updUnit u (fun z => { z with n0 := ph, ps0 := p, freq := g, stepAt := s.raw + 1024 })

/-- R284: EN of an output changes. -/
def State.writeEn (s : State) (n : Nat) (en : Bool) : State :=
  let u := s.get (F.OUT_CFG.SYN n)
  if en then
    let high := s.highEnd n
    let a := (s.set (F.OUT_CFG.EN n) 1).updOut n (fun o =>
      { o with offAt := none, first := true, since := s.raw, anchor := none, released := false, regrid := none, highTo := high })
    let st := a.unitState u
    if st = 0 then a.gatedRelock u
    else if st = 2 then ((a.updOut n (fun o => { o with relFrom := some s.psNow })).showUnit u)
    else a.showUnit u
  else
    let o := s.ou n
    let stop := if o.released then some ((s.un u).boundary o.div o.phase s.psNow) else none
    let high := s.highEnd n
    let a := (s.set (F.OUT_CFG.EN n) 0).updOut n (fun o =>
      { o with offAt := stop, relFrom := none, target := none, lastSet := none, highTo := high })
    (a.showUnit u).reviewUnit u

/-- A write of OUT_CFG (R284): EN and SQUELCH; a change of EN while KIND is 0 discards the write. -/
def State.writeOutCfg (s : State) (req : Requester) (n data : Nat) : State :=
  let en := data.testBit 8
  let s := s.settleOut n
  if (s.get (F.OUT_CFG.KIND n) = 0 ∧ en ≠ s.bit (F.OUT_CFG.EN n)) ∨ (en = true ∧ s.isHeld (0x200 + n)) then s.accessError req 7 0x800004
  else
    let t := s.set (F.OUT_CFG.SQUELCH n) (bitsOf data 9 1)
    if en = t.bit (F.OUT_CFG.EN n) then t else t.writeEn n en

/-- R285: the output's register values start a new grid: at once where nothing runs, else after the running period. -/
def State.regrid (s : State) (n : Nat) : State :=
  let o := s.ou n
  let x := s.un (s.get (F.OUT_CFG.SYN n))
  if !o.released then s
  else
    let d := s.get (F.OUT_DIV.DIV n)
    let ph := s.getI (F.OUT_PHASE.PHASE n)
    let b0 := match o.regrid with
      | some q => q.1
      | none => if s.get (F.OUT_ALCFG.MODE n) = 0 then x.boundary o.div o.phase s.psNow else s.psNow
    let from_ := if b0 < s.psNow then s.psNow else b0
    let b1 := if s.get (F.OUT_ALCFG.MODE n) = 0 then x.boundary d ph from_ else from_
    s.updOut n (fun o => { o with regrid := some (b0, b1) })

/-- A write of DIV, PARAM or PHASE (R283, R285, R286); `which` is 0, 1 or 2. -/
def State.writeGrid (s : State) (req : Requester) (n which value : Nat) : State :=
  let s := s.settleOut n
  let kind := s.get (F.OUT_CFG.KIND n)
  let v := value % 2 ^ 32
  if which = 0 then
    let ok := v != 0 && paramOk kind v (s.get (F.OUT_PARAM.PARAM n)) &&
      (kind == 0 || outFreqOk n (s.get (F.OUT_CFG.ELEC n)) (s.bit (F.OUT_CFG.TIE n)) (s.unitFreq (s.get (F.OUT_CFG.SYN n))) v)
    if ok then ((s.set (F.OUT_DIV.DIV n) v).regrid n).settleOut n else s.accessError req 7 0x80000C
  else if which = 1 then
    if paramOk kind (s.get (F.OUT_DIV.DIV n)) v then ((s.set (F.OUT_PARAM.PARAM n) v).regrid n).settleOut n
    else s.accessError req 7 0x800010
  else ((s.set (F.OUT_PHASE.PHASE n) v).regrid n).settleOut n

/-- A write of OUT_DELAY: refused while EN is 1. -/
def State.writeDelay (s : State) (req : Requester) (n data : Nat) : State :=
  if s.bit (F.OUT_CFG.EN n) then s.accessError req 7 0x800018 else s.set (F.OUT_DELAY.DELAY n) data

/-- A write of OUT_ALCFG (R293). -/
def State.writeAlcfg (s : State) (req : Requester) (n data : Nat) : State :=
  let mode := bitsOf data 0 2
  let held := data.testBit 2
  let ch := bitsOf data 4 4
  let spc := bitsOf data 8 20
  let bad := s.bit (F.OUT_CFG.EN n) || mode == 3 || (held && decide (s.get (F.OUT_ALOFF.ALOFF n) < 34000)) ||
    decide (spc < 1) || decide (1000000 < spc) ||
    (mode != 0 && (s.get (F.OUT_CFG.KIND n) == 1 || s.bit (F.OUT_CFG.TIE n) || s.kind ch != 2))
  if bad then s.accessError req 7 0x80001C
  else s.sets [(F.OUT_ALCFG.MODE n, mode), (F.OUT_ALCFG.HELD n, if held then 1 else 0), (F.OUT_ALCFG.CH n, ch), (F.OUT_ALCFG.MINSPC n, spc)]

/-- A write of OUT_ALOFF (R294). -/
def State.writeAloff (s : State) (req : Requester) (n data : Nat) : State :=
  let v := data % 2 ^ 32
  if v < (if s.bit (F.OUT_ALCFG.HELD n) then 34000 else 2000) ∨ 1000000000 < v then s.accessError req 7 0x800020
  else s.set (F.OUT_ALOFF.ALOFF n) v

/-- A write of OUT_SYN_CTRL (R280, R564): RELOCK, and REALIGN under KEY. -/
def State.writeSynCtrl (s : State) (req : Requester) (u data : Nat) : State :=
  if data.testBit 1 ∧ bitsOf data 16 16 ≠ 0x9612 then s.accessError req 6 (0x800108 + 0x20 * u)
  else
    let t := s.set (F.OUT_SYN_CTRL.RELOCK u) (bitsOf data 0 1)
    if data.testBit 1 ∧ t.unitState u ≠ 0 then t.settleOuts.gatedRelock u else t

/-- A write of one word of OUT_SYN_FREQ (R18, R286): the low word waits for the high word. -/
def State.writeSynFreq (s : State) (req : Requester) (u : Nat) (high : Bool) (data : Nat) : State :=
  if !high then s.updUnit u (fun x => { x with low := some (data % 2 ^ 32) })
  else
    let lo := (s.un u).low.getD (s.unitFreq u % 2 ^ 32)
    let f := data % 2 ^ 16 * 2 ^ 32 + lo
    let t := (s.updUnit u (fun x => { x with low := none })).settleOuts
    if t.freqAllowed u f then t.newFreq u f else t.accessError req 7 (0x800104 + 0x20 * u)

/-- λ_cal of an output in crumbs (R289). -/
def State.launchCal (s : State) (n : Nat) : Int := Config.launchLatency n + s.getI (F.OUT_CAL.TRIM n)

/-- R292: an output's bound. -/
def State.outErrb (s : State) (n : Nat) : Nat :=
  let t := s.settleOut n
  if !t.bit (F.OUT_STAT.DRIVE n) || !t.bit (F.OUT_STAT.ALIGNED n) then unbounded
  else
    let cal := if !t.bit (F.OUT_CAL.CALOK n) then 600 else if t.bit (F.OUT_CAL.CALSRC n) then 300 else 150
    let base := if t.get (F.OUT_ALCFG.MODE n) = 0 then [t.errb] else [24, t.get (F.REF_DLYUNC.DLYUNC (t.get (F.OUT_ALCFG.CH n)))]
    errbSum (base ++ [cal, 20])

/-- The level of an output's ball at this tick: none at high impedance (R276, R283 to R285, R295). In COAST without SQUELCH the
VCO runs free and the level is a free value. -/
def State.outPin (s : State) (n : Nat) : Option Bool :=
  let t := s.settleOut n
  let o := t.ou n
  let u := t.get (F.OUT_CFG.SYN n)
  let st := t.unitState u
  if !t.bit (F.OUT_STAT.DRIVE n) then none
  else if !o.released || o.offAt.isSome then some (match o.highTo with | some e => decide ((t.now : Int) < e) | none => false)
  else if t.bit (F.OUT_CFG.SQUELCH n) && st != 2 then some false
  else if st = 4 then some (t.freeVal % 2 == 1)
  else
    let waits := match o.regrid with | some q => decide (q.1 ≤ t.psNow) | none => false
    some (!waits && t.shapeHigh n t.psNow)

/-- Load OUTKIND and SYNPLAN into the registers (R103, R104, R118): each unit that an enabled output uses starts with a gated
relock. -/
def State.loadSynth (s : State) : State :=
  let p := s.sec 0x31
  let a := (List.range 12).foldl (fun t n =>
    let e := sliceB p (16 * n) 16
    (t.sets [(F.OUT_CFG.KIND n, byteAt e 0), (F.OUT_CFG.SYN n, byteAt e 1), (F.OUT_CFG.ELEC n, byteAt e 2),
      (F.OUT_CFG.TIE n, bitsOf (byteAt e 3) 0 1), (F.OUT_CFG.COMP n, bitsOf (byteAt e 3) 1 1), (F.OUT_CFG.EN n, bitsOf (byteAt e 3) 2 1),
      (F.OUT_DIV.DIV n, leAt e 4 4), (F.OUT_DELAY.DELAY n, leAt e 8 2), (F.OUT_PARAM.PARAM n, leAt e 12 4)]).updOut n (fun _ => {})) s
  let b := (List.range 4).foldl (fun t u =>
    (t.sets [(F.OUT_SYN_FREQ.FREQ u, leAt (s.sec 0x30) (16 * u) 8), (F.OUT_SYN_CTRL.RELOCK u, byteAt (s.sec 0x30) (16 * u + 8)),
      (unitStateFld u, 0)]).updUnit u (fun _ => {})) a
  (List.range 4).foldl (fun t u => if (t.unitOuts u).any (fun n => t.bit (F.OUT_CFG.EN n)) then t.gatedRelock u else t.showUnit u) b

end Sys2Proof.Machine
end

