-- ==== Sys2Proof/Machine/RingOps.lean ====
section
/-! DEFINITION. Handing an item to a DMA ring or a supervisor queue (R361, R363, R366, R367). -/

namespace Sys2Proof.Machine

/-- How many descriptors a ring holds (R361). -/
def State.ringHolds (s : State) (r : Nat) : Nat :=
  (s.get (F.PKE_RING_PROD.PROD r) + 131072 - s.get (F.PKE_RING_CONS.CONS r)) % 131072

/-- A drop of a ring or queue (R363, R366). -/
def State.ringDrop (s : State) (r : Nat) : State := (s.bumpSat (F.PKE_RING_DROP.DROP r)).flag F.PKE_STAT.RINGDROP 42 r

/-- Hand an item to a host-bound ring or a supervisor queue: it waits for its descriptor's write-back, or is dropped where
the ring is disabled or has no posted buffer left. -/
def State.deliverRing (s : State) (i : RingItem) : State :=
  let waiting := (s.pke.ringQ.filter (fun q => q.ring == i.ring)).length
  if s.bit (F.PKE_RING_CFG.EN i.ring) && decide (waiting < s.ringHolds i.ring) then
    { s with pke := { s.pke with ringQ := s.pke.ringQ ++ [i] } }
  else s.ringDrop i.ring

end Sys2Proof.Machine
end

