-- ==== Sys2Proof/Machine/TdcOps.lean ====
section
/-! DEFINITION. Measurement (spec/06_measurement.md): stamps, intervals, phase results, gates and records. -/

namespace Sys2Proof.Machine

/-- R170: the event time in sixteenths of a crumb, halves to the later sixteenth: codes c1 and c2 of the pair, the code c and
the stop's tick; none where the codes give no span. -/
def eventTime (c1 c2 c kStop : Nat) : Option Nat :=
  let s : Int := (c2 : Int) - c1
  if s ≤ 0 then none
  else
    let z : Int := 2 * (c1 : Int) - c2
    some (roundUpHalf (((kStop * 8192 : Nat) : Rat) - 8192 * (((c : Int) - z : Int) : Rat) / (s : Rat))).toNat

/-- The stamp in crumbs of a time in sixteenths, halves to the later crumb (R170). -/
def crumbOf (at16 : Nat) : Nat := (at16 + 8) / 16

/-- R175: an interval in sixteenths (a rational where averaged) as crumbs, with CLOSE and ORDER. -/
def intervalOf (d : Rat) : Int × Bool × Bool :=
  if absR d < 16 then (0, true, false) else (roundAway (d / 16), false, decide (d < 0))

/-- Nominal period in 2⁻¹⁶ ns of a frequency in 2⁻¹⁶ Hz. -/
def periodFrac (freq : Nat) : Rat := if freq = 0 then 0 else (65536000000000 * 65536 : Rat) / freq

/-- R143, R217: the nominal period boundary of disciplined time nearest to an instant, in sixteenths of a crumb. -/
def Pair.nearestBoundary (p : Pair) (freq : Nat) (at16 : Rat) : Int :=
  let per := periodFrac freq
  let t := p.ps (at16 / 16) * 65536 / 1000
  if per = 0 then at16.floor else p.rawOf 16 ((roundUpHalf (t / per) : Rat) * per)

/-- The record flags that R190 takes from a channel's state; they clear with the record. -/
def TdcSt.recFlags (d : TdcSt) : Nat :=
  (if d.calErr then 16 else 0) + (if d.missed then 32 else 0) + (if d.tbLoss then 128 else 0)

/-- Produce a record (R190, R191): TYPE, time base, flags, stamp in crumbs, VALUE, COUNT, RESID. -/
def State.record (s : State) (n type tb flags stamp : Nat) (value : Int) (count resid : Nat) : State :=
  let d := s.td n
  let fl := flags ||| d.recFlags |||
    (if tb = 2 ∧ s.bit F.OSC_STAT.OVEN_PROOF then 4 else 0) |||
    (if (type = 1 ∨ type = 4) ∧ s.bit (F.TDC_CFG.PRESCALE n) then 256 else 0)
  let b := leBytes 1 type ++ leBytes 1 n ++ leBytes 1 (s.pairAt stamp).gen ++ leBytes 1 tb ++ leBytes 2 fl ++ leBytes 2 d.seq ++
    rawBytes stamp ++ leBytes 8 (ofSigned 64 value) ++ leBytes 2 count ++ leBytes 2 (min 0xFFFF resid)
  let t := s.updTdc n (fun d => { d with
    record := b, seq := (d.seq + 1) % 65536, missed := false, calErr := false, tbLoss := false })
  if s.bit (F.TDC_CFG.RING n) then
    t.deliverRing { ring := 63, type := 2, src := n, gen := s.hrt.cur.gen, errb := s.errb, data := b }
  else t

/-- Raise a TDC_STAT bit of a channel; REJ and CALFAULT raise the TDC event (R193). -/
def State.tdcMark (s : State) (f : Fld) (n : Nat) : State := if f.lo = 9 ∨ f.lo = 11 then s.flag f 17 n else s.set f 1

/-- A phase result of a reference channel (R176, R177) from an interval in sixteenths: a record, and delivery to qualification
while the channel is evaluated. A rejected ORDER result reaches nothing. -/
def State.phaseResult (s : State) (n c : Nat) (d : Rat) (stamp count : Nat) : State :=
  let r := intervalOf d
  if r.2.2 && s.bit (F.TDC_CFG.UNSIGNED n) then (s.bumpSat (F.TDC_CNT.REJ n)).tdcMark (F.TDC_STAT.REJ n) n
  else
    let a := s.record n 2 0 ((if r.2.1 then 1 else 0) + (if r.2.2 then 2 else 0)) stamp r.1 (count - 1) 0
    if 2 ≤ s.qstate c then a.deliver c ((r.1 : Rat) * crumbPs) stamp false count else a

/-- Add a stamp to sums: edge index, time in crumbs after the gate's opening. -/
def Sums.add (q : Sums) (k : Nat) (t : Int) : Sums :=
  ⟨q.n + 1, q.sn + k, q.st + t, q.snn + k * k, q.snt + k * t, q.stt + t * t⟩

/-- R181: a, b and the residual rms of sums; none where they fix no line. -/
def Sums.line (q : Sums) : Option (Rat × Rat × Rat) :=
  let d : Int := (q.n * q.snn : Nat) - (q.sn * q.sn : Nat)
  if d ≤ 0 ∨ q.n = 0 then none
  else
    let b : Rat := (((q.n : Int) * q.snt - (q.sn : Int) * q.st : Int) : Rat) / (d : Rat)
    let a : Rat := ((q.st : Rat) - b * q.sn) / q.n
    let res := (q.stt : Rat) - a * q.st - b * q.snt
    some (a, b, if q.n < 3 then 0 else sqrtR ((if res < 0 then 0 else res) / (q.n - 2)))

/-- T_nom of a channel's edges in crumbs (R179). -/
def State.tNom (s : State) (n c : Nat) : Rat :=
  let k := if s.bit (F.TDC_CFG.PRESCALE n) then s.get (F.TDC_CFG.PSK n) + 1 else 0
  let f := s.get (F.REF_NOMFREQ.FREQ c)
  if f = 0 then 0 else ((2 ^ k * 320000000000 * 65536 : Nat) : Rat) / f

/-- D of R180: f_s × G ÷ 65,536 rounded up, at least 1. -/
def State.decimation (s : State) (n c ms : Nat) : Nat :=
  let k := if s.bit (F.TDC_CFG.PRESCALE n) then s.get (F.TDC_CFG.PSK n) + 1 else 0
  max 1 (ceilR ((s.get (F.REF_NOMFREQ.FREQ c) : Rat) / (65536 * 2 ^ k) * ms / 1000 / 65536)).toNat

/-- Open a gate at a boundary (R181, R182, R187, R192). -/
def State.openGate (s : State) (n c tick : Nat) (free : Bool) : State :=
  let ms := s.get (F.TDC_GATE.GATE n)
  let d := s.decimation n c ms
  let g : Gate := { openTick := tick, ms := ms, first := (s.td n).edges, d := d, lim := s.get (F.TDC_OUTLIM.LIM n), free := free,
                    tb := s.get F.TDC_TB.ACT, tbCh := s.get F.TDC_TB.CH }
  ((s.updTdc n (fun x => { x with gate := some g })).set (F.TDC_DEC.D n) d).set (F.TDC_STAT.GATE n) 1

/-- Bring a channel's gate up to the present tick: the first gate opens at the first multiple of 625,000 ticks after the served
channel entered QUALIFYING, and each gate that has ended moves aside while the next opens at its boundary (R181). -/
def State.rollGate (s : State) (n : Nat) : State :=
  let c := s.tdcTarget n
  if s.tdcUse n = 1 ∧ freqOnly (s.kind c) ∧ 2 ≤ s.qstate c then
    match (s.td n).gate with
    | none =>
      let b := s.raw / 625000 * 625000
      if (s.rf c).qSince < b then s.openGate n c b true else s
    | some g =>
      if g.endTick ≤ s.raw then
        (s.updTdc n (fun x => { x with closing := some g })).openGate n c g.endTick
          (s.get (F.TDC_GATE.GATE n) != g.ms)
      else s
  else s

/-- The line a gate leaves to the next (R181, R182): offset in crumbs of raw time, crumbs per edge, first edge; none from fewer
than 16 stamps or where more than a quarter was excluded. -/
def Gate.lineOf (g : Gate) : Option (Rat × Rat × Nat) :=
  if g.sums.n < 16 ∨ g.sums.n < 3 * g.excl then none
  else g.sums.line.map (fun q => (q.1 + (g.openTick * 512 : Nat), q.2.1, g.first))

/-- Whether a stamp lies within the outlier limit of the previous gate's line (R182). Every stamp of the previous gate is in
before the first of the next, so a gate that still waits for its result already tells its line. -/
def TdcSt.inLine (d : TdcSt) (g : Gate) (edge stamp : Nat) : Bool :=
  let prev := match d.closing with | some q => if q.openTick < g.openTick then q.lineOf else d.line | none => d.line
  g.free || (match prev with
    | none => true
    | some (a, b, first) => decide (absR ((stamp : Rat) - (a + b * ((edge - first : Nat) : Rat))) ≤ g.lim))

/-- Enter a released stamp into one gate (R180 to R182). -/
def State.gateStamp (s : State) (n : Nat) (g : Gate) (edge stamp : Nat) : State × Gate :=
  let k := edge - g.first
  if k % g.d ≠ 0 then (s, g)
  else if (s.td n).inLine g edge stamp then
    (s, { g with sums := g.sums.add k ((stamp : Int) - (g.openTick * 512 : Nat)) })
  else
    ((s.bumpSat (F.TDC_CNT.MISS n)).set (F.TDC_STAT.OUTLIER n) 1, { g with excl := g.excl + 1 })

/-- Whether a stamp taken at a tick belongs to a gate. -/
def Gate.holds (g : Gate) (taken : Nat) : Bool := decide (g.openTick ≤ taken) && decide (taken < g.endTick)

/-- A released stamp of a frequency channel enters its gate (R181), and the second regression of every open gate on the EXT
time base that names the channel (R186). -/
def State.freqStamp (s : State) (n c : Nat) (h : Held) : State :=
  let stamp := crumbOf h.at16
  let a := match (s.td n).gate with
    | some g => if g.holds h.taken then
        let r := s.gateStamp n g h.edge stamp
        r.1.updTdc n (fun d => { d with gate := some r.2 }) else s
    | none => s
  let b := match (a.td n).closing with
    | some g => if g.holds h.taken then
        let r := a.gateStamp n g h.edge stamp
        r.1.updTdc n (fun d => { d with closing := some r.2 }) else a
    | none => a
  let own := [(s.td n).gate, (s.td n).closing].findSome? (fun o => o.filter (fun g => g.holds h.taken))
  let add := fun (g : Gate) =>
    if g.tb == 1 && g.tbCh == c && g.holds h.taken && (match own with | some o => (h.edge - o.first) % o.d == 0 | none => false) then
      { g with ext := g.ext.add h.edge ((stamp : Int) - (g.openTick * 512 : Nat)) } else g
  { b with tdc := b.tdc.map (fun d => { d with gate := d.gate.map add, closing := d.closing.map add }) }

/-- R144: judge a pulse channel's stamp: spurious (discarded, SPUR), accepted, or the first of a new run. -/
def State.judgePulse (s : State) (c : Nat) (h : Held) : State × Option Held :=
  let f := s.get (F.REF_NOMFREQ.FREQ c)
  let per : Rat := if f = 0 then 0 else (320000000000 * 16 * 65536 : Rat) / f
  match (s.rf c).lastEdge with
  | none =>
    ((s.updRef c (fun r => { r with lastEdge := some h.at16, results := [] })).gainActivity c, some { h with cls := 2 })
  | some l =>
    let d : Rat := (h.at16 : Rat) - l
    if d < 9 / 10 * per then (s.refFlag (F.REF_STAT.SPUR c) c, none)
    else if d ≤ 11 / 10 * per then
      ((s.updRef c (fun r => { r with lastEdge := some h.at16 })).gainActivity c, some { h with cls := 1 })
    else ((s.updRef c (fun r => { r with lastEdge := some h.at16, results := [] })).gainActivity c, some { h with cls := 2 })

/-- The interval of R176 in sixteenths: the labelled boundary of disciplined time less the reference edge, delays removed. -/
def State.pulseInterval (s : State) (c at16 : Nat) : Rat :=
  let e : Rat := (at16 : Rat) - 16 * ((s.boardDelay c + s.getI (F.REF_DLY.DLY c) : Int) : Rat)
  (((s.pairAt (crumbOf at16)).nearestBoundary (s.get (F.REF_NOMFREQ.FREQ c)) e : Int) : Rat) - e

/-- A released stamp of a reference channel, by its kind (R142, R163). -/
def State.releaseStamp (s : State) (n c : Nat) (h : Held) : State :=
  let s := if h.calErr then s.updTdc n (fun d => { d with calErr := true }) else s
  let k := s.kind c
  if k = 1 then { s with sel := { s.sel with strobe := some h.at16 } }
  else if k = 2 then
    let j := if h.cls = 0 then s.judgePulse c h else (s, some h)
    match j.2 with
    | none => j.1
    | some g =>
      let d := j.1.pulseInterval c g.at16
      if 1000 * 65536 < s.get (F.REF_NOMFREQ.FREQ c) then
        if (intervalOf d).2.2 && s.bit (F.TDC_CFG.UNSIGNED n) then (j.1.bumpSat (F.TDC_CNT.REJ n)).tdcMark (F.TDC_STAT.REJ n) n
        else j.1.updRef c (fun r => { r with msSum := r.msSum + roundAway d, msCount := r.msCount + 1, msStamp := crumbOf g.at16 })
      else j.1.phaseResult n c d (crumbOf g.at16) 1
  else if k = 4 then s.updRef c (fun r => { r with prs := (h.at16 :: r.prs).take 256 })
  else if freqOnly k then s.freqStamp n c h
  else s

/-- A stamp has been taken (R163, R168, R178, R191): it serves interval pairing, and goes to its channel's hold, to the gates at
once, or to a TYPE 1 record. -/
def State.stampTaken (s : State) (n at16 edge : Nat) (calErr : Bool) : State :=
  let a := s.updTdc n (fun d => { d with stamps := (at16, s.raw) :: d.stamps.filter (fun p => decide (s.raw < p.2 + 2200000000)) })
  let st := s.get (F.TDC_CFG.START n)
  let b := if st = 0x1F then a else a.updTdc n (fun d => { d with stops := d.stops ++ [⟨at16, st, s.raw, calErr⟩] })
  let h : Held := { at16 := at16, gen := (s.pairAt (crumbOf at16)).gen, edge := edge, taken := s.raw, calErr := calErr }
  if s.tdcUse n = 1 then
    let c := s.tdcTarget n
    if !s.bit (F.REF_STAT.PRESENT c) then b
    else if holdTicks (s.kind c) = 0 then b.releaseStamp n c h
    else b.updRef c (fun r => { r with held := r.held ++ [h] })
  else
    (if calErr then b.updTdc n (fun d => { d with calErr := true }) else b).record n 1 2 0 (crumbOf at16) edge 0 0

/-- Show whether a half is armed. -/
def State.showArmed (s : State) (n : Nat) : State :=
  s.setBit (F.TDC_STAT.ARMED n) ((s.td n).h0.pair.isSome || (s.td n).h1.pair.isSome)

/-- One edge at a TDC channel (R169, R172): it is counted; the named half, where armed, stamps it with its pair and code. -/
def State.tdcEdge (s : State) (n half code kStop : Nat) : State :=
  let r := s.rollGate n
  let a := r.updTdc n (fun d => { d with edges := d.edges + 1 })
  let h := if half = 0 then (a.td n).h0 else (a.td n).h1
  match h.pair.bind (fun p => eventTime p.1 p.2.1 code kStop) with
  | none => ((a.bumpSat (F.TDC_CNT.MISS n)).set (F.TDC_STAT.MISSED n) 1).updTdc n (fun d => { d with missed := true })
  | some t =>
    let b := a.updTdc n (fun d => if half = 0 then { d with h0 := { d.h0 with pair := none } } else { d with h1 := { d.h1 with pair := none } })
    (b.showArmed n).stampTaken n t (r.td n).edges h.bad

/-- R173, R244: the check of a calibration pair and its consequences. -/
def State.calPair (s : State) (n half c1 c2 : Nat) : State :=
  let span : Int := (c2 : Int) - c1
  let nom : Int := s.get (F.TDC_CAL.NOM n)
  let ok := decide (((span - nom).natAbs : Int) * 100 ≤ 12 * nom)
  let h := if half = 0 then (s.td n).h0 else (s.td n).h1
  let p := if ok then (c1, c2) else h.passing.getD (c1, c2)
  let h' : Half := { pair := some (p.1, p.2, s.raw), passing := if ok then some (c1, c2) else h.passing, bad := !ok }
  let a := (s.set (F.TDC_CAL.SPAN n) (ofSigned 16 span)).updTdc n (fun d => { d with
    h0 := if half = 0 then h' else d.h0, h1 := if half = 0 then d.h1 else h',
    fails := if ok then 0 else d.fails + 1, passes := if ok then d.passes + 1 else 0 })
  let b := a.showArmed n
  let c := s.tdcTarget n
  let serves := s.tdcUse n == 1 || s.tdcUse n == 4
  if ok then (if serves then b.tryQualify c else b)
  else
    let d := b.tdcMark (F.TDC_STAT.CALERR n) n
    if 16 ≤ (d.td n).fails then
      let e := d.tdcMark (F.TDC_STAT.CALFAULT n) n
      if serves then e.disqualify c 7 else e
    else d

/-- The value of a frequency record under its time base (R186), in units of 10⁻¹⁸; none without a second regression, or on a time
base that was lost (3, R188). -/
def Gate.refer (g : Gate) (hist : List Pair) (y : Rat) (yExt : Option Rat) : Option Rat :=
  if g.tb = 3 then none
  else if g.tb = 0 then some ((1 + y) / (1 + (meanRate hist g.openTick g.endTick).1) - 1)
  else if g.tb = 1 then yExt.map (fun e => (1 + y) / (1 + e) - 1)
  else some y

/-- Complete a gate that has ended (R181 to R186): the fit, the record, and the result to qualification and the servos. -/
def State.closeGate (s : State) (n c : Nat) (g : Gate) : State :=
  let a := s.updTdc n (fun d => { d with closing := none })
  if g.lineOf.isNone then a.updTdc n (fun d => { d with line := none })
  else match g.sums.line with
    | none => a
    | some (_, lb, sigma) =>
      if lb = 0 then a
      else
        let exa : Rat := 1000000000000000000
        let y : Rat := (roundAway ((s.tNom n c / lb - 1) * exa) : Rat) / exa
        let ext := match s.tdcOf g.tbCh with
          | none => none
          | some m => g.ext.line.bind (fun q => if q.2.1 = 0 then none else some (s.tNom m g.tbCh / q.2.1 - 1))
        let b := a.updTdc n (fun d => { d with
          line := g.lineOf, yExt := some y })
        let chg := (meanRate s.hrt.history g.openTick g.endTick).2
        let e := match g.refer s.hrt.history y ext with
          | none => b
          | some v => b.record n 4 g.tb ((if chg then 8 else 0) + (if 0 < g.excl then 64 else 0)) (g.endTick * 512) (roundAway (v * exa)) (g.sums.n - 1)
              (roundAway (sigma * 16)).toNat
        if 2 ≤ s.qstate c then
          (e.deliver c y (g.endTick * 512) true g.sums.n (roundAway (sigma * 16)).toNat).updRef c (fun r => { r with
            gate := some { y := y, sigma := sigma, n := g.sums.n, ms := g.ms, tick := g.endTick } })
        else e

end Sys2Proof.Machine
end

