-- ==== Sys2Proof/Machine/VaultOps.lean ====
section
/-! DEFINITION. The key vault (spec/16_vault.md): derivation, slots and their states, the store and its journal, updates, zeroise
and the test root; and the NTS positions that live in its store. -/

namespace Sys2Proof.Machine

/-! Keys. -/

/-- The order of P-256 (curve 0) and P-384 (curve 1). -/
def curveOrder (curve : Nat) : Nat :=
  if curve = 0 then 0xFFFFFFFF00000000FFFFFFFFFFFFFFFFBCE6FAADA7179E84F3B9CAC2FC632551
  else 0xFFFFFFFFFFFFFFFFFFFFFFFFFFFFFFFFFFFFFFFFFFFFFFFFC7634D81F4372DDF581A0DB248B0A77AECEC196ACCC52973

/-- R430: the ECDSA private scalar of a slot's key. -/
def scalarOf (curve : Nat) (key : List Byte) : Nat := beNat (key.take (if curve = 0 then 40 else 56)) % (curveOrder curve - 1) + 1

/-- The fused root in force (R448). -/
def State.fusedRoot (s : State) : List Byte := if s.bit F.KVT_STAT.DBG then Config.testRoot else Config.deviceRoot

/-- The keys of R423 that no operation shows. -/
def State.identityKey (_s : State) : List Byte := kdf Config.deviceRoot (ascIdnt ++ leBytes 8 0)
def State.storageKey (s : State) : List Byte := kdf s.fusedRoot (ascStor ++ leBytes 4 s.nv.zepoch ++ leBytes 4 0)

/-! Slots and the store. -/

/-- A slot. -/
def State.slot (s : State) (n : Nat) : Slot := s.kvt.slots.getD n {}

/-- Change a slot. -/
def State.updSlot (s : State) (n : Nat) (f : Slot → Slot) : State := { s with kvt := { s.kvt with slots := modAt s.kvt.slots n f } }

/-- The store in use (R448). -/
def State.kstore (s : State) : KvtStore := if s.bit F.KVT_STAT.DBG then s.nv.kvtTest else s.nv.kvt

/-- Change the store in use; nothing writes it while AON is off. -/
def State.updStore (s : State) (f : KvtStore → KvtStore) : State :=
  if !s.supply.on then s
  else if s.bit F.KVT_STAT.DBG then { s with nv := { s.nv with kvtTest := f s.nv.kvtTest } }
  else { s with nv := { s.nv with kvt := f s.nv.kvt } }

/-- A slot's record. -/
def KvtStore.rec? (k : KvtStore) (n : Nat) : Option KvtRec := k.recs.find? (fun r => r.slot == n)

/-- Place or remove a slot's record, in slot order. -/
def KvtStore.put (k : KvtStore) (n : Nat) (r : Option KvtRec) : KvtStore :=
  let lo := k.recs.filter (fun x => decide (x.slot < n))
  let hi := k.recs.filter (fun x => decide (n < x.slot))
  { k with recs := lo ++ r.toList ++ hi }

/-- Whether slot `x` descends from slot `n`, within `k` levels. -/
def descends (slots : List Slot) (n : Nat) : Nat → Nat → Bool
  | 0, _ => false
  | k + 1, x => decide (2 ≤ x) && ((slots.getD x {}).state != 0) &&
      ((slots.getD x {}).parent == n || descends slots n k (slots.getD x {}).parent)

/-- A slot's descendants in ascending depth, then slot number. -/
def State.descendants (s : State) (n : Nat) : List Nat :=
  let d := (List.range 256).filter (fun x => x != n && descends s.kvt.slots n 4 x)
  [2, 3, 4].flatMap (fun dep => d.filter (fun x => (s.slot x).depth == dep)) ++ d.filter (fun x => decide ((s.slot x).depth < 2))

/-- R438 step 1 and 3: the lanes purge a slot's schedule, and an operation that runs on it carries STALE. -/
def Lane.leave (n : Nat) (l : Lane) : Lane :=
  let uses := match l.op with | some o => o.1.slot == some n | none => false
  { l with cache := l.cache.filter (· != n), stale := l.stale || uses }

/-! The NTS positions. -/

/-- A position's record as the NTS block holds it. -/
def State.npos (s : State) (p : Nat) : PosRec := s.nts.pos.getD p {}

/-- R399: raise an NTS_STAT bit with its position. -/
def State.ntsFlag (s : State) (f : Fld) (inst : Nat) : State := s.flag f 43 inst

/-- Show a position in NTS_KPOS. -/
def State.showPos (s : State) (p : Nat) : State :=
  (s.set (F.NTS_KPOS.STATE p) (s.npos p).state).set (F.NTS_KPOS.GEN p) ((s.npos p).gen)

/-- A position enters a state now, in the journal too (R460). -/
def State.setPosQuiet (s : State) (p state gen : Nat) : State :=
  let t := { s with nts := { s.nts with pos := modAt s.nts.pos p (fun _ => ⟨state, gen, s.dsec⟩) } }
  let u := t.showPos p
  if state = 1 then u.set F.NTS_STAT.CUR p else u
def State.setPos (s : State) (p state gen : Nat) : State := (s.setPosQuiet p state gen).journalPos p state gen (s.dnow.getD 0)

/-- The CURRENT position, if there is one. -/
def State.currentPos (s : State) : Option Nat := (List.range 4).find? (fun p => (s.npos p).state == 1)

/-- R380: whether a position's slots are defined with their uses and one parent. -/
def State.posUsable (s : State) (p : Nat) : Bool :=
  let e := s.slot (s.get (F.NTS_KPOS.ENCSLOT p))
  let d := s.slot (s.get (F.NTS_KPOS.DECSLOT p))
  e.state != 0 && d.state != 0 && e.use == 0 && d.use == 1 && e.parent == d.parent &&
  decide (2 ≤ s.get (F.NTS_KPOS.ENCSLOT p)) && decide (2 ≤ s.get (F.NTS_KPOS.DECSLOT p))

/-- Put a request at the end of the update queue; the NTS block's own wait as long as they must. -/
def State.enqueue (s : State) (r : VaultReq) : State := { s with kvt := { s.kvt with queue := s.kvt.queue ++ [r] } }

/-- R384: store the positions. -/
def State.storePositions (s : State) : State := s.enqueue { by_ := 9, code := 9 }

/-- R380, R381: the context of a position's derivation. -/
def posCtx (p gen : Nat) : List Byte := ascNtsm ++ leBytes 4 p ++ leBytes 4 gen

/-- R381 step 1 and 2: start a rotation: choose a position and queue its derivation. No effect while one runs (R13). -/
def State.startRotation (s : State) : State :=
  if s.nts.rot.isSome then s
  else
    let g := match s.currentPos with
      | some p => (s.npos p).gen
      | none => (s.nts.pos.map PosRec.gen).foldl max 0
    let empty := (List.range 4).filter (fun p => (s.npos p).state == 0)
    let oldest := ((List.range 4).filter (fun p => (s.npos p).state == 2)).foldl (fun (b : Option Nat) p => match b with
      | none => some p
      | some q => if (s.npos p).since < (s.npos q).since then some p else some q) none
    let pick := match empty.find? s.posUsable with
      | some p => some (p, false)
      | none => match empty.head? with
        | some p => some (p, false)
        | none => oldest.map (fun p => (p, true))
    match pick with
    | none => s.ntsFlag F.NTS_STAT.KEYFAIL 0
    | some (p, early) =>
      let a := if early then ((s.setPos p 0 (s.npos p).gen).storePositions).ntsFlag F.NTS_STAT.EARLYEXP p else s
      if a.posUsable p then
        let gen := (g + 1) % 2 ^ 32
        let b := { a with nts := { a.nts with rot := some { pos := p, gen := gen } } }
        let per := s.get F.NTS_ROT.PERIOD * 4
        let c := (b.set F.NTS_STAT.ROTBUSY 1).updStore (fun k => { k with nextRot := s.dsec + per })
        c.enqueue { by_ := 9, code := 8, slot := a.get (F.NTS_KPOS.ENCSLOT p), wslot := a.get (F.NTS_KPOS.DECSLOT p), ctx := posCtx p gen, pos := p, gen := gen }
      else a.ntsFlag F.NTS_STAT.KEYFAIL p

/-- End a rotation that failed: the old position stays CURRENT. -/
def State.failRotation (s : State) (p : Nat) : State :=
  (({ s with nts := { s.nts with rot := none } }.set F.NTS_STAT.ROTBUSY 0).set F.NTS_ROTCTRL.ROTATE 0).ntsFlag F.NTS_STAT.KEYFAIL p

/-- R383: a position in use that loses a slot goes to EMPTY; losing the CURRENT one starts a rotation. -/
def State.losePositions (s : State) (n : Nat) : State :=
  (List.range 4).foldl (fun t p =>
    let st := (t.npos p).state
    if (st = 1 ∧ t.get (F.NTS_KPOS.ENCSLOT p) = n) ∨ (st ≠ 0 ∧ t.get (F.NTS_KPOS.DECSLOT p) = n) then
      let a := ((t.setPos p 0 (t.npos p).gen).storePositions).ntsFlag F.NTS_STAT.KEYFAIL p
      if st = 1 then a.startRotation else a
    else t) s

/-! States of a slot. -/

/-- R438: a slot leaves READY. -/
def State.slotLeaves (s : State) (n state cause : Nat) : State :=
  if (s.slot n).state ≠ 2 then s
  else
    let a := { s with pke := { s.pke with lanes := s.pke.lanes.map (Lane.leave n) } }
    let b := a.updSlot n (fun x => { x with state := state, cause := cause, key := if state = 4 then [] else x.key })
    b.losePositions n

/-- Every descendant of a slot that is READY becomes STALE. -/
def State.staleDescendants (s : State) (n : Nat) : State := (s.descendants n).foldl (fun t x => t.slotLeaves x 3 0) s

/-- Load a key into a slot: READY, its context and origin; KGEN counts a change of value (R425). -/
def Slot.load (x : Slot) (key ctx : List Byte) (origin : Nat) (test cert : Bool) : Slot :=
  let fresh := x.key != key
  { x with state := 2, key := key, ctx := ctx, origin := origin, cause := 0, test := test, cert := cert, uses := if fresh then 0 else x.uses, kgen := if fresh then (x.kgen + 1) % 2 ^ 32 else x.kgen }

/-- Load a key into a slot; a READY slot leaves READY first (R440). -/
def State.loadKey (s : State) (n : Nat) (key ctx : List Byte) (origin : Nat) (cert : Bool) : State :=
  (s.slotLeaves n 3 0).updSlot n (fun x => x.load key ctx origin (s.bit F.KVT_STAT.DBG) cert)

/-- The record a slot's present key asks for; imported and agreed keys keep a copy wrapped under the storage key (R433). -/
def State.recordOf (s : State) (n : Nat) : KvtRec :=
  let x := s.slot n
  { slot := n, parent := x.parent, use := x.use, origin := x.origin, ctx := x.ctx, kgen := x.kgen, invalid := x.state == 4, cert := x.cert, copy := if 2 ≤ x.origin then Config.keyWrap s.storageKey x.key else [] }

/-- Write the records of some slots. -/
def State.storeSlots (s : State) (l : List Nat) : State := s.updStore (fun k => l.foldl (fun k n => k.put n (some (s.recordOf n))) k)

/-- R439 with TREE: restore one descendant: derive it again, or reload it from its stored copy. -/
def State.restoreSlot (s : State) (n : Nat) : State :=
  let x := s.slot n
  if 2 ≤ x.origin then
    match (s.kstore.rec? n).bind (fun r => Config.keyUnwrap s.storageKey r.copy) with
    | some k => s.loadKey n k x.ctx x.origin x.cert
    | none => s
  else if (s.slot x.parent).state = 2 ∧ x.state ≠ 4 then s.loadKey n (kdf (s.slot x.parent).key x.ctx) x.ctx 1 false
  else s

/-- R451: raise a KVT_STAT bit. -/
def State.kvtFlag (s : State) (f : Fld) (inst : Nat) : State := s.flag f 68 inst

/-! Operations. -/

/-- Show QUEUE and WAIT of every requester with an update in the queue, and BUSY. -/
def State.showQueue (s : State) : State :=
  let hold := s.bit F.KVT_STAT.HOLDOK
  (s.kvt.queue.zipIdx.foldl (fun t p => if p.1.by_ < 9 then
    (t.set (F.KVT_OPSTAT.QUEUE p.1.by_) (min 7 p.2)).setBit (F.KVT_OPSTAT.WAIT p.1.by_) (!hold) else t) s).setBit F.KVT_STAT.BUSY
    s.kvt.opened.isSome

/-- The end of an operation: RESULT and STALE are written and START reads 0. -/
def State.opEnd (s : State) (q result : Nat) (stale : Bool) : State :=
  let t := ((((s.set (F.KVT_OPSTAT.RESULT q) result).setBit (F.KVT_OPSTAT.STALE q) stale).set (F.KVT_OP.START q) 0).set
    (F.KVT_OPSTAT.WAIT q) 0).set (F.KVT_OPSTAT.QUEUE q) 0
  if stale then t.kvtFlag F.KVT_STAT.STALEOP (s.get (F.KVT_OP.SLOT q)) else t

/-- Count a completed use of a slot's key. -/
def State.useSlot (s : State) (n : Nat) : State := s.updSlot n (fun x => { x with uses := min (2 ^ 32 - 1) (x.uses + 1) })

/-- R430, R426: the RESULT that refuses an operation on a slot, or 0: UNDEF, NOTREADY or CELL, USE. -/
def State.slotRefuses (s : State) (n : Nat) (uses : List Nat) : Nat :=
  let x := s.slot n
  if x.state = 0 then 2
  else if !uses.contains x.use then 3
  else if x.state = 4 ∧ x.cause = 2 then 11
  else if x.state ≠ 2 then 4
  else 0

/-- The bytes a request reads: SRAM's, or the pair link's own. -/
def State.reqBytes (s : State) (r : VaultReq) (n : Nat) : List Byte := if r.by_ = 10 then sliceB r.data 0 n else s.sramRead r.addr n

/-- The peer's public point of an AGREE (R431, R432), and whether it came certified; none where the certificate fails. -/
def State.peerPoint (s : State) (r : VaultReq) : Option (List Byte × Bool) :=
  if r.raw then some (s.sramRead r.addr 96, false)
  else
    let b := s.reqBytes r 304
    if Config.sha384 (sliceB b 0 96) = Config.rootDigest && Config.ecdsaVerify (sliceB b 0 96) (sliceB b 0 208) (sliceB b 208 96) then
      some (sliceB b 96 96, true)
    else none

/-- What an update computes before phase 1 (R443): its key and CERT, or the RESULT that ends it. -/
def State.computeUpdate (s : State) (r : VaultReq) : Except Nat (List Byte × Bool) :=
  let x := s.slot r.slot
  if r.code = 9 then .ok ([], false)
  else if r.slot < 2 then .error 5
  else if x.state = 0 then .error 2
  else if r.code = 1 then
    (if (s.slot x.parent).state = 2 then .ok (kdf (s.slot x.parent).key r.ctx, false) else .error 4)
  else if r.code = 2 then .ok ([], false)
  else if r.code = 3 then
    let e := s.slotRefuses r.wslot [2]
    if e ≠ 0 then .error e
    else match Config.keyUnwrap ((s.slot r.wslot).key.take 32) (s.reqBytes r 72) with
      | some k => .ok (k, false)
      | none => .error 6
  else if r.code = 5 then
    if s.bit F.KVT_STAT.DBG then .error 10
    else if x.use ≠ 2 then .error 3
    else match s.peerPoint r with
      | none => .error 7
      | some (q, cert) => match Config.ecdh (scalarOf 1 s.identityKey) q with
        | none => .error 7
        | some z => .ok (kdf z r.ctx, cert)
  else
    let e := s.slot r.wslot
    if e.state = 0 then .error 2
    else if x.use ≠ 0 ∨ e.use ≠ 1 ∨ x.parent ≠ e.parent then .error 3
    else if (s.slot x.parent).state = 2 then .ok (kdf (s.slot x.parent).key r.ctx, false) else .error 4

/-- The slots whose records an update rewrites. -/
def State.updateSlots (s : State) (r : VaultReq) : List Nat :=
  if r.code = 9 then [] else if r.code = 8 then [r.slot, r.wslot] else r.slot :: (if r.tree then s.descendants r.slot else [])

/-- The descendants of an updated slot: restored with TREE, else STALE (R439, R440). -/
def State.afterLoad (s : State) (r : VaultReq) : State :=
  let t := s.staleDescendants r.slot
  if r.tree then (s.descendants r.slot).foldl State.restoreSlot t else t

/-- The effects of an update, made visible together at the end of phase 2 (R443). -/
def State.applyUpdate (s : State) (r : VaultReq) (key : List Byte) (cert : Bool) : State :=
  if r.code = 1 then (s.loadKey r.slot key r.ctx 1 false).afterLoad r
  else if r.code = 2 then (if (s.slot r.slot).state = 2 then s.slotLeaves r.slot 4 1
      else s.updSlot r.slot (fun x => { x with state := 4, cause := 1, key := [] })).staleDescendants r.slot
  else if r.code = 3 then ((s.useSlot r.wslot).loadKey r.slot key (List.replicate 12 0) 2 false).afterLoad r
  else if r.code = 5 then (s.loadKey r.slot key r.ctx 3 cert).afterLoad r
  else if r.code = 8 then (s.loadKey r.slot key r.ctx 1 false).loadKey r.wslot key r.ctx 1 false
  else s

/-- The end of an NTS request: a rotation's derivation chooses its switch tick (R381 step 3), and the journal carries it; or it
fails. -/
def State.ntsUpdateEnd (s : State) (r : VaultReq) (ok : Bool) : State :=
  match s.nts.rot with
  | some t => if r.code = 8 ∧ t.pos = r.pos then
      (if ok then
        let c := s.raw + s.get F.RCP_LEAD.LEAD
        let d := (s.hrt.cur.dtime (c * 512)).getD 0
        let a := { s with nts := { s.nts with rot := some { t with switch := some c } } }
        let b := match s.currentPos with | some p => a.journalPos p 2 (s.npos p).gen d | none => a
        b.journalPos r.pos 1 r.gen d
       else s.failRotation r.pos)
      else s
  | none => s

/-- R465: once the WRAP slot is agreed, the active exports the pair's parent under it (R434) and sends the blob. -/
def State.pairUpdateEnd (s : State) (r : VaultReq) (ok : Bool) : State :=
  let p := s.get F.PAIR_KEY.PSLOT
  let w := s.slot r.slot
  if r.code = 5 ∧ ok ∧ s.role = 1 ∧ w.state = 2 ∧ w.cert ∧ (s.slot p).state = 2 ∧ 2 ≤ p then
    (((s.useSlot p).useSlot r.slot).sendRecord 0x25 (bytesOf [2, 0, 1, 0] ++ sliceB (Config.keyWrap (w.key.take 32) (s.slot p).key) 0 72))
  else s

/-- Take the front update off the queue with a RESULT. -/
def State.popUpdate (s : State) (r : VaultReq) (result : Nat) (stale : Bool) : State :=
  let a := { s with kvt := { s.kvt with queue := s.kvt.queue.drop 1, opened := none, stale := false } }
  let b := if r.by_ < 9 then a.opEnd r.by_ result stale else if r.by_ = 10 then a.pairUpdateEnd r (result == 0) else a.ntsUpdateEnd r (result == 0)
  b.showQueue

/-- Phase 1 of the front update (R443): the undo entries, then the header. -/
def State.openUpdate (s : State) : State :=
  match s.kvt.queue.head? with
  | none => s
  | some r =>
    if s.kvt.opened.isSome ∨ s.bit F.KVT_STAT.HOLDOK = false then s
    else match s.computeUpdate r with
      | .error e => s.popUpdate r e false
      | .ok k =>
        let undo := (s.updateSlots r).map (fun n => (n, s.kstore.rec? n))
        let a := s.updStore (fun st => { st with seq := st.seq + 1, undo := some (undo, st.pos, st.seq + 1) })
        { a with kvt := { a.kvt with opened := some k, stale := false } }.showQueue

/-- Phase 2 of the front update: the new records, the header with PHASE 0, and the effects. -/
def State.closeUpdate (s : State) : State :=
  match s.kvt.queue.head?, s.kvt.opened with
  | some r, some (key, cert) =>
    let stale := r.code = 3 ∧ (s.slot r.wslot).state ≠ 2
    let a := s.applyUpdate r key cert
    let b := (a.storeSlots (a.updateSlots r)).updStore (fun st => { st with undo := none, pos := if r.code = 9 then s.nts.pos else st.pos })
    b.popUpdate r 0 stale
  | _, _ => s

/-- R444 in power-fail: an update in phase 2 is finished on the hold-up, one in phase 1 is abandoned. -/
def State.vaultPowerFail (s : State) : State := if s.kvt.opened.isSome then s.closeUpdate else s

/-- Cut a header with PHASE 1 at power-up (R444): every undo entry is written back. -/
def KvtStore.rollback (k : KvtStore) : KvtStore × Bool :=
  match k.undo with
  | none => (k, false)
  | some (l, pos, _) => ({ l.foldl (fun k p => k.put p.1 p.2) k with undo := none, pos := pos }, true)

/-! Start, zeroise, the test root. -/

/-- R423: slots 0 and 1. -/
def State.rootSlots (s : State) : State :=
  let t := s.bit F.KVT_STAT.DBG
  let a := s.updSlot 0 (fun x => { x with state := 2, use := 3, key := kdf s.fusedRoot (rootCtx s.nv.zepoch), ctx := rootCtx s.nv.zepoch, test := t })
  a.updSlot 1 (fun x => { x with state := 2, use := 1, depth := 1, key := kdf s.fusedRoot rcpCtx, ctx := rcpCtx, test := t })

/-- Define the slots of the VAULT section, with no key (R110, R422, R424). -/
def State.defineSlots (s : State) : State :=
  let v := vaultEntries s.rcp.sections
  let depth := fun (n : Nat) => ([1, 2, 3, 4].find? (fun k => reachesRoot v k n)).getD 4
  v.foldl (fun t e => t.updSlot e.1 (fun _ => { state := 1, parent := e.2.1, use := e.2.2.1, label := e.2.2.2, depth := depth e.1, ctx := leBytes 4 e.2.2.2 ++ leBytes 8 0 })) s

/-- R428, R429: give one defined slot its key at start. -/
def State.startSlot (s : State) (n : Nat) : State :=
  let x := s.slot n
  let r := (s.kstore.rec? n).filter (fun r => r.parent == x.parent && r.use == x.use)
  let t := s.bit F.KVT_STAT.DBG
  match r with
  | some r =>
    let y := { x with ctx := r.ctx, kgen := r.kgen, origin := r.origin, cert := r.cert, test := t }
    if r.invalid then s.updSlot n (fun _ => { y with state := 4, cause := 1 })
    else if 2 ≤ r.origin then
      match Config.keyUnwrap s.storageKey r.copy with
      | some k => s.updSlot n (fun _ => { y with state := 2, key := k })
      | none => s.updSlot n (fun _ => { y with state := 1 })
    else if (s.slot x.parent).state = 2 then s.updSlot n (fun _ => { y with state := 2, origin := 1, key := kdf (s.slot x.parent).key r.ctx })
    else s.updSlot n (fun _ => { y with state := 3, origin := 1 })
  | none =>
    if (s.slot x.parent).state = 2 then
      s.updSlot n (fun _ => { x with state := 2, origin := 1, test := t, key := kdf (s.slot x.parent).key x.ctx })
    else s.updSlot n (fun _ => { x with state := 3, origin := 1, test := t })

/-- The defined slots in ascending depth, then slot number. -/
def State.slotsByDepth (s : State) : List Nat :=
  [1, 2, 3, 4].flatMap (fun d => (List.range 256).filter (fun n => decide (2 ≤ n) && (s.slot n).state != 0 && (s.slot n).depth == d))

/-- Take the positions of the store (R384). -/
def State.restorePositions (s : State) : State :=
  let t := { s with nts := { s.nts with pos := s.kstore.pos } }
  let u := (List.range 4).foldl State.showPos t
  match u.currentPos with
  | some p => u.set F.NTS_STAT.CUR p
  | none => u

/-- Discard the records that differ from the recipe (R428). -/
def State.pruneRecords (s : State) : State :=
  let bad := s.kstore.recs.filter (fun r => (s.slot r.slot).state != 0 && ((s.slot r.slot).parent != r.parent || (s.slot r.slot).use != r.use))
  if bad.isEmpty then s
  else (s.updStore (fun k => bad.foldl (fun k r => k.put r.slot none) k)).kvtFlag F.KVT_STAT.RESTORE 0

/-- Step 3 of R130: the vault defines and derives every slot of the recipe. -/
def State.vaultStart (s : State) : State :=
  let a := s.defineSlots.pruneRecords
  (a.slotsByDepth.foldl State.startSlot a).restorePositions

/-- AON power-on: an update cut short is rolled back, and the roots are derived (R423, R444). -/
def State.vaultPowerOn (s : State) : State :=
  let k := s.nv.kvt.rollback
  let a := { s with nv := { s.nv with kvt := k.1 } }
  let b := (a.set F.KVT_STAT.ZEPOCH a.nv.zepoch).setBit F.KVT_STAT.ZEPMAX a.nv.zepMax
  let c := b.rootSlots
  if k.2 then c.kvtFlag F.KVT_STAT.ROLLBACK 0 else c

/-- End every lane operation in flight as REFUSED and erase the caches (R447 step 2). -/
def Lane.erase (l : Lane) : Lane := { l with cache := [], refused := l.refused || l.op.isSome }

/-- Whether a slot's path to slot 0 holds an imported or agreed slot. -/
def State.loadedPath (s : State) : Nat → Nat → Bool
  | 0, _ => false
  | k + 1, n => decide (2 ≤ n) && (decide (2 ≤ (s.slot n).origin) || s.loadedPath k (s.slot n).parent)

/-- Zeroise (R447). -/
def State.zeroise (s : State) : State :=
  if !s.supply.on then s else
  let lost := (List.range 256).filter (fun n => s.loadedPath 4 n)
  let a := { s with pke := { s.pke with lanes := s.pke.lanes.map Lane.erase } }
  let e := if a.nv.zepoch < 32 then (a.nv.zepoch + 1, false) else (32, true)
  let b := { a with nv := { a.nv with kvt := {}, zepoch := e.1, zepMax := e.2 },
                    nts := { a.nts with pos := List.replicate 4 {}, rot := none, retire := none },
                    kvt := { a.kvt with slots := List.replicate 256 {}, opened := none, queue := [] } }
  let ended := s.kvt.queue.foldl (fun t r => if r.by_ < 9 then t.opEnd r.by_ 4 false else t) b
  let c := (((List.range 4).foldl State.showPos ended).sets [(F.NTS_STAT.ROTBUSY, 0), (F.NTS_ROTCTRL.ROTATE, 0), (F.KVT_STAT.ZEPOCH, e.1)]).setBit F.KVT_STAT.ZEPMAX e.2
  let d := c.rootSlots.defineSlots
  let f := d.slotsByDepth.foldl (fun t n =>
    if lost.contains n then t.updSlot n (fun x => { x with state := 1, cause := 3 }) else t.startSlot n) d
  (f.set F.KVT_CTRL.ZEROISE 0).showQueue.kvtFlag F.KVT_STAT.ZEROISED 0

/-- R448: DBG_EN is set: the test root replaces the fused root. -/
def State.enterDebug (s : State) : State :=
  if s.bit F.KVT_STAT.DBG then s
  else
    let a := if s.kvt.opened.isSome then s.closeUpdate else s
    let b := (List.range 256).foldl (fun t n => t.slotLeaves n 3 0) a
    let c := { b with kvt := { b.kvt with slots := List.replicate 256 {} } }
    let d := c.sets [(F.KVT_STAT.DBG, 1), (F.NTS_STAT.TESTKEY, 1), (F.GLB_DBG.DBG_EN, 1), (F.GLB_DBG.TAPACT, 1)]
    d.rootSlots.vaultStart

/-- R425: the 32-byte descriptor of a slot. -/
def State.descriptor (s : State) (n : Nat) : List Byte :=
  let x := s.slot n
  let busy := s.pke.lanes.any (fun l => match l.op with | some o => o.1.slot == some n | none => false)
  let fl := (if x.test then 1 else 0) + (if x.cert then 2 else 0) + (if (s.kstore.rec? n).isSome then 4 else 0) + (if busy then 8 else 0)
  leBytes 1 n ++ leBytes 1 x.parent ++ leBytes 1 x.use ++ leBytes 1 x.state ++ leBytes 1 x.depth ++ leBytes 1 x.origin ++ leBytes 1 fl ++
    leBytes 1 x.cause ++ sliceB (if x.origin = 2 then [] else x.ctx) 0 12 ++ leBytes 4 x.kgen ++ leBytes 4 x.uses ++
    (if n = 0 ∨ x.state ≠ 2 then leBytes 4 0 else sliceB (Config.hmac x.key ascKchk) 0 4)

/-- R436: a stored key fails its integrity check. -/
def State.cellFault (s : State) (n : Nat) : State :=
  if (s.slot n).state = 2 then ((s.slotLeaves n 4 2).staleDescendants n).kvtFlag F.KVT_STAT.CELLFLT n else s

end Sys2Proof.Machine
end

