-- ==== Sys2Proof/Machine/PortOps.lean ====
section
/-! DEFINITION. Ports (spec/11_ports.md): replicas and their pairs, stamps and records, asymmetry, frames and their headers. -/

namespace Sys2Proof.Machine

/-! Ports and islands. -/

/-- A port's inner state. -/
def State.pt (s : State) (n : Nat) : PortSt := s.port.getD n {}

/-- Change a port's inner state. -/
def State.updPort (s : State) (n : Nat) (f : PortSt → PortSt) : State := { s with port := modAt s.port n f }

/-- An island by its route. -/
def State.isle (s : State) (r : Nat) : Route := s.tb.routes.getD r {}

/-- An island's replica now, in crumbs. -/
def State.replica (s : State) (r : Nat) : Nat := ((s.raw : Int) + (s.isle r).repOff).toNat * 512

/-- The pair an island expects to be in force at a reading in crumbs (R50, R51, R323). -/
def State.islePair (s : State) (r crumbs : Nat) : Option Pair :=
  let i := s.isle r
  if i.missing then none
  else match i.pend with
    | some p => if p.commit * 512 ≤ crumbs then some p else (i.cur.map (fun c => if c.commit * 512 ≤ crumbs then c else s.pairAt crumbs))
    | none => i.cur.map (fun c => if c.commit * 512 ≤ crumbs then c else s.pairAt crumbs)

/-- The pair of a generation, among those kept (R220). -/
def State.pairOf (s : State) (gen : Nat) : Pair :=
  match s.hrt.pend with
  | some (p, _) => if p.gen = gen then p else (s.hrt.history.find? (fun q => q.gen == gen)).getD s.hrt.cur
  | none => (s.hrt.history.find? (fun q => q.gen == gen)).getD s.hrt.cur

/-- The DTIME of a stamp record under the pair of its GEN; zero before the epoch. -/
def State.recTime (s : State) (r : StampRec) : Nat := ((s.pairOf r.gen).dtime r.raw).getD 0

/-- Whether a record names no usable instant (R310). -/
def StampRec.bad (r : StampRec) : Bool := r.flags % 16 != 0

/-- The register fields that SVC loads. -/
def svcFields : List Fld :=
  [F.APD_OFFSET.NTS, F.APD_OFFSET.PTP, F.APD_RETRY.RETRY, F.NTS_CFG.NTS, F.PTP_CFG.PROFILE, F.PTP_CFG.ONESTEP, F.PTP_CFG.DOMAIN, F.PTP_CFG.SDOID]

/-- The state a request is processed under (R122): one stamped before the latest switch of SVC finds the values of before it. -/
def State.svcOf (s : State) (r : StampRec) : State :=
  if r.bad = false ∧ r.raw < s.rcp.switchTick * 512 then s.sets (svcFields.zip s.rcp.oldSvc) else s

/-- RES of a port mode in ps (R309). -/
def portRes (mode : Nat) : Nat := if mode = 1 then 250 else if mode = 2 then 400 else 1200

/-- A unit interval in crumbs (R299). -/
def uiCrumbs (mode : Nat) : Rat :=
  if mode = 1 then 320000000000 / 25781250000 else if mode = 2 then 320000000000 / 10312500000 else 256

/-- Whether an enabled channel of KIND 0x06 names a port. -/
def State.upstreamPort (s : State) (n : Nat) : Bool :=
  (List.range 16).any (fun c => s.kind c == 6 && s.bit (F.REF_CFG.EN c) && s.get (F.REF_CFG.PORT c) == n)

/-- U_ASYM of a port (R312); unbounded while LATOK is 0. -/
def State.uAsym (s : State) (n : Nat) : Nat :=
  if !s.bit (F.PRT_STAT.LATOK n) then unbounded
  else errbSum [portRes (s.get (F.PRT_STAT.MODE n)), s.get (F.PRT_PLANEUNC.UNC n),
    if s.upstreamPort n then s.get (F.PRT_LINKUNC.UNC n) else 0]

/-- Bring PRT_UASYM up to date. -/
def State.showUasym (s : State) : State := (List.range 4).foldl (fun t n => t.set (F.PRT_UASYM.UASYM n) (t.uAsym n)) s

/-- The flags of R310 that an island's condition gives. -/
def State.isleFlags (s : State) (r : Nat) (latOk : Bool) : Nat :=
  (if (s.isle r).usable.isNone then 1 else 0) + (if (s.isle r).lost then 2 else 0) + (if latOk then 0 else 4) +
    (if s.bit (F.HRT_TB_ROUTE.VALID r) then 0 else 8)

/-- A record of an instant at an island: RAW is 0 under NOVALID, GEN is the pair in force at RAW or the last valid one. -/
def State.makeRec (s : State) (r port raw errb flags tag : Nat) : StampRec :=
  let gen := match s.islePair r raw with
    | some p => p.gen
    | none => ((s.isle r).cur.map Pair.gen).getD 0
  { raw := if flags / 8 % 2 = 1 then 0 else raw, errb := errb, gen := gen, flags := flags, port := port, tag := tag }

/-- ERRB that a port publishes: its island's, plus U_ASYM (R268). -/
def State.portErrb (s : State) (n : Nat) : Nat :=
  errbSum [if (s.isle (n + 1)).lost then unbounded else (s.isle (n + 1)).errb, s.uAsym n]

/-- R306, R307: the receive stamp of a word edge (crumbs of the replica) and bit index. -/
def State.rxStamp (s : State) (n edge b : Nat) : Nat :=
  let at16 := roundUpHalf (16 * ((edge : Rat) - s.get (F.PRT_LAT.RXLAT n) + b * uiCrumbs (s.get (F.PRT_STAT.MODE n)) - s.get (F.PRT_PLANE.RXDLY n)))
  crumbOf at16.toNat

/-- The transmit stamp of a word edge and bit index. -/
def State.txStamp (s : State) (n edge b : Nat) : Nat :=
  let at16 := roundUpHalf (16 * ((edge : Rat) + s.get (F.PRT_LAT.TXLAT n) + b * uiCrumbs (s.get (F.PRT_STAT.MODE n)) + s.get (F.PRT_PLANE.TXDLY n)))
  crumbOf at16.toNat

/-- The 24 bytes of a record (R310). -/
def StampRec.bytes (r : StampRec) : List Byte :=
  rawBytes r.raw ++ leBytes 4 r.errb ++ leBytes 1 r.gen ++ leBytes 1 r.flags ++ leBytes 1 r.port ++ [0] ++ leBytes 2 r.tag ++ [0, 0]

/-- R318: raise a PRT_STAT bit. -/
def State.prtFlag (s : State) (f : Fld) (n : Nat) (detail : Nat := 0) : State := s.flag f (32 + n) n detail

/-! Frames. -/

/-- A port's MAC address in wire order (GLB_MAC): the base for MG0 (4), the base plus n + 1 for PTn. -/
def portMac (n : Nat) : List Byte := beBytes 6 ((beNat (leBytes 6 Config.mac) + (if n = 4 then 0 else n + 1)) % 2 ^ 48)

/-- The clockIdentity: the EUI-64 of the base MAC address. -/
def clockId : List Byte := let m := portMac 4; m.take 3 ++ bytesOf [0xFF, 0xFE] ++ m.drop 3

/-- Where an EtherType lies: after at most one VLAN tag. -/
def etOff (f : List Byte) : Nat := if beAt f 12 2 = 0x8100 then 16 else 12

/-- The EtherType. -/
def etype (f : List Byte) : Nat := beAt f (etOff f) 2

/-- IP version: 0, 4 or 6. -/
def ipVer (f : List Byte) : Nat := if etype f = 0x0800 then 4 else if etype f = 0x86DD then 6 else 0

/-- Walk IPv6 extension headers, up to 64 bytes of them: the next header, its offset, and whether a fragment other than the
first was met. -/
def walkV6 (f : List Byte) : Nat → Nat → Nat → Nat → Bool → Nat × Nat × Bool
  | 0, nh, o, _, fr => (nh, o, fr)
  | k + 1, nh, o, used, fr =>
    let n := if nh = 44 then 8 else if nh = 51 then (byteAt f (o + 1) + 2) * 4 else (byteAt f (o + 1) + 1) * 8
    if (nh = 0 ∨ nh = 43 ∨ nh = 44 ∨ nh = 51 ∨ nh = 60) ∧ used + n ≤ 64 then
      walkV6 f k (byteAt f o) (o + n) (used + n) (fr || (nh == 44 && decide (8 ≤ beAt f (o + 2) 2)))
    else (nh, o, fr)

/-- The transport protocol, its offset, and whether the frame is a later fragment. -/
def layer4 (f : List Byte) : Nat × Nat × Bool :=
  let l3 := etOff f + 2
  match ipVer f with
  | 4 => (byteAt f (l3 + 9), l3 + byteAt f l3 % 16 * 4, beAt f (l3 + 6) 2 % 8192 != 0)
  | 6 => walkV6 f 8 (byteAt f (l3 + 6)) (l3 + 40) 0 false
  | _ => (0, l3, false)

/-- The offset of the payload: after the UDP or TCP header, or after the EtherType for PTP over 802.3; none where there is none. -/
def payloadOff (f : List Byte) : Option Nat :=
  let l := layer4 f
  if ipVer f = 0 then (if etype f = 0x88F7 then some l.2.1 else none)
  else if l.2.2 then none
  else if l.1 = 17 then some (l.2.1 + 8)
  else if l.1 = 6 then some (l.2.1 + byteAt f (l.2.1 + 12) / 16 * 4)
  else none

/-- The payload of a frame: for UDP as long as its length field says. -/
def payloadOf (f : List Byte) : List Byte :=
  match payloadOff f with
  | none => []
  | some o =>
    let l := layer4 f
    if ipVer f ≠ 0 ∧ l.1 = 17 then (f.drop o).take (beAt f (l.2.1 + 4) 2 - 8) else f.drop o

/-- The bytes before the payload of a reply: the request's, with addresses and ports exchanged and the port's own MAC as the
source. -/
def replyHead (f : List Byte) (mac : List Byte) : List Byte :=
  let o := (payloadOff f).getD 14
  let h := f.take o
  let a := putAt (putAt h 0 (sliceB h 6 6)) 6 mac
  let l3 := etOff f + 2
  let l4 := (layer4 f).2.1
  let b := if ipVer f = 4 then putAt (putAt a (l3 + 12) (sliceB h (l3 + 16) 4)) (l3 + 16) (sliceB h (l3 + 12) 4)
    else if ipVer f = 6 then putAt (putAt a (l3 + 8) (sliceB h (l3 + 24) 16)) (l3 + 24) (sliceB h (l3 + 8) 16) else a
  if ipVer f ≠ 0 ∧ (layer4 f).1 = 17 then putAt (putAt b l4 (sliceB h (l4 + 2) 2)) (l4 + 2) (sliceB h l4 2) else b

/-- The ones'-complement sum of 16-bit words. -/
def inetSum : List Byte → Nat
  | a :: b :: t => a.toNat * 256 + b.toNat + inetSum t
  | [a] => a.toNat * 256
  | [] => 0

/-- The internet checksum of bytes. -/
def inetCsum (l : List Byte) : Nat :=
  let s := inetSum l
  let f := s % 65536 + s / 65536
  65535 - (f % 65536 + f / 65536)

/-- A frame of header bytes and a payload, with IP and UDP lengths and checksums filled in. -/
def sealFrame (h p : List Byte) : List Byte :=
  let l3 := etOff h + 2
  let l4 := (layer4 h).2.1
  let body := h ++ p
  let ip := if ipVer h = 4 then
      let a := putAt (putAt body (l3 + 2) (beBytes 2 (h.length - l3 + p.length))) (l3 + 10) [0, 0]
      putAt a (l3 + 10) (beBytes 2 (inetCsum (sliceB a l3 (l4 - l3))))
    else if ipVer h = 6 then putAt body (l3 + 4) (beBytes 2 (h.length - l3 - 40 + p.length)) else body
  if ipVer h ≠ 0 ∧ (layer4 h).1 = 17 then
    let n := h.length - l4 + p.length
    let u := putAt (putAt ip (l4 + 4) (beBytes 2 n)) (l4 + 6) [0, 0]
    let addrs := if ipVer h = 4 then sliceB u (l3 + 12) 8 else sliceB u (l3 + 8) 32
    let c := inetCsum (addrs ++ beBytes 2 17 ++ beBytes 2 n ++ u.drop l4)
    putAt u (l4 + 6) (beBytes 2 (if c = 0 then 65535 else c))
  else ip

/-- The source address bytes of a frame's IP header (four or sixteen). -/
def srcAddr (f : List Byte) : List Byte :=
  let l3 := etOff f + 2
  if ipVer f = 4 then sliceB f (l3 + 12) 4 else if ipVer f = 6 then sliceB f (l3 + 8) 16 else sliceB f 6 6

/-- The destination address bytes. -/
def dstAddr (f : List Byte) : List Byte :=
  let l3 := etOff f + 2
  if ipVer f = 4 then sliceB f (l3 + 16) 4 else if ipVer f = 6 then sliceB f (l3 + 24) 16 else sliceB f 0 6

/-! ARP, NDP and echo (R139, R347). -/

/-- Answer an ARP request, an IPv4 or IPv6 echo request, or a neighbour solicitation for one of the addresses; none where the
frame asks for nothing of the kind. -/
def echoReply (f : List Byte) (mac : List Byte) (addrs : List (List Byte)) : Option (List Byte) :=
  let l3 := etOff f + 2
  let l4 := (layer4 f).2.1
  if etype f = 0x0806 then
    if beAt f (l3 + 6) 2 = 1 ∧ addrs.contains (sliceB f (l3 + 24) 4) then
      some (sliceB f 6 6 ++ mac ++ (f.take l3).drop 12 ++ sliceB f l3 6 ++ beBytes 2 2 ++ mac ++ sliceB f (l3 + 24) 4 ++ sliceB f (l3 + 8) 10)
    else none
  else if ipVer f = 4 ∧ (layer4 f).1 = 1 ∧ byteAt f l4 = 8 ∧ addrs.contains (dstAddr f) then
    let a := putAt (putAt f 0 (sliceB f 6 6)) 6 mac
    let b := putAt (putAt a (l3 + 12) (dstAddr f)) (l3 + 16) (srcAddr f)
    let c := putAt b l4 [0, 0, 0, 0]
    some (putAt c (l4 + 2) (beBytes 2 (inetCsum (c.drop l4))))
  else if ipVer f = 6 ∧ (layer4 f).1 = 58 ∧ byteAt f l4 = 128 ∧ addrs.contains (dstAddr f) then
    let a := putAt (putAt f 0 (sliceB f 6 6)) 6 mac
    let b := putAt (putAt a (l3 + 8) (dstAddr f)) (l3 + 24) (srcAddr f)
    let c := putAt b l4 (bytesOf [129, 0, 0, 0])
    some (putAt c (l4 + 2) (beBytes 2 (inetCsum (sliceB c (l3 + 8) 32 ++ beBytes 4 (c.length - l4) ++ beBytes 4 58 ++ c.drop l4))))
  else if ipVer f = 6 ∧ (layer4 f).1 = 58 ∧ byteAt f l4 = 135 ∧ addrs.contains (sliceB f (l4 + 8) 16) then
    let tgt := sliceB f (l4 + 8) 16
    let head := sliceB f 6 6 ++ mac ++ (f.take l3).drop 12 ++ sliceB f l3 4 ++ beBytes 2 32 ++ bytesOf [58, 255] ++ tgt ++ srcAddr f
    let na := bytesOf [136, 0, 0, 0, 0x60, 0, 0, 0] ++ tgt ++ bytesOf [2, 1] ++ mac
    some (head ++ putAt na 2 (beBytes 2 (inetCsum (tgt ++ srcAddr f ++ beBytes 4 32 ++ beBytes 4 58 ++ na))))
  else none

/-! Counters of abandonment and contexts. -/

/-- A context by its number. -/
def State.ctx? (s : State) (id : Nat) : Option Ctx := s.pke.ctxs.find? (fun x => x.id == id)

/-- Change a context. -/
def State.updCtx (s : State) (id : Nat) (f : Ctx → Ctx) : State :=
  { s with pke := { s.pke with ctxs := s.pke.ctxs.map (fun x => if x.id = id then f x else x) } }

/-- R368: DRAINED sets once no context is held while DRAIN is 1. -/
def State.showDrained (s : State) : State :=
  s.setBit F.PKE_STAT.DRAINED (s.bit F.PKE_CTRL.DRAIN && s.pke.ctxs.isEmpty)

/-- Free a context and its lane operations; the engine's count falls. -/
def State.freeCtx (s : State) (id : Nat) : State :=
  match s.ctx? id with
  | none => s
  | some x =>
    let a := { s with pke := { s.pke with ctxs := s.pke.ctxs.filter (fun y => y.id != id), laneQ := s.pke.laneQ.filter (fun o => o.ctx != id) } }
    let b := if x.engine < 16 then a.set (F.PKE_ENG.CTX x.engine) ((a.pke.ctxs.filter (fun y => y.engine == x.engine)).length) else a
    b.showDrained

/-- Allocate a context. -/
def State.newCtx (s : State) (f : Nat → Ctx) : State :=
  let x := f s.pke.nextCtx
  let a := { s with pke := { s.pke with ctxs := s.pke.ctxs ++ [x], nextCtx := s.pke.nextCtx + 1 } }
  let b := if x.engine < 16 then a.set (F.PKE_ENG.CTX x.engine) ((a.pke.ctxs.filter (fun y => y.engine == x.engine)).length) else a
  (b.engineEvent x.engine 0xA).showDrained

/-- R342: raise an APD_PSTAT bit, with LASTCAUSE. -/
def State.apdFlag (s : State) (f : Fld) (n : Nat) : State := s.flag f (38 + n) n (s.get (F.APD_PSTAT.LASTCAUSE n))

/-- Show how many reservations a port holds, and the hold that a planned cut asserts (R337). -/
def State.showCal (s : State) (n : Nat) : State :=
  (s.set (F.APD_PSTAT.PEND n) (s.pt n).cal.length).set (F.APD_PSTAT.HOLD n) (if (s.pt n).cal.any (·.cut) then 1 else 0)

/-- Cancel a context's reservations (R327). -/
def State.cancelResv (s : State) (id : Nat) : State :=
  (List.range 4).foldl (fun t n => (t.updPort n (fun p => { p with cal := p.cal.filter (fun r => r.ctx != id) })).showCal n) s

/-- R327, R359: abandon a request before commit; its reason is counted in the service's own counter. -/
def State.abandon (s : State) (id : Nat) (ctr : Option Fld) : State :=
  let eng := match s.ctx? id with | some x => x.engine | none => 16
  let own := decide (16 ≤ eng)
  let b := ((s.cancelResv id).freeCtx id).engineEvent eng 0xB
  let a := if own then b else b.bump F.APD_SPEC_ABORT.ABORT
  match ctr with
  | some f => a.bump f
  | none => a

/-- Put a frame among those that wait for a gap on a port (R336); MG0 has no gate and sends at once. -/
def State.sendOn (s : State) (n : Nat) (f : TxFrame) : State :=
  if n = 4 then s.emit (.frame 4 f.bytes) else s.updPort n (fun p => { p with waiting := p.waiting ++ [f] })

/-- Queue a lane operation for a context. -/
def State.laneAsk (s : State) (o : LaneOp) : State :=
  let a := match s.ctx? o.ctx with | some x => s.engineEvent x.engine 8 | none => s
  (({ a with pke := { a.pke with laneQ := a.pke.laneQ ++ [o] } } : State).updCtx o.ctx (fun x => { x with ops := x.ops + 1 }))

end Sys2Proof.Machine
end

