-- ==== Sys2Proof/Machine/Servo.lean ====
section
/-! DEFINITION. The commands of the time scale (spec/08_timescale.md): servo updates, the host pair, MAN, UTC and leap
seconds. -/

namespace Sys2Proof.Machine

/-! SRV2, the characteriser (R206, R210, R211). -/

/-- Whether the atomic channel is mapped and not disqualified, so that its gates tell what the sets are fitted to (R206). -/
def State.atomicGates (s : State) : Bool := match s.channelOfKind 8 with | some a => decide (2 ≤ s.qstate a) | none => false

/-- Whether a set trains (R206, R210): CELL (0) and OVEN (1); none while a die sensor has failed (R205). -/
def State.trains (s : State) (n : Nat) : Bool :=
  s.srvEn 2 && s.goodSensors.length == 8 &&
    (if n = 0 then s.cellCond
     else if s.atomicGates then !s.bit F.OSC_STAT.CELL_PROOF && !s.bit F.OSC_STAT.OVEN_PROOF
     else !s.bit F.OSC_STAT.OVEN_PROOF && s.srvState == 2)

/-- The inputs of the fit: the ten sensor values, L̄ and h (R205). -/
def OscSt.inputs (o : OscSt) : List Rat := (List.range 10).map o.input ++ [o.lbar, o.h]

/-- One training sample of a set (R206, R212): quantity fitted, gate length in seconds, DTIME second. -/
def ModelSet.train (m : ModelSet) (inputs : List Rat) (y : Rat) (cell len sec : Nat) (pred : Rat) : ModelSet :=
  let m := m.endDay (sec / 86400)
  let w : Rat := m.weight + len
  let means := (List.range 10).map (fun i => m.means.getD i 0 + (inputs.getD i 0 - m.means.getD i 0) * len / w)
  let e := (lookup cell m.map).getD (0, 0, 0)
  let day := sec / 86400
  let d := if m.day.1 = day then m.day else (day, 0, 0)
  { m with
    fit := Config.rlsStep m.fit inputs y
    means := means
    weight := w
    resid := ((y - pred) :: m.resid).take 3600
    map := insertAt cell (min 65535 (e.1 + len), e.2.1 + pred * len, e.2.2 + len) m.map
    day := (day, d.2.1 + len, d.2.2 + (y - pred) * len) }

/-- Train a set with a gate. -/
def State.trainSet (s : State) (n : Nat) (y : Rat) (len : Nat) : State :=
  { s with osc := { s.osc with sets := modAt s.osc.sets n (fun m => m.train s.osc.inputs y s.cellNow len s.dsec (s.modelY n)) } }

/-- ŷ_AT and its uncertainty from the valid gates of the last 4,096 s (R211). Each entry is (tick, y_AT − y_s, seconds). -/
def State.updateYat (s : State) (v : Rat) (len : Nat) : State :=
  let gs := ((s.raw, v, len) :: s.osc.gates).filter (fun g => decide (s.raw < g.1 + 4096 * 625000000))
  let since := s.osc.sinceDiscard + len
  let n : Rat := gs.length
  let m := meanR (gs.map (fun g => g.2.1))
  let se : Rat := if gs.length < 2 then (s.freeVal : Rat) / 1000000000000000000 else sqrtR (sumR (gs.map (fun g => (g.2.1 - m) * (g.2.1 - m))) / ((n - 1) * n))
  let full := !s.osc.discarded || decide (4096 ≤ since)
  let u := if full then max 10000 (ceilR ((se + (s.mset 0).sigFit) * 1000000000000000000)).toNat else 10000000
  let o := { s.osc with gates := gs, sinceDiscard := since, discarded := !full, yat := m, frozenAt := s.raw }
  let a := { s with osc := o }
  let b := if gs.length < 2 then a.useFree else a
  (b.setI F.OSC_YAT.YAT (roundAway (m * 1000000000000000000))).setSat F.OSC_YAT_U.U u

/-- SRV2's update at a gate boundary of the atomic channel (R206, R210, R211); with none mapped, or with it disqualified, at each
second of raw time, on the mean rate of the second that ends. -/
def State.characterise (s : State) : State :=
  match (if s.atomicGates then s.channelOfKind 8 else none) with
  | some a =>
    match (s.rf a).gate with
    | none => s
    | some g =>
      if g.tick ≤ (s.sv 2).lastResult then s
      else
        let s := s.updSrv 2 (fun v => { v with lastResult := g.tick })
        let len := g.ms / 1000
        let r := (meanRate s.hrt.history (g.tick - g.ms * 625000) g.tick).1
        let yAT := (1 + g.y) / (1 + r) - 1
        let ys := s.modelY 0
        let t := if s.trains 0 then s.trainSet 0 (yAT - s.osc.yat) len else s
        let u := if s.srvEn 2 && s.cellCond then t.updateYat (yAT - ys) len else t
        if s.trains 1 then u.trainSet 1 (-g.y) len else u
  | none =>
    if s.trains 1 && s.raw % 625000000 == 0 && decide ((s.sv 2).lastResult < s.raw) then
      (s.updSrv 2 (fun v => { v with lastResult := s.raw })).trainSet 1 (-(meanRate s.hrt.history (s.raw - 625000000) s.raw).1) 1
    else s

/-- SRV0's own update, journaled (R225, R230, R460); ŷ restarts after a time with no channel. -/
def State.mainUpdate (s : State) (since : Nat) : State :=
  let st := s.srvState
  let s := s.setBit (F.HRT_SRV_STAT.NOREF 0) s.sel.sel.isNone
  let idle := fun (t : State) => t.updSrv 0 (fun v => { v with chan := none })
  if st = 0 then ((idle s.freeUpdate).setBit (F.HRT_SRV_STAT.NOREF 0) s.sel.sel.isNone).journalChanges.journalUpdate true 0
  else if st = 3 then (idle s.holdUpdate).journalChanges.journalUpdate true 0
  else if st = 1 ∨ st = 2 then
    match s.sel.sel with
    | none => (idle s).journalChanges.journalUpdate false 0
    | some c =>
      let rs := s.newResults c since
      ((if rs.isEmpty then s else s.followUpdate c rs).journalChanges.journalUpdate false rs.length).movePhi.journalChanges
  else idle s

/-- SRV_UPDATE (R225): an enabled instance updates once at each raw tick that is a multiple of its period. SRV2 updates at the
atomic channel's gate boundaries, whatever its period. -/
def execSrvUpdate (n : Nat) (s : State) : Result :=
  onUnit (decide (n < 4)) (s.when (s.srvEn n) (fun s =>
    if n = 2 then s.characterise.updSrv 2 (fun v => { v with lastTick := s.raw })
    else if s.srvP n = 0 ∨ s.raw % s.srvP n ≠ 0 ∨ s.raw = (s.sv n).lastTick then s
    else if n = 0 ∧ s.inStep then s
    else
      let s := if s.bit (F.HRT_SRV_CTRL.CLRI n) then
          (s.updSrv n (fun v => { v with i := v.r })).set (F.HRT_SRV_CTRL.CLRI n) 0 else s
      let since := (s.sv n).lastTick
      let t :=
        if n = 0 then s.mainUpdate since
        else
          let input := if n = 1 then (s.channelOfKind 7).filter (fun c => s.qstate c == 3) else s.sel.sel3
          match input with
          | none => ((s.coastSide n).set (F.HRT_SRV_STAT.NOREF n) 1).set (F.HRT_SRV_STAT.STATE n) 0
          | some c =>
            let rs := s.newResults c since
            if rs.isEmpty then s.coastSide n else s.sideUpdate n c rs
      let u := t.updSrv n (fun v => { v with lastTick := s.raw })
      if n = 0 then u.recompute else u))

/-- A write of HRT_DP_CTRL: GO with its KEY proposes the staged host pair; without KEY it is discarded (R222, R564). -/
def State.writeDpCtrl (s : State) (req : Requester) (data : Nat) : State :=
  if !data.testBit 0 then s
  else if bitsOf data 16 16 ≠ 0x9612 then s.accessError req 6 0x4000A8
  else s.propose true (s.getI F.HRT_DPW_RATE.RATE) (dtimeOf (leBytes 16 (s.get F.HRT_DPW_OFFSET.OFFSET))) (s.get F.HRT_DPW_ANCHOR.ANCHOR) (s.get F.HRT_DP_COMMIT.COMMIT)

/-- DP_GO (R222). -/
def execDpGo (req : Requester) (key : Nat) (s : State) : Result :=
  .next (s.atFabric req (0x4000A8) (·.writeDpCtrl req (1 + key % 65536 * 65536)))

/-- A write of HRT_SRV_CTRL_n: MAN (n = 0) under KEY, STEP_EN, CLRI (R232, R564). -/
def State.writeSrvCtrl (s : State) (req : Requester) (n data : Nat) : State :=
  let man := data.testBit 0
  let changes := n == 0 && man != s.bit (F.HRT_SRV_CTRL.MAN 0)
  if changes ∧ bitsOf data 16 16 ≠ 0x9612 then s.accessError req 6 0x400200
  else if !s.srvEn n then s.accessError req 7 (0x400200 + 0x20 * n)
  else
    let a := if data.testBit 2 then s.set (F.HRT_SRV_CTRL.CLRI n) 1 else s
    if n ≠ 0 then a
    else
      let b := a.setBit (F.HRT_SRV_CTRL.STEP_EN 0) (data.testBit 1)
      if !changes then b
      else
        let c := b.setBit (F.HRT_SRV_CTRL.MAN 0) man
        if man then
          if c.hrt.manClear then { c with hrt := { c.hrt with manClear := false } }
          else if c.hrt.pend.isSome then { c with hrt := { c.hrt with manSet := true } } else c.enterManual
        else if c.hrt.manSet then { c with hrt := { c.hrt with manSet := false } }
        else if c.hrt.pend.isSome then { c with hrt := { c.hrt with manClear := true } } else c.leaveManual

/-- SRV_MAN_WRITE (R232): a write of HRT_SRV_CTRL_0. -/
def execSrvManWrite (req : Requester) (data : Nat) (s : State) : Result :=
  .next (s.atFabric req (0x400200) (fun s => s.writeSrvCtrl req 0 data))

/-- SRV_CLRI (R228, HRT_SRV_CTRL.CLRI): I takes the rate in force at the instance's next update. -/
def execSrvClri (req : Requester) (n : Nat) (s : State) : Result :=
  onUnit (decide (n < 4)) (s.atFabric req (0x400200 + 0x20 * n) (fun s => if !s.srvEn n then s.accessError req 7 (0x400200 + 0x20 * n) else s.set (F.HRT_SRV_CTRL.CLRI n) 1))

/-! UTC and leap seconds. -/

/-- Days since 1970-01-01 as year, month, day of the Gregorian calendar. -/
def civil (days : Nat) : Nat × Nat × Nat :=
  let z := days + 719468
  let era := z / 146097
  let doe := z % 146097
  let yoe := (doe - doe / 1460 + doe / 36524 - doe / 146096) / 365
  let doy := doe - (365 * yoe + yoe / 4 - yoe / 100)
  let mp := (5 * doy + 2) / 153
  let m := if mp < 10 then mp + 3 else mp - 9
  (yoe + era * 400 + (if m ≤ 2 then 1 else 0), m, doy - (153 * mp + 2) / 5 + 1)

/-- Whether a leap at a DTIME second, with the offset that follows it, falls at the end of a UTC month (R237). -/
def monthEnd (leap : Nat) (after : Int) : Bool :=
  let u := (leap : Int) - after
  decide (0 ≤ u) && u % 86400 == 0 && (civil (u.toNat / 86400)).2.2 == 1

/-- R237's conditions on a change to be accepted: LEAP_SEC, deletion, the offset reported before it and the one after. -/
def State.leapOk (s : State) (leap : Nat) (del : Bool) (before after : Int) : Bool :=
  monthEnd leap after && decide (s.dsec + 2 < leap) && decide (leap < s.dsec + 400 * 86400) &&
    before == s.utcOffset && after == before + (if del then -1 else 1)

/-- The offset changes: the previous one and its second are recorded (R235, R238). -/
def State.setUtcOffset (s : State) (o : Int) (sec : Nat) : State :=
  let p := s.utcOffset
  (((s.setI F.HRT_UTC.OFFSET o).set F.HRT_UTC.VALID 1).set F.HRT_UTCPREV.SEC sec).setI F.HRT_UTCPREV_HI.PREV p

/-- Schedule a change (R237). -/
def State.schedLeap (s : State) (leap : Nat) (del : Bool) : State :=
  (((s.set F.HRT_UTC.LEAPPEND 1).setBit F.HRT_UTC.DIR del).set F.HRT_LEAP.SEC leap).hrtFlag F.HRT_STAT.LEAPSCHED

/-- Follow what the followed source states of a change (R237, R238). -/
def State.followChange (s : State) (change : Option (Nat × Bool × Int × Int)) : State :=
  match change with
  | none => s.cancelLeap
  | some (leap, del, before, after) =>
    if s.bit F.HRT_UTC.LEAPPEND && s.get F.HRT_LEAP.SEC == leap && s.bit F.HRT_UTC.DIR == del then s
    else if s.leapStands then s
    else if s.leapOk leap del before after then s.cancelLeap.schedLeap leap del
    else s.cancelLeap.hrtFlag F.HRT_STAT.UTCERR

/-- Take a report into the table and follow the source that now leads (R236 to R239). -/
def State.takeReport (s : State) (src : Nat) (offset : Int) (change : Option (Nat × Bool × Int × Int)) : State :=
  let old := lookup src s.hrt.reports
  let matching := s.bit F.HRT_UTC.LEAPPEND && offset == s.utcOffset + (if s.bit F.HRT_UTC.DIR then -1 else 1)
  let diff := if offset = s.utcOffset ∨ matching then none else some ((old.bind (·.differs)).getD s.raw)
  let r : UtcReport := { offset := offset, change := change.map (fun c => (c.1, c.2.1)), at_ := s.raw, differs := diff }
  let a := { s with hrt := { s.hrt with reports := insertAt src r s.hrt.reports } }
  let lead := a.followedSource
  if s.inStep then a
  else if lead ≠ src then (a.reviewLead false).journalChanges
  else
    let b := a.set F.HRT_UTC.SRC lead
    let d := if !b.bit F.HRT_UTC.VALID && src != 1 then b.setUtcOffset offset b.dsec else b
    (d.followChange change).journalChanges

/-- UTC_SOURCE_REPORT (R236, R237): source 2 GNSS, 3 PTP upstream or 4 IRIG-B states its offset and announces nothing (0), an
insertion (1) or a deletion (2). GNSS states LEAP_SEC and the offset after it; the others mean the end of the current UTC
day. -/
def execUtcSourceReport (src : Nat) (offset : Int) (ann leapSec : Nat) (after : Int) (s : State) : Result :=
  onUnit (decide (2 ≤ src ∧ src ≤ 4))
    (let del := ann == 2
     let next := offset + (if del then -1 else 1)
     let dayEnd := ((((s.dsec : Int) - offset) / 86400 + 1) * 86400 + next).toNat
     s.takeReport src offset (if ann = 0 then none else if src = 2 then some (leapSec, del, offset, after)
       else some (dayEnd, del, offset, next)))

/-- UTC_SOURCE_EXPIRY (R236): a source that no longer counts leaves; another may lead, which may cancel a change (R238). -/
def execUtcSourceExpiry (src : Nat) (s : State) : Result :=
  onUnit (decide (2 ≤ src ∧ src ≤ 4)) (s.when (!s.sourceCounts src) (fun s =>
    let old := match lookup src s.hrt.reports with | none => true | some r => decide (r.at_ + 86400 * 625000000 < s.raw)
    let a := if old then { s with hrt := { s.hrt with reports := dropKey src s.hrt.reports } } else s
    (a.reviewLead true).journalChanges))

/-- LEAP_SEC_REACHED (R238). -/
def execLeapSecReached (s : State) : Result :=
  .next (s.when (s.bit F.HRT_UTC.LEAPPEND && decide (s.get F.HRT_LEAP.SEC ≤ s.dsec)) (fun s =>
    let leap := s.get F.HRT_LEAP.SEC
    let a := s.setUtcOffset (s.utcOffset + (if s.bit F.HRT_UTC.DIR then -1 else 1)) leap
    let b := a.setBit F.HRT_UTC.VALID (s.bit F.HRT_UTC.VALID)
    ((b.sets [(F.HRT_UTC.LEAPPEND, 0), (F.HRT_UTC.DIR, 0), (F.HRT_LEAP.SEC, 0)]).hrtFlag F.HRT_STAT.LEAPDONE).journalChanges))

/-- UTC_DISAGREE_TIMEOUT (R239): the followed source has reported another offset for 60 s. -/
def execUtcDisagreeTimeout (s : State) : Result :=
  .next (match lookup s.followedSource s.hrt.reports with
    | none => s
    | some r => match r.differs with
      | none => s
      | some t => s.when (s.bit F.HRT_UTC.VALID && r.offset != s.utcOffset && decide (t + 60 * 625000000 ≤ s.raw))
          (·.hrtFlag F.HRT_STAT.UTCERR))

/-- HRT_UTCW.SETOFF (R239): the host's report of its offset, which applies at the first disciplined second at least 2 s later. -/
def State.utcwSetoff (s : State) (offset : Int) : State :=
  let d := s.dnow.getD 0
  let sec := (d + 2 * fracPerSec + fracPerSec - 1) / fracPerSec
  let a := s.setI F.HRT_UTCW.OFFSET offset
  let b := { a with hrt := { a.hrt with setoff := some (sec, toSigned 16 (ofSigned 16 offset)) } }
  b.takeReport 1 offset (((lookup 1 b.hrt.reports).bind (·.change)).bind (fun c =>
    if s.dsec < c.1 then some (c.1, c.2, s.utcOffset, s.utcOffset + (if c.2 then -1 else 1)) else none))

/-- UTCW_SETOFF (R239). -/
def execUtcwSetoff (req : Requester) (offset : Int) (s : State) : Result := .next (s.atFabric req 0x400314 (·.utcwSetoff offset))

/-- SETOFF_APPLY (R239). -/
def execSetoffApply (s : State) : Result :=
  .next (match s.hrt.setoff with
    | none => s
    | some (sec, o) => s.when (decide (sec ≤ s.dsec) && !s.inStep) (fun s =>
        ({ s with hrt := { s.hrt with setoff := none } }.setUtcOffset o sec).journalChanges))

/-- HRT_UTCW.SCHED (R237): the host's report of a change at HRT_UTCW_SEC. It states the offset in force before the change. -/
def State.utcwSched (s : State) (del : Bool) : State :=
  let a := s.setBit F.HRT_UTCW.DIR del
  let o := s.utcOffset
  a.takeReport 1 (((lookup 1 a.hrt.reports).map (·.offset)).getD o) (some (a.get F.HRT_UTCW_SEC.SEC, del, o, o + (if del then -1 else 1)))

/-- UTCW_SCHED (R237). -/
def execUtcwSched (req : Requester) (del : Bool) (s : State) : Result := .next (s.atFabric req 0x400314 (·.utcwSched del))

/-- UTCW_CANCEL (R238): the host's report of no change. -/
def execUtcwCancel (req : Requester) (s : State) : Result :=
  .next (s.atFabric req (0x400314) (fun s => s.takeReport 1 (((lookup 1 s.hrt.reports).map (·.offset)).getD s.utcOffset) none))

/-- SECOND_BOUNDARY (R241, R453, R560): HRT_EPOCH_SEC follows disciplined time into a new second; in a pair PPO rises for a
width that tells the role. -/
def execSecondBoundary (s : State) : Result :=
  .next (s.when (decide (s.get F.HRT_EPOCH_SEC.SEC < s.dsec)) (fun s =>
    let a := s.markSecond
    if a.paired then a.emit (.ppo (if a.role = 1 then 300 else 100)) else a))

end Sys2Proof.Machine
end

