-- ==== Sys2Proof/Machine/MsgOps.lean ====
section
/-! DEFINITION. What messages contain: NTP and NTS (spec/14_nts.md), PTP (spec/15_ptp.md), their seals and their keys. -/

namespace Sys2Proof.Machine

/-! NTP. -/

/-- The TAI − UTC offset in force at a DTIME second (R235, R389). -/
def State.offsetAt (s : State) (sec : Nat) : Int :=
  let leap := s.get F.HRT_LEAP.SEC
  if s.bit F.HRT_UTC.LEAPPEND ∧ leap ≤ sec then s.utcOffset + (if s.bit F.HRT_UTC.DIR then -1 else 1)
  else if sec < s.get F.HRT_UTCPREV.SEC then toSigned 16 (s.get F.HRT_UTCPREV_HI.PREV)
  else s.utcOffset

/-- Whether a DTIME second is an inserted second: the one that ends at LEAP_SEC (R235). -/
def State.inserted (s : State) (sec : Nat) : Bool :=
  s.bit F.HRT_UTC.LEAPPEND && !s.bit F.HRT_UTC.DIR && sec + 1 == s.get F.HRT_LEAP.SEC

/-- R389: a DTIME as the 64-bit NTP timestamp. -/
def State.ntpTime (s : State) (d : Nat) : Nat :=
  let sec := dtSec d
  let secs : Int := (sec : Int) - s.offsetAt sec - (if s.inserted sec then 1 else 0) + 2208988800
  let frac := roundUpHalf (((d % fracPerSec : Nat) : Rat) * 4294967296 / 65536000000000)
  ((secs * 4294967296 + frac) % (2 ^ 64 : Int)).toNat

/-- LI (R388): 3 while unsynchronised, the announcement of a leap second, else 0. -/
def State.leapInd (s : State) (errbW d : Nat) : Nat :=
  if errbW = unbounded ∨ s.srvState = 0 then 3
  else
    let leap := s.get F.HRT_LEAP.SEC
    if s.bit F.HRT_UTC.LEAPPEND ∧ leap ≤ dtSec d + 86400 ∧ dtSec d < leap then (if s.bit F.HRT_UTC.DIR then 2 else 1) else 0

/-- R389: Root Dispersion of a bound in ps. -/
def rootDispersion (errb : Nat) : Nat :=
  if errb = unbounded then 0x100000 else (ceilR (((errb + 117 : Nat) : Rat) * 10000 / 152587890625)).toNat

/-- "GNSS" and the other Reference IDs of R388. -/
def refIds (k : Nat) : List Nat :=
  if k = 1 then [0x47, 0x4E, 0x53, 0x53] else if k = 2 then [0x50, 0x50, 0x53, 0] else if k = 3 ∨ k = 5 then [0x46, 0x52, 0x45, 0x51]
  else if k = 4 then [0x49, 0x52, 0x49, 0x47] else if k = 6 then [0x50, 0x54, 0x50, 0] else if k = 9 then [0x50, 0x45, 0x45, 0x52]
  else [0x49, 0x4E, 0x49, 0x54]

/-- Whether the positions are test-grade (R385). -/
def State.testGrade (s : State) : Bool := s.bit F.KVT_STAT.DBG

/-- The Reference ID of a reply (R385, R388). -/
def State.ntpRefId (s : State) (li : Nat) : List Byte :=
  let st := s.srvState
  if s.testGrade then bytesOf [0x58, 0x54, 0x53, 0x54]
  else if s.get F.NTS_REFID.REFID ≠ 0 then leBytes 4 (s.get F.NTS_REFID.REFID)
  else if li = 3 ∨ st = 0 then bytesOf (refIds 0)
  else if st = 1 ∨ st = 2 then bytesOf (refIds (match s.sel.sel with | some c => s.kind c | none => 0))
  else if st = 3 ∧ s.get F.OSC_STAT.HSET = 0 then bytesOf [0x41, 0x54, 0x4F, 0x4D]
  else bytesOf [0x58, 0x4F, 0x53, 0x43]

/-- The 48-byte header of R388 for a request: kind as in Ctx, request payload, bound, T2 as DTIME, and T3 as DTIME. -/
def State.ntpHeader (s : State) (kind : Nat) (req : List Byte) (errbW t2 t3 : Nat) : List Byte :=
  let li := s.leapInd errbW t3
  let vn := byteAt req 0 / 8 % 8
  let nak := kind == 2
  let kiss := kind == 3 || kind == 5
  let bare := nak || kiss
  let strat := if bare then 0 else if li = 3 then 16 else 1
  let refid := if s.testGrade then s.ntpRefId li
    else if nak then bytesOf [0x4E, 0x54, 0x53, 0x4E] else if kiss then bytesOf [0x52, 0x41, 0x54, 0x45] else s.ntpRefId li
  let last := (s.sv 0).lastResult
  let reft := if bare ∨ last = 0 then 0 else s.ntpTime (((s.pairAt (last * 512)).dtime (last * 512)).getD 0)
  beBytes 1 (li * 64 + vn * 8 + 4) ++ beBytes 1 strat ++ sliceB req 2 1 ++ leBytes 1 (s.get F.NTS_SRV.PREC) ++ beBytes 4 0 ++
    beBytes 4 (rootDispersion errbW) ++ refid ++ beBytes 8 reft ++ sliceB req 40 8 ++
    beBytes 8 (if bare then 0 else s.ntpTime t2) ++ beBytes 8 (if bare then 0 else s.ntpTime t3)

/-- An extension field of RFC 7822: type, length, body padded to four bytes. -/
def extField (type : Nat) (body : List Byte) : List Byte :=
  let pad := (4 - body.length % 4) % 4
  beBytes 2 type ++ beBytes 2 (4 + body.length + pad) ++ body ++ List.replicate pad 0

/-- A fresh 16-byte nonce from the cluster's random source (R379). -/
def State.nonce (s : State) : List Byte := leBytes 16 s.freeVal

/-- One new cookie (R376) under a position: KEYID, NONCE, SIV, CT over both keys. -/
def State.newCookie (s : State) (p : Nat) (keys : List Byte) : List Byte :=
  let kid := leBytes 4 (p % 4 + (s.npos p).gen % 2 ^ 30 * 4)
  let mk := (s.slot (s.get (F.NTS_KPOS.ENCSLOT p))).key.take 32
  let n := s.nonce
  kid ++ n ++ sliceB (Config.sivSeal mk [kid, n] keys) 0 80

/-- The new cookie fields of a reply, with fresh nonces. -/
def State.makeCookies (s : State) (p : Nat) (keys : List Byte) : Nat → State × List Byte
  | 0 => (s, [])
  | n + 1 =>
    let c := s.newCookie p keys
    let r := (s.useFree).makeCookies p keys n
    (r.1, extField 0x0204 c ++ r.2)

/-- The unsealed payload of an NTP message: the header, and for NTS the Unique Identifier. -/
def State.ntpBody (s : State) (x : Ctx) (errbW t3 : Nat) : List Byte :=
  s.ntpHeader x.kind x.req errbW (s.recTime x.recd) t3 ++ (if x.kind = 1 ∨ x.kind = 2 ∨ x.kind = 3 then x.uid else [])

/-- The seal of an NTS reply (R375): the authenticator field over the header and identifier, the cookies inside. -/
def State.ntsSeal (s : State) (x : Ctx) (body : List Byte) : State × List Byte :=
  let n := s.nonce
  let ct := Config.sivSeal ((x.key.drop 32).take 32) [body, n] x.fresh
  (s.useFree, body ++ extField 0x0404 (beBytes 2 16 ++ beBytes 2 ct.length ++ n ++ ct))

/-! PTP. -/

/-- The clockIdentity the engine uses (R419). -/
def State.clockIdentity (s : State) : List Byte :=
  if s.bit F.PTP_PAIR.SHAREDID ∧ s.bit F.GLB_STRAP.HOME = false then Config.homeClockId else clockId

/-- The portIdentity of PTP port n + 1. -/
def State.portIdentity (s : State) (n : Nat) : List Byte := s.clockIdentity ++ beBytes 2 (n + 1)

/-- messageType, length, domain, flags, correctionField, sourcePortIdentity, sequenceId and logMessageInterval of a message. -/
def ptpType (m : List Byte) : Nat := byteAt m 0 % 16
def ptpLen (m : List Byte) : Nat := beAt m 2 2
def ptpSdo (m : List Byte) : Nat := byteAt m 0 / 16
def ptpCorr (m : List Byte) : Int := toSigned 64 (beAt m 8 8)
def ptpSource (m : List Byte) : List Byte := sliceB m 20 10
def ptpSeq (m : List Byte) : Nat := beAt m 30 2
def ptpLog (m : List Byte) : Int := toSigned 8 (byteAt m 33)
def ptpTwoStep (m : List Byte) : Bool := (byteAt m 6).testBit 1

/-- The control octet of a message type. -/
def ptpControl (type : Nat) : Nat := if type = 0 then 0 else if type = 1 then 1 else if type = 8 then 2 else if type = 9 then 3 else if type = 13 then 4 else 5

/-- Second flag octet (R415): leap61, leap59, currentUtcOffsetValid, ptpTimescale, timeTraceable, frequencyTraceable. -/
def State.timeFlags (s : State) : Nat :=
  let leap := s.get F.HRT_LEAP.SEC
  let near := s.bit F.HRT_UTC.LEAPPEND && decide (leap ≤ s.dsec + 86400) && decide (s.dsec < leap)
  (if near && !s.bit F.HRT_UTC.DIR then 1 else 0) + (if near && s.bit F.HRT_UTC.DIR then 2 else 0) +
    (if s.bit F.HRT_UTC.VALID then 4 else 0) + 8 + (if s.bit F.PTP_STAT.TRACE then 0x30 else 0)

/-- A 34-byte header. -/
def State.ptpHeader (s : State) (type len flags0 : Nat) (corr : Int) (port seq log : Nat) : List Byte :=
  beBytes 1 (s.get F.PTP_CFG.SDOID * 16 + type) ++ beBytes 1 0x12 ++ beBytes 2 len ++ beBytes 1 (s.get F.PTP_CFG.DOMAIN) ++ [0] ++
    beBytes 1 flags0 ++ beBytes 1 (if type = 0xB then s.timeFlags else 8) ++ beBytes 8 (ofSigned 64 corr) ++ beBytes 4 0 ++ s.portIdentity port ++
    beBytes 2 seq ++ beBytes 1 (ptpControl type) ++ beBytes 1 log

/-- A timestamp field of a DTIME (R403): SEC and NS. -/
def ptpStamp (d : Nat) : List Byte := beBytes 6 (dtSec d % 2 ^ 48) ++ beBytes 4 (dtNs d)

/-- R416: the bound TLV. -/
def State.boundTlv (s : State) (errb : Nat) (coarse : Bool) : List Byte :=
  let f := leAt s.bound.record 18 2
  let fl := (if f.testBit 1 then 1 else 0) + (if f.testBit 0 then 2 else 0) + (if f.testBit 6 then 4 else 0) +
    (if f.testBit 5 then 8 else 0) + (if s.testGrade then 16 else 0) + (if coarse then 32 else 0)
  beBytes 2 3 ++ beBytes 2 14 ++ beBytes 3 (s.get F.PTP_BTLV.ORGID) ++ beBytes 3 1 ++ bytesOf [1, fl, 0, 0] ++ beBytes 4 errb

/-- The bound TLV where BTLV is set, else nothing. -/
def State.boundTlvIf (s : State) (errb : Nat) : List Byte := if s.bit F.PTP_CFG.BTLV then s.boundTlv errb false else []

/-- The association that seals messages of an SPP: the valid entry with TX set (R412). -/
def State.saTx (s : State) (spp : Nat) : Option Nat :=
  (List.range 16).find? (fun n => s.bit (F.PTP_SA_0.VALID n) && s.bit (F.PTP_SA_0.TX n) && s.get (F.PTP_SA_0.SPP n) == spp)

/-- The association that verifies a message's TLV. -/
def State.saRx (s : State) (spp keyId : Nat) : Option Nat :=
  (List.range 16).find? (fun n => s.bit (F.PTP_SA_0.VALID n) && s.get (F.PTP_SA_0.SPP n) == spp && s.get (F.PTP_SA_1.KEYID n) == keyId)

/-- The AUTHENTICATION TLV up to its ICV (R411): type, length 22, SPP, secParamIndicator 0, keyID. -/
def State.authHead (s : State) (sa : Nat) : List Byte :=
  beBytes 2 0x8009 ++ beBytes 2 22 ++ beBytes 1 (s.get (F.PTP_SA_0.SPP sa)) ++ [0] ++ beBytes 4 (s.get (F.PTP_SA_1.KEYID sa))

/-- A message with its length field set to what it is, plus the authentication TLV where one is to come. -/
def ptpFix (m : List Byte) (auth : Bool) : List Byte := putAt m 2 (beBytes 2 (m.length + if auth then 26 else 0))

/-- The seal of a PTP message (R411): the TLV with its 16-byte ICV. -/
def State.ptpSeal (s : State) (sa : Nat) (m : List Byte) : List Byte :=
  let t := m ++ s.authHead sa
  t ++ sliceB (Config.hmac ((s.slot (s.get (F.PTP_SA_0.ENCSLOT sa))).key.take 32) t) 0 16

/-- A one-step Sync (R403). -/
def State.syncMsg (s : State) (x : Ctx) (errbW t : Nat) : List Byte :=
  ptpFix (s.ptpHeader 0 44 (byteAt x.req 6) ((t % 65536 : Nat)) x.port (ptpSeq x.req) (byteAt x.req 33) ++ ptpStamp t ++ s.boundTlvIf errbW) x.sa.isSome

/-- A two-step Sync. -/
def State.syncTwoStep (s : State) (x : Ctx) : List Byte :=
  ptpFix (s.ptpHeader 0 44 (byteAt x.req 6 ||| 2) 0 x.port (ptpSeq x.req) (byteAt x.req 33) ++ beBytes 10 0) x.sa.isSome

/-- A Delay_Resp to a Delay_Req payload (R403). -/
def State.delayResp (s : State) (x : Ctx) : List Byte :=
  let t := s.recTime x.recd
  ptpFix (s.ptpHeader 9 54 (byteAt x.req 6 &&& 4) (ptpCorr x.req - (t % 65536 : Nat)) x.port (ptpSeq x.req)
    (if (byteAt x.req 6).testBit 2 then 0x7F else s.get (F.PTP_PINTV.LOGMINDREQ x.port)) ++ ptpStamp t ++ ptpSource x.req) x.sa.isSome

/-- A one-step Pdelay_Resp (R403). -/
def State.pdelayOne (s : State) (x : Ctx) (t : Nat) : List Byte :=
  let t2 := s.recTime x.recd
  ptpFix (s.ptpHeader 3 54 0 (ptpCorr x.req + (t : Int) - t2) x.port (ptpSeq x.req) 0x7F ++ beBytes 10 0 ++ ptpSource x.req) x.sa.isSome

/-- A two-step Pdelay_Resp. -/
def State.pdelayTwo (s : State) (x : Ctx) : List Byte :=
  let t2 := s.recTime x.recd
  ptpFix (s.ptpHeader 3 54 2 (ptpCorr x.req - (t2 % 65536 : Nat)) x.port (ptpSeq x.req) 0x7F ++ ptpStamp t2 ++ ptpSource x.req) x.sa.isSome

/-- The follow-up of a two-step message, from its transmit record (R403, R416). -/
def State.followUp (s : State) (x : Ctx) (r : StampRec) : List Byte :=
  let t := s.recTime r
  if ptpType x.req = 0 then
    ptpFix (s.ptpHeader 8 44 (byteAt x.req 6 &&& 4) ((t % 65536 : Nat)) x.port (ptpSeq x.req) (byteAt x.req 33) ++ ptpStamp t ++ s.boundTlvIf r.errb) x.sa.isSome
  else
    ptpFix (s.ptpHeader 0xA 54 0 ((t % 65536 : Nat)) x.port (ptpSeq x.req) 0x7F ++ ptpStamp t ++ ptpSource x.req) x.sa.isSome

/-- The unsealed content of a context's message for a departure at DTIME t with a bound (R323). -/
def State.bodyAt (s : State) (x : Ctx) (errbW t : Nat) : List Byte :=
  if x.kind ≤ 5 then s.ntpBody x errbW t
  else if x.kind = 6 then (s.svcOf x.recd).pdelayOne x t
  else if x.kind = 7 then s.syncMsg x errbW t
  else if x.kind = 8 then (s.svcOf x.recd).delayResp x
  else x.req

/-- The slot an HMAC seal of a context uses. -/
def State.saSlot (s : State) (x : Ctx) : Option Nat := x.sa.map (fun a => s.get (F.PTP_SA_0.ENCSLOT a))

/-- Whether a context's message needs a lane to seal it. -/
def Ctx.needsSeal (x : Ctx) : Bool := x.kind == 1 || x.kind == 3 || x.sa.isSome

/-- Ask for a context's seal: an SIV lane with the inline key, or an HMAC lane with the association's slot (R355, R386). -/
def State.askSeal (s : State) (x : Ctx) (deadline : Option Nat) : State :=
  if !x.needsSeal then s.updCtx x.id (fun y => { y with sealed_ := true })
  else if x.kind = 1 ∨ x.kind = 3 then
    s.laneAsk { ctx := x.id, hmac := false, slot := none, use := 0, n := 84 + 104 * x.cookies, deadline := deadline, isSeal := true }
  else s.laneAsk { ctx := x.id, hmac := true, slot := s.saSlot x, use := 0, n := x.msg.length, deadline := deadline, isSeal := true }

/-- The sealed payload of a context once its lane has the result. -/
def State.sealCtx (s : State) (id : Nat) : State :=
  match s.ctx? id with
  | none => s
  | some x =>
    if x.kind = 1 ∨ x.kind = 3 then
      let r := s.ntsSeal x x.msg
      r.1.updCtx id (fun y => { y with msg := r.2, sealed_ := true })
    else match x.sa with
      | none => s.updCtx id (fun y => { y with sealed_ := true })
      | some a => s.updCtx id (fun y => { y with msg := s.ptpSeal a y.msg, sealed_ := true })

/-- The frame of a context's message. -/
def Ctx.frameOut (x : Ctx) : List Byte := sealFrame x.dest x.msg

/-- The counter of a service's abandonment (R387, R401), where it has one. -/
def specCtr (service reason : Nat) : Option Fld :=
  if service = 1 then some (F.NTS_SPEC.CNT reason) else if service = 2 then some (F.PTP_SPEC.CNT reason) else none

end Sys2Proof.Machine
end

