-- ==== Sys2Proof/Machine/DepartOps.lean ====
section
/-! DEFINITION. Appointed departure (spec/12_departure.md): reservations, collapses, fallbacks and releases; the classifier's bank
in force, the rate sketch (R391), grants (R405 to R409) and the commit unit (R357, R358). -/

namespace Sys2Proof.Machine

/-! The wire. -/

/-- Crumbs of a nanosecond of raw time. -/
def nsCrumbs : Nat := 320

/-- The wire time of one byte in crumbs, by mode. -/
def byteCrumbs (mode : Nat) : Rat := if mode = 1 then 512 / 5 else if mode = 2 then 256 else 2560

/-- Occupation of a frame of `len` bytes from its start word (R321), in crumbs rounded up. -/
def occupation (mode len : Nat) : Nat :=
  if mode = 3 then (len + 20 + 1) / 2 * 2 * 2560
  else (ceilR (((len + 27) / 8 : Nat) * byteCrumbs mode * 8)).toNat

/-- B in crumbs (R320). -/
def startB (mode : Nat) : Rat := if mode = 3 then 80 * 256 else 66 * uiCrumbs mode

/-- G_pipe in crumbs (R320). -/
def gPipe (mode : Nat) : Nat := if mode = 1 then 2560 else if mode = 2 then 4096 else 10240

/-- R320: the crossing of a start word edge, in crumbs. -/
def State.crossing (s : State) (n e : Nat) : Nat :=
  (roundUpHalf ((e : Rat) + s.get (F.PRT_LAT.TXLAT n) + startB (s.get (F.PRT_STAT.MODE n)) + s.get (F.PRT_PLANE.TXDLY n))).toNat

/-- Whether a port can transmit: link, ADMIN, transceiver and, with SYNCE_TX, a transmit synthesiser that has
locked (R302, R330 code 11, R548); MG0 while its link is up. -/
def State.canSend (s : State) (n : Nat) : Bool :=
  if n = 4 then s.get F.PRT_MG_STAT.SPEED != 0 && s.bit F.PRT_MG_CTRL.ADMIN
  else s.bit (F.PRT_STAT.LINK n) && s.bit (F.PRT_CTRL.ADMIN n) && !(s.get F.PNL_SFP.TXDIS).testBit n &&
    (!s.bit (F.PRT_STAT.SYNCE_TX n) || (s.pt n).txOn)

/-- Whether the frame on the wire may be cut at an instant (R301, R337). -/
def State.cutOk (s : State) (n e : Nat) (w : Wire) : Bool :=
  let bt := byteCrumbs (s.get (F.PRT_STAT.MODE n))
  !w.frame.express && !w.appointed && s.get (F.PRT_STAT.VERIFY n) == 2 &&
    decide ((w.start : Rat) + (64 * (1 + (s.pt n).addFrag) - 4 : Nat) * bt ≤ e) && decide ((e : Rat) + 64 * bt ≤ w.stop)

/-- Whether a start edge suits a reservation: none for no, else whether it rests on a cut. -/
def State.fits (s : State) (n t0 limit occ e : Nat) : Option Bool :=
  let c := s.crossing n e
  let p := s.pt n
  let paused := match p.pause with | some u => decide (e < u) | none => false
  let free := p.cal.all (fun r => decide (r.e + r.occ ≤ e) || decide (e + occ ≤ r.e))
  if decide (c < t0) || decide (limit < c) || paused || !free then none
  else match p.wire with
    | none => some false
    | some w => if w.stop ≤ e then some false else if s.cutOk n e w then some true else none

/-- The first start position that suits, with whether it rests on a cut. -/
def State.firstFit (s : State) (n t0 limit occ : Nat) : List Nat → Option (Nat × Bool)
  | [] => none
  | e :: rest => match s.fits n t0 limit occ e with
    | some cut => some (e, cut)
    | none => s.firstFit n t0 limit occ rest

/-- Insert a reservation in order of e. -/
def insertResv (r : Resv) : List Resv → List Resv
  | [] => [r]
  | q :: t => if r.e < q.e then r :: q :: t else q :: insertResv r t

/-! Counts of the gate. Those of a message not yet committed wait for its commit (R326, R327); a drop ends the wait. -/

/-- Count at a port. -/
def State.gateInc (s : State) (n : Nat) : GateCount → State
  | .appt => s.bump (F.APD_APPT.APPT n)
  | .coll cause => s.bumpSat (if cause % 2 = 1 then F.APD_COLL.CA n ((cause - 1) / 2) else F.APD_COLL.CB n ((cause - 1) / 2))
  | .reseal => s.bumpSat (F.APD_RESEAL.RESEAL n)
  | .twoStep => s.bumpSat (F.APD_FB.TWOSTEP n)
  | .freeRel => s.bumpSat (F.APD_FB.FREE n)

/-- A message with a count held back, where it is not committed. -/
def Ctx.hold (x : Ctx) (g : GateCount) : Ctx := if x.committed then x else { x with held := x.held ++ [g] }

/-- The count of a committed message takes effect. -/
def State.gateCount (s : State) (x : Ctx) (g : GateCount) : State := if x.committed then s.gateInc x.port g else s

/-- The counts a message held back take effect. -/
def State.gateHeld (s : State) (x : Ctx) : State := x.held.foldl (fun t g => t.gateInc x.port g) s

/-! Ends of a message. -/

/-- A drop (R333): counted with its cause; one not yet committed leaves speculation. -/
def State.dropMsg (s : State) (x : Ctx) (cause : Nat) : State :=
  let n := x.port
  let a := (((s.gateHeld x).bumpSat (F.APD_DROP.DROP n)).set (F.APD_PSTAT.LASTCAUSE n) cause).apdFlag (F.APD_PSTAT.DROP n) n
  let b := (a.cancelResv x.id).freeCtx x.id
  if x.committed ∨ 16 ≤ x.engine then b else b.bump F.APD_SPEC_ABORT.ABORT

/-- Hand over a context's unappointed message once it is committed and sealed (R336). -/
def State.tryRelease (s : State) (id : Nat) : State :=
  match s.ctx? id with
  | none => s
  | some x =>
    if 9 ≤ x.kind ∧ x.committed ∧ x.sealed_ ∧ x.granted = false then
      if !s.canSend x.port then s.dropMsg x 11 else
      (s.updCtx id (fun y => { y with granted := true })).sendOn x.port
        { src := .ctx id, bytes := x.frameOut, tag := 0, stamp := x.kind == 9 || x.kind == 11 || x.kind == 12, express := x.kind == 9 || x.kind == 11 || x.kind == 12 }
    else s

/-- R335: a two-step fallback: rebuilt with twoStepFlag, sealed again, and released unappointed. -/
def State.fallTwoStep (s : State) (x : Ctx) : State :=
  let a := (s.gateCount x .twoStep).apdFlag (F.APD_PSTAT.FALLBACK x.port) x.port
  let m := if x.kind = 7 then s.syncTwoStep x else (s.svcOf x.recd).pdelayTwo x
  let y := { x.hold .twoStep with kind := 9, msg := m, sealed_ := false, granted := false }
  let b := a.updCtx x.id (fun _ => y)
  (b.askSeal y none).tryRelease x.id

/-- R334: a Delay_Resp is released unappointed; it is not sealed again. -/
def State.freeRelease (s : State) (x : Ctx) : State :=
  let a := (s.gateCount x .freeRel).apdFlag (F.APD_PSTAT.FALLBACK x.port) x.port
  let m := if x.sealed_ then x.msg else (s.svcOf x.recd).delayResp x
  let y := { x.hold .freeRel with kind := 10, msg := m, granted := false }
  let b := a.updCtx x.id (fun _ => y)
  (if x.sealed_ ∨ x.granted then b else b.askSeal y none).tryRelease x.id

/-- R332, R333: what becomes of a message whose appointment collapsed, from the instant t_c and t_clear. -/
def State.afterCollapse (s : State) (x : Ctx) (cause clear : Nat) (atRelease : Bool) : State :=
  let tc := s.replica (x.port + 1)
  let t0 := max (tc + s.get F.APD_REOFF.REOFF * nsCrumbs) clear
  let old := x.born + s.get F.APD_SLIP.MAXAGE * 1000 * nsCrumbs
  let fall := fun (c : Nat) => if x.kind = 6 ∨ x.kind = 7 then s.fallTwoStep x else s.dropMsg x c
  if cause = 11 then s.dropMsg x 11
  else if x.kind = 8 then s.freeRelease x
  else if x.retry ≤ x.retries then fall cause
  else if old < t0 then fall 13
  else
    s.updCtx x.id (fun y => { y with retries := y.retries + 1, t0 := t0, granted := false, sealed_ := false, reseal := y.reseal || (atRelease && x.needsSeal) })

/-- R330: a collapse: recorded, counted, and the message re-appointed or ended. -/
def State.collapse (s : State) (n id cause clear : Nat) (atRelease : Bool) : State :=
  let a := ((s.updPort n (fun p => { p with cal := p.cal.filter (fun r => r.ctx != id) })).showCal n).clusterEvent 0xD n
  let b := a.set (F.APD_PSTAT.LASTCAUSE n) cause
  match b.ctx? id with
  | none => (b.gateInc n (.coll cause)).apdFlag (F.APD_PSTAT.COLLAPSED n) n
  | some x =>
    let y := x.hold (.coll cause)
    let c := (b.gateCount x (.coll cause)).apdFlag (F.APD_PSTAT.COLLAPSED n) n
    (c.updCtx id (fun _ => y)).afterCollapse y cause clear atRelease

/-! Reservation (R322, R323). -/

/-- The cause that refuses every reservation on a port at present, in the order of R331; 0 for none. -/
def State.portCause (s : State) (n : Nat) : Nat :=
  if !s.canSend n then 11
  else if !s.bit (F.HRT_TB_ROUTE.VALID (n + 1)) then 10
  else if (s.isle (n + 1)).usable.isNone then 9
  else if (s.isle (n + 1)).lost then 8
  else 0

/-- ERRB_w (R323). -/
def State.errbW (s : State) (n : Nat) : Nat := errbSum [s.portErrb n, s.get F.APD_BGUARD.GUARD]

/-- A GRANT at a start edge: the calendar entry, the message's instant and bound, and its seal. -/
def State.grantAt (s : State) (x : Ctx) (e occ : Nat) (cut : Bool) : State :=
  let n := x.port
  let c := s.crossing n e
  let p := s.islePair (n + 1) c
  let gen := (p.map Pair.gen).getD 0
  let t := (p.bind (fun p => p.dtime c)).getD 0
  let w := s.errbW n
  if 1 ≤ x.kind ∧ x.kind ≤ 5 ∧ s.bit F.NTS_CFG.UNSYNC = false ∧ s.leapInd w t = 3 then
    (if x.committed then (s.freeCtx x.id).bump (F.NTS_SPEC.CNT 11) else s.abandon x.id (some (F.NTS_SPEC.CNT 11)))
  else
    let d := e - gPipe (s.get (F.PRT_STAT.MODE n))
    let r : Resv := { ctx := x.id, c := c, e := e, occ := occ, gen := gen, errbW := w, deadline := d, cut := cut, frag := (s.pt n).addFrag }
    let a := ((s.updPort n (fun q => { q with cal := insertResv r q.cal })).showCal n).gateCount x .appt
    let b := if x.reseal then a.gateCount x .reseal else a
    let h := if x.reseal then (x.hold .appt).hold .reseal else x.hold .appt
    let y := { h with granted := true, reseal := false, c := c, gen := gen, errbW := w, msg := s.bodyAt x w t, sealed_ := false }
    (b.updCtx x.id (fun _ => y)).askSeal y (some d)

/-- RESERVATION of a context, with the start word edges that the gate predicts, in ascending order. -/
def State.reserve (s : State) (x : Ctx) (starts : List Nat) : State :=
  let n := x.port
  let limit := x.t0 + s.get F.APD_SLIP.SLIP * nsCrumbs
  let occ := occupation (s.get (F.PRT_STAT.MODE n)) x.len
  let pc := s.portCause n
  let pend := (s.pt n).pause.getD 0
  let stop := ((s.pt n).wire.map Wire.stop).getD 0
  if pc ≠ 0 then s.collapse n x.id pc 0 false
  else if limit < s.crossing n pend ∧ pend ≠ 0 then s.collapse n x.id 3 pend false
  else match (if 64 ≤ (s.pt n).cal.length then none else s.firstFit n x.t0 limit occ starts) with
    | some (e, cut) => s.grantAt x e occ cut
    | none =>
      let busy := match (s.pt n).wire with
        | some w => decide (limit < s.crossing n w.stop) && !(starts.any (fun e => s.cutOk n e w))
        | none => false
      if busy then s.collapse n x.id 1 stop false else s.collapse n x.id 2 0 false

/-! Release. -/

/-- The cause for which the gate cannot keep a reservation at its release, in the order of R331; 0 for none. -/
def State.releaseCause (s : State) (n : Nat) (r : Resv) : Nat :=
  let pc := s.portCause n
  let gen := ((s.islePair (n + 1) r.c).map Pair.gen).getD 0
  if pc ≠ 0 then pc
  else if gen ≠ r.gen then 6
  else if r.errbW < s.portErrb n then 7
  else if (match (s.pt n).pause with | some u => decide (r.e < u) | none => false) then 3
  else if r.cut && (s.get (F.PRT_STAT.VERIFY n) != 2 || r.frag != (s.pt n).addFrag) then 4
  else match r.arrived with
    | none => 5
    | some a => if r.deadline < a then 5 else 0

/-- R324: the start word goes to the serialiser. -/
def State.releaseOne (s : State) (n : Nat) (r : Resv) : State :=
  let cause := s.releaseCause n r
  if cause ≠ 0 then
    s.collapse n r.ctx cause (if cause = 3 then (s.pt n).pause.getD 0 else if cause = 4 then ((s.pt n).wire.map Wire.stop).getD 0 else 0) true
  else match s.ctx? r.ctx with
    | none => (s.updPort n (fun p => { p with cal := p.cal.filter (fun q => q.ctx != r.ctx) })).showCal n
    | some x =>
      let f : TxFrame := { src := .ctx x.id, bytes := x.frameOut, tag := 0, stamp := true, express := true }
      (s.updPort n (fun p => { p with cal := p.cal.filter (fun q => q.ctx != r.ctx), wire := some { frame := f, appointed := true, start := r.e, stop := r.e + r.occ } })).showCal n

/-! The classifier's bank in force. -/

/-- The entries of a bank (0 or 1). -/
def PkeSt.bank (k : PkeSt) (b : Nat) : List (Nat × List Byte) := if b = 0 then k.bankA else k.bankB

/-- The bank in force. -/
def State.clsBank (s : State) : List (Nat × List Byte) := s.pke.bank (s.get F.PKE_CLS_STAT.BANK)

/-- SERVICE and NSTAGE of a pipeline (R106). -/
def State.pipeSvc (s : State) (p : Nat) : Nat := if p < byteAt (s.sec 0x50) 0 then byteAt (s.sec 0x50) (68 + 4 * p) else 0
def State.pipeStages (s : State) (p : Nat) : Nat := byteAt (s.sec 0x50) (69 + 4 * p)

/-! The rate sketch (R391, R392). -/

/-- The profiles in use. -/
def State.profiles (s : State) : List Nat :=
  let es := s.clsBank.filter (fun (e : Nat × List Byte) => byteAt e.2 67 % 2 == 1 && (byteAt e.2 64 == 1 || byteAt e.2 64 == 4) && s.pipeSvc (byteAt e.2 65) == 1)
  let d := s.get F.PKE_CLS_STAT.DEFAULT
  (es.map (fun (e : Nat × List Byte) => byteAt e.2 68 % 4) ++ (if d ≠ 0xFFFF ∧ s.pipeSvc d = 1 then [0] else [])).eraseDups

/-- RATE_min. -/
def State.rateMin (s : State) : Nat :=
  match s.profiles with
  | [] => s.get (F.NTS_RATE.RATE 0)
  | p :: t => t.foldl (fun m q => min m (s.get (F.NTS_RATE.RATE q))) (s.get (F.NTS_RATE.RATE p))

/-- w_p. -/
def State.weight (s : State) (p : Nat) : Nat :=
  let r := s.get (F.NTS_RATE.RATE p)
  if r = 0 then 1 else max 1 ((16 * s.rateMin + r - 1) / r)

/-- The prefix of a source address that the sketch hashes: 32 bits of IPv4, the first PFX6 bits of IPv6. -/
def State.prefixOf (s : State) (addr : List Byte) : Nat :=
  if addr.length = 16 then
    let k := s.get F.NTS_CFG.PFX6
    beNat addr / 2 ^ (128 - k) * 256 + 6
  else beNat addr * 256 + 4

/-- A client's four counters. -/
def State.sketchIdx (s : State) (addr : List Byte) : List Nat :=
  [0, 1, 2, 3].map (fun r => r * 65536 + Config.sketchHash s.nts.sketchKey r (s.prefixOf addr) % 65536)

/-- A counter's level. -/
def State.level (s : State) (i : Nat) : Nat := (lookup i s.nts.sketch).getD 0

/-- The estimate of a client. -/
def State.estimate (s : State) (addr : List Byte) : Nat :=
  match s.sketchIdx addr with
  | [] => 0
  | i :: t => t.foldl (fun m j => min m (s.level j)) (s.level i)

/-- Whether a request of a profile passes. -/
def State.ratePasses (s : State) (p : Nat) (addr : List Byte) : Bool :=
  decide (s.estimate addr + s.weight p ≤ s.weight p * s.get (F.NTS_RATE.BURST p))

/-- The conservative update of a debit. -/
def State.debit (s : State) (p : Nat) (addr : List Byte) : State :=
  let v := s.estimate addr + s.weight p
  { s with nts := { s.nts with sketch := (s.sketchIdx addr).foldl (fun l i =>
      if (lookup i l).getD 0 < v then insertAt i (min 65535 v) l else l) s.nts.sketch } }

/-! Grants and streams (R405 to R409). -/

/-- The ticks of an interval 2^log seconds, to the nearest tick. -/
def intervalTicks (log : Int) : Nat :=
  if 0 ≤ log then 2 ^ log.toNat * 625000000 else (roundUpHalf ((625000000 : Rat) / (2 ^ log.natAbs : Nat))).toNat

/-- Show the count of valid grants. -/
def State.showGrants (s : State) : State := s.set F.PTP_GSTAT.VALID s.ptp.grants.length

/-- A grant by its entry. -/
def State.grant? (s : State) (i : Nat) : Option Grant := lookup i s.ptp.grants

/-- The 64 bytes of an entry. -/
def Grant.bytes (g : Grant) : List Byte :=
  leBytes 1 (1 + (if g.auth then 2 else 0) + g.transport * 4) ++ leBytes 1 g.port ++ leBytes 1 g.mtype ++ leBytes 1 (ofSigned 8 g.logint) ++ leBytes 4 g.duration ++
    leBytes 8 g.expiry ++ leBytes 8 g.next ++ leBytes 2 g.seqid ++ leBytes 2 g.tokens ++ sliceB g.client 0 10 ++ leBytes 1 g.spp ++ leBytes 1 g.domain ++
    sliceB g.addr 0 16 ++ leBytes 2 g.vlan ++ leBytes 6 0

/-- Place or clear a grant, in the journal too (R460). -/
def State.putGrant (s : State) (i : Nat) (g : Option Grant) : State :=
  let l := match g with | some g => insertAt i g s.ptp.grants | none => dropKey i s.ptp.grants
  ({ s with ptp := { s.ptp with grants := l } }.showGrants).journalGrant i (match g with | some g => g.bytes | none => List.replicate 64 0)

/-- The budget of a Delay_Resp grant at a tick (R409): tokens after the gain. -/
def Grant.budget (g : Grant) (now : Nat) : Nat :=
  let per := intervalTicks g.logint
  min 1024 (g.tokens + (if per = 0 then 1024 else (now - g.next) * 512 / per))

/-- The next NEXT of a stream, with whether it skipped (R405). -/
def nextTick (next now per : Nat) : Nat × Bool :=
  let n := next + per
  if n + per < now ∧ per ≠ 0 then (n + (now - n + per - 1) / per * per, true) else (n, false)

/-- R421: raise a PTP_STAT bit. -/
def State.ptpFlag (s : State) (f : Fld) (inst : Nat := 0) (detail : Nat := 0) : State := s.flag f 44 inst detail

/-- The interval of a multicast stream. -/
def State.mcLog (s : State) (port mtype : Nat) : Int :=
  if mtype = 0 then s.getI (F.PTP_PINTV.LOGSYNC port) else s.getI (F.PTP_PINTV.LOGANN port)

/-- The entry with a grant's key (R406). -/
def State.grantKey (s : State) (g : Grant) : Option (Nat × Grant) :=
  s.ptp.grants.find? (fun e => e.2.port == g.port && e.2.addr == g.addr && e.2.client == g.client && e.2.mtype == g.mtype)

/-- The lowest free entry; the list of grants is in rising order of entry. -/
def State.freeGrant (s : State) : Nat := s.ptp.grants.foldl (fun n e => if e.1 = n then n + 1 else n) 0

/-- Whether an effect's rate or grant condition holds now (R358). -/
def State.effOk (s : State) : Eff → Bool
  | .debit p a => s.ratePasses p a
  | .charge i => match s.grant? i with | some g => decide (256 ≤ g.budget s.raw) | none => false
  | .advance i => (s.grant? i).isSome
  | .grantSet _ g => (s.grantKey g).isSome || decide (s.ptp.grants.length < 65536)
  | _ => true

/-- Apply one effect of a commit record. -/
def State.applyEff (s : State) : Eff → State
  | .debit p a => s.debit p a
  | .count k =>
    if k = 0 then s.bump F.NTS_REPLY.REPLY else if k = 1 then s.bump F.NTS_PLAIN.PLAIN else if k = 2 then s.bump F.NTS_NAK.UNKNOWN
    else if k = 3 then s.bump F.NTS_NAK.BADCOOKIE else s.bump F.NTS_KISS.KISS
  | .grantSet _ g =>
    let per := intervalTicks g.logint
    match s.grantKey g with
    | some (i, old) => s.putGrant i (some { g with next := old.next, seqid := old.seqid, tokens := old.tokens, expiry := s.raw + g.duration * 625000000 })
    | none => s.putGrant s.freeGrant (some { g with next := (s.raw / per + 1) * per, seqid := 0, tokens := 1024, expiry := s.raw + g.duration * 625000000 })
  | .grantFull => s.ptpFlag F.PTP_STAT.GRANTFULL
  | .grantClear i => s.putGrant i none
  | .charge i => match s.grant? i with
    | some g => s.putGrant i (some { g with tokens := g.budget s.raw - 256, next := s.raw })
    | none => s
  | .advance i => match s.grant? i with
    | some g =>
      let n := nextTick g.next s.raw (intervalTicks g.logint)
      let t := s.putGrant i (some { g with seqid := (g.seqid + 1) % 65536, next := n.1 })
      if n.2 then t.ptpFlag F.PTP_STAT.LAGGED else t
    | none => s
  | .advanceMc port mt =>
    let f := fun (q : Stream) => (nextTick q.next s.raw (intervalTicks (s.mcLog port mt)))
    let cur := (if mt = 0 then s.ptp.syncs else s.ptp.anns).getD port {}
    let q : Stream := { next := (f cur).1, seq := (cur.seq + 1) % 65536 }
    let t := if mt = 0 then { s with ptp := { s.ptp with syncs := modAt s.ptp.syncs port (fun _ => q) } }
      else { s with ptp := { s.ptp with anns := modAt s.ptp.anns port (fun _ => q) } }
    if (f cur).2 then t.ptpFlag F.PTP_STAT.LAGGED else t
  | .ptpCount port k => s.bump (F.PTP_CNT.CNT port k)

/-- The filter value of a context's commit (R530): its pipeline; what the schedulers and the firmware send has none. -/
def Ctx.pipeFilter (x : Ctx) : Nat := if x.engine < 16 then x.pipe else 0xFF

/-- The commit unit (R357, R358): every effect in one step, or a refusal and the abandonment of the request. -/
def State.commit (s : State) (x : Ctx) : State :=
  if x.effs.all s.effOk then
    let a0 := x.effs.foldl State.applyEff s
    let a := if x.engine < 16 then a0.bump F.APD_SPEC_COMMIT.COMMIT else a0
    let b := (a.gateHeld x).updCtx x.id (fun y => { y with committed := true, effs := [], held := [] })
    let c := if x.stale && x.service == 1 then (b.bump F.NTS_STALE.STALE).ntsFlag F.NTS_STAT.STALE x.pos else b
    (c.clusterEvent 7 x.pipeFilter).tryRelease x.id
  else (s.clusterEvent 8 x.pipeFilter).abandon x.id (specCtr x.service (if x.service = 1 then 12 else 10))

end Sys2Proof.Machine
end

