-- ==== Sys2Proof/Machine/EngOps.lean ====
section
/-! DEFINITION. The cluster's input side (spec/13_engines.md): the classifier's key and lookup, and delivery to pipelines, rings and
queues. -/

namespace Sys2Proof.Machine

/-! The classifier (R349 to R352). -/

/-- R349: the 32-byte key of a frame. -/
def clsKey (port : Nat) (f : List Byte) : List Byte :=
  let vlan := beAt f 12 2 == 0x8100
  let bcast := f.take 6 == List.replicate 6 0xFF
  let l2 := (if vlan then 1 else 0) + (if byteAt f 0 % 2 = 1 then 2 else 0) + (if bcast then 4 else 0)
  let tci := if vlan then beAt f 14 2 else 0
  let l4 := layer4 f
  let ports := ipVer f != 0 && !l4.2.2 && (l4.1 == 17 || l4.1 == 6)
  let da := if ipVer f = 4 then dstAddr f ++ List.replicate 12 0 else if ipVer f = 6 then dstAddr f else List.replicate 16 0
  let p := payloadOf f
  leBytes 1 port ++ leBytes 1 l2 ++ leBytes 2 (etype f) ++ leBytes 2 (tci % 4096 + tci / 8192 * 4096) ++ leBytes 1 (ipVer f) ++
    leBytes 1 (if ipVer f = 0 then 0 else l4.1) ++ da ++ leBytes 2 (if ports then beAt f (l4.2.1 + 2) 2 else 0) ++
    leBytes 2 (if ports then beAt f l4.2.1 2 else 0) ++ sliceB p 0 1 ++ sliceB p 1 1 ++ sliceB p 4 1 ++ [0]

/-- R351: a valid entry whose masked value equals the masked key. -/
def entryHits (key e : List Byte) : Bool :=
  byteAt e 67 % 2 == 1 && (List.range 32).all (fun i => ((byteAt key i) ^^^ (byteAt e i)) &&& byteAt e (32 + i) == 0)

/-- Whether a frame is looked up in the bank that was in force before the latest swap (R352). -/
def State.oldBank (s : State) (r : StampRec) : Bool := !r.bad && decide (r.raw < s.pke.swapAt * 512)

/-- The entries and DEFAULT a frame is looked up in. -/
def State.clsFor (s : State) (r : StampRec) : List (Nat × List Byte) × Nat :=
  let b := s.get F.PKE_CLS_STAT.BANK
  if s.oldBank r then (s.pke.bank (1 - b), s.pke.oldDefault) else (s.pke.bank b, s.get F.PKE_CLS_STAT.DEFAULT)

/-! Delivery. -/

/-- Hand a received frame to a host-bound ring or supervisor queue (R348, R363). -/
def State.ringFrame (s : State) (ring : Nat) (r : StampRec) (f : List Byte) (dflt copy : Bool) : State :=
  let fl := (if r.bad then 4 else 0) + (if r.flags.testBit 6 then 8 else 0) + (if r.flags.testBit 4 then 16 else 0) +
    (if dflt then 32 else 0) + (if copy then 64 else 0)
  s.deliverRing { ring := ring, type := 1, src := r.port, flags := fl, gen := r.gen, sstamp := if r.bad then 0 else Sys2Proof.Machine.sstamp (s.recTime r), errb := r.errb, data := f }

/-- Hand a frame to a pipeline's ingress queue (R346, R368). The frame length counts the FCS. -/
def State.toPipe (s : State) (p label : Nat) (f : List Byte) (r : StampRec) (dflt : Bool) : State :=
  let svc := s.pipeSvc p
  if s.bit F.PKE_CTRL.DRAIN then s.bumpSat (F.PKE_PCNT_DRDROP.DRDROP p)
  else if (svc = 1 ∨ svc = 2) ∧ 1536 < f.length + 4 then s.bumpSat (F.PKE_PCNT_DROP.LONG p)
  else if 512 ≤ (s.pke.pipes.getD p []).length then (s.bumpSat (F.PKE_PCNT_DROP.QFULL p)).flag F.PKE_STAT.QFULL 42 p
  else
    let v := s.svcOf r
    let i : InFrame := { frame := f, recd := r, label := label, off := v.get F.APD_OFFSET.NTS, ptpOff := v.get F.APD_OFFSET.PTP, retry := v.get F.APD_RETRY.RETRY, dflt := dflt }
    { s with pke := { s.pke with pipes := modAt s.pke.pipes p (fun q => q ++ [i]) } }.bump (F.PKE_PCNT_IN.IN p)

/-- What an entry does with a frame (R350). -/
def State.actOn (s : State) (e : List Byte) (f : List Byte) (r : StampRec) : State :=
  let target := byteAt e 65
  let label := leAt e 68 4
  match byteAt e 64 with
  | 1 => s.toPipe target label f r false
  | 2 => s.ringFrame target r f false false
  | 3 => s.ringFrame (128 + target) r f false false
  | 4 => (s.toPipe target label f r false).ringFrame (byteAt e 66) r f false true
  | _ => s

/-- R351: classify a frame and deliver it. -/
def State.classify (s0 : State) (port : Nat) (f : List Byte) (r : StampRec) : State :=
  let s := s0.clusterEvent 2 port
  let c := s.clsFor r
  let key := clsKey port f
  match c.1.find? (fun e => entryHits key e.2) with
  | some e =>
    let n := (lookup e.1 s.pke.hits).getD 0
    { s with pke := { s.pke with hits := insertAt e.1 ((n + 1) % 2 ^ 32) s.pke.hits } }.actOn e.2 f r
  | none =>
    let d := s.clusterEvent 3 port
    if c.2 = 0xFFFF then d else d.toPipe c.2 0 f r true

/-! The transmit records' way to their frames (R311, R360). -/

/-- An engine-bound descriptor ends (R364). -/
def State.ringDone (s : State) (ring idx status : Nat) (r : StampRec) (stamp : Bool) : State :=
  { s with pke := { s.pke with done := s.pke.done ++ [{ ring := ring, idx := idx, status := status, recd := r, stamp := stamp }] } }

/-- The UDP ports of a PTP general message (320); other transports have none. -/
def generalHead (h : List Byte) : List Byte :=
  if ipVer h = 0 then h else putAt h (layer4 h).2.1 (beBytes 2 320 ++ beBytes 2 320)

/-- A frame's transmission is known to the cluster: its context or descriptor goes on. -/
def State.afterSent (s : State) (f : TxFrame) (r : Option StampRec) (trunc : Bool) : State :=
  match f.src with
  | .own => s
  | .ring q i => s.ringDone q i (if trunc then 3 else if f.stamp && r.isNone then 4 else 0) (r.getD {}) (f.stamp && r.isSome)
  | .ctx id => match s.ctx? id with
    | none => s
    | some x =>
      if x.kind = 9 then
        match r with
        | none => s.freeCtx id
        | some r =>
          if r.bad ∨ trunc then s.freeCtx id
          else
            let y := { x with kind := 10, dest := generalHead x.dest, msg := (s.svcOf x.recd).followUp x r, sealed_ := false, granted := false }
            let a := (s.updCtx id (fun _ => y)).bump (F.PTP_CNT.CNT x.port 4)
            (a.askSeal y none).tryRelease id
      else if x.kind = 11 then
        let t3 := match r with | some r => if r.bad then none else some (s.recTime r) | none => none
        let p := s.ptp.reqPend.map (fun q => if q.1 = ptpSeq x.req then (q.1, t3) else q)
        { s with ptp := { s.ptp with reqPend := p } }.freeCtx id
      else if x.kind = 12 then
        let t3 := match r with | some r => if r.bad then none else some (s.recTime r) | none => none
        (s.updPair (fun p => { p with peers := p.peers.map (fun e =>
          if e.1 = x.pos then (e.1, { e.2 with reqPend := e.2.reqPend.map (fun q => if q.1 = ptpSeq x.req then (q.1, t3) else q) }) else e) })).freeCtx id
      else s.freeCtx id

/-- R360: the cluster reads a port's egress stamp FIFO while PKQ0 is awake. -/
def State.drainFifo (s : State) (n : Nat) : State :=
  if s.get (F.PWR_DOM_STAT.STATE 1) ≠ 0 then s
  else
    let l := (s.pt n).fifo
    l.foldl (fun t e => t.afterSent e.2 (some e.1) (e.1.flags.testBit 5)) (s.updPort n (fun p => { p with fifo := [] }))

/-- The end of a frame's transmission on a port (R311): its record, dropped where the FIFO is full, and the frame's owner. -/
def State.sentFrame (s : State) (n : Nat) (f : TxFrame) (appointed : Bool) (edge b : Nat) (trunc : Bool) : State :=
  let lat := s.bit (F.PRT_STAT.LATOK n)
  let fl := s.isleFlags (n + 1) lat + (if f.express then 0 else 16) + (if trunc then 32 else 0)
  let r := s.makeRec (n + 1) n (s.txStamp n edge b) (s.portErrb n) fl f.tag
  let a := if appointed then s.bump (F.APD_SENT.SENT n) else s
  let c := if trunc && appointed then (a.bumpSat (F.APD_DROP.TRUNC n)).apdFlag (F.APD_PSTAT.TRUNC n) n else a
  if !f.stamp then c.afterSent f none trunc
  else
    let d := if lat then c else c.bumpSat (F.PRT_CNT.NOLAT n)
    if 64 ≤ (d.pt n).fifo.length then ((d.bumpSat (F.PRT_CNT.OVF n)).prtFlag (F.PRT_STAT.STAMPOVF n) n).afterSent f none trunc
    else (d.updPort n (fun p => { p with fifo := p.fifo ++ [(r, f)] })).drainFifo n

/-- A frame that a port will never send (R333, R364): its message is dropped with LINK, its descriptor ends with STATUS 1. -/
def State.failFrame (s : State) (f : TxFrame) : State :=
  match f.src with
  | .own => s
  | .ring q i => s.ringDone q i 1 {} false
  | .ctx id => match s.ctx? id with
    | none => s
    | some x => if x.kind = 11 ∨ x.kind = 12 then s.freeCtx id else s.dropMsg x 11

/-- R317: a port loses its link. Nothing is truncated here; its appointments collapse with LINK, its frames fail, and its
channels lose their presence. -/
def State.portDown (s : State) (n : Nat) : State :=
  if !s.bit (F.PRT_STAT.LINK n) then s
  else
    let a := (s.sets [(F.PRT_STAT.LINK n, 0), (F.PRT_STAT.LATOK n, 0), (F.PRT_STAT.VERIFY n, 0), (F.PRT_CTRL.LATCAL n, 0)]).updPort n
      (fun p => { p with latRun := false, pause := none })
    let b := a.prtFlag (F.PRT_STAT.LINKDN n) n
    let c := (b.pt n).cal.foldl (fun t r => t.collapse n r.ctx 11 0 true) b
    let w := match (c.pt n).wire with | some w => if w.complete then [] else [w.frame] | none => []
    let fs := (c.pt n).waiting ++ w
    let d := fs.foldl State.failFrame (c.updPort n (fun p => { p with waiting := [], wire := none }))
    let e := if (d.pt n).acal.isSome then d.acalFail n 7 else d
    let chans := (List.range 16).filter (fun c => (e.kind c == 5 && e.get (F.REF_STAT.SOURCE c) == n) || (e.kind c == 6 && e.get (F.REF_CFG.PORT c) == n))
    let f := chans.foldl (fun t c => (t.updRef c (fun r => { r with qlOk := false })).losePresence c) e
    f.showUasym

end Sys2Proof.Machine
end

