-- ==== Sys2Proof/Machine/RingCmds.lean ====
section
/-! DEFINITION. DMA rings and supervisor queues (R361 to R367): doorbells, write-backs, enabling and signalling. Rings 0 to 63 are
host-bound and 64 to 127 engine-bound; 128 to 135 are the supervisor-bound queues and 136 to 143 the engine-bound ones. -/

namespace Sys2Proof.Machine

/-- Whether a ring or queue is engine-bound. -/
def engineBound (r : Nat) : Bool := (decide (64 ≤ r) && decide (r < 128)) || decide (136 ≤ r)

/-- Whether it is a supervisor queue, which lies in SRAM. -/
def isQueue (r : Nat) : Bool := decide (128 ≤ r)

/-- Descriptors of a ring, and k of R362. -/
def State.ringK (s : State) (r : Nat) : Nat := s.get (F.PKE_RING_CFG.SIZE r) + 6

/-- The address of descriptor i. -/
def State.descAddr (s : State) (r i : Nat) : Nat :=
  let base := s.get (F.PKE_RING_BASE_LO.ADDR r) * 64 + (if isQueue r then 0 else s.get (F.PKE_RING_BASE_HI.ADDR r) * 2 ^ 32)
  base + 32 * (i % 2 ^ s.ringK r)

/-- The descriptor as the engine reads it: a queue's from SRAM, a ring's as the host holds it. -/
def State.descOf (s : State) (r i : Nat) (host : List Byte) : List Byte :=
  if isQueue r then s.sramRead (s.descAddr r i) 32 else sliceB host 0 32

/-- The index that a descriptor stands for: indices run modulo 2¹⁷. -/
def ringIdx (i : Nat) : Nat := i % 131072

/-! The end of a ring (R366, R505). -/

/-- A frame of a ring's descriptor that waits on a port. -/
def TxFrame.ofRing (r : Nat) (f : TxFrame) : Bool := match f.src with | .ring q _ => q == r | _ => false

/-- A ring is disabled: the descriptor in work completes, what waits for a host-bound ring is dropped, and an engine-bound
ring's other descriptors end with STATUS 5. -/
def State.stopRing (s : State) (r : Nat) : State :=
  let a := s.set (F.PKE_RING_CFG.EN r) 0
  if engineBound r then
    let b := { a with port := a.port.map (fun p => { p with waiting := p.waiting.filter (fun f => !f.ofRing r) }) }
    let cons := s.get (F.PKE_RING_CONS.CONS r)
    let onWire := (b.port.filterMap (·.wire)).filterMap (fun w => if w.complete then none else match w.frame.src with | .ring q i => (if q = r then some i else none) | _ => none)
    let inFifo := (b.port.flatMap (·.fifo)).filterMap (fun e => match e.2.src with | .ring q i => (if q = r then some i else none) | _ => none)
    (List.range (s.ringHolds r)).foldl (fun t k =>
      let i := ringIdx (cons + k)
      if onWire.contains i || inFifo.contains i || t.pke.done.any (fun d => d.ring == r && d.idx == i) then t else t.ringDone r i 5 {} false) b
  else
    let mine := s.pke.ringQ.filter (fun i => i.ring == r)
    let b := { a with pke := { a.pke with ringQ := a.pke.ringQ.filter (fun i => i.ring != r) ++ mine.take 1 } }
    (mine.drop 1).foldl (fun t _ => t.ringDrop r) b

/-- R505: a queue's descriptor with an uncorrectable error stops it, with RINGDROP. -/
def State.stopOnEcc (s : State) (r addr : Nat) : State :=
  (((s.eccError addr).xbrError 5 ((bankOf addr).getD 0xF) 4 addr).stopRing r).flag F.PKE_STAT.RINGDROP 42 r

/-- Whether a queue's descriptor holds an uncorrectable error. -/
def State.descBad (s : State) (r i : Nat) : Bool := isQueue r && s.badWord (s.descAddr r i) 32

/-- R316: a frame sent by MG0 carries the RAW latched when its MAC reports completion. -/
def State.mgStamp (s : State) (tag : Nat) : StampRec :=
  s.makeRec 5 4 (s.replica 5) (errbSum [if (s.isle 5).lost then unbounded else (s.isle 5).errb, 5000000]) (s.isleFlags 5 true + 64) tag

/-- The engine takes one posted descriptor of an engine-bound ring and its frame (R364). -/
def State.takeDesc (s : State) (r i : Nat) (desc frame : List Byte) : State :=
  let len := leAt desc 8 2
  let stamp := (byteAt desc 10).testBit 1
  let tag := leAt desc 12 2
  let port := s.get (F.PKE_RING_DEST.PORT r)
  let f := sliceB frame 0 len
  if len < 60 ∨ 9212 < len then s.ringDone r i 2 {} false
  else if s.bit (F.PKE_RING_DEST.TOPIPE r) then
    (s.toPipe (s.get (F.PKE_RING_DEST.PIPE r)) 0 f { flags := 8, port := port, errb := unbounded } false).ringDone r i 0 {} false
  else if !s.canSend port then s.ringDone r i 1 {} false
  else if port = 4 then (s.sendOn 4 { src := .ring r i, bytes := f }).ringDone r i 0 (s.mgStamp tag) stamp
  else s.sendOn port { src := .ring r i, bytes := f, tag := tag, stamp := stamp, express := false }

/-- Take the newly posted descriptors in order. -/
def State.takeDescs (s : State) (r : Nat) : Nat → Nat → List (List Byte × List Byte) → State
  | 0, _, _ => s
  | n + 1, i, l =>
    if s.descBad r i then s.stopOnEcc r (s.descAddr r i) else
    let h := l.headD ([], [])
    let d := s.descOf r i h.1
    let f := if isQueue r then s.sramRead (leAt d 0 4) (leAt d 8 2) else h.2
    (s.takeDesc r i d f).takeDescs r n (ringIdx (i + 1)) l.tail

/-- A write of PROD (R361). -/
def State.writeProd (s : State) (req : Requester) (r prod : Nat) (posted : List (List Byte × List Byte)) : State :=
  let old := s.get (F.PKE_RING_PROD.PROD r)
  let cons := s.get (F.PKE_RING_CONS.CONS r)
  let p := ringIdx prod
  if 2 ^ s.ringK r < (p + 131072 - cons) % 131072 then s.accessError req 7 (0xB10010 + 0x20 * r)
  else
    let a := s.set (F.PKE_RING_PROD.PROD r) p
    if engineBound r && s.bit (F.PKE_RING_CFG.EN r) then a.takeDescs r ((p + 131072 - old) % 131072) old posted else a

/-- RING_PROD_WRITE (R361): PROD is advanced; `posted` gives, for an engine-bound ring in host memory, the new descriptors and
the frames they point at, in order. -/
def execRingProdWrite (req : Requester) (r prod : Nat) (posted : List (List Byte × List Byte)) (s : State) : Result :=
  onUnit (decide (r < 144)) (s.atDomain req (0xB10010 + 0x20 * r) (prod) (fun s => s.writeProd req r prod posted))

/-! Signalling (R365). -/

/-- Send a ring's interrupt. -/
def State.ringSignal (s : State) (r : Nat) : State :=
  let a := { s with pke := { s.pke with coal := dropKey r s.pke.coal } }
  let v := s.get (F.PKE_RING_CFG.VEC r)
  if isQueue r then a.emit (.supLine v) else a.msix v

/-- A completion. -/
def State.ringComplete (s : State) (r : Nat) : State :=
  if !s.bit (F.PKE_RING_CFG.IRQEN r) then s
  else
    let c := (lookup r s.pke.coal).getD (0, s.raw)
    let n := c.1 + 1
    if s.get (F.PKE_RING_CFG.COALN r) ≤ n then s.ringSignal r
    else { s with pke := { s.pke with coal := insertAt r (n, c.2) s.pke.coal } }

/-- RING_COALESCE_TIMEOUT (R365): COALT µs after the first unsignalled completion. -/
def execRingCoalesceTimeout (r : Nat) (s : State) : Result :=
  onUnit (decide (r < 144)) (match lookup r s.pke.coal with
    | none => s
    | some c => s.when (s.get (F.PKE_RING_CFG.COALT r) != 0 && decide (c.2 + s.get (F.PKE_RING_CFG.COALT r) * 625 ≤ s.raw)) (·.ringSignal r))

/-! Write-back (R362 to R364). -/

/-- DSTAMP from replica 13; a free value where the island cannot convert. -/
def State.dstamp (s : State) : State × Nat :=
  match (s.islePair 13 (s.replica 13)).bind (fun p => p.dtime (s.replica 13)) with
  | some t => (s, Sys2Proof.Machine.sstamp t)
  | none => (s.useFree, s.freeVal % 2 ^ 48)

/-- The generation in force at replica 13. -/
def State.gen13 (s : State) : Nat := ((s.islePair 13 (s.replica 13)).map Pair.gen).getD (((s.isle 13).cur.map Pair.gen).getD 0)

/-- ERRB of replica 13. -/
def State.errb13 (s : State) : Nat := if (s.isle 13).lost then unbounded else (s.isle 13).errb

/-- Write bytes where a ring's memory lies. -/
def State.dmaWrite (s : State) (r addr : Nat) (b : List Byte) : State := if isQueue r then (s.touchSram 5).sramStore addr b else s.emit (.dma addr b)

/-- Write a completed host-bound descriptor back: the buffer first, then the descriptor with PHASE inverted. -/
def State.writeHostBound (s : State) (r : Nat) (desc : List Byte) (i : RingItem) : State :=
  let cons := s.get (F.PKE_RING_CONS.CONS r)
  let len := leAt desc 8 2
  let n := min len i.data.length
  let addr := if isQueue r then leAt desc 0 4 else leAt desc 0 8
  let phase := if (cons / 2 ^ s.ringK r) % 2 = 1 then 0 else 1
  let fl := i.flags + (if len < i.data.length then 2 else 0) + phase
  let d := s.dstamp
  let gen := if i.type = 1 then i.gen else s.gen13
  let out := sliceB desc 0 10 ++ leBytes 2 n ++ leBytes 1 i.type ++ leBytes 1 i.src ++ leBytes 1 fl ++ leBytes 1 gen ++ leBytes 6 i.sstamp ++
    leBytes 6 d.2 ++ leBytes 4 (max i.errb s.errb13)
  let a := (d.1.dmaWrite r addr (i.data.take n)).dmaWrite r (s.descAddr r cons) out
  (a.set (F.PKE_RING_CONS.CONS r) (cons + 1)).ringComplete r

/-- Write a completed engine-bound descriptor back. -/
def State.writeEngineBound (s : State) (r : Nat) (desc : List Byte) (t : TxDone) : State :=
  let cons := s.get (F.PKE_RING_CONS.CONS r)
  let phase := if (cons / 2 ^ s.ringK r) % 2 = 1 then 0 else 1
  let d := s.dstamp
  let has := t.stamp && (t.status == 0 || t.status == 3)
  let out := sliceB desc 0 10 ++ leBytes 1 (byteAt desc 10 / 2 * 2 + phase) ++ sliceB desc 11 3 ++ leBytes 1 t.status ++
    leBytes 1 (if has then t.recd.gen else 0) ++ leBytes 6 (if has then Sys2Proof.Machine.sstamp (s.recTime t.recd) else 0) ++ leBytes 6 d.2 ++
    leBytes 4 (if has then max t.recd.errb s.errb13 else s.errb13)
  ((d.1.dmaWrite r (s.descAddr r cons) out).set (F.PKE_RING_CONS.CONS r) (cons + 1)).ringComplete r

/-- The filter value of a ring's completions (R530): its number with bit 6 for engine-bound; a supervisor queue has none. -/
def ringFilter (r : Nat) : Nat := if r < 128 then r else 0xFF

/-- DESCRIPTOR_WRITEBACK (R362): the engine completes the descriptor at CONS; `host` is that descriptor in host memory. -/
def execDescriptorWriteback (r : Nat) (host : List Byte) (s : State) : Result :=
  onUnit (decide (r < 144)) (
    let cons := s.get (F.PKE_RING_CONS.CONS r)
    let desc := s.descOf r cons host
    if s.descBad r cons then s.stopOnEcc r (s.descAddr r cons) else
    if engineBound r then
      match s.pke.done.find? (fun t => t.ring == r && t.idx == cons) with
      | none => s
      | some t => ({ s with pke := { s.pke with done := s.pke.done.filter (fun q => !(q.ring == r && q.idx == cons)) } }.writeEngineBound r desc t).clusterEvent 0xB (ringFilter r)
    else match s.pke.ringQ.find? (fun i => i.ring == r) with
      | none => s
      | some i => ({ s with pke := { s.pke with ringQ := s.pke.ringQ.eraseP (fun q => q.ring == r) } }.writeHostBound r desc i).clusterEvent 0xB (ringFilter r))

/-! Enabling (R366). -/

/-- A write of PKE_RING_CFG (R361, R365, R366). -/
def State.writeRingCfg (s : State) (req : Requester) (r data : Nat) : State :=
  let en := s.bit (F.PKE_RING_CFG.EN r)
  let size := bitsOf data 0 4
  let vec := bitsOf data 6 7
  let bad := decide (10 < size) || (en && size != s.get (F.PKE_RING_CFG.SIZE r)) || (if isQueue r then decide (31 < vec) else decide (95 < vec))
  if bad then s.accessError req 7 (0xB10008 + 0x20 * r)
  else
    let a := s.sets [(F.PKE_RING_CFG.SIZE r, size), (F.PKE_RING_CFG.IRQEN r, bitsOf data 5 1), (F.PKE_RING_CFG.VEC r, vec),
      (F.PKE_RING_CFG.COALN r, bitsOf data 16 8), (F.PKE_RING_CFG.COALT r, bitsOf data 24 8)]
    if data.testBit 4 && !en then
      let b := a.sets [(F.PKE_RING_CFG.EN r, 1), (F.PKE_RING_PROD.PROD r, 0), (F.PKE_RING_CONS.CONS r, 0)]
      { b with pke := { b.pke with coal := dropKey r b.pke.coal, done := b.pke.done.filter (fun d => d.ring != r), ringQ := b.pke.ringQ.filter (fun i => i.ring != r) } }
    else if !data.testBit 4 && en then a.stopRing r
    else a

/-- RING_EN_WRITE (R366). -/
def execRingEnWrite (req : Requester) (r data : Nat) (s : State) : Result :=
  onUnit (decide (r < 144)) (s.atDomain req (0xB10008 + 0x20 * r) (data) (fun s => s.writeRingCfg req r data))

end Sys2Proof.Machine
end

