-- ==== Sys2Proof/Machine/Crossbar.lean ====
section
/-! DEFINITION. The crossbar, SRAM and the PCIe endpoint (spec/18_system.md, R488 to R506). -/

namespace Sys2Proof.Machine

/-- The lock on a target: holder and tick of its grant. -/
def State.lockOn (s : State) (t : Nat) : Option (Nat × Nat) := lookup t s.sys.locks

/-- The value an AtomicOp stores (R502): sizes in bytes. -/
def atomicValue (k : AtomicKind) (n old a b : Nat) : Nat :=
  match k with
  | .fetchAdd => (old + a) % 256 ^ n
  | .swap => a % 256 ^ n
  | .cas => if old = a % 256 ^ n then b % 256 ^ n else old

/-- The grant of an access. A locked read (R493) locks the target until its write, and an AtomicOp completes at once. A write of an
AtomicOp that comes too late (R494) leaves memory unchanged and ends with LOCKTO. -/
def State.grantAccess (s : State) (t : Nat) (r : XbarReq) : State :=
  let a := s.set (F.XBR_TSTAT.OWNER t) r.master
  match r.store with
  | some l => a.sramBytes l
  | none =>
  if a.badWord r.addr r.n then (a.eccError r.addr).xbrFail r.master t 4 r.addr
  else
    let old := a.sramRead r.addr r.n
    if r.plain then a.emit (.completion r.master 0 old) else
    match r.atomic with
    | none => ((a.set (F.XBR_TSTAT.LOCKED t) 1).updSys (fun y => { y with locks := insertAt t (r.master, s.raw) y.locks })).emit (.completion r.master 0 old)
    | some (k, x, y) =>
      if r.late then (a.bumpSat (F.XBR_TSTAT.LOCKTO t)).xbrFail r.master t 2 r.addr
      else (a.sramStore r.addr (leBytes r.n (atomicValue k r.n (leNat old) x y))).emit (.completion r.master 0 old)

/-- Whether a master is high priority (R490). -/
def State.highPri (s : State) (m : Nat) : Bool := (s.get F.XBR_CTRL.HIPRI).testBit m

/-- The waiting request that the arbiter of a target grants next (R490): a low-priority master passed over 8 times, else the
high-priority class, round robin from the master granted last. -/
def State.nextGrant (s : State) (t : Nat) : Option XbarReq :=
  let ws := s.sys.waits.filter (fun r => bankOf r.addr == some t)
  let starved := ws.filter (fun r => !s.highPri r.master && decide (8 ≤ (lookup (16 * t + r.master) s.sys.starve).getD 0))
  let high := ws.filter (fun r => s.highPri r.master)
  let cls := if !starved.isEmpty then starved else if !high.isEmpty then high else ws
  let dist := fun (r : XbarReq) => (r.master + 15 - s.get (F.XBR_TSTAT.OWNER t)) % 16
  cls.foldl (fun b r => match b with
    | none => some r
    | some q => if dist r < dist q then some r else some q) none

/-- Drop the first element equal to a value. -/
def dropFirst {α : Type} [DecidableEq α] (a : α) : List α → List α
  | [] => []
  | b :: t => if a = b then t else b :: dropFirst a t

/-- Serve the requests that wait on a target while no lock holds it. -/
def State.serveTarget (s : State) (t : Nat) : Nat → State
  | 0 => s
  | k + 1 =>
    if (s.lockOn t).isSome || !s.sramReady t then s
    else match s.nextGrant t with
      | none => s
      | some r =>
        let rest := dropFirst r s.sys.waits
        let passed := (rest.filter (fun q => bankOf q.addr == some t && !s.highPri q.master)).map (fun q => 16 * t + q.master)
        let st := dropKey (16 * t + r.master) s.sys.starve
        let st2 := if s.highPri r.master then passed.eraseDups.foldl (fun l q => insertAt q ((lookup q l).getD 0 + 1) l) st else st
        ((s.updSys (fun y => { y with waits := rest, starve := st2 })).grantAccess t r).serveTarget t k

/-- A request joins those that wait for its target. -/
def State.askTarget (s : State) (t : Nat) (r : XbarReq) : State :=
  let a := (s.updSys (fun y => { y with waits := y.waits ++ [r] })).touchSram r.master
  a.serveTarget t a.sys.waits.length

/-- Serve every SRAM target, once the domain that holds them answers again. -/
def State.serveTargets (s : State) : State := (List.range 6).foldl (fun t k => t.serveTarget k t.sys.waits.length) s

/-- A target's lock ends, and the next master is served. -/
def State.unlock (s : State) (t : Nat) : State :=
  let a := (s.set (F.XBR_TSTAT.LOCKED t) 0).updSys (fun y => { y with locks := dropKey t y.locks })
  a.serveTarget t a.sys.waits.length

/-- 64 crossbar cycles in ticks (R494). -/
def lockLimit : Nat := 40

/-- R494: the limit releases a lock. -/
def State.lockExpires (s : State) (t : Nat) : State := (s.bumpSat (F.XBR_TSTAT.LOCKTO t)).unlock t

/-- R493: the locked read of a master, or the write that ends its sequence. -/
def State.lockedAccess (s : State) (m addr n : Nat) (write : Option (List Byte)) : State :=
  if s.aborted m then s.abortAccess m addr
  else match bankOf addr with
    | none => s.xbrFail m 0xF 1 addr
    | some t =>
      match write with
      | none => s.askTarget t { master := m, addr := addr, n := n }
      | some b =>
        match s.lockOn t with
        | some (h, g) =>
          if h ≠ m then s.xbrFail m t 2 addr
          else if g + lockLimit < s.raw then (s.lockExpires t).xbrFail m t 2 addr
          else ((s.sramStore addr b).emit (.completion m 0 [])).unlock t
        | none => s.xbrFail m t 2 addr

/-- LOCKED_SEQUENCE (R493): a master's locked read of `n` bytes, or with `write` the write that completes it. -/
def execLockedSequence (m addr n : Nat) (write : Option (List Byte)) (s : State) : Result :=
  onUnit (decide (m < 12)) (s.lockedAccess m addr n write)

/-- LOCK_TIMEOUT (R494): 64 cycles after the locked read was granted. -/
def execLockTimeout (t : Nat) (s : State) : Result :=
  onUnit (decide (t < 6)) (match s.lockOn t with
    | some (_, g) => s.when (decide (g + lockLimit ≤ s.raw)) (·.lockExpires t)
    | none => s)

/-- The requester copies whose snapshots a master's reset discards (R18): those of the host, the supervisor cores and JTAG. -/
def copyOf (m : Nat) : Option Nat := if m < 4 then some (m + 1) else if m = 4 then some 0 else if m = 8 then some 5 else none

/-- R495: a master is reset; with a burst in flight its first access afterwards ends with RESETABORT. -/
def State.resetMaster (s : State) (m : Nat) (inFlight : Bool) : State :=
  let held := (s.sys.locks.filter (fun l => l.2.1 == m)).map (·.1)
  let a := s.updSys (fun y => { y with waits := y.waits.filter (fun r => r.master != m), aborts := if inFlight && !s.aborted m then y.aborts ++ [m] else y.aborts })
  let b := match copyOf m with
    | some c => { a with snaps := a.snaps.filter (fun p => p.1.1 != c) }
    | none => a
  held.foldl State.unlock (if m = 8 then b.set F.GLB_DBG.TAPACT 0 else b)

/-- MASTER_RESET (R495). -/
def execMasterReset (m : Nat) (inFlight : Bool) (s : State) : Result := onUnit (decide (m < 12)) (s.resetMaster m inFlight)

/-- What the scrubber finds in one SRAM word: a corrected error, or an uncorrectable one, which stays until the word is
written. -/
def State.scrubWord (s : State) (addr : Nat) (double : Bool) : State :=
  let w := addr / 8 * 8
  if double then (s.eccError w).updSys (fun y => { y with bad := if y.bad.any (· == w) then y.bad else y.bad ++ [w] })
  else s.bumpSat F.XBR_ECC.CE

/-- SRAM_SCRUB (R498): the errors found in this microsecond's lines, each an address and whether it is uncorrectable. A bank that
is not powered is not scrubbed. -/
def execSramScrub (found : List (Nat × Bool)) (s : State) : Result :=
  .next (s.when (s.get (F.PWR_DOM_STAT.STATE 5) == 0) (fun s => (found.filter (fun e => (bankOf e.1).isSome)).foldl (fun t e => t.scrubWord e.1 e.2) s))

/-! The PCIe endpoint. -/

/-- Whether the host may reach the bank of an SRAM address (R501). -/
def State.bankOpen (s : State) (addr : Nat) : Bool :=
  match bankOf addr with
  | some b => (s.get F.XBR_HWIN.BANKS).testBit b
  | none => false

/-- R501: a host access to a closed bank. -/
def State.closedBank (s : State) (req : Requester) (addr : Nat) : State :=
  (s.xbrFail 4 ((bankOf addr).getD 0xF) 5 addr).accessError req 9 addr

/-- R502: an AtomicOp of `n` bytes to BAR2 completes as a locked sequence; a 128-bit one, or one to BAR0 or BAR4, is unsupported. -/
def State.atomicOp (s : State) (k : AtomicKind) (space : Space) (n addr a b : Nat) (late : Bool) : State :=
  if space ≠ .bar2 ∨ (n ≠ 4 ∧ n ≠ 8) then s.emit (.completion 4 6 [])
  else if s.aborted 4 then s.abortAccess 4 addr
  else match bankOf addr with
    | none => s.xbrFail 4 0xF 1 addr
    | some t => if s.bankOpen addr then s.askTarget t { master := 4, addr := addr, n := n, atomic := some (k, a, b), late := late } else s.closedBank .host addr

/-- ATOMIC_OP (R502). -/
def execAtomicOp (k : AtomicKind) (space : Space) (n addr a b : Nat) (late : Bool) (s : State) : Result := .next (s.atomicOp k space n addr a b late)

/-- A write of XBR_HWIN: a supervisor core's only (R501). -/
def State.writeHwin (s : State) (req : Requester) (data : Nat) : State :=
  if req.isSup then s.set F.XBR_HWIN.BANKS (data % 64) else s.accessError req 7 0x100001C

/-- XBR_HWIN_WRITE (R501). -/
def execXbrHwinWrite (req : Requester) (data : Nat) (s : State) : Result :=
  .next (s.atDomain req (0x100001C) (data) (fun s => s.writeHwin req data))

/-- The reset of the PCI domain (R504): the MSI-X table, masters M4 and M5, and every host ring. No path to the host exists, so what
waits for a host-bound ring is dropped, and no engine-bound descriptor is written back. -/
def State.resetPci (s : State) : State :=
  let a := (s.updSys (fun y => { y with msixTable := [], pba := 0, lowPower := false })).resetMaster 4 false
  let b := (List.range 128).foldl (fun t r => if t.bit (F.PKE_RING_CFG.EN r) then t.stopRing r else t) (a.resetMaster 5 false)
  let left := b.pke.ringQ.filter (fun i => decide (i.ring < 64))
  let c := { b with pke := { b.pke with ringQ := b.pke.ringQ.filter (fun i => decide (64 ≤ i.ring)), done := b.pke.done.filter (fun d => decide (128 ≤ d.ring)) } }
  left.foldl (fun t i => t.ringDrop i.ring) c

/-- PCIE_LINK_RESET (R504, R506): a fall, hot reset or PERST# sets LINKDN and takes the link down; a function-level reset sets FLR. -/
def execPcieLinkReset (k : LinkReset) (s : State) : Result :=
  .next (let ready := s.get F.SUP_STATUS.READY
    if k = .flr then s.resetPci.flag F.SUP_LINK.FLR 70 0 ready
    else ((s.resetPci.set F.SUP_LINK.SPEED 0).set F.SUP_LINK.WIDTH 0).flag F.SUP_LINK.LINKDN 70 0 ready)

/-- PCIE_LINK_UP (R499, R557): the link trains to Gen1 to Gen4 with 1, 2 or 4 lanes, and one message is sent for each vector with an
event pending and enabled. -/
def execPcieLinkUp (speed width : Nat) (s : State) : Result :=
  .next (s.when (decide (1 ≤ speed) && decide (speed ≤ 4) && (width == 1 || width == 2 || width == 4)) (fun s =>
    (s.sets [(F.SUP_LINK.SPEED, speed), (F.SUP_LINK.WIDTH, width)]).linkReturnMessages))

end Sys2Proof.Machine
end

