-- ==== Sys2Proof/Machine/Ports.lean ====
section
/-! DEFINITION. The commands of the network ports (spec/11_ports.md) and of their transceivers (R548). -/

namespace Sys2Proof.Machine

/-! Frames. -/

/-- addFragSize as an LLDP frame advertises it (R301), in the TLVs from an offset on. PRESUMED (notes/assumptions/9.md): the TLV is IEEE
802.3's Additional Ethernet Capabilities, organisation 00-12-0F, subtype 7, with the size in bits 4:3 of its two octets. -/
def lldpFrag (f : List Byte) : Nat → Nat → Option Nat
  | 0, _ => none
  | k + 1, o =>
    let h := beAt f o 2
    if f.length < o + 2 ∨ h / 512 = 0 then none
    else if h / 512 = 127 ∧ 6 ≤ h % 512 ∧ beAt f (o + 2) 3 = 0x00120F ∧ byteAt f (o + 5) = 7 then some (byteAt f (o + 7) / 8 % 4)
    else lldpFrag f k (o + 2 + h % 512)

/-- What a received frame tells of the link partner's addFragSize. -/
def State.hearFrag (s : State) (n : Nat) (f : List Byte) : State :=
  match (if beAt f 12 2 = 0x88CC then lldpFrag f 64 14 else none) with
  | none => s
  | some v => s.updPort n (fun p => { p with addFrag := v })

/-- FRAME_RECEIVED (R306 to R311, R348 to R352): a frame from its destination address to the end of its payload; the edge of
its stamp point's word in crumbs of the replica, and the bit index. A frame above 9,216 bytes with its FCS is discarded. -/
def execFrameReceived (n edge b : Nat) (preempt : Bool) (bytes : List Byte) (s : State) : Result :=
  onUnit (decide (n < 4)) (s.when (s.bit (F.PRT_STAT.LINK n) && decide (bytes.length + 4 ≤ 9216)) (fun s =>
    let lat := s.bit (F.PRT_STAT.LATOK n)
    let fl := s.isleFlags (n + 1) lat + (if preempt then 16 else 0)
    let r := s.makeRec (n + 1) n (s.rxStamp n edge b) (s.portErrb n) fl 0
    let v := s.hearFrag n bytes
    (if lat then v else v.bumpSat (F.PRT_CNT.NOLAT n)).classify n bytes r))

/-- Whether the gate admits a waiting frame now (R300, R336, R337): the wire is free, no pause is in force, and the frame ends
before the next reservation, or is preemptable while preemption is verified. -/
def State.admits (s : State) (n : Nat) (f : TxFrame) : Bool :=
  let now := s.replica (n + 1)
  let p := s.pt n
  let occ := occupation (s.get (F.PRT_STAT.MODE n)) (f.bytes.length + 4)
  let free := match p.wire with | some w => w.complete || decide (w.stop ≤ now) | none => true
  let paused := match p.pause with | some u => decide (now < u) | none => false
  let cuttable := !f.express && s.get (F.PRT_STAT.VERIFY n) == 2
  s.canSend n && free && !paused && (cuttable || p.cal.all (fun r => decide (now + occ ≤ r.e)))

/-- FRAME_TRANSMITTED (R311, R336): a frame's transmission: the appointed frame on the wire (none), or the waiting frame of an
index, which the gate admits; its stamp point's word edge and bit index. -/
def execFrameTransmitted (n : Nat) (q : Option Nat) (edge b : Nat) (s : State) : Result :=
  onUnit (decide (n < 4)) (match q with
    | none => match (s.pt n).wire with
      | none => s
      | some w => s.when (!w.complete && s.canSend n) (fun s =>
          ((s.updPort n (fun p => { p with wire := some { w with complete := true } })).emit (.frame n w.frame.bytes)).sentFrame n w.frame w.appointed edge b false)
    | some i => match (s.pt n).waiting[i]? with
      | none => s
      | some f => s.when (s.admits n f) (fun s =>
          let now := s.replica (n + 1)
          let w : Wire := { frame := f, appointed := false, start := now, stop := now + occupation (s.get (F.PRT_STAT.MODE n)) (f.bytes.length + 4), complete := true }
          let a := s.updPort n (fun p => { p with waiting := p.waiting.eraseIdx i, wire := some w })
          (a.emit (.frame n f.bytes)).sentFrame n f false edge b false))

/-! The link. -/

/-- BLOCK_LOCK (R301, R308): the link comes up, verification starts, and the latencies are measured. -/
def execBlockLock (n : Nat) (s : State) : Result :=
  onUnit (decide (n < 4)) (s.when (s.get (F.PRT_STAT.MODE n) != 0 && s.bit (F.PRT_CTRL.ADMIN n) && !(s.get F.PNL_SFP.ABS).testBit n &&
      !(s.get F.PNL_SFP.LOS).testBit n && !s.bit (F.PRT_STAT.LINK n)) (fun s =>
    let m := s.get (F.PRT_STAT.MODE n)
    let verify := s.bit (F.PRT_STAT.PREEMPT n) && (m == 1 || m == 2)
    let a := ((s.set (F.PRT_STAT.LINK n) 1).set (F.PRT_STAT.VERIFY n) (if verify then 1 else 0)).updPort n (fun p => { p with latRun := true })
    let b := a.prtFlag (F.PRT_STAT.LINKUP n) n
    (List.range 16).foldl (fun t c =>
      if t.kind c = 5 ∧ t.get (F.REF_STAT.SOURCE c) = n then (t.updRef c (fun r => { r with qlOk := false })).gainPresence c else t) b))

/-- LATENCY_MEASURED (R308): L_rx and L_tx in crumbs; NOLAT's count is cleared. -/
def execLatencyMeasured (n rx tx : Nat) (s : State) : Result :=
  onUnit (decide (n < 4)) (s.when (s.pt n).latRun (fun s =>
    ((s.updPort n (fun p => { p with latRun := false })).sets [(F.PRT_LAT.RXLAT n, rx), (F.PRT_LAT.TXLAT n, tx), (F.PRT_STAT.LATOK n, 1),
      (F.PRT_CTRL.LATCAL n, 0), (F.PRT_CNT.NOLAT n, 0)]).showUasym))

/-- LATCAL (R308): with the link down nothing is left to measure before the next block lock. -/
def State.latcal (s : State) (n : Nat) : State :=
  if s.bit (F.PRT_CTRL.LATCAL n) ∨ s.bit (F.PRT_STAT.LINK n) = false then s
  else ((s.sets [(F.PRT_STAT.LATOK n, 0), (F.PRT_CTRL.LATCAL n, 1)]).updPort n (fun p => { p with latRun := true })).showUasym

/-- PRT_LATCAL (R308). -/
def execPrtLatcal (req : Requester) (n : Nat) (s : State) : Result :=
  onUnit (decide (n < 4)) (s.atDomain req (0x900000 + 0x100 * n) (s.get (F.PRT_CTRL.ADMIN n) + s.get (F.PRT_CTRL.RXPAUSE n) * 2 + 4) (fun s => s.latcal n))

/-- LINK_DOWN (R317, R339): `cut` is the frame that was on the wire with its stamp point across (the appointed one, or a waiting
one's index), with its stamp's word edge and bit index: it has a record with TRUNC. -/
def execLinkDown (n : Nat) (cut : Option (Option Nat × Nat × Nat)) (s : State) : Result :=
  onUnit (decide (n < 4)) (s.when (s.bit (F.PRT_STAT.LINK n)) (fun s =>
    let a := match cut with
      | none => s
      | some (none, edge, b) => match (s.pt n).wire with
        | some w => if w.complete then s else (s.updPort n (fun p => { p with wire := none })).sentFrame n w.frame w.appointed edge b true
        | none => s
      | some (some i, edge, b) => match (s.pt n).waiting[i]? with
        | some f => (s.updPort n (fun p => { p with waiting := p.waiting.eraseIdx i })).sentFrame n f false edge b true
        | none => s
    a.portDown n))

/-- PAUSE_FRAME (R300, R338): honoured only with RXPAUSE; a quantum is 512 bit times of the MAC. It collapses the appointments it
covers. -/
def execPauseFrame (n quanta : Nat) (s : State) : Result :=
  onUnit (decide (n < 4)) (s.when (s.bit (F.PRT_CTRL.RXPAUSE n) && s.bit (F.PRT_STAT.LINK n)) (fun s =>
    let stop := s.replica (n + 1) + (ceilR ((quanta % 65536 * 64 : Nat) * byteCrumbs (s.get (F.PRT_STAT.MODE n)))).toNat
    let a := s.updPort n (fun p => { p with pause := if quanta % 65536 = 0 then none else some stop })
    if quanta % 65536 = 0 then a
    else ((a.pt n).cal.filter (fun r => decide (r.e < stop))).foldl (fun t r => t.collapse n r.ctx 3 stop r.arrived.isSome) a))

/-- PREEMPT_VERIFY_DONE (R301, R341): a failure collapses the appointments that rest on a planned cut. -/
def execPreemptVerifyDone (n : Nat) (ok : Bool) (s : State) : Result :=
  onUnit (decide (n < 4)) (s.when (s.get (F.PRT_STAT.VERIFY n) == 1) (fun s =>
    let a := s.set (F.PRT_STAT.VERIFY n) (if ok then 2 else 3)
    if ok then a
    else ((a.pt n).cal.filter (·.cut)).foldl (fun t r => t.collapse n r.ctx 4 (((t.pt n).wire.map Wire.stop).getD 0) true) a))

/-! Asymmetry calibration (R314). -/

/-- The enabled channel of KIND 0x06 that names a port. -/
def State.ptpChannelOf (s : State) (n : Nat) : Option Nat :=
  (List.range 16).find? (fun c => s.kind c == 6 && s.bit (F.REF_CFG.EN c) && s.get (F.REF_CFG.PORT c) == n)

/-- ASYMCAL: start, or end at once with ACFAIL. -/
def State.asymcal (s : State) (n : Nat) : State :=
  if (s.pt n).acal.isSome then s
  else match s.ptpChannelOf n with
    | none => s.acalFail n 1
    | some c =>
      let w := s.acalWhy c
      if w ≠ 0 then s.acalFail n w
      else if s.get (F.REF_UKIND.UKIND c) = unbounded then s.acalFail n 4
      else if !s.bit (F.PRT_STAT.LINK n) then s.acalFail n 7
      else (s.set (F.PRT_CTRL.ASYMCAL n) 1).updPort n (fun p => { p with acal := some { start := s.raw, chan := c } })

/-- PRT_ASYMCAL (R314). -/
def execPrtAsymcal (req : Requester) (n : Nat) (s : State) : Result :=
  onUnit (decide (n < 4)) (s.atDomain req (0x900000 + 0x100 * n) (s.get (F.PRT_CTRL.ADMIN n) + s.get (F.PRT_CTRL.RXPAUSE n) * 2 + 8) (fun s => s.asymcal n))

/-- The end of the window of R314. -/
def State.acalEnd (s : State) (n : Nat) (k : AsymCal) : State :=
  if k.n < 10 then s.acalFail n 8
  else if k.ukind = unbounded then s.acalFail n 4
  else
    let m := k.sum / k.n
    let var := (k.sumSq - k.sum * k.sum / k.n) / (k.n - 1 : Nat)
    let r := roundAway (m / crumbPs)
    let resid := absR (m - r * crumbPs)
    let unc := errbUp ((k.errb + k.ukind : Nat) + 3 * sqrtR (var / k.n) + resid)
    let a := (s.setISat (F.PRT_ASYM.ASYM n) (s.getI (F.PRT_ASYM.ASYM n) - r)).sets [(F.PRT_LINKUNC.UNC n, unc), (F.PRT_CTRL.ASYMCAL n, 0)]
    ((a.updPort n (fun p => { p with acal := none })).showUasym).prtFlag (F.PRT_STAT.ACDONE n) n

/-- ASYMCAL_WINDOW_END (R314): PRT_ACAL.SEC seconds after the start. -/
def execAsymcalWindowEnd (n : Nat) (s : State) : Result :=
  onUnit (decide (n < 4)) (match (s.pt n).acal with
    | none => s
    | some k => s.when (decide (k.start + s.get (F.PRT_ACAL.SEC n) * 625000000 ≤ s.raw)) (·.acalEnd n k))

/-! ESMC (R305). -/

/-- The SSM and eSSM that a port advertises. -/
def State.esmcLevel (s : State) (n : Nat) : Nat × Nat :=
  let syt := s.get F.PRT_SYT_STAT.STATE
  let st := s.srvState
  if !s.bit (F.PRT_ESMC.AUTO n) then (s.get (F.PRT_ESMC.MSSM n), s.get (F.PRT_ESMC.MESSM n))
  else if !s.bit (F.PRT_STAT.SYNCE_TX n) then (0xF, 0xFF)
  else if (match s.sel.sel with | some c => s.kind c == 5 && s.get (F.REF_STAT.SOURCE c) == n | none => false) then (0xF, 0xFF)
  else if (syt ≠ 2 ∧ syt ≠ 4) ∨ s.bit F.PRT_SYT_STAT.LIMIT then (0xF, 0xFF)
  else if syt = 4 then (0xB, 0xFF)
  else match s.sel.sel with
    | some c =>
      let q := s.get (F.REF_STAT.QCLASS c)
      if st = 1 ∨ st = 2 then
        (if q = 1 then (2, 0x20) else if q = 2 then (2, 0xFF) else if q = 3 then (4, 0xFF) else if q = 4 then (8, 0xFF) else (0xB, 0xFF))
      else (0xB, 0xFF)
    | none => if st = 3 ∧ s.get F.OSC_STAT.HSET = 0 then (4, 0xFF) else (0xB, 0xFF)

/-- An ESMC PDU as a frame (notes/assumptions/9.md): QL TLV and, with `ext`, the extended QL TLV. -/
def esmcFrame (n : Nat) (event ext : Bool) (ssm essm : Nat) : List Byte :=
  let tlv := bytesOf [1, 0, 4] ++ leBytes 1 (ssm % 16)
  let tlv2 := if ext then bytesOf [2, 0, 0x14] ++ leBytes 1 essm ++ clockId ++ bytesOf [0, 0, 1, 0, 0, 0, 0, 0] else []
  let pdu := bytesOf [0x0A, 0x00, 0x19, 0xA7, 0, 1] ++ leBytes 1 (if event then 0x18 else 0x10) ++ bytesOf [0, 0, 0] ++ tlv ++ tlv2
  bytesOf [1, 0x80, 0xC2, 0, 0, 2] ++ portMac n ++ bytesOf [0x88, 0x09] ++ sliceB pdu 0 (max 46 pdu.length)

/-- ESMC_INFO_SEND (R305): the information PDU of each second, or an event PDU where the level advertised has changed. -/
def execEsmcInfoSend (n : Nat) (event : Bool) (s : State) : Result :=
  onUnit (decide (n < 4)) (s.when (s.bit (F.PRT_ESMC.TXEN n) && s.canSend n && (!event || (s.pt n).esmc != some (s.esmcLevel n))) (fun s =>
    let l := s.esmcLevel n
    let ext := s.bit (F.PRT_ESMC.EXT n)
    let a := (s.sets [(F.PRT_ESMC.SSSM n, l.1), (F.PRT_ESMC.SESSM n, if ext then l.2 else 0xFF)]).updPort n (fun p => { p with esmc := some l })
    a.sendOn n { src := .own, bytes := esmcFrame n event ext l.1 l.2, express := false }))

/-! MG0 (R315, R316). -/

/-- MG0_RX_INTERRUPT (R316): the RAW of replica 5 is latched, with COARSE and 5 µs added to the bound. -/
def execMg0RxInterrupt (s : State) : Result :=
  .next (let fl := s.isleFlags 5 true + 64
    let e := errbSum [if (s.isle 5).lost then unbounded else (s.isle 5).errb, 5000000]
    let r := s.makeRec 5 4 (s.replica 5) e fl 0
    { s with pke := { s.pke with mgRec := r } })

/-- Take MG0's link up or down. -/
def State.mgLink (s : State) (speed : Nat) : State :=
  let old := s.get F.PRT_MG_STAT.SPEED
  let a := s.set F.PRT_MG_STAT.SPEED speed
  if old = 0 ∧ speed ≠ 0 then a.flag F.PRT_MG_STAT.LINKUP 36 4
  else if old ≠ 0 ∧ speed = 0 then a.flag F.PRT_MG_STAT.LINKDN 36 4
  else a

/-- MG0_LINK_CHANGE (R315): 0 down, 1 100BASE-TX, 2 1000BASE-T. While ADMIN is 0 the link stays down. -/
def execMg0LinkChange (speed : Nat) (s : State) : Result :=
  onUnit (decide (speed < 3)) (s.when (speed == 0 || s.bit F.PRT_MG_CTRL.ADMIN) (·.mgLink speed))

/-! Transceivers (R548). -/

/-- PTn_TXDIS: high while ADMIN is 0, PTn_ABS is high, or the PRT domain is in S3. -/
def State.showTxdis (s : State) (n : Nat) : State :=
  let hi := !s.bit (F.PRT_CTRL.ADMIN n) || (s.get F.PNL_SFP.ABS).testBit n || s.get (F.PWR_DOM_STAT.STATE (6 + n)) == 3
  s.set F.PNL_SFP.TXDIS (if hi then setBitN (s.get F.PNL_SFP.TXDIS) n else clearBits 4 (s.get F.PNL_SFP.TXDIS) (2 ^ n))

/-- SFP_ABS_CHANGE (R548): PTn_ABS reads high (`abs`) or low. -/
def execSfpAbsChange (n : Nat) (abs : Bool) (s : State) : Result :=
  onUnit (decide (n < 4)) (s.when ((s.get F.PNL_SFP.ABS).testBit n != abs) (fun s =>
    let a := s.set F.PNL_SFP.ABS (if abs then setBitN (s.get F.PNL_SFP.ABS) n else clearBits 4 (s.get F.PNL_SFP.ABS) (2 ^ n))
    let b := (a.showTxdis n).flagBit F.PNL_SFP.ABSCHG n 86 n
    if abs then b.portDown n else b))

/-- SFP_LOS (R548): a high PTn_LOS is a loss of block lock. -/
def execSfpLos (n : Nat) (los : Bool) (s : State) : Result :=
  onUnit (decide (n < 4)) (
    let a := s.set F.PNL_SFP.LOS (if los then setBitN (s.get F.PNL_SFP.LOS) n else clearBits 4 (s.get F.PNL_SFP.LOS) (2 ^ n))
    if los then a.portDown n else a)

end Sys2Proof.Machine
end

