-- ==== Sys2Proof/Machine/Refs.lean ====
section
/-! DEFINITION. The commands of the reference inputs (spec/05_references.md; sensing of spec/21_panel.md). -/

namespace Sys2Proof.Machine

/-! Pulse and frequency channels. -/

/-- Judge the oldest held stamp of a pulse channel that is not judged yet (R144). -/
def State.judgeOldest (s : State) (c : Nat) : State :=
  match (s.rf c).held.find? (fun h => h.cls == 0) with
  | none => s
  | some h =>
    let j := s.judgePulse c h
    let i := (s.rf c).held.findIdx (fun h => h.cls == 0)
    j.1.updRef c (fun r => { r with held := match j.2 with
      | none => r.held.eraseIdx i
      | some g => r.held.set i g })

/-- PULSE_EDGE (R144). -/
def execPulseEdge (c : Nat) (s : State) : Result := onUnit (decide (c < 16)) (s.when (s.kind c == 2) (·.judgeOldest c))

/-- ACTIVITY_TIMEOUT (R144): 2.5 nominal periods after the last accepted edge. -/
def execActivityTimeout (c : Nat) (s : State) : Result :=
  onUnit (decide (c < 16)) (s.when (s.kind c == 2) (fun s =>
    match (s.rf c).lastEdge with
    | none => s
    | some l =>
      let f := s.get (F.REF_NOMFREQ.FREQ c)
      let per : Rat := if f = 0 then 0 else (320000000000 * 16 * 65536 : Rat) / f
      s.when (decide ((l : Rat) + 5 / 2 * per ≤ (s.now * 16 : Nat))) (fun s =>
        (s.updRef c (fun r => { r with lastEdge := none })).loseActivity c)))

/-- FREQ_ACTIVITY_COUNT (R145): at the end of each millisecond, against half the count that the nominal frequency implies. -/
def execFreqActivityCount (c : Nat) (s : State) : Result :=
  onUnit (decide (c < 16)) (s.when (freqOnly (s.kind c) && s.raw % 625000 == 0) (fun s =>
    match s.tdcOf c with
    | none => s
    | some n =>
      let count := (s.td n).edges - (s.td n).countAt
      let k := if s.bit (F.TDC_CFG.PRESCALE n) then s.get (F.TDC_CFG.PSK n) + 1 else 0
      let t := s.updTdc n (fun d => { d with countAt := d.edges })
      if s.get (F.REF_NOMFREQ.FREQ c) ≤ 2 * count * 65536000 * 2 ^ k then t.gainActivity c else t.loseActivity c))

/-! IRIG-B (R146, R147). -/

/-- A pulse's class by its high time in µs (R146): 0, 1, 2 for a marker, none for any other width. -/
def irigClass (us : Nat) : Option Nat :=
  if 1500 ≤ us ∧ us ≤ 2500 then some 0
  else if 4500 ≤ us ∧ us ≤ 5500 then some 1
  else if 7500 ≤ us ∧ us ≤ 8500 then some 2
  else none

/-- The number in some bit positions of a frame, lowest first. -/
def irigBits (f : List Nat) (lo n : Nat) : Nat := ((List.range n).map (fun i => (f.getD (lo + i) 0 % 2) * 2 ^ i)).foldl (· + ·) 0

/-- Position identifiers and Pr in their places, and no marker elsewhere. -/
def irigMarkers (f : List Nat) : Bool :=
  f.length == 100 && (List.range 100).all (fun i => (f.getD i 0 == 2) == (i == 0 || i % 10 == 9))

/-- What a frame's time of year says: seconds, minutes, hours, day; none where a BCD digit is invalid. -/
def irigTime (f : List Nat) : Option (Nat × Nat × Nat × Nat) :=
  let d := fun lo n => irigBits f lo n
  if d 1 4 ≤ 9 ∧ d 10 4 ≤ 9 ∧ d 20 4 ≤ 9 ∧ d 30 4 ≤ 9 ∧ d 35 4 ≤ 9 then
    some (d 1 4 + 10 * d 6 3, d 10 4 + 10 * d 15 3, d 20 4 + 10 * d 25 2, d 30 4 + 10 * d 35 4 + 100 * d 40 2)
  else none

/-- Days from 1970-01-01 to 1 January of a year. -/
def yearDays (y : Nat) : Nat := 365 * (y - 1970) + (y - 1969) / 4 - (y - 1901) / 100 + (y - 1601) / 400

/-- The year that places a day of year nearest to a second count (R146). -/
def nearestYear (sec : Nat) (doy : Nat) : Nat :=
  let y := (civil (sec / 86400)).1
  let dist := fun (k : Nat) => distN ((yearDays k + doy - 1) * 86400) sec
  if dist (y + 1) < dist y ∧ dist (y + 1) < dist (y - 1) then y + 1 else if dist (y - 1) < dist y ∧ 1970 < y then y - 1 else y

/-- The odd parity of C37.118.1 over the data bits up to position 75 (notes/assumptions/9.md; PRESUMED). -/
def irigParity (f : List Nat) : Bool :=
  ((List.range 76).filter (fun i => f.getD i 0 == 1)).length % 2 == 1

/-- The time of a frame's Pr edge as UTC-like seconds, before any local offset; none where the frame fails (R147). `code` is
the digit of B000 to B007; `ext` whether the control functions are read. -/
def State.irigSecond (s : State) (code : Nat) (f : List Nat) (ext : Bool) : Option Nat :=
  if !irigMarkers f then none
  else match irigTime f with
    | none => none
    | some (sec, min, hr, doy) =>
      let sbs := irigBits f 80 9 + 512 * irigBits f 90 8
      let hasSbs := code == 0 || code == 3 || code == 4 || code == 7
      let yOk := code < 4 || (decide (irigBits f 50 4 ≤ 9) && decide (irigBits f 55 4 ≤ 9))
      if 60 < sec ∨ 59 < min ∨ 23 < hr ∨ doy < 1 ∨ 366 < doy ∨ !yOk then none
      else if hasSbs ∧ sbs ≠ hr * 3600 + min * 60 + sec ∧ sec < 60 then none
      else if ext ∧ !irigParity f then none
      else
        let y := if code < 4 then nearestYear s.dsec doy else 2000 + irigBits f 50 4 + 10 * irigBits f 55 4
        some ((yearDays y + doy - 1) * 86400 + hr * 3600 + min * 60 + sec)

/-- The local offset of the control functions in seconds (C37.118.1; PRESUMED). -/
def irigLocal (f : List Nat) : Int :=
  let h : Int := (irigBits f 65 4 * 3600 + irigBits f 70 1 * 1800 : Nat)
  if f.getD 64 0 = 1 then -h else h

/-- Whether disciplined time has been set: a year can be supplied (R147). -/
def State.timeKnown (s : State) : Bool := decide (s.errb < unbounded) || decide (0 < s.dsec / 86400)

/-- A failed frame (R147). -/
def State.irigFail (s : State) (c : Nat) : State :=
  let a := (s.refFlag (F.REF_STAT.LABELERR c) c).updRef c (fun r => { r with failed := r.failed + 1, good := 0 })
  if 3 ≤ (a.rf c).failed then (a.set (F.REF_STAT.LABELLED c) 0).loseActivity c else a

/-- A good frame (R147, R161, R176): labelled after two in a row, until a good frame contradicts the one before it; the phase of
its Pr edge is used. -/
def State.irigGood (s : State) (c : Nat) (f : List Nat) (t : Nat) (pr16 : Nat) : State :=
  let ts := s.get (F.REF_CFG.TSCALE c)
  let r := s.rf c
  let leap := ts == 1 && f.getD 60 0 == 1
  let follows := 0 < r.good && (t == r.lastTime + 1 || ((r.announced == some true) && (t == r.lastTime || t == r.lastTime + 2)))
  let a := s.updRef c (fun q => { q with good := if follows then 2 else 1, failed := 0, lastTime := t, announced := some leap, heardAt := s.raw })
  let q := irigBits f 71 4
  let uk := if ts ≠ 1 ∨ q = 0 then 0 else if q ≤ 7 then errbCap (10 ^ (q - 1) * 1000) else unbounded
  let b := (a.set (F.REF_UKIND.UKIND c) uk).set (F.REF_QUAL.RAW c) (if ts = 1 then q else 0)
  let d := b.setBit (F.REF_STAT.LABELLED c) (follows || (r.good == 0 && s.bit (F.REF_STAT.LABELLED c)))
  let e := d.gainActivity c
  let tai : Int := if ts = 2 then (t : Int) else if ts = 1 then (t : Int) - irigLocal f + s.utcOffset else (t : Int) + s.utcOffset
  match e.tdcOf c with
  | none => e
  | some n =>
    if tai < 0 then e
    else
      let edge : Rat := (pr16 : Rat) - 16 * ((s.boardDelay c + s.getI (F.REF_DLY.DLY c) : Int) : Rat)
      let stop := (s.pairAt (crumbOf pr16)).rawOf 16 ((tai.toNat * fracPerSec : Nat) : Rat)
      e.phaseResult n c ((stop : Rat) - edge) (crumbOf pr16) 1

/-- IRIG_FRAME (R146, R147): a complete frame of the code form B00`code`, its 100 high times in µs from Pr on, and the stamp of
its Pr edge in sixteenths of a crumb. A frame whose Pr stamp was discarded is treated as not received (R164). -/
def execIrigFrame (c code : Nat) (widths : List Nat) (pr16 : Nat) (s : State) : Result :=
  onUnit (decide (c < 16) && decide (code < 8)) (s.when (s.kind c == 4 && (s.rf c).prs.any (· == pr16)) (fun s =>
    let a := s.updRef c (fun r => { r with prs := r.prs.filter (fun p => decide (pr16 < p)) })
    let cls := widths.map irigClass
    let f := cls.map (fun o => o.getD 3)
    if cls.any (·.isNone) then a.irigFail c
    else match a.irigSecond code f (a.get (F.REF_CFG.TSCALE c) == 1) with
      | none => a.irigFail c
      | some t => if code < 4 ∧ !a.timeKnown then a.updRef c (fun r => { r with failed := 0 }) else a.irigGood c f t pr16))

/-! GNSS. -/

/-- GNSS_EPOCH_STROBE (R149): the strobe is stamped on the TDC channel of the GNSS reference. -/
def execGnssEpochStrobe (half code kStop : Nat) (s : State) : Result :=
  onUnit (decide (half < 2)) (match (s.channelOfKind 1).bind s.tdcOf with
    | none => s
    | some n => s.tdcEdge n half code kStop)

/-- The fix state of a solution (R150, R159): 0 none, 1 not validated during the survey, 2 single-band, 3 dual-band. -/
def State.fixOf (s : State) (c used dual : Nat) (moved validated : Bool) : Nat :=
  let hold := s.sel.posHeld && !moved
  if used < (if hold then 2 else 4) then 0
  else if !hold && decide (0 < s.sel.surveyLeft) && !validated then 1
  else if !s.bit (F.REF_CFG.SINGLE c) && decide ((if hold then 4 else 5) ≤ dual) then 3
  else 2

/-- TAI minus the system time of GSYS in seconds (R148). -/
def gsysOffset (g : Nat) : Nat := if g = 2 then 33 else 19

/-- GNSS_SOLUTION (R148 to R150, R161): firmware returns, for the strobe that waits, the time of GSYS in 2⁻¹⁶ ns with the
broadcast correction, its uncertainty in ps, the satellites used and those used with both bands, whether the antenna has
moved from the held position, whether GSYS time is validated, the position and the satellite table (GNS_SAT words). -/
def execGnssSolution (tsys : Nat) (corr : Int) (ukind used dual : Nat) (moved validated : Bool) (pos : List Int) (sats : List Nat)
    (s : State) : Result :=
  .next (match s.channelOfKind 1 with
    | none => s
    | some c =>
      let fix := s.fixOf c used dual moved validated
      let hold := s.sel.posHeld && !moved
      let left := if hold || fix = 0 then s.sel.surveyLeft else s.sel.surveyLeft - 1
      let a := { s with sel := { s.sel with surveyLeft := left, strobe := none, lastFix := if fix = 0 then s.sel.lastFix else s.raw } }
      let b := a.sets [(F.REF_QUAL.RAW c, fix), (F.REF_QUAL.AUX c, min 255 used), (F.REF_UKIND.UKIND c, if fix = 0 then unbounded else errbCap ukind),
        (F.GNS_STAT.FIX, fix), (F.GNS_STAT.HOLD, if hold then 1 else 0), (F.GNS_STAT.SURVEY, if !s.sel.posHeld && decide (0 < left) then 1 else 0),
        (F.GNS_STAT.MOVED, if moved then 1 else 0), (F.GNS_STAT.USED, min 255 used), (F.GNS_SURVEY.LEFT, left), (F.GNS_AGE.AGE, 0)]
      let d := ((b.bump F.GNS_SOLN.SOLN).setI F.GNS_LAT.LAT (pos.getD 0 0)).setI F.GNS_LON.LON (pos.getD 1 0)
      let e := (List.range 64).foldl (fun t k =>
        let w := sats.getD k 3
        t.sets [(F.GNS_SAT.SYS k, bitsOf w 0 2), (F.GNS_SAT.PRN k, bitsOf w 2 6), (F.GNS_SAT.BAND1 k, bitsOf w 8 1),
          (F.GNS_SAT.BAND2 k, bitsOf w 9 1), (F.GNS_SAT.USED k, bitsOf w 10 1), (F.GNS_SAT.CN0 k, bitsOf w 12 8),
          (F.GNS_SAT.ELEV k, bitsOf w 20 8)]) (d.setI F.GNS_HGT.HGT (pos.getD 2 0))
      if fix = 0 then e
      else
        let g := ((e.updRef c (fun r => { r with heardAt := s.raw })).set (F.REF_STAT.LABELLED c) 1).gainActivity c
        match s.sel.strobe, s.tdcOf c with
        | some at16, some n =>
          let stamp := crumbOf at16
          let tsol : Int := (tsys : Int) + (gsysOffset (s.get (F.REF_CFG.GSYS c)) * fracPerSec : Nat) + corr
          match (s.pairAt stamp).dtime stamp with
          | none => g
          | some local_ =>
            let d : Rat := ((tsol - (local_ : Int) : Int) : Rat) * 5 / 1024 +
              ((s.getI (F.REF_DLY.DLY c) + s.boardDelay c : Int) : Rat) + (Config.groupDelay (fix == 3) : Rat) / crumbPs
            g.phaseResult n c (d * 16) stamp 1
        | _, _ => g)

/-- GNSS_SURVEY_COMPLETE (R149): the 3,600 s survey has fixed the position, which is then held. -/
def execGnssSurveyComplete (s : State) : Result :=
  .next (s.when (!s.sel.posHeld && s.sel.surveyLeft == 0) (fun s =>
    { s with sel := { s.sel with posHeld := true } }.sets [(F.GNS_STAT.HOLD, 1), (F.GNS_STAT.SURVEY, 0), (F.GNS_SURVEY.LEFT, 0)]))

/-- GNSS_NO_FIX_TIMEOUT (R565): no fix for 5 s. -/
def execGnssNoFixTimeout (s : State) : Result :=
  .next (match s.channelOfKind 1 with
    | none => s
    | some c => s.when (decide (s.sel.lastFix + 5 * 625000000 ≤ s.raw)) (fun s =>
        (s.sets [(F.REF_STAT.LABELLED c, 0), (F.REF_QUAL.RAW c, 0), (F.REF_UKIND.UKIND c, unbounded)]).loseActivity c))

/-! The antenna (R151). -/

/-- Act on a current sample in mA. -/
def State.antennaSample (s : State) (mA : Nat) : State :=
  let a := (s.set F.REF_ANT.CURRENT (min 100 mA)).setBit F.REF_PRES.ANT (decide (3 ≤ mA) && decide (mA ≤ 80))
  let ch := s.channelOfKind 1
  let lose := fun (t : State) => match ch with | some c => t.losePresence c | none => t
  let gain := fun (t : State) => match ch with | some c => t.gainPresence c | none => t
  let open_ := fun (t : State) => if t.bit F.REF_ANT.OPEN then t else (t.set F.REF_ANT.OPEN 1).flag F.REF_ANT.OPENEV 16 0 mA
  let clear := fun (t : State) => (t.sets [(F.REF_ANT.OPEN, 0), (F.REF_ANT.SHORT, 0)]).setBit F.REF_ANT.SHORT false
  let noShort := fun (t : State) => { t with sel := { t.sel with shortSince := none } }
  if s.bit F.REF_ANT.SHORT && !s.bit F.REF_ANT.FEEDON then a
  else if 80 < mA then
    let b := if a.bit F.REF_ANT.SHORT then a else (a.set F.REF_ANT.SHORT 1).flag F.REF_ANT.SHORTEV 16 0 mA
    let d := { b with sel := { b.sel with shortSince := some (b.sel.shortSince.getD b.raw) } }
    lose (d.set F.REF_ANT.OPEN 0)
  else if mA < 3 then
    let b := noShort (open_ (a.set F.REF_ANT.SHORT 0))
    let ok := match ch with | some c => s.bit (F.REF_CFG.ANTOPEN_OK c) | none => false
    if s.bit F.REF_ANT.FEEDON && !ok then lose b else gain b
  else gain (noShort (clear a))

/-- ANTENNA_CURRENT_SAMPLE (R151): each 1 µs sample of the feed current. -/
def execAntennaCurrentSample (mA : Nat) (s : State) : Result := .next (s.antennaSample mA)

/-- ANTENNA_SHORT_CUTOFF (R151): a short that has lasted 1 ms switches the feed off; it is retried 10 s later. -/
def execAntennaShortCutoff (s : State) : Result :=
  .next (match s.sel.shortSince with
    | none => s
    | some t => s.when (s.bit F.REF_ANT.SHORT && s.bit F.REF_ANT.FEEDON && decide (t + 625000 ≤ s.raw)) (fun s =>
        { s with sel := { s.sel with shortSince := none, retryAt := s.raw + 10 * 625000000 } }.set F.REF_ANT.FEEDON 0))

/-- ANTENNA_RETRY (R151): the feed is on for 1 ms, in which the least current drawn was `mA`: above 80 mA the short stays and the
feed goes off again; else the short ends, the feed stays on and the sample is acted on. -/
def execAntennaRetry (mA : Nat) (s : State) : Result :=
  .next (s.when (s.bit F.REF_ANT.SHORT && !s.bit F.REF_ANT.FEEDON && decide (s.sel.retryAt ≤ s.raw)) (fun s =>
    if 80 < mA then ({ s with sel := { s.sel with retryAt := s.raw + 10 * 625000000 } }.set F.REF_ANT.CURRENT (min 100 mA))
    else ((s.sets [(F.REF_ANT.SHORT, 0), (F.REF_ANT.FEEDON, 1)])).antennaSample mA))

/-! ESMC and announce. -/

/-- The QL of an ESMC PDU from its slow-protocol subtype octet on (G.8264; notes/assumptions/9.md): the SSM code, or the enhanced
code where it is read; none where the PDU is malformed (R153). -/
def esmcCode (b : List Byte) (ext : Bool) : Option (Nat × Bool) :=
  if b.length < 14 ∨ leAt b 0 1 ≠ 0x0A ∨ beAt b 1 3 ≠ 0x0019A7 ∨ beAt b 4 2 ≠ 1 ∨ leAt b 6 1 / 16 ≠ 1 ∨
      leAt b 10 1 ≠ 1 ∨ beAt b 11 2 ≠ 4 then none
  else
    let ssm := leAt b 13 1 % 16
    if ext ∧ 18 ≤ b.length ∧ leAt b 14 1 = 2 ∧ beAt b 15 2 = 0x14 ∧ 0x20 ≤ leAt b 17 1 ∧ leAt b 17 1 ≤ 0x23 then some (leAt b 17 1, true)
    else some (ssm, false)

/-- ESMC_PDU (R153). -/
def execEsmcPdu (c : Nat) (bytes : List Byte) (s : State) : Result :=
  onUnit (decide (c < 16)) (s.when (s.kind c == 5) (fun s =>
    match esmcCode bytes (s.bit (F.REF_CFG.EXTQL c)) with
    | none => s
    | some (code, e) => (s.set (F.REF_QUAL.RAW c) code).updRef c (fun r => { r with extended := e, qlOk := true, heardAt := s.raw })))

/-- ESMC_TIMEOUT (R153): with no valid PDU for 5 s the level is QL-FAILED. -/
def execEsmcTimeout (c : Nat) (s : State) : Result :=
  onUnit (decide (c < 16)) (s.when (s.kind c == 5 && decide ((s.rf c).heardAt + 5 * 625000000 ≤ s.raw)) (·.updRef c (fun r => { r with qlOk := false })))

/-- ANNOUNCE_RECEIPT_TIMEOUT (R142, R154): announce receipt is part of the channel's presence. -/
def execAnnounceReceiptTimeout (c : Nat) (s : State) : Result :=
  onUnit (decide (c < 16)) (s.when (s.kind c == 6) (fun s => (s.set (F.REF_STAT.LABELLED c) 0).losePresence c))

/-! Advertised quality (R159, R160). -/

/-- The class of an ESMC code (R153, R159). -/
def esmcClass (code : Nat) (ext : Bool) : Nat :=
  if ext then (if code = 0x20 ∨ code = 0x21 then 1 else if code = 0x22 then 5 else if code = 0x23 then 2 else 15)
  else if code = 2 then 2 else if code = 4 then 3 else if code = 8 then 4 else if code = 0xB then 5 else 15

/-- The derived QCLASS of a channel (R159). -/
def State.derivedClass (s : State) (c : Nat) : Nat :=
  let raw := s.get (F.REF_QUAL.RAW c)
  let aux := s.get (F.REF_QUAL.AUX c)
  match s.kind c with
  | 1 => if raw = 3 then 1 else if raw = 2 then 2 else if raw = 1 then 7 else 15
  | 2 => 6
  | 3 => 6
  | 4 => if s.get (F.REF_CFG.TSCALE c) ≠ 1 then 6 else if raw = 0 then 2 else if raw ≤ 4 then 3 else if raw ≤ 0xB then 7 else 15
  | 5 => if (s.rf c).qlOk then esmcClass raw (s.rf c).extended else 15
  | 6 =>
    if raw = 6 then (if 0x17 ≤ aux ∧ aux ≤ 0x21 then 1 else 2)
    else if raw = 7 ∨ raw = 135 then 3
    else if raw = 140 ∨ raw = 150 ∨ raw = 160 then 4
    else if raw = 248 then 6
    else if raw = 255 then 15
    else 7
  | 7 => (s.rf c).twinClass
  | 8 => if s.bit F.OSC_STAT.CELL_PROOF then 15 else 14
  | 9 => 6
  | _ => 15

/-- The effective QCLASS (R160): 0 while EN is 0. -/
def State.effectiveClass (s : State) (c : Nat) : Nat :=
  let d := s.derivedClass c
  if !s.bit (F.REF_CFG.EN c) then 0
  else if s.bit (F.REF_CFG.QOVR_EN c) && s.kind c != 8 && d != 15 then s.get (F.REF_CFG.QOVR c)
  else d

/-- Re-evaluate a channel's QCLASS and the age of its indication. -/
def State.evalClass (s : State) (c : Nat) : State :=
  let q := s.effectiveClass c
  let r := s.rf c
  let a := if r.heardAt = 0 then s else s.setSat (F.REF_QUAL.AGE c) ((s.raw - r.heardAt) / 62500000)
  if s.get (F.REF_STAT.QCLASS c) = q then a
  else
    let b := (a.set (F.REF_STAT.QCLASS c) q).refFlag (F.REF_STAT.QCHG c) c
    if q = 15 then b.disqualify c 3 else b.tryQualify c

/-- QCLASS_EVALUATION (R159). -/
def execQclassEvaluation (c : Nat) (s : State) : Result := onUnit (decide (c < 16)) (s.evalClass c)

/-! Presence. -/

/-- Set a UIN's presence (R163, R165, R547). -/
def State.setUinPresence (s : State) (k : Nat) (p : Bool) : State :=
  let a := (s.setBit (F.PNL_SENSE.PRES k) p).set F.REF_PRES.UIN
    (if p then setBitN (s.get F.REF_PRES.UIN) k else clearBits 6 (s.get F.REF_PRES.UIN) (2 ^ k))
  match (List.range 16).find? (fun c => (s.kind c == 2 || s.kind c == 3 || s.kind c == 4) && s.get (F.REF_STAT.SOURCE c) == k) with
  | none => a
  | some c => if p then a.gainPresence c else a.losePresence c

/-- UIN_SENSE_SAMPLE (R546, R547): the mean sense voltage of a microsecond in nV (none where no part of it could be sampled). -/
def execUinSenseSample (k : Nat) (nV : Option Nat) (s : State) : Result :=
  onUnit (decide (k < 6)) (match nV with
    | none => s
    | some v =>
      let i := Config.uinBias k
      let mode := leAt (s.sec 0x12) (8 * k) 1
      let term := leAt (s.sec 0x12) (8 * k + 1) 1
      let limit := if mode = 2 then 30000 else if (mode = 1 ∨ mode = 3) ∧ term = 0 then 40 else 5000
      let a := s.setSat (F.PNL_SENSE.RS k) (if i = 0 then 0xFFFFF else (20 * v + i) / (2 * i))
      a.setUinPresence k (s.bit (F.PNL_SENSE.SENSEOFF k) || decide (v ≤ limit * i)))

/-- PLUG_HOLD_DONE (R165): 100 ms of unbroken presence. -/
def execPlugHoldDone (c : Nat) (s : State) : Result :=
  onUnit (decide (c < 16)) (match (s.rf c).presAt with
    | none => s
    | some t => s.when (decide (t + 62500000 ≤ s.raw)) (fun s =>
        let a := (s.updRef c (fun r => { r.noHistory with presAt := none, holdUntil := if r.holdUntil ≤ s.raw then s.raw else r.holdUntil })).refFlag
          (F.REF_STAT.PLUG c) c
        a.tryQualify c))

/-- HELD_STAMP_RELEASE (R163): the oldest stamp held for 32 µs goes on. -/
def execHeldStampRelease (c : Nat) (s : State) : Result :=
  onUnit (decide (c < 16)) (match (s.rf c).held, s.tdcOf c with
    | h :: rest, some n => s.when (decide (h.taken + 20000 ≤ s.raw)) (fun s =>
        (s.updRef c (fun r => { r with held := rest })).releaseStamp n c h)
    | _, _ => s)

/-! Register writes of this chapter. -/

/-- A write of REF_CFG (R164, R120 and REF_CFG's meanings). -/
def State.writeRefCfg (s : State) (req : Requester) (c data : Nat) : State :=
  let f := fun (fld : Fld) => bitsOf data fld.lo fld.w
  let en := data.testBit 0
  let fixedFields := [F.REF_CFG.ANTOPEN_OK c, F.REF_CFG.SINGLE c, F.REF_CFG.CONST c, F.REF_CFG.GSYS c, F.REF_CFG.PORT c, F.REF_CFG.EXTQL c,
    F.REF_CFG.TSCALE c]
  let changed := fixedFields.any (fun x => f x != s.get x)
  let qovr := f (F.REF_CFG.QOVR c)
  let gsys := f (F.REF_CFG.GSYS c)
  let bad := (s.bit (F.REF_CFG.EN c) && changed) || qovr == 0 || (decide (8 ≤ qovr) && qovr != 15) || f (F.REF_CFG.CONST c) == 0 || gsys == 3 ||
    !(f (F.REF_CFG.CONST c)).testBit gsys || f (F.REF_CFG.TSCALE c) == 3 || (en && !s.bit (F.REF_CFG.EN c) && s.isHeld (0x100 + c))
  if bad then s.accessError req 7 0x600004
  else
    let a := s.sets ((fixedFields ++ [F.REF_CFG.EN c, F.REF_CFG.FORCE_DQ c, F.REF_CFG.QOVR_EN c, F.REF_CFG.QOVR c]).map (fun x => (x, f x)))
    let b := if changed then a.set (F.REF_UKIND.UKIND c) (if a.kind c = 4 then a.ukindRest c else a.get (F.REF_UKIND.UKIND c)) else a
    (b.evalClass c).reviewOff c

/-- REF_CFG_WRITE (R164). -/
def execRefCfgWrite (req : Requester) (c data : Nat) (s : State) : Result :=
  onUnit (decide (c < 16)) (s.atFabric req (0x600004) (fun s => s.writeRefCfg req c data))

/-- k of R179: the smallest exponent of 1 or more for which the frequency over 2^k is at most 10 MHz. -/
def prescaleK (freq : Nat) : Nat :=
  ((List.range 9).find? (fun k => decide (1 ≤ k) && decide (freq ≤ 10000000 * 65536 * 2 ^ k))).getD 8

/-- A write of a word of REF_NOMFREQ (R144, R145, R179): the low word is held until the high word is written. -/
def State.writeNomfreq (s : State) (req : Requester) (c : Nat) (high : Bool) (data : Nat) : State :=
  let k := s.kind c
  let off := if high then 0x600024 else 0x600020
  if (k ≠ 2 ∧ k ≠ 3) ∨ s.bit (F.REF_CFG.EN c) then s.accessError req 7 off
  else if !high then { s with sel := { s.sel with nomLow := insertAt c (data % 2 ^ 32) s.sel.nomLow } }
  else
    let low := (lookup c s.sel.nomLow).getD (s.get (F.REF_NOMFREQ.FREQ c) % 2 ^ 32)
    let v := low + data % 65536 * 2 ^ 32
    let n := s.tdcOf c
    let pre := match n with | some n => s.bit (F.TDC_CFG.PRESCALE n) | none => false
    let hz := 65536
    let ok := if k = 2 then decide (hz ≤ v) && decide (v ≤ 10000000 * hz)
      else decide (1000000 * hz ≤ v) && decide (v ≤ (if pre then 1500000000 else 10000000) * hz)
    let a := { s with sel := { s.sel with nomLow := dropKey c s.sel.nomLow } }
    if !ok then a.accessError req 7 off
    else
      let b := a.set (F.REF_NOMFREQ.FREQ c) v
      match n with
      | some n => if pre then b.set (F.TDC_CFG.PSK n) (prescaleK v - 1) else b
      | none => b

/-- REF_NOMFREQ_WRITE (R145). -/
def execRefNomfreqWrite (req : Requester) (c : Nat) (high : Bool) (data : Nat) (s : State) : Result :=
  onUnit (decide (c < 16)) (s.atFabric req (if high then 0x600024 else 0x600020) (fun s => s.writeNomfreq req c high data))

end Sys2Proof.Machine
end

