-- ==== Sys2Proof/Machine/Synth.lean ====
section
/-! DEFINITION. The commands of output synthesis (spec/10_outputs.md). -/

namespace Sys2Proof.Machine

/-- SYN_FREQ_WRITE (R280, R281, R286): a write of the low or the high word of a unit's FREQ. -/
def execSynFreqWrite (req : Requester) (u : Nat) (high : Bool) (data : Nat) (s : State) : Result :=
  onUnit (decide (u < 4)) (s.atFabric req (0x800100 + 0x20 * u + (if high then 4 else 0)) (fun s => s.writeSynFreq req u high data))

/-- SYN_LOCK_DECLARED (R277, R280): LOCKED and RELOCKED; the outputs wait for their first boundaries. -/
def execSynLockDeclared (u : Nat) (s : State) : Result :=
  onUnit (decide (u < 5)) (s.when (s.unitState u == 1 && s.acquired u) (fun s =>
    let a := (s.set (unitStateFld u) 2).armReleases u
    (if u = 4 then ({ a with port := a.port.map (fun p => { p with txOn := true }) } : State).showLimit else (a.unitFlag (F.OUT_SYN_STAT.RELOCKED u) u).showUnit u)))

/-- OUTPUT_RELEASE (R280): an instant of an output's grid: a gated output is released, a re-grid or a target takes effect, and a
disabled output leaves its ball. -/
def execOutputRelease (n : Nat) (s : State) : Result := onUnit (decide (n < 12)) (s.settleOut n)

/-- SLEW_STEP (R281): one step every 1,024 ticks. -/
def execSlewStep (u : Nat) (s : State) : Result :=
  onUnit (decide (u < 4)) (s.when (s.unitState u == 3 && decide ((s.un u).stepAt ≤ s.raw)) (·.slewStep u))

/-- SYN_LOSS_OF_LOCK (R278, R279): LOL and COAST from LOCKED or SLEW. -/
def execSynLossOfLock (u : Nat) (s : State) : Result :=
  onUnit (decide (u < 5)) (s.when (s.unitState u == 2 || s.unitState u == 3) (fun s =>
    (s.settleOuts.enterCoast u false).unitFlag (if u = 4 then F.PRT_SYT_STAT.LOL else F.OUT_SYN_STAT.LOL u) u))

/-- SYN_REFERENCE_LOSS (R278, R279): REFLOSS and COAST from LOCKED or SLEW. The transmit synthesiser has no REFLOSS bit. -/
def execSynReferenceLoss (u : Nat) (s : State) : Result :=
  onUnit (decide (u < 5)) (s.when (s.unitState u == 2 || s.unitState u == 3) (fun s =>
    let t := s.settleOuts.enterCoast u true
    if u = 4 then t else t.unitFlag (F.OUT_SYN_STAT.REFLOSS u) u))

/-- COAST_END (R279): after 1 ms, the accumulator restarts if the reference was lost, and a gated relock begins. -/
def execCoastEnd (u : Nat) (s : State) : Result :=
  onUnit (decide (u < 5)) (s.when (s.unitState u == 4 && decide ((s.un u).coastAt + 625000 ≤ s.raw)) (fun s =>
    (s.updUnit u (fun x => { x with restart := false })).settleOuts.gatedRelock u))

/-- OUT_EN_WRITE (R284): a write of OUT_CFG. -/
def execOutEnWrite (req : Requester) (n data : Nat) (s : State) : Result :=
  onUnit (decide (n < 12)) (s.atFabric req (0x800004) (fun s => s.writeOutCfg req n data))

/-- OUT_REGRID_WRITE (R285): a write of DIV (0), PARAM (1) or PHASE (2). -/
def execOutRegridWrite (req : Requester) (n which value : Nat) (s : State) : Result :=
  onUnit (decide (n < 12) && decide (which < 3)) (s.atFabric req (0x80000C + 4 * which) (fun s => s.writeGrid req n which value))

/-- OUT_REALIGN (R280): a write of OUT_SYN_CTRL. -/
def execOutRealign (req : Requester) (u data : Nat) (s : State) : Result :=
  onUnit (decide (u < 4)) (s.atFabric req (0x800108 + 0x20 * u) (fun s => s.writeSynCtrl req u data))

/-- OUT_RECAL (R289): the next dwell is a first dwell. -/
def execOutRecal (req : Requester) (n : Nat) (s : State) : Result :=
  onUnit (decide (n < 12)) (s.atFabric req (0x800024) (fun s => s.updOut n (fun o => { o with first := true })))

/-- The loopback channel that serves an output (R287). -/
def State.loopbackOf (s : State) (n : Nat) : Option Nat :=
  let l := (List.range 24).filter (fun k => s.tdcUse k == 2)
  if l.isEmpty then none else l[n % l.length]?

/-- R288: the errors of a dwell's results (sixteenths of a crumb), with the count that UNSIGNED rejects. -/
def State.loopErrors (s : State) (n ch : Nat) (lams : List Int) : List Int × Nat :=
  lams.foldl (fun (acc : List Int × Nat) (l : Int) =>
    let r := intervalOf (l : Rat)
    if r.2.2 && s.bit (F.TDC_CFG.UNSIGNED ch) then (acc.1, acc.2 + 1) else (acc.1 ++ [r.1 - s.launchCal n], acc.2)) ([], 0)

/-- R289: the end of a dwell with its mean error. -/
def State.dwellEnd (s : State) (n : Nat) (mean : Rat) : State :=
  let e := roundAway mean
  let a := s.setISat (F.OUT_CAL.ERR n) e
  if (s.ou n).first then
    ((a.setISat (F.OUT_CAL.TRIM n) (s.getI (F.OUT_CAL.TRIM n) + e)).set (F.OUT_CAL.CALOK n) 1).updOut n (fun o => { o with first := false })
  else if 48 < absR mean then
    ((a.set (F.OUT_CAL.CALOK n) 0).updOut n (fun o => { o with first := true })).outFlag (F.OUT_STAT.CALERR n) n
  else a.setISat (F.OUT_CAL.TRIM n) (s.getI (F.OUT_CAL.TRIM n) + max (-2) (min 2 e))

/-- LOOPBACK_DWELL_END (R287 to R289): the dwell on an output that began at a tick, with each result's stop less launch in
sixteenths of a crumb. One without results, or that spans a gating, trims nothing (R287, R297). -/
def execLoopbackDwellEnd (n began : Nat) (lams : List Int) (s : State) : Result :=
  onUnit (decide (n < 12)) (s.when (s.bit (F.OUT_CFG.EN n)) (fun s =>
    let s := s.settleOut n
    match s.loopbackOf n with
    | none => s
    | some ch =>
      let r := s.loopErrors n ch lams
      let a := s.bumpSat (F.TDC_CNT.REJ ch) r.2
      let b := if r.2 = 0 then a else a.tdcMark (F.TDC_STAT.REJ ch) ch
      if began < (s.ou n).since ∨ r.1.isEmpty then b
      else b.dwellEnd n (((r.1.foldl (· + ·) 0 : Int) : Rat) / (r.1.length : Nat))))

/-- R294, R295: a line-start stamp sets an output's target, or is ignored, or is LATE. -/
def State.lineStart (s : State) (n c at16 : Nat) : State :=
  let stamp : Int := (crumbOf at16 : Int) - s.boardDelay c - s.getI (F.REF_DLY.DLY c)
  match (s.pairAt stamp.toNat).dtime stamp.toNat with
  | none => s
  | some d =>
    let soon := match (s.ou n).lastSet with
      | some l => decide (d < l + s.get (F.OUT_ALCFG.MINSPC n) * 65536000)
      | none => false
    if soon then s
    else
      let t := d + s.get (F.OUT_ALOFF.ALOFF n) * 65536
      let launch := s.hrt.cur.rawOf 1 (t : Rat) - s.get (F.OUT_DELAY.DELAY n) - s.launchCal n
      if s.unitState (s.get (F.OUT_CFG.SYN n)) ≠ 2 ∨ (s.ou n).released = false ∨ launch ≤ s.now then s.outFlag (F.OUT_STAT.LATE n) n
      else (s.updOut n (fun o => { o with target := some (t, launch), lastSet := some d })).showOut n

/-- LINE_START_EDGE (R293 to R295): a stamp (sixteenths of a crumb) of the line-start channel's TDC channel reaches an output:
at once with HELD 0, after its release with HELD 1. -/
def execLineStartEdge (n at16 : Nat) (s : State) : Result :=
  onUnit (decide (n < 12))
    (let s := s.settleOut n
     let c := s.get (F.OUT_ALCFG.CH n)
     let hold := if s.bit (F.OUT_ALCFG.HELD n) then 20000 else 0
     s.when (s.get (F.OUT_ALCFG.MODE n) != 0 && s.bit (F.OUT_CFG.EN n) && s.bit (F.REF_STAT.PRESENT c) &&
        (match s.tdcOf c with
          | none => false
          | some k => (s.td k).stamps.any (fun p => p.1 == at16 && decide (p.2 + hold ≤ s.raw)))) (·.lineStart n c at16))

end Sys2Proof.Machine
end

