-- ==== Sys2Proof/Machine/Engines.lean ====
section
/-! DEFINITION. The commands of the packet engines, lanes and classifier (spec/13_engines.md). -/

namespace Sys2Proof.Machine

/-! Engines (R343 to R348). -/

/-- Whether an engine can take a request: it serves the stage, runs, its quarter is awake, and it has a free context. -/
def State.engFree (s : State) (p st k : Nat) : Bool :=
  s.get (F.PKE_ENG.PIPE k) == p && s.get (F.PKE_ENG.STAGE k) == st && s.bit (F.PKE_ENG.RUN k) && !s.bit (F.PKE_ENG.FAULT k) &&
    s.get (F.PWR_DOM_STAT.STATE (1 + k / 4)) == 0 && decide ((s.pke.ctxs.filter (fun x => x.engine == k)).length < 32)

/-- The first such engine after the one chosen last for the stage (R345). -/
def State.nextEngine (s : State) (p st : Nat) : Option Nat :=
  let last := (lookup (4 * p + st) s.pke.lastEng).getD 15
  ((List.range 16).map (fun i => (last + 1 + i) % 16)).find? (s.engFree p st)

/-- Remember the engine chosen for a stage. -/
def State.choseEngine (s : State) (p st k : Nat) : State := { s with pke := { s.pke with lastEng := insertAt (4 * p + st) k s.pke.lastEng } }

/-- Show how many contexts an engine holds. -/
def State.showCtx (s : State) (k : Nat) : State :=
  if k < 16 then s.set (F.PKE_ENG.CTX k) ((s.pke.ctxs.filter (fun y => y.engine == k)).length) else s

/-- R347: the host and management service: ARP, NDP and echo are answered, all else goes where LABEL says. -/
def State.hostService (s : State) (i : InFrame) : State :=
  let echo := (layer4 i.frame).1 == 1 || ((layer4 i.frame).1 == 58 && byteAt i.frame (layer4 i.frame).2.1 == 128)
  let mine := s.sys.addrs.filter (fun a => a.2.port == i.recd.port && (!echo || a.2.mask.testBit 3))
  match echoReply i.frame (portMac i.recd.port) (mine.map (fun a => a.2.addr)) with
  | some f => if s.canSend i.recd.port then s.sendOn i.recd.port { src := .own, bytes := f, express := false } else s
  | none => s.ringFrame (if i.label.testBit 8 then 128 + i.label % 8 else i.label % 64) i.recd i.frame i.dflt false

/-- PIPELINE_DEQUEUE (R345): stage 0 takes the oldest frame of the ingress queue, a later stage the oldest request of the stage
before it. -/
def execPipelineDequeue (p st : Nat) (s : State) : Result :=
  onUnit (decide (p < 8) && decide (st < 4)) (match s.nextEngine p st with
    | none => s
    | some k =>
      if st = 0 then
        match s.pke.pipes.getD p [] with
        | [] => s
        | i :: rest =>
          let a := ({ s with pke := { s.pke with pipes := modAt s.pke.pipes p (fun _ => rest) } } : State).choseEngine p 0 k
          let svc := s.pipeSvc p
          if svc = 1 ∨ svc = 2 then
            let x := fun id => ({ id := id, engine := k, pipe := p, service := svc, frame := i.frame, recd := i.recd, label := i.label, off := if svc = 1 then i.off else i.ptpOff, retry := i.retry, port := i.recd.port, born := i.recd.raw } : Ctx)
            (a.newCtx x).bump F.APD_SPEC_IN.IN
          else a.hostService i
      else match s.pke.ctxs.find? (fun x => x.pipe == p && x.stage + 1 == st && decide (x.engine < 16)) with
        | none => s
        | some x => (((s.updCtx x.id (fun y => { y with engine := k, stage := st })).choseEngine p st k).showCtx x.engine).showCtx k)

/-- ENGINE_FAULT (R370): an engine halts; its uncommitted requests are abandoned and its committed messages drop with LASTCAUSE
14. With `reload` the firmware has reloaded a faulted engine. -/
def execEngineFault (k : Nat) (reload : Bool) (s : State) : Result :=
  onUnit (decide (k < 16)) (
    if reload then s.when (s.bit (F.PKE_ENG.FAULT k) || (!s.bit (F.PKE_ENG.RUN k) && s.get (F.PKE_ENG.PIPE k) != 0xFF && s.stage == 6))
      (·.sets [(F.PKE_ENG.FAULT k, 0), (F.PKE_ENG.RUN k, 1)])
    else s.when (s.bit (F.PKE_ENG.RUN k)) (fun s =>
      let a := s.sets [(F.PKE_ENG.FAULT k, 1), (F.PKE_ENG.RUN k, 0)]
      let b := (s.pke.ctxs.filter (fun x => x.engine == k)).foldl (fun t x => if x.committed then t.dropMsg x 14 else t.abandon x.id none) a
      let c := b.flag F.PKE_STAT.ENGFLT 42 k
      if c.pmu.tags.contains k then (c.updPmu (fun p => { p with tags := p.tags.filter (· != k) })).sampleLost else c))

/-! Draining (R368). -/

/-- A write of PKE_CTRL: setting DRAIN abandons what has not committed; clearing it while a reload holds the cluster quiesced is
discarded (R120). -/
def State.writeDrain (s : State) (req : Requester) (on : Bool) : State :=
  if !on && s.isHeld 0x500 then s.accessError req 7 0xB00000
  else if !on then (s.set F.PKE_CTRL.DRAIN 0).showDrained
  else if s.bit F.PKE_CTRL.DRAIN then s
  else
    let a := s.set F.PKE_CTRL.DRAIN 1
    let keep := a.pke.pipes.zipIdx.map (fun q => if a.pipeSvc q.2 = 3 then q.1 else [])
    let b := { a with pke := { a.pke with pipes := keep } }
    ((b.pke.ctxs.filter (fun x => !x.committed)).foldl (fun t x => t.abandon x.id none) b).showDrained

/-- PKE_DRAIN_WRITE (R368). -/
def execPkeDrainWrite (req : Requester) (data : Nat) (s : State) : Result :=
  .next (s.atDomain req (0xB00000) (data) (fun s => s.writeDrain req (data.testBit 0)))

/-- DRAINED (R368): no context is held while DRAIN is 1. -/
def execDrained (s : State) : Result := .next s.showDrained

/-- The counters of a pipeline that PKE_PCNT_CLR clears (R346). -/
def pcntFields (p : Nat) : List Fld := [F.PKE_PCNT_DROP.QFULL p, F.PKE_PCNT_DROP.LONG p, F.PKE_PCNT_DRDROP.DRDROP p, F.PKE_PCNT_IN.IN p]

/-- PCNT_CLR (R346). -/
def execPcntClr (req : Requester) (p : Nat) (s : State) : Result :=
  onUnit (decide (p < 8)) (s.atDomain req (0xB0020C + 0x10 * p) (1) (·.clearAll (pcntFields p)))

/-! Cipher lanes (R354 to R356). -/

/-- The operation granted next of a kind: seals of appointed messages by their deadlines, then the oldest. -/
def nextOp (hmac : Bool) (q : List LaneOp) : Option LaneOp :=
  let mine := q.filter (fun o => o.hmac == hmac)
  let seals := mine.filter (fun o => o.deadline.isSome)
  match seals.foldl (fun (b : Option LaneOp) o => match b with
    | none => some o
    | some p => if o.deadline.getD 0 < p.deadline.getD 0 then some o else some p) none with
  | some o => some o
  | none => mine.head?

/-- Show the busy lanes. -/
def State.showLanes (s : State) : State :=
  let m := fun (lo n : Nat) => ((List.range n).filter (fun j => (s.pke.lanes.getD (lo + j) {}).op.isSome)).foldl (fun a j => a + 2 ^ j) 0
  (s.set F.PKE_LANE.SIVBUSY (m 0 8)).set F.PKE_LANE.HMBUSY (m 8 4)

/-- LANE_GRANT (R355): lanes 0 to 7 are SIV0 to SIV7 and 8 to 11 are HM0 to HM3. A slot that is not READY, or whose use does not
allow the operation, makes it REFUSED (R354, R438). -/
def execLaneGrant (hmac : Bool) (s : State) : Result :=
  .next (match nextOp hmac s.pke.laneQ, (if hmac then [8, 9, 10, 11] else List.range 8).find? (fun j => (s.pke.lanes.getD j {}).op.isNone) with
    | some o, some j =>
      let bad := match o.slot with | none => false | some n => s.slotRefuses n [o.use] != 0
      let a := { s with pke := { s.pke with laneQ := s.pke.laneQ.erase o, lanes := modAt s.pke.lanes j (fun l => { l with op := some (o, s.raw), stale := false, refused := bad }) } }
      if o.isSeal && o.deadline.isSome then a.showLanes.clusterEvent 6 0 else a.showLanes
    | _, _ => s)

/-- The time of an operation in tenths of a nanosecond (R356): `cached` tells that the lane holds the slot's schedule. -/
def laneTime (o : LaneOp) (cached : Bool) : Nat :=
  (if o.hmac then 120 + ((o.n + 9 + 63) / 64 + 1) * 80 else if o.isSeal ∨ o.slot.isSome then 80 + (o.n + 15) / 16 * 16 else 120) +
    (if o.slot.isSome ∧ !cached then 400 else 0)

/-- Cache a slot's schedule: a lane holds 16. -/
def cacheSlot (l : List Nat) (n : Nat) : List Nat := (n :: l.filter (· != n)).take 16

/-- What becomes of a context whose operation was refused (R333, R387, R401). -/
def State.ctxRefused (s : State) (x : Ctx) : State :=
  if x.committed then s.dropMsg x 12 else s.abandon x.id (specCtr x.service (if x.service = 1 then 13 else 11))

/-- A lane operation's result reaches its context. -/
def State.laneBack (s : State) (o : LaneOp) (stale refused : Bool) : State :=
  match s.ctx? o.ctx with
  | none => s
  | some _ =>
    let a := s.updCtx o.ctx (fun x => { x with ops := x.ops - 1, stale := x.stale || stale })
    match a.ctx? o.ctx with
    | none => a
    | some y => if refused then a.ctxRefused y else if o.isSeal then (a.sealCtx o.ctx).tryRelease o.ctx else a

/-- LANE_RESULT (R356): the operation of a lane ends. `bad` tells that its slot's key fails its integrity check (R436). -/
def execLaneResult (j : Nat) (bad : Bool) (s : State) : Result :=
  onUnit (decide (j < 12)) (match (s.pke.lanes.getD j {}).op with
    | none => s
    | some (o, t) =>
      let l := s.pke.lanes.getD j {}
      let cached := match o.slot with | some n => l.cache.contains n | none => true
      s.when (decide (laneTime o cached ≤ (s.raw - t) * 16)) (fun s =>
        let fault := bad && o.slot.isSome && !l.refused
        let a := if fault then (match o.slot with | some n => s.cellFault n | none => s) else s
        let l' := a.pke.lanes.getD j {}
        let refused := l.refused || l'.refused || fault
        let stale := l'.stale && !refused
        let done : Lane := { cache := match o.slot with | some n => (if refused ∨ stale then l'.cache else cacheSlot l'.cache n) | none => l'.cache }
        let b := ({ a with pke := { a.pke with lanes := modAt a.pke.lanes j (fun _ => done) } } : State).showLanes
        let c := match o.slot with | some n => (if refused then b else b.useSlot n) | none => b
        let d := if stale then (match o.slot with | some n => c.kvtFlag F.KVT_STAT.STALEOP n | none => c) else c
        let e := if refused then (d.bumpSat F.PKE_LANE.REFCNT).flag F.PKE_STAT.REFUSED 42 0 else d
        e.laneBack o stale refused))

/-! The classifier's single entry (R353). -/

/-- Whether an entry keeps to R350 and names a pipeline that exists. -/
def State.entryOk (s : State) (e : List Byte) : Bool :=
  let a := byteAt e 64
  let tg := byteAt e 65
  let np := byteAt (s.sec 0x50) 0
  decide (a ≤ 4) && decide (byteAt e 67 < 2) && (List.range 32).all (fun i => byteAt e i &&& (255 ^^^ byteAt e (32 + i)) == 0) &&
    (if a = 1 ∨ a = 4 then decide (tg < np) else if a = 2 then decide (tg ≤ 63) else if a = 3 then decide (tg ≤ 7) else true) &&
    (if a = 4 then decide (byteAt e 66 ≤ 63) else byteAt e 66 == 0)

/-- The 72 bytes of a requester's window. -/
def State.clsWindow (s : State) (q : Nat) : List Byte := (List.range 18).flatMap (fun w => leBytes 4 (s.get (F.PKE_CLS_WIN.WORD q w)))

/-- Whether a reload or a LIVE commit runs. -/
def State.reloading (s : State) : Bool :=
  s.rcp.live.isSome || s.isHeld 0x500 || (match s.rcp.action with | some (.reload _) => true | _ => false)

/-- PKE_CLS_CTRL.WRITE: the shadow bank takes the bank in force and the entry, and the swap is chosen as in R121. -/
def State.clsWrite (s : State) (req : Requester) : State :=
  let e := s.clsWindow req.idx
  if s.bit F.PKE_CLS_CTRL.WRITE then s
  else if s.reloading then s.accessError req 7 0xB00100
  else if !s.entryOk e then s.accessError req 7 0xB00100
  else
    let b := s.get F.PKE_CLS_STAT.BANK
    let n := insertAt (s.get (F.PKE_CLS_SEL.IDX req.idx)) e s.clsBank
    let k := { s.pke with swap := some (s.raw + s.get F.RCP_LEAD.LEAD, 1 - b) }
    let k' := if b = 0 then { k with bankB := n } else { k with bankA := n }
    { s with pke := k' }.set F.PKE_CLS_CTRL.WRITE 1

/-- CLS_WRITE (R353). -/
def execClsWrite (req : Requester) (s : State) : Result := .next (s.atDomain req (0xB00100) (1) (fun s => s.clsWrite req))

/-- PKE_CLS_CTRL.READ: the window loads the entry in force. -/
def State.clsRead (s : State) (req : Requester) : State :=
  let e := (lookup (s.get (F.PKE_CLS_SEL.IDX req.idx)) s.clsBank).getD (List.replicate 72 0)
  s.sets ((List.range 18).map (fun w => (F.PKE_CLS_WIN.WORD req.idx w, leAt e (4 * w) 4)))

/-- CLS_READ (R353). -/
def execClsRead (req : Requester) (s : State) : Result := .next (s.atDomain req (0xB00100) (2) (fun s => s.clsRead req))

/-- CLS_BANK_SWAP (R352): at the chosen tick the banks swap. -/
def execClsBankSwap (s : State) : Result :=
  .next (match s.pke.swap with
    | none => s
    | some (t, b) => s.when (decide (t ≤ s.raw)) (fun s =>
        let a := { s with pke := { s.pke with swap := none, swapAt := t, oldDefault := s.get F.PKE_CLS_STAT.DEFAULT } }
        (a.set F.PKE_CLS_STAT.BANK b).set F.PKE_CLS_CTRL.WRITE 0))

end Sys2Proof.Machine
end

