-- ==== Sys2Proof/Machine/Nts.lean ====
section
/-! DEFINITION. The commands of NTP and NTS service (spec/14_nts.md). -/

namespace Sys2Proof.Machine

/-! Parsing a request (R372, R374). -/

/-- One extension field: type, offset in the payload, body. -/
structure ExtFld where
  type : Nat
  off : Nat
  body : List Byte
  deriving DecidableEq, Repr

/-- Parse extension fields under RFC 7822 from an offset, up to and with the authenticator: the fields, and how the payload
ends (0 well, 1 with a symmetric-key MAC, 2 malformed). -/
def extFields (p : List Byte) : Nat → Nat → List ExtFld × Nat
  | 0, _ => ([], 2)
  | k + 1, o =>
    let rem := p.length - o
    if rem = 0 then ([], 0)
    else if rem = 4 ∨ rem = 20 ∨ rem = 24 then ([], 1)
    else
      let len := beAt p (o + 2) 2
      if rem < 16 ∨ len < 16 ∨ len % 4 ≠ 0 ∨ rem < len then ([], 2)
      else
        let f : ExtFld := { type := beAt p o 2, off := o, body := sliceB p (o + 4) (len - 4) }
        if f.type = 0x0404 then ([f], 0)
        else
          let r := extFields p k (o + len)
          (f :: r.1, r.2)

/-- The fields of a type. -/
def ofType (l : List ExtFld) (t : Nat) : List ExtFld := l.filter (fun f => f.type == t)

/-- Whether an NTS request's fields keep to R374. -/
def ntsShapeOk (l : List ExtFld) : Bool :=
  match ofType l 0x0104, ofType l 0x0204, ofType l 0x0404 with
  | [u], [c], [a] =>
    let ph := ofType l 0x0304
    let nl := beAt a.body 0 2
    let cl := beAt a.body 2 2
    decide (32 ≤ u.body.length) && decide (u.body.length ≤ 64) && c.body.length == 100 && decide (ph.length ≤ 7) &&
      ph.all (fun f => f.body.length == 100) && nl == 16 && decide (16 ≤ cl) && decide (20 + cl ≤ a.body.length)
  | _, _, _ => false

/-- The slots a request's operations use are ready for them. -/
def State.slotReady (s : State) (n use : Nat) : Bool := s.slotRefuses n [use] == 0

/-- The position that gives a request its new cookies (R381 step 4): the old one for a stamp before the latest switch. -/
def State.cookiePos (s : State) (raw : Nat) : Option Nat :=
  match s.nts.retire with
  | some (q, t) => if raw < (t - 625000) * 512 then some q else s.currentPos
  | none => s.currentPos

/-- R390: the stamp lies before LEAP_SEC and the target instant at or after it. -/
def State.leapSpan (s : State) (r : StampRec) (off : Nat) : Bool :=
  let t0 := ((s.pairOf r.gen).dtime (r.raw + off * nsCrumbs)).getD 0
  let leap := s.get F.HRT_LEAP.SEC
  s.bit F.HRT_UTC.LEAPPEND && decide (dtSec (s.recTime r) < leap) && decide (leap ≤ dtSec t0)

/-- The debit of a request, none where it is EXEMPT. -/
def debitOf (label : Nat) (addr : List Byte) : List Eff := if label.testBit 2 then [] else [.debit (label % 4) addr]

/-- A plain request that passed R372: its reply, its kiss, or its abandonment (R391, R392). -/
def State.plainPlan (s : State) (x : Ctx) : Except Nat Ctx :=
  let a := srcAddr x.frame
  let p := x.label % 4
  if x.label.testBit 2 ∨ s.ratePasses p a then .ok { x with kind := 4, effs := debitOf x.label a ++ [.count 1] }
  else if s.bit (F.NTS_RATE.ACT p) then .ok { x with kind := 5, effs := [.count 4] }
  else .error 8

/-- An NTS request with a well-formed set of fields (R377, R378, R387, R392). -/
def State.ntsPlan (s : State) (x : Ctx) (l : List ExtFld) : Except Nat Ctx :=
  let p := x.req
  let a := srcAddr x.frame
  let prof := x.label % 4
  let ck := ((ofType l 0x0204).head?.map (·.body)).getD []
  let ui := (ofType l 0x0104).headD ⟨0, 0, []⟩
  let au := (ofType l 0x0404).headD ⟨0, 0, []⟩
  let passes := x.label.testBit 2 || s.ratePasses prof a
  let kid := leAt ck 0 4
  let q := kid % 4
  let st := (s.npos q).state
  let known := (st == 1 || st == 2) && (s.npos q).gen % 2 ^ 30 == kid / 4
  let n := 1 + (ofType l 0x0304).length
  let base : Ctx := { x with uid := sliceB p ui.off (4 + ui.body.length), cookies := n, pos := q }
  let nak := fun (c : Nat) => if passes then .ok { base with kind := 2, cookies := 0, effs := debitOf x.label a ++ [.count c] } else .error 8
  let dec := s.get (F.NTS_KPOS.DECSLOT q)
  if !known then nak 2
  else if !s.slotReady dec 1 then .ok { base with kind := 1, cookies := 0 }
  else match Config.sivOpen ((s.slot dec).key.take 32) [sliceB ck 0 4, sliceB ck 4 16] (sliceB ck 20 80) with
    | none => nak 3
    | some keys =>
      let ad := p.take au.off
      match Config.sivOpen (keys.take 32) [ad, sliceB au.body 4 16] (sliceB au.body 20 (beAt au.body 2 2)) with
      | none => .error 7
      | some _ =>
        match s.cookiePos x.recd.raw with
        | none => .error 13
        | some c =>
          let ok : Ctx := { base with key := keys, pos := c }
          if passes then .ok { ok with kind := 1, effs := debitOf x.label a ++ [.count 0] }
          else if s.bit (F.NTS_RATE.ACT prof) then .ok { ok with kind := 3, effs := [.count 4] }
          else .error 8

/-- R372: what a request is answered with, or the reason it is abandoned for. -/
def State.requestPlan (s : State) (x : Ctx) : Except Nat Ctx :=
  let p := x.req
  let vn := byteAt p 0 / 8 % 8
  let plainOk := s.bit F.NTS_CFG.PLAIN && !x.label.testBit 3
  if x.recd.bad then .error 9
  else if p.length < 48 then .error 5
  else if byteAt p 0 % 8 ≠ 3 then .error 1
  else if vn ≠ 3 ∧ vn ≠ 4 then .error 2
  else if vn = 3 then
    if 48 < p.length then .error 4
    else if (s.bit F.NTS_CFG.V3 ∨ x.label.testBit 4) ∧ !x.label.testBit 3 then s.plainPlan x
    else .error 2
  else
    let r := extFields p 64 48
    let cookie := !(ofType r.1 0x0204).isEmpty
    let other := r.1.any (fun f => f.type == 0x0104 || f.type == 0x0304 || f.type == 0x0404)
    if r.2 = 1 then .error 4
    else if r.2 = 2 then .error 5
    else if cookie then (if (s.svcOf x.recd).bit F.NTS_CFG.NTS && ntsShapeOk r.1 then s.ntsPlan x r.1 else .error 5)
    else if other then .error 6
    else if plainOk then s.plainPlan x
    else .error 3

/-- Ask the lanes for a request's operations (R386). -/
def State.ntsAsk (s : State) (x : Ctx) : State :=
  let dec := s.get (F.NTS_KPOS.DECSLOT (leAt (((extFields x.req 64 48).1.find? (fun f => f.type == 0x0204)).map (·.body) |>.getD []) 0 4 % 4))
  let a := if x.kind = 1 ∨ x.kind = 3 ∨ (x.kind = 2 ∧ x.effs.contains (.count 3)) then
      s.laneAsk { ctx := x.id, hmac := false, slot := some dec, use := 1, n := 68, deadline := none, isSeal := false } else s
  let b := if x.kind = 1 ∨ x.kind = 3 then
      a.laneAsk { ctx := x.id, hmac := false, slot := none, use := 0, n := x.req.length - 40, deadline := none, isSeal := false } else a
  (List.range (if x.kind = 1 ∨ x.kind = 3 then x.cookies else 0)).foldl (fun t _ =>
    t.laneAsk { ctx := x.id, hmac := false, slot := some (s.get (F.NTS_KPOS.ENCSLOT x.pos)), use := 0, n := 68, deadline := none, isSeal := false }) b

/-- A request that was checked against the rate sketch counts (R530): one that is answered, or abandoned for its rate. -/
def State.sketchChecked (s : State) (x : Ctx) (plan : Except Nat Ctx) : State :=
  match plan with
  | .ok _ => if x.label.testBit 2 then s else s.clusterEvent 0xA 0
  | .error r => if r = 8 ∧ !x.label.testBit 2 then s.clusterEvent 0xA 0 else s

/-- NTS_REQUEST (R372 to R378, R387, R390 to R392): a request's context is processed to a reply that waits for its reservation, or
abandoned. -/
def execNtsRequest (id : Nat) (s : State) : Result :=
  .next (match s.ctx? id with
    | none => s
    | some x => s.when (x.service == 1 && x.kind == 0) (fun s =>
      let x0 := { x with req := payloadOf x.frame, dest := replyHead x.frame (portMac x.port) }
      let plan := s.requestPlan x0
      let s := s.sketchChecked x0 plan
      match plan with
      | .error r => s.abandon id (some (F.NTS_SPEC.CNT r))
      | .ok y =>
        if s.leapSpan y.recd y.off then s.abandon id (some (F.NTS_SPEC.CNT 10))
        else
          let f := if y.kind = 1 ∨ y.kind = 3 then s.makeCookies y.pos y.key y.cookies else (s, [])
          let z := { y with fresh := f.2, t0 := y.recd.raw + y.off * nsCrumbs, len := y.frame.length + 4 }
          let a := f.1.updCtx id (fun _ => z)
          { a with nts := { a.nts with drbg := a.nts.drbg + 1 } }.ntsAsk z))

/-! Master keys (R380 to R384). -/

/-- KEY_ROTATION (R381): every PERIOD seconds of disciplined time. -/
def execKeyRotation (s : State) : Result :=
  .next (s.when (s.bit F.NTS_CFG.NTS && !s.inStep && decide (s.kstore.nextRot ≤ s.dsec)) (·.startRotation))

/-- A write of NTS_ROTCTRL: its key opens both actions. -/
def State.writeRotctrl (s : State) (req : Requester) (data : Nat) : State :=
  if data % 4 ≠ 0 ∧ bitsOf data 16 16 ≠ 0x9612 then s.accessError req 6 0xC00014
  else
    let a := s.when (data.testBit 0) (fun s => let t := s.startRotation; t.setBit F.NTS_ROTCTRL.ROTATE t.nts.rot.isSome)
    a.when (data.testBit 1) (fun s => { s with nts := { s.nts with sketchKey := s.free, sketch := [] } }.useFree)

/-- NTS_ROTATE (R381). -/
def execNtsRotate (req : Requester) (key : Nat) (s : State) : Result :=
  .next (s.atDomain req (0xC00014) (1 + key % 65536 * 65536) (fun s => s.writeRotctrl req (1 + key % 65536 * 65536)))

/-- NTS_RESEED (R391). -/
def execNtsReseed (req : Requester) (key : Nat) (s : State) : Result :=
  .next (s.atDomain req (0xC00014) (2 + key % 65536 * 65536) (fun s => s.writeRotctrl req (2 + key % 65536 * 65536)))

/-- The switch of a rotation (R381 step 5). -/
def State.rotSwitch (s : State) (r : Rotation) (t : Nat) : State :=
  let old := s.currentPos
  let a := match old with | some p => s.setPosQuiet p 2 (s.npos p).gen | none => s
  let b := a.setPosQuiet r.pos 1 r.gen
  let c := { b with nts := { b.nts with rot := none, retire := old.map (fun p => (p, t + 625000)) } }
  ((c.sets [(F.NTS_STAT.ROTBUSY, 0), (F.NTS_ROTCTRL.ROTATE, 0)]).storePositions).ntsFlag F.NTS_STAT.ROTATED r.pos

/-- In a standby, the journaled positions whose switch has come (R463): each takes its state. -/
def State.applyKeys (s : State) : State :=
  let d := s.dnow.getD 0
  let due := s.pair.keys.filter (fun k => decide (k.2.2.2 ≤ d))
  if due.isEmpty then s
  else (due.foldl (fun t k => t.setPosQuiet k.1 k.2.1 k.2.2.1) (s.updPair (fun p => { p with keys := p.keys.filter (fun k => decide (d < k.2.2.2)) }))).storePositions

/-- ROTATION_SWITCH (R381). -/
def execRotationSwitch (s : State) : Result :=
  .next (match s.nts.rot with
    | none => s.applyKeys
    | some r => match r.switch with
      | none => s.applyKeys
      | some t => s.applyKeys.when (decide (t ≤ s.raw)) (·.rotSwitch r t))

/-- ENCSLOT_RETIRE (R381): 1 ms after the switch. -/
def execEncslotRetire (s : State) : Result :=
  .next (match s.nts.retire with
    | none => s
    | some (_, t) => s.when (decide (t ≤ s.raw)) (fun s => { s with nts := { s.nts with retire := none } }))

/-- GRACE_EXPIRY (R382). -/
def execGraceExpiry (p : Nat) (s : State) : Result :=
  onUnit (decide (p < 4)) (s.when ((s.npos p).state == 2 && decide ((s.npos p).since + s.get F.NTS_ROT.GRACE * 4 ≤ s.dsec))
    (fun s => (s.setPos p 0 (s.npos p).gen).storePositions))

/-! The sketch and the counters. -/

/-- SKETCH_SWEEP (R392): every 62.5 ms. -/
def execSketchSweep (s : State) : Result :=
  .next (s.when (s.raw % 39062500 == 0) (fun s =>
    let m := s.rateMin
    { s with nts := { s.nts with sketch := s.nts.sketch.filterMap (fun e => if e.2 ≤ m then none else some (e.1, e.2 - m)) } }))

/-- DRBG_RESEED (R379): after 2²⁰ requests. -/
def execDrbgReseed (s : State) : Result :=
  .next (s.when (decide (2 ^ 20 ≤ s.nts.drbg)) (fun s => { s with nts := { s.nts with drbg := 0, seed := s.free } }.useFree))

/-- Every counter of the NTS block. -/
def ntsCounters : List Fld :=
  [F.NTS_REPLY.REPLY, F.NTS_PLAIN.PLAIN, F.NTS_NAK.UNKNOWN, F.NTS_NAK.BADCOOKIE, F.NTS_KISS.KISS, F.NTS_STALE.STALE] ++
    (List.range 13).map (fun j => F.NTS_SPEC.CNT (j + 1))

/-- NTS_CLRCNT (R387). -/
def execNtsClrcnt (req : Requester) (s : State) : Result :=
  .next (s.atDomain req (0xC00018) (1) (·.clearAll ntsCounters))

/-! NTS-KE (R395, R396). -/

/-- Show the open connections and the handshakes of the last second. -/
def State.showKe (s : State) : State :=
  let hs := s.nts.shakes.filter (fun t => decide (s.raw < t + 625000000))
  ({ s with nts := { s.nts with shakes := hs } }.set F.NTS_KE_STAT.OPEN s.nts.conns.length).setSat F.NTS_KE_STAT.HS hs.length

/-- EV47 with its cause (R561). -/
def State.keEvent (s : State) (cause : Nat) : State := s.occur 47 0xFF 0 cause

/-- Close a connection. -/
def State.keClose (s : State) (c : Nat) : State := { s with nts := { s.nts with conns := dropKey c s.nts.conns } }.showKe

/-- The eight cookies of an exchange: each under the CURRENT position. -/
def State.keCookies (s : State) (p : Nat) (keys : List Byte) : Nat → State × List Byte
  | 0 => (s, [])
  | n + 1 =>
    let c := s.newCookie p keys
    let r := (s.useFree).keCookies p keys n
    (r.1, c ++ r.2)

/-- The end of a connection's exchange. The handshake needs the server key in the vault; without it, it ends by an alert. -/
def State.keExchange (s : State) (c : Nat) (keys : List Byte) (acceptable : Bool) : State :=
  let slot := s.get F.NTS_KE.CERTSLOT
  if s.slotRefuses slot [0] ≠ 0 then (s.keEvent 2).keClose c
  else
    let a := { s with nts := { s.nts with shakes := s.raw :: s.nts.shakes } }.useSlot slot
    let r := match a.currentPos with
      | some p => if acceptable && a.slotReady (a.get (F.NTS_KPOS.ENCSLOT p)) 0 then a.keCookies p (sliceB keys 0 64) 8 else (a, [])
      | none => (a, [])
    (r.1.emit (.ntsKe c r.2)).keClose c

/-- NTS_KE_CONNECTION (R395, R396). -/
def execNtsKeConnection (c : Nat) (ev : KeEvent) (s : State) : Result :=
  .next (match ev, lookup c s.nts.conns with
    | .opened, none =>
      if s.get F.NTS_KE.MAXCONN ≤ s.nts.conns.length then (s.keEvent 1).emit (.keReset c)
      else { s with nts := { s.nts with conns := insertAt c s.raw s.nts.conns } }.showKe
    | .opened, some _ => s
    | .exchange keys ok, some _ => s.keExchange c keys ok
    | .alert, some _ => (s.keEvent 2).keClose c
    | _, none => s)

/-- NTS_KE_IDLE_TIMEOUT (R395): 10 s idle. -/
def execNtsKeIdleTimeout (c : Nat) (s : State) : Result :=
  .next (match lookup c s.nts.conns with
    | none => s
    | some t => s.when (decide (t + 6250000000 ≤ s.raw)) (·.keClose c))

/-- NTS_KE_CERT_EXPIRY (R561): the certificate expires in `seconds`; raised once for an installed chain. -/
def execNtsKeCertExpiry (seconds : Nat) (s : State) : Result :=
  .next (s.when (decide (seconds ≤ 2592000) && !s.sys.keCertWarned) (fun s => { s with sys := { s.sys with keCertWarned := true } }.keEvent 3))

/-! MG0 (R397). -/

/-- A reply on MG0: committed at once, with coarse stamps, or abandoned. -/
def State.mgReply (s : State) (y : Ctx) : State :=
  let e := errbSum [if (s.isle 5).lost then unbounded else (s.isle 5).errb, 5000000]
  let now := s.replica 5
  let t3 := ((s.islePair 5 now).bind (fun p => p.dtime now)).getD 0
  let spec := fun (r : Nat) (t : State) => t.bump (F.NTS_SPEC.CNT r)
  if s.bit F.NTS_CFG.UNSYNC = false ∧ s.leapInd e t3 = 3 then spec 11 s
  else if (y.kind = 1 ∧ y.cookies = 0) ∨ ((y.kind = 1 ∨ y.kind = 3) ∧ s.slotReady (s.get (F.NTS_KPOS.ENCSLOT y.pos)) 0 = false) then spec 13 s
  else if !y.effs.all s.effOk then spec 12 s
  else
    let f := if y.kind = 1 ∨ y.kind = 3 then s.makeCookies y.pos y.key y.cookies else (s, [])
    let a := y.effs.foldl State.applyEff f.1
    let z := { y with fresh := f.2 }
    let body := a.ntpBody z e t3
    let r := if y.kind = 1 ∨ y.kind = 3 then a.ntsSeal z body else (a, body)
    r.1.sendOn 4 { src := .own, bytes := sealFrame z.dest r.2 }

/-- MG0_NTP_REQUEST (R397): a frame on MG0 with the RAW latched at its interrupt. -/
def execMg0NtpRequest (frame : List Byte) (s : State) : Result :=
  .next (s.when (s.bit F.PRT_MG_CTRL.NTP && s.canSend 4) (fun s =>
    let x : Ctx := { id := 0, service := 1, frame := frame, recd := s.pke.mgRec, req := payloadOf frame, dest := replyHead frame (portMac 4), port := 4 }
    match s.requestPlan x with
    | .error r => s.bump (F.NTS_SPEC.CNT r)
    | .ok y => s.mgReply y))

end Sys2Proof.Machine
end

