-- ==== Sys2Proof/Machine/PtpOps.lean ====
section
/-! DEFINITION. PTP (spec/15_ptp.md): transports and heads, TLVs, authentication, advertised quality, the upstream channel. -/

namespace Sys2Proof.Machine

/-! Heads (R400). -/

/-- The installed address of a port, of four or sixteen bytes, for PTP; zeros where none is installed. -/
def State.portAddr (s : State) (n len : Nat) : List Byte :=
  match s.sys.addrs.find? (fun a => a.2.port == n && a.2.addr.length == len && a.2.mask.testBit 2) with
  | some a => a.2.addr
  | none => List.replicate len 0

/-- An Ethernet head: destination, source, an optional tag (the VLAN field of R406), EtherType. -/
def ethHead (dst src : List Byte) (vlan et : Nat) : List Byte :=
  let tag := if vlan.testBit 15 then beBytes 2 0x8100 ++ beBytes 2 (vlan % 4096 + bitsOf vlan 12 3 * 8192) else []
  dst ++ src ++ tag ++ beBytes 2 et

/-- An IPv4 or IPv6 head for UDP. -/
def ipHead (src dst : List Byte) : List Byte :=
  if dst.length = 4 then
    bytesOf [0x45] ++ leBytes 1 (Config.ipField 0) ++ [0, 0] ++ beBytes 2 (Config.ipField 1) ++ [0, 0] ++ leBytes 1 (Config.ipField 2) ++
      bytesOf [17, 0, 0] ++ src ++ dst
  else
    beBytes 4 (0x60000000 + Config.ipField 0 % 256 * 2 ^ 20 + Config.ipField 3 % 2 ^ 20) ++ [0, 0] ++ bytesOf [17] ++ leBytes 1 (Config.ipField 2) ++ src ++ dst

/-- A UDP head of a PTP message. -/
def udpHead (event : Bool) : List Byte := let p := if event then 319 else 320; beBytes 2 p ++ beBytes 2 p ++ [0, 0, 0, 0]

/-- The bytes before a unicast message on a port. -/
def State.uniHead (s : State) (n transport : Nat) (addr : List Byte) (vlan : Nat) (event : Bool) : List Byte :=
  if transport = 0 then ethHead (addr.take 6) (portMac n) vlan 0x88F7
  else
    let a := if transport = 1 then addr.take 4 else addr.take 16
    ethHead (beBytes 6 (Config.neighbour n a % 2 ^ 48)) (portMac n) vlan (if transport = 1 then 0x0800 else 0x86DD) ++
      ipHead (s.portAddr n a.length) a ++ udpHead event

/-- The bytes before a multicast message on a port. -/
def State.mcHead (s : State) (n : Nat) (pdelay event : Bool) : List Byte :=
  let prof := s.get F.PTP_CFG.PROFILE
  let tr := s.get (F.PTP_PCFG.TRANSPORT n)
  let near := bytesOf [0x01, 0x80, 0xC2, 0, 0, 0x0E]
  if tr = 0 then
    let d := if pdelay || prof == 3 || (prof == 1 && s.bit (F.PTP_PCFG.NFWD n)) then near else bytesOf [0x01, 0x1B, 0x19, 0, 0, 0]
    ethHead d (portMac n) 0 0x88F7
  else if tr = 1 then
    let d := if pdelay then bytesOf [224, 0, 0, 107] else bytesOf [224, 0, 1, 129]
    ethHead (bytesOf [1, 0, 0x5E] ++ d.drop 1) (portMac n) 0 0x0800 ++ ipHead (s.portAddr n 4) d ++ udpHead event
  else
    let z := List.replicate 12 (0 : Byte)
    let d := if pdelay then bytesOf [0xFF, 0x02] ++ z ++ bytesOf [0, 0x6B] else bytesOf [0xFF, 0x0E] ++ z ++ bytesOf [0x01, 0x81]
    ethHead (bytesOf [0x33, 0x33] ++ d.drop 12) (portMac n) 0 0x86DD ++ ipHead (s.portAddr n 16) d ++ udpHead event

/-- Whether a frame's destination is a group address. -/
def isGroup (f : List Byte) : Bool := byteAt f 0 % 2 == 1

/-- Whether R400 allows a frame's transport and destination for a message type on a port. -/
def State.routeOk (s : State) (n : Nat) (f : List Byte) (type : Nat) : Bool :=
  let prof := s.get F.PTP_CFG.PROFILE
  let tr := s.get (F.PTP_PCFG.TRANSPORT n)
  let pdelay := type == 2 || type == 3 || type == 0xA
  let event := decide (type < 4)
  let ftr := if ipVer f = 4 then 1 else if ipVer f = 6 then 2 else 0
  let port := if ftr = 0 then true else beAt f ((layer4 f).2.1 + 2) 2 == (if event then 319 else 320)
  let mc := s.mcHead n pdelay event
  let grp := if ftr = 0 then f.take 6 == mc.take 6 else dstAddr f == dstAddr mc
  ftr == tr && port && (if isGroup f then prof != 2 && grp else decide (prof = 0 ∨ prof = 2))

/-- Whether R400 has a message type on a port. -/
def State.typeOk (s : State) (n type : Nat) : Bool :=
  let prof := s.get F.PTP_CFG.PROFILE
  let p2p := s.bit (F.PTP_PCFG.P2P n)
  if type = 1 ∨ type = 9 then !p2p
  else if type = 2 ∨ type = 3 ∨ type = 0xA then p2p
  else if type = 0 ∨ type = 8 ∨ type = 0xB ∨ type = 0xD then true
  else if type = 0xC then prof == 0 || prof == 2
  else false

/-! TLVs and authentication (R401, R411, R412). -/

/-- The bytes of a message before its TLVs. -/
def bodyLen (type : Nat) : Nat := if type = 0 ∨ type = 1 ∨ type = 8 ∨ type = 0xC then 44 else if type = 0xB then 64 else if type = 0xD then 48 else 54

/-- The TLVs of a message from an offset: type, offset, value; none where one runs past the end. -/
def tlvs (m : List Byte) : Nat → Nat → Option (List (Nat × Nat × List Byte))
  | 0, _ => none
  | k + 1, o =>
    if m.length ≤ o then some []
    else
      let len := beAt m (o + 2) 2
      if m.length < o + 4 ∨ m.length < o + 4 + len then none
      else (tlvs m k (o + 4 + len)).map (fun l => (beAt m o 2, o, sliceB m (o + 4) len) :: l)

/-- R411, R412: whether a message is authenticated (its SPP and entry), or the reason it is abandoned for. A slot that is not
ready leaves the verdict to the lane, which refuses. -/
def State.authCheck (s : State) (m : List Byte) (l : List (Nat × Nat × List Byte)) (required : Bool) : Except Nat (Option (Nat × Nat)) :=
  match l.filter (fun t => t.1 == 0x8009) with
  | [] => if required then .error 7 else .ok none
  | [(_, o, b)] =>
    if s.get F.PTP_CFG.PROFILE = 3 then (if required then .error 7 else .ok none)
    else if b.length ≠ 22 ∨ o + 26 ≠ m.length then .error 12
    else if byteAt b 1 ≠ 0 then .error 8
    else match s.saRx (byteAt b 0) (beAt b 2 4) with
      | none => .error 8
      | some a =>
        let n := s.get (F.PTP_SA_0.DECSLOT a)
        if s.slotRefuses n [1] ≠ 0 then .ok (some (byteAt b 0, a))
        else if sliceB (Config.hmac ((s.slot n).key.take 32) (m.take (o + 10))) 0 16 = sliceB b 6 16 then .ok (some (byteAt b 0, a))
        else .error 8
  | _ => .error 12

/-- The association of multicast messages on a port: its SPP's entry with TX, outside profile 3. -/
def State.mcSa (s : State) (n : Nat) : Option Nat := if s.get F.PTP_CFG.PROFILE = 3 then none else s.saTx (s.get (F.PTP_PCFG.SPP n))

/-! Advertised quality (R414, R415). -/

/-- clockClass. -/
def State.ptpClass (s : State) : Nat :=
  let st := s.srvState
  let e := s.errb
  let prof := s.get F.PTP_CFG.PROFILE
  let q := match s.sel.sel with | some c => s.get (F.REF_STAT.QCLASS c) | none => 15
  let follow := st == 1 || st == 2
  if follow && (q == 1 || q == 2) && e != unbounded then 6
  else if (follow || st == 3) && e != unbounded && decide (e ≤ s.get F.PTP_HOLDSPEC.LIM) then 7
  else if st = 3 ∧ e ≠ unbounded then
    (if prof = 0 then 52
     else if prof = 3 then 248
     else if s.get F.OSC_STAT.HSET = 0 then 140
     else if s.bit (F.OSC_LEARN.LEARNT 1) then 150 else 160)
  else 248

/-- The codes of clockAccuracy with their upper limits in tenths of a picosecond (R161). -/
def accLimits : List (Nat × Nat) :=
  [(0x17, 10), (0x18, 25), (0x19, 100), (0x1A, 250), (0x1B, 1000), (0x1C, 2500), (0x1D, 10000), (0x1E, 25000), (0x1F, 100000),
   (0x20, 250000), (0x21, 1000000), (0x22, 2500000), (0x23, 10000000), (0x24, 25000000), (0x25, 100000000), (0x26, 250000000),
   (0x27, 1000000000), (0x28, 2500000000), (0x29, 10000000000), (0x2A, 25000000000)]

/-- clockAccuracy of a bound in ps. -/
def accOf (b : Nat) : Nat :=
  if b = unbounded then 0xFE else ((accLimits.find? (fun e => decide (b * 10 ≤ e.2))).map (·.1)).getD 0xFE

/-- The upper limit of a clockAccuracy in ps, rounded up. -/
def accBound (code : Nat) : Nat := ((lookup code accLimits).map (fun t => (t + 9) / 10)).getD unbounded

/-- clockAccuracy of a port. -/
def State.portAcc (s : State) (n : Nat) : Nat := accOf (errbSum [s.errb, s.uAsym n])

/-- timeSource. -/
def State.timeSource (s : State) : Nat :=
  let st := s.srvState
  if st = 1 ∨ st = 2 then
    match s.sel.sel with
    | some c => (if s.kind c = 1 then 0x20 else if s.kind c = 4 then 0x39 else if s.kind c = 6 then 0x40 else 0x90)
    | none => 0xA0
  else if st = 3 ∧ s.get F.OSC_STAT.HSET = 0 then 0x10 else 0xA0

/-- offsetScaledLogVariance. -/
def State.ptpVar (s : State) : Nat := if s.get F.PTP_STAT.CLASS = 6 ∨ s.get F.PTP_STAT.CLASS = 7 then s.get F.PTP_VAR.VAR else 0xFFFF

/-- priority2 and localPriority as advertised (R419). -/
def State.prio2 (s : State) : Nat :=
  if s.standby then min 255 (s.get F.PTP_PRIO.PRIO2 + s.get F.PTP_PAIR.STBYADD) else s.get F.PTP_PRIO.PRIO2
def State.localPrio (s : State) : Nat :=
  if s.standby then min 255 (s.get F.PTP_PRIO.LOCALPRIO + s.get F.PTP_PAIR.STBYADD) else s.get F.PTP_PRIO.LOCALPRIO

/-- The priority1 to grandmasterIdentity fields of this clock, on a port. -/
def State.ownDs (s : State) (n : Nat) : List Byte :=
  leBytes 1 (s.get F.PTP_PRIO.PRIO1) ++ leBytes 1 (s.get F.PTP_STAT.CLASS) ++ leBytes 1 (s.portAcc n) ++ beBytes 2 s.ptpVar ++ leBytes 1 s.prio2 ++ s.clockIdentity

/-- The bytes of an Announce after its header (R405, R415). -/
def State.announceBody (s : State) (n : Nat) : List Byte :=
  beBytes 10 0 ++ beBytes 2 (ofSigned 16 s.utcOffset) ++ [0] ++ s.ownDs n ++ beBytes 2 0 ++ leBytes 1 s.timeSource

/-! The upstream channel (R154, R417, R418). -/

/-- The enabled channel of KIND 0x06 that follows a port. -/
def State.upChan (s : State) (n : Nat) : Option Nat :=
  (List.range 16).find? (fun c => s.kind c == 6 && s.bit (F.REF_CFG.EN c) && s.get (F.REF_CFG.PORT c) == n)

/-- Whether a message comes from the parent on its port. -/
def State.fromParent (s : State) (n : Nat) (m : List Byte) : Bool := s.ptp.parent == some (n, ptpSource m)

/-- The errorBound of a message's bound TLV; unbounded where it is TEST and this engine's keys are not. -/
def State.boundOf (s : State) (l : List (Nat × Nat × List Byte)) : Option Nat :=
  if !s.bit F.PTP_CFG.BTLVRX then none
  else match l.find? (fun t => t.1 == 3 && t.2.2.length == 14 && beAt t.2.2 0 3 == s.get F.PTP_BTLV.ORGID && beAt t.2.2 3 3 == 1) with
    | none => none
    | some (_, _, b) => some (if (byteAt b 7).testBit 4 && !s.testGrade then unbounded else beAt b 10 4)

/-- R417: show U_kind of the upstream channel. -/
def State.showPtpUkind (s : State) (c : Nat) : State :=
  let f := (s.ptp.parent.bind (fun p => s.ptp.foreign.find? (fun f => f.port == p.1 && f.id == p.2)))
  let annLog := (f.map Foreign.log).getD 0
  let live := fun (b : Option (Nat × Nat)) (per : Nat) => match b with | some (v, t) => if s.raw < t + 3 * per then some v else none | none => none
  let u := match live s.ptp.boundSync (intervalTicks s.ptp.logSync) with
    | some v => v
    | none => match live s.ptp.boundAnn (intervalTicks annLog) with
      | some v => v
      | none => accBound (s.get (F.REF_QUAL.AUX c))
  s.set (F.REF_UKIND.UKIND c) u

/-- A count of 2⁻¹⁶ ns in picoseconds. -/
def fracPs (n : Rat) : Rat := n * 1000 / 65536

/-- Crumbs as 2⁻¹⁶ ns. -/
def crumbFrac (n : Int) : Rat := (n : Rat) * 2048 / 10

/-- R418: one offset, from t1 + c_sync and t2 as counts of 2⁻¹⁶ ns and t2's stamp in crumbs. -/
def State.upOffset (s : State) (n c : Nat) (t1 : Int) (t2 stamp : Nat) : State :=
  let ms := (t2 : Int) - t1
  let a := { s with ptp := { s.ptp with ms := some ms } }
  match a.ptp.mpd with
  | none => a
  | some d =>
    let x := fracPs (d + crumbFrac (s.getI (F.PRT_ASYM.ASYM n)) - ms)
    (a.deliver c x stamp false).set (F.REF_STAT.LABELLED c) 1

/-- t1 of a Sync or Follow_Up: its timestamp field. -/
def ptpTime (m : List Byte) (o : Nat) : Nat := (beAt m o 6 * 1000000000 + beAt m (o + 6) 4) * 65536

/-- A Sync from the parent. -/
def State.rxSync (s : State) (n c : Nat) (m : List Byte) (l : List (Nat × Nat × List Byte)) (r : StampRec) : State :=
  let t2 := s.recTime r
  let a := { s with ptp := { s.ptp with logSync := ptpLog m } }
  let b := match a.boundOf l with
    | some v => { a with ptp := { a.ptp with boundSync := some (v, a.raw) } }
    | none => a
  if ptpTwoStep m then { b with ptp := { b.ptp with pendSync := some (ptpSeq m, r, ptpCorr m) } }
  else (({ b with ptp := { b.ptp with pendSync := none } } : State).showPtpUkind c).upOffset n c (ptpTime m 34 + ptpCorr m) t2 r.raw

/-- A Follow_Up from the parent: it completes the Sync of its sequenceId. -/
def State.rxFollowUp (s : State) (n c : Nat) (m : List Byte) (l : List (Nat × Nat × List Byte)) : State :=
  match s.ptp.pendSync with
  | none => s
  | some (q, r, corr) =>
    if q ≠ ptpSeq m then s
    else
      let a := { s with ptp := { s.ptp with pendSync := none } }
      let b := match a.boundOf l with
        | some v => { a with ptp := { a.ptp with boundSync := some (v, a.raw) } }
        | none => a
      (b.showPtpUkind c).upOffset n c (ptpTime m 34 + ptpCorr m + corr) (s.recTime r) r.raw

/-- A Delay_Resp to this engine's Delay_Req: meanPathDelay (R418). -/
def State.rxDelayResp (s : State) (n : Nat) (m : List Byte) : State :=
  match s.ptp.reqPend, s.ptp.ms with
  | some (q, some t3), some ms =>
    if q = ptpSeq m ∧ sliceB m 44 10 = s.portIdentity n then
      let sm := (ptpTime m 34 : Int) - t3 - ptpCorr m
      { s with ptp := { s.ptp with mpd := some (((ms + sm : Int) : Rat) / 2), reqPend := none, reqLog := if ptpLog m = 0x7F then s.ptp.reqLog else ptpLog m } }
    else s
  | _, _ => s

/-- A Pdelay_Resp to this engine's Pdelay_Req: one-step completes the peer delay, two-step waits for its follow-up. -/
def State.rxPdelayResp (s : State) (n : Nat) (m : List Byte) (t4 : Nat) : State :=
  match s.ptp.reqPend with
  | some (q, some t1) =>
    if q = ptpSeq m ∧ sliceB m 44 10 = s.portIdentity n then
      if ptpTwoStep m then { s with ptp := { s.ptp with respPend := some ((ptpTime m 34 : Int) - ptpCorr m, t4) } }
      else { s with ptp := { s.ptp with mpd := some ((((t4 : Int) - t1 - ptpCorr m : Int) : Rat) / 2), reqPend := none } }
    else s
  | _ => s

/-- A Pdelay_Resp_Follow_Up. -/
def State.rxPdelayFollow (s : State) (n : Nat) (m : List Byte) : State :=
  match s.ptp.reqPend, s.ptp.respPend with
  | some (q, some t1), some (t2, t4) =>
    if q = ptpSeq m ∧ sliceB m 44 10 = s.portIdentity n then
      let turn := (ptpTime m 34 : Int) + ptpCorr m - t2
      { s with ptp := { s.ptp with mpd := some ((((t4 : Int) - t1 - turn : Int) : Rat) / 2), reqPend := none, respPend := none } }
    else s
  | _, _ => s

/-- An Announce: the sender is remembered; the parent's shows the channel's quality, presence and bound. -/
def State.rxAnnounce (s : State) (n : Nat) (m : List Byte) (l : List (Nat × Nat × List Byte)) (addr : List Byte) : State :=
  let f : Foreign := { port := n, id := ptpSource m, ds := sliceB m 47 14, steps := beAt m 61 2, flags := byteAt m 7, log := ptpLog m, at_ := s.raw, addr := addr }
  let a := { s with ptp := { s.ptp with foreign := s.ptp.foreign.filter (fun g => !(g.port == n && g.id == f.id)) ++ [f] } }
  if !a.fromParent n m then a
  else match a.upChan n with
    | none => a
    | some c =>
      let b := match a.boundOf l with
        | some v => { a with ptp := { a.ptp with boundAnn := some (v, a.raw) } }
        | none => a
      let d := ((b.sets [(F.REF_QUAL.RAW c, byteAt m 48), (F.REF_QUAL.AUX c, byteAt m 49)]).updRef c (fun r => { r with heardAt := b.raw })).showPtpUkind c
      if d.bit (F.PRT_STAT.LINK n) then (d.set (F.REF_STAT.ACTIVITY c) 1).gainPresence c else d

/-! Data sets (R413): the five data sets in the layout of the standard's management TLVs (notes/assumptions/21.md). -/

/-- defaultDS, currentDS, parentDS, timePropertiesDS, portDS. -/
def State.dataSet (s : State) (k n : Nat) : List Byte :=
  let par := (s.ptp.parent.map (fun p => p.2)).getD (s.clockIdentity ++ beBytes 2 0)
  if k = 0 then
    bytesOf [1, 0] ++ beBytes 2 4 ++ leBytes 1 (s.get F.PTP_PRIO.PRIO1) ++ leBytes 1 (s.get F.PTP_STAT.CLASS) ++ leBytes 1 (s.get F.PTP_STAT.ACC) ++
      beBytes 2 s.ptpVar ++ leBytes 1 s.prio2 ++ s.clockIdentity ++ leBytes 1 (s.get F.PTP_CFG.DOMAIN) ++ [0]
  else if k = 1 then
    beBytes 2 0 ++ beBytes 8 (ofSigned 64 (-(s.ptp.ms.getD 0))) ++ beBytes 8 (ofSigned 64 (roundAway (s.ptp.mpd.getD 0)))
  else if k = 2 then
    par ++ bytesOf [0, 0] ++ beBytes 2 0xFFFF ++ beBytes 4 0x7FFFFFFF ++ leBytes 1 (s.get F.PTP_PRIO.PRIO1) ++ leBytes 1 (s.get F.PTP_STAT.CLASS) ++
      leBytes 1 (s.get F.PTP_STAT.ACC) ++ beBytes 2 s.ptpVar ++ leBytes 1 s.prio2 ++ s.clockIdentity
  else if k = 3 then beBytes 2 (ofSigned 16 s.utcOffset) ++ leBytes 1 s.timeFlags ++ leBytes 1 s.timeSource
  else
    s.portIdentity n ++ leBytes 1 (s.get (F.PTP_PSTAT.STATE n)) ++ leBytes 1 (s.get (F.PTP_PINTV.LOGMINDREQ n)) ++ beBytes 8 (ofSigned 64 (roundAway (s.ptp.mpd.getD 0))) ++
      leBytes 1 (s.get (F.PTP_PINTV.LOGANN n)) ++ bytesOf [3] ++ leBytes 1 (s.get (F.PTP_PINTV.LOGSYNC n)) ++ bytesOf [if s.bit (F.PTP_PCFG.P2P n) then 2 else 1] ++
      leBytes 1 (s.get (F.PTP_PINTV.LOGPDREQ n)) ++ bytesOf [0x12]

/-- The data set a management GET names; none for any other managementId. -/
def dataSetOf (id : Nat) : Option Nat := if 0x2000 ≤ id ∧ id ≤ 0x2004 then some (id - 0x2000) else none

/-- The answer to a management message (R413). -/
def State.mgmtReply (s : State) (n : Nat) (m : List Byte) (l : List (Nat × Nat × List Byte)) : Option (List Byte) :=
  let action := byteAt m 46 % 16
  match l.find? (fun t => t.1 == 1) with
  | none => none
  | some (_, _, b) =>
    let id := beAt b 0 2
    let head := ptpSource m ++ leBytes 1 (byteAt m 44) ++ leBytes 1 (byteAt m 44) ++ leBytes 1 2 ++ [0]
    let body := match (if action = 0 then dataSetOf id else none) with
      | some k => let d := s.dataSet k n; beBytes 2 1 ++ beBytes 2 (2 + d.length) ++ beBytes 2 id ++ d
      | none => beBytes 2 2 ++ beBytes 2 8 ++ beBytes 2 4 ++ beBytes 2 id ++ beBytes 4 0
    if action ≤ 1 ∨ action = 3 then some (ptpFix (s.ptpHeader 0xD 48 (byteAt m 6 &&& 4) 0 n (ptpSeq m) 0x7F ++ head ++ body) false) else none

/-- U_ASYM's smallest port: the port whose clockAccuracy PTP_STAT.ACC shows. -/
def State.bestPort (s : State) : Nat := (List.range 4).foldl (fun b n => if s.uAsym n < s.uAsym b then n else b) 0

end Sys2Proof.Machine
end

