-- ==== Sys2Proof/Machine/PeerOps.lean ====
section
/-! DEFINITION. Peer engines (R478 to R480): messages from a peer, its offset and bound, the ensemble of a group. -/

namespace Sys2Proof.Machine

/-- A peer's inner state. -/
def State.peer (s : State) (k : Nat) : PeerSt := (lookup k s.pair.peers).getD {}

/-- Change a peer's inner state. -/
def State.updPeer (s : State) (k : Nat) (f : PeerSt → PeerSt) : State :=
  s.updPair (fun p => { p with peers := insertAt k (f ((lookup k p.peers).getD {})) p.peers })

/-- The 16 address bytes of a peer. -/
def State.peerAddr (s : State) (k : Nat) : List Byte := [0, 1, 2, 3].flatMap (fun i => leBytes 4 (s.get (F.PEER_ADDR.ADDR k i)))

/-- Whether a peer can be reached at all (R478). -/
def State.peerOn (s : State) (k : Nat) : Bool :=
  s.bit (F.PEER_CFG.EN k) && s.bit (F.PTP_PCFG.EN (s.get (F.PEER_CFG.PORT k)))

/-- The enabled peer that a frame on a port comes from. -/
def State.peerOf (s : State) (n : Nat) (f : List Byte) : Option Nat :=
  (List.range 2048).find? (fun k => s.peerOn k && s.get (F.PEER_CFG.PORT k) == n && sliceB (srcAddr f) 0 16 == s.peerAddr k)

/-- Show that a peer ceased to be reachable (R479). -/
def State.losePeer (s : State) (k : Nat) : State :=
  if s.bit (F.PEER_STAT.REACH k) then (s.set (F.PEER_STAT.REACH k) 0).flag (F.PEER_STAT.LOST k) 45 k s.pairState else s

/-- The errorBound of a peer (R417, R479): the latest Sync's within three Sync intervals, else the Announce's within three of its
intervals, else unbounded. -/
def State.peerBound (s : State) (k : Nat) : Nat :=
  let p := s.peer k
  let live := fun (b : Option (Nat × Nat)) (per : Nat) => match b with | some (v, t) => if s.raw < t + 3 * per then some v else none | none => none
  match live p.boundSync (intervalTicks p.logSync) with
  | some v => v
  | none => (live p.boundAnn (intervalTicks p.logAnn)).getD unbounded

/-- R479: a peer's offset from t1 + c_sync and t2 (counts of 2⁻¹⁶ ns). -/
def State.peerOffset (s : State) (k : Nat) (t1 : Int) (t2 : Nat) : State :=
  let n := s.get (F.PEER_CFG.PORT k)
  let ms := (t2 : Int) - t1
  let a := s.updPeer k (fun p => { p with ms := some ms })
  match (a.peer k).mpd with
  | none => a
  | some d =>
    let x := fracPs (d + crumbFrac (s.getI (F.PEER_ASYM.ASYM k)) - ms)
    let b := errbSum [a.peerBound k, if a.bit (F.PRT_STAT.LATOK n) then portRes (a.get (F.PRT_STAT.MODE n)) else unbounded, a.get (F.PRT_PLANEUNC.UNC n), a.get (F.PEER_UNC.UNC k)]
    let c := (a.setISat (F.PEER_THETA.THETA k) (roundAway x)).set (F.PEER_BND.B k) b
    let e := c.updPeer k (fun p => { p with theta := x, bnd := b, offsetAt := if b = unbounded then p.offsetAt else s.raw })
    if b = unbounded then e else e.set (F.PEER_STAT.REACH k) 1

/-- A message from a peer, verified: `auth` is the SPP it was authenticated under. -/
def State.peerMessage (s : State) (k : Nat) (auth : Option Nat) (m : List Byte) (l : List (Nat × Nat × List Byte)) (r : StampRec) : State :=
  let spp := s.get (F.PEER_CFG.SPP k)
  if spp ≠ 0 ∧ auth ≠ some spp then s
  else
    let n := s.get (F.PEER_CFG.PORT k)
    let noteSync := fun (t : State) => match t.boundOf l with
      | some v => t.updPeer k (fun p => { p with boundSync := some (v, t.raw) })
      | none => t
    match ptpType m with
    | 0 =>
      let a := noteSync (s.updPeer k (fun p => { p with logSync := ptpLog m }))
      if ptpTwoStep m then a.updPeer k (fun p => { p with pendSync := some (ptpSeq m, r, ptpCorr m) })
      else (a.updPeer k (fun p => { p with pendSync := none })).peerOffset k (ptpTime m 34 + ptpCorr m) (s.recTime r)
    | 8 => match (s.peer k).pendSync with
      | some (q, rec, corr) =>
        if q ≠ ptpSeq m then s
        else (noteSync (s.updPeer k (fun p => { p with pendSync := none }))).peerOffset k (ptpTime m 34 + ptpCorr m + corr) (s.recTime rec)
      | none => s
    | 9 => match (s.peer k).reqPend, (s.peer k).ms with
      | some (q, some t3), some ms =>
        if q = ptpSeq m ∧ sliceB m 44 10 = s.portIdentity n then
          let sm := (ptpTime m 34 : Int) - t3 - ptpCorr m
          s.updPeer k (fun p => { p with mpd := some (((ms + sm : Int) : Rat) / 2), reqPend := none, reqLog := if ptpLog m = 0x7F then p.reqLog else ptpLog m })
        else s
      | _, _ => s
    | 0xB => match s.boundOf l with
      | some v => s.updPeer k (fun p => { p with boundAnn := some (v, s.raw), logAnn := ptpLog m })
      | none => s
    | _ => s

/-! The ensemble (R480). -/

/-- The peers whose intervals hold a point. -/
def clique (l : List (Nat × Rat × Rat)) (x : Rat) : List (Nat × Rat × Rat) := l.filter (fun e => decide (e.2.1 ≤ x) && decide (x ≤ e.2.2))

/-- The common interval of intervals that share a point, and its distance from 0. -/
def common (c : List (Nat × Rat × Rat)) : Rat × Rat × Rat :=
  let lo := (c.map (fun e => e.2.1)).foldl max ((c.head?.map (fun e => e.2.1)).getD 0)
  let hi := (c.map (fun e => e.2.2)).foldl min ((c.head?.map (fun e => e.2.2)).getD 0)
  (lo, hi, if 0 < lo then lo else if hi < 0 then -hi else 0)

/-- C of R480: the largest set of intervals that share a point; of equal sets, the one whose common interval lies nearest 0. -/
def largestClique (l : List (Nat × Rat × Rat)) : List (Nat × Rat × Rat) :=
  (l.map (fun e => clique l e.2.1)).foldl (fun best c =>
    if best.length < c.length ∨ (best.length = c.length ∧ (common c).2.2 < (common best).2.2) then c else best) []

/-- The peer-ensemble channel of a group (R157). -/
def State.ensChannel (s : State) (g : Nat) : Option Nat :=
  (List.range 16).find? (fun c => s.kind c == 9 && s.get (F.REF_STAT.SOURCE c) == g)

/-- The reachable peers of a group. -/
def State.reachable (s : State) (g : Nat) : List Nat :=
  (List.range 2048).filter (fun k => s.bit (F.PEER_CFG.EN k) && s.bit (F.PEER_STAT.REACH k) && s.get (F.PEER_CFG.GROUP k) == g)

/-- R157: the channel is present while at least three peers of its group are reachable. -/
def State.reviewEns (s : State) (g : Nat) : State :=
  match s.ensChannel g with
  | none => s
  | some c => if 3 ≤ (s.reachable g).length then s.gainPresence c else (s.set (F.REF_STAT.LABELLED c) 0).losePresence c

/-- R480 for one group. -/
def State.ensemble (s : State) (g : Nat) : State :=
  let ks := s.reachable g
  let l := ks.map (fun k => let p := s.peer k; (k, p.theta - p.bnd, p.theta + p.bnd))
  let c := largestClique l
  let ids := c.map (·.1)
  let a := ks.foldl (fun t k => t.setBit (F.PEER_STAT.INCLIQ k) (ids.contains k)) (s.sets [(F.PAIR_ENS_N.N g, ks.length), (F.PAIR_ENS_N.C g, c.length)])
  if c.length < 3 ∨ 2 * c.length ≤ ks.length then
    let b := a.set (F.PAIR_ENS_U.U g) unbounded
    (match b.ensChannel g with | some ch => b.set (F.REF_UKIND.UKIND ch) unbounded | none => b).reviewEns g
  else
    let i := common c
    let x := (i.1 + i.2.1) / 2
    let u := errbUp ((c.map (fun e => absR (x - (s.peer e.1).theta) + (s.peer e.1).bnd)).foldl max 0)
    let b := ((a.setISat (F.PAIR_ENS_X.X g) (roundAway x)).set (F.PAIR_ENS_U.U g) u).reviewEns g
    match b.ensChannel g with
    | some ch => if b.bit (F.REF_STAT.PRESENT ch) then
        (((b.set (F.REF_UKIND.UKIND ch) u).deliver ch x b.now false).set (F.REF_STAT.LABELLED ch) 1).gainActivity ch else b
    | none => b

end Sys2Proof.Machine
end

