-- ==== Sys2Proof/Machine/Ptp.lean ====
section
/-! DEFINITION. The commands of PTP service (spec/15_ptp.md). -/

namespace Sys2Proof.Machine

/-! Processing a message (R401 to R412). -/

/-- A reply's frame is never shorter than the smallest Ethernet frame. -/
def wireLen (dest : List Byte) (n : Nat) : Nat := max 64 (dest.length + n + 4)

/-- An unappointed reply of a context: its message is sealed, then it waits for its commit (R336). -/
def State.replyPlain (s : State) (x : Ctx) : State := (s.updCtx x.id (fun _ => { x with sealed_ := false })).askSeal x none

/-- The association of a reply, or reason 8 where its SPP has none to send with. -/
def State.replySa (s : State) (x : Ctx) (auth : Option Nat) : Except Nat Ctx :=
  match auth with
  | none => .ok { x with sa := none }
  | some spp => match s.saTx spp with
    | none => .error 8
    | some a => .ok { x with sa := some a }

/-- The Delay_Resp to a Delay_Req (R404, R409). `auth` is the SPP of an authenticated request. -/
def State.planDelayReq (s : State) (x : Ctx) (auth : Option Nat) : Except Nat (State × Ctx) :=
  let n := x.port
  if s.get (F.PTP_PSTAT.STATE n) ≠ 6 then .error 4
  else
    let uni := !isGroup x.frame
    let key : Grant := { auth := false, transport := 0, port := n, mtype := 9, logint := 0, duration := 0, expiry := 0, next := 0, seqid := 0, tokens := 0, client := ptpSource x.req, spp := 0, domain := 0, addr := sliceB (srcAddr x.frame) 0 16, vlan := 0 }
    let found := if uni then s.grantKey key else none
    let t := match found with
      | some (i, g) => if g.expiry ≤ s.raw then s.putGrant i none else s
      | none => s
    let g := match found with | some (i, g) => if g.expiry ≤ s.raw then none else some (i, g) | none => none
    let free := s.bit F.PTP_CFG.UNGRANTED && !x.label.testBit 1
    let dest := if uni then generalHead (replyHead x.frame (portMac n)) else (s.svcOf x.recd).mcHead n false false
    let spp := if !uni then (if ((s.svcOf x.recd).mcSa n).isSome then some (s.get (F.PTP_PCFG.SPP n)) else none)
      else match g with | some (_, g) => if g.auth then some g.spp else none | none => auth
    let eff := match g with | some (i, _) => [Eff.charge i] | none => []
    if uni && g.isNone && !free then .error 5
    else if (match g with | some (_, g) => decide (g.budget s.raw < 256) | none => false) then .error 6
    else match s.replySa { x with dest := dest } spp with
      | .error r => .error r
      | .ok y =>
        let len := wireLen dest (54 + if y.sa.isSome then 26 else 0)
        if len ≤ x.frame.length + 4 then
          .ok (t, { y with kind := 8, len := x.frame.length + 4, t0 := x.recd.raw + x.off * nsCrumbs, effs := eff ++ [.ptpCount n 2] })
        else .ok (t, { y with kind := 10, len := len, msg := (s.svcOf x.recd).delayResp y, effs := eff ++ [.ptpCount n 2, .ptpCount n 5] })

/-- The Pdelay_Resp to a Pdelay_Req (R403, R404). -/
def State.planPdelay (s : State) (x : Ctx) (auth : Option Nat) : Except Nat Ctx :=
  let n := x.port
  let dest := if isGroup x.frame then s.mcHead n true true else replyHead x.frame (portMac n)
  let spp := if isGroup x.frame then (if (s.mcSa n).isSome then some (s.get (F.PTP_PCFG.SPP n)) else none) else auth
  match s.replySa { x with dest := dest } spp with
  | .error r => .error r
  | .ok y =>
    let z := { y with len := x.frame.length + 4, t0 := x.recd.raw + x.off * nsCrumbs, effs := [.ptpCount n 3] }
    if s.bit F.PTP_CFG.ONESTEP && s.get F.PTP_CFG.PROFILE != 3 then .ok { z with kind := 6 }
    else .ok { z with kind := 9, msg := s.pdelayTwo z }

/-- R407 and R408 for one TLV of a Signaling message: its answer and effects. -/
def State.planNegotiation (s : State) (x : Ctx) (auth : Option Nat) (type : Nat) (b : List Byte) : List Byte × List Eff :=
  let n := x.port
  let mt := byteAt b 0 / 16
  let vlan := if beAt x.frame 12 2 = 0x8100 then (let t := beAt x.frame 14 2; t % 4096 + t / 8192 * 4096 + 32768) else 0
  let tr := if ipVer x.frame = 4 then 1 else if ipVer x.frame = 6 then 2 else 0
  let log := toSigned 8 (byteAt b 1)
  let dur := min (beAt b 2 4) (s.get F.PTP_GDUR.MAXDUR)
  let g : Grant := { auth := auth.isSome, transport := tr, port := n, mtype := mt, logint := log, duration := dur, expiry := 0, next := 0, seqid := 0, tokens := 0, client := ptpSource x.req, spp := auth.getD 0, domain := s.get F.PTP_CFG.DOMAIN, addr := sliceB (srcAddr x.frame) 0 16, vlan := vlan }
  let lim := if mt = 0 then s.getI F.PTP_GLIM.SYNCMIN else if mt = 0xB then s.getI F.PTP_GLIM.ANNMIN else s.getI F.PTP_GLIM.DRMIN
  let old := s.grantKey g
  if type = 4 then
    let answer := fun (d fl : Nat) => beBytes 2 5 ++ beBytes 2 8 ++ leBytes 1 (mt * 16) ++ sliceB b 1 1 ++ beBytes 4 d ++ [0] ++ leBytes 1 fl
    if s.get (F.PTP_PSTAT.STATE n) ≠ 6 ∨ (mt ≠ 0 ∧ mt ≠ 9 ∧ mt ≠ 0xB) then (answer 0 0, [])
    else if log < lim then (answer 0 0, [])
    else match old with
      | some (i, _) => (answer dur 1, [.grantSet i g])
      | none => if 65536 ≤ s.ptp.grants.length then (answer 0 0, [.grantFull]) else (answer dur 0, [.grantSet s.freeGrant g])
  else if type = 6 then
    (beBytes 2 7 ++ beBytes 2 2 ++ leBytes 1 (mt * 16) ++ [0], match old with | some (i, _) => [.grantClear i] | none => [])
  else ([], [])

/-- A Signaling message (R407, R408): one Signaling answers its requests and cancellations. -/
def State.planSignaling (s : State) (x : Ctx) (auth : Option Nat) (l : List (Nat × Nat × List Byte)) : Except Nat (Option Ctx) :=
  let r := l.map (fun t => s.planNegotiation x auth t.1 t.2.2)
  let body := r.flatMap (·.1)
  let effs := r.flatMap (·.2)
  if body.isEmpty then .ok none
  else match s.replySa { x with dest := replyHead x.frame (portMac x.port) } auth with
    | .error e => .error e
    | .ok y =>
      let m := ptpFix (s.ptpHeader 0xC 44 4 0 x.port (ptpSeq x.req) 0x7F ++ ptpSource x.req ++ body) y.sa.isSome
      .ok (some { y with kind := 10, msg := m, effs := effs })

/-- What a message asks for: a reply's context, or only a change of the state it reports to, or the reason it is abandoned for. -/
inductive PtpPlan
  | reply (s : State) (x : Ctx)
  | done (s : State)
  | stop (s : State) (reason : Nat)

/-- The acceptance of R400 and R401 before any TLV: a reason, or none. -/
def State.ptpRefuses (s : State) (x : Ctx) (p : List Byte) : Option Nat :=
  let n := x.port
  let type := ptpType p
  let v := s.svcOf x.recd
  if x.recd.bad then some 9
  else if p.length < 34 then some 12
  else if byteAt p 1 % 16 ≠ 2 ∨ 2 ≤ byteAt p 1 / 16 then some 1
  else if p.length < ptpLen p ∨ ptpLen p < bodyLen type then some 12
  else if byteAt p 4 ≠ v.get F.PTP_CFG.DOMAIN ∨ ptpSdo p ≠ v.get F.PTP_CFG.SDOID then some 2
  else if !s.bit (F.PTP_PCFG.EN n) || !v.routeOk n x.frame type || !v.typeOk n type then some 3
  else if s.standby && decide (s.get F.PTP_PAIR.STBYMODE < 2) then some 4
  else none

/-- What a received message, verified, asks for (R401 to R418). -/
def State.ptpPlan (s : State) (x : Ctx) (auth : Option Nat) (l : List (Nat × Nat × List Byte)) : PtpPlan :=
  let n := x.port
  let m := x.req
  match (if [0, 8, 9, 0xB].contains (ptpType m) then s.peerOf n x.frame else none) with
  | some k => PtpPlan.done (s.peerMessage k auth m l x.recd)
  | none =>
  let up := fun (f : Nat → State) => match s.upChan n with
    | some c => if s.fromParent n m then PtpPlan.done (f c) else .done s
    | none => .done s
  match ptpType m with
  | 0 => up (fun c => s.rxSync n c m l x.recd)
  | 1 => match s.planDelayReq x auth with
    | .error r => .stop s r
    | .ok y => .reply y.1 y.2
  | 2 => match (s.svcOf x.recd).planPdelay x auth with
    | .error r => .stop s r
    | .ok y => .reply s y
  | 3 => .done (s.rxPdelayResp n m (s.recTime x.recd))
  | 8 => up (fun c => s.rxFollowUp n c m l)
  | 9 => up (fun _ => s.rxDelayResp n m)
  | 0xA => .done (s.rxPdelayFollow n m)
  | 0xB => .done (s.rxAnnounce n m l (srcAddr x.frame))
  | 0xC => match (s.svcOf x.recd).planSignaling x auth l with
    | .error r => .stop s r
    | .ok none => .done s
    | .ok (some y) => .reply s y
  | _ => match (s.svcOf x.recd).mgmtReply n m l with
    | none => .done s
    | some b => match s.replySa { x with dest := replyHead x.frame (portMac n) } auth with
      | .error r => .stop s r
      | .ok y => .reply s { y with kind := 10, msg := if y.sa.isSome then ptpFix b true else b }

/-- Abandon a PTP message for a reason; reason 8 sets AUTHFAIL. -/
def State.ptpAbandon (s : State) (id r : Nat) : State :=
  let a := s.abandon id (some (F.PTP_SPEC.CNT r))
  if r = 8 then a.ptpFlag F.PTP_STAT.AUTHFAIL else a

/-- PTP_MESSAGE (R401): a message's context is processed to a reply, to what it reports, or abandoned. -/
def execPtpMessage (id : Nat) (s : State) : Result :=
  .next (match s.ctx? id with
    | none => s
    | some x => s.when (x.service == 2 && x.kind == 0 && decide (x.engine < 16)) (fun s =>
      let p := payloadOf x.frame
      let m := p.take (ptpLen p)
      let y := { x with req := m }
      match s.ptpRefuses x p with
      | some r => s.ptpAbandon id r
      | none => match tlvs m 64 (bodyLen (ptpType m)) with
        | none => s.ptpAbandon id 12
        | some l => match (s.svcOf x.recd).authCheck m l (s.bit (F.PTP_PCFG.AUTHREQ x.port) || x.label.testBit 0) with
          | .error r => s.ptpAbandon id r
          | .ok a =>
            let verify := fun (t : State) => match a with
              | some (_, e) => t.laneAsk { ctx := id, hmac := true, slot := some (s.get (F.PTP_SA_0.DECSLOT e)), use := 1, n := m.length, deadline := none, isSeal := false }
              | none => t
            let looks := (ptpType m == 1 && !isGroup x.frame) || ptpType m == 0xC
            match (if looks then s.clusterEvent 9 0 else s).ptpPlan y (a.map (·.1)) l with
            | .stop t r => t.ptpAbandon id r
            | .done t => (t.freeCtx id).bump F.APD_SPEC_COMMIT.COMMIT
            | .reply t z =>
              let b := verify (t.updCtx id (fun _ => z))
              if 9 ≤ z.kind then b.askSeal { z with ops := if a.isSome then 1 else 0 } none else b))

/-! Streams (R405). -/

/-- The lead L in crumbs. -/
def State.leadCrumbs (s : State) : Nat := max (s.get F.PTP_SCHED.LEAD) (s.get F.APD_OFFSET.PTP) * nsCrumbs

/-- Whether a port may send a message type now: MASTER, and what STBYMODE leaves a standby (R419). -/
def State.mayServe (s : State) (n mt : Nat) : Bool :=
  s.bit (F.PTP_PCFG.EN n) && s.get (F.PTP_PSTAT.STATE n) == 6 &&
    (!s.standby || s.get F.PTP_PAIR.STBYMODE == 2 || (s.get F.PTP_PAIR.STBYMODE == 1 && mt == 0xB))

/-- Build a Sync or Announce: port, type, head, association, sequenceId, logMessageInterval, NEXT, unicast, advance effect. -/
def State.buildStream (s : State) (n mt : Nat) (dest : List Byte) (sa : Option Nat) (seq log next : Nat) (uni : Bool) (adv : Eff) : State :=
  let fl := if uni then 4 else 0
  let tmpl := s.ptpHeader mt (if mt = 0 then 44 else 64) fl 0 n seq log
  let bt := if s.bit F.PTP_CFG.BTLV then 18 else 0
  let len := wireLen dest ((if mt = 0 then 44 else 64) + bt + if sa.isSome then 26 else 0)
  let one := s.bit F.PTP_CFG.ONESTEP
  let kind := if mt = 0 then (if one then 7 else 9) else 10
  let x0 := fun (id : Nat) => ({ id := id, service := 2, kind := kind, port := n, req := tmpl, dest := dest, len := len, t0 := next * 512, born := s.replica (n + 1), retry := s.get F.APD_RETRY.RETRY, sa := sa, effs := [adv, .ptpCount n (if mt = 0 then 0 else 1)] } : Ctx)
  let msg := fun (x : Ctx) => if mt = 0 then (if one then [] else s.syncTwoStep x)
    else ptpFix (tmpl ++ s.announceBody n ++ s.boundTlvIf (errbSum [s.errb, s.uAsym n])) sa.isSome
  let x := fun (id : Nat) => { x0 id with msg := msg (x0 id) }
  let a := s.newCtx x
  if kind = 7 then a else a.askSeal (x s.pke.nextCtx) none

/-- STREAM_BUILD (R405): the multicast stream of a port and type (`uni` none), or a grant's stream: L before NEXT. -/
def execStreamBuild (uni : Option Nat) (n mt : Nat) (s : State) : Result :=
  onUnit (decide (n < 4)) (
    let due := fun (next : Nat) => decide (next * 512 ≤ s.now + s.leadCrumbs)
    match uni with
    | none =>
      let q := (if mt = 0 then s.ptp.syncs else s.ptp.anns).getD n {}
      s.when ((mt == 0 || mt == 0xB) && s.mayServe n mt && s.bit (F.PTP_PCFG.MCAST n) && due q.next) (fun s =>
        let log := ofSigned 8 (s.mcLog n mt)
        s.buildStream n mt (s.mcHead n false (mt == 0)) (s.mcSa n) q.seq log q.next false (.advanceMc n mt))
    | some i => match s.grant? i with
      | none => s
      | some g =>
        if g.expiry ≤ s.raw then s.putGrant i none
        else s.when ((g.mtype == 0 || g.mtype == 0xB) && s.mayServe g.port g.mtype && due g.next) (fun s =>
          match (if g.auth then (s.saTx g.spp).map some else some none) with
          | none => (s.bump (F.PTP_SPEC.CNT 8)).ptpFlag F.PTP_STAT.AUTHFAIL
          | some sa => s.buildStream g.port g.mtype (s.uniHead g.port g.transport g.addr g.vlan (g.mtype == 0)) sa g.seqid (ofSigned 8 g.logint) g.next true (.advance i)))

/-- GRANT_EXPIRY (R408). -/
def execGrantExpiry (i : Nat) (s : State) : Result :=
  onUnit (decide (i < 65536)) (match s.grant? i with
    | none => s
    | some g => s.when (decide (g.expiry ≤ s.raw)) (·.putGrant i none))

/-! Grant registers (R406, R408). -/

/-- READ: the entry's bytes in the requester's window. -/
def State.gRead (s : State) (req : Requester) : State :=
  let b := match s.grant? (s.get (F.PTP_GSEL.IDX req.idx)) with | some g => g.bytes | none => List.replicate 64 0
  s.sets ((List.range 16).map (fun w => (F.PTP_GWIN.WORD req.idx w, leAt b (4 * w) 4)))

/-- FLUSH. -/
def State.gFlush (s : State) : State := s.ptp.grants.foldl (fun t e => t.putGrant e.1 none) s

/-- A write of PTP_GCTRL: READ needs no key; INVAL and FLUSH do (R564). -/
def State.writeGctrl (s : State) (req : Requester) (data : Nat) : State :=
  if bitsOf data 1 2 ≠ 0 ∧ bitsOf data 16 16 ≠ 0x9612 then s.accessError req 6 0xD0002C
  else ((s.when (data.testBit 0) (·.gRead req)).when (data.testBit 1) (fun s => s.putGrant (s.get (F.PTP_GSEL.IDX req.idx)) none)).when (data.testBit 2) State.gFlush

/-- PTP_GREAD (R406). -/
def execPtpGread (req : Requester) (s : State) : Result := .next (s.atDomain req (0xD0002C) (1) (fun s => s.writeGctrl req 1))

/-- PTP_GINVAL (R408). -/
def execPtpGinval (req : Requester) (key : Nat) (s : State) : Result :=
  .next (s.atDomain req (0xD0002C) (2 + key % 65536 * 65536) (fun s => s.writeGctrl req (2 + key % 65536 * 65536)))

/-- PTP_GFLUSH (R408). -/
def execPtpGflush (req : Requester) (key : Nat) (s : State) : Result :=
  .next (s.atDomain req (0xD0002C) (4 + key % 65536 * 65536) (fun s => s.writeGctrl req (4 + key % 65536 * 65536)))

/-! BMCA (R413 to R415; notes/assumptions/20.md says how far the standard's algorithm is taken). -/

/-- The comparison key of a data set: lower is better. In profiles 1 and 2 priority1 is not compared and localPriority is. -/
def dsKey (prof : Nat) (ds : List Byte) (loc steps : Nat) (id : List Byte) : List Nat :=
  let at_ := fun i => byteAt ds i
  let g := (List.range 8).map (fun i => at_ (6 + i))
  let idn := id.map BitVec.toNat
  if prof = 1 ∨ prof = 2 then [at_ 1, at_ 2, at_ 3, at_ 4, at_ 5, loc] ++ g ++ [steps] ++ idn
  else [at_ 0, at_ 1, at_ 2, at_ 3, at_ 4, at_ 5] ++ g ++ [steps] ++ idn

/-- Lexicographic order. -/
def lexLt : List Nat → List Nat → Bool
  | [], [] => false
  | [], _ => true
  | _, [] => false
  | a :: s, b :: t => if a < b then true else if b < a then false else lexLt s t

/-- A foreign master's key. -/
def State.foreignKey (s : State) (f : Foreign) : List Nat := dsKey (s.get F.PTP_CFG.PROFILE) f.ds 128 f.steps f.id

/-- The foreign masters of a port heard within announceReceiptTimeout, three of their intervals, and not this clock itself. -/
def State.liveForeign (s : State) (n : Nat) : List Foreign :=
  s.ptp.foreign.filter (fun f => f.port == n && decide (s.raw < f.at_ + 3 * intervalTicks f.log) && decide (f.steps < 255) && f.id.take 8 != s.clockIdentity)

/-- The best of a list. -/
def State.bestForeign (s : State) (l : List Foreign) : Option Foreign :=
  l.foldl (fun b f => match b with
    | none => some f
    | some g => if lexLt (s.foreignKey f) (s.foreignKey g) then some f else b) none

/-- The state a port takes at a re-evaluation: 1 INITIALIZING, 2 FAULTY, 3 DISABLED, 4 LISTENING, 6 MASTER, 7 PASSIVE, 8
UNCALIBRATED, 9 SLAVE. -/
def State.bmcaState (s : State) (n : Nat) : Nat :=
  let prof := s.get F.PTP_CFG.PROFILE
  let usable := fun k => s.bit (F.PTP_PCFG.EN k) && s.bit (F.PRT_STAT.LINK k) && !s.bit (F.PTP_PCFG.MASTERONLY k)
  let own := dsKey prof (s.ownDs n) s.localPrio 0 (s.portIdentity n)
  let mine := s.bestForeign (s.liveForeign n)
  let best := s.bestForeign (((List.range 4).filter usable).filterMap (fun k => s.bestForeign (s.liveForeign k)))
  let cls := s.get F.PTP_STAT.CLASS
  let old := s.get (F.PTP_PSTAT.STATE n)
  if !s.bit (F.PTP_PCFG.EN n) then 3
  else if !s.bit (F.PRT_STAT.LINK n) then 2
  else if old < 4 then 4
  else if s.bit (F.PTP_PCFG.MASTERONLY n) then 6
  else match mine with
    | none => if old = 4 ∧ s.raw < s.ptp.listenAt.getD n 0 + 3 * intervalTicks (s.getI (F.PTP_PINTV.LOGANN n)) then 4 else 6
    | some f =>
      if cls < 128 then (if lexLt own (s.foreignKey f) then 6 else 7)
      else match best with
        | none => 6
        | some b =>
          if lexLt own (s.foreignKey b) then 6
          else if b.port = n then (if s.ptp.mpd.isSome then 9 else 8)
          else if lexLt (s.foreignKey b) (s.foreignKey f) then 7 else 6

/-- A port takes a state; leaving MASTER clears its grants, becoming MASTER starts its streams (R405, R408). -/
def State.setPortState (s : State) (n st : Nat) : State :=
  let old := s.get (F.PTP_PSTAT.STATE n)
  if old = st then s
  else
    let a := (s.set (F.PTP_PSTAT.STATE n) st).flag (F.PTP_PSTAT.STATECHG n) 44 n
    let b := if old = 6 then (a.ptp.grants.filter (fun e => e.2.port == n)).foldl (fun t e => t.putGrant e.1 none) a else a
    let c := if st = 6 then { b with ptp := { b.ptp with syncs := modAt b.ptp.syncs n (fun q => { q with next := b.raw }), anns := modAt b.ptp.anns n (fun q => { q with next := b.raw }) } } else b
    if st = 4 then { c with ptp := { c.ptp with listenAt := modAt c.ptp.listenAt n (fun _ => c.raw) } } else c

/-- The parent of the upstream channel: the best foreign master of its port (R154). -/
def State.reviewParent (s : State) : State :=
  match (List.range 4).find? (fun n => (s.upChan n).isSome) with
  | none => if s.ptp.parent.isSome then { s with ptp := { s.ptp with parent := none } } else s
  | some n =>
    let p := (s.bestForeign (s.liveForeign n)).map (fun f => (n, f.id))
    if p = s.ptp.parent then s
    else
      let a := { s with ptp := { s.ptp with parent := p, boundSync := none, boundAnn := none, pendSync := none, ms := none, reqPend := none, respPend := none, mpd := none } }
      let b := match a.upChan n with
        | none => a
        | some c => if s.ptp.parent.isSome then ((a.set (F.REF_STAT.ACTIVITY c) 0).set (F.REF_STAT.LABELLED c) 0).losePresence c else a
      if p.isSome then b.ptpFlag F.PTP_STAT.PARENT else b

/-- Show clockClass, clockAccuracy and timeTraceable. -/
def State.showPtpQuality (s : State) : State :=
  let c := s.ptpClass
  let a := if s.get F.PTP_STAT.CLASS = c then s else (s.set F.PTP_STAT.CLASS c).ptpFlag F.PTP_STAT.CLASSCHG 0 c
  (a.set F.PTP_STAT.ACC (a.portAcc a.bestPort)).setBit F.PTP_STAT.TRACE (c == 6 || c == 7)

/-- BMCA_EVALUATION (R413). -/
def execBmcaEvaluation (s : State) : Result :=
  .next (let a := { s.showPtpQuality with ptp := { s.showPtpQuality.ptp with evalAt := s.raw } }
    let sts := (List.range 4).map (fun n => (n, a.bmcaState n))
    let b := (sts.foldl (fun t p => t.setPortState p.1 p.2) a).reviewParent
    match (List.range 4).find? (fun n => (b.upChan n).isSome) with
    | some n => (match b.upChan n with | some c => b.showPtpUkind c | none => b)
    | none => b)

/-! The upstream channel's own requests (R418), and a peer's (R478, R479). -/

/-- A Delay_Req or, on a P2P port, a Pdelay_Req to the parent (R418). -/
def State.sendDelayReq (s : State) : State :=
  match s.ptp.parent with
  | none => s
  | some (n, pid) => s.when (decide (s.ptp.reqNext ≤ s.raw) && s.canSend n && (!s.standby || s.get F.PTP_PAIR.STBYMODE == 2)) (fun s =>
    let p2p := s.bit (F.PTP_PCFG.P2P n)
    let uni := s.get F.PTP_CFG.PROFILE == 2
    let addr := ((s.ptp.foreign.find? (fun f => f.port == n && f.id == pid)).map Foreign.addr).getD []
    let dest := if uni then s.uniHead n (s.get (F.PTP_PCFG.TRANSPORT n)) addr 0 true else s.mcHead n p2p true
    let seq := s.ptp.reqSeq
    let sa := s.mcSa n
    let m := if p2p then s.ptpHeader 2 54 0 0 n seq 0x7F ++ beBytes 20 0 else s.ptpHeader 1 44 (if uni then 4 else 0) 0 n seq 0x7F ++ beBytes 10 0
    let log := if p2p then s.getI (F.PTP_PINTV.LOGPDREQ n) else s.ptp.reqLog
    let x := fun (id : Nat) => ({ id := id, service := 2, kind := 11, port := n, req := m, dest := dest, msg := ptpFix m sa.isSome, sa := sa, committed := true, born := s.replica (n + 1) } : Ctx)
    let a := { s with ptp := { s.ptp with reqSeq := (seq + 1) % 65536, reqNext := s.raw + intervalTicks log, reqPend := some (seq, none), respPend := none } }
    let id := a.pke.nextCtx
    ((a.newCtx x).askSeal (x id) none).tryRelease id)

/-- The head and association of a message to a peer. -/
def State.peerHead (s : State) (k : Nat) (event : Bool) : List Byte :=
  let t := s.get (F.PEER_CFG.TRANSPORT k)
  let a := s.peerAddr k
  s.uniHead (s.get (F.PEER_CFG.PORT k)) t (if t = 0 then a.take 6 else if t = 1 then a.take 4 else a) 0 event
def State.peerSa (s : State) (k : Nat) : Option Nat := let q := s.get (F.PEER_CFG.SPP k); if q = 0 then none else s.saTx q

/-- A Delay_Req to a peer (R418, R479). -/
def State.sendPeerReq (s : State) (k : Nat) : State :=
  let n := s.get (F.PEER_CFG.PORT k)
  let p := s.peer k
  s.when (s.peerOn k && decide (p.reqNext ≤ s.raw) && s.canSend n) (fun s =>
    let sa := s.peerSa k
    let m := s.ptpHeader 1 44 4 0 n p.reqSeq 0x7F ++ beBytes 10 0
    let x := fun (id : Nat) => ({ id := id, service := 2, kind := 12, port := n, pos := k, req := m, dest := s.peerHead k true, msg := ptpFix m sa.isSome, sa := sa, committed := true, born := s.replica (n + 1) } : Ctx)
    let a := s.updPeer k (fun q => { q with reqSeq := (p.reqSeq + 1) % 65536, reqNext := s.raw + intervalTicks q.reqLog, reqPend := some (p.reqSeq, none) })
    let id := a.pke.nextCtx
    ((a.newCtx x).askSeal (x id) none).tryRelease id)

/-- DELAY_REQ_SEND (R418): to the parent, or to a peer. -/
def execDelayReqSend (peer : Option Nat) (s : State) : Result :=
  match peer with
  | none => .next s.sendDelayReq
  | some k => onUnit (decide (k < 2048)) (s.sendPeerReq k)

/-- GRANT_REQUEST_SEND (R478): REQUEST_UNICAST_TRANSMISSION for Sync and Delay_Resp at LOGINT; the duration asked for is not
stated: a free value. -/
def execGrantRequestSend (k : Nat) (s : State) : Result :=
  onUnit (decide (k < 2048)) (
    let n := s.get (F.PEER_CFG.PORT k)
    s.when (s.peerOn k && s.canSend n) (fun s =>
      let sa := s.peerSa k
      let p := s.peer k
      let log := s.get (F.PEER_CFG.LOGINT k)
      let tlv := fun (mt : Nat) => beBytes 2 4 ++ beBytes 2 6 ++ leBytes 1 (mt * 16) ++ leBytes 1 log ++ beBytes 4 (s.freeVal % 2 ^ 32)
      let m := s.ptpHeader 0xC 44 4 0 n p.sigSeq 0x7F ++ List.replicate 10 0xFF ++ tlv 0 ++ tlv 9
      let x := fun (id : Nat) => ({ id := id, service := 2, kind := 10, port := n, req := m, dest := s.peerHead k false, msg := ptpFix m sa.isSome, sa := sa, committed := true, born := s.replica (n + 1) } : Ctx)
      let a := s.useFree.updPeer k (fun q => { q with sigSeq := (q.sigSeq + 1) % 65536, reqLog := if q.mpd.isNone then toSigned 8 log else q.reqLog, logSync := if q.ms.isNone then toSigned 8 log else q.logSync })
      let id := a.pke.nextCtx
      ((a.newCtx x).askSeal (x id) none).tryRelease id))

/-- PEER_REACH_TIMEOUT (R479): no offset with finite B within four Sync intervals. -/
def execPeerReachTimeout (k : Nat) (s : State) : Result :=
  onUnit (decide (k < 2048)) (s.when (decide ((s.peer k).offsetAt + 4 * intervalTicks (s.peer k).logSync ≤ s.raw)) (fun s =>
    (s.losePeer k).reviewEns (s.get (F.PEER_CFG.GROUP k))))

/-- ENSEMBLE_UPDATE (R480): both groups, once per second. -/
def execEnsembleUpdate (s : State) : Result := .next ((s.ensemble 0).ensemble 1)

end Sys2Proof.Machine
end

