-- ==== Sys2Proof/Machine/TwinOps.lean ====
section
/-! DEFINITION. The redundant pair (spec/17_pair.md): roles, verdicts, DISPUTE, takeover, swap, in-step replay and snapshots. -/

namespace Sys2Proof.Machine

/-! The self-check (R468). -/

/-- SELFB: ERRB less U_PAIR. -/
def State.selfB (s : State) : Nat :=
  let e := s.errbAt s.raw
  if e = unbounded then unbounded else e - min e s.uPair

/-- Channels that are checked: QUALIFIED, with phase or time, not the twin's. -/
def State.checkedChans (s : State) : List Nat :=
  (List.range 16).filter (fun c => s.qstate c == 3 && s.kind c != 0 && s.kind c != 7 && !freqOnly (s.kind c))

/-- Whether a checked channel agrees. -/
def State.agrees (s : State) (c : Nat) : Bool :=
  let lim := errbSum [s.selfB, s.uref c, s.get (F.REF_PMARG.MARG c)]
  lim == unbounded || decide (absR (s.xc c) ≤ lim)

/-- The atomic check's y over its prediction, less one; none while it does not run. -/
def State.atomicGap (s : State) : Option Rat :=
  if s.refereeOk then (s.refereeChannel.bind (fun a => (s.rf a).yD)).map (fun y => absR ((1 + y) / (1 + s.zA) - 1)) else none

/-- The limit of the atomic check. -/
def State.atomicLimit (s : State) : Rat :=
  let exa : Rat := 1000000000000000000
  max ((s.get (F.REF_FHARD.LIM (s.refereeChannel.getD 0)) : Rat) / 1000000000000000) (3 * ((s.get F.OSC_YAT_U.U : Rat) / exa + (s.sigTL 0 : Rat) / exa))

/-- A set of channels as a mask. -/
def maskOf (l : List Nat) : Nat := l.foldl setBitN 0

/-- R468: form the verdict: 0 NONE, 1 PASS, 2 FAIL. -/
def State.selfCheck (s : State) : State :=
  let chk := s.checkedChans
  let ok := chk.filter s.agrees
  let at_ := s.atomicGap
  let pass := match at_ with | some g => decide (g ≤ s.atomicLimit) | none => false
  let fail := (at_.isSome && !pass) || (!chk.isEmpty && ok.isEmpty)
  let v := if fail then 2 else if !ok.isEmpty || pass then 1 else 0
  (s.set F.PAIR_STAT.VERD v).updPair (fun p => { p with checked := maskOf chk, agreed := maskOf ok, atChk := at_.isSome, atPass := pass, xWorst := (chk.map (fun c => absR (s.xc c))).foldl max 0 })

/-! Records that other operations send. -/

/-- ACK (R460, R461): NEED and the answer to a SWAP (1 SWAPOK, 2 SWAPNO). -/
def State.sendAck (s : State) (need answer : Nat) : State :=
  (if s.pair.gapAt.isSome then s.bumpSat F.PAIR_JERR.RETX else s).sendRecord 0x23 (leBytes 4 need ++ leBytes 1 answer ++ leBytes 3 0)

/-- The ACK of the present need. -/
def State.ackNow (s : State) (answer : Nat) : State := s.sendAck (s.pair.next.getD 0) answer

/-! CLEAN, swaps. -/

/-- R475: a scheduled swap is cancelled. -/
def State.cancelSwap (s : State) : State :=
  if s.pair.swap.isSome then ((s.updPair (fun p => { p with swap := none })).set F.PAIR_CTRL.SWAP 0).pairFlag F.PAIR_STAT.SWAPFAIL else s

/-- The CHECK of PAIR_KEY.PSLOT (R425, R465). -/
def State.pairCheck (s : State) : Nat := leAt (s.descriptor (s.get F.PAIR_KEY.PSLOT)) 28 4

/-- The conditions of CLEAN (R473; with one lane left it does not hold, R481). -/
def State.cleanNow (s : State) : Bool :=
  let p := s.pair
  s.role == 2 && s.pairState == 5 && s.bit F.PAIR_STAT.ARMED && !p.stale s.raw && s.get F.PAIR_STAT.VERD == 1 &&
    p.twinCheck == s.pairCheck && !s.bit F.PAIR_STAT.RCPDIFF && p.both &&
    (match p.x with | some x => decide (absR x.1 * 4 ≤ (s.get F.PAIR_THR.THR : Rat)) | none => false)

/-- The seconds left of the countdown (R474). -/
def State.wtrLeft (s : State) : Nat :=
  match s.pair.wtrFrom with
  | some t => s.get F.PAIR_CFG.WTR - (s.raw - t) / 625000000
  | none => 0

/-- End the clean interval; a swap more than 100 ms ahead falls, and the twin is told. -/
def State.endClean (s : State) : State :=
  let a := ((s.set F.PAIR_STAT.CLEAN 0).set F.PAIR_WTR.LEFT 0).updPair (fun p => { p with wtrFrom := none })
  match s.pair.swap with
  | some (n, _) => if s.role = 2 ∧ s.dnow.getD 0 + fracPerSec / 10 < n * fracPerSec then (a.cancelSwap).ackNow 2 else a
  | none => a

/-- Review CLEAN (R473) and the countdown of the home unit (R474). -/
def State.reviewClean (s : State) : State :=
  if !s.cleanNow then (if s.bit F.PAIR_STAT.CLEAN then s.endClean else s)
  else
    let a := if s.bit F.PAIR_STAT.CLEAN then s else
      (s.set F.PAIR_STAT.CLEAN 1).updPair (fun p => { p with wtrFrom := if s.bit F.PAIR_STAT.HOME then some s.raw else none })
    a.set F.PAIR_WTR.LEFT a.wtrLeft

/-- Show U_PAIR (R476). -/
def State.showUPair (s : State) : State := s.set F.PAIR_UPAIR.UPAIR s.uPair

/-! Exchanges (R467, R469, R470). -/

/-- Take part in an exchange under a VID: check oneself and send the verdict. -/
def State.giveVerdict (s : State) (vid : Nat) : State :=
  let a := s.selfCheck
  let v := a.get F.PAIR_STAT.VERD
  (a.updPair (fun p => { p with exch := some (vid, v), vid := max p.vid vid })).sendRecord 0x21 (leBytes 1 v ++ leBytes 3 0 ++ leBytes 4 vid)

/-- Open an exchange with a cause: 1 phase, 2 digest, 3 periodic in DISPUTE. One that is open goes on. -/
def State.openExchange (s : State) (cause : Nat) : State :=
  if s.pair.exch.isSome then s
  else
    let vid := (s.pair.vid + 1) % 2 ^ 32
    (s.sendRecord 0x20 (leBytes 1 cause ++ leBytes 3 0 ++ leBytes 4 vid)).giveVerdict vid

/-- How a verdict ranks: PASS above NONE above FAIL. -/
def verdRank (v : Nat) : Nat := if v = 1 then 2 else if v = 0 then 1 else 0

/-- Refresh what depends on the role: the outputs' drives (R81, R471) and the shown U_PAIR. -/
def State.roleChanged (s : State) : State := ((List.range 12).foldl State.showOut s).showUPair

/-- The standby enters JOIN (R464): its own SRV0 runs on its own references until SYNC. -/
def State.joinPair (s : State) : State :=
  let a := s.cancelSwap.updPair (fun p => { p with phase := 0, exch := none, results := [], used := [], retry := false, keys := [] })
  ((a.sets [(F.PAIR_STAT.ROLE, 2), (F.PAIR_STAT.STATE, 4), (F.PAIR_STAT.ARMED, 0)]).endClean.evalSelection).roleChanged

/-- SRV0 takes the committed rate in force as its integrator and rate (R471, R475). -/
def State.srvFromCommitted (s : State) : State :=
  s.updSrv 0 (fun v => { v with i := s.hrt.cur.rate, r := s.hrt.cur.rate, chan := none })

/-- SRV1 starts at the committed rate less SRV0's (R464, R475). -/
def State.startSrv1 (s : State) : State :=
  let d : Rat := s.hrt.cur.rate - (s.sv 0).r
  s.updSrv 1 (fun v => { v with i := d, r := d })

/-- From journal to own selection (R471): no step, and a carry from `u` opens (R262, R472). -/
def State.ownSelection (s : State) (u : Nat) : State :=
  let a := { s with sel := { s.sel with phi := 0, phiFor := none } }.srvFromCommitted.evalSelection
  let b := if a.bound.carry.isSome then a else match a.sel.sel with
    | some c => a.carryFor c u
    | none => a.openCarry u none (a.firstSy0 (a.get F.OSC_STAT.HSET)) (a.get F.OSC_STAT.HSET)
  { b with bound := { b.bound with traced := b.bound.traced || u != unbounded, carry := b.bound.carry.map (fun k => { k with u0 := u }) } }

/-- Every MASTER port's next Announce goes out at once (R419, R471). -/
def State.announceNow (s : State) : State :=
  (List.range 4).foldl (fun t n => if t.get (F.PTP_PSTAT.STATE n) = 6 then
    { t with ptp := { t.ptp with anns := modAt t.ptp.anns n (fun q => { q with next := t.raw }) } } else t) s

/-- R471, R472: the standby takes control. -/
def State.takeover (s : State) : State :=
  let u := s.errbAt s.raw
  let a := s.cancelSwap.updPair (fun p => { p with exch := none, results := [], used := [], retry := false, select := [], leap := [], param := [] })
  let b := ((a.sets [(F.PAIR_STAT.ROLE, 1), (F.PAIR_STAT.STATE, 2), (F.PAIR_STAT.ARMED, 0)]).endClean).ownSelection u
  ((b.sendRecord 0x24 (bytesOf [1, 0, 0, 0, 0, 0, 0, 0])).roleChanged.announceNow).pairFlag F.PAIR_STAT.TAKEOVER

/-- R469, R471: the active yields: it releases its tied outputs, takes the standby role and enters JOIN. -/
def State.yieldPair (s : State) : State := s.joinPair.announceNow.pairFlag F.PAIR_STAT.YIELD

/-- DISPUTE begins (R470). -/
def State.enterDispute (s : State) : State :=
  if s.pairState ≠ 5 then s
  else
    let x := match s.pair.x with | some x => absR x.1 | none => 0
    let a := (s.endClean.updPair (fun p => { p with dispMax := x, dispGood := 0 })).set F.PAIR_STAT.STATE 6
    ((a.setSat F.PAIR_XMAX.XMAX (roundAway x).toNat).showUPair).pairFlag F.PAIR_STAT.DISPEV

/-- R469: settle an exchange of both verdicts. -/
def State.settleVerdicts (s : State) (own twin : Nat) : State :=
  let a := s.updPair (fun p => { p with exch := none })
  let o := verdRank own
  let t := verdRank twin
  if s.role = 1 then (if o < t then a.yieldPair else if o = t then a.enterDispute else a)
  else if s.role = 2 then (if t < o then a.takeover else if o < t then a.joinPair.pairFlag F.PAIR_STAT.YIELD else a.enterDispute)
  else a

/-- R467: a mismatch while ARMED; in DISPUTE it opens no exchange. -/
def State.mismatch (s : State) (cause : Nat) : State :=
  if !s.bit F.PAIR_STAT.ARMED then s
  else
    let a := (s.pairFlag F.PAIR_STAT.MISMATCH).endClean
    if s.pairState = 6 then a else a.cancelSwap.openExchange cause

/-! The comparison (R466, R467, R470). -/

/-- The standby asks for a snapshot (R464): an ACK whose NEED no store of the active holds. -/
def State.askSync (s : State) : State :=
  let a := s.updPair (fun p => { p with phase := 1 })
  a.sendAck ((a.pair.next.getD 0 + 2 ^ 31) % 2 ^ 32) 0

/-- R464, ALIGN: the standby leaves it when its SRV0 is LOCKED, x is inside both bounds and the recipes agree. -/
def State.reviewJoin (s : State) : State :=
  let lim := errbSum [s.selfB, s.get F.PAIR_TWINB.B]
  match s.pair.x with
  | some x =>
    if s.role = 2 ∧ s.pairState = 4 ∧ s.pair.phase = 0 ∧ s.srvState = 2 ∧ s.bit F.PAIR_STAT.RCPDIFF = false ∧ s.pair.any ∧
      lim ≠ unbounded ∧ absR x.1 ≤ lim then s.askSync else s
  | none => s

/-- DISPUTE's largest x, and its end after 60 good comparisons (R470). -/
def State.reviewDispute (s : State) (x : Rat) : State :=
  if s.pairState ≠ 6 then s
  else
    let good := decide (absR x ≤ (s.get F.PAIR_THR.THR : Rat))
    let a := s.updPair (fun p => { p with dispMax := max p.dispMax (absR x), dispGood := if good then p.dispGood + 1 else 0 })
    let b := a.setSat F.PAIR_XMAX.XMAX (roundAway a.pair.dispMax).toNat
    if 60 ≤ b.pair.dispGood then
      (b.sets [(F.PAIR_STAT.STATE, 5), (F.PAIR_XMAX.XMAX, 0)]).updPair (fun p => { p with dispMax := 0, dispGood := 0, exch := none }) else b

/-- An x has been formed from m of both units, in sixteenths of a crumb (R466). -/
def State.newX (s : State) (own twin : Int) (stamp : Nat) : State :=
  let x : Rat := ((twin - own : Int) : Rat) * 25 / 256
  let a := s.updPair (fun p => { p with xPrev := p.x.map (·.1), x := some (x, s.raw) })
  let b := (a.setISat F.PAIR_X.X (roundAway x)).setI F.PAIR_DLY.D (roundAway (((twin + own : Int) : Rat) / 32))
  let c := match b.channelOfKind 7 with
    | some c => if b.bit (F.REF_STAT.PRESENT c) then ((b.deliver c x stamp false).set (F.REF_STAT.LABELLED c) 1).gainActivity c else b
    | none => b
  let d : State := c.reviewDispute x
  let thr : Rat := d.get F.PAIR_THR.THR
  let e := if d.pairState = 5 ∧ absR x * 2 ≤ thr then d.set F.PAIR_STAT.ARMED 1 else d
  let f := if thr < absR x then e.mismatch 1 else e
  f.reviewJoin.reviewClean.showUPair

/-- Form x where both units' m of one second are held. -/
def State.tryX (s : State) : State :=
  match s.pair.mOwn, s.pair.mTwin with
  | some (n, own, stamp), some (k, twin) =>
    if n = k then (s.updPair (fun p => { p with mOwn := none, mTwin := none })).newX own twin stamp else s
  | _, _ => s

/-- R155: the twin channel is present with both lanes in block lock and a PPI edge within 1.5 s. -/
def State.reviewTwin (s : State) : State :=
  match s.channelOfKind 7 with
  | none => s
  | some c =>
    let here := s.paired && s.pair.both && (match s.pair.ppiAt with | some t => decide (s.raw ≤ t + 937500000) | none => false)
    if here then s.gainPresence c else s.losePresence c

/-! Roles from SEEK (R455 to R457). -/

/-- Which unit is home (R456). -/
def State.isHome (s : State) : Bool :=
  if s.pair.conflict then s.pair.hello && decide (Config.serial < s.get F.PAIR_TWINID.MODULE) else s.bit F.GLB_STRAP.HOME

/-- Whether the home unit can be told. -/
def State.homeKnown (s : State) : Bool := !s.pair.conflict || s.pair.hello

/-- Take the active role in a state: 2 SOLO, 3 PART. -/
def State.becomeActive (s : State) (st : Nat) : State :=
  ((s.sets [(F.PAIR_STAT.ROLE, 1), (F.PAIR_STAT.STATE, st)]).updPair (fun p => { p with waitFrom := none })).roleChanged.announceNow

/-- Take the standby role in PART. -/
def State.standbyPart (s : State) : State :=
  ((s.sets [(F.PAIR_STAT.ROLE, 2), (F.PAIR_STAT.STATE, 3), (F.PAIR_STAT.ARMED, 0)]).updPair (fun p => { p with waitFrom := none, exch := none })).endClean.roleChanged

/-- Return to SEEK (R457). -/
def State.backToSeek (s : State) : State :=
  ((s.sets [(F.PAIR_STAT.ROLE, 0), (F.PAIR_STAT.STATE, 1)]).updPair (fun p => { p with waitFrom := none, seekAt := s.raw, seenActive := 0, seenIdle := 0 })).roleChanged

/-- R455: the first row of the table that applies. -/
def State.seek (s : State) (twinAlert : Bool) : State :=
  let p := s.pair
  let silent := decide (max s.pair.seekAt (p.ppiAt.getD 0) + 937500000 ≤ s.raw)
  if p.both && p.hello && p.twinRole == 1 then s.joinPair
  else if p.both && p.hello && p.twinState == 1 then (if s.isHome then s.becomeActive 2 else s.joinPair)
  else if p.any then s
  else if twinAlert || silent then s.becomeActive 2
  else if 0 < p.seenActive then s.standbyPart
  else if 2 ≤ p.seenIdle then
    (if !s.homeKnown then (if p.waitFrom.isNone then s.updPair (fun q => { q with waitFrom := some s.raw }) else s)
     else if s.isHome then s.becomeActive 3 else s.standbyPart)
  else s

/-! Swaps (R474, R475). -/

/-- The first disciplined second at least 1 s ahead. -/
def State.swapSecond (s : State) : Nat := (s.dnow.getD 0 + 2 * fracPerSec - 1) / fracPerSec

/-- The active schedules a swap and names N. -/
def State.scheduleSwap (s : State) : State :=
  if s.pair.swap.isSome then s
  else
    let n := s.swapSecond
    (s.updPair (fun p => { p with swap := some (n, false) })).sendRecord 0x22 (leBytes 8 n)

/-- A swap is asked for in this unit (R474): the active schedules it; a CLEAN standby asks the active by a SWAP of its own. -/
def State.askSwap (s : State) : State :=
  if s.role = 1 ∧ s.pairState = 5 then s.scheduleSwap
  else if s.role = 2 ∧ s.bit F.PAIR_STAT.CLEAN then s.sendRecord 0x22 (leBytes 8 s.swapSecond)
  else (s.set F.PAIR_CTRL.SWAP 0).pairFlag F.PAIR_STAT.SWAPFAIL

/-- PAIR_CTRL.SWAP with its key. -/
def State.requestSwap (s : State) : State :=
  if s.bit F.PAIR_CTRL.SWAP then s else (s.set F.PAIR_CTRL.SWAP 1).askSwap

/-- R475: the roles change at N; the new active sends SRVSTATE. -/
def State.swapRoles (s : State) : State :=
  let a := (s.updPair (fun p => { p with swap := none, exch := none })).set F.PAIR_CTRL.SWAP 0
  let b := if s.role = 1 then
      let c := a.updPair (fun p => { p with swapState := true, results := [], used := [], rates := pairLog a.hrt.history, select := a.selectPayload, leap := a.leapPayload })
      (c.set F.PAIR_STAT.ROLE 2).endClean
    else
      let u := s.errbAt s.raw
      let c := ((a.endClean.set F.PAIR_STAT.ROLE 1).updPair (fun p => { p with results := [], used := [], retry := false, select := [], leap := [], param := [] })).ownSelection (if u = unbounded then u else u - min u s.uPair)
      ((c.sendRecord 0x24 (bytesOf [2, 0, 0, 0, 0, 0, 0, 0])).sendRecord 0x16 c.srvStatePayload).journalChanges
  b.roleChanged.announceNow.pairFlag F.PAIR_STAT.SWAPPED

/-! The snapshot (R464). -/

/-- The last 16 results of the selected channel as RESULT records, oldest first, referred to the pair in force. -/
def State.snapResults (s : State) : List (Nat × List Byte) :=
  match s.sel.sel with
  | none => []
  | some c => ((((s.rf c).results.filter (fun r => r.freq == freqOnly (s.kind c))).take 16).reverse).map (fun r =>
      (0x10, resultPayload c r.freq (if r.freq then r.value else s.refer r.value r.stamp) (r.stamp / 512) s.hrt.cur.gen 1 0))

/-- The records between SNAP begin and SNAP end. -/
def State.snapRecords (s : State) : List (Nat × List Byte) :=
  [(0x15, s.paramPayload), (0x16, s.srvStatePayload), (0x12, s.selectPayload), (0x13, s.leapPayload)] ++
    ((List.range 4).filter (fun p => (s.npos p).state != 0)).map (fun p => (0x19, ntsKeyPayload p (s.npos p).state (s.npos p).gen ((s.npos p).since * fracPerSec))) ++
    s.ptp.grants.map (fun e => (0x18, leBytes 2 e.1 ++ leBytes 2 0 ++ e.2.bytes)) ++ s.snapResults

/-- Send a snapshot (R464). -/
def State.sendSnapshot (s : State) : State :=
  let l := s.snapRecords
  let q := leBytes 4 (s.pair.seq + l.length + 2)
  let a := s.sendRecord 0x1A (q ++ bytesOf [0, 0, 0, 0])
  let b := l.foldl (fun t r => t.sendRecord r.1 r.2) a
  (b.sendRecord 0x1A (q ++ bytesOf [1, 0, 0, 0])).updPair (fun p => { p with grants := s.ptp.grants.length, select := s.selectPayload, leap := s.leapPayload, param := s.paramPayload })

/-- SNAP at the standby: begin clears what the snapshot loads; end enters INSTEP, or stays in DISPUTE (R464, R470). -/
def State.applySnap (s : State) (b : List Byte) : State :=
  if s.role ≠ 2 then s
  else if beAt b 4 1 = 0 then
    { s with ptp := { s.ptp with grants := [] } }.showGrants.updPair (fun p => { p with phase := 2, results := [], used := [], grants := 0, keys := [] })
  else if s.pair.phase ≠ 2 then s
  else
    let r := roundAway (s.sv 0).r
    let a := (s.updPair (fun p => { p with phase := 0, used := p.results.reverse, results := [], rates := [(0, r, 0)] })).startSrv1
    let c := if s.pairState = 6 then a else (a.set F.PAIR_STAT.STATE 5).pairFlag F.PAIR_STAT.JOINED
    c.showUPair

/-! In-step replay (R462, R463). -/

/-- SEL and φ of the SELECT payload in force. -/
def PairSt.selCh (p : PairSt) : Nat := leAt p.select 0 1
def PairSt.selPhi (p : PairSt) : Rat := (toSigned 64 (leAt p.select 4 8) : Rat) / 65536

/-- A proposal that was not taken is made again after the pending pair commits (R462). -/
def State.noteRetry (s : State) : State := s.updPair (fun p => { p with retry := s.get F.HRT_DP_STAT.RESULT != 1 })

/-- One SRV0 update in step (R462). -/
def State.applyUpdateRecord (s : State) (b : List Byte) : State :=
  if !s.inStep then s
  else
    let commit := leAt b 8 8
    let mode := leAt b 16 1
    let st := leAt b 17 1
    let nres := leAt b 18 2
    let rate := toSigned 64 (leAt b 20 8)
    if toSigned 64 (leAt b 28 8) ≠ 0 then s.joinPair
    else
      let rs := s.pair.results.take nres
      let same := s.pair.used.filter (fun q => rs.all (fun r => r.ch == q.ch))
      let all := rs.reverse ++ same
      let a := s.updPair (fun p => { p with results := p.results.drop nres, used := all.take 16 })
      let v := s.sv 0
      let c := if mode = 1 then
          let w := (a.updSrv 0 (fun v => { v with r := rate })).setI (F.HRT_SRV_OUT.RATE 0) rate
          (w.proposeSrv rate 0).noteRetry
        else match rs with
          | [] => a
          | r :: _ =>
            if r.freq then
              let rt := meanR (rs.map (·.value)) * 1000000000000000
              let o := endUpdate v.i v.r (s.fstep 0) v.i (v.r + s.kp 0 * (rt - v.r))
              let ok := decide (absR (rt - v.r) < 10000)
              let w := (a.updSrv 0 (fun v => { v with r := o.1, i := o.2.1, run := if ok then v.run + 1 else 0, yhat := 0 })).showUpdate 0 r.ch none o.1 o.2.2
              (w.proposeSrv o.1 0).noteRetry
            else
              let y := slopeOf (all.map (fun q => (q.value, q.stamp * 512))) s.pair.rates
              let e := q16 (meanR (rs.map (fun q => q.value + y * ((commit : Rat) - q.stamp) * 1600)))
              let ec := e - s.pair.selPhi
              ((a.lawUpdate r.ch e ec y).updSrv 0 (fun w => { w with lastE := e, lastEc := ec, yhat := y })).noteRetry
      let d := c.updPair (fun p => { p with rates := ((commit, roundAway (c.sv 0).r, 0) :: p.rates).take 16 })
      (d.updSrv 0 (fun v => { v with lastTick := s.raw, lastResult := if nres = 0 then v.lastResult else s.raw })).setSrvState st

/-- RESULT: a result held for replay. -/
def State.applyResult (s : State) (b : List Byte) : State :=
  if s.role ≠ 2 then s
  else
    let fr := leAt b 1 1 == 4
    let n := toSigned 64 (leAt b 4 8)
    let r : JResult := { ch := leAt b 0 1, freq := fr, value := if fr then (n : Rat) / 1000000000000000000 else (n : Rat) / 65536, stamp := leAt b 12 8 }
    s.updPair (fun p => { p with results := p.results ++ [r] })

/-- SELECT. -/
def State.applySelect (s : State) (b : List Byte) : State :=
  if s.role ≠ 2 then s
  else
    let a := s.updPair (fun p => { p with select := b })
    if a.inStep || a.pair.phase == 2 then a.setSrvState (leAt b 1 1) else a

/-- LEAP (R463). -/
def State.applyLeap (s : State) (b : List Byte) : State :=
  if s.role ≠ 2 then s
  else
    let a := s.updPair (fun p => { p with leap := b })
    if a.inStep || a.pair.phase == 2 then
      a.sets [(F.HRT_UTC.OFFSET, leAt b 0 2), (F.HRT_UTC.VALID, bitsOf (leAt b 2 1) 0 1), (F.HRT_UTC.LEAPPEND, bitsOf (leAt b 2 1) 1 1),
        (F.HRT_UTC.DIR, bitsOf (leAt b 2 1) 2 1), (F.HRT_UTC.SRC, leAt b 3 1), (F.HRT_LEAP.SEC, leAt b 4 8), (F.HRT_UTCPREV.SEC, leAt b 12 8),
        (F.HRT_UTCPREV_HI.PREV, leAt b 20 2)]
    else a

/-- PARAM (R462): the registers of SRV0's parameters read the journaled values. -/
def State.applyParam (s : State) (b : List Byte) : State :=
  if s.inStep || (s.role == 2 && s.pair.phase == 2) then
    s.sets [(F.HRT_SRV_KP.KP 0, leAt b 0 4), (F.HRT_SRV_KI.KI 0, leAt b 4 4), (F.HRT_SRV_FSTEP.FSTEP 0, leAt b 8 4), (F.HRT_SRV_LEAD.LEAD, leAt b 12 4),
      (F.HRT_SRV_LIM.STEPLIM, leAt b 16 2), (F.HRT_SRV_LIM.LOCKLIM, leAt b 18 2), (F.REF_SWSLEW.SLEW, leAt b 20 4), (F.REF_HAVG.SEC, leAt b 24 4)]
  else s

/-- SRVSTATE (R464, R475). -/
def State.applySrvState (s : State) (b : List Byte) : State :=
  if s.role = 2 ∧ (s.pair.phase = 2 ∨ s.pair.swapState) then
    let q := fun (o : Nat) => (toSigned 64 (leAt b o 8) : Rat)
    let a := (s.updSrv 0 (fun v => { v with i := q 0 / 65536, r := q 8, lastE := q 16 / 65536, yhat := q 24 / 65536 / 1000000000000000, phaseState := leAt b 33 1 == 1, run := leAt b 34 2 })).setSrvState (leAt b 32 1)
    if s.pair.swapState then (a.updPair (fun p => { p with swapState := false })).startSrv1 else a
  else s

/-- A grant entry read from its 64 bytes (R406); none where it is not VALID. -/
def grantOf (b : List Byte) : Option Grant :=
  let fl := leAt b 0 1
  if fl.testBit 0 then
    some { auth := fl.testBit 1, transport := bitsOf fl 2 2, port := leAt b 1 1, mtype := leAt b 2 1, logint := toSigned 8 (leAt b 3 1), duration := leAt b 4 4,
           expiry := leAt b 8 8, next := leAt b 16 8, seqid := leAt b 24 2, tokens := leAt b 26 2, client := sliceB b 28 10, spp := leAt b 38 1, domain := leAt b 39 1,
           addr := sliceB b 40 16, vlan := leAt b 56 2 }
  else none

/-- GRANT (R463). -/
def State.applyGrant (s : State) (b : List Byte) : State :=
  if s.inStep || (s.role == 2 && s.pair.phase == 2) then
    (s.putGrant (leAt b 0 2) (grantOf (b.drop 4))).updPair (fun p => { p with grants := p.grants + 1 })
  else s

/-- NTSKEY (R463): the position's slots are derived for a new generation, and its state changes when the DTIME carried comes. -/
def State.applyNtsKey (s : State) (b : List Byte) : State :=
  if s.inStep || (s.role == 2 && s.pair.phase == 2) then
    let p := leAt b 0 1 % 4
    let st := leAt b 1 1
    let gen := leAt b 4 4
    let d := (leAt b 8 8 * 1000000000 + leAt b 16 4) * 65536
    let old := s.npos p
    let a := if st ≠ 0 ∧ s.posUsable p ∧ (old.state = 0 ∨ old.gen ≠ gen) then
        s.enqueue { by_ := 9, code := 8, slot := s.get (F.NTS_KPOS.ENCSLOT p), wslot := s.get (F.NTS_KPOS.DECSLOT p), ctx := posCtx p gen, pos := p, gen := gen } else s
    (a.updPair (fun q => { q with keys := q.keys ++ [(p, st, gen, d)] })).applyKeys
  else s

/-- The digest of R462: SRV0's state, the SELECT and LEAP payloads in force, the count of GRANT records. -/
def State.digest (s : State) : List Byte :=
  sliceB (Config.sha256 (s.srvStatePayload ++ s.pair.select ++ s.pair.leap ++ leBytes 4 s.pair.grants)) 0 8

/-- DIGEST at the standby: it is compared once ASEQ, the record before it, is applied (R462, R467, R470). -/
def State.applyDigest (s : State) (b : List Byte) : State :=
  if !s.inStep || s.digest == sliceB b 4 8 then s
  else
    let a := (s.bumpSat F.PAIR_JERR.DIGERR).mismatch 2
    if s.pairState = 6 then (a.updPair (fun p => { p with dispGood := 0 })).askSync else a

/-! HELLO, HEALTH, keys. -/

/-- Send bytes as KEYX records of a kind (R460). -/
def State.sendKeyx (s : State) (kind : Nat) (b : List Byte) : State :=
  let n := (b.length + 235) / 236
  (List.range n).foldl (fun t i => t.sendRecord 0x25 (leBytes 1 kind ++ leBytes 1 i ++ leBytes 1 n ++ [0] ++ (b.drop (236 * i)).take 236)) s

/-- R465: while the CHECKs differ, each unit sends its identity certificate, once for each pair of CHECKs. -/
def State.reviewKeys (s : State) : State :=
  let c := s.pairCheck
  if s.pair.twinCheck = c then (if s.pair.rekey.isSome then s.updPair (fun p => { p with rekey := none }) else s)
  else if s.pair.rekey = some (c, s.pair.twinCheck) ∨ (s.slot (s.get F.PAIR_KEY.PSLOT)).use ≠ 3 then s
  else (s.updPair (fun p => { p with rekey := some (c, p.twinCheck), cert := [] })).sendKeyx 1 (s.flashRead 0x4020000 304)

/-- KEYX (R465): a whole certificate starts AGREE; a whole blob starts the standby's IMPORT with TREE. -/
def State.applyKeyx (s : State) (b : List Byte) : State :=
  let kind := leAt b 0 1
  let n := leAt b 2 1
  let l := insertAt (kind * 256 + leAt b 1 1) (b.drop 4) s.pair.cert
  let parts := (List.range n).filterMap (fun i => lookup (kind * 256 + i) l)
  let a := s.updPair (fun p => { p with cert := l })
  if n = 0 ∨ parts.length ≠ n then a
  else
    let d := parts.flatten
    let e := a.updPair (fun p => { p with cert := p.cert.filter (fun q => q.1 / 256 != kind) })
    if kind = 1 then (e.enqueue { by_ := 10, code := 5, slot := s.get F.PAIR_KEY.WSLOT, ctx := bytesOf [0x50, 0x41, 0x49, 0x52] ++ leBytes 8 0, data := d }).showQueue
    else if kind = 2 ∧ s.role = 2 then
      (e.enqueue { by_ := 10, code := 3, tree := true, slot := s.get F.PAIR_KEY.PSLOT, wslot := s.get F.PAIR_KEY.WSLOT, data := d }).showQueue
    else e

/-- RDIGEST of the running image (R460). -/
def State.rcpDigest (s : State) : List Byte := sliceB (Config.sha384 s.rcp.image) 0 8

/-- What a HELLO makes of the roles: the active follows the twin; a standby in PART joins an active twin again; of two active
units the one that is not home returns to SEEK. -/
def State.followTwin (s : State) : State :=
  let p := s.pair
  if s.role = 1 ∧ p.twinRole = 1 then (if s.isHome then s else s.backToSeek)
  else if s.role = 2 ∧ s.pairState = 3 ∧ p.twinRole = 1 ∧ p.both then s.joinPair
  else if s.role = 1 ∧ p.twinRole = 2 then
    if p.twinState = 5 ∧ s.pairState ≠ 5 ∧ s.pairState ≠ 6 then (s.set F.PAIR_STAT.STATE 5).pairFlag F.PAIR_STAT.JOINED
    else if p.twinState = 4 ∧ s.pairState ≠ 4 then
      ((s.sets [(F.PAIR_STAT.STATE, 4), (F.PAIR_STAT.ARMED, 0)]).updPair (fun q => { q with exch := none })).cancelSwap.showUPair
    else s
  else if s.role = 1 ∧ p.twinRole = 0 ∧ 4 ≤ s.pairState then
    ((s.sets [(F.PAIR_STAT.STATE, 2), (F.PAIR_STAT.ARMED, 0)]).updPair (fun q => { q with exch := none })).cancelSwap.showUPair
  else s

/-- HELLO (R455, R456, R464, R465). The twin channel's class is not among its fields (R155): a free value. -/
def State.applyHello (s : State) (b : List Byte) : State :=
  let home := leAt b 8 1 == 1
  let a := (s.sets [(F.PAIR_TWINID.MODULE, leAt b 0 8), (F.PAIR_STAT.TVERD, leAt b 11 1)]).updPair (fun p => { p with
    hello := true, twinHome := home, twinRole := leAt b 9 1, twinState := leAt b 10 1, twinRcp := sliceB b 12 8, twinCheck := leAt b 20 4, conflict := home == s.bit F.GLB_STRAP.HOME })
  let c := if a.pair.conflict then a.pairFlag F.PAIR_STAT.HOMECONF else a
  let d := c.setBit F.PAIR_STAT.HOME c.isHome
  let diff := d.pair.twinRcp != d.rcpDigest
  let e := d.setBit F.PAIR_STAT.RCPDIFF diff
  let f := if diff && e.inStep then e.joinPair else e
  let g := match f.channelOfKind 7 with | some c => (f.updRef c (fun r => { r with twinClass := f.freeVal % 16 })).useFree | none => f
  g.followTwin.reviewKeys.reviewClean

/-- HEALTH (R468): the twin's verdict, its bound, and U_kind of the twin channel (R161). -/
def State.applyHealth (s : State) (b : List Byte) : State :=
  let a := s.sets [(F.PAIR_STAT.TVERD, leAt b 0 1), (F.PAIR_TWINB.B, leAt b 8 4)]
  let c := match a.channelOfKind 7 with
    | some c => a.set (F.REF_UKIND.UKIND c) (errbSum [leAt b 8 4, leAt b 12 4])
    | none => a
  c.reviewJoin.showUPair

/-- SWAP (R475): the standby answers; the active takes a standby's SWAP as its request. -/
def State.applySwap (s : State) (b : List Byte) : State :=
  if s.role = 1 then (if s.pairState = 5 then s.scheduleSwap else s)
  else if s.role = 2 then
    (if s.bit F.PAIR_STAT.CLEAN then (s.updPair (fun p => { p with swap := some (leAt b 0 8, true) })).ackNow 1
     else (s.set F.PAIR_CTRL.SWAP 0).ackNow 2)
  else s

/-- Send again every stored record from a SEQ on, with RETX set (R461). -/
def State.retransmit (s : State) (need : Nat) : State :=
  let n := (s.pair.seq + 2 ^ 32 - need) % 2 ^ 32
  ((s.pair.store.take n).reverse).foldl (fun t e =>
    let b := putAt (e.2.take (e.2.length - 4)) 6 [1]
    t.onLane (b ++ leBytes 4 (crc32c b))) s

/-- ACK (R461, R464, R475): answers to a SWAP, retransmission, or a snapshot where NEED lies outside the store. -/
def State.applyAck (s : State) (b : List Byte) : State :=
  let need := leAt b 0 4
  let fl := leAt b 4 1
  let a := if s.role = 1 then
      (if fl.testBit 0 then s.updPair (fun p => { p with swap := p.swap.map (fun q => (q.1, true)) }) else if fl.testBit 1 then s.cancelSwap else s)
    else s
  let n := (a.pair.seq + 2 ^ 32 - need) % 2 ^ 32
  if n = 0 then a
  else if n ≤ a.pair.store.length then a.retransmit need
  else if a.role = 1 then a.sendSnapshot else a

/-- VREQ (R467, R475). -/
def State.applyVreq (s : State) (b : List Byte) : State :=
  let vid := leAt b 4 4
  if s.role = 0 then s
  else
    let a := s.cancelSwap
    match a.pair.exch with
    | some (v, _) => if v < vid then a.giveVerdict vid else a
    | none => a.giveVerdict vid

/-- VERDICT (R469). -/
def State.applyVerdict (s : State) (b : List Byte) : State :=
  let a := s.set F.PAIR_STAT.TVERD (leAt b 0 1)
  match a.pair.exch with
  | some (v, own) => if v = leAt b 4 4 then a.settleVerdicts own (leAt b 0 1) else a
  | none => a

/-- TAKE (R471): the receiver is standby from here on. -/
def State.applyTake (s : State) (b : List Byte) : State :=
  if s.role = 1 then (if leAt b 0 1 = 2 ∧ s.pair.swap.isSome then s.swapRoles else s.yieldPair) else s

/-! Receiving (R458 to R461). -/

/-- What a record does, in SEQ order. -/
def State.applyRecord (s : State) (type : Nat) (b : List Byte) : State :=
  let a := s.bump F.PAIR_JRX.RX
  match type with
  | 0x01 => a.applyHello b
  | 0x02 => (a.updPair (fun p => { p with mTwin := some (leAt b 0 8, toSigned 64 (leAt b 8 8)) })).tryX
  | 0x03 => a.applyHealth b
  | 0x04 => (a.updPair (fun p => { p with bound := some (leAt b 0 4, s.raw) })).showUPair
  | 0x10 => a.applyResult b
  | 0x11 => a.applyUpdateRecord b
  | 0x12 => a.applySelect b
  | 0x13 => a.applyLeap b
  | 0x14 => a.applyDigest b
  | 0x15 => a.applyParam b
  | 0x16 => a.applySrvState b
  | 0x18 => a.applyGrant b
  | 0x19 => a.applyNtsKey b
  | 0x1A => a.applySnap b
  | 0x20 => a.applyVreq b
  | 0x21 => a.applyVerdict b
  | 0x22 => a.applySwap b
  | 0x23 => a.applyAck b
  | 0x24 => a.applyTake b
  | 0x25 => a.applyKeyx b
  | _ => s

/-- Apply the records that came early, as far as they follow on; at most `fuel` of them. -/
def State.drainEarly (s : State) : Nat → State
  | 0 => s
  | k + 1 =>
    match s.pair.next, s.pair.early.find? (fun e => some e.1 == s.pair.next) with
    | some n, some (_, type, b) =>
      (((s.updPair (fun p => { p with next := some ((n + 1) % 2 ^ 32), early := p.early.filter (fun e => e.1 != n) })).applyRecord type b)).drainEarly k
    | _, _ => s

/-- A gap opens: it is acknowledged at once (R461). -/
def State.openGap (s : State) : State :=
  let a := s.updPair (fun p => { p with gapAt := some (p.gapAt.getD s.raw) })
  a.ackNow 0

/-- R459 to R461: a record arrives. One with a wrong CRC, length or type is discarded and counts as a gap; one out of order waits. -/
def State.receive (s : State) (type : Nat) (bytes : List Byte) : State :=
  if !s.paired || !s.pair.any then s
  else
    let len := leAt bytes 5 1
    let body := bytes.take (16 + len)
    if bytes.length ≠ len + 20 ∨ leAt bytes 4 1 ≠ type ∨ leAt bytes (16 + len) 4 ≠ crc32c body then s.openGap
    else
      let seq := leAt bytes 0 4
      let next := s.pair.next.getD seq
      let ahead := (seq + 2 ^ 32 - next) % 2 ^ 32
      let b := body.drop 16
      if ahead = 0 then
        let a := (s.updPair (fun p => { p with next := some ((seq + 1) % 2 ^ 32) })).applyRecord type b
        let c := a.drainEarly a.pair.early.length
        if c.pair.early.isEmpty then c.updPair (fun p => { p with gapAt := none }) else c
      else if ahead < 2 ^ 31 then (s.updPair (fun p => { p with early := p.early.filter (fun e => e.1 != seq) ++ [(seq, type, b)] })).openGap
      else s

/-- R461: a gap that is not filled: JGAP, the standby returns to JOIN, and the stream goes on after it. -/
def State.gapLost (s : State) : State :=
  let nx := s.pair.early.foldl (fun (m : Option Nat) e => match m with
    | none => some e.1
    | some k => if (e.1 + 2 ^ 32 - s.pair.next.getD 0) % 2 ^ 32 < (k + 2 ^ 32 - s.pair.next.getD 0) % 2 ^ 32 then some e.1 else some k) none
  let a := (s.updPair (fun p => { p with gapAt := none, next := nx })).pairFlag F.PAIR_STAT.JGAP
  let b := if a.role = 2 ∧ 4 ≤ a.pairState then a.joinPair else a
  b.drainEarly b.pair.early.length

end Sys2Proof.Machine
end

