-- ==== Sys2Proof/Machine/TbOps.lean ====
section
/-! DEFINITION. The time bus (spec/01_architecture.md, R41 to R55): tokens, the breakdown record formed with each, arrivals at an
island, and the calibration of a route. -/

namespace Sys2Proof.Machine

/-- Change an island. -/
def State.updIsle (s : State) (n : Nat) (f : Route → Route) : State := { s with tb := { s.tb with routes := modAt s.tb.routes n f } }

/-- Routes that are enabled, in order. -/
def State.enRoutes (s : State) : List Nat := (List.range 14).filter (fun n => decide (1 ≤ n) && s.bit (F.HRT_TB_ROUTE.EN n))

/-- The domain whose island a route serves (R36, R507). -/
def routeDom (n : Nat) : Nat :=
  if n ≤ 4 then n + 5 else if n = 5 then 6 else if n ≤ 9 then n - 5 else if n = 10 then 5 else if n = 11 then 12 else if n = 12 then 10 else 11

/-- The routes of a domain's islands. -/
def domRoutes (d : Nat) : List Nat := (List.range 14).filter (fun n => decide (1 ≤ n) && routeDom n == d)

/-- Whether a domain has lost or not yet regained its rail: in S2 or S3 (R55). -/
def State.domLost (s : State) (d : Nat) : Bool := decide (2 ≤ s.get (F.PWR_DOM_STAT.STATE d))

/-! Tokens. -/

/-- The base token of R42. -/
def baseToken (tick errb gen flags : Nat) : List Byte :=
  let b := leBytes 8 tick ++ leBytes 4 errb ++ leBytes 1 gen ++ leBytes 1 flags
  b ++ leBytes 2 (crc16 b)

/-- The pair block of R43. -/
def pairBlock (p : Pair) : List Byte :=
  let b := leBytes 1 p.gen ++ leBytes 6 (ofSigned 48 p.rate) ++ leBytes 8 p.anchor ++ dtimeBytes p.offset ++ leBytes 8 p.commit
  b ++ leBytes 2 (crc16 b) ++ [0]

/-- The pair that a token launched at this tick carries, and whether it is pending (R44). -/
def State.tokenPair (s : State) : Option (Pair × Bool) :=
  match s.hrt.pend with
  | some (p, _) => some (p, true)
  | none => if s.raw / 625 % 16 = 0 then some (s.hrt.cur, false) else none

/-- The bound of a token launched at this tick (R46): the largest of the next 1,250 ticks, over which a bound grows or stays. -/
def State.tokenBound (s : State) : Nat := max (s.errbAt s.raw) (s.errbAt (s.raw + 1250))

/-- The token of this tick. -/
def State.tokenBytes (s : State) (errb : Nat) : List Byte :=
  let hold := if s.srvState = 3 then 4 else 0
  let leap := if s.bit F.HRT_UTC.LEAPPEND then 8 else 0
  match s.tokenPair with
  | some (p, pend) => baseToken s.raw errb s.hrt.cur.gen (1 + (if pend then 2 else 0) + hold + leap) ++ pairBlock p
  | none => baseToken s.raw errb s.hrt.cur.gen (hold + leap)

/-- The flags of the breakdown record (R269). -/
def State.recordFlags (s : State) : Nat :=
  let b := fun (i : Nat) (c : Bool) => if c then 2 ^ i else 0
  let fo := match s.sel.sel with | some c => freqOnly (s.kind c) | none => false
  let soft := match s.sel.sel with | some c => s.bit (F.REF_QSTAT.SOFT c) | none => false
  b 0 (s.bit F.REF_SELSTAT.CARRIED) + b 1 (s.srvState == 3) + b 2 fo + b 3 (s.bit F.REF_SELSTAT.DISAGREE) + b 4 soft +
    b 5 (s.bit F.OSC_STAT.LOAD_UNTRAINED) + b 6 (s.pairState == 6) + b 7 (s.bit F.OSC_STAT.PROOFING) +
    b 8 (s.bit F.REF_SELSTAT.NOREF) + b 9 (s.bit F.OSC_STAT.HSET)

/-- The 96-byte breakdown record of a token (R269); in a standby it shows U_PAIR and the twin's bound in DIRECT (R477). -/
def State.breakdown (s : State) (errb : Nat) : List Byte :=
  let t := s.raw + 1250
  let w := fun (n : Nat) => leBytes 4 n
  let head := rawBytes (s.raw * 512) ++ w errb ++ leBytes 1 (s.sel.sel.getD 0xFF) ++ leBytes 1 s.srvState ++ leBytes 2 s.recordFlags
  let cause := if s.boundCause ≠ 0 then s.boundCause else if errb = unbounded then 4 else 0
  let tail := leBytes 1 cause ++ leBytes 3 0
  if s.role = 2 then
    head ++ (List.replicate 7 (w 0)).flatten ++ w (s.uPairAt t) ++ w ((s.pair.bound.map (·.1)).getD unbounded) ++ (List.replicate 7 (w 0)).flatten ++
      leBytes 8 0 ++ tail
  else
    let terms := s.bound.terms.flatMap w
    match s.bound.carry with
    | some k => head ++ terms ++ w s.direct ++ w k.u0 ++ (s.growth k t).flatMap w ++ w ((s.carriedAt t).getD unbounded) ++ leBytes 8 k.tc ++ tail
    | none => head ++ terms ++ w s.direct ++ (List.replicate 6 (w 0)).flatten ++ w unbounded ++ leBytes 8 0 ++ tail

/-- R271: a crossing of REF_EBTHR by the published bound. -/
def State.boundCross (s : State) (old new : Nat) : State :=
  let thr := s.get F.REF_EBTHR.THR
  if old ≤ thr ∧ thr < new then s.selFlag F.REF_SELSTAT.EBHI 0 new
  else if thr < old ∧ new ≤ thr then s.selFlag F.REF_SELSTAT.EBLO 0 new
  else s

/-- A token launch (R41 to R46, R267, R269). -/
def State.launchToken (s : State) : State :=
  let e := s.tokenBound
  let old := s.bound.tokenErrb
  let a := (s.set F.REF_ERRB.ERRB e).showUPair
  let b := ({ a with bound := { a.bound with tokenErrb := e, record := s.breakdown e } } : State).boundCross old e
  b.enRoutes.foldl (fun t n => t.emit (.token n (s.tokenBytes e))) b.reviewAcal

/-! Arrival. -/

/-- A pair block as a pair. -/
def pairOfBlock (b : List Byte) : Option Pair :=
  (dtimeOf (sliceB b 15 16)).map (fun d =>
    { gen := leAt b 0 1, rate := toSigned 48 (leAt b 1 6), anchor := leAt b 7 8, offset := d, commit := leAt b 31 8 })

/-- Whether a token's CRCs hold (R42, R43). -/
def tokenOk (b : List Byte) : Bool :=
  let base := sliceB b 0 16
  let blk := sliceB b 16 42
  let pb := (leAt b 13 1).testBit 0
  b.length == (if pb then 58 else 16) && leAt base 14 2 == crc16 (base.take 14) && (!pb || leAt blk 39 2 == crc16 (blk.take 39))

/-- What a good token tells an island of pairs: a block is held, a pending pair whose commit tick the token's tick has reached takes
force, and a pair that GEN_CUR shows to be in force but the island lacks is missing (R44, R50, R51). -/
def Route.takePair (r : Route) (tick gen flags : Nat) (blk : List Byte) : Route :=
  let a := if flags.testBit 0 then
      match pairOfBlock blk with
      | none => r
      | some p => if flags.testBit 1 then { r with pend := some p } else { r with cur := some p }
    else r
  let b := match a.pend with
    | some p => if p.commit ≤ tick then { a with cur := some p, pend := none } else a
    | none => a
  match b.cur with
  | none => { b with missing := true }
  | some c => if c.commit ≤ tick then { b with missing := c.gen != gen } else b

/-- A good token reaches an island at a Hearth edge (R46, R48): its bound, pair and flags apply; a replica that differs is reloaded, with
FAULT; a calibrated route that waits for its token becomes VALID. -/
def State.goodToken (s : State) (n edge : Nat) (b : List Byte) : State :=
  let i := s.isle n
  let tick := leAt b 0 8
  let flags := leAt b 13 1
  let a := s.updIsle n (fun r => { r.takePair tick (leAt b 12 1) flags (sliceB b 16 42) with
    lastTick := tick, errb := leAt b 8 4, lost := false, hold := flags.testBit 2, leap := flags.testBit 3 })
  if i.awaitLoad then
    (a.updIsle n (fun r => { r with repOff := (tick : Int) - edge, awaitLoad := false })).set (F.HRT_TB_ROUTE.VALID n) 1
  else if (edge : Int) + i.repOff = tick then a
  else (a.updIsle n (fun r => { r with repOff := (tick : Int) - edge })).flag (F.HRT_TB_ROUTE.FAULT n) 21 n i.lastTick

/-- A token reaches an island (R48, R49): one that fails a CRC is discarded. -/
def State.takeToken (s : State) (n edge : Nat) (b : List Byte) : State :=
  if !s.bit (F.HRT_TB_ROUTE.EN n) || s.domLost (routeDom n) then s
  else if !tokenOk b then s.bumpSat (F.HRT_TB_ROUTE.CRCERR n)
  else if s.bit (F.HRT_TB_ROUTE.VALID n) || (s.isle n).awaitLoad then s.goodToken n edge b
  else s

/-! Calibration. -/

/-- SKEW of a route in TBROUTE (R108). -/
def State.skew (s : State) (n : Nat) : Int := toSigned 16 (leAt (s.sec 0x60) (4 * (n - 1) + 2) 2)

/-- The applied latency of a route in crumbs. -/
def State.latency (s : State) (n : Nat) : Nat := s.get (F.HRT_TB_ROUTE.LT n) * 512 + s.get (F.HRT_TB_ROUTE.LC n)

/-- Apply a latency. -/
def State.setLatency (s : State) (n l : Nat) : State := s.sets [(F.HRT_TB_ROUTE.LT n, l / 512), (F.HRT_TB_ROUTE.LC n, l % 512)]

/-- R53: whether the round trips of a calibration (their sum and sum of squares in crumbs, of `m` markers) keep to its limits, with L. -/
def State.calLatency (s : State) (n m sum sumSq : Nat) : Option Nat :=
  let l : Int := roundAway ((sum : Rat) / (2 * m)) + s.skew n
  if 0 ≤ l ∧ l / 512 ≤ 32 ∧ m * sumSq ≤ sum * sum + 4 * m * m then some l.toNat else none

/-- Queue routes for calibration; the first in order is the one that runs (R52, R55). -/
def State.queueCal (s : State) (l : List Nat) : State :=
  let q := s.tb.calQ ++ l
  let a := { s with tb := { s.tb with calQ := q } }
  match q.head? with
  | some n => a.set (F.HRT_TB_ROUTE.CAL n) 1
  | none => a

/-- The calibration that runs ends, and the next begins. -/
def State.endCal (s : State) : State :=
  match s.tb.calQ with
  | [] => s
  | n :: rest => ({ s with tb := { s.tb with calQ := [] } }.set (F.HRT_TB_ROUTE.CAL n) 0).queueCal rest

/-- A calibration ended in its limits: L is applied, the filter starts at the mean, and the replica waits for a token. -/
def State.calGood (s : State) (n m sum l : Nat) : State :=
  ((s.endCal.setLatency n l).updIsle n (fun r => { r with filter := (sum : Rat) / m, nudge := 0, awaitLoad := true, cur := none, pend := none, missing := true, lost := true }))

/-- A calibration failed: the route has no valid replica (R53). -/
def State.calBadRoute (s : State) (n : Nat) : State := s.endCal.set (F.HRT_TB_ROUTE.VALID n) 0

/-- The replica of a route is lost (R55), and a calibration of it that waits or runs falls. -/
def State.loseReplica (s : State) (n : Nat) : State :=
  let q := s.tb.calQ.filter (· != n)
  let a := { s with tb := { s.tb with calQ := [] } }
  (((a.sets [(F.HRT_TB_ROUTE.VALID n, 0), (F.HRT_TB_ROUTE.CAL n, 0)]).updIsle n (fun _ => {})).queueCal q)

/-- R54: an in-service round trip: the filter, one crumb of correction at the next token, and FAULT on a deviation above 8 crumbs. -/
def State.roundTrip (s : State) (n rt : Nat) : State :=
  if !s.bit (F.HRT_TB_ROUTE.EN n) || !s.bit (F.HRT_TB_ROUTE.VALID n) || !s.tb.calQ.isEmpty || s.domLost (routeDom n) then s
  else
    let i := s.isle n
    let f : Rat := i.filter + ((rt : Rat) - i.filter) / 64
    let want : Int := roundAway (f / 2) + s.skew n
    let d := want - (s.latency n : Int)
    let a := s.updIsle n (fun r => { r with filter := f, nudge := if 1 ≤ d then 1 else if d ≤ -1 then -1 else 0 })
    if 8 < d.natAbs then a.flag (F.HRT_TB_ROUTE.FAULT n) 21 n i.lastTick else a

/-- The corrections of one crumb that take effect with a token (R54). -/
def State.applyNudges (s : State) : State :=
  s.enRoutes.foldl (fun t n =>
    let d := (t.isle n).nudge
    if d = 0 then t else (t.setLatency n ((t.latency n : Int) + d).toNat).updIsle n (fun r => { r with nudge := 0 })) s

end Sys2Proof.Machine
end

