-- ==== Sys2Proof/Machine/LoadOps.lean ====
section
/-! DEFINITION. The recipe applied to the blocks (R97 to R118, R123), the reset of a domain (R511, R140), and what a reload
must quiesce (R119, R120). -/

namespace Sys2Proof.Machine

/-! References, measurement, servos. -/

/-- Presence of a channel as its inputs show it now; the kinds not listed gain theirs by their own commands. -/
def State.sensed (s : State) (c : Nat) : Bool :=
  let k := s.kind c
  let src := s.get (F.REF_STAT.SOURCE c)
  if 2 ≤ k ∧ k ≤ 4 then s.bit (F.PNL_SENSE.PRES src)
  else if k = 5 then s.bit (F.PRT_STAT.LINK src)
  else if k = 8 then s.bit F.OSC_STAT.CELL_LOCK
  else false

/-- The nominal frequency that a kind loads (REF_NOMFREQ). -/
def nomLoad (k : Nat) : Nat :=
  if k = 2 then 0x10000 else if k = 3 ∨ k = 8 then 0x9896800000 else if k = 5 then 0x61A80000 else 0

/-- Load an entry of REFMAP (R99, R118); `fresh` tells an entry new to the channel, which then has no history. -/
def State.loadRef (s : State) (c : Nat) (fresh : Bool) : State :=
  let e := sliceB (s.sec 0x10) (8 * c) 8
  let k := byteAt e 0
  let en := (byteAt e 3).testBit 0 && !s.isHeld (0x100 + c)
  let a := s.sets [(F.REF_STAT.KIND c, k), (F.REF_STAT.SOURCE c, byteAt e 1), (F.REF_PRIO.PRIO c, byteAt e 2), (F.REF_UNC.UNC c, leAt e 4 4),
    (F.REF_NOMFREQ.FREQ c, nomLoad k), (F.REF_CFG.EN c, if en then 1 else 0)]
  if !fresh then (a.evalClass c).reviewOff c
  else
    let b := (a.sets [(F.REF_STAT.PRESENT c, 0), (F.REF_STAT.ACTIVITY c, 0), (F.REF_STAT.LABELLED c, 0), (F.REF_QSTAT.QSTATE c, 0)]).updRef c (fun _ => {})
    let d := (b.set (F.REF_UKIND.UKIND c) (b.ukindRest c)).evalClass c
    let f := if d.sensed c then d.gainPresence c else d
    f.reviewOff c

/-- Load an entry of TDCMAP (R100). -/
def State.loadTdc (s : State) (n : Nat) (fresh : Bool) : State :=
  let e := sliceB (s.sec 0x11) (4 * n) 4
  let use := byteAt e 0
  let k := s.kind (byteAt e 1)
  let mode := if use = 0 then 0 else if use = 1 then (if k = 1 ∨ k = 2 ∨ k = 4 then 2 else 3) else 1
  let pre := (byteAt e 2).testBit 1
  let a := s.sets [(F.TDC_CFG.MODE n, mode), (F.TDC_CFG.UNSIGNED n, bitsOf (byteAt e 2) 0 1), (F.TDC_CFG.PRESCALE n, if pre then 1 else 0),
    (F.TDC_CFG.PSK n, if pre then prescaleK (s.get (F.REF_NOMFREQ.FREQ (byteAt e 1))) - 1 else 0)]
  if fresh then a.updTdc n (fun _ => {}) else a

/-- Load SRVGAIN (R102). -/
def State.loadGains (s : State) : State :=
  (List.range 4).foldl (fun t n => t.sets [(F.HRT_SRV_KP.KP n, leAt (s.sec 0x21) (16 * n) 4), (F.HRT_SRV_KI.KI n, leAt (s.sec 0x21) (16 * n + 4) 4),
    (F.HRT_SRV_FSTEP.FSTEP n, leAt (s.sec 0x21) (16 * n + 8) 4)]) s

/-- Load the antenna feed of UINCFG (R101, R151). -/
def State.loadFeed (s : State) : State :=
  if byteAt (s.sec 0x12) 48 = 0 then s.sets [(F.REF_ANT.FEEDON, 0), (F.REF_ANT.SHORT, 0)]
  else if s.bit F.REF_ANT.SHORT then s else s.set F.REF_ANT.FEEDON 1

/-! Outputs of a running engine. -/

/-- Load an entry of OUTKIND into a running engine: a quiesced output stays disabled; another takes the recipe's values. -/
def State.reloadOut (s : State) (n : Nat) : State :=
  let e := sliceB (s.sec 0x31) (16 * n) 16
  let a := s.sets [(F.OUT_CFG.KIND n, byteAt e 0), (F.OUT_CFG.SYN n, byteAt e 1), (F.OUT_CFG.ELEC n, byteAt e 2), (F.OUT_CFG.TIE n, bitsOf (byteAt e 3) 0 1),
    (F.OUT_CFG.COMP n, bitsOf (byteAt e 3) 1 1), (F.OUT_DIV.DIV n, leAt e 4 4), (F.OUT_DELAY.DELAY n, leAt e 8 2), (F.OUT_PARAM.PARAM n, leAt e 12 4)]
  if s.isHeld (0x200 + n) then (a.updOut n (fun _ => {})).showOut n
  else
    let b := a.regrid n
    let en := (byteAt e 3).testBit 2
    if b.bit (F.OUT_CFG.EN n) = en then b else b.writeEn n en

/-- Load an entry of SYNPLAN into a running engine. -/
def State.reloadUnit (s : State) (u : Nat) : State :=
  let f := leAt (s.sec 0x30) (16 * u) 8
  let a := s.set (F.OUT_SYN_CTRL.RELOCK u) (byteAt (s.sec 0x30) (16 * u + 8))
  if a.unitFreq u = f then a.showUnit u else a.newFreq u f

/-! Ports, cluster, pair. -/

/-- Load an entry of SERDES into a port (R105); a quiesced port stays down. -/
def State.loadPort (s : State) (n : Nat) : State :=
  let e := sliceB (s.sec 0x40) (8 * n) 8
  let m := byteAt e 0
  let sy := bitsOf (byteAt e 2) 1 1
  ((s.sets [(F.PRT_STAT.MODE n, m), (F.PRT_STAT.FEC n, byteAt e 1), (F.PRT_STAT.PREEMPT n, bitsOf (byteAt e 2) 0 1), (F.PRT_STAT.SYNCE_TX n, sy),
    (F.PRT_CTRL.ADMIN n, if m ≠ 0 ∧ s.isHeld (0x300 + n) = false then 1 else 0), (F.PRT_ESMC.TXEN n, sy)]).showTxdis n).showUasym

/-- The transmit synthesiser runs while any port's MODE takes its reference from it (R302). -/
def State.loadSyt (s : State) : State :=
  let used := (List.range 4).any (fun n => s.get (F.PRT_STAT.MODE n) != 0 && s.bit (F.PRT_STAT.SYNCE_TX n))
  if used then (if s.unitState 4 = 0 then s.gatedRelock 4 else s) else s.set (unitStateFld 4) 0

/-- Load PIPE's entries for the engines of a quarter (R106). -/
def State.loadEngines (s : State) (q : Nat) : State :=
  (List.range 4).foldl (fun t i =>
    let k := 4 * q + i
    t.sets [(F.PKE_ENG.PIPE k, byteAt (s.sec 0x50) (4 + 4 * k)), (F.PKE_ENG.STAGE k, byteAt (s.sec 0x50) (5 + 4 * k)),
      (F.PKE_ENG.THREADS k, byteAt (s.sec 0x50) (6 + 4 * k))]) s

/-- The firmware loads the code of a quarter's used engines and they run (R344). -/
def State.runEngines (s : State) (q : Nat) : State :=
  (List.range 4).foldl (fun t i =>
    let k := 4 * q + i
    t.setBit (F.PKE_ENG.RUN k) (t.get (F.PKE_ENG.PIPE k) != 0xFF && !t.bit (F.PKE_ENG.FAULT k))) s

/-- The entries of a CLASS payload by index. -/
def classEntries (p : List Byte) : List (Nat × List Byte) := (List.range (leAt p 0 2)).map (fun i => (i, sliceB p (16 + 72 * i) 72))

/-- Load CLASS into a bank and put it in force (R107). -/
def State.loadClass (s : State) : State :=
  let p := s.sec 0x58
  ({ s with pke := { s.pke with bankA := classEntries p, bankB := [], swap := none } }).sets
    [(F.PKE_CLS_STAT.COUNT, leAt p 0 2), (F.PKE_CLS_STAT.BANK, 0), (F.PKE_CLS_STAT.DEFAULT, leAt p 4 2)]

/-- The domainNumber and majorSdoId that a profile loads (R400). -/
def profDomain (p : Nat) : Nat := if p = 1 then 24 else if p = 2 then 44 else 0
def profSdo (p : Nat) : Nat := if p = 3 then 1 else 0

/-- Load SVC (R113). -/
def State.loadSvc (s : State) : State :=
  let p := s.sec 0x90
  let prof := byteAt p 5
  s.sets [(F.APD_OFFSET.NTS, leAt p 0 2), (F.APD_OFFSET.PTP, leAt p 2 2), (F.APD_RETRY.RETRY, byteAt p 4), (F.NTS_CFG.NTS, bitsOf (byteAt p 6) 0 1),
    (F.PTP_CFG.PROFILE, prof), (F.PTP_CFG.ONESTEP, bitsOf (byteAt p 6) 2 1), (F.PTP_CFG.DOMAIN, profDomain prof), (F.PTP_CFG.SDOID, profSdo prof)]

/-- Load PAIRCFG (R112). -/
def State.loadPair (s : State) : State :=
  s.sets [(F.PAIR_CFG.EN, byteAt (s.sec 0x88) 0), (F.PAIR_CFG.WTR, leAt (s.sec 0x88) 2 2)]

/-- The state in which a start leaves a domain (R507): S3 for what the recipe does not use. -/
def State.startState (s : State) (d : Nat) : Nat :=
  let unusedQ := fun (q : Nat) => (List.range 4).all (fun i => !engUsed s.rcp.sections (4 * q + i))
  if 2 ≤ d ∧ d ≤ 4 then (if unusedQ (d - 1) then 3 else 0)
  else if 7 ≤ d ∧ d ≤ 9 then (if byteAt (s.sec 0x40) (8 * (d - 6)) = 0 then 3 else 0)
  else if d = 12 then (if byteAt (s.sec 0x40) 32 = 0 then 3 else 0)
  else 0

/-- Show a domain's state, in PWR_DOM_STAT, PWR_GSTAT and a quarter's PKE_QSTAT. -/
def State.showDom (s : State) (d st : Nat) : State :=
  let g := s.get F.PWR_GSTAT.ASLEEP
  let a := (s.set (F.PWR_DOM_STAT.STATE d) st).set F.PWR_GSTAT.ASLEEP (if st = 0 then clearBits 13 g (2 ^ d) else setBitN g d)
  if 1 ≤ d ∧ d ≤ 4 then a.set (F.PKE_QSTAT.SLEEP (d - 1)) st else if 6 ≤ d ∧ d ≤ 9 then a.showTxdis (d - 6) else a

/-- A domain is left in S3, or brought up, by a start. -/
def State.startDom (s : State) (d st : Nat) : State :=
  let was := s.get (F.PWR_DOM_STAT.STATE d)
  let slept := if was = 0 then 0 else s.raw - (s.dm d).sleepStart
  let a := if st = 0 then (s.bump (F.PWR_SLEEP_ACC.TICKS d) slept).updDom d (fun x => { x with sleepStart := s.raw })
    else if was = 0 then s.updDom d (fun x => { x with sleepStart := s.raw }) else s
  (a.sets [(F.PWR_DOM_CTRL.REQ d, st), (F.PWR_DOM_STAT.ENTERING d, 0), (F.PWR_DOM_STAT.WAITING d, 0), (F.PWR_DOM_STAT.CHECK d, 0)]).updDom d
    (fun x => { x with wakePending := none, wakeStart := none, checking := [], stalled := [] }) |>.showDom d st

/-- Put every domain into the state R507 gives it at start. -/
def State.loadDomains (s : State) : State := (List.range 13).foldl (fun t d => if d = 0 then t else t.startDom d (s.startState d)) s

/-- The fields LOCK names (R111). -/
def State.loadLocks (s : State) : State :=
  let p := s.sec 0x78
  { s with rcp := { s.rcp with locks := (List.range (leAt p 0 2)).map (fun i => (leAt p (4 + 8 * i) 4, leAt p (8 + 8 * i) 4)) } }

/-- Load what the recipe gives the blocks of the domains that are reset by a warm restart. -/
def State.loadReset (s : State) : State :=
  let a := (List.range 4).foldl State.loadPort s
  let b := (List.range 4).foldl State.loadEngines (a.set F.PKE_STAT.NPIPE (byteAt (s.sec 0x50) 0))
  b.loadClass.loadSvc.loadPair.loadDomains.loadLocks

/-- R118: every section is applied. -/
def State.loadAll (s : State) : State :=
  let a := (List.range 16).foldl (fun t c => t.loadRef c true) s
  let b := (((((List.range 24).foldl (fun t n => t.loadTdc n true) a).loadGains.loadFeed).showAgeing 0).showAgeing 1).refreshHset
  let c := (List.range 4).foldl (fun t n => t.set (F.HRT_SRV_STAT.NOREF n) 1) b.loadSynth
  let d := (List.range 13).foldl (fun t i => t.set (F.HRT_TB_ROUTE.EN (i + 1)) (byteAt (s.sec 0x60) (4 * i))) c
  (d.loadReset.loadSyt).vaultStart

/-! The reset of a domain. -/

/-- Return every register of a domain to its reset value. -/
def State.resetRegs (s : State) (d : Nat) : State :=
  { s with regs := s.regs.filter (fun e => domOf (e.1 / 32 % 0x4000000) != d) }

/-- A port island is reset: its link falls and its frames are lost. -/
def State.resetPort (s : State) (n : Nat) : State := ((s.portDown n).resetRegs (6 + n)).updPort n (fun _ => {})

/-- The cluster's shared blocks are reset: the PTP upstream channel loses its parent, and the NTS positions come back from the vault's
store. -/
def State.resetShared (s : State) : State :=
  let a := match s.channelOfKind 6 with
    | some c => ((s.set (F.REF_STAT.LABELLED c) 0).set (F.REF_STAT.ACTIVITY c) 0).losePresence c
    | none => s
  let b := a.resetRegs 1
  ({ b with pke := {}, nts := {}, ptp := {}, pmu := {} }.resetMaster 6 false).restorePositions

/-- The GNSS baseband is reset; the held position and the survey's state are in AON (R565). -/
def State.resetGns (s : State) : State :=
  let keep := [F.GNS_LAT.LAT, F.GNS_LON.LON, F.GNS_HGT.HGT, F.GNS_SURVEY.LEFT, F.GNS_STAT.HOLD, F.GNS_STAT.SURVEY, F.GNS_SOLN.SOLN].map
    (fun f => (f, s.get f))
  let a := (s.resetRegs 10).sets keep
  { a with sel := { a.sel with strobe := none } }

/-- The supervisor and the crossbar are reset; the endpoint's table stays. -/
def State.resetSup (s : State) : State :=
  let a := [0, 1, 2, 3].foldl (fun t m => t.resetMaster m false) (s.resetRegs 5)
  a.updSys (fun y => { msixTable := y.msixTable, pba := y.pba, lowPower := y.lowPower, aborts := y.aborts })

/-- The pair link is reset: the twin channel loses its presence, and the unit has no role. -/
def State.resetPairLink (s : State) : State := (s.resetRegs 12).updPair (fun _ => {}) |>.reviewTwin

/-- R511, R140: a domain takes its reset state; its routes lose their replicas. -/
def State.resetDomain (s : State) (d : Nat) : State :=
  let a := (domRoutes d).foldl State.loseReplica s
  if d = 1 then a.resetShared
  else if 2 ≤ d ∧ d ≤ 4 then a.resetRegs d
  else if d = 5 then a.resetSup
  else if 6 ≤ d ∧ d ≤ 9 then a.resetPort (d - 6)
  else if d = 10 then a.resetGns
  else if d = 11 then (a.resetPci.set F.SUP_LINK.SPEED 0).set F.SUP_LINK.WIDTH 0
  else if d = 12 then a.resetPairLink
  else a

/-- R511: after S3 the recipe's fields of a domain come back from AON. -/
def State.reloadDomain (s : State) (d : Nat) : State :=
  if d = 1 then (((s.set F.PKE_STAT.NPIPE (byteAt (s.sec 0x50) 0)).loadEngines 0).loadClass.loadSvc).runEngines 0
  else if 2 ≤ d ∧ d ≤ 4 then (s.loadEngines (d - 1)).runEngines (d - 1)
  else if 6 ≤ d ∧ d ≤ 9 then s.loadPort (d - 6)
  else if d = 12 then s.loadPair
  else s

/-! What a reload must quiesce. -/

/-- Whether entry `i` of a section (of `len` bytes, from offset `off`) differs between two images. -/
def entryDiffers (old new : List (Nat × List Byte)) (t len off i : Nat) : Bool :=
  sliceB (payload old t) (off + len * i) len != sliceB (payload new t) (off + len * i) len

/-- The blocks that the WARM sections of a reload require to be quiesced (R119), as codes of RcpSt.held. A TDC channel is disabled
through the REF channel it serves. -/
def mustQuiesce (old new : List (Nat × List Byte)) : List Nat :=
  let uin := fun (secs : List (Nat × List Byte)) (c k : Nat) =>
    let e := sliceB (payload secs 0x10) (8 * c) 8
    if k = 6 then byteAt e 0 == 1 else (byteAt e 0 == 2 || byteAt e 0 == 3 || byteAt e 0 == 4) && byteAt e 1 == k
  let refs := (List.range 16).filter (fun c => entryDiffers old new 0x10 8 0 c ||
    (List.range 7).any (fun k => entryDiffers old new 0x12 8 0 k && (uin old c k || uin new c k)) ||
    (List.range 24).any (fun n => entryDiffers old new 0x11 4 0 n && [old, new].any (fun secs =>
      let e := sliceB (payload secs 0x11) (4 * n) 4
      (byteAt e 0 == 1 || byteAt e 0 == 4) && byteAt e 1 == c)))
  let srv := (List.range 4).filter (entryDiffers old new 0x20 16 0)
  let outs := (List.range 12).filter (fun n => entryDiffers old new 0x31 16 0 n ||
    (byteAt (payload old 0x31) (16 * n) != 0 && entryDiffers old new 0x30 16 0 (byteAt (payload old 0x31) (16 * n + 1))))
  let ports := (List.range 5).filter (entryDiffers old new 0x40 8 0)
  refs.map (0x100 + ·) ++ outs.map (0x200 + ·) ++ ports.map (0x300 + ·) ++ srv.map (0x400 + ·) ++
    (if payload old 0x50 = payload new 0x50 then [] else [0x500])

/-- Whether a block is quiesced (R120); a servo instance is stopped by the reload itself. -/
def State.isQuiet (s : State) (code : Nat) : Bool :=
  let i := code % 256
  if code / 256 = 1 then !s.bit (F.REF_CFG.EN i)
  else if code / 256 = 2 then !s.bit (F.OUT_CFG.EN i)
  else if code / 256 = 3 then (if i < 4 then !s.bit (F.PRT_CTRL.ADMIN i) else !s.pair.any)
  else if code / 256 = 5 then s.bit F.PKE_STAT.DRAINED
  else true

/-- The sections that differ (R119), with their reload classes; NOTE never counts. -/
def differing (old new : List (Nat × List Byte)) : List (Nat × Nat) :=
  (sectionTypes.filter (fun p => lookup p.1 old != lookup p.1 new)).map (fun p => (p.1, p.2.1))

end Sys2Proof.Machine
end

