-- ==== Sys2Proof/Machine/PowerOps.lean ====
section
/-! DEFINITION. The power controller (spec/19_power.md, R507 to R521): requests, entry, wake, retention and performance levels. -/

namespace Sys2Proof.Machine

/-- Entry begins (R513). -/
def State.beginEntry (s : State) (d target : Nat) : State :=
  (s.sets [(F.PWR_DOM_STAT.WAITING d, 0), (F.PWR_DOM_STAT.ENTERING d, 1)]).updDom d (fun x => { x with target := target })

/-- A request for a state is taken in an awake domain (R512): S1 enters at once, S2 and S3 wait for their condition. -/
def State.takeReq (s : State) (d v : Nat) : State :=
  let a := s.set (F.PWR_DOM_CTRL.REQ d) v
  if v = 0 then a.set (F.PWR_DOM_STAT.WAITING d) 0
  else if v = 1 then a.beginEntry d 1
  else (a.set (F.PWR_DOM_STAT.WAITING d) 1).updDom d (fun x => { x with waitSince := if s.bit (F.PWR_DOM_STAT.WAITING d) then x.waitSince else s.raw })

/-- The condition of R512 for S2 and S3. -/
def State.mayEnter (s : State) (d : Nat) : Bool :=
  if d = 1 then s.bit F.PKE_STAT.DRAINED && s.bit F.PKE_CTRL.DRAIN && (List.range 144).all (fun r => !s.bit (F.PKE_RING_CFG.EN r))
  else if d ≤ 4 then s.pke.ctxs.all (fun x => !(decide (x.engine < 16) && x.engine / 4 + 1 == d))
  else if d = 5 then [0, 1, 2, 3].all (fun k => s.sys.supS2.contains k)
  else if d ≤ 9 then !s.bit (F.PRT_CTRL.ADMIN (d - 6)) && (s.pt (d - 6)).cal.isEmpty && (d != 6 || !s.bit F.PRT_MG_CTRL.ADMIN)
  else if d = 10 then (List.range 16).all (fun c => s.kind c != 1 || !s.bit (F.REF_CFG.EN c))
  else if d = 12 then !s.paired
  else false

/-- The states of R507 that a requester may ask of a domain. -/
def reqAllowed (req : Requester) (d v : Nat) : Bool :=
  if d = 0 then false else if d = 5 then req.isSup && decide (v ≤ 2) else if d = 11 then decide (v ≤ 1) else true

/-- A write of REQ (R512, R514, R519). -/
def State.writeReq (s : State) (req : Requester) (d v : Nat) : State :=
  if !reqAllowed req d v then s.accessError req 7 (0x300100 + 0x20 * d)
  else if d = 11 then s
  else
    let others := s.sys.supS2.filter (fun m => m != req.master)
    let a := if d = 5 then s.updSys (fun y => { y with supS2 := if v = 2 then others ++ [req.master] else others }) else s
    if s.bit (F.PWR_DOM_STAT.ENTERING d) then (if v = (s.dm d).target then a else a.beginWake d 1 0xF v)
    else if s.asleep d then
      (if (s.dm d).wakeStart.isSome then a.set (F.PWR_DOM_CTRL.REQ d) v
       else if v = s.get (F.PWR_DOM_STAT.STATE d) then a else a.beginWake d 1 0xF v)
    else a.takeReq d v

/-- R521: raise a power bit. -/
def State.pwrFlag (s : State) (f : Fld) (d : Nat) : State := s.flag f (70 + d) d

/-- R512: a request that has waited 10 ms falls. -/
def State.withdrawReq (s : State) (d : Nat) : State :=
  let a := (s.sets [(F.PWR_DOM_CTRL.REQ d, 0), (F.PWR_DOM_STAT.WAITING d, 0)]).pwrFlag (F.PWR_DOM_STAT.REFUSED d) d
  if d = 5 then a.updSys (fun y => { y with supS2 := [] }) else a

/-- The state is reached (R513, R55): from S2 on the replicas are lost, in S3 everything; a wake that came meanwhile begins. -/
def State.endEntry (s : State) (d : Nat) : State :=
  let t := (s.dm d).target
  let a := ((s.set (F.PWR_DOM_STAT.ENTERING d) 0).bump (F.PWR_SLEEP_CNT.ENTRIES d)).updDom d (fun x => { x with sleepStart := s.raw })
  let b := if t = 3 then a.resetDomain d else if t = 2 then (domRoutes d).foldl State.loseReplica a else a
  let c := if d = 1 ∧ 2 ≤ t then ((b.updPmu (fun p => { p with ring := [] })).sets [(F.PMU_SR_PROD.PROD, 0), (F.PMU_SR_CONS.CONS, 0)]).resetMaster 6 false else b
  let e := c.showDom d t
  match (s.dm d).wakePending with
  | some (src, m) => e.recordWake d src m true
  | none => e

/-- The retention banks of a domain (R515). -/
def retBanks (d : Nat) : List Nat :=
  if d = 5 then [0, 1, 2, 3, 4, 5, 7] else if d = 1 then [0, 1, 2, 3, 4, 5, 6, 7] else if d ≤ 4 then [0, 1, 2, 3, 7] else [7]

/-! Performance levels. -/

/-- A change to a level begins (R510). -/
def State.startLevel (s : State) (d l : Nat) : State :=
  if l = s.get (F.PWR_DOM_STAT.PLVL d) then s
  else (s.set (F.PWR_DOM_STAT.PLCHG d) 1).updDom d (fun x => { x with toLevel := l })

/-- A write of PLVL (R510): held during a change, an entry and sleep. -/
def State.writePlvl (s : State) (d l : Nat) : State :=
  let a := s.set (F.PWR_DOM_CTRL.PLVL d) l
  if s.bit (F.PWR_DOM_STAT.PLCHG d) || s.asleep d || s.bit (F.PWR_DOM_STAT.ENTERING d) then a.updDom d (fun x => { x with heldPlvl := some l })
  else a.startLevel d l

/-- A level held is applied. -/
def State.applyHeld (s : State) (d : Nat) : State :=
  match (s.dm d).heldPlvl with
  | some l => (s.updDom d (fun x => { x with heldPlvl := none })).startLevel d l
  | none => s

/-- The end of a change of level. -/
def State.endLevel (s : State) (d : Nat) : State :=
  let l := (s.dm d).toLevel
  let a := s.sets [(F.PWR_DOM_STAT.PLCHG d, 0), (F.PWR_DOM_STAT.PLVL d, l), (F.PKE_QSTAT.PLEVEL (d - 1), l)]
  if a.asleep d || a.bit (F.PWR_DOM_STAT.ENTERING d) then a else a.applyHeld d

/-! The end of a wake. -/

/-- The wake stall ends (R514 to R516, R55): after S2 the checks run, after S3 the recipe's fields return; lost routes await their
calibration; a held level and a request that came while it slept are taken. -/
def State.endStall (s : State) (d : Nat) : State :=
  let st := s.get (F.PWR_DOM_STAT.STATE d)
  let held := s.get (F.PWR_DOM_CTRL.REQ d)
  let a := (s.showDom d 0).updDom d (fun x => { x with wakeStart := none, checking := if st = 2 then retBanks d else [] })
  let b := if st = 2 then a.set (F.PWR_DOM_STAT.CHECK d) 1 else if st = 3 then a.reloadDomain d else a
  let c := if 2 ≤ st then b.queueCal ((domRoutes d).filter (fun n => b.bit (F.HRT_TB_ROUTE.EN n))) else b
  let e := if d = 5 then c.updSys (fun y => { y with supS2 := [], wdogAt := y.wdogAt + (s.raw - (s.dm 5).sleepStart) })
    else if d = 11 then c.updSys (fun y => { y with lowPower := false }) else c
  let f := e.applyHeld d
  let g := if held = 0 ∨ d = 5 then f.set (F.PWR_DOM_CTRL.REQ d) 0 else f.takeReq d held
  if d = 1 then (List.range 4).foldl State.drainFifo g else if d = 5 then g.serveTargets else g

/-- What the failure of a bank's check invalidates (R516). -/
def State.loseBank (s : State) (d bank : Nat) : State :=
  if bank = 7 then
    let a := (s.resetRegs d).reloadDomain d
    if d = 1 then (List.range 4).foldl State.showPos a else a
  else if d = 5 then
    let lo := bank * 0x800000
    let a := { s with sram := s.sram.filter (fun c => !(decide (lo ≤ c.1) && decide (c.1 < lo + 0x800000))) }.updSys
      (fun y => { y with bad := y.bad.filter (fun w => bankOf w != some bank) })
    ((List.range 16).filter (fun i => a.bit (F.PKE_RING_CFG.EN (128 + i)) && bankOf (a.descAddr (128 + i) 0) == some bank)).foldl (fun t i => t.stopRing (128 + i)) a
  else if bank < 4 then s.set (F.PKE_ENG.RUN (4 * (d - 1) + bank)) 0
  else if bank = 4 then s.gFlush
  else if bank = 5 then
    let b := s.get F.PKE_CLS_STAT.BANK
    let n := classEntries (s.sec 0x58)
    let k := { s.pke with swap := some (s.raw + s.get F.RCP_LEAD.LEAD, 1 - b) }
    { s with pke := if b = 0 then { k with bankA := [], bankB := n } else { k with bankB := [], bankA := n } }
  else { s with nts := { s.nts with sketchKey := s.free, sketch := [] } }.useFree

/-- A bank's check ends. -/
def State.endCheck (s : State) (d bank : Nat) (ok : Bool) : State :=
  let rest := (s.dm d).checking.filter (· != bank)
  let a := (s.updDom d (fun x => { x with checking := rest })).setBit (F.PWR_DOM_STAT.CHECK d) (!rest.isEmpty)
  let b := if ok then a else (a.loseBank d bank).flagBit (F.PWR_DOM_STAT.RETFAIL d) bank (70 + d) d
  if d = 5 then b.serveTargets else b

end Sys2Proof.Machine
end

