-- ==== Sys2Proof/Machine/BootOps.lean ====
section
/-! DEFINITION. Start, restart and reload (spec/03_recipe.md R117 to R126, spec/04_startup.md, R70 to R73). -/

namespace Sys2Proof.Machine

/-- Bring BOOT_STATUS.ATTEMPTS up to date. -/
def State.showAttempts (s : State) : State := s.set F.BOOT_STATUS.ATTEMPTS s.nv.record.attempts

/-! The end of a run. -/

/-- R72, R444, R445, R545: the power-fail sequence with a STOP: the vault ends its step, a zeroise count that completes on the hold-up
(after `zeroMs` more milliseconds of both balls) runs, and everything but the non-volatile memory goes off. -/
def State.supplyFail (s : State) (stop zeroMs : Nat) : State :=
  let a := s.vaultPowerFail
  let done := decide (0 < zeroMs) && decide (zeroMs ≤ 20) && decide (s.get F.PNL_ZCFG.ZHOLD * 100 ≤ s.pnl.zBoth + zeroMs)
  (if done then a.zeroise else a).powerFail stop

/-- A warm restart begins with a STOP (R140): every domain but AON is reset, and the start runs from step 2 against the running
image's bank. -/
def State.warmRestart (s : State) (stop : Nat) : State :=
  let a := (s.abandonAction.updRecord (fun r => { r with stop := stop })).updRecord (fun r =>
    { r with stop := 0, inStart := true, stable := false, warm := true, starts := min 0xFFFFFFFF (r.starts + 1) })
  let b := (List.range 12).foldl (fun t i => t.resetDomain (i + 1)) a
  let c := { b with boot := { warm := true, deadline := b.raw + b.get F.BOOT_LIMIT.LIMIT * 625000000 },
                    rcp := { b.rcp with held := [] }, supply := { b.supply with alert := true } }
  ((List.range 12).foldl State.showOut c).sets [(F.BOOT_STATUS.STAGE, 1), (F.BOOT_STATUS.STABLE, 0), (F.BOOT_STATUS.WARM, 1), (F.BOOT_WHY.CODE, 1), (F.BOOT_WHY.STOP, stop),
    (F.BOOT_WHY.DETAIL, 0), (F.RCP_STATUS.STATE, 0), (F.RCP_CTRL.CHECK, 0), (F.RCP_CTRL.RELOAD, 0), (F.RCP_CTRL.PROG, 0), (F.RCP_CTRL.PREFER, 0),
    (F.BOOT_CTRL.FWPROG, 0), (F.BOOT_CTRL.FWPREFER, 0)]

/-- BOOT_CTRL.WARM: in the active unit of a pair in step the restart waits for a swap (spec/17_pair.md). -/
def State.askWarm (s : State) : State :=
  if s.paired && s.role == 1 && s.pairState == 5 then (s.updPair (fun p => { p with warmWait := true })).scheduleSwap
  else s.warmRestart 2

/-- A warm restart that waited for a swap goes on once the swap has ended. -/
def State.resumeWarm (s : State) : State := if s.pair.warmWait && s.pair.swap.isNone then s.warmRestart 2 else s

/-- R485, R135: the supervisor's watchdog (STOP 7) or the firmware's fatal error (STOP 8) with its code. -/
def State.supervisorEnd (s : State) (stop code : Nat) : State :=
  if s.stage = 5 then s.failStart 0x29 code
  else if s.stage ≠ 6 then s
  else if s.bit F.BOOT_STATUS.STABLE then s.warmRestart stop
  else
    let a := (s.updRecord (fun r => { r.push 0x2A stop with attempts := min 255 (r.attempts + 1) })).showAttempts
    if 3 ≤ a.nv.record.attempts then a.coldRestart stop else a.warmRestart stop

/-! Starter mode. -/

/-- The built-in structure of R137: REF13 of KIND 0x08 with REFEREE on TDC channel 13, channel 23 for the time bus, SRV0 in MODE 1,
and routes 5, 10 and 13. -/
def starterSections : List (Nat × List Byte) :=
  let z := fun (n : Nat) => List.replicate n (0 : Byte)
  [(0x10, z 104 ++ bytesOf [8, 0, 1, 3, 0, 0, 0, 0] ++ z 16),
   (0x11, z 52 ++ bytesOf [1, 13, 0, 0] ++ z 36 ++ bytesOf [3, 0, 0, 0]),
   (0x12, z 56),
   (0x20, bytesOf [1, 1, 0, 0] ++ leBytes 4 625000000 ++ z 56),
   (0x21, leBytes 4 0x10000000 ++ leBytes 4 0 ++ leBytes 4 10000000 ++ z 52),
   (0x60, z 16 ++ bytesOf [1, 0, 0, 0] ++ z 16 ++ bytesOf [1, 0, 0, 0] ++ z 8 ++ bytesOf [1, 0, 0, 0])]

/-- Enter starter mode with a code (R136, R137): its routes are calibrated before STAGE 7. -/
def State.enterStarter (s : State) (code detail : Nat) : State :=
  let a := (s.sets [(F.BOOT_WHY.CODE, code), (F.BOOT_WHY.DETAIL, detail)]).updRecord (fun r => r.push code detail)
  let b := { a with boot := { a.boot with starter := true }, rcp := { a.rcp with sections := starterSections } }
  let c := (((((b.loadRef 13 true).loadTdc 13 true).loadTdc 23 true).loadGains.showAgeing 0).showAgeing 1).refreshHset
  let d := [1, 2, 3, 4, 7, 8, 9, 10, 12].foldl (fun t n => t.startDom n 3) c
  (d.sets [(F.HRT_TB_ROUTE.EN 5, 1), (F.HRT_TB_ROUTE.EN 10, 1), (F.HRT_TB_ROUTE.EN 13, 1), (F.HRT_SRV_STAT.NOREF 0, 1), (F.XBR_HWIN.BANKS, 3),
    (F.PNL_LED.CUR 0, 10), (F.PNL_LED.MODE 0, 3), (F.PNL_LED.SRC 0, 0x38)]).queueCal [5, 10, 13]

/-! Step 1. -/

/-- Restore the model store's newest valid copy at AON power-on (R213). -/
def State.loadStore (s : State) : State :=
  match s.nv.newestStore with
  | none => s.flag F.OSC_STAT.STOREERR 18 0
  | some k =>
    let a := { s with osc := { s.osc with sets := k.sets } }
    (List.range 2).foldl (fun t n => ((t.setISat (F.OSC_AGE_D.D n) (k.d.getD n 0)).setSat (F.OSC_AGE_U.U n) (k.u.getD n 0)).sets
      [(F.OSC_LEARN.DAYS n, min 255 (k.days.getD n 0)), (F.OSC_LEARN.LEARNT n, if 14 ≤ k.days.getD n 0 then 1 else 0)]) a

/-- R221: generation 0 is installed. -/
def State.firstPair (s : State) : State :=
  let valid := s.nv.recA.isSome || s.nv.recB.isSome
  let p : Pair := { offset := if valid then (s.nv.record.lastSec + 1) * fracPerSec else 0 }
  ({ s with hrt := { s.hrt with cur := p, history := [p] } }).set F.HRT_EPOCH_SEC.SEC (dtSec p.offset)

/-- The newest failure code among the last four starts (R134, code 0x41). -/
def StartRec.newestFailure (r : StartRec) : Nat := (r.why.find? (fun c => decide (0x10 ≤ c) && decide (c ≤ 0x2B))).getD 0

/-- Step 1 of R130 (R133, R135, R136): an attempt towards service that finds IN_START set with STOP 0 is a failed start. -/
def State.bootStep1 (s : State) : State :=
  let r := s.nv.record
  let a := s.sets [(F.BOOT_WHY.STOP, r.stop), (F.BOOT_STATUS.ATTEMPTS, r.attempts)]
  let r1 : StartRec := { r with stop := 0, stable := false, warm := false, strap00 := s.get F.GLB_STRAP.BANK_SEL == 0 }
  if s.get F.GLB_STRAP.FSTART_N = 0 then (a.updRecord (fun _ => r1)).enterStarter 0x40 0
  else if 3 ≤ r.attempts then (a.updRecord (fun _ => r1)).enterStarter 0x41 r.newestFailure
  else if r.starterReq then (a.updRecord (fun _ => { r1 with starterReq := false })).enterStarter 0x42 0
  else
    let b := a.updRecord (fun _ => { r1 with inStart := true, starts := min 0xFFFFFFFF (r.starts + 1) })
    if r.inStart ∧ r.stop = 0 then b.failStart 0x2B 0 else b

/-- R70: the power-up sequence, 4 ms after its instant: AON is good, the raw counter starts at zero, the straps are sampled, the vault and the
model store come up, and the boot ROM takes step 1. -/
def State.powerUp (s : State) (home fstartN : Bool) (bankSel : Nat) : State :=
  let a : State := { pending := s.pending, flash := s.flash, out := s.out, free := s.free, nv := s.nv, boot := { deadline := 74997500000 } }
  let b := a.sets [(F.GLB_STRAP.HOME, if home then 1 else 0), (F.GLB_STRAP.FSTART_N, if fstartN then 1 else 0), (F.GLB_STRAP.BANK_SEL, bankSel)]
  b.firstPair.vaultPowerOn.loadStore.bootStep1

/-! Step 2: the recipe. -/

/-- Whether BANK_SEL forces a bank (R117). -/
def State.bankForced (s : State) : Bool := s.get F.GLB_STRAP.BANK_SEL == 1 || s.get F.GLB_STRAP.BANK_SEL == 2

/-- The recipe bank that the start validates now (R117, R140). -/
def State.startBank (s : State) : Nat :=
  if s.boot.warm then s.get F.RCP_STATUS.BANK
  else if s.get F.GLB_STRAP.BANK_SEL = 2 then 0
  else if s.get F.GLB_STRAP.BANK_SEL = 1 then 1
  else (s.nv.record.prefRcp + s.boot.rcpTry) % 2

/-- Validate a recipe bank (R115). -/
def State.validate (s : State) (bank : Nat) : Except CheckFail Recipe :=
  checkRecipe (s.flashRead (bankBase false bank) (bankSize false))
    { pin := s.nv.pin, floor := s.nv.floor, slot1 := if (s.slot 1).state = 2 then some (s.slot 1).key else none }

/-- Show a validation's failure. -/
def State.showFail (s : State) (f : CheckFail) : State :=
  s.sets [(F.RCP_FAIL.CODE, f.code), (F.RCP_FAIL.INDEX, f.index), (F.RCP_FAIL.TYPE, f.type)]

/-- The image becomes the running one: its registers, the pin of R95. -/
def State.takeImage (s : State) (r : Recipe) (bank : Nat) : State :=
  let a := { s with rcp := { s.rcp with image := r.image, bank := bank }, nv := { s.nv with pin := if s.nv.pin = 0 then r.custId else s.nv.pin } }
  a.sets [(F.RCP_STATUS.BANK, bank), (F.RCP_STATUS.ENC, if r.enc then 1 else 0), (F.RCP_SERIAL.SERIAL, r.serial)]

/-- Step 3 in a cold start (R118). -/
def State.applyStart (s : State) (r : Recipe) (bank : Nat) : State :=
  let a := ({ s.takeImage r bank with rcp := { (s.takeImage r bank).rcp with sections := r.sections } }.showFail { code := 0 }).updRecord
    (fun q => { q with lastRcp := bank, rcpSerial := r.serial })
  a.loadAll.set F.BOOT_STATUS.STAGE 2

/-- The validation of a start ends (R117, R130, R140). -/
def State.startValidated (s : State) : State :=
  let bank := s.startBank
  match s.validate bank with
  | .ok r =>
    if s.boot.warm then (if r.image = s.rcp.image then (s.showFail { code := 0 }).loadReset.set F.BOOT_STATUS.STAGE 2 else s.coldRestart 0x0A)
    else s.applyStart r bank
  | .error f =>
    let a := s.showFail f
    if s.boot.warm then a.coldRestart 0x0A
    else if s.bankForced then a.failStart 0x11 f.code
    else if s.boot.rcpTry = 0 then { a with boot := { a.boot with rcpTry := 1, rcpFail := some f.code } }.set F.BOOT_STATUS.STAGE 1
    else a.failStart 0x10 f.code

/-! Steps 4 to 7. -/

/-- Whether every enabled route reads VALID. -/
def State.routesValid (s : State) : Bool := s.enRoutes.all (fun n => s.bit (F.HRT_TB_ROUTE.VALID n))

/-- A route's calibration ends in a start (R52, R53): `m` markers. -/
def State.startCal (s : State) (n m sum sumSq : Nat) : State :=
  match s.calLatency n m sum sumSq with
  | none =>
    if s.boot.starter then
      let a := (s.calBadRoute n).flag (F.HRT_TB_ROUTE.FAULT n) 21 n (s.isle n).lastTick
      if a.tb.calQ.isEmpty then a.enterStage 7 else a
    else (s.calBadRoute n).failStart 0x20 n
  | some l =>
    let a := s.calGood n m sum l
    if !a.tb.calQ.isEmpty then a else if s.boot.starter then a.enterStage 7 else a.set F.BOOT_STATUS.STAGE 4

/-- The firmware bank that is validated now. -/
def State.fwBank (s : State) : Nat := (s.nv.record.prefFw + s.boot.fwTry) % 2

/-- Validate a firmware bank (R128). -/
def State.validateFw (s : State) (bank : Nat) : Except Nat (Nat × Nat) := checkFirmware (s.flashRead (bankBase true bank) (bankSize true)) s.nv.fwFloor

/-- The validation of a firmware bank ends in a start: the firmware is loaded and SUP0 to SUP3 start; the watchdog begins its period. -/
def State.startFw (s : State) : State :=
  let bank := s.fwBank
  match s.validateFw bank with
  | .ok (_, ver) =>
    let a := (s.updRecord (fun r => { r with lastFw := bank })).sets [(F.BOOT_STATUS.STAGE, 5), (F.BOOT_STATUS.FWBANK, bank), (F.SUP_FWVER.VER, ver),
      (F.SUP_STATUS.RUN, 0xF)]
    a.updSys (fun y => { y with wdogAt := a.raw + a.get F.SUP_WDOG.PERIOD * 625000 })
  | .error c =>
    if s.boot.fwTry = 0 then { s with boot := { s.boot with fwTry := 1, fwFail := some c } } else s.failStart 0x18 c

/-- The code of a completed start (R134) with its DETAIL. -/
def State.startCode (s : State) : Nat × Nat :=
  match s.boot.rcpFail, s.boot.fwFail with
  | none, none => (0, 0)
  | some c, none => (2, c)
  | none, some c => (3, c)
  | some c, some _ => (4, c)

/-- R129: the start completes once the firmware is ready and every enabled route is VALID (R95, R128, R132, R134, R141). -/
def State.tryComplete (s : State) : State :=
  if s.stage ≠ 5 ∨ s.bit F.SUP_STATUS.READY = false ∨ s.routesValid = false then s
  else
    let cd := s.startCode
    let fwr := leAt (s.flashRead (bankBase true (s.get F.BOOT_STATUS.FWBANK) + 0x10) 4) 0 4
    let a := (s.sets [(F.BOOT_WHY.CODE, cd.1), (F.BOOT_WHY.DETAIL, cd.2)]).updRecord (fun r =>
      { r.push cd.1 cd.2 with inStart := false, warm := s.boot.warm })
    let b := { a with nv := { a.nv with floor := max a.nv.floor (leAt a.rcp.image 0x10 4), fwFloor := max a.nv.fwFloor fwr },
                      boot := { a.boot with complete := some a.raw, lastSecAt := a.raw }, supply := { a.supply with alert := false, quiet := false } }
    let c := (List.range 4).foldl State.runEngines b
    (List.range 12).foldl State.showOut (c.enterStage 6).pairStart

/-- SUP_READY (R484, R506). -/
def State.ready (s : State) : State := if s.stage = 5 then (s.flag F.SUP_STATUS.READY 70 0 1).tryComplete else s

/-! The actions of RCP_CTRL and BOOT_CTRL (R119 to R126, R138). -/

/-- The bit of RCP_CTRL or BOOT_CTRL that an action shows. -/
def BankAction.fld : BankAction → Fld
  | .check _ => F.RCP_CTRL.CHECK
  | .reload _ => F.RCP_CTRL.RELOAD
  | .prefer fw _ => if fw then F.BOOT_CTRL.FWPREFER else F.RCP_CTRL.PREFER
  | .prog fw _ _ _ => if fw then F.BOOT_CTRL.FWPROG else F.RCP_CTRL.PROG

/-- An action on firmware: its codes appear in BOOT_WHY.DETAIL. -/
def BankAction.fw : BankAction → Bool
  | .prefer fw _ => fw
  | .prog fw _ _ _ => fw
  | _ => false

/-- The bank of an action, numbered as RcpSt.unusable numbers it. -/
def BankAction.bank : BankAction → Nat
  | .check b => b
  | .reload b => b
  | .prefer fw b => b + if fw then 2 else 0
  | .prog fw b _ _ => b + if fw then 2 else 0

/-- STATE enters 4 or 5 (R126). -/
def State.rcpState (s : State) (st : Nat) : State :=
  let a := s.set F.RCP_STATUS.STATE st
  if (st = 4 ∨ st = 5) ∧ s.get F.RCP_STATUS.STATE ≠ st then a.occur 65 0xFF 0 (a.get F.RCP_FAIL.CODE) else a

/-- An action ends with a result. -/
def State.endAction (s : State) (x : BankAction) (f : CheckFail) : State :=
  let a := ({ s with rcp := { s.rcp with action := none } }).set x.fld 0
  if x.fw then a.set F.BOOT_WHY.DETAIL f.code
  else (a.showFail f).rcpState (if f.code = 0 then 4 else 5)

/-- A refusal of an action that is asked for (R124, R125). -/
def State.refuseAction (s : State) (x : BankAction) (code : Nat) : State :=
  if x.fw then s.set F.BOOT_WHY.DETAIL code
  else if code = 0x63 then s.set F.RCP_FAIL.CODE code
  else (s.showFail { code := code }).rcpState 5

/-- Whether two actions are the same kind. -/
def BankAction.same (x y : BankAction) : Bool := x.fld == y.fld

/-- An action is asked for (R13, R124, R125): refused while another, or a start, runs; on a bank left unusable; when it would program the bank
in use; or with a length out of range. -/
def State.askAction (s : State) (x : BankAction) : State :=
  let busy := match s.rcp.action with | some y => if x.same y then 2 else 1 | none => if s.stage < 6 then 1 else 0
  if busy = 2 then s
  else if busy = 1 then s.refuseAction x 0x63
  else
    let bad := match x with
      | .prog fw b _ len =>
        if s.stage = 6 ∧ b = (if fw then s.get F.BOOT_STATUS.FWBANK else s.get F.RCP_STATUS.BANK) then 0x70
        else if len = 0 ∨ (if fw then 0xFFFFF0 else 0x800000) < len then 0x05 else 0
      | _ => if s.rcp.unusable.contains x.bank then 0x65 else 0
    if bad ≠ 0 then s.refuseAction x bad
    else
      let a := { s with rcp := { s.rcp with action := some x } }.set x.fld 1
      if x.fw then a else a.rcpState (match x with | .prog _ _ _ _ => 6 | _ => 1)

/-- A write of RCP_CTRL. -/
def State.writeRcpCtrl (s : State) (req : Requester) (data : Nat) : State :=
  let acts := (List.range 4).filter (fun i => data.testBit (i + 1))
  if 1 < acts.length then s.accessError req 8 0x200008
  else
    let b := data % 2
    let a := s.set F.RCP_CTRL.BANK b
    match acts.head? with
    | none => a
    | some 0 => a.askAction (.check b)
    | some 1 => a.askAction (.reload b)
    | some 2 => a.askAction (.prog false b (a.get F.RCP_SRC.ADDR * 64) (a.get F.RCP_LEN.LEN))
    | some _ => a.askAction (.prefer false b)

/-- A write of BOOT_CTRL (R140, R138, R564). -/
def State.writeBootCtrl (s : State) (req : Requester) (data : Nat) : State :=
  let acts := (List.range 6).filter (fun i => data.testBit i)
  if !acts.isEmpty && bitsOf data 16 16 != 0x9612 then s.accessError req 6 0x100008
  else if 1 < acts.length then s.accessError req 8 0x100008
  else
    let b := bitsOf data 8 1
    let a := s.set F.BOOT_CTRL.FWBANK b
    match acts.head? with
    | none => a
    | some 0 => a.askWarm
    | some 1 => a.coldRestart 1
    | some 2 => (a.updRecord (fun r => { r with starterReq := true })).coldRestart 1
    | some 3 => (a.updRecord (fun r => { r with attempts := 0 })).showAttempts
    | some 4 => a.askAction (.prog true b (a.get F.RCP_SRC.ADDR * 64) (a.get F.RCP_LEN.LEN))
    | some _ => a.askAction (.prefer true b)

/-- Show which WARM sections differ (RCP_WARM). -/
def State.showWarm (s : State) (diff : List (Nat × Nat)) : State :=
  let b := fun (t : Nat) => if diff.any (fun p => p.1 == t) then 1 else 0
  s.sets [(F.RCP_WARM.REFMAP, b 0x10), (F.RCP_WARM.TDCMAP, b 0x11), (F.RCP_WARM.UINCFG, b 0x12), (F.RCP_WARM.SRVTOP, b 0x20),
    (F.RCP_WARM.SYNPLAN, b 0x30), (F.RCP_WARM.OUTKIND, b 0x31), (F.RCP_WARM.SERDES, b 0x40), (F.RCP_WARM.PIPE, b 0x50)]

/-- The domain of a quiesced block, woken by the reload's accesses where it sleeps (R520). -/
def heldDom (code : Nat) : List Nat :=
  if code / 256 = 3 then [if code % 256 < 4 then 6 + code % 256 else 12] else if code / 256 = 5 then [1, 2, 3, 4] else []

/-- Apply the WARM sections that differ, all together (R120, R123). -/
def State.applyWarm (s : State) (old : List (Nat × List Byte)) (diff : List (Nat × Nat)) : State :=
  let d := fun (t : Nat) => diff.any (fun p => p.1 == t)
  let new := s.rcp.sections
  let a := if d 0x10 then (List.range 16).foldl (fun t c => t.loadRef c (entryDiffers old new 0x10 8 0 c)) s else s
  let b := if d 0x10 ∨ d 0x11 then (List.range 24).foldl (fun t n => t.loadTdc n (entryDiffers old new 0x11 4 0 n)) a else a
  let c := if d 0x12 then b.refreshHset.loadFeed else b.refreshHset
  let e := if d 0x20 then (List.range 4).foldl (fun t n => if entryDiffers old new 0x20 16 0 n ∧ n ≠ 0 then
      (t.updSrv n (fun _ => {})).set (F.HRT_SRV_STAT.NOREF n) 1 else t) c else c
  let e := if d 0x20 then (e.showAgeing 0).showAgeing 1 else e
  let f := if d 0x30 then (List.range 4).foldl State.reloadUnit e else e
  let g := if d 0x31 then (List.range 12).foldl State.reloadOut f else f
  let h := if d 0x40 then ((List.range 4).foldl State.loadPort g).loadSyt else g
  let k := if d 0x50 then (List.range 4).foldl (fun t q => (t.loadEngines q).runEngines q)
      ((h.set F.PKE_STAT.NPIPE (byteAt (s.sec 0x50) 0)).showDrained) else h
  let doms := (s.rcp.held.flatMap heldDom).eraseDups.filter (fun n => s.startState n == 0)
  doms.foldl (fun t n => t.beginWake n 2 0 0) k

/-- The islands that the LIVE sections configure (R121): the Hearth for SRVGAIN, the cluster for CLASS, it and the awake quarters for SVC. -/
def State.liveIslands (s : State) (types : List Nat) : List Nat :=
  let q := [7, 8, 9].filter (fun r => s.get (F.PWR_DOM_STAT.STATE (r - 5)) == 0)
  (if types.contains 0x21 then [0] else []) ++ (if types.contains 0x58 ∨ types.contains 0x90 then [6] else []) ++
    (if types.contains 0x90 then q else [])

/-- A reload ends (R119 to R121): what it kept quiesced is released, and a stopped SRV0 restarts. -/
def State.endReload (s : State) (x : BankAction) (f : CheckFail) : State :=
  let a := { s with rcp := { s.rcp with held := [], live := none } }
  let b := if a.srvState = 5 then a.leaveStopped else a
  b.endAction x f

/-- A reload that ran to its end: the image is the running one, and its ROLLBACK raises the floor (R95). -/
def State.reloadDone (s : State) (bank : Nat) : State :=
  match s.validate bank with
  | .ok r =>
    let a := s.takeImage r bank
    ({ a with nv := { a.nv with floor := max a.nv.floor r.rollback } }).endReload (.reload bank) { code := 0 }
  | .error _ => s.endReload (.reload bank) { code := 0 }

/-- Choose a commit tick and send the shadows (R121). -/
def State.sendShadows (s : State) (attempt : Nat) (secs : List (Nat × List Byte)) : State :=
  { s with rcp := { s.rcp with live := some ⟨s.raw + s.get F.RCP_LEAD.LEAD, attempt, s.liveIslands (secs.map (·.1)), secs⟩ } }

/-- The validation of a RELOAD ends in a pass (R119 to R121). -/
def State.applyReload (s : State) (r : Recipe) (bank : Nat) : State :=
  let old := s.rcp.sections
  let diff := differing old r.sections
  let a := s.showWarm diff
  let codes := mustQuiesce old r.sections
  match diff.find? (fun p => p.2 == 2) with
  | some p => a.endAction (.reload bank) { code := 0x60, type := p.1 }
  | none =>
    if codes.any (fun c => !s.isQuiet c) then a.endAction (.reload bank) { code := 0x61 }
    else
      let live := diff.filter (fun p => p.2 == 0)
      let keep := fun (t : Nat) => live.any (fun p => p.1 == t)
      let secs := (r.sections.filter (fun p => !keep p.1)) ++ (old.filter (fun p => keep p.1))
      let b := { a with rcp := { a.rcp with sections := secs, held := codes } }.rcpState 2
      let c := if codes.contains 0x400 then (if b.hrt.pend.isSome then { b with hrt := { b.hrt with stopWait := true } } else b.enterStopped) else b
      let e := c.applyWarm old diff
      if live.isEmpty then e.reloadDone bank
      else (e.rcpState 3).sendShadows 1 (r.sections.filter (fun p => keep p.1))

/-- The validation of an action ends (R115, R119, R125). -/
def State.actionValidated (s : State) (x : BankAction) : State :=
  match x with
  | .check b =>
    (match s.validate b with
    | .error f => s.endAction x f
    | .ok r => (s.showWarm (differing s.rcp.sections r.sections)).endAction x { code := 0 })
  | .reload b =>
    (match s.validate b with
    | .error f => s.endAction x f
    | .ok r => s.applyReload r b)
  | .prefer false b =>
    (match s.validate b with
    | .error f => s.endAction x f
    | .ok _ => (s.updRecord (fun q => { q with prefRcp := b })).endAction x { code := 0 })
  | .prefer true b =>
    (match s.validateFw b with
    | .error c => s.endAction x { code := c }
    | .ok _ => (s.updRecord (fun q => { q with prefFw := b })).endAction x { code := 0 })
  | .prog _ _ _ _ => s

/-- Programming ends (R125). -/
def State.progEnd (s : State) (fw : Bool) (bank src len : Nat) (mismatch : Bool) : State :=
  let x := BankAction.prog fw bank src len
  let mark := s.rcp.unusable.filter (· != x.bank)
  if mismatch then
    let a := s.partProgram fw bank src len
    { a with rcp := { a.rcp with unusable := x.bank :: mark } }.endAction x { code := 0x71 }
  else
    let a := s.flashProgram (bankBase fw bank) (bankSize fw) (s.sramRead src len)
    { a with rcp := { a.rcp with unusable := mark } }.endAction x { code := 0 }

/-! LIVE commits. -/

/-- The switch at C (R121, R122): the new LIVE values are in force together. -/
def State.liveSwitch (s : State) (v : LiveSt) (bank : Nat) : State :=
  let types := v.sections.map (·.1)
  let old := s.rcp.sections
  let secs := (old.filter (fun p => !types.contains p.1)) ++ v.sections
  let r := { s.rcp with sections := secs }
  let a := { s with rcp := if types.contains 0x90 then { r with oldSvc := svcFields.map s.get, switchTick := v.c } else r }
  let b := if types.contains 0x21 then a.loadGains.journalChanges else a
  let c := if types.contains 0x90 then b.loadSvc else b
  let e := if types.contains 0x58 then
      let k := c.get F.PKE_CLS_STAT.BANK
      let n := classEntries (c.sec 0x58)
      let q := { c.pke with swap := none, swapAt := v.c, oldDefault := c.get F.PKE_CLS_STAT.DEFAULT }
      ({ c with pke := if k = 0 then { q with bankB := n } else { q with bankA := n } }).sets
        [(F.PKE_CLS_STAT.BANK, 1 - k), (F.PKE_CLS_STAT.COUNT, leAt (c.sec 0x58) 0 2), (F.PKE_CLS_STAT.DEFAULT, leAt (c.sec 0x58) 4 2), (F.PKE_CLS_CTRL.WRITE, 0)]
    else c
  (e.bump F.RCP_STATUS.GEN).reloadDone bank

/-- C − 128 with an acknowledgement missing (R121). -/
def State.liveLate (s : State) (v : LiveSt) (bank : Nat) : State :=
  if v.attempt < 3 then s.sendShadows (v.attempt + 1) v.sections else s.endReload (.reload bank) { code := 0x62 }

end Sys2Proof.Machine
end

