-- ==== Sys2Proof/Machine/Boot.lean ====
section
/-! DEFINITION. The commands of start, restart and starter mode (spec/04_startup.md, R127 to R141). -/

namespace Sys2Proof.Machine

/-- DOMAINS_GOOD (R130 step 3): every regulator reports good, and the calibration of the enabled routes begins. -/
def execDomainsGood (s : State) : Result :=
  .next (s.when (s.stage == 2) (fun s => (s.set F.BOOT_STATUS.STAGE 3).queueCal s.enRoutes))

/-- REGULATOR_TIMEOUT (R134): domain `d` has not reported good within 10 ms. -/
def execRegulatorTimeout (d : Nat) (s : State) : Result := onUnit (decide (d < 13)) (s.when (s.stage == 2) (·.failStart 0x21 d))

/-- FIRMWARE_VALIDATED (R128, R130 steps 5 and 6): in a start, or for FWPREFER. -/
def execFirmwareValidated (s : State) : Result :=
  .next (if s.stage = 4 then s.startFw
    else match s.rcp.action with
      | some (.prefer true b) => s.actionValidated (.prefer true b)
      | _ => s)

/-- SUP_READY (R484, R129). -/
def execSupReady (s : State) : Result := .next s.ready

/-- BOOT_LIMIT_EXPIRY (R129). -/
def execBootLimitExpiry (s : State) : Result :=
  .next (s.when (s.supply.on && decide (s.stage < 6) && !s.boot.starter && decide (s.boot.deadline ≤ s.raw)) (fun s => s.failStart 0x28 s.stage))

/-- STABLE_TIMER (R135, R141): 300 s after the start completed. -/
def execStableTimer (s : State) : Result :=
  .next (match s.boot.complete with
    | none => s
    | some t => s.when (s.stage == 6 && !s.bit F.BOOT_STATUS.STABLE && decide (t + 300 * 625000000 ≤ s.raw)) (fun s =>
        let a := ((s.updRecord (fun r => { r with stable := true, attempts := 0 })).showAttempts).set F.BOOT_STATUS.STABLE 1
        a.occur 66 0xFF 0 (6 + a.get F.BOOT_WHY.CODE * 256 + 2 ^ 16)))

/-- LAST_SEC_WRITE (R132): every 1,024 s in service. -/
def execLastSecWrite (s : State) : Result :=
  .next (s.when (s.stage == 6 && decide (s.boot.lastSecAt + 1024 * 625000000 ≤ s.raw)) (fun s =>
    ({ s with boot := { s.boot with lastSecAt := s.boot.lastSecAt + 1024 * 625000000 } }).updRecord (fun r => { r with lastSec := s.dsec })))

/-- A BOOT_CTRL write that sets one action bit with a key. -/
def State.bootWrite (s : State) (req : Requester) (bit key bank : Nat) : State :=
  s.writeBootCtrl req (2 ^ bit + bank % 2 * 256 + key % 65536 * 65536)

/-- BOOT_WARM (R140). -/
def execBootWarm (req : Requester) (key : Nat) (s : State) : Result :=
  .next (s.atFabric req (0x100008) (fun s => s.bootWrite req 0 key (s.get F.BOOT_CTRL.FWBANK)))

/-- BOOT_COLD (R140). -/
def execBootCold (req : Requester) (key : Nat) (s : State) : Result :=
  .next (s.atFabric req (0x100008) (fun s => s.bootWrite req 1 key (s.get F.BOOT_CTRL.FWBANK)))

/-- BOOT_STARTER (R136). -/
def execBootStarter (req : Requester) (key : Nat) (s : State) : Result :=
  .next (s.atFabric req (0x100008) (fun s => s.bootWrite req 2 key (s.get F.BOOT_CTRL.FWBANK)))

/-- BOOT_CLRFAIL (R138). -/
def execBootClrfail (req : Requester) (key : Nat) (s : State) : Result :=
  .next (s.atFabric req (0x100008) (fun s => s.bootWrite req 3 key (s.get F.BOOT_CTRL.FWBANK)))

/-- BOOT_FWPROG (R138, R125). -/
def execBootFwprog (req : Requester) (key bank : Nat) (s : State) : Result :=
  onUnit (decide (bank < 2)) (s.atFabric req (0x100008) (fun s => s.bootWrite req 4 key bank))

/-- BOOT_FWPREFER (R138, R125). -/
def execBootFwprefer (req : Requester) (key bank : Nat) (s : State) : Result :=
  onUnit (decide (bank < 2)) (s.atFabric req (0x100008) (fun s => s.bootWrite req 5 key bank))

/-! Recovery over MG0 (R139). The last field of a TFTP error names the failure code. -/

/-- A TFTP acknowledgement of a transfer's last block of 512 bytes. -/
def tftpAck (len : Nat) : List Byte := beBytes 2 4 ++ beBytes 2 (len / 512 + 1)

/-- A hexadecimal digit in ASCII. -/
def hexDigit (n : Nat) : Byte := BitVec.ofNat 8 (if n < 10 then 48 + n else 55 + n)

/-- A TFTP error 0 with the failure code as two hexadecimal digits. -/
def tftpError (code : Nat) : List Byte := beBytes 2 5 ++ beBytes 2 0 ++ [hexDigit (code / 16 % 16), hexDigit (code % 16), 0]

/-- A TFTP write of an image: staged in SRAM from address 0, programmed, and validated as by PREFER. -/
def State.tftpImage (s : State) (fw : Bool) (bank : Nat) (image : List Byte) : State :=
  let fail := fun (t : State) (c : Nat) => t.emit (.mg0Reply 1 (tftpError c))
  if s.rcp.action.isSome then fail s 0x63
  else if image = [] ∨ (if fw then 0xFFFFF0 else 0x800000) < image.length then fail s 0x05
  else
    let a := (s.sramStore 0 image).flashProgram (bankBase fw bank) (bankSize fw) image
    let b := { a with rcp := { a.rcp with unusable := a.rcp.unusable.filter (fun x => x != bank + if fw then 2 else 0) } }
    let code := if fw then (match b.validateFw bank with | .ok _ => 0 | .error c => c) else (match b.validate bank with | .ok _ => 0 | .error f => f.code)
    if code = 0 then
      ((b.updRecord (fun r => if fw then { r with prefFw := bank, attempts := 0 } else { r with prefRcp := bank, attempts := 0 })).showAttempts).emit
        (.mg0Reply 0 (tftpAck image.length))
    else fail b code

/-- TFTP_WRITE_IMAGE (R139). -/
def execTftpWriteImage (fw : Bool) (bank : Nat) (image : List Byte) (s : State) : Result :=
  onUnit (decide (bank < 2)) (s.when (s.stage == 7) (·.tftpImage fw bank image))

/-- TFTP_WRITE_RESTART (R139): a cold restart with STOP 0x01 after the final acknowledgement. -/
def execTftpWriteRestart (s : State) : Result :=
  .next (s.when (s.stage == 7) (fun s => (s.emit (.mg0Reply 0 (tftpAck 0))).coldRestart 1))

/-- TFTP_READ_STARTREC (R139): the start record in one data block. -/
def execTftpReadStartrec (s : State) : Result :=
  .next (s.when (s.stage == 7) (fun s => s.emit (.mg0Reply 2 (beBytes 2 3 ++ beBytes 2 1 ++ s.nv.record.bytes))))

/-- The number of an answer in starter mode: 3 ARP, 4 ICMP echo, 5 NDP, 6 ICMPv6 echo. -/
def echoNumber : EchoKind → Nat
  | .arp => 3
  | .icmp => 4
  | .ndp => 5
  | .icmp6 => 6

/-- What the answer carries: the base MAC address for ARP and NDP, the request's payload for an echo. -/
def echoBytes (k : EchoKind) (payload : List Byte) : List Byte :=
  match k with
  | .arp => portMac 4
  | .ndp => portMac 4
  | .icmp => payload
  | .icmp6 => payload

/-- MG0_RECOVERY_ECHO (R139): at the fixed addresses. -/
def execMg0RecoveryEcho (kind : EchoKind) (payload : List Byte) (s : State) : Result :=
  .next (s.when (s.stage == 7) (fun s => s.emit (.mg0Reply (echoNumber kind) (echoBytes kind payload))))

end Sys2Proof.Machine
end

