-- ==== Sys2Proof/Machine/Depart.lean ====
section
/-! DEFINITION. The commands of appointed departure (spec/12_departure.md). -/

namespace Sys2Proof.Machine

/-- Kinds of message that are appointed (R319). -/
def Ctx.appoints (x : Ctx) : Bool := decide (1 ≤ x.kind) && decide (x.kind ≤ 8)

/-- RESERVATION (R322, R323): a context asks its port's gate; `starts` are the start word edges the gate predicts, ascending, in
crumbs of the replica. -/
def execReservation (id : Nat) (starts : List Nat) (s : State) : Result :=
  .next (match s.ctx? id with
    | none => s
    | some x => s.when (x.appoints && !x.granted) (fun s => (s.clusterEvent 0xC x.port).reserve x starts))

/-- The signed margin in units of 0.1 ns (R325). -/
def marginOf (deadline now : Nat) : Int := ((deadline : Int) - now) / 32

/-- SEALED_MESSAGE_ARRIVAL (R325): a committed and sealed message is wholly in the gate's buffer; after D it collapses LATE. -/
def execSealedMessageArrival (id : Nat) (s : State) : Result :=
  .next (match s.ctx? id with
    | none => s
    | some x => s.when (x.granted && x.sealed_ && x.committed && x.appoints) (fun s =>
      let n := x.port
      match (s.pt n).cal.find? (fun r => r.ctx == id) with
      | none => s
      | some r =>
        let now := s.replica (n + 1)
        let m := marginOf r.deadline now
        let a := s.setISat (F.APD_MARGIN.LAST n) m
        let b := if m < a.getI (F.APD_MARGIN.MIN n) then a.setISat (F.APD_MARGIN.MIN n) m else a
        if r.deadline < now then b.collapse n id 5 0 true
        else b.updPort n (fun p => { p with cal := p.cal.map (fun q => if q.ctx = id then { q with arrived := some now } else q) })))

/-- DEPARTURE_RELEASE (R324, R330): the port's next appointment, once its start edge has come. -/
def execDepartureRelease (n : Nat) (s : State) : Result :=
  onUnit (decide (n < 4)) (match (s.pt n).cal.head? with
    | none => s
    | some r => s.when (decide (r.e ≤ s.replica (n + 1))) (·.releaseOne n r))

/-- COMMIT_RECORD (R357): a context whose lane operations have all returned and whose message is sealed. -/
def execCommitRecord (id : Nat) (s : State) : Result :=
  .next (match s.ctx? id with
    | none => s
    | some x => s.when (x.kind != 0 && x.sealed_ && x.ops == 0 && !x.committed && (!x.appoints || x.granted)) (fun s => (s.engineEvent x.engine 0xC).commit x))

/-- Every departure counter of a port (R341). -/
def apdCounters (n : Nat) : List Fld :=
  [F.APD_APPT.APPT n, F.APD_SENT.SENT n, F.APD_RESEAL.RESEAL n, F.APD_FB.TWOSTEP n, F.APD_FB.FREE n, F.APD_DROP.DROP n, F.APD_DROP.TRUNC n] ++
    (List.range 6).flatMap (fun j => [F.APD_COLL.CA n j, F.APD_COLL.CB n j])

/-- APD_CLRCNT (R341). -/
def execApdClrcnt (req : Requester) (n : Nat) (s : State) : Result :=
  onUnit (decide (n < 4)) (s.atDomain req (0xA00104 + 0x100 * n) (1) (·.clearAll (apdCounters n)))

/-- APD_CLRMARG (R325). -/
def execApdClrmarg (req : Requester) (n : Nat) (s : State) : Result :=
  onUnit (decide (n < 4)) (s.atDomain req (0xA00104 + 0x100 * n) (2) (fun s => s.set (F.APD_MARGIN.MIN n) 0x7FFF))

/-- PAUSE_END (R338): an honoured pause runs out. -/
def execPauseEnd (n : Nat) (s : State) : Result :=
  onUnit (decide (n < 4)) (match (s.pt n).pause with
    | none => s
    | some u => s.when (decide (u ≤ s.replica (n + 1))) (·.updPort n (fun p => { p with pause := none })))

end Sys2Proof.Machine
end

