-- ==== Sys2Proof/Machine/Panel.lean ====
section
/-! DEFINITION. The commands of the front panel (spec/21_panel.md, R537 to R551). -/

namespace Sys2Proof.Machine

/-- Change a key's, an electrode's inner state. -/
def State.updKey (s : State) (k : Nat) (f : KeySt → KeySt) : State := { s with pnl := { s.pnl with keys := modAt s.pnl.keys k f } }
def State.updTouch (s : State) (t : Nat) (f : TouchSt → TouchSt) : State := { s with pnl := { s.pnl with touch := modAt s.pnl.touch t f } }

/-- R551: a bit of PNL_KEV or PNL_TEV. -/
def State.pnlBit (s : State) (f : Fld) (i : Nat) : State := s.flagBit f i 83 i

/-- Set or clear one bit of a field. -/
def State.putBit (s : State) (f : Fld) (i : Nat) (b : Bool) : State := s.set f (putBits (s.get f) i 1 (if b then 1 else 0))

/-- HOLD of PNL_KCFG in ticks. -/
def State.holdTicks (s : State) : Nat := s.get F.PNL_KCFG.HOLD * 625000

/-- R537: one sample of a key: DEB samples in a row against its state change it. -/
def State.sampleKey (s : State) (k : Nat) (low : Bool) : State :=
  let down := (s.get F.PNL_KSTAT.KDOWN).testBit k
  let run := (s.pnl.keys.getD k {}).run + 1
  if low = down then s.updKey k (fun x => { x with run := 0 })
  else if run < s.get F.PNL_KCFG.DEB then s.updKey k (fun x => { x with run := run })
  else
    let a := s.putBit F.PNL_KSTAT.KDOWN k low
    if low then (a.updKey k (fun _ => { downAt := s.raw })).pnlBit F.PNL_KEV.KPRESS k else (a.updKey k (fun _ => {})).pnlBit F.PNL_KEV.KREL k

/-- R543, R544: one sample of the zeroise balls. -/
def State.sampleZero (s : State) (a b : Bool) : State :=
  let p := s.pnl
  let t : State := { s with pnl := { p with zBoth := if a && b then p.zBoth + 1 else 0, zOne := if a != b then p.zOne + 1 else 0, zDone := p.zDone && a && b, zFaulted := p.zFaulted && (a != b) } }
  ((t.setBit F.PNL_ZSTAT.A a).setBit F.PNL_ZSTAT.B b).setBit F.PNL_ZSTAT.COUNTING (a && b && !t.pnl.zDone)

/-- KEY_SAMPLE (R537, R543): the millisecond's samples of the keys (bit k of `low`: Kk reads low) and of ZERO_A and ZERO_B. -/
def execKeySample (low : Nat) (zeroA zeroB : Bool) (s : State) : Result :=
  .next (s.when s.supply.on (fun s => ((List.range 8).foldl (fun t k => t.sampleKey k (low.testBit k)) s).sampleZero zeroA zeroB))

/-- KACT of a key (R538). -/
def State.kact (s : State) (k : Nat) : Nat := bitsOf (s.get F.PNL_KACT.ACT) (2 * k) 2

/-- KEY_HOLD (R537, R538): a press has lasted HOLD; with KACT 2 a swap is requested unless the unit is SINGLE. -/
def execKeyHold (k : Nat) (s : State) : Result :=
  let x := s.pnl.keys.getD k {}
  onUnit (decide (k < 8)) (s.when ((s.get F.PNL_KSTAT.KDOWN).testBit k && !x.held && decide (x.downAt + s.holdTicks ≤ s.raw)) (fun s =>
    let a := (s.updKey k (fun x => { x with held := true })).pnlBit F.PNL_KEV.KHOLD k
    if a.kact k = 2 ∧ a.pairState ≠ 0 then a.requestSwap else a))

/-! Touch (R539): capacitances in units of 10 fF. -/

/-- A touch ends. -/
def State.endTouch (s : State) (t : Nat) : State := (s.putBit F.PNL_KSTAT.TDOWN t false).pnlBit F.PNL_TEV.TREL t

/-- Show an electrode's sample and baseline. -/
def State.showTouch (s : State) (t c : Nat) : State :=
  (s.setSat (F.PNL_TCAP.C t) c).setSat (F.PNL_TCAP.BASE t) (((s.pnl.touch.getD t {}).base.getD 0).floor.toNat)

/-- One sample of an electrode. Out of range for 100 samples it reports no touches. -/
def State.sampleTouch (s : State) (t c : Nat) : State :=
  let x := s.pnl.touch.getD t {}
  let b := x.base.getD c
  let down := (s.get F.PNL_KSTAT.TDOWN).testBit t
  let inside := decide (500 ≤ c) && decide (c ≤ 5000)
  let bad := if inside then 0 else x.bad + 1
  let fault := !inside && (x.fault || decide (100 ≤ bad))
  let thr : Rat := s.get F.PNL_TCFG.TTHR
  let touched := !fault && (if down then decide (thr / 2 ≤ (c : Rat) - b) else decide (thr ≤ (c : Rat) - b))
  let held := touched && down && (x.held || decide (x.downAt + s.holdTicks ≤ s.raw))
  let y : TouchSt := { base := some (if touched then b else b + ((c : Rat) - b) / 256), downAt := if down then x.downAt else s.raw, held := held, bad := bad, fault := fault }
  let a := (s.updTouch t (fun _ => y)).showTouch t c
  let e := if fault && !x.fault then a.pnlBit F.PNL_TEV.TFLT t else a
  let f := if touched && !down then (e.putBit F.PNL_KSTAT.TDOWN t true).pnlBit F.PNL_TEV.TPRESS t else if !touched && down then e.endTouch t else e
  if held && !x.held then f.pnlBit F.PNL_TEV.THOLD t else f

/-- TOUCH_SAMPLE (R539): the millisecond's four capacitances. -/
def execTouchSample (caps : List Nat) (s : State) : Result :=
  .next (s.when s.supply.on (fun s => (List.range 4).foldl (fun t k => match caps[k]? with | some c => t.sampleTouch k c | none => t) s))

/-- TOUCH_TIMEOUT (R539): a touch of 60 s is reported as a release, and the baseline becomes the latest sample. -/
def execTouchTimeout (t : Nat) (s : State) : Result :=
  let x := s.pnl.touch.getD t {}
  let c := s.get (F.PNL_TCAP.C t)
  onUnit (decide (t < 4)) (s.when ((s.get F.PNL_KSTAT.TDOWN).testBit t && decide (x.downAt + 37500000000 ≤ s.raw)) (fun s =>
    ((s.updTouch t (fun x => { x with base := some c })).endTouch t).showTouch t c))

/-! LEDs. -/

/-- R540: the condition of a SRC; none for a SRC that is not in the table. -/
def State.ledCond (s : State) (n src : Nat) : Option Bool :=
  let lo := src % 16
  match src / 16 with
  | 0 => if lo = 0 then some (s.bit (F.PNL_LED.ON n)) else if lo = 1 then some true else none
  | 1 => some (s.bit (F.REF_STAT.PRESENT lo))
  | 2 => some (!s.bit F.REF_SELSTAT.NONE && s.get F.REF_SELSTAT.SEL == lo)
  | 3 => match lo with
    | 0 => some (s.srvState == 2)
    | 1 => some (s.srvState == 3)
    | 2 => some (s.bit F.OSC_STAT.PROOFING)
    | 3 => some (s.bit F.OSC_STAT.LOAD_UNTRAINED)
    | 4 => some (decide (s.get F.REF_EBTHR.THR < s.errb))
    | 5 => some (s.role == 1)
    | 6 => some (s.pairState == 6)
    | 7 => some (s.bit F.REF_ANT.OPEN || s.bit F.REF_ANT.SHORT)
    | 8 => some s.boot.starter
    | _ => none
  | _ => none

/-- R540: whether a blink pattern is in its lit phase, by the milliseconds since the disciplined second. -/
def blinkLit (mode ms : Nat) : Bool :=
  match mode with
  | 0 => true
  | 1 => decide (ms < 500)
  | 2 => decide (ms % 250 < 125)
  | _ => decide (ms < 50)

/-- R538: a pressed key runs the lamp test. -/
def State.lampTest (s : State) : Bool := (List.range 8).any (fun k => (s.get F.PNL_KSTAT.KDOWN).testBit k && s.kact k == 1)

/-- R540: whether an LED is lit now. -/
def State.ledLit (s : State) (n : Nat) : Bool :=
  s.lampTest || (s.get (F.PNL_LED.CUR n) != 0 && ((s.ledCond n (s.get (F.PNL_LED.SRC n))).getD false != s.bit (F.PNL_LED.INV n)) &&
    blinkLit (s.get (F.PNL_LED.MODE n)) (dtNs (s.dnow.getD 0) / 1000000))

/-- LED_UPDATE (R540): every 1 ms. -/
def execLedUpdate (s : State) : Result :=
  .next (s.when s.supply.on (fun s => (List.range 16).foldl (fun t n => t.setBit (F.PNL_LED.LIT n) (s.ledLit n)) s))

/-- LEDOPEN (R541): a lit driver has stayed at its compliance limit for 10 ms. -/
def execLedopen (n : Nat) (s : State) : Result := onUnit (decide (n < 16)) (s.when (s.bit (F.PNL_LED.LIT n)) (·.flag (F.PNL_LED.LEDOPEN n) 84 n))

/-! The guarded zeroise input. -/

/-- ZEROISE_COUNT_COMPLETE (R543): both balls have been asserted for ZHOLD; one completion for each assertion. -/
def execZeroiseCountComplete (s : State) : Result :=
  .next (s.when (!s.pnl.zDone && decide (s.get F.PNL_ZCFG.ZHOLD * 100 ≤ s.pnl.zBoth) && decide (0 < s.pnl.zBoth)) (fun s =>
    ((({ s with pnl := { s.pnl with zDone := true } } : State).set F.PNL_ZSTAT.COUNTING 0).flag F.PNL_ZSTAT.ZSTART 85 0).zeroise))

/-- ZFAULT (R544): exactly one ball has been asserted for 1 s. -/
def execZfault (s : State) : Result :=
  .next (s.when (!s.pnl.zFaulted && decide (1000 ≤ s.pnl.zOne)) (fun s =>
    ({ s with pnl := { s.pnl with zFaulted := true } } : State).flag F.PNL_ZSTAT.ZFAULT 85 0))

end Sys2Proof.Machine
end

