-- ==== Sys2Proof/Machine/Pmu.lean ====
section
/-! DEFINITION. The commands of performance monitoring (spec/20_pmu.md). -/

namespace Sys2Proof.Machine

/-- Whether a set and a counter of it exist. -/
def pmuExists (set : PmuSet) (j : Nat) : Bool :=
  decide (j < pmuCount set) && (match set with | .engine k => decide (k < 16) | .cluster => true)

/-- PMU_COUNTER_OVERFLOW (R523 to R525): counter j of a set counts `n` occurrences of its event, with which it may pass from
0xFFFF_FFFF to 0. An event that the model counts itself, or a counter that does not count, changes nothing. -/
def execPmuCounterOverflow (set : PmuSet) (j n : Nat) (s : State) : Result :=
  onUnit (pmuExists set j) (s.when (s.pmuRuns set j && !s.bit (pmuChain set j) && s.get (pmuEvt set j) != 0 && !pmuOwn set (s.get (pmuEvt set j)) && decide (n < 2 ^ 32))
    (fun s => match set with
      | .engine k => s.engineCount k j n
      | .cluster => (s.pmuAdd .cluster 16 j n).1))

/-- The offset of a counter's control register (R535's tables) and of its count. -/
def pmuCtlOff : PmuSet → Nat → Nat
  | .engine k, j => 0x1200100 + 0x40 * k + 4 * j
  | .cluster, j => 0x1200800 + 4 * j
def pmuCntOff : PmuSet → Nat → Nat
  | .engine k, j => 0x1200120 + 0x40 * k + 4 * j
  | .cluster, j => 0x1200840 + 4 * j

/-- A write of a counter's control register (R524, R526, R529). -/
def State.writePmuCtl (s : State) (req : Requester) (set : PmuSet) (j data : Nat) : State :=
  let chain := match set with | .engine _ => data.testBit 7 | .cluster => data.testBit 9
  if req.isUser || (j == 0 && chain) then s.accessError req 7 (pmuCtlOff set j)
  else match set with
    | .engine k => s.sets [(F.PMU_ECTL.EVT k j, bitsOf data 0 6), (F.PMU_ECTL.EN k j, bitsOf data 6 1), (F.PMU_ECTL.CHAIN k j, bitsOf data 7 1),
        (F.PMU_ECTL.SMP k j, bitsOf data 8 1), (F.PMU_ECTL.IRQ k j, bitsOf data 9 1), (F.PMU_ECTL.THR k j, bitsOf data 12 3)]
    | .cluster => s.sets [(F.PMU_CCTL.EVT j, bitsOf data 0 8), (F.PMU_CCTL.EN j, bitsOf data 8 1), (F.PMU_CCTL.CHAIN j, bitsOf data 9 1),
        (F.PMU_CCTL.IRQ j, bitsOf data 10 1), (F.PMU_CCTL.FILTEN j, bitsOf data 11 1), (F.PMU_CCTL.FILT j, bitsOf data 12 7)]

/-- A write of a count (R526): an overflow that was flagged stays. -/
def State.writePmuCnt (s : State) (req : Requester) (set : PmuSet) (j data : Nat) : State :=
  if req.isUser then s.accessError req 7 (pmuCntOff set j) else s.set (pmuCnt set j) data

/-- PMU_COUNTER_WRITE (R526): of a control register, or of a count. -/
def execPmuCounterWrite (req : Requester) (set : PmuSet) (j : Nat) (ctl : Bool) (data : Nat) (s : State) : Result :=
  onUnit (pmuExists set j) (if ctl then s.atDomain req (pmuCtlOff set j) data (·.writePmuCtl req set j data)
    else s.atDomain req (pmuCntOff set j) data (·.writePmuCnt req set j data))

/-- A write of PMU_CTRL (R527, R529, R535). -/
def State.writePmuCtrl (s : State) (req : Requester) (data : Nat) : State :=
  if req.isUser then s.accessError req 7 0x1200000
  else
    let a := s.sets [(F.PMU_CTRL.USER_EN, bitsOf data 0 1), (F.PMU_CTRL.FREEZE, bitsOf data 1 1), (F.PMU_CTRL.FRZOVF, bitsOf data 2 1)]
    if data.testBit 3 then a.clrAll else a

/-- The word of PMU_CTRL without its action. -/
def State.pmuCtrlWord (s : State) : Nat := s.get F.PMU_CTRL.USER_EN + 2 * s.get F.PMU_CTRL.FREEZE + 4 * s.get F.PMU_CTRL.FRZOVF

/-- PMU_FREEZE_WRITE (R527). -/
def execPmuFreezeWrite (req : Requester) (on : Bool) (s : State) : Result :=
  let data := putBits s.pmuCtrlWord 1 1 (if on then 1 else 0)
  .next (s.atDomain req 0x1200000 data (·.writePmuCtrl req data))

/-- PMU_CLRALL (R535). -/
def execPmuClrall (req : Requester) (s : State) : Result :=
  let data := s.pmuCtrlWord + 8
  .next (s.atDomain req 0x1200000 data (·.writePmuCtrl req data))

/-- PRECISE_SAMPLE_TAG (R532): a tag falls due on an engine; one that holds a tag skips it. -/
def execPreciseSampleTag (k : Nat) (s : State) : Result :=
  onUnit (decide (k < 16)) (s.when (s.bit F.PMU_PS_CTRL.EN && (s.get F.PMU_PS_ENG.MASK).testBit k) (fun s =>
    if s.pmu.tags.contains k then s.bumpSat F.PMU_PS_SKIP.SKIP else s.updPmu (fun p => { p with tags := p.tags ++ [k] })))

/-- PRECISE_SAMPLE_RECORD (R533): the tagged instruction of an engine retires. -/
def execPreciseSampleRecord (k pc insn thread lat flags ctx : Nat) (s : State) : Result :=
  onUnit (decide (k < 16)) (s.when (s.pmu.tags.contains k) (fun s =>
    let a := s.updPmu (fun p => { p with tags := p.tags.filter (· != k) })
    a.pushSample (a.sampleRec pc insn k (thread % 8) 0 0 (min 65535 lat) (flags % 64) 0xFF ctx)))

/-- PMU_SR_CONS_WRITE (R534). -/
def execPmuSrConsWrite (req : Requester) (value : Nat) (s : State) : Result :=
  .next (s.atDomain req 0x1200918 value (fun s => if req.isUser then s.accessError req 7 0x1200918 else s.writeSrCons req value))

end Sys2Proof.Machine
end

