-- ==== Sys2Proof/Machine/Twin.lean ====
section
/-! DEFINITION. The commands of the redundant pair (spec/17_pair.md). A record command carries the lane and the record's bytes. -/

namespace Sys2Proof.Machine

/-- A command of the pair ends: a warm restart that waits for a swap goes on once the swap has ended (R140). -/
def State.ends (t : State) : Result := .next t.resumeWarm

/-- A record arrives on a lane in block lock. -/
def State.laneRecord (s : State) (type lane : Nat) (bytes : List Byte) : Result :=
  onUnit (decide (lane < 2)) (s.when (if lane = 0 then s.pair.lane0 else s.pair.lane1) (·.receive type bytes)).resumeWarm

/-- HELLO_RECORD (R455, R456). -/
def execHelloRecord (lane : Nat) (bytes : List Byte) (s : State) : Result := s.laneRecord 0x01 lane bytes

/-- PPSM_RECORD (R466). -/
def execPpsmRecord (lane : Nat) (bytes : List Byte) (s : State) : Result := s.laneRecord 0x02 lane bytes

/-- HEALTH_RECORD (R468). -/
def execHealthRecord (lane : Nat) (bytes : List Byte) (s : State) : Result := s.laneRecord 0x03 lane bytes

/-- BOUND_RECORD (R477). -/
def execBoundRecord (lane : Nat) (bytes : List Byte) (s : State) : Result := s.laneRecord 0x04 lane bytes

/-- RESULT_JOURNAL_RECORD (R462). -/
def execResultJournalRecord (lane : Nat) (bytes : List Byte) (s : State) : Result := s.laneRecord 0x10 lane bytes

/-- UPDATE_RECORD (R462). -/
def execUpdateRecord (lane : Nat) (bytes : List Byte) (s : State) : Result := s.laneRecord 0x11 lane bytes

/-- SELECT_RECORD (R462). -/
def execSelectRecord (lane : Nat) (bytes : List Byte) (s : State) : Result := s.laneRecord 0x12 lane bytes

/-- LEAP_RECORD (R463). -/
def execLeapRecord (lane : Nat) (bytes : List Byte) (s : State) : Result := s.laneRecord 0x13 lane bytes

/-- DIGEST_RECORD (R462, R467). -/
def execDigestRecord (lane : Nat) (bytes : List Byte) (s : State) : Result := s.laneRecord 0x14 lane bytes

/-- PARAM_RECORD (R462). -/
def execParamRecord (lane : Nat) (bytes : List Byte) (s : State) : Result := s.laneRecord 0x15 lane bytes

/-- SRVSTATE_RECORD (R464). -/
def execSrvstateRecord (lane : Nat) (bytes : List Byte) (s : State) : Result := s.laneRecord 0x16 lane bytes

/-- GRANT_RECORD (R463). -/
def execGrantRecord (lane : Nat) (bytes : List Byte) (s : State) : Result := s.laneRecord 0x18 lane bytes

/-- NTSKEY_RECORD (R463). -/
def execNtskeyRecord (lane : Nat) (bytes : List Byte) (s : State) : Result := s.laneRecord 0x19 lane bytes

/-- SNAP_RECORD (R464). -/
def execSnapRecord (lane : Nat) (bytes : List Byte) (s : State) : Result := s.laneRecord 0x1A lane bytes

/-- VREQ_RECORD (R467). -/
def execVreqRecord (lane : Nat) (bytes : List Byte) (s : State) : Result := s.laneRecord 0x20 lane bytes

/-- VERDICT_RECORD (R469). -/
def execVerdictRecord (lane : Nat) (bytes : List Byte) (s : State) : Result := s.laneRecord 0x21 lane bytes

/-- SWAP_RECORD (R475). -/
def execSwapRecord (lane : Nat) (bytes : List Byte) (s : State) : Result := s.laneRecord 0x22 lane bytes

/-- ACK_RECORD (R461). -/
def execAckRecord (lane : Nat) (bytes : List Byte) (s : State) : Result := s.laneRecord 0x23 lane bytes

/-- TAKE_RECORD (R471). -/
def execTakeRecord (lane : Nat) (bytes : List Byte) (s : State) : Result := s.laneRecord 0x24 lane bytes

/-- KEYX_RECORD (R465). -/
def execKeyxRecord (lane : Nat) (bytes : List Byte) (s : State) : Result := s.laneRecord 0x25 lane bytes

/-! What each unit sends (R460). -/

/-- HELLO_SEND: every 1 ms. -/
def execHelloSend (s : State) : Result :=
  State.ends (s.when s.paired (fun s =>
    let a := s.reviewTwin
    (a.sendRecord 0x01 (leBytes 8 Config.serial ++ leBytes 1 (a.get F.GLB_STRAP.HOME) ++ leBytes 1 a.role ++ leBytes 1 a.pairState ++
      leBytes 1 (a.get F.PAIR_STAT.VERD) ++ a.rcpDigest ++ leBytes 4 a.pairCheck)).reviewKeys))

/-- HEALTH_SEND: every 1 ms. -/
def execHealthSend (s : State) : Result :=
  State.ends (s.when s.paired (fun s =>
    let p := s.pair
    (s.sendRecord 0x03 (leBytes 1 (s.get F.PAIR_STAT.VERD) ++ leBytes 1 ((if p.atChk then 1 else 0) + (if p.atPass then 2 else 0)) ++
      leBytes 2 p.checked ++ leBytes 2 p.agreed ++ leBytes 2 0 ++ leBytes 4 s.selfB ++ leBytes 4 s.uPair ++
      leBytes 4 (min unbounded (roundAway p.xWorst).toNat))).showUPair))

/-- BOUND_SEND: every 16 µs, by the active; the largest ERRB less U_PAIR of the next 64 µs, which grows or stays. -/
def execBoundSend (s : State) : Result :=
  State.ends (s.when (s.role == 1) (fun s =>
    let e := fun (t : Nat) => let e := s.errbAt t; if e = unbounded then e else e - min e (s.uPairAt t)
    s.sendRecord 0x04 (leBytes 4 (max (e s.raw) (e (s.raw + 40000))) ++ leBytes 4 0)))

/-- DIGEST_SEND (R462): at each raw tick that is a multiple of 625,000; what has changed goes before it. -/
def execDigestSend (s : State) : Result :=
  State.ends (s.when (s.journals && s.raw % 625000 == 0) (fun s =>
    let a := s.journalChanges
    a.sendRecord 0x14 (leBytes 4 (a.pair.seq + 2 ^ 32 - 1) ++ a.digest ++ leBytes 4 0)))

/-- ACK_SEND (R461): every 100 µs and on a gap. -/
def execAckSend (s : State) : Result :=
  State.ends (s.when (s.paired && s.pair.any) (fun s => if s.role = 2 ∧ s.pair.phase = 1 then s.askSync else s.ackNow 0))

/-! Lanes, PPS, roles. -/

/-- Show LANE1: one lane carries the stream (R458). -/
def State.showPairLanes (s : State) : State := (s.setBit F.PAIR_STAT.LANE1 (s.pair.any && !s.pair.both)).reviewTwin.reviewClean

/-- LANE_LOCK_LOSS (R458): a lane leaves block lock. An active unit that loses both enters PART (R457). -/
def execLaneLockLoss (lane : Nat) (s : State) : Result :=
  onUnit (decide (lane < 2)) (s.when (s.paired && (if lane = 0 then s.pair.lane0 else s.pair.lane1)) (fun s =>
    let a := (s.updPair (fun p => if lane = 0 then { p with lane0 := false } else { p with lane1 := false })).pairFlag F.PAIR_STAT.LINKFLT
    let b := if a.pair.any then a else
      let c := a.updPair (fun p => { p with downAt := s.raw, hello := false, next := none, early := [], gapAt := none, rekey := none, seenActive := 0, seenIdle := 0 })
      if c.role = 1 then ((c.sets [(F.PAIR_STAT.STATE, 3), (F.PAIR_STAT.ARMED, 0)]).updPair (fun p => { p with exch := none })).cancelSwap.showUPair else c
    b.showPairLanes)).resumeWarm

/-- PL0_BLOCK_LOCK (R458): a lane regains block lock. -/
def execPl0BlockLock (lane : Nat) (s : State) : Result :=
  onUnit (decide (lane < 2)) (s.when s.paired (fun s =>
    (s.updPair (fun p => if lane = 0 then { p with lane0 := true } else { p with lane1 := true })).showPairLanes))

/-- TWIN_LOST (R469): both lanes out of block lock for 500 ns with ALERT# held by the twin: the standby takes control; with
ALERT# free it stays standby, in PART. -/
def execTwinLost (alertLow : Bool) (s : State) : Result :=
  State.ends (s.when (s.paired && s.role == 2 && !s.pair.any && decide (s.pair.downAt + 313 ≤ s.raw)) (fun s =>
    if alertLow && !s.supply.alert then s.takeover else if s.pairState = 3 then s else s.standbyPart))

/-- PPI_EDGE (R453, R457, R466): a PPI edge is stamped, the level 200 µs later tells the twin's role, and m goes to the twin. -/
def execPpiEdge (half code kStop : Nat) (active : Bool) (s : State) : Result :=
  onUnit (decide (half < 2)) (s.when s.paired (fun s =>
    let p := s.pair
    let a0 := s.updPair (fun q => { q with ppiAt := some s.raw, seenActive := if active then p.seenActive + 1 else 0, seenIdle := if active then 0 else p.seenIdle + 1 })
    let a := match (List.range 24).find? (fun n => s.tdcUse n == 4) with
      | none => a0
      | some n =>
        let t := a0.tdcEdge n half code kStop
        match (t.td n).stamps.head? with
        | none => t
        | some (at16, tick) =>
          if tick ≠ s.raw ∨ (a0.td n).stamps.head? = some (at16, tick) then t
          else
            let pr := t.pairAt (at16 / 16)
            let sec := (pr.dtime (at16 / 16)).getD 0
            let m := (at16 : Int) - pr.nearestBoundary 65536 at16
            let k := (sec + fracPerSec / 2) / fracPerSec
            ((t.updPair (fun q => { q with mOwn := some (k, m, at16 / 16) })).sendRecord 0x02 (leBytes 8 k ++ leBytes 8 (ofSigned 64 m))).tryX
    let b := a.reviewTwin
    if b.role = 1 ∧ b.pair.any = false ∧ 2 ≤ b.pair.seenActive then
      (if !b.homeKnown then (if b.pair.waitFrom.isNone then b.updPair (fun q => { q with waitFrom := some b.raw }) else b)
       else if b.isHome then b else b.backToSeek)
    else b)).resumeWarm

/-- PPI_STALE (R466): no x for 2 s. -/
def execPpiStale (s : State) : Result :=
  State.ends (s.when (s.paired && s.pair.stale s.raw) (fun s => ((s.pairFlag F.PAIR_STAT.PPSFLT).reviewTwin.reviewClean).showUPair))

/-- SEEK_EVALUATION (R455): every 1 ms; `alertLow` is the level of the ALERT# line. -/
def execSeekEvaluation (alertLow : Bool) (s : State) : Result :=
  State.ends (s.when (s.pairState == 1) (·.seek (alertLow && !s.supply.alert)))

/-- HOME_RANDOM_WAIT (R456, R457): the wait ends: in SEEK the unit becomes ACTIVE in PART unless PPI has shown the twin active;
an ACTIVE unit returns to SEEK. -/
def execHomeRandomWait (s : State) : Result :=
  State.ends (match s.pair.waitFrom with
    | none => s
    | some t => s.when (decide (t + 625000000 ≤ s.raw)) (fun s =>
        if s.pairState = 1 then (if 0 < s.pair.seenActive then s.standbyPart else s.becomeActive 3)
        else if s.role = 1 then s.backToSeek else s.updPair (fun p => { p with waitFrom := none })))

/-- JOURNAL_GAP_TIMEOUT (R461): a gap not filled within 100 µs. -/
def execJournalGapTimeout (s : State) : Result :=
  State.ends (match s.pair.gapAt with
    | none => s
    | some t => s.when (decide (t + 62500 ≤ s.raw)) (·.gapLost))

/-- SELF_CHECK (R468): once per second. -/
def execSelfCheck (s : State) : Result := State.ends (s.when s.paired (fun s => s.selfCheck.reviewClean))

/-- DISPUTE_EXCHANGE (R470): every 1 s in DISPUTE. -/
def execDisputeExchange (s : State) : Result := State.ends (s.when (s.pairState == 6) (·.openExchange 3))

/-- WTR_EXPIRY (R474): the home unit, standby, has been CLEAN for WTR seconds. -/
def execWtrExpiry (s : State) : Result :=
  State.ends (match s.pair.wtrFrom with
    | none => s
    | some t => s.when (s.bit F.PAIR_STAT.CLEAN && s.bit F.PAIR_STAT.HOME && s.role == 2 && s.pair.swap.isNone &&
        decide (t + s.get F.PAIR_CFG.WTR * 625000000 ≤ s.raw)) (·.askSwap))

/-- SWAP_BOUNDARY (R475): at N; a swap the standby never answered falls. -/
def execSwapBoundary (s : State) : Result :=
  State.ends (match s.pair.swap with
    | none => s
    | some (n, ok) => s.when (decide (n ≤ s.dsec)) (fun s => if ok then s.swapRoles else s.cancelSwap))

/-- A write of PAIR_CTRL: both actions stand behind KEY; only one at a time (R497 cause 8). -/
def State.writePairCtrl (s : State) (req : Requester) (data : Nat) : State :=
  if bitsOf data 0 2 = 0 then s
  else if bitsOf data 16 16 ≠ 0x9612 then s.accessError req 6 0xF0000C
  else (s.when (data.testBit 0) State.requestSwap).when (data.testBit 1 && s.inStep) State.askSync

/-- PAIR_SWAP (R474). -/
def execPairSwap (req : Requester) (key : Nat) (s : State) : Result :=
  .next (s.atDomain req (0xF0000C) (1 + key % 65536 * 65536) (fun s => s.writePairCtrl req (1 + key % 65536 * 65536)))

/-- PAIR_RESYNC (R464): the standby runs SYNC again. -/
def execPairResync (req : Requester) (key : Nat) (s : State) : Result :=
  .next (s.atDomain req (0xF0000C) (2 + key % 65536 * 65536) (fun s => s.writePairCtrl req (2 + key % 65536 * 65536)))

end Sys2Proof.Machine
end

