-- ==== Sys2Proof/Machine/Vault.lean ====
section
/-! DEFINITION. The commands of the key vault (spec/16_vault.md). A KVT_OP command carries the word written; its CODE is the
command's own. -/

namespace Sys2Proof.Machine

/-- A write of KVT_OP: the fields of R451's table; an undefined CODE discards the write. -/
def State.setKvtOp (s : State) (q data : Nat) : State :=
  s.sets [(F.KVT_OP.CODE q, bitsOf data 0 4), (F.KVT_OP.TREE q, bitsOf data 4 1), (F.KVT_OP.CURVE q, bitsOf data 5 1),
    (F.KVT_OP.RAWPEER q, bitsOf data 6 1), (F.KVT_OP.SLOT q, bitsOf data 8 8), (F.KVT_OP.WSLOT q, bitsOf data 16 8)]

/-- The 12-byte context of a requester. -/
def State.opCtx (s : State) (q : Nat) : List Byte := [0, 1, 2].flatMap (fun n => leBytes 4 (s.get (F.KVT_OPCTX.CTX q n)))

/-- The request that a requester's registers spell. -/
def State.opReq (s : State) (q : Nat) : VaultReq :=
  { by_ := q, code := s.get (F.KVT_OP.CODE q), tree := s.bit (F.KVT_OP.TREE q), raw := s.bit (F.KVT_OP.RAWPEER q), slot := s.get (F.KVT_OP.SLOT q), wslot := s.get (F.KVT_OP.WSLOT q), ctx := s.opCtx q, addr := s.get (F.KVT_OPADDR.ADDR q) * 64 }

/-- Queue an update (R441, R445): BUSY where eight wait, PFAIL once power-fail has begun. -/
def State.startUpdate (s : State) (q : Nat) : State :=
  if s.bit F.KVT_STAT.PFAIL then s.opEnd q 9 false
  else if 8 ≤ s.kvt.queue.length then s.opEnd q 1 false
  else ((s.set (F.KVT_OP.START q) 1).enqueue (s.opReq q)).showQueue

/-- EXPORT (R434). -/
def State.runExport (s : State) (q : Nat) : State :=
  let r := s.opReq q
  let x := s.slot r.slot
  let w := s.slot r.wslot
  if s.bit F.KVT_STAT.DBG then s.opEnd q 10 false
  else if x.state = 0 then s.opEnd q 2 false
  else if r.slot < 2 then s.opEnd q 8 false
  else
    let e := s.slotRefuses r.slot [0, 1, 3]
    if e ≠ 0 then s.opEnd q e false
    else if w.use ≠ 2 then s.opEnd q 3 false
    else if w.state ≠ 2 ∨ w.cert = false then s.opEnd q 8 false
    else (((s.sramStore r.addr (sliceB (Config.keyWrap (w.key.take 32) x.key) 0 72)).useSlot r.slot).useSlot r.wslot).opEnd q 0 false

/-- SIGN (R430): the digest at KVT_OPADDR, r ‖ s at KVT_OPADDR + 64. -/
def State.runSign (s : State) (q : Nat) : State :=
  let r := s.opReq q
  let e := s.slotRefuses r.slot [0]
  if e ≠ 0 then s.opEnd q e false
  else
    let curve := s.get (F.KVT_OP.CURVE q)
    let n := if curve = 0 then 32 else 48
    let sig := Config.ecdsaSign curve (scalarOf curve (s.slot r.slot).key) (s.sramRead r.addr n) s.freeVal
    ((s.useFree.sramStore (r.addr + 64) (sliceB sig 0 (2 * n))).useSlot r.slot).opEnd q 0 false

/-- PUBKEY (R430): X ‖ Y at KVT_OPADDR. -/
def State.runPubkey (s : State) (q : Nat) : State :=
  let r := s.opReq q
  let e := s.slotRefuses r.slot [0]
  if e ≠ 0 then s.opEnd q e false
  else
    let curve := s.get (F.KVT_OP.CURVE q)
    let n := if curve = 0 then 32 else 48
    ((s.sramStore r.addr (sliceB (Config.publicPoint curve (scalarOf curve (s.slot r.slot).key)) 0 (2 * n))).useSlot r.slot).opEnd q 0 false

/-- A write of KVT_OP that starts an operation of a CODE. A START while one runs has no effect (R13). -/
def State.kvtStart (s : State) (req : Requester) (data code : Nat) : State :=
  let q := req.idx
  if s.bit (F.KVT_OP.START q) then s
  else
    let t := (s.setKvtOp q (putBits data 0 4 code)).when (decide (2 < code)) (·.touchSram 9)
    if code = 1 ∨ code = 2 ∨ code = 3 ∨ code = 5 then t.startUpdate q
    else if code = 4 then t.runExport q
    else if code = 6 then t.runSign q
    else t.runPubkey q

/-- A write of KVT_OP with any CODE. -/
def State.writeKvtOp (s : State) (req : Requester) (data : Nat) : State :=
  let code := bitsOf data 0 4
  if code = 0 ∨ 7 < code then s.accessError req 7 0xE00010
  else if data.testBit 7 then s.kvtStart req data code
  else if s.bit (F.KVT_OP.START req.idx) then s
  else s.setKvtOp req.idx data

/-- KVT_DERIVE (R427). -/
def execKvtDerive (req : Requester) (data : Nat) (s : State) : Result :=
  .next (s.atFabric req (0xE00010) (fun s => s.kvtStart req data 1))

/-- KVT_INVAL (R437). -/
def execKvtInval (req : Requester) (data : Nat) (s : State) : Result :=
  .next (s.atFabric req (0xE00010) (fun s => s.kvtStart req data 2))

/-- KVT_IMPORT (R433). -/
def execKvtImport (req : Requester) (data : Nat) (s : State) : Result :=
  .next (s.atFabric req (0xE00010) (fun s => s.kvtStart req data 3))

/-- KVT_EXPORT (R434). -/
def execKvtExport (req : Requester) (data : Nat) (s : State) : Result :=
  .next (s.atFabric req (0xE00010) (fun s => s.kvtStart req data 4))

/-- KVT_AGREE (R431). -/
def execKvtAgree (req : Requester) (data : Nat) (s : State) : Result :=
  .next (s.atFabric req (0xE00010) (fun s => s.kvtStart req data 5))

/-- KVT_SIGN (R430). -/
def execKvtSign (req : Requester) (data : Nat) (s : State) : Result :=
  .next (s.atFabric req (0xE00010) (fun s => s.kvtStart req data 6))

/-- KVT_PUBKEY (R430). -/
def execKvtPubkey (req : Requester) (data : Nat) (s : State) : Result :=
  .next (s.atFabric req (0xE00010) (fun s => s.kvtStart req data 7))

/-- VAULT_UPDATE (R443): the front update's phase 1, and its phase 2 with every effect. -/
def execVaultUpdate (phase2 : Bool) (s : State) : Result := .next (if phase2 then s.closeUpdate else s.openUpdate)

/-- SHARE_REFRESH (R435, R436): fresh shares for every stored key; the listed slots' keys fail their check. -/
def execShareRefresh (failed : List Nat) (s : State) : Result :=
  let a := failed.foldl State.cellFault s
  .next { a with kvt := { a.kvt with slots := a.kvt.slots.map (fun x => if x.key.isEmpty then x else { x with mask := a.free }) }, free := a.free + 1 }

/-- HOLDUP_TEST (R445): the hold time that the controlled discharge projects, in µs. -/
def execHoldupTest (projected : Nat) (s : State) : Result :=
  let a := { s with kvt := { s.kvt with holdTest := s.raw } }
  .next (if projected < 20000 then a.kvtFlag F.KVT_STAT.HOLDFLT 0 else a)

/-- A write of KVT_CTRL: ZEROISE under KEY (R447, R564). -/
def State.writeKvtCtrl (s : State) (req : Requester) (data : Nat) : State :=
  if !data.testBit 0 then s
  else if bitsOf data 16 16 ≠ 0x9612 then s.accessError req 6 0xE00004
  else s.zeroise

/-- KVT_ZEROISE (R446, R447). -/
def execKvtZeroise (req : Requester) (key : Nat) (s : State) : Result :=
  .next (s.atFabric req (0xE00004) (·.writeKvtCtrl req (1 + key % 65536 * 65536)))

/-- DBG_EN_SET (R448). -/
def execDbgEnSet (s : State) : Result := .next s.enterDebug

end Sys2Proof.Machine
end

