-- ==== Sys2Proof/Machine/RegRead.lean ====
section
/-! DEFINITION. Reading a register (spec/00_scope.md R11, R15 to R19): the live value of a word, the values of several words and
their snapshots, and what is worked out at the read. -/

namespace Sys2Proof.Machine

/-- The copy of a register that a requester reaches (R18, R19). -/
def State.chanOf (s : State) (req : Requester) (sc : Scope) : Nat :=
  match sc with
  | .plain => 0
  | .req => req.idx
  | .ref => s.get (F.REF_CHSEL.CH req.idx)
  | .tdc => s.get (F.TDC_CHSEL.CH req.idx)
  | .out => s.get (F.OUT_CHSEL.CH req.idx)
  | .peer => s.get (F.PEER_SEL.PEER req.idx)

/-- The stored field that a piece of a register word shows. -/
def Piece.fld (p : Piece) (ch off : Nat) : Fld := ⟨ch, off - p.back, p.klo, p.tot, p.rst⟩

/-- What a read of a piece returns (R11): a write-only field reads 0. -/
def State.pieceValue (s : State) (p : Piece) (ch off : Nat) : Nat :=
  if p.ty = .wo then 0 else bitsOf (s.get (p.fld ch off)) p.src p.w

/-- A register word from its stored fields; bits that belong to no field read 0 (R9). -/
def State.fieldWord (s : State) (r : RegRow) (ch off : Nat) : Nat :=
  r.pieces.foldl (fun v p => v + s.pieceValue p ch off * 2 ^ p.lo) 0

/-- Seconds left until a tick, rounded up, saturating at 65,535. -/
def State.secondsTo (s : State) (t : Nat) : Nat := min 65535 ((t - s.raw + 624999999) / 625000000)

/-- REF_QSTAT.LEFT (R244, R245). -/
def State.qualLeft (s : State) (c : Nat) : Nat :=
  let q := s.get (F.REF_QSTAT.QSTATE c)
  let r := s.rf c
  if q = 1 then s.secondsTo r.holdUntil
  else if q = 2 then s.secondsTo (r.qSince + r.qLen * 625000000)
  else 0

/-- The map cell that OSC_MAPSEL names. -/
def State.mapCell (s : State) : Nat := s.get F.OSC_MAPSEL.TBIN * 8 + s.get F.OSC_MAPSEL.LBIN

/-- Bring the fields of a register that are worked out when it is read to their present values. -/
def State.present (s : State) (req : Requester) (n : RegName) (i : Nat) (ch : Nat) : State :=
  match n with
  | .GLB_SERIAL_LO | .GLB_SERIAL_HI => s.set F.GLB_SERIAL.SERIAL Config.serial
  | .GLB_MAC_LO | .GLB_MAC_HI => s.set F.GLB_MAC.MAC Config.mac
  | .SUP_PCIID => s.sets [(F.SUP_PCIID.VID, Config.pciVid), (F.SUP_PCIID.DID, 0x9612)]
  | .EVT_ROUTE => s.set (F.EVT_ROUTE.SEV i) (evSeverity i)
  | .PWR_SLEEP_ACC_LO | .PWR_SLEEP_ACC_HI =>
    s.when (s.asleep i && (s.dm i).wakeStart.isNone) (·.bump (F.PWR_SLEEP_ACC.TICKS i) (s.raw - (s.dm i).sleepStart))
  | .REF_QSTAT => s.set (F.REF_QSTAT.LEFT ch) (s.qualLeft ch)
  | .REF_QUAL => s.when ((s.rf ch).heardAt != 0) (·.setSat (F.REF_QUAL.AGE ch) ((s.raw - (s.rf ch).heardAt) / 62500000))
  | .GNS_AGE => s.when (s.sel.lastFix != 0) (·.setSat F.GNS_AGE.AGE ((s.raw - s.sel.lastFix) / 625000))
  | .OSC_MAPVAL =>
    let k := s.get F.OSC_MAPSEL.SET
    (s.setSat F.OSC_MAPVAL.COUNT ((s.mset k).count s.mapCell)).setBit F.OSC_MAPVAL.TRAINED (s.trained k s.mapCell)
  | .OSC_MAPY => s.setISat F.OSC_MAPY.Y (roundAway ((s.mset (s.get F.OSC_MAPSEL.SET)).mean s.mapCell * 1000000000000000000))
  | .OUT_CFG | .OUT_STAT | .OUT_DIV | .OUT_PARAM | .OUT_PHASE => s.settleOuts
  | .OUT_ERRB => s.set (F.OUT_ERRB.ERRB ch) (s.outErrb ch)
  | .PRT_UASYM => s.showUasym
  | .PKE_CLS_HIT => s.set F.PKE_CLS_HIT.HIT ((lookup (s.get (F.PKE_CLS_SEL.IDX req.idx)) s.pke.hits).getD 0)
  | .NTS_KSINCE => s.setSat (F.NTS_KSINCE.SEC i) (s.dsec - (s.npos i).since)
  | .NTS_KE_STAT => s.showKe
  | .PAIR_UPAIR => s.showUPair
  | .PAIR_WTR => s.set F.PAIR_WTR.LEFT s.wtrLeft
  | .PMU_STAT => (s.set F.PMU_STAT.EOVF ((List.range 16).foldl (fun v k => if s.get (F.PMU_EOVF.OVF k) = 0 then v else v + 2 ^ k) 0)).setBit
      F.PMU_STAT.COVF (s.get F.PMU_COVF.OVF != 0)
  | _ => s

/-- HRT_SNAP: one reading of the Hearth (R34, R216). -/
def State.hearthWords (s : State) : List Nat :=
  let d := s.dnow
  rawWords s.now ++ (match d with | some t => dtimeWords t | none => [0, 0, 0, 0]) ++
    [if d.isSome then s.errb else unbounded, s.hrt.cur.gen + s.srvState * 256 + s.get F.HRT_UTC.LEAPPEND * 2048]

/-- The words of a viewed pair; all 0 where there is none. -/
def pairWords : Option Pair → List Nat
  | none => List.replicate 11 0
  | some p =>
    let r := ofSigned 48 p.rate
    [r % 2 ^ 32, r / 2 ^ 32] ++ dtimeWords p.offset ++ [p.anchor % 2 ^ 32, p.anchor / 2 ^ 32 % 2 ^ 32, p.gen + 256, p.commit % 2 ^ 32, p.commit / 2 ^ 32 % 2 ^ 32]

/-- The pair that HRT_DP_VIEW names for a requester. -/
def State.viewedPair (s : State) (q : Nat) : Option Pair :=
  match s.get (F.HRT_DP_VIEW.WHAT q) with
  | 0 => some s.hrt.cur
  | 1 => s.hrt.pend.map (·.1)
  | _ => s.hrt.history.find? (fun p => p.gen == s.get (F.HRT_DP_VIEW.GEN q))

/-- The 32-bit words of bytes, padded with zeros to `n` words. -/
def recWords (b : List Byte) (n : Nat) : List Nat := (List.range n).map (fun w => leAt b (4 * w) 4)

/-- The words of a value that is not held in fields, where `off` lies in one. -/
def State.recordWords (s : State) (req : Requester) (n : RegName) (i j ch : Nat) : Option (List Nat) :=
  match n with
  | .HRT_SNAP_0 | .HRT_SNAP_1 | .HRT_SNAP_2 | .HRT_SNAP_3 | .HRT_SNAP_4 | .HRT_SNAP_5 | .HRT_SNAP_6 | .HRT_SNAP_7 | .HRT_SNAP_8 => some s.hearthWords
  | .HRT_DP_RATE_LO | .HRT_DP_RATE_HI | .HRT_DP_OFFSET_0 | .HRT_DP_OFFSET_1 | .HRT_DP_OFFSET_2 | .HRT_DP_OFFSET_3 | .HRT_DP_ANCHOR_LO
  | .HRT_DP_ANCHOR_HI | .HRT_DP_GEN | .HRT_DP_CTICK_LO | .HRT_DP_CTICK_HI => some (pairWords (s.viewedPair req.idx))
  | .TDC_RES => some (recWords (s.td ch).record 8)
  | .REF_EB => some (recWords s.bound.record 24)
  | .BOOT_REC => some (recWords s.nv.record.bytes 16)
  | .KVT_DESC => some (recWords (s.descriptor (s.get (F.KVT_SEL.SLOT req.idx))) 8)
  | .EVT_REC => some (recWords (((if i = 0 then s.evt.q0 else s.evt.q1).getD (j / 8) {}).bytes) 8)
  | .PMU_SR_WIN => some (recWords (s.pmu.ring.headD []) 8)
  | _ => none

/-- The set and index of a counter's count. -/
def counterAt (n : RegName) (i j : Nat) : Option (PmuSet × Nat) :=
  match n with
  | .PMU_ECNT => some (.engine i, j)
  | .PMU_CCNT => some (.cluster, i)
  | _ => none

/-- The lowest counter of the chain that holds a counter (R524), by descent. -/
def State.chainLow (s : State) (set : PmuSet) : Nat → Nat
  | 0 => 0
  | j + 1 => if s.bit (pmuChain set (j + 1)) then s.chainLow set j else j + 1

/-- The counters above `j` that chain on, at most `n`. -/
def State.chainMore (s : State) (set : PmuSet) (j : Nat) : Nat → Nat
  | 0 => 0
  | n + 1 => if s.pmuChained set j then 1 + s.chainMore set (j + 1) n else 0

/-- The value that a word belongs to (R18): the offset of its lowest word and how many words it has. -/
def State.valueAt (s : State) (r : RegRow) (i j off : Nat) : Nat × Nat :=
  match r.span with
  | .above d =>
    let low := off - d
    (low, if low = 0x400000 then 9 else if low = 0x400040 then 11 else if low = 0x4000B0 then 3 else 2)
  | .array => (off - r.s1 * i, r.n1)
  | .single =>
    if r.name = .EVT_REC then (off - 4 * (j % 8), 8)
    else match counterAt r.name i j with
      | none => (off, 1)
      | some (set, k) =>
        let b := s.chainLow set k
        (pmuCntOff set b, 1 + s.chainMore set b 16)

/-- The live value of a register word (R11, R16). -/
def State.liveWord (s : State) (req : Requester) (off : Nat) : Nat :=
  match findReg off with
  | none => 0
  | some (r, i, j) =>
    let ch := s.chanOf req r.scope
    match s.recordWords req r.name i j ch with
    | some l => l.getD ((off - (s.valueAt r i j off).1) / 4) 0
    | none => (s.present req r.name i ch).fieldWord r ch off

/-- The words of a value whose lowest word lies at `low`. -/
def State.liveWords (s : State) (req : Requester) (low n : Nat) : List Nat := (List.range n).map (fun k => s.liveWord req (low + 4 * k))

/-- The snapshot's name: the requester's copy, and the lowest offset with the channel whose value it is. -/
def State.snapKey (s : State) (req : Requester) (r : RegRow) (low : Nat) : Nat × Nat :=
  (req.idx, if r.scope = .req ∨ r.scope = .plain then low else s.chanOf req r.scope * 0x4000000 + low)

/-- Whether a requester has snapshots of its own (R18). -/
def hasCopies (req : Requester) : Bool := decide (req.idx < 6)

/-- A thread's counter-read instruction (R529): its own engine's E counters, outside the fabric. -/
def ownCounter (req : Requester) (n : RegName) (i : Nat) : Bool := match req with | .thread k => n == .PMU_ECNT && i == k | _ => false

/-- A read of a value's lowest word, or of a higher one (R18). -/
def State.readValue (s : State) (req : Requester) (r : RegRow) (low n off : Nat) : State × Nat :=
  let key := s.snapKey req r low
  if off = low then
    let w := s.liveWords req low n
    ({ s with snaps := (key, w) :: s.snaps.filter (fun p => p.1 != key) }, w.headD 0)
  else match s.snaps.find? (fun p => p.1 == key) with
    | some p => (s, p.2.getD ((off - low) / 4) (s.liveWord req off))
    | none => (s, s.liveWord req off)

/-- R529: whether a read is a user-mode read of a counter that the monitor's gate refuses. -/
def State.userDenied (s : State) (req : Requester) (n : RegName) : Bool :=
  req.isUser && (n == .PMU_ECNT || n == .PMU_CCNT) && !s.bit F.PMU_CTRL.USER_EN

/-- Whether a register is a select register (R19, R489). -/
def isSelect (n : RegName) : Bool := n == .REF_CHSEL || n == .TDC_CHSEL || n == .OUT_CHSEL || n == .PEER_SEL

/-- A read of a register word that the fabric serves. -/
def State.readReg (s : State) (req : Requester) (off : Nat) : State :=
  match findReg off with
  | none => s.emit (.readback req.idx 0)
  | some (r, i, j) =>
    let v := s.valueAt r i j off
    if s.userDenied req r.name then (s.pmuFlag F.PMU_STAT.UDENY).emit (.readback req.idx 0)
    else if ownCounter req r.name i then s.emit (.readback req.idx (s.liveWord req off))
    else if !hasCopies req && (isSelect r.name || (1 < v.2 && off == v.1)) then s.xbrFail req.master 6 1 off
    else if off / 0x20 = 0x300100 / 0x20 then s.emit (.readback req.idx 0)
    else if v.2 ≤ 1 then s.emit (.readback req.idx (s.liveWord req off))
    else
      let p := s.readValue req r v.1 v.2 off
      p.1.emit (.readback req.idx p.2)

end Sys2Proof.Machine
end

