-- ==== Sys2Proof/Machine/Tdc.lean ====
section
/-! DEFINITION. The commands of measurement (spec/06_measurement.md). -/

namespace Sys2Proof.Machine

/-- TDC_EDGE (R169, R172): an edge at a channel whose input is in use; `half` names the interpolator half that takes it. -/
def execTdcEdge (n half code kStop : Nat) (s : State) : Result :=
  onUnit (decide (n < 24) && decide (half < 2)) (s.when (s.tdcUse n != 0) (·.tdcEdge n half code kStop))

/-- INTERPOLATOR_CALIBRATION (R171, R173): a half without a pair takes one; a half whose pair is 64 ticks old renews it once the
other half is armed. -/
def execInterpolatorCalibration (n half c1 c2 : Nat) (s : State) : Result :=
  onUnit (decide (n < 24) && decide (half < 2))
    (let me := if half = 0 then (s.td n).h0 else (s.td n).h1
     let other := if half = 0 then (s.td n).h1 else (s.td n).h0
     let due := match me.pair with
       | none => true
       | some p => decide (p.2.2 + 64 ≤ s.raw) && other.pair.isSome
     s.when (s.tdcUse n != 0 && due) (·.calPair n half c1 c2))

/-- PHASE_RESULT_MS (R176): a pulse channel above 1 kHz delivers the mean of the edges that a millisecond accepted, once the
hold of R163 has released its last one. -/
def execPhaseResultMs (c : Nat) (s : State) : Result :=
  onUnit (decide (c < 16)) (s.when (s.kind c == 2 && s.raw % 625000 == 20000 && decide (0 < (s.rf c).msCount)) (fun s =>
    match s.tdcOf c with
    | none => s
    | some n =>
      let r := s.rf c
      (s.updRef c (fun q => { q with msSum := 0, msCount := 0 })).phaseResult n c ((r.msSum : Rat) / r.msCount) r.msStamp r.msCount))

/-- The start stamp nearest to a stop within a window in sixteenths, the earlier of two equally near (R178). -/
def nearestStart (starts : List (Nat × Nat)) (stop win : Nat) : Option Nat :=
  (starts.map (·.1)).foldl (fun b a =>
    if win < distN a stop then b
    else match b with
      | none => some a
      | some x => if distN a stop < distN x stop ∨ (distN a stop = distN x stop ∧ a < x) then some a else some x) none

/-- The value of an interval record on its time base (R186), and whether one can be formed. -/
def State.referInterval (s : State) (tb crumbs : Int) (stop : Nat) : Option Int :=
  if tb = 0 then some (roundAway ((crumbs : Rat) * (1 + (s.pairAt stop).rateFrac)))
  else if tb = 1 then
    (((s.tdcOf (s.get F.TDC_TB.CH)).bind (fun m => (s.td m).yExt)).map (fun y => if 1 + y = 0 then crumbs else roundAway ((crumbs : Rat) / (1 + y))))
  else some crumbs

/-- INTERVAL_RECORD (R178): the oldest stop of a channel whose window has closed and whose stamps are released. -/
def execIntervalRecord (n : Nat) (s : State) : Result :=
  onUnit (decide (n < 24))
    (match (s.td n).stops with
     | [] => s
     | q :: rest =>
       let win := s.get (F.TDC_WIN.WIN n)
       s.when (decide (q.taken + max win 20000 ≤ s.raw)) (fun s =>
         let a := s.updTdc n (fun d => { d with stops := rest })
         let c := s.tdcTarget q.start
         let usable := s.tdcUse q.start != 0 && (s.tdcUse q.start != 1 || decide (2 ≤ s.qstate c))
         match (if usable then nearestStart (s.td q.start).stamps q.at16 (win * 8192) else none) with
         | none => a.set (F.TDC_STAT.NOSTART n) 1
         | some st =>
           let r := intervalOf (((q.at16 : Int) - st : Int) : Rat)
           let tb := s.get F.TDC_TB.ACT
           match s.referInterval tb r.1 (crumbOf q.at16) with
           | none => a
           | some v =>
             (if q.calErr then a.updTdc n (fun d => { d with calErr := true }) else a).record n 3 tb
               ((if r.2.1 then 1 else 0) + (if r.2.2 then 2 else 0)) (crumbOf q.at16) v 0 0))

/-- GATE_END (R181, R185): a gate of a frequency channel that has ended gives its result 8 µs after its last stamp's release. -/
def execGateEnd (n : Nat) (s : State) : Result :=
  onUnit (decide (n < 24))
    (let t := s.rollGate n
     let c := s.tdcTarget n
     match (t.td n).closing with
     | none => t
     | some g => t.when (decide (g.endTick + holdTicks (s.kind c) + 5000 ≤ s.raw)) (·.closeGate n c g))

/-- Whether writes of a channel's registers are discarded (TDC registers): channel 23 while TBROUTE enables a route. -/
def State.tdcReserved (s : State) (n : Nat) : Bool :=
  n == 23 && (List.range 14).any (fun r => decide (0 < r) && s.bit (F.HRT_TB_ROUTE.EN r))

/-- TDC_CLRCNT (R177, TDC_CFG.CLRCNT). -/
def execTdcClrcnt (req : Requester) (n : Nat) (s : State) : Result :=
  onUnit (decide (n < 24)) (s.atFabric req (0x500004) (fun s => if s.tdcReserved n then s.accessError req 7 0x500004 else s.sets [(F.TDC_CNT.MISS n, 0), (F.TDC_CNT.REJ n, 0)]))

/-- A write of TDC_TB (R187). -/
def State.writeTdcTb (s : State) (req : Requester) (data : Nat) : State :=
  let sel := bitsOf data 0 2
  let ch := bitsOf data 4 4
  let usable := s.kind ch == 3 && s.bit (F.REF_STAT.PRESENT ch) && s.bit (F.REF_STAT.ACTIVITY ch)
  if sel = 3 ∨ (sel = 1 ∧ !usable) then s.accessError req 7 0x500024
  else
    let a := s.sets [(F.TDC_TB.SEL, sel), (F.TDC_TB.CH, ch), (F.TDC_TB.ACT, sel)]
    if data.testBit 8 then a.set F.TDC_TB.TBLOSS 0 else a

/-- TDC_TB_WRITE (R187). -/
def execTdcTbWrite (req : Requester) (data : Nat) (s : State) : Result :=
  .next (s.atFabric req (0x500024) (fun s => s.writeTdcTb req data))

/-- A write of TDC_GATE (R192): it takes effect at the next gate boundary. -/
def State.writeTdcGate (s : State) (req : Requester) (n data : Nat) : State :=
  let g := bitsOf data 0 20
  if s.tdcReserved n ∨ g < 1 ∨ 1000000 < g then s.accessError req 7 0x50000C else s.set (F.TDC_GATE.GATE n) g

/-- TDC_GATE_WRITE (R192). -/
def execTdcGateWrite (req : Requester) (n data : Nat) (s : State) : Result :=
  onUnit (decide (n < 24)) (s.atFabric req (0x50000C) (fun s => s.writeTdcGate req n data))

end Sys2Proof.Machine
end

