-- ==== Sys2Proof/Machine/RegRules.lean ====
section
/-! DEFINITION. What a register refuses (spec/18_system.md R497): values out of range and writes that a Meaning refuses, for the registers
whose writes only store. -/

namespace Sys2Proof.Machine

/-- Whether a value lies in a range. -/
def within (lo hi v : Nat) : Bool := decide (lo ≤ v) && decide (v ≤ hi)

/-- Drive currents of an LED in mA (R540): 2 to 20, or 0. -/
def goodCurrent (v : Nat) : Bool := v == 0 || within 2 20 v

/-- Whether a parameter of SRV0 may not be written here: the unit replays its twin's journal (R462). -/
def State.journaled (s : State) : Bool := s.inStep

/-- The transports and delay mechanism of R400 for a profile, with authentication only where the profile has it. -/
def pcfgGood (prof data : Nat) : Bool :=
  let t := bitsOf data 1 2
  let p2p := data.testBit 3
  if prof = 0 then decide (t < 3)
  else if prof = 1 then t == 0 && !p2p
  else if prof = 2 then within 1 2 t && !p2p
  else t == 0 && p2p && !data.testBit 6

/-- Whether pipeline p exists in PIPE (R106). -/
def State.pipeExists (s : State) (p : Nat) : Bool := (List.range 16).any (fun k => s.get (F.PKE_ENG.PIPE k) == p)

/-- R19: a select value out of range. -/
def selectBad (n : RegName) (data : Nat) : Bool :=
  match n with
  | .TDC_CHSEL => decide (23 < data % 32)
  | .OUT_CHSEL => decide (11 < data % 16)
  | _ => false

/-- Whether a write is refused with cause 7. `i` is the array index, `ch` the channel of a channelled register, `old` the word as it
reads now, and `data` the word with every locked field at its value. -/
def State.refusesWrite (s : State) (req : Requester) (n : RegName) (i ch old data : Nat) : Bool :=
  match n with
  | .RCP_LEAD => !within 6250 1000000 (bitsOf data 0 24)
  | .BOOT_LIMIT => !within 10 600 (bitsOf data 0 16)
  | .HRT_DP_VIEW => data % 4 == 3
  | .HRT_SRV_LEAD => !within 1500 625000 (bitsOf data 0 20) || s.journaled
  | .HRT_SRV_LIM => bitsOf data 0 16 == 0 || bitsOf data 16 16 == 0 || s.journaled
  | .HRT_SRV_KP | .HRT_SRV_KI | .HRT_SRV_STAT | .HRT_SRV_ERR | .HRT_SRV_OUT_LO | .HRT_SRV_OUT_HI => !s.srvEn i || (i == 0 && s.journaled && n != .HRT_SRV_STAT)
  | .HRT_SRV_FSTEP => !s.srvEn i || (i == 0 && s.journaled) || !within 1 200000000000 data
  | .TDC_STAT | .TDC_DEC | .TDC_CAL | .TDC_CNT | .TDC_RES => s.tdcReserved ch
  | .TDC_WIN => s.tdcReserved ch || bitsOf data 0 30 == 0
  | .TDC_OUTLIM => s.tdcReserved ch || decide (bitsOf data 0 16 < 16)
  | .REF_DLY => s.bit (F.REF_CFG.EN ch) || bitsOf data 0 24 == 0x800000
  | .REF_PRIO => bitsOf data 0 8 == 0
  | .REF_QCFG => !within 1 3600 (bitsOf data 0 12) || !within 1 3600 (bitsOf data 16 12)
  | .REF_FSOFT => data == 0 || decide (s.get (F.REF_FHARD.LIM ch) < data)
  | .REF_FHARD => decide (data < s.get (F.REF_FSOFT.LIM ch))
  | .REF_DRIFT | .REF_TOL => data == 0
  | .REF_SWSLEW => !within 1 1000000 (bitsOf data 0 20) || s.journaled
  | .REF_HAVG => !within 10 86400 (bitsOf data 0 17) || s.journaled
  | .OSC_SETTLE => !within 60 3600 (bitsOf data 0 16) || decide (bitsOf data 16 16 < 60)
  | .OSC_UNTR_0 => decide (data < 0x1E8480)
  | .OSC_UNTR_1 => decide (data < 0x2FAF080)
  | .OSC_MAPSEL => decide (25 < data % 32)
  | .PRT_PLANE => s.bit (F.PRT_CTRL.ADMIN i)
  | .PRT_ASYM | .PRT_LINKUNC => (s.pt i).acal.isSome
  | .PRT_ACAL => !within 10 86400 (bitsOf data 0 17)
  | .PRT_ESMC => bitsOf data 8 4 != 0xF && bitsOf data 8 4 != 2
  | .APD_OFFSET => !within 200 10000 (bitsOf data 0 16) || !within 150 10000 (bitsOf data 16 16)
  | .APD_REOFF => !within 80 10000 (bitsOf data 0 14)
  | .APD_SLIP => decide (10000 < bitsOf data 0 14) || !within 1 1000 (bitsOf data 16 10)
  | .PKE_RING_BASE_LO | .PKE_RING_BASE_HI => s.bit (F.PKE_RING_CFG.EN i)
  | .PKE_RING_DEST => s.bit (F.PKE_RING_CFG.EN i) || decide (4 < data % 8) || (data.testBit 3 && !s.pipeExists (bitsOf data 4 3))
  | .NTS_CFG => !within 32 128 (bitsOf data 8 7)
  | .NTS_ROT =>
    let p := bitsOf data 0 16
    let g := bitsOf data 16 16
    decide (p < 900) || decide (g < p) || decide (3 * p < g)
  | .NTS_KPOS => s.get (F.NTS_KPOS.STATE i) != 0 || decide (bitsOf data 0 8 < 2) || decide (bitsOf data 8 8 < 2)
  | .NTS_RATE => !within 1 1024 (bitsOf data 0 11) || bitsOf data 16 12 == 0
  | .NTS_KE => !within 1 16384 (bitsOf data 16 15)
  | .PTP_CFG => bitsOf data 8 8 != bitsOf old 8 8 && (List.range 4).any (fun k => s.bit (F.PTP_PCFG.EN k))
  | .PTP_PAIR => data % 4 == 3 || (data.testBit 2 && data % 4 != 0)
  | .PTP_GDUR => !within 10 1000 (bitsOf data 0 16)
  | .PTP_SCHED => !within 150 50000 (bitsOf data 0 16)
  | .PTP_PCFG => (old.testBit 0 && putBits (data % 65536) 6 1 0 != putBits (old % 65536) 6 1 0) || !pcfgGood (s.get F.PTP_CFG.PROFILE) data
  | .PAIR_CFG => !within 10 3600 (bitsOf data 16 12)
  | .PAIR_THR => decide (bitsOf data 0 16 < 500)
  | .PEER_CFG => bitsOf data 4 2 == 3 || (old.testBit 0 && bitsOf data 1 5 != bitsOf old 1 5 || old.testBit 0 && bitsOf data 8 16 != bitsOf old 8 16)
  | .EVT_ROUTE => decide (95 < bitsOf data 0 7)
  | .PMU_PS_PERIOD => decide (bitsOf data 0 24 < 16)
  | .PNL_KCFG => bitsOf data 0 4 == 0 || !within 100 60000 (bitsOf data 16 16)
  | .PNL_KACT => (List.range 8).any (fun k => bitsOf data (2 * k) 2 == 3)
  | .PNL_TCFG => bitsOf data 0 12 == 0
  | .PNL_LED => !goodCurrent (bitsOf data 0 5) || (s.ledCond i (bitsOf data 8 8)).isNone
  | .PNL_MGLED => !goodCurrent (bitsOf data 0 5) || !goodCurrent (bitsOf data 8 5)
  | .PNL_ZCFG => !within 5 100 (bitsOf data 0 8)
  | .PNL_SENSE => (List.range 16).any (fun c => within 2 4 (s.kind c) && s.get (F.REF_STAT.SOURCE c) == i && s.bit (F.REF_CFG.EN c))
  | .SUP_H2S => s.bit F.SUP_MBX.H2SBUSY
  | .PMU_PS_CTRL | .PMU_PS_ENG | .PMU_SR_CFG | .PMU_STAT | .PMU_EOVF | .PMU_COVF => req.isUser
  | _ => false

end Sys2Proof.Machine
end

