-- ==== Sys2Proof/Machine/Select.lean ====
section
/-! DEFINITION. The commands of qualification and selection (spec/09_selection.md). -/

namespace Sys2Proof.Machine

/-- σ_y of a gate (R184, R246): √12 × σ_r ÷ (τ × √N), with σ_r in crumbs and τ in ms. -/
def GateRes.sigma_y (g : GateRes) : Rat :=
  if g.n = 0 ∨ g.ms = 0 then 0 else sqrtR (12 / (g.n : Rat)) * g.sigma * crumbPs / 1000000000000 / ((g.ms : Rat) / 1000)

/-- y_cD, y_cT and their uncertainties formed from what an evaluation has (R246, R248): the channel's state after the
evaluation, or none where it is skipped. -/
def State.formEvaluation (s : State) (c : Nat) : Option RefSt :=
  let r := s.rf c
  if freqOnly (s.kind c) then
    match r.gate with
    | none => none
    | some g =>
      if g.tick ≤ r.evalAt then none
      else
        let rb := (meanRate s.hrt.history (g.tick - g.ms * 625000) g.tick).1
        some { r with evalAt := g.tick, yD := some ((1 + g.y) / (1 + rb) - 1), sigY := g.sigma_y }
  else
    let rs := r.results.filter (fun q => decide (r.evalAt < q.tick))
    if rs.isEmpty then none
    else
      let x := meanR (rs.map (·.value))
      let st := rs.foldl (fun a q => a + q.stamp) 0 / rs.length
      let r' := { r with evalAt := s.raw, xs := ((x, st, s.raw) :: r.xs).take 64 }
      let pts := (s.updRef c (fun _ => r')).xPoints c
      let ln := fitLine pts
      if pts.length < 3 then some { r' with yD := none, sigY := 0 }
      else some { r' with yD := some (ln.1 / 1000000000000), sigY := slopeErr pts ln / 1000000000000 }

/-- y_cT (R248), while the referee is available and has a complete gate. -/
def State.throughReferee (s : State) (yD : Rat) : Option Rat :=
  if s.refereeOk then
    (s.refereeChannel.bind (fun a => (s.rf a).gate)).map (fun g =>
      let rb := (meanRate s.hrt.history (g.tick - g.ms * 625000) g.tick).1
      (1 + yD) * (1 + s.zA) / (1 + ((1 + g.y) / (1 + rb) - 1)) - 1)
  else none

/-- What the windows of an evaluation say (R247, R249): phase soft, phase hard, frequency soft, frequency hard. -/
def State.windows (s : State) (c : Nat) : Bool × Bool × Bool × Bool :=
  let r := s.rf c
  let followed := s.sel.sel == some c
  let lim := errbSum [s.errb, s.uref c, s.get (F.REF_PMARG.MARG c)]
  let x := absR (s.xc c)
  let ph := !freqOnly (s.kind c) && !followed && decide (lim < unbounded)
  let ppq : Rat := 1000000000000000
  let exa : Rat := 1000000000000000000
  let apply := s.refereeOk || (!followed && s.srvState == 2)
  let sig := if s.refereeOk then (s.get F.OSC_YAT_U.U : Rat) / exa + (s.sigTL 0 : Rat) / exa + r.sigY else r.sigY
  let y := if s.refereeOk then r.yT else r.yD
  let soft := max ((s.get (F.REF_FSOFT.LIM c) : Rat) / ppq) (3 * sig)
  let hard := max ((s.get (F.REF_FHARD.LIM c) : Rat) / ppq) (3 * sig)
  let f := fun (q : Rat) => apply && (match y with | none => false | some v => decide (q < absR v))
  (ph && decide ((lim : Rat) / 2 < x), ph && decide ((lim : Rat) < x), f soft, f hard)

/-- Mark a REF_QSTAT event bit, and QEV with it (R251, R271). -/
def State.qualEvent (s : State) (f : Fld) (c : Nat) : State := if s.bit f then s else (s.set f 1).selFlag F.REF_SELSTAT.QEV c

/-- The drift monitor (R250): δ_c, DRIFT, and whether the hard window lies within 600 s. -/
def State.driftMonitor (s : State) (c : Nat) (y : Option Rat) (basis : Bool) : State × Bool :=
  match y with
  | none => (s, false)
  | some v =>
    let same := s.bit (F.REF_QSTAT.FBASIS c) == basis
    let ys := ((v, s.raw) :: (if same then (s.rf c).ys else [])).take 64
    let base := (ys.getLast?.map (·.2)).getD 0
    let d := (fitLine (ys.map (fun p => (secs ((p.2 : Int) - base), p.1)))).1
    let exa : Rat := 1000000000000000000
    let a := (s.updRef c (fun r => { r with ys := ys })).setISat (F.REF_DRATE.RATE c) (if ys.length < 3 then 0 else roundAway (d * exa))
    if ys.length < 3 then (a, false)
    else
      let steep := decide ((s.get (F.REF_DRIFT.LIM c) : Rat) / exa < absR d)
      let q := if steep then 0 else (s.rf c).driftQuiet + 1
      let b := a.updRef c (fun r => { r with driftQuiet := q })
      let turned := fun (v : Nat) => (b.set (F.REF_QSTAT.DRIFT c) v).qualEvent (F.REF_QSTAT.DRIFTEV c) c
      let e := if steep && !s.bit (F.REF_QSTAT.DRIFT c) then turned 1
        else if s.bit (F.REF_QSTAT.DRIFT c) && decide (64 ≤ q) then turned 0 else b
      let sig := if basis then (s.get F.OSC_YAT_U.U : Rat) / exa + (s.sigTL 0 : Rat) / exa + (s.rf c).sigY else (s.rf c).sigY
      let hard := max ((s.get (F.REF_FHARD.LIM c) : Rat) / 1000000000000000) (3 * sig)
      let room := if 0 < d then hard - v else hard + v
      (e, e.bit (F.REF_QSTAT.DRIFT c) && d != 0 && decide (room < 600 * absR d))

/-- Show an evaluation in the channel's registers. -/
def State.showEvaluation (s : State) (c : Nat) (y : Option Rat) (basis : Bool) : State :=
  let x := if freqOnly (s.kind c) then 0 else roundAway (s.xc c)
  ((s.setI (F.REF_PDEV.X c) (max (-2147483647) (min 2147483647 x))).setI (F.REF_FDEV.Y c)
    (match y with | none => 0 | some v => roundAway (v * 1000000000000000000))).setBit (F.REF_QSTAT.FBASIS c) basis

/-- R314: a port's calibration with this channel collects the evaluation's x_c, and the largest ERRB and U_kind. -/
def State.collectAcal (s : State) (c : Nat) : State :=
  (List.range 4).foldl (fun t n => match (t.port.getD n {}).acal with
    | none => t
    | some k =>
      if k.chan ≠ c then t
      else
        let x := t.xc c
        let k' := { k with n := k.n + 1, sum := k.sum + x, sumSq := k.sumSq + x * x, errb := max k.errb t.errb, ukind := max k.ukind (t.get (F.REF_UKIND.UKIND c)) }
        { t with port := modAt t.port n (fun p => { p with acal := some k' }) }) s

/-- One evaluation of a channel in QUALIFYING or QUALIFIED (R246 to R251). -/
def State.evaluate (s : State) (c : Nat) : State :=
  match s.formEvaluation c with
  | none => s
  | some r =>
    let yT := r.yD.bind s.throughReferee
    let a := (s.updRef c (fun _ => { r with yT := yT })).collectAcal c
    let ok := s.refereeOk
    let y := if ok then yT else r.yD
    let dm := a.driftMonitor c y ok
    let b := (dm.1.showEvaluation c y ok).setBit F.REF_SELSTAT.NOREF (!ok && s.sel.sel.isSome)
    let w := b.windows c
    let breach := w.1 || w.2.1 || w.2.2.1 || w.2.2.2
    let d := if breach && b.qstate c == 2 then b.updRef c (fun q => { q with qSince := s.raw }) else b
    let softNow := w.1 || w.2.2.1 || d.bit (F.REF_QSTAT.DRIFT c)
    let q := if softNow then 0 else (d.rf c).quiet + 1
    let e := d.updRef c (fun r => { r with quiet := q })
    let f := if softNow && !e.bit (F.REF_QSTAT.SOFT c) then
        ((e.set (F.REF_QSTAT.SOFT c) 1).updRef c (fun r => { r with softAt := s.raw, phaseSoft := w.1 })).qualEvent (F.REF_QSTAT.SOFTEV c) c
      else if e.bit (F.REF_QSTAT.SOFT c) && decide (16 ≤ q) then (e.set (F.REF_QSTAT.SOFT c) 0).qualEvent (F.REF_QSTAT.SOFTEV c) c else e
    let g := if w.2.1 || w.2.2.2 then (f.qualEvent (F.REF_QSTAT.HARDEV c) c).disqualify c (if w.2.1 then 5 else 6)
      else if dm.2 then f.disqualify c 6 else f
    g.recompute.reviewAcal

/-- REF_EVALUATION (R246): a phase or time-labelled channel at each second of raw time, a frequency-only channel at each gate
result. -/
def execRefEvaluation (c : Nat) (s : State) : Result :=
  onUnit (decide (c < 16)) (s.when (decide (2 ≤ s.qstate c) && (freqOnly (s.kind c) || s.raw % 625000000 == 0)) (·.evaluate c))

/-- HOLDOFF_END (R244, R245): the channel may enter QUALIFYING. -/
def execHoldoffEnd (c : Nat) (s : State) : Result := onUnit (decide (c < 16)) (s.tryQualify c)

/-- QTIME_EXPIRY (R244): QUALIFIED after QTIME without a breach. -/
def execQtimeExpiry (c : Nat) (s : State) : Result :=
  onUnit (decide (c < 16)) (s.when (s.qstate c == 2 && decide ((s.rf c).qSince + (s.rf c).qLen * 625000000 ≤ s.raw))
    (fun s => (s.set (F.REF_QSTAT.QSTATE c) 3).reviewLead false))

/-- SELECTION_EVALUATION (R253). -/
def execSelectionEvaluation (s : State) : Result := .next s.evalSelection

/-- A write of REF_SELCTL: what selection may choose from its next evaluation on (R253). -/
def State.writeSelctl (s : State) (data : Nat) : State :=
  s.sets [(F.REF_SELCTL.FCH, bitsOf data 0 4), (F.REF_SELCTL.FORCE, bitsOf data 4 1), (F.REF_SELCTL.HOLD, bitsOf data 5 1)]

/-- REF_SELCTL_WRITE (R253). -/
def execRefSelctlWrite (req : Requester) (data : Nat) (s : State) : Result :=
  .next (s.atFabric req (0x600100) (fun s => s.writeSelctl data))

end Sys2Proof.Machine
end

