-- ==== Sys2Proof/Machine/System.lean ====
section
/-! DEFINITION. The mailbox, the watchdog and the firmware's fatal error (spec/18_system.md, R484 to R487). -/

namespace Sys2Proof.Machine

/-! The mailbox (R486). -/

/-- A write of SUP_MBX. A doorbell while READY is 0, or while H2SBUSY or S2HVALID is 1, is discarded (R484, R486, R505). -/
def State.writeMbx (s : State) (req : Requester) (data : Nat) : State :=
  let refused := data.testBit 1 && (!s.bit F.SUP_STATUS.READY || s.bit F.SUP_MBX.H2SBUSY || s.bit F.SUP_MBX.S2HVALID)
  if refused ∨ 95 < bitsOf data 8 7 then s.accessError req 7 0x1400010
  else
    let a := s.sets [(F.SUP_MBX.VEC, bitsOf data 8 7), (F.SUP_MBX.IRQEN, bitsOf data 15 1)]
    let b := if data.testBit 2 then a.set F.SUP_MBX.S2HVALID 0 else a
    if data.testBit 1 then b.set F.SUP_MBX.H2SBUSY 1 else b

/-- MBX_DOORBELL (R486). -/
def execMbxDoorbell (req : Requester) (s : State) : Result :=
  .next (s.atDomain req (0x1400010) (s.get F.SUP_MBX.VEC * 256 + s.get F.SUP_MBX.IRQEN * 32768 + 2) (fun s => s.writeMbx req (s.get F.SUP_MBX.VEC * 256 + s.get F.SUP_MBX.IRQEN * 32768 + 2)))

/-- The request's header: OP, LEN, SEQ, and its payload words. -/
def State.mbxWord (s : State) (k : Nat) : Nat := s.get (F.SUP_H2S.WORD k)
def State.mbxOp (s : State) : Nat := s.mbxWord 0 % 65536
def State.mbxLen (s : State) : Nat := bitsOf (s.mbxWord 0) 16 8
def State.mbxPayload (s : State) : List Nat := (List.range (s.mbxLen / 4)).map (fun k => s.mbxWord (k + 1))

/-- The firmware copies the request, clears H2SBUSY and forms the answer: OP, LEN and SEQ, STATUS, payload. -/
def State.mbxAnswer (s : State) (status : Nat) (payload : List Nat) : State :=
  let head := s.mbxOp + 4 * payload.length * 65536 + bitsOf (s.mbxWord 0) 24 8 * 2 ^ 24
  (s.set F.SUP_MBX.H2SBUSY 0).updSys (fun y => { y with answer := some (head :: status :: payload) })

/-- A request of an operation waits for the firmware. -/
def State.mbxWaits (s : State) (op : Nat) : Bool :=
  s.bit F.SUP_STATUS.READY && s.bit F.SUP_MBX.H2SBUSY && s.sys.answer.isNone && s.mbxOp == op

/-- A LEN that the header table allows (R486). -/
def State.mbxLenGood (s : State) : Bool := s.mbxLen % 4 == 0 && decide (s.mbxLen ≤ 248)

/-- Serve a request of an operation whose payload has `n` words: another length is BAD_LEN. -/
def State.mbxServe (s : State) (op n : Nat) (f : State → List Nat → State) : State :=
  s.when (s.mbxWaits op) (fun s => if s.mbxLen = 4 * n then f s s.mbxPayload else s.mbxAnswer 2 [])

/-- Bytes as payload words, the last one filled with zeros. -/
def wordsOf : Nat → List Byte → List Nat
  | 0, _ => []
  | k + 1, b => if b.isEmpty then [] else leAt b 0 4 :: wordsOf k (b.drop 4)

/-- MBX_PING (R487): the same bytes. -/
def execMbxPing (s : State) : Result :=
  .next (s.when (s.mbxWaits 1) (fun s => if s.mbxLenGood then s.mbxAnswer 0 s.mbxPayload else s.mbxAnswer 2 []))

/-- MBX_VERSION (R487). -/
def execMbxVersion (s : State) : Result :=
  .next (s.mbxServe 2 0 (fun s _ =>
    s.mbxAnswer 0 [s.get F.SUP_FWVER.VER, s.get F.BOOT_STATUS.FWBANK, Config.engineVersion % 2 ^ 32, Config.bootRomVersion % 2 ^ 32]))

/-- The ADDR_SET payload as an address: slot, port, VLAN, IP version, four address words, prefix length, mask; none where a value
is out of range. -/
def addrOf (w : List Nat) : Option NetAddr :=
  let v := w.getD 3 0
  let n := if v = 4 then 4 else 16
  if w.getD 0 0 < 16 ∧ w.getD 1 0 ≤ 4 ∧ w.getD 2 0 < 4096 ∧ (v = 4 ∨ v = 6) ∧ w.getD 8 0 ≤ 8 * n ∧ w.getD 9 0 < 16 then
    some { port := w.getD 1 0, vlan := w.getD 2 0, addr := ((w.drop 4).take 4).flatMap (leBytes 4) |>.take n, plen := w.getD 8 0, mask := w.getD 9 0 }
  else none

/-- The ADDR_SET payload of a slot; an empty one shows zeros. -/
def addrWords (slot : Nat) (a : Option NetAddr) : List Nat :=
  match a with
  | none => slot :: List.replicate 9 0
  | some a =>
    let b := wordsOf 4 a.addr
    [slot, a.port, a.vlan, if a.addr.length = 4 then 4 else 6] ++ b ++ List.replicate (4 - b.length) 0 ++ [a.plen, a.mask]

/-- MBX_ADDR_SET (R487). -/
def execMbxAddrSet (s : State) : Result :=
  .next (s.mbxServe 0x10 10 (fun s w => match addrOf w with
    | some a => (s.updSys (fun y => { y with addrs := insertAt (w.getD 0 0) a y.addrs })).mbxAnswer 0 []
    | none => s.mbxAnswer 3 []))

/-- MBX_ADDR_GET (R487). -/
def execMbxAddrGet (s : State) : Result :=
  .next (s.mbxServe 0x11 1 (fun s w =>
    let k := w.getD 0 0
    if k < 16 then s.mbxAnswer 0 (addrWords k (lookup k s.sys.addrs)) else s.mbxAnswer 3 []))

/-- Whether a certificate chain's leaf key is the public key of the slot that NTS_KE names, on P-256 or P-384. -/
def State.leafMatches (s : State) (chain : List Byte) : Bool :=
  let k := s.get F.NTS_KE.CERTSLOT
  match Config.leafKey chain with
  | some p => s.slotRefuses k [0] == 0 && [0, 1].any (fun c => Config.publicPoint c (scalarOf c (s.slot k).key) == p)
  | none => false

/-- MBX_KE_CERT (R487): a chain of at most 16 KiB in SRAM; REFUSED where its leaf key does not match. -/
def execMbxKeCert (s : State) : Result :=
  .next (s.mbxServe 0x20 2 (fun s w =>
    let a := w.getD 0 0
    let n := w.getD 1 0
    if n = 0 ∨ 16384 < n ∨ 0x3000000 < a + n then s.mbxAnswer 3 []
    else
      let chain := s.sramRead a n
      if s.leafMatches chain then (s.updSys (fun y => { y with keCert := chain, keCertWarned := false })).mbxAnswer 0 [] else s.mbxAnswer 4 []))

/-- MBX_PTP_DS (R487, R413). -/
def execMbxPtpDs (s : State) : Result :=
  .next (s.mbxServe 0x30 2 (fun s w =>
    if w.getD 0 0 ≤ 4 ∧ w.getD 1 0 < 4 then s.mbxAnswer 0 (wordsOf 62 (s.dataSet (w.getD 0 0) (w.getD 1 0))) else s.mbxAnswer 3 []))

/-- Restart the survey (R149). -/
def State.restartSurvey (s : State) : State :=
  { s with sel := { s.sel with posHeld := false, surveyLeft := 3600 } }.sets [(F.GNS_STAT.HOLD, 0), (F.GNS_STAT.SURVEY, 1), (F.GNS_SURVEY.LEFT, 3600)]

/-- Set the held position, which skips the survey (R149). -/
def State.setPosition (s : State) (lat lon hgt : Nat) : State :=
  { s with sel := { s.sel with posHeld := true, surveyLeft := 0 } }.sets
    [(F.GNS_LAT.LAT, lat), (F.GNS_LON.LON, lon), (F.GNS_HGT.HGT, hgt), (F.GNS_STAT.HOLD, 1), (F.GNS_STAT.SURVEY, 0), (F.GNS_SURVEY.LEFT, 0)]

/-- MBX_NAV (R487): 0 restarts the survey; 1 sets latitude, longitude and height. -/
def execMbxNav (s : State) : Result :=
  .next (s.when (s.mbxWaits 0x40) (fun s =>
    let w := s.mbxPayload
    if s.mbxLen = 4 ∧ w.getD 0 0 = 0 then s.restartSurvey.mbxAnswer 0 []
    else if s.mbxLen = 16 ∧ w.getD 0 0 = 1 then
      let lat := toSigned 32 (w.getD 1 0)
      let lon := toSigned 32 (w.getD 2 0)
      if -900000000 ≤ lat ∧ lat ≤ 900000000 ∧ -1800000000 ≤ lon ∧ lon ≤ 1800000000 then
        (s.setPosition (w.getD 1 0) (w.getD 2 0) (w.getD 3 0)).mbxAnswer 0 []
      else s.mbxAnswer 3 []
    else if s.mbxLen ≠ 4 ∧ s.mbxLen ≠ 16 then s.mbxAnswer 2 []
    else if w.getD 0 0 ≤ 1 then s.mbxAnswer 2 []
    else s.mbxAnswer 3 []))

/-- MBX_LOG (R487): the newest bytes of the log that the length holds. -/
def execMbxLog (s : State) : Result :=
  .next (s.mbxServe 0x50 2 (fun s w =>
    let a := w.getD 0 0
    let n := w.getD 1 0
    if n < 4096 ∨ 0x3000000 < a + n then s.mbxAnswer 3 []
    else
      let l := Config.firmwareLog s.free
      let b := l.drop (l.length - n)
      (s.useFree.sramStore a b).mbxAnswer 0 [b.length]))

/-- The operations the firmware knows. -/
def mbxOps : List Nat := [1, 2, 0x10, 0x11, 0x20, 0x30, 0x40, 0x50]

/-- MBX_RESPONSE (R486, R487): the firmware posts its answer, UNKNOWN_OP for an operation it does not know; it posts none while S2HVALID
is 1. -/
def execMbxResponse (s : State) : Result :=
  .next (s.when (s.bit F.SUP_STATUS.READY && !s.bit F.SUP_MBX.S2HVALID) (fun s =>
    let a := if s.bit F.SUP_MBX.H2SBUSY && s.sys.answer.isNone && !mbxOps.contains s.mbxOp then s.mbxAnswer 1 [] else s
    match a.sys.answer with
    | none => a
    | some w =>
      let b := (a.sets (w.zipIdx.map (fun p => (F.SUP_S2H.WORD p.2, p.1)))).updSys (fun y => { y with answer := none })
      let c := b.set F.SUP_MBX.S2HVALID 1
      if c.bit F.SUP_MBX.IRQEN then c.msix (c.get F.SUP_MBX.VEC) else c))

/-! The watchdog (R485). -/

/-- A write of SUP_WDOG by a supervisor core: a new PERIOD counts from the last kick, and KICK restarts it. -/
def State.writeWdog (s : State) (req : Requester) (data : Nat) : State :=
  let p := data % 65536
  if !req.isSup || decide (p < 100) || decide (60000 < p) then s.accessError req 7 0x1400008
  else
    let from_ := if data.testBit 16 then s.raw else s.sys.wdogAt - s.get F.SUP_WDOG.PERIOD * 625000
    (s.set F.SUP_WDOG.PERIOD p).updSys (fun y => { y with wdogAt := from_ + p * 625000 })

/-- WDOG_KICK (R485). -/
def execWdogKick (req : Requester) (s : State) : Result :=
  .next (s.atDomain req (0x1400008) (s.get F.SUP_WDOG.PERIOD + 65536) (fun s => s.writeWdog req (s.get F.SUP_WDOG.PERIOD + 65536)))

/-- Whether the supervisor runs: its cores have started and its domain is awake. -/
def State.supRuns (s : State) : Bool := s.get F.SUP_STATUS.RUN != 0 && s.get (F.PWR_DOM_STAT.STATE 5) == 0

/-- WDOG_EXPIRY (R485): no kick for PERIOD milliseconds. -/
def execWdogExpiry (s : State) : Result :=
  .next (s.when (s.supRuns && decide (s.sys.wdogAt ≤ s.raw)) (fun s => (s.supervisorEnd 7 0xFF).resumeWarm))

/-- FIRMWARE_FATAL (R485): a fatal error that the firmware reports, with its code. -/
def execFirmwareFatal (code : Nat) (s : State) : Result :=
  .next (s.when s.supRuns (fun s => (s.supervisorEnd 8 (code % 256)).resumeWarm))

end Sys2Proof.Machine
end

