-- ==== Sys2Proof/Machine/RegOps.lean ====
section
/-! DEFINITION. Writing a register (spec/00_scope.md R11 to R19, spec/18_system.md R497): the access types, the locks, the registers whose
writes act, and the accesses that waited for a domain. -/

namespace Sys2Proof.Machine

/-! Registers whose writes do more than store. -/

/-- HRT_UTCW (R236 to R239): the offset and the direction are stored, and at most one action runs. -/
def State.writeUtcw (s : State) (req : Requester) (data : Nat) : State :=
  let n := bitsOf data 16 1 + bitsOf data 17 1 + bitsOf data 19 1
  if 1 < n then s.accessError req 8 0x400314
  else
    let a := s.sets [(F.HRT_UTCW.OFFSET, bitsOf data 0 16), (F.HRT_UTCW.DIR, bitsOf data 18 1)]
    if data.testBit 16 then a.utcwSetoff (toSigned 16 data)
    else if data.testBit 17 then a.utcwSched (data.testBit 18)
    else if data.testBit 19 then a.takeReport 1 (((lookup 1 a.hrt.reports).map (·.offset)).getD a.utcOffset) none
    else a

/-- TDC_CFG: the ring, the start channel and CLRCNT (R178, R191). -/
def State.writeTdcCfg (s : State) (req : Requester) (n data : Nat) : State :=
  let st := bitsOf data 8 5
  if s.tdcReserved n ∨ st = n ∨ (23 ≤ st ∧ st ≠ 31) then s.accessError req 7 0x500004
  else
    let a := s.sets [(F.TDC_CFG.RING n, bitsOf data 7 1), (F.TDC_CFG.START n, st)]
    a.when (data.testBit 13) (·.clearAll [F.TDC_CNT.MISS n, F.TDC_CNT.REJ n])

/-- OUT_CAL: RECAL makes the next dwell a first dwell (R289). -/
def State.writeOutCal (s : State) (n data : Nat) : State :=
  s.when (data.testBit 14) (·.updOut n (fun o => { o with first := true }))

/-- PRT_CTRL (R300, R308, R314, R317): ADMIN 0 takes the port down; a port without a MODE, or that a reload keeps down, stays so. -/
def State.writePrtCtrl (s : State) (req : Requester) (n data : Nat) : State :=
  let up := data.testBit 0
  let was := s.bit (F.PRT_CTRL.ADMIN n)
  if up && !was && (s.get (F.PRT_STAT.MODE n) == 0 || s.isHeld (0x300 + n)) then s.accessError req 7 (0x900000 + 0x100 * n)
  else
    let a := s.sets [(F.PRT_CTRL.ADMIN n, bitsOf data 0 1), (F.PRT_CTRL.RXPAUSE n, bitsOf data 1 1)]
    let b := a.when (was && !up) (fun s => (s.portDown n).showTxdis n)
    let c := b.when (up && !was) (·.showTxdis n)
    (c.when (data.testBit 2) (·.latcal n)).when (data.testBit 3) (·.asymcal n)

/-- PRT_MG_CTRL (R315, R316): with ADMIN 0 the link is down. -/
def State.writeMgCtrl (s : State) (data : Nat) : State :=
  let a := s.sets [(F.PRT_MG_CTRL.ADMIN, bitsOf data 0 1), (F.PRT_MG_CTRL.NTP, bitsOf data 1 1)]
  if data.testBit 0 then a else a.mgLink 0

/-- APD_PCTRL (R341). -/
def State.writeApdCtrl (s : State) (n data : Nat) : State :=
  (s.when (data.testBit 0) (·.clearAll (apdCounters n))).when (data.testBit 1) (·.set (F.APD_MARGIN.MIN n) 0x7FFF)

/-- PKE_CLS_CTRL (R353). -/
def State.writeClsCtrl (s : State) (req : Requester) (data : Nat) : State :=
  (s.when (data.testBit 0) (·.clsWrite req)).when (data.testBit 1) (·.clsRead req)

/-- What a doorbell finds in host memory that the command does not give: descriptors and frames of free bytes. -/
def State.freePosted (s : State) : Nat → State × List (List Byte × List Byte)
  | 0 => (s, [])
  | n + 1 =>
    let d := leBytes 32 s.freeVal
    let a := s.useFree
    let f := leBytes 9216 a.freeVal
    let r := a.useFree.freePosted n
    (r.1, (d, f) :: r.2)

/-- PKE_RING_PROD of a plain register write (R361). -/
def State.writeRingProd (s : State) (req : Requester) (r data : Nat) : State :=
  let p := ringIdx data
  let n := (p + 131072 - s.get (F.PKE_RING_PROD.PROD r)) % 131072
  let used := (p + 131072 - s.get (F.PKE_RING_CONS.CONS r)) % 131072
  if engineBound r && !isQueue r && s.bit (F.PKE_RING_CFG.EN r) && decide (used ≤ 2 ^ s.ringK r) then
    let x := s.freePosted n
    x.1.writeProd req r data x.2
  else s.writeProd req r data []

/-- NTS_CFG (R391, R398): clearing NTS abandons what has not committed. -/
def State.ntsOff (s : State) : State :=
  (s.pke.ctxs.filter (fun x => decide (1 ≤ x.kind) && decide (x.kind ≤ 3) && !x.committed)).foldl (fun t x => t.abandon x.id (specCtr 1 5)) s

/-- PTP_SA word 0 (R410): TX set here clears it in every other entry with the same SPP. -/
def State.oneTx (s : State) (n : Nat) : State :=
  if !s.bit (F.PTP_SA_0.TX n) then s
  else (List.range 16).foldl (fun t k => if k ≠ n ∧ t.get (F.PTP_SA_0.SPP k) = t.get (F.PTP_SA_0.SPP n) then t.set (F.PTP_SA_0.TX k) 0 else t) s

/-- PWR_DOM_CTRL (R510, R512): the level of a quarter, then the requested state. -/
def State.writeDomCtrl (s : State) (req : Requester) (d data : Nat) : State :=
  let v := data % 4
  if !reqAllowed req d v then s.accessError req 7 (0x300100 + 0x20 * d)
  else
    let a := s.when (decide (d ≤ 4) && bitsOf data 2 2 != s.get (F.PWR_DOM_CTRL.PLVL d)) (·.writePlvl d (bitsOf data 2 2))
    a.writeReq req d v

/-- EVT_TMR_NS (R26, R559). -/
def State.writeTimer (s : State) (req : Requester) (n data : Nat) : State :=
  if 1000000000 ≤ bitsOf data 0 30 then s.accessError req 4 (0x1100048 + 0x10 * n)
  else
    let a := s.sets [(F.EVT_TMR_NS.NS n, bitsOf data 0 30), (F.EVT_TMR_NS.EN n, bitsOf data 31 1)]
    if data.testBit 31 then a.armTimer n else a

/-- A write of a register that acts; none for a register whose writes only store. `ch` is the channel of a channelled register. -/
def State.actingWrite (s : State) (req : Requester) (n : RegName) (i j ch data : Nat) : Option State :=
  match n with
  | .BOOT_CTRL => some (s.writeBootCtrl req data)
  | .RCP_CTRL => some (s.writeRcpCtrl req data)
  | .PWR_DOM_CTRL => some (s.writeDomCtrl req i data)
  | .HRT_DP_CTRL => some (s.writeDpCtrl req data)
  | .HRT_SRV_CTRL => some (s.writeSrvCtrl req i data)
  | .HRT_UTCW => some (s.writeUtcw req data)
  | .TDC_CFG => some (s.writeTdcCfg req ch data)
  | .TDC_GATE => some (s.writeTdcGate req ch data)
  | .TDC_TB => some (s.writeTdcTb req data)
  | .REF_CFG => some (s.writeRefCfg req ch data)
  | .REF_NOMFREQ_LO => some (s.writeNomfreq req ch false data)
  | .REF_NOMFREQ_HI => some (s.writeNomfreq req ch true data)
  | .REF_SELCTL => some (s.writeSelctl data)
  | .OSC_CTRL => some (s.writeOscCtrl req data)
  | .OUT_CFG => some (s.writeOutCfg req ch data)
  | .OUT_DIV => some (s.writeGrid req ch 0 data)
  | .OUT_PARAM => some (s.writeGrid req ch 1 data)
  | .OUT_PHASE => some (s.writeGrid req ch 2 data)
  | .OUT_DELAY => some (s.writeDelay req ch data)
  | .OUT_ALCFG => some (s.writeAlcfg req ch data)
  | .OUT_ALOFF => some (s.writeAloff req ch data)
  | .OUT_CAL => some (s.writeOutCal ch data)
  | .OUT_SYN_FREQ_LO => some (s.writeSynFreq req i false data)
  | .OUT_SYN_FREQ_HI => some (s.writeSynFreq req i true data)
  | .OUT_SYN_CTRL => some (s.writeSynCtrl req i data)
  | .PRT_CTRL => some (s.writePrtCtrl req i data)
  | .PRT_MG_CTRL => some (s.writeMgCtrl data)
  | .APD_PCTRL => some (s.writeApdCtrl i data)
  | .PKE_CTRL => some (s.writeDrain req (data.testBit 0))
  | .PKE_CLS_CTRL => some (s.writeClsCtrl req data)
  | .PKE_CLS_HIT => some { s with pke := { s.pke with hits := dropKey (s.get (F.PKE_CLS_SEL.IDX req.idx)) s.pke.hits } }
  | .PKE_PCNT_CLR => some (s.when (data.testBit 0) (·.clearAll (pcntFields i)))
  | .PKE_RING_CFG => some (s.writeRingCfg req i data)
  | .PKE_RING_PROD => some (s.writeRingProd req i data)
  | .PKE_RING_DROP => some (s.set (F.PKE_RING_DROP.DROP i) 0)
  | .NTS_ROTCTRL => some (s.writeRotctrl req data)
  | .NTS_CTRL => some (s.when (data.testBit 0) (·.clearAll ntsCounters))
  | .PTP_GCTRL => some (s.writeGctrl req data)
  | .PTP_PCTRL => some (s.when (data.testBit 0) (·.clearAll ((List.range 6).map (F.PTP_CNT.CNT i))))
  | .KVT_CTRL => some (s.writeKvtCtrl req data)
  | .KVT_OP => some (s.writeKvtOp req data)
  | .PAIR_CTRL => some (s.writePairCtrl req data)
  | .XBR_HWIN => some (s.writeHwin req data)
  | .EVT_SWSET => some (s.swset req data)
  | .EVT_TMR_NS => some (s.writeTimer req i data)
  | .EVT_COUNT => some (s.set (F.EVT_COUNT.COUNT i) 0)
  | .EVT_PEND => some (s.clearPending i j data)
  | .EVT_EN => some (s.writeEnables i j data)
  | .EVT_QCONS => some (s.writeQcons req i data)
  | .PMU_CTRL => some (s.writePmuCtrl req data)
  | .PMU_ECTL => some (s.writePmuCtl req (.engine i) j data)
  | .PMU_CCTL => some (s.writePmuCtl req .cluster i data)
  | .PMU_ECNT => some (s.writePmuCnt req (.engine i) j data)
  | .PMU_CCNT => some (s.writePmuCnt req .cluster i data)
  | .PMU_SR_CONS => some (s.writeSrCons req data)
  | .SUP_WDOG => some (s.writeWdog req data)
  | .SUP_MBX => some (s.writeMbx req data)
  | _ => none

/-! Registers whose writes store. -/

/-- The mask of a word's locked bits (R14). -/
def State.lockMask (s : State) (off : Nat) : Nat := (s.rcp.locks.filter (fun l => l.1 == off)).foldl (fun m l => m ||| l.2) 0

/-- Store one piece of a word by its access type (R11); `ch` is the copy. -/
def State.storePiece (s : State) (ch off data : Nat) (p : Piece) : State :=
  let f := p.fld ch off
  let x := bitsOf data p.lo p.w
  let old := s.get f
  match p.ty with
  | .rw | .rwl => s.set f (putBits old p.src p.w x)
  | .w1c => s.set f (putBits old p.src p.w (clearBits p.w (bitsOf old p.src p.w) x))
  | .w1s => s.set f (putBits old p.src p.w (bitsOf old p.src p.w ||| x))
  | .ro | .wo | .sc => s

/-- What a stored write brings with it: counters that a W1C bit clears, and what is shown from the register. -/
def State.afterStore (s : State) (n : RegName) (i ch old data : Nat) : State :=
  match n with
  | .HRT_TB_ROUTE => s.when (data.testBit 31) (·.set (F.HRT_TB_ROUTE.CRCERR (i + 1)) 0)
  | .HRT_SRV_LEAD | .HRT_SRV_LIM | .HRT_SRV_KP | .HRT_SRV_KI | .HRT_SRV_FSTEP | .REF_SWSLEW | .REF_HAVG => s.journalChanges
  | .REF_UNC | .REF_DLYUNC => s.evalClass ch
  | .PRT_STAT => s.when (data.testBit 18) (·.set (F.PRT_CNT.OVF i) 0)
  | .PRT_PLANEUNC | .PRT_ASYM | .PRT_LINKUNC => s.showUasym
  | .PKE_STAT => s.when (data.testBit 19) (·.set F.PKE_LANE.REFCNT 0)
  | .PKE_RING_BASE_HI => if isQueue i then s.clearAll [F.PKE_RING_BASE_HI.ADDR i] else s
  | .PKE_RING_DEST => if engineBound i then s else s.clearAll [F.PKE_RING_DEST.PORT i, F.PKE_RING_DEST.TOPIPE i, F.PKE_RING_DEST.PIPE i]
  | .NTS_CFG => s.when (old.testBit 0 && !data.testBit 0) State.ntsOff
  | .PTP_SA_0 => s.oneTx i
  | .PAIR_CFG => s.updPair (fun p => { p with wtrFrom := p.wtrFrom.map (fun _ => s.raw) })
  | .XBR_ERR => s.when (data.testBit 16) (·.clearAll ((List.range 10).map F.XBR_TSTAT.LOCKTO))
  | .XBR_ECC => s.when (data.testBit 31) (·.clearAll [F.XBR_ECC.CE, F.XBR_ECC.UECNT])
  | .PNL_SENSE => s.when (data.testBit 21) (·.setUinPresence i true)
  | _ => s

/-- A write of a register whose writes store (R11, R14, R497): every failing check is a cause, and the lowest is recorded. A change of a
locked field alone leaves the rest of the write in effect. -/
def State.storeWrite (s : State) (req : Requester) (r : RegRow) (i ch off data : Nat) : State :=
  let now := s.fieldWord r ch off
  let mask := s.lockMask off
  let data2 := (data &&& (0xFFFFFFFF ^^^ mask)) ||| (now &&& mask)
  let locked := decide (data &&& mask ≠ now &&& mask)
  let select := selectBad r.name data2
  let bad := s.refusesWrite req r.name i ch now data2
  if select || bad then s.accessError req (if locked then 1 else if select then 5 else 7) off
  else
    let a := (r.pieces.foldl (fun t p => t.storePiece ch off data2 p) s).afterStore r.name i ch now data2
    if locked then a.accessError req 1 off else a

/-- A write that the fabric serves (R11 to R19). -/
def State.writeReg (s : State) (req : Requester) (off data be : Nat) : State :=
  if be % 16 ≠ 15 then s.accessError req 2 off
  else match findReg off with
    | none => s.accessError req 3 off
    | some (r, i, j) =>
      if off / 0x20 = 0x300100 / 0x20 then s.accessError req 7 off
      else if !hasCopies req && isSelect r.name then s.xbrFail req.master 6 1 off
      else
        let ch := s.chanOf req r.scope
        match s.actingWrite req r.name i j ch (data % 2 ^ 32) with
        | some t => t
        | none => s.storeWrite req r i ch off (data % 2 ^ 32)

/-! Accesses. -/

/-- Serve a register access. -/
def State.serveReg (s : State) (req : Requester) (off : Nat) (write : Option (Nat × Nat)) : State :=
  match write with
  | none => s.readReg req off
  | some (data, be) => s.writeReg req off data be

/-- Whether a read is a thread's counter-read instruction (R529). -/
def threadRead (req : Requester) (off : Nat) : Bool := match findReg off with | some (r, i, _) => ownCounter req r.name i | none => false

/-- One aligned register access (R15 to R17, R131): an error, a read of 0 before the block answers, a stall, or service. -/
def State.regAccess (s : State) (req : Requester) (off : Nat) (write : Option (Nat × Nat)) : State :=
  if !s.supply.on then s
  else if write.isNone && threadRead req off then s.readReg req off
  else if write.isNone && !s.aborted req.master && fabricAllows req off && !s.blockAnswers req off then s.emit (.readback req.idx 0)
  else s.atFabric req off (fun s =>
    if s.regsReady (domOf off) then s.serveReg req off write else s.stall (domOf off) { req := req, off := off, write := write })

/-- The accesses that waited for a domain are served, in order (R17); one that finds the domain asleep again waits again. -/
def State.replay (s : State) (d : Nat) : State :=
  if !s.regsReady d then s
  else (s.dm d).stalled.foldl (fun t a => t.regAccess a.req a.off a.write) (s.updDom d (fun x => { x with stalled := [] }))

/-- R15: an access at any byte address, of four bytes: one access for each aligned word that it touches, with the byte enables of the
bytes it touches there. -/
def State.splitAccess (s : State) (req : Requester) (off : Nat) (write : Option (Nat × Nat)) : State :=
  let k := off % 4
  if k = 0 then s.regAccess req off write
  else
    let lo := write.map (fun w => (w.1 * 256 ^ k % 2 ^ 32, w.2 * 2 ^ k % 16))
    let hi := write.map (fun w => (w.1 / 256 ^ (4 - k), w.2 / 2 ^ (4 - k) % 16))
    (s.regAccess req (off - k) lo).regAccess req (off - k + 4) hi

/-- The bytes of a 32-bit write with byte enables. -/
def enabledBytes (addr data be : Nat) : List (Nat × Byte) :=
  ((List.range 4).filter (fun k => be.testBit k)).map (fun k => (addr + k, BitVec.ofNat 8 (data / 256 ^ k)))

/-- An access of four bytes to SRAM through BAR2's addresses (R489, R498, R500, R501, R131). -/
def State.sramAccess (s : State) (req : Requester) (addr : Nat) (write : Option (Nat × Nat)) : State :=
  let m := req.master
  let zero := if write.isNone then s.emit (.completion m 0 [0, 0, 0, 0]) else s
  if !s.supply.on then s
  else if s.aborted m then s.abortAccess m addr
  else match bankOf addr with
    | none => if req = .host then zero else s.xbrFail m 0xF 1 addr
    | some t =>
      if s.stage = 7 ∧ (req = .host ∨ req = .jtag) ∧ 2 ≤ t then zero
      else if req = .host ∧ s.bankOpen addr = false then s.closedBank req addr
      else match write with
        | none => s.askTarget t { master := m, addr := addr, n := 4, plain := true }
        | some (data, be) => s.askTarget t { master := m, addr := addr, n := 0, plain := true, store := some (enabledBytes addr data be) }

/-- The MSI-X table and pending-bit array in BAR4 (R500, R503): 96 entries of four words from 0, whose vector control resets masked; the
pending bits from 0x2000. -/
def State.msixWord (s : State) (off : Nat) : Nat :=
  if off < 0x600 then storeGet s.sys.msixTable off ^^^ (if off % 16 = 12 then 1 else 0)
  else if 0x2000 ≤ off ∧ off < 0x200C then bitsOf s.sys.pba ((off - 0x2000) * 8) 32
  else 0

/-- A write of a table word; one that unmasks a vector with its bit pending sends its message. -/
def State.writeMsix (s : State) (off data be : Nat) : State :=
  if 0x600 ≤ off then s
  else
    let old := s.msixWord off
    let v := (List.range 4).foldl (fun w k => if be.testBit k then putBits w (8 * k) 8 (bitsOf data (8 * k) 8) else w) old
    let a := s.updSys (fun y => { y with msixTable := storeSet y.msixTable off (v ^^^ (if off % 16 = 12 then 1 else 0)) })
    let vec := off / 16
    if off % 16 = 12 ∧ v % 2 = 0 ∧ s.sys.pba.testBit vec then
      (a.updSys (fun y => { y with pba := clearBits 96 y.pba (2 ^ vec) })).msix vec
    else a

/-- An access of four bytes to BAR4, which only the host makes. -/
def State.bar4Access (s : State) (off : Nat) (write : Option (Nat × Nat)) : State :=
  if !s.supply.on then s
  else if s.aborted 4 then s.abortAccess 4 off
  else match write with
    | none => s.emit (.completion 4 0 (leBytes 4 (s.msixWord (off - off % 4))))
    | some (data, be) => s.writeMsix (off - off % 4) data be

/-- An access of four bytes in a BAR's space; one by JTAG shows the test port out of reset (GLB_DBG.TAPACT). -/
def State.access (s : State) (req : Requester) (space : Space) (off : Nat) (write : Option (Nat × Nat)) : State :=
  let s := s.when (req == .jtag) (·.set F.GLB_DBG.TAPACT 1)
  match space with
  | .bar0 => s.splitAccess req off write
  | .bar2 => s.sramAccess req off write
  | .bar4 => s.bar4Access off write

/-- Whether a requester can make an access: an offset inside the BAR (R500), BAR4 for the host alone. -/
def accessExists (req : Requester) (space : Space) (off : Nat) : Bool :=
  match space with
  | .bar0 | .bar2 => decide (off < 0x4000000)
  | .bar4 => decide (off < 0x4000) && req == .host

end Sys2Proof.Machine
end

