-- ==== Sys2Proof/Machine/Power.lean ====
section
/-! DEFINITION. The commands of the power controller (spec/19_power.md). -/

namespace Sys2Proof.Machine

/-- PWR_REQ_WRITE (R512): a write of REQ of a domain other than AON, whose PLVL stays. -/
def execPwrReqWrite (req : Requester) (d value : Nat) (s : State) : Result :=
  onUnit (decide (d < 13)) (s.atFabric req (0x300100 + 0x20 * d) (·.writeReq req d (value % 4)))

/-- SLEEP_ENTRY_BEGIN (R512, R513): a waiting domain whose condition holds. -/
def execSleepEntryBegin (d : Nat) (s : State) : Result :=
  onUnit (decide (d < 13)) (s.when (s.bit (F.PWR_DOM_STAT.WAITING d) && s.mayEnter d) (fun s => s.beginEntry d (s.get (F.PWR_DOM_CTRL.REQ d))))

/-- SLEEP_REQUEST_WITHDRAWN (R512): 10 ms after the request began to wait. -/
def execSleepRequestWithdrawn (d : Nat) (s : State) : Result :=
  onUnit (decide (d < 13)) (s.when (s.bit (F.PWR_DOM_STAT.WAITING d) && decide ((s.dm d).waitSince + 6250000 ≤ s.raw)) (·.withdrawReq d))

/-- SLEEP_ENTRY_COMPLETE (R513). -/
def execSleepEntryComplete (d : Nat) (s : State) : Result :=
  onUnit (decide (d < 13)) (s.when (s.bit (F.PWR_DOM_STAT.ENTERING d)) (·.endEntry d))

/-- DOMAIN_WAKE (R514, R519): a source wakes a sleeping or an entering domain; 2 and 3 name a master. -/
def execDomainWake (d src master : Nat) (s : State) : Result :=
  onUnit (decide (1 ≤ d) && decide (d < 13) && decide (1 ≤ src) && decide (src ≤ 7) && decide (master < 12))
    (s.beginWake d src (if src = 2 ∨ src = 3 then master else 0xF) 0)

/-- WAKE_STALL_END (R514, R516): the accesses that waited are served. -/
def execWakeStallEnd (d : Nat) (s : State) : Result :=
  onUnit (decide (d < 13)) (s.when ((s.dm d).wakeStart.isSome) (fun s => (s.endStall d).replay d))

/-- RETENTION_CHECK_DONE (R516, R520). -/
def execRetentionCheckDone (d bank : Nat) (ok : Bool) (s : State) : Result :=
  onUnit (decide (d < 13)) (s.when ((s.dm d).checking.contains bank) (fun s => (s.endCheck d bank ok).replay d))

/-- PLVL_WRITE (R509, R510): only the quarters have a level. -/
def execPlvlWrite (req : Requester) (d level : Nat) (s : State) : Result :=
  onUnit (decide (d < 13)) (s.atFabric req (0x300100 + 0x20 * d) (fun s =>
    if 1 ≤ d ∧ d ≤ 4 then s.writePlvl d (level % 4) else if d = 0 then s.accessError req 7 0x300100 else s))

/-- PLVL_CHANGE_DONE (R510). -/
def execPlvlChangeDone (d : Nat) (s : State) : Result :=
  onUnit (decide (1 ≤ d) && decide (d ≤ 4)) (s.when (s.bit (F.PWR_DOM_STAT.PLCHG d)) (·.endLevel d))

/-- PCI_LOW_POWER_ENTRY (R512): the link enters L1, or the function D3hot. -/
def execPciLowPowerEntry (s : State) : Result :=
  .next (s.when (s.get (F.PWR_DOM_STAT.STATE 11) == 0 && !s.bit (F.PWR_DOM_STAT.ENTERING 11)) (fun s =>
    (s.updSys (fun y => { y with lowPower := true })).beginEntry 11 1))

end Sys2Proof.Machine
end

