-- ==== Sys2Proof/Machine/Recipe.lean ====
section
/-! DEFINITION. The commands of the recipe (spec/03_recipe.md, R115 to R126). -/

namespace Sys2Proof.Machine

/-- RCP_CHECK (R124): a write of RCP_CTRL with CHECK. -/
def execRcpCheck (req : Requester) (bank : Nat) (s : State) : Result :=
  onUnit (decide (bank < 2)) (s.atFabric req (0x200008) (fun s => s.writeRcpCtrl req (bank + 2)))

/-- RCP_RELOAD (R119, R124): a write of RCP_CTRL with RELOAD. -/
def execRcpReload (req : Requester) (bank : Nat) (s : State) : Result :=
  onUnit (decide (bank < 2)) (s.atFabric req (0x200008) (fun s => s.writeRcpCtrl req (bank + 4)))

/-- RCP_PROG (R124, R125): a write of RCP_CTRL with PROG. -/
def execRcpProg (req : Requester) (bank : Nat) (s : State) : Result :=
  onUnit (decide (bank < 2)) (s.atFabric req (0x200008) (fun s => s.writeRcpCtrl req (bank + 8)))

/-- RCP_PREFER (R124, R125): a write of RCP_CTRL with PREFER. -/
def execRcpPrefer (req : Requester) (bank : Nat) (s : State) : Result :=
  onUnit (decide (bank < 2)) (s.atFabric req (0x200008) (fun s => s.writeRcpCtrl req (bank + 16)))

/-- RECIPE_VALIDATION_DONE (R115, R117, R119): the validation of a start's bank ends, or that of the action on a recipe bank that runs. -/
def execRecipeValidationDone (s : State) : Result :=
  .next (s.when s.supply.on (fun s =>
    if s.stage ≤ 1 ∧ s.boot.starter = false then s.startValidated
    else match s.rcp.action with
      | some x => if x.fw ∨ s.rcp.live.isSome then s else s.actionValidated x
      | none => s))

/-- LIVE_SHADOW_ACK (R121): an island (0 the Hearth, else its route) acknowledges its shadow values. -/
def execLiveShadowAck (island : Nat) (s : State) : Result :=
  onUnit (decide (island < 14)) (match s.rcp.live with
    | some v => { s with rcp := { s.rcp with live := some { v with missing := v.missing.filter (fun i => i != island) } } }
    | none => s)

/-- The bank of the reload that runs. -/
def State.reloadBank (s : State) : Nat := match s.rcp.action with | some (.reload b) => b | _ => 0

/-- LIVE_ACK_DEADLINE (R121): tick C − 128 with an acknowledgement missing. -/
def execLiveAckDeadline (s : State) : Result :=
  .next (match s.rcp.live with
    | some v => s.when (!v.missing.isEmpty && decide (v.c ≤ s.raw + 128)) (fun s => s.liveLate v s.reloadBank)
    | none => s)

/-- RECIPE_LIVE_SWITCH (R121, R122): tick C with every acknowledgement given. -/
def execRecipeLiveSwitch (s : State) : Result :=
  .next (match s.rcp.live with
    | some v => s.when (v.missing.isEmpty && decide (v.c ≤ s.raw)) (fun s => s.liveSwitch v s.reloadBank)
    | none => s)

/-- PROG_DONE (R125): programming ends with its read-back. -/
def execProgDone (mismatch : Bool) (s : State) : Result :=
  .next (match s.rcp.action with
    | some (.prog fw bank src len) => s.progEnd fw bank src len mismatch
    | _ => s)

end Sys2Proof.Machine
end

