-- ==== Sys2Proof/Machine/Registers.lean ====
section
/-! DEFINITION. The register commands (spec/00_scope.md R11, R18). -/

namespace Sys2Proof.Machine

/-- SNAPSHOT_READ (R11, R15 to R18, R34): a read of four bytes. The value is sent to the requester. -/
def execSnapshotRead (req : Requester) (space : Space) (off : Nat) (s : State) : Result :=
  onUnit (accessExists req space off) (s.access req space off none)

/-- REGISTER_WRITE (R9 to R19, R497): a write of four bytes with byte enables. -/
def execRegisterWrite (req : Requester) (space : Space) (off data be : Nat) (s : State) : Result :=
  onUnit (accessExists req space off) ((s.access req space off (some (data % 2 ^ 32, be % 16))).resumeWarm)

end Sys2Proof.Machine
end

