-- ==== Sys2Proof/Machine/Supply.lean ====
section
/-! DEFINITION. The commands of supply and reset (spec/02_module.md, R69 to R73, R88, R445). -/

namespace Sys2Proof.Machine

/-- POWER_UP (R70, R78): the straps as read; an engine whose AON is on is not powered up again. -/
def execPowerUp (home fstartN : Bool) (bankSel : Nat) (s : State) : Result := .next (s.when (!s.supply.on) (·.powerUp home fstartN bankSel))

/-- HOLDUP_CHARGED (R70, R445): updates of the vault may run. -/
def execHoldupCharged (s : State) : Result := .next (s.when s.supply.on (fun s => (s.set F.KVT_STAT.HOLDOK 1).showQueue))

/-- Raise a supply warning (R69, R73, R88). -/
def State.supplyFlag (s : State) (f : Fld) : State := s.flag f 67 0 (s.get F.GLB_SUPPLY.VIN)

/-- VIN_WARNING (R69). -/
def execVinWarning (s : State) : Result :=
  .next (s.when s.supply.on (·.supplyFlag F.GLB_SUPPLY.UVW))

/-- OVERVOLTAGE_WARNING (R69). -/
def execOvervoltageWarning (s : State) : Result :=
  .next (s.when s.supply.on (·.supplyFlag F.GLB_SUPPLY.OVW))

/-- POWER_FAIL (R69, R72): `zeroMs` is how long both zeroise balls stay asserted on the hold-up (R545). -/
def execPowerFail (zeroMs : Nat) (s : State) : Result := .next (s.when s.supply.on (·.supplyFail 4 zeroMs))

/-- OVERVOLTAGE_SHUTDOWN (R69, R72). -/
def execOvervoltageShutdown (zeroMs : Nat) (s : State) : Result := .next (s.when s.supply.on (·.supplyFail 5 zeroMs))

/-- PORST_ASSERT (R71): STOP 0x03 is written and the regulators switch off; the hold-up path stays on, so the vault ends its step. -/
def execPorstAssert (s : State) : Result := .next (s.when s.supply.on (·.vaultPowerFail.coldRestart 3))

/-- THERMAL_WARNING (R73): the hottest die sensor in whole °C. -/
def execThermalWarning (celsius : Int) (s : State) : Result :=
  .next (s.when (s.supply.on && decide (100 ≤ celsius)) (·.supplyFlag F.GLB_SUPPLY.HOTW))

/-- THERMAL_SHUTDOWN (R73). -/
def execThermalShutdown (celsius : Int) (zeroMs : Nat) (s : State) : Result :=
  .next (s.when (s.supply.on && decide (115 ≤ celsius)) (·.supplyFail 6 zeroMs))

/-- SUPPLY_UPDATE (R88, GLB_SUPPLY): every 1 ms, VIN in units of 10 mV (valid from PGOOD, 4 ms after the raw counter's start) and the hottest
die sensor; a condition that still holds sets its bit again. -/
def execSupplyUpdate (vin : Nat) (hottest : Int) (s : State) : Result :=
  .next (s.when s.supply.on (fun s =>
    let good := s.supply.pgood || decide (2500000 ≤ s.raw)
    let uv := decide (vin < 1120)
    let ov := decide (1300 < vin)
    let hot := decide (100 ≤ hottest)
    let a := { s with supply := { s.supply with pgood := good } }
    let b := (a.set F.GLB_SUPPLY.VIN (if good then min 2047 vin else 0)).setI F.GLB_SUPPLY.TMAX (max (-128) (min 127 hottest))
    let c := if uv then b.supplyFlag F.GLB_SUPPLY.UVW else b
    let d := if ov then c.supplyFlag F.GLB_SUPPLY.OVW else c
    if hot then d.supplyFlag F.GLB_SUPPLY.HOTW else d))

end Sys2Proof.Machine
end

