-- ==== Sys2Proof/Machine/TimeBus.lean ====
section
/-! DEFINITION. The commands of the time bus (spec/01_architecture.md, R41 to R55). -/

namespace Sys2Proof.Machine

/-- TOKEN_LAUNCH (R41, R44, R46, R54, R267, R269): at each raw tick that is a multiple of 625. -/
def execTokenLaunch (s : State) : Result := .next (s.when (s.supply.on && s.raw % 625 == 0) (·.applyNudges.launchToken))

/-- TOKEN_ARRIVAL (R48 to R51, R55): a token's bytes reach route `n`'s island at the Hearth edge `edge`. The last route that becomes VALID may
complete a start (R129). -/
def execTokenArrival (n : Nat) (bytes : List Byte) (edge : Nat) (s : State) : Result :=
  onUnit (decide (1 ≤ n) && decide (n < 14)) (s.takeToken n edge bytes).tryComplete

/-- TOKEN_TIMEOUT (R49): no good token within 1,250 ticks of the last good one. -/
def execTokenTimeout (n : Nat) (s : State) : Result :=
  onUnit (decide (1 ≤ n) && decide (n < 14)) (s.when (s.bit (F.HRT_TB_ROUTE.VALID n) && decide ((s.isle n).lastTick + 1250 ≤ s.raw))
    (·.updIsle n (fun r => { r with lost := true })))

/-- The pending pair takes force in the Hearth (route 0): a step relocks the synthesis units (R282); an SRV0 that a reload stopped
meanwhile restarts when that reload has ended; a standby whose proposal met a pending pair proposes again (R462). -/
def State.commitHere (s : State) (p : Pair) : State :=
  let a := s.commitHearth
  let b := (if p.step = 0 then a else a.stepRelock).showLimit
  let c := if b.srvState = 5 ∧ s.srvState ≠ 5 ∧ b.isHeld 0x400 = false then b.leaveStopped else b
  if c.pair.retry && c.inStep then (c.proposeSrv (c.sv 0).r 0).noteRetry else c

/-- PAIR_COMMIT (R50, R222): route 0 is the Hearth; an island switches where its replica reaches the pair's COMMIT tick. -/
def execPairCommit (n : Nat) (s : State) : Result :=
  onUnit (decide (n < 14))
    (if n = 0 then
      match s.hrt.pend with
      | some (p, _) => s.when (decide (p.commit ≤ s.raw)) (·.commitHere p)
      | none => s
    else
      match (s.isle n).pend with
      | some p => s.when (decide (p.commit * 512 ≤ s.replica n)) (·.updIsle n (fun r => { r with cur := some p, pend := none }))
      | none => s)

/-- Markers of a calibration (R52, R55, R140). -/
def State.calMarkers (s : State) : Nat := if s.boot.warm then 256 else 4096

/-- ROUTE_CALIBRATION_DONE (R52, R53): the route whose calibration runs in a start, with the sum and the sum of squares of its round trips in
crumbs. -/
def execRouteCalibrationDone (n sum sumSq : Nat) (s : State) : Result :=
  onUnit (decide (1 ≤ n) && decide (n < 14))
    (s.when (s.tb.calQ.head? == some n && (s.stage == 3 || (s.boot.starter && s.stage == 0))) (fun s => s.startCal n s.calMarkers sum sumSq))

/-- ROUND_TRIP_MEASURED (R54): a round trip in crumbs on channel 23. -/
def execRoundTripMeasured (n rt : Nat) (s : State) : Result := onUnit (decide (1 ≤ n) && decide (n < 14)) (s.roundTrip n rt)

/-- WAKE_CALIBRATION_DONE (R55, R53): the 256 markers of a woken island's route. -/
def execWakeCalibrationDone (n sum sumSq : Nat) (s : State) : Result :=
  onUnit (decide (1 ≤ n) && decide (n < 14))
    (s.when (s.tb.calQ.head? == some n && (s.stage == 6 || s.stage == 7)) (fun s =>
      match s.calLatency n 256 sum sumSq with
      | none => s.calBadRoute n
      | some l => s.calGood n 256 sum l))

end Sys2Proof.Machine
end

