-- ==== Sys2Proof/Machine/Dispatch.lean ====
section
/-! DEFINITION. What each command does: one arm per constructor, one call of its meaning. -/

namespace Sys2Proof.Machine

def exec (i : Instr) (s : State) : Host.Outcome State Fault Refusal :=
  match i with
  | .tokenLaunch => Sys2Proof.Machine.execTokenLaunch s
  | .tokenArrival n bytes edge => Sys2Proof.Machine.execTokenArrival n bytes edge s
  | .tokenTimeout n => Sys2Proof.Machine.execTokenTimeout n s
  | .pairCommit n => Sys2Proof.Machine.execPairCommit n s
  | .routeCalibrationDone n sum sumSq => Sys2Proof.Machine.execRouteCalibrationDone n sum sumSq s
  | .roundTripMeasured n rt => Sys2Proof.Machine.execRoundTripMeasured n rt s
  | .wakeCalibrationDone n sum sumSq => Sys2Proof.Machine.execWakeCalibrationDone n sum sumSq s
  | .powerUp home fstartN bankSel => Sys2Proof.Machine.execPowerUp home fstartN bankSel s
  | .holdupCharged => Sys2Proof.Machine.execHoldupCharged s
  | .vinWarning => Sys2Proof.Machine.execVinWarning s
  | .overvoltageWarning => Sys2Proof.Machine.execOvervoltageWarning s
  | .powerFail zeroMs => Sys2Proof.Machine.execPowerFail zeroMs s
  | .overvoltageShutdown zeroMs => Sys2Proof.Machine.execOvervoltageShutdown zeroMs s
  | .porstAssert => Sys2Proof.Machine.execPorstAssert s
  | .thermalWarning celsius => Sys2Proof.Machine.execThermalWarning celsius s
  | .thermalShutdown celsius zeroMs => Sys2Proof.Machine.execThermalShutdown celsius zeroMs s
  | .supplyUpdate vin hottest => Sys2Proof.Machine.execSupplyUpdate vin hottest s
  | .rcpCheck req bank => Sys2Proof.Machine.execRcpCheck req bank s
  | .rcpReload req bank => Sys2Proof.Machine.execRcpReload req bank s
  | .rcpProg req bank => Sys2Proof.Machine.execRcpProg req bank s
  | .rcpPrefer req bank => Sys2Proof.Machine.execRcpPrefer req bank s
  | .recipeValidationDone => Sys2Proof.Machine.execRecipeValidationDone s
  | .liveShadowAck island => Sys2Proof.Machine.execLiveShadowAck island s
  | .liveAckDeadline => Sys2Proof.Machine.execLiveAckDeadline s
  | .recipeLiveSwitch => Sys2Proof.Machine.execRecipeLiveSwitch s
  | .progDone mismatch => Sys2Proof.Machine.execProgDone mismatch s
  | .domainsGood => Sys2Proof.Machine.execDomainsGood s
  | .regulatorTimeout d => Sys2Proof.Machine.execRegulatorTimeout d s
  | .firmwareValidated => Sys2Proof.Machine.execFirmwareValidated s
  | .supReady => Sys2Proof.Machine.execSupReady s
  | .bootLimitExpiry => Sys2Proof.Machine.execBootLimitExpiry s
  | .stableTimer => Sys2Proof.Machine.execStableTimer s
  | .lastSecWrite => Sys2Proof.Machine.execLastSecWrite s
  | .bootWarm req key => Sys2Proof.Machine.execBootWarm req key s
  | .bootCold req key => Sys2Proof.Machine.execBootCold req key s
  | .bootStarter req key => Sys2Proof.Machine.execBootStarter req key s
  | .bootClrfail req key => Sys2Proof.Machine.execBootClrfail req key s
  | .bootFwprog req key bank => Sys2Proof.Machine.execBootFwprog req key bank s
  | .bootFwprefer req key bank => Sys2Proof.Machine.execBootFwprefer req key bank s
  | .tftpWriteImage fw bank image => Sys2Proof.Machine.execTftpWriteImage fw bank image s
  | .tftpWriteRestart => Sys2Proof.Machine.execTftpWriteRestart s
  | .tftpReadStartrec => Sys2Proof.Machine.execTftpReadStartrec s
  | .mg0RecoveryEcho kind payload => Sys2Proof.Machine.execMg0RecoveryEcho kind payload s
  | .pulseEdge c => Sys2Proof.Machine.execPulseEdge c s
  | .activityTimeout c => Sys2Proof.Machine.execActivityTimeout c s
  | .freqActivityCount c => Sys2Proof.Machine.execFreqActivityCount c s
  | .irigFrame c code widths pr16 => Sys2Proof.Machine.execIrigFrame c code widths pr16 s
  | .gnssEpochStrobe half code kStop => Sys2Proof.Machine.execGnssEpochStrobe half code kStop s
  | .gnssSolution tsys corr ukind used dual moved validated pos sats => Sys2Proof.Machine.execGnssSolution tsys corr ukind used dual moved validated pos sats s
  | .gnssSurveyComplete => Sys2Proof.Machine.execGnssSurveyComplete s
  | .gnssNoFixTimeout => Sys2Proof.Machine.execGnssNoFixTimeout s
  | .antennaCurrentSample mA => Sys2Proof.Machine.execAntennaCurrentSample mA s
  | .antennaShortCutoff => Sys2Proof.Machine.execAntennaShortCutoff s
  | .antennaRetry mA => Sys2Proof.Machine.execAntennaRetry mA s
  | .esmcPdu c bytes => Sys2Proof.Machine.execEsmcPdu c bytes s
  | .esmcTimeout c => Sys2Proof.Machine.execEsmcTimeout c s
  | .announceReceiptTimeout c => Sys2Proof.Machine.execAnnounceReceiptTimeout c s
  | .qclassEvaluation c => Sys2Proof.Machine.execQclassEvaluation c s
  | .uinSenseSample k nV => Sys2Proof.Machine.execUinSenseSample k nV s
  | .plugHoldDone c => Sys2Proof.Machine.execPlugHoldDone c s
  | .heldStampRelease c => Sys2Proof.Machine.execHeldStampRelease c s
  | .refCfgWrite req c data => Sys2Proof.Machine.execRefCfgWrite req c data s
  | .refNomfreqWrite req c high data => Sys2Proof.Machine.execRefNomfreqWrite req c high data s
  | .tdcEdge n half code kStop => Sys2Proof.Machine.execTdcEdge n half code kStop s
  | .interpolatorCalibration n half c1 c2 => Sys2Proof.Machine.execInterpolatorCalibration n half c1 c2 s
  | .phaseResultMs c => Sys2Proof.Machine.execPhaseResultMs c s
  | .intervalRecord n => Sys2Proof.Machine.execIntervalRecord n s
  | .gateEnd n => Sys2Proof.Machine.execGateEnd n s
  | .tdcClrcnt req n => Sys2Proof.Machine.execTdcClrcnt req n s
  | .tdcTbWrite req data => Sys2Proof.Machine.execTdcTbWrite req data s
  | .tdcGateWrite req n data => Sys2Proof.Machine.execTdcGateWrite req n data s
  | .cellHeatingDone => Sys2Proof.Machine.execCellHeatingDone s
  | .opticalSearchDone => Sys2Proof.Machine.execOpticalSearchDone s
  | .microwaveLock => Sys2Proof.Machine.execMicrowaveLock s
  | .cellSearchTimeout => Sys2Proof.Machine.execCellSearchTimeout s
  | .cellFaultRetry => Sys2Proof.Machine.execCellFaultRetry s
  | .cellUnlock inWindow => Sys2Proof.Machine.execCellUnlock inWindow s
  | .ovenProofClear => Sys2Proof.Machine.execOvenProofClear s
  | .cellProofClear => Sys2Proof.Machine.execCellProofClear s
  | .ovenDeviation => Sys2Proof.Machine.execOvenDeviation s
  | .cellProofSet => Sys2Proof.Machine.execCellProofSet s
  | .heaterFault cell => Sys2Proof.Machine.execHeaterFault cell s
  | .sensorSample temps oven cell ovenHeat cellHeat => Sys2Proof.Machine.execSensorSample temps oven cell ovenHeat cellHeat s
  | .loadReport q used => Sys2Proof.Machine.execLoadReport q used s
  | .loadReportMissing q => Sys2Proof.Machine.execLoadReportMissing q s
  | .operatingPointUpdate => Sys2Proof.Machine.execOperatingPointUpdate s
  | .ageingDayEnd => Sys2Proof.Machine.execAgeingDayEnd s
  | .modelStoreWrite ok => Sys2Proof.Machine.execModelStoreWrite ok s
  | .oscClrC req key => Sys2Proof.Machine.execOscClrC req key s
  | .oscClrO req key => Sys2Proof.Machine.execOscClrO req key s
  | .oscRelock req key => Sys2Proof.Machine.execOscRelock req key s
  | .oscStore req key ok => Sys2Proof.Machine.execOscStore req key ok s
  | .srvUpdate n => Sys2Proof.Machine.execSrvUpdate n s
  | .dpGo req key => Sys2Proof.Machine.execDpGo req key s
  | .srvManWrite req data => Sys2Proof.Machine.execSrvManWrite req data s
  | .srvClri req n => Sys2Proof.Machine.execSrvClri req n s
  | .utcSourceReport src offset ann leapSec after => Sys2Proof.Machine.execUtcSourceReport src offset ann leapSec after s
  | .leapSecReached => Sys2Proof.Machine.execLeapSecReached s
  | .utcDisagreeTimeout => Sys2Proof.Machine.execUtcDisagreeTimeout s
  | .utcwSetoff req offset => Sys2Proof.Machine.execUtcwSetoff req offset s
  | .setoffApply => Sys2Proof.Machine.execSetoffApply s
  | .utcwSched req del => Sys2Proof.Machine.execUtcwSched req del s
  | .utcwCancel req => Sys2Proof.Machine.execUtcwCancel req s
  | .secondBoundary => Sys2Proof.Machine.execSecondBoundary s
  | .refEvaluation c => Sys2Proof.Machine.execRefEvaluation c s
  | .holdoffEnd c => Sys2Proof.Machine.execHoldoffEnd c s
  | .qtimeExpiry c => Sys2Proof.Machine.execQtimeExpiry c s
  | .selectionEvaluation => Sys2Proof.Machine.execSelectionEvaluation s
  | .refSelctlWrite req data => Sys2Proof.Machine.execRefSelctlWrite req data s
  | .synFreqWrite req u high data => Sys2Proof.Machine.execSynFreqWrite req u high data s
  | .synLockDeclared u => Sys2Proof.Machine.execSynLockDeclared u s
  | .outputRelease n => Sys2Proof.Machine.execOutputRelease n s
  | .slewStep u => Sys2Proof.Machine.execSlewStep u s
  | .synLossOfLock u => Sys2Proof.Machine.execSynLossOfLock u s
  | .synReferenceLoss u => Sys2Proof.Machine.execSynReferenceLoss u s
  | .coastEnd u => Sys2Proof.Machine.execCoastEnd u s
  | .outEnWrite req n data => Sys2Proof.Machine.execOutEnWrite req n data s
  | .outRegridWrite req n which value => Sys2Proof.Machine.execOutRegridWrite req n which value s
  | .outRealign req u data => Sys2Proof.Machine.execOutRealign req u data s
  | .outRecal req n => Sys2Proof.Machine.execOutRecal req n s
  | .loopbackDwellEnd n began lams => Sys2Proof.Machine.execLoopbackDwellEnd n began lams s
  | .lineStartEdge n at16 => Sys2Proof.Machine.execLineStartEdge n at16 s
  | .frameReceived n edge b preempt bytes => Sys2Proof.Machine.execFrameReceived n edge b preempt bytes s
  | .frameTransmitted n q edge b => Sys2Proof.Machine.execFrameTransmitted n q edge b s
  | .blockLock n => Sys2Proof.Machine.execBlockLock n s
  | .latencyMeasured n rx tx => Sys2Proof.Machine.execLatencyMeasured n rx tx s
  | .prtLatcal req n => Sys2Proof.Machine.execPrtLatcal req n s
  | .linkDown n cut => Sys2Proof.Machine.execLinkDown n cut s
  | .pauseFrame n quanta => Sys2Proof.Machine.execPauseFrame n quanta s
  | .preemptVerifyDone n ok => Sys2Proof.Machine.execPreemptVerifyDone n ok s
  | .prtAsymcal req n => Sys2Proof.Machine.execPrtAsymcal req n s
  | .asymcalWindowEnd n => Sys2Proof.Machine.execAsymcalWindowEnd n s
  | .esmcInfoSend n event => Sys2Proof.Machine.execEsmcInfoSend n event s
  | .mg0RxInterrupt => Sys2Proof.Machine.execMg0RxInterrupt s
  | .sfpAbsChange n abs => Sys2Proof.Machine.execSfpAbsChange n abs s
  | .sfpLos n los => Sys2Proof.Machine.execSfpLos n los s
  | .reservation id starts => Sys2Proof.Machine.execReservation id starts s
  | .sealedMessageArrival id => Sys2Proof.Machine.execSealedMessageArrival id s
  | .departureRelease n => Sys2Proof.Machine.execDepartureRelease n s
  | .commitRecord id => Sys2Proof.Machine.execCommitRecord id s
  | .apdClrcnt req n => Sys2Proof.Machine.execApdClrcnt req n s
  | .apdClrmarg req n => Sys2Proof.Machine.execApdClrmarg req n s
  | .pipelineDequeue p st => Sys2Proof.Machine.execPipelineDequeue p st s
  | .laneGrant hmac => Sys2Proof.Machine.execLaneGrant hmac s
  | .laneResult j bad => Sys2Proof.Machine.execLaneResult j bad s
  | .ringProdWrite req r prod posted => Sys2Proof.Machine.execRingProdWrite req r prod posted s
  | .descriptorWriteback r host => Sys2Proof.Machine.execDescriptorWriteback r host s
  | .ringEnWrite req r data => Sys2Proof.Machine.execRingEnWrite req r data s
  | .ringCoalesceTimeout r => Sys2Proof.Machine.execRingCoalesceTimeout r s
  | .pkeDrainWrite req data => Sys2Proof.Machine.execPkeDrainWrite req data s
  | .drained => Sys2Proof.Machine.execDrained s
  | .engineFault k reload => Sys2Proof.Machine.execEngineFault k reload s
  | .clsWrite req => Sys2Proof.Machine.execClsWrite req s
  | .clsRead req => Sys2Proof.Machine.execClsRead req s
  | .clsBankSwap => Sys2Proof.Machine.execClsBankSwap s
  | .pcntClr req p => Sys2Proof.Machine.execPcntClr req p s
  | .ntsRequest id => Sys2Proof.Machine.execNtsRequest id s
  | .keyRotation => Sys2Proof.Machine.execKeyRotation s
  | .ntsRotate req key => Sys2Proof.Machine.execNtsRotate req key s
  | .rotationSwitch => Sys2Proof.Machine.execRotationSwitch s
  | .encslotRetire => Sys2Proof.Machine.execEncslotRetire s
  | .graceExpiry p => Sys2Proof.Machine.execGraceExpiry p s
  | .sketchSweep => Sys2Proof.Machine.execSketchSweep s
  | .ntsReseed req key => Sys2Proof.Machine.execNtsReseed req key s
  | .drbgReseed => Sys2Proof.Machine.execDrbgReseed s
  | .ntsClrcnt req => Sys2Proof.Machine.execNtsClrcnt req s
  | .ntsKeConnection c ev => Sys2Proof.Machine.execNtsKeConnection c ev s
  | .ntsKeIdleTimeout c => Sys2Proof.Machine.execNtsKeIdleTimeout c s
  | .mg0NtpRequest frame => Sys2Proof.Machine.execMg0NtpRequest frame s
  | .ptpMessage id => Sys2Proof.Machine.execPtpMessage id s
  | .streamBuild uni n mt => Sys2Proof.Machine.execStreamBuild uni n mt s
  | .grantExpiry slot => Sys2Proof.Machine.execGrantExpiry slot s
  | .bmcaEvaluation => Sys2Proof.Machine.execBmcaEvaluation s
  | .ptpGread req => Sys2Proof.Machine.execPtpGread req s
  | .ptpGinval req key => Sys2Proof.Machine.execPtpGinval req key s
  | .ptpGflush req key => Sys2Proof.Machine.execPtpGflush req key s
  | .kvtDerive req data => Sys2Proof.Machine.execKvtDerive req data s
  | .kvtInval req data => Sys2Proof.Machine.execKvtInval req data s
  | .kvtImport req data => Sys2Proof.Machine.execKvtImport req data s
  | .kvtExport req data => Sys2Proof.Machine.execKvtExport req data s
  | .kvtAgree req data => Sys2Proof.Machine.execKvtAgree req data s
  | .kvtSign req data => Sys2Proof.Machine.execKvtSign req data s
  | .kvtPubkey req data => Sys2Proof.Machine.execKvtPubkey req data s
  | .vaultUpdate phase2 => Sys2Proof.Machine.execVaultUpdate phase2 s
  | .shareRefresh failed => Sys2Proof.Machine.execShareRefresh failed s
  | .holdupTest projected => Sys2Proof.Machine.execHoldupTest projected s
  | .kvtZeroise req key => Sys2Proof.Machine.execKvtZeroise req key s
  | .dbgEnSet => Sys2Proof.Machine.execDbgEnSet s
  | .helloRecord lane bytes => Sys2Proof.Machine.execHelloRecord lane bytes s
  | .ppsmRecord lane bytes => Sys2Proof.Machine.execPpsmRecord lane bytes s
  | .healthRecord lane bytes => Sys2Proof.Machine.execHealthRecord lane bytes s
  | .boundRecord lane bytes => Sys2Proof.Machine.execBoundRecord lane bytes s
  | .resultJournalRecord lane bytes => Sys2Proof.Machine.execResultJournalRecord lane bytes s
  | .updateRecord lane bytes => Sys2Proof.Machine.execUpdateRecord lane bytes s
  | .selectRecord lane bytes => Sys2Proof.Machine.execSelectRecord lane bytes s
  | .leapRecord lane bytes => Sys2Proof.Machine.execLeapRecord lane bytes s
  | .digestRecord lane bytes => Sys2Proof.Machine.execDigestRecord lane bytes s
  | .paramRecord lane bytes => Sys2Proof.Machine.execParamRecord lane bytes s
  | .srvstateRecord lane bytes => Sys2Proof.Machine.execSrvstateRecord lane bytes s
  | .grantRecord lane bytes => Sys2Proof.Machine.execGrantRecord lane bytes s
  | .ntskeyRecord lane bytes => Sys2Proof.Machine.execNtskeyRecord lane bytes s
  | .snapRecord lane bytes => Sys2Proof.Machine.execSnapRecord lane bytes s
  | .vreqRecord lane bytes => Sys2Proof.Machine.execVreqRecord lane bytes s
  | .verdictRecord lane bytes => Sys2Proof.Machine.execVerdictRecord lane bytes s
  | .swapRecord lane bytes => Sys2Proof.Machine.execSwapRecord lane bytes s
  | .ackRecord lane bytes => Sys2Proof.Machine.execAckRecord lane bytes s
  | .takeRecord lane bytes => Sys2Proof.Machine.execTakeRecord lane bytes s
  | .keyxRecord lane bytes => Sys2Proof.Machine.execKeyxRecord lane bytes s
  | .helloSend => Sys2Proof.Machine.execHelloSend s
  | .healthSend => Sys2Proof.Machine.execHealthSend s
  | .boundSend => Sys2Proof.Machine.execBoundSend s
  | .digestSend => Sys2Proof.Machine.execDigestSend s
  | .ackSend => Sys2Proof.Machine.execAckSend s
  | .ppiEdge half code kStop active => Sys2Proof.Machine.execPpiEdge half code kStop active s
  | .ppiStale => Sys2Proof.Machine.execPpiStale s
  | .seekEvaluation alertLow => Sys2Proof.Machine.execSeekEvaluation alertLow s
  | .homeRandomWait => Sys2Proof.Machine.execHomeRandomWait s
  | .journalGapTimeout => Sys2Proof.Machine.execJournalGapTimeout s
  | .selfCheck => Sys2Proof.Machine.execSelfCheck s
  | .disputeExchange => Sys2Proof.Machine.execDisputeExchange s
  | .twinLost alertLow => Sys2Proof.Machine.execTwinLost alertLow s
  | .laneLockLoss lane => Sys2Proof.Machine.execLaneLockLoss lane s
  | .wtrExpiry => Sys2Proof.Machine.execWtrExpiry s
  | .swapBoundary => Sys2Proof.Machine.execSwapBoundary s
  | .pairSwap req key => Sys2Proof.Machine.execPairSwap req key s
  | .pairResync req key => Sys2Proof.Machine.execPairResync req key s
  | .ensembleUpdate => Sys2Proof.Machine.execEnsembleUpdate s
  | .mbxDoorbell req => Sys2Proof.Machine.execMbxDoorbell req s
  | .mbxPing => Sys2Proof.Machine.execMbxPing s
  | .mbxVersion => Sys2Proof.Machine.execMbxVersion s
  | .mbxAddrSet => Sys2Proof.Machine.execMbxAddrSet s
  | .mbxAddrGet => Sys2Proof.Machine.execMbxAddrGet s
  | .mbxKeCert => Sys2Proof.Machine.execMbxKeCert s
  | .mbxPtpDs => Sys2Proof.Machine.execMbxPtpDs s
  | .mbxNav => Sys2Proof.Machine.execMbxNav s
  | .mbxLog => Sys2Proof.Machine.execMbxLog s
  | .mbxResponse => Sys2Proof.Machine.execMbxResponse s
  | .wdogKick req => Sys2Proof.Machine.execWdogKick req s
  | .wdogExpiry => Sys2Proof.Machine.execWdogExpiry s
  | .firmwareFatal code => Sys2Proof.Machine.execFirmwareFatal code s
  | .lockedSequence m addr n write => Sys2Proof.Machine.execLockedSequence m addr n write s
  | .lockTimeout t => Sys2Proof.Machine.execLockTimeout t s
  | .masterReset m inFlight => Sys2Proof.Machine.execMasterReset m inFlight s
  | .sramScrub found => Sys2Proof.Machine.execSramScrub found s
  | .pcieLinkReset k => Sys2Proof.Machine.execPcieLinkReset k s
  | .pcieLinkUp speed width => Sys2Proof.Machine.execPcieLinkUp speed width s
  | .atomicOp k space n addr a b late => Sys2Proof.Machine.execAtomicOp k space n addr a b late s
  | .xbrHwinWrite req data => Sys2Proof.Machine.execXbrHwinWrite req data s
  | .pwrReqWrite req d value => Sys2Proof.Machine.execPwrReqWrite req d value s
  | .sleepEntryBegin d => Sys2Proof.Machine.execSleepEntryBegin d s
  | .sleepRequestWithdrawn d => Sys2Proof.Machine.execSleepRequestWithdrawn d s
  | .sleepEntryComplete d => Sys2Proof.Machine.execSleepEntryComplete d s
  | .domainWake d src master => Sys2Proof.Machine.execDomainWake d src master s
  | .wakeStallEnd d => Sys2Proof.Machine.execWakeStallEnd d s
  | .retentionCheckDone d bank ok => Sys2Proof.Machine.execRetentionCheckDone d bank ok s
  | .plvlWrite req d level => Sys2Proof.Machine.execPlvlWrite req d level s
  | .plvlChangeDone d => Sys2Proof.Machine.execPlvlChangeDone d s
  | .pmuCounterOverflow set j n => Sys2Proof.Machine.execPmuCounterOverflow set j n s
  | .pmuCounterWrite req set j ctl data => Sys2Proof.Machine.execPmuCounterWrite req set j ctl data s
  | .pmuFreezeWrite req on => Sys2Proof.Machine.execPmuFreezeWrite req on s
  | .pmuClrall req => Sys2Proof.Machine.execPmuClrall req s
  | .preciseSampleTag k => Sys2Proof.Machine.execPreciseSampleTag k s
  | .preciseSampleRecord k pc insn thread lat flags ctx => Sys2Proof.Machine.execPreciseSampleRecord k pc insn thread lat flags ctx s
  | .pmuSrConsWrite req value => Sys2Proof.Machine.execPmuSrConsWrite req value s
  | .keySample low zeroA zeroB => Sys2Proof.Machine.execKeySample low zeroA zeroB s
  | .keyHold k => Sys2Proof.Machine.execKeyHold k s
  | .touchSample caps => Sys2Proof.Machine.execTouchSample caps s
  | .touchTimeout t => Sys2Proof.Machine.execTouchTimeout t s
  | .ledUpdate => Sys2Proof.Machine.execLedUpdate s
  | .ledopen n => Sys2Proof.Machine.execLedopen n s
  | .zeroiseCountComplete => Sys2Proof.Machine.execZeroiseCountComplete s
  | .zfault => Sys2Proof.Machine.execZfault s
  | .evtSwset req bits => Sys2Proof.Machine.execEvtSwset req bits s
  | .signalInstruction engine k => Sys2Proof.Machine.execSignalInstruction engine k s
  | .evtTimerArm req n sec ns per => Sys2Proof.Machine.execEvtTimerArm req n sec ns per s
  | .evtTimerExpiry n => Sys2Proof.Machine.execEvtTimerExpiry n s
  | .evtQconsWrite req side value => Sys2Proof.Machine.execEvtQconsWrite req side value s
  | .evtEnWrite req side group value => Sys2Proof.Machine.execEvtEnWrite req side group value s
  | .snapshotRead req space off => Sys2Proof.Machine.execSnapshotRead req space off s
  | .registerWrite req space off data be => Sys2Proof.Machine.execRegisterWrite req space off data be s
  | .pl0BlockLock lane => Sys2Proof.Machine.execPl0BlockLock lane s
  | .mg0LinkChange speed => Sys2Proof.Machine.execMg0LinkChange speed s
  | .pauseEnd n => Sys2Proof.Machine.execPauseEnd n s
  | .delayReqSend peer => Sys2Proof.Machine.execDelayReqSend peer s
  | .grantRequestSend k => Sys2Proof.Machine.execGrantRequestSend k s
  | .peerReachTimeout k => Sys2Proof.Machine.execPeerReachTimeout k s
  | .utcSourceExpiry src => Sys2Proof.Machine.execUtcSourceExpiry src s
  | .pciLowPowerEntry => Sys2Proof.Machine.execPciLowPowerEntry s
  | .ntsKeCertExpiry seconds => Sys2Proof.Machine.execNtsKeCertExpiry seconds s

end Sys2Proof.Machine
end

