-- ==== Sys2Proof/Machine/Tick.lean ====
section
/-! DEFINITION. What passing time does by itself: one tick of the raw clock. -/

namespace Sys2Proof.Machine

/-- One tick of the raw clock (R22): the 64-bit raw counter counts while AON is powered. -/
def State.tick (s : State) : State := if s.supply.on then { s with raw := (s.raw + 1) % 2 ^ 64 } else s

end Sys2Proof.Machine
end

