-- ==== Sys2Proof/WellFormed.lean ====
section
/-! DEFINITION. Which commands name units the hardware has: a route, channel, port, slot, bank or domain within its count
(spec/00_scope.md and each block's own file). Any other command stops with the fault noSuchUnit. -/

namespace Sys2Proof

/-- A counter that exists: eight in each of sixteen engines, sixteen in the cluster (R523). -/
def PmuSet.has : PmuSet → Nat → Bool
  | .engine k, j => decide (j < 8) && decide (k < 16)
  | .cluster, j => decide (j < 16)

/-- An offset inside the space: BAR0 and BAR2 are 64 MB (R500); only the host reaches the MSI-X table of BAR4. -/
def Requester.reaches (req : Requester) (space : Space) (off : Nat) : Bool :=
  match space with
  | .bar0 | .bar2 => decide (off < 0x4000000)
  | .bar4 => decide (off < 0x4000) && req == .host

/-- The command names only units that exist. -/
def Instr.wf : Instr → Bool
  | .tokenArrival n _ _ => decide (1 ≤ n) && decide (n < 14)
  | .tokenTimeout n => decide (1 ≤ n) && decide (n < 14)
  | .pairCommit n => decide (n < 14)
  | .routeCalibrationDone n _ _ => decide (1 ≤ n) && decide (n < 14)
  | .roundTripMeasured n _ => decide (1 ≤ n) && decide (n < 14)
  | .wakeCalibrationDone n _ _ => decide (1 ≤ n) && decide (n < 14)
  | .rcpCheck _ bank => decide (bank < 2)
  | .rcpReload _ bank => decide (bank < 2)
  | .rcpProg _ bank => decide (bank < 2)
  | .rcpPrefer _ bank => decide (bank < 2)
  | .liveShadowAck island => decide (island < 14)
  | .regulatorTimeout d => decide (d < 13)
  | .bootFwprog _ _ bank => decide (bank < 2)
  | .bootFwprefer _ _ bank => decide (bank < 2)
  | .tftpWriteImage _ bank _ => decide (bank < 2)
  | .pulseEdge c => decide (c < 16)
  | .activityTimeout c => decide (c < 16)
  | .freqActivityCount c => decide (c < 16)
  | .irigFrame c code _ _ => decide (c < 16) && decide (code < 8)
  | .gnssEpochStrobe half _ _ => decide (half < 2)
  | .esmcPdu c _ => decide (c < 16)
  | .esmcTimeout c => decide (c < 16)
  | .announceReceiptTimeout c => decide (c < 16)
  | .qclassEvaluation c => decide (c < 16)
  | .uinSenseSample k _ => decide (k < 6)
  | .plugHoldDone c => decide (c < 16)
  | .heldStampRelease c => decide (c < 16)
  | .refCfgWrite _ c _ => decide (c < 16)
  | .refNomfreqWrite _ c _ _ => decide (c < 16)
  | .tdcEdge n half _ _ => decide (n < 24) && decide (half < 2)
  | .interpolatorCalibration n half _ _ => decide (n < 24) && decide (half < 2)
  | .phaseResultMs c => decide (c < 16)
  | .intervalRecord n => decide (n < 24)
  | .gateEnd n => decide (n < 24)
  | .tdcClrcnt _ n => decide (n < 24)
  | .tdcGateWrite _ n _ => decide (n < 24)
  | .loadReport q _ => decide (q < 4)
  | .loadReportMissing q => decide (q < 4)
  | .srvUpdate n => decide (n < 4)
  | .srvClri _ n => decide (n < 4)
  | .utcSourceReport src _ _ _ _ => decide (2 ≤ src) && decide (src ≤ 4)
  | .refEvaluation c => decide (c < 16)
  | .holdoffEnd c => decide (c < 16)
  | .qtimeExpiry c => decide (c < 16)
  | .synFreqWrite _ u _ _ => decide (u < 4)
  | .synLockDeclared u => decide (u < 5)
  | .outputRelease n => decide (n < 12)
  | .slewStep u => decide (u < 4)
  | .synLossOfLock u => decide (u < 5)
  | .synReferenceLoss u => decide (u < 5)
  | .coastEnd u => decide (u < 5)
  | .outEnWrite _ n _ => decide (n < 12)
  | .outRegridWrite _ n which _ => decide (n < 12) && decide (which < 3)
  | .outRealign _ u _ => decide (u < 4)
  | .outRecal _ n => decide (n < 12)
  | .loopbackDwellEnd n _ _ => decide (n < 12)
  | .lineStartEdge n _ => decide (n < 12)
  | .frameReceived n _ _ _ _ => decide (n < 4)
  | .frameTransmitted n _ _ _ => decide (n < 4)
  | .blockLock n => decide (n < 4)
  | .latencyMeasured n _ _ => decide (n < 4)
  | .prtLatcal _ n => decide (n < 4)
  | .linkDown n _ => decide (n < 4)
  | .pauseFrame n _ => decide (n < 4)
  | .preemptVerifyDone n _ => decide (n < 4)
  | .prtAsymcal _ n => decide (n < 4)
  | .asymcalWindowEnd n => decide (n < 4)
  | .esmcInfoSend n _ => decide (n < 4)
  | .sfpAbsChange n _ => decide (n < 4)
  | .sfpLos n _ => decide (n < 4)
  | .departureRelease n => decide (n < 4)
  | .apdClrcnt _ n => decide (n < 4)
  | .apdClrmarg _ n => decide (n < 4)
  | .pipelineDequeue p st => decide (p < 8) && decide (st < 4)
  | .laneResult j _ => decide (j < 12)
  | .ringProdWrite _ r _ _ => decide (r < 144)
  | .descriptorWriteback r _ => decide (r < 144)
  | .ringEnWrite _ r _ => decide (r < 144)
  | .ringCoalesceTimeout r => decide (r < 144)
  | .engineFault k _ => decide (k < 16)
  | .pcntClr _ p => decide (p < 8)
  | .graceExpiry p => decide (p < 4)
  | .streamBuild _ n _ => decide (n < 4)
  | .grantExpiry slot => decide (slot < 65536)
  | .helloRecord lane _ => decide (lane < 2)
  | .ppsmRecord lane _ => decide (lane < 2)
  | .healthRecord lane _ => decide (lane < 2)
  | .boundRecord lane _ => decide (lane < 2)
  | .resultJournalRecord lane _ => decide (lane < 2)
  | .updateRecord lane _ => decide (lane < 2)
  | .selectRecord lane _ => decide (lane < 2)
  | .leapRecord lane _ => decide (lane < 2)
  | .digestRecord lane _ => decide (lane < 2)
  | .paramRecord lane _ => decide (lane < 2)
  | .srvstateRecord lane _ => decide (lane < 2)
  | .grantRecord lane _ => decide (lane < 2)
  | .ntskeyRecord lane _ => decide (lane < 2)
  | .snapRecord lane _ => decide (lane < 2)
  | .vreqRecord lane _ => decide (lane < 2)
  | .verdictRecord lane _ => decide (lane < 2)
  | .swapRecord lane _ => decide (lane < 2)
  | .ackRecord lane _ => decide (lane < 2)
  | .takeRecord lane _ => decide (lane < 2)
  | .keyxRecord lane _ => decide (lane < 2)
  | .ppiEdge half _ _ _ => decide (half < 2)
  | .laneLockLoss lane => decide (lane < 2)
  | .lockedSequence m _ _ _ => decide (m < 12)
  | .lockTimeout t => decide (t < 6)
  | .masterReset m _ => decide (m < 12)
  | .pwrReqWrite _ d _ => decide (d < 13)
  | .sleepEntryBegin d => decide (d < 13)
  | .sleepRequestWithdrawn d => decide (d < 13)
  | .sleepEntryComplete d => decide (d < 13)
  | .domainWake d src master => decide (1 ≤ d) && decide (d < 13) && decide (1 ≤ src) && decide (src ≤ 7) && decide (master < 12)
  | .wakeStallEnd d => decide (d < 13)
  | .retentionCheckDone d _ _ => decide (d < 13)
  | .plvlWrite _ d _ => decide (d < 13)
  | .plvlChangeDone d => decide (1 ≤ d) && decide (d ≤ 4)
  | .pmuCounterOverflow set j _ => set.has j
  | .pmuCounterWrite _ set j _ _ => set.has j
  | .preciseSampleTag k => decide (k < 16)
  | .preciseSampleRecord k _ _ _ _ _ _ => decide (k < 16)
  | .keyHold k => decide (k < 8)
  | .touchTimeout t => decide (t < 4)
  | .ledopen n => decide (n < 16)
  | .signalInstruction engine k => decide (engine < 16) && decide (k < 16)
  | .evtTimerArm _ n _ _ _ => decide (n < 5)
  | .evtTimerExpiry n => decide (n < 5)
  | .evtQconsWrite _ side _ => decide (side < 2)
  | .evtEnWrite _ side group _ => decide (side < 2) && decide (group < 3)
  | .snapshotRead req space off => req.reaches space off
  | .registerWrite req space off _ _ => req.reaches space off
  | .pl0BlockLock lane => decide (lane < 2)
  | .mg0LinkChange speed => decide (speed < 3)
  | .pauseEnd n => decide (n < 4)
  | .delayReqSend peer => match peer with | none => true | some k => decide (k < 2048)
  | .grantRequestSend k => decide (k < 2048)
  | .peerReachTimeout k => decide (k < 2048)
  | .utcSourceExpiry src => decide (2 ≤ src) && decide (src ≤ 4)
  | .tokenLaunch | .powerUp .. | .holdupCharged | .vinWarning | .overvoltageWarning | .powerFail ..
  | .overvoltageShutdown .. | .porstAssert | .thermalWarning .. | .thermalShutdown .. | .supplyUpdate ..
  | .recipeValidationDone | .liveAckDeadline | .recipeLiveSwitch | .progDone .. | .domainsGood | .firmwareValidated
  | .supReady | .bootLimitExpiry | .stableTimer | .lastSecWrite | .bootWarm .. | .bootCold .. | .bootStarter ..
  | .bootClrfail .. | .tftpWriteRestart | .tftpReadStartrec | .mg0RecoveryEcho .. | .gnssSolution ..
  | .gnssSurveyComplete | .gnssNoFixTimeout | .antennaCurrentSample .. | .antennaShortCutoff | .antennaRetry ..
  | .tdcTbWrite .. | .cellHeatingDone | .opticalSearchDone | .microwaveLock | .cellSearchTimeout | .cellFaultRetry
  | .cellUnlock .. | .ovenProofClear | .cellProofClear | .ovenDeviation | .cellProofSet | .heaterFault ..
  | .sensorSample .. | .operatingPointUpdate | .ageingDayEnd | .modelStoreWrite .. | .oscClrC .. | .oscClrO ..
  | .oscRelock .. | .oscStore .. | .dpGo .. | .srvManWrite .. | .leapSecReached | .utcDisagreeTimeout | .utcwSetoff ..
  | .setoffApply | .utcwSched .. | .utcwCancel .. | .secondBoundary | .selectionEvaluation | .refSelctlWrite ..
  | .mg0RxInterrupt | .reservation .. | .sealedMessageArrival .. | .commitRecord .. | .laneGrant .. | .pkeDrainWrite ..
  | .drained | .clsWrite .. | .clsRead .. | .clsBankSwap | .ntsRequest .. | .keyRotation | .ntsRotate ..
  | .rotationSwitch | .encslotRetire | .sketchSweep | .ntsReseed .. | .drbgReseed | .ntsClrcnt .. | .ntsKeConnection ..
  | .ntsKeIdleTimeout .. | .mg0NtpRequest .. | .ptpMessage .. | .bmcaEvaluation | .ptpGread .. | .ptpGinval ..
  | .ptpGflush .. | .kvtDerive .. | .kvtInval .. | .kvtImport .. | .kvtExport .. | .kvtAgree .. | .kvtSign ..
  | .kvtPubkey .. | .vaultUpdate .. | .shareRefresh .. | .holdupTest .. | .kvtZeroise .. | .dbgEnSet | .helloSend
  | .healthSend | .boundSend | .digestSend | .ackSend | .ppiStale | .seekEvaluation .. | .homeRandomWait
  | .journalGapTimeout | .selfCheck | .disputeExchange | .twinLost .. | .wtrExpiry | .swapBoundary | .pairSwap ..
  | .pairResync .. | .ensembleUpdate | .mbxDoorbell .. | .mbxPing | .mbxVersion | .mbxAddrSet | .mbxAddrGet
  | .mbxKeCert | .mbxPtpDs | .mbxNav | .mbxLog | .mbxResponse | .wdogKick .. | .wdogExpiry | .firmwareFatal ..
  | .sramScrub .. | .pcieLinkReset .. | .pcieLinkUp .. | .atomicOp .. | .xbrHwinWrite .. | .pmuFreezeWrite ..
  | .pmuClrall .. | .pmuSrConsWrite .. | .keySample .. | .touchSample .. | .ledUpdate | .zeroiseCountComplete | .zfault
  | .evtSwset .. | .pciLowPowerEntry | .ntsKeCertExpiry .. => true

/-- A well-formed command. -/
abbrev WellFormed (c : Instr) : Prop := c.wf = true

end Sys2Proof
end

