-- ==== Sys2Proof/Safety.lean ====
section
/-! DEFINITION. What a safe run is, in the terms the statements use: the canonical form and the shape that every step keeps, when an
access is served, and what a command leaves as it was. -/

namespace Sys2Proof.Machine

/-! What every step keeps. -/

/-- The canonical form of everything the state holds as an association list: the register store and both memories, so that
equal contents are equal data. -/
def StateCanonical (s : State) : Prop :=
  storeWf s.regs = true ∧ Memory.wf sramDefault s.sram = true ∧ Memory.wf flashDefault s.flash = true

/-- The number of units of each kind: thirteen routes beside the Hearth, sixteen reference and twenty-four TDC channels, five synthesis
units, twelve outputs, thirteen power domains, four ports and four servo instances (R20, R36, R18). -/
structure StateShape (s : State) : Prop where
  routes : s.tb.routes.length = 14
  refs : s.ref.length = 16
  tdcs : s.tdc.length = 24
  units : s.syn.length = 5
  outputs : s.outp.length = 12
  domains : s.pwr.length = 13
  ports : s.port.length = 4
  servos : s.hrt.srv.length = 4

/-- What holds at reset and is kept by every step. -/
def StateInv (s : State) : Prop := StateCanonical s ∧ StateShape s

/-- A state from which the next step goes on. -/
def StepsOn (s : State) : Prop := ∃ t, step s = .next t

/-! When a register access is served. -/

/-- An access of a requester reaches a register's block: the module is on, no reset of the requester aborts the access (R495), the
crossbar lets the requester reach the block (R489), and the block answers at this stage (R131). -/
def State.Reaches (s : State) (req : Requester) (off : Nat) : Prop :=
  s.supply.on = true ∧ s.aborted req.master = false ∧ fabricAllows req off = true ∧ s.blockAnswers req off = true

/-- The register's domain, too, answers at once (R17). -/
def State.Serves (s : State) (req : Requester) (off : Nat) : Prop :=
  s.Reaches req off ∧ s.regsReady (domOf off) = true

/-! The pair link. -/

/-- The record with a SEQ is the one a paired unit expects next on a lane in block lock, nothing waits out of order, no warm restart waits for a
swap, and the payload is one a record can hold. -/
def State.Expects (s : State) (lane seq : Nat) (payload : List Byte) : Prop :=
  s.paired = true ∧ lane < 2 ∧ (if lane = 0 then s.pair.lane0 else s.pair.lane1) = true ∧ s.pair.next.getD seq = seq ∧ seq < 2 ^ 32 ∧
    s.pair.early = [] ∧ s.pair.warmWait = false ∧ payload.length < 256

/-- Exactly one record has been sent, of a type and with a payload, under the next SEQ. -/
def State.Sent (s t : State) (type : Nat) (payload : List Byte) : Prop :=
  ∃ lane, t.out = s.out ++ [.pairRecord lane (recordBytes s.pair.seq type 0 s.raw payload)] ∧ t.pair.seq = (s.pair.seq + 1) % 2 ^ 32

/-! The mailbox. -/

/-- The firmware has copied the request and formed its answer: OP and SEQ of the request, LEN, a STATUS and payload words. -/
def State.Answered (s t : State) (status : Nat) (payload : List Nat) : Prop :=
  t.bit F.SUP_MBX.H2SBUSY = false ∧
    t.sys.answer = some ((s.mbxOp + 4 * payload.length * 65536 + bitsOf (s.mbxWord 0) 24 8 * 2 ^ 24) :: status :: payload)

/-! What a command leaves as it was. -/

/-- The block of BAR0 that holds a field: its offset over 1 MiB (0x11 is the event block). -/
def Fld.blk (f : Fld) : Nat := f.key / 0x2000000 % 64

/-- Every register field outside the listed blocks reads as before. -/
def RegsOutside (blocks : List Nat) (s t : State) : Prop := ∀ f : Fld, f.blk ∉ blocks → t.get f = s.get f

/-- Every register field but the listed ones, and but those of the event block, reads as before. -/
def RegsBut (fs : List Fld) (s t : State) : Prop :=
  ∀ f : Fld, f.blk ≠ 0x11 → (∀ g ∈ fs, f.key ≠ g.key) → t.get f = s.get f

/-- Beside registers, only what an occurrence of an event changes (records, messages pending and sent) may have changed. -/
def EventsOnly (s t : State) : Prop := t = { s with regs := t.regs, evt := t.evt, sys := t.sys, out := t.out }

/-- Beside registers nothing has changed. -/
def RegsOnly (s t : State) : Prop := t = { s with regs := t.regs }

/-- Every byte of SRAM and of flash reads as before. -/
def MemorySame (s t : State) : Prop :=
  (∀ a, memGet sramDefault t.sram a = memGet sramDefault s.sram a) ∧ (∀ a, memGet flashDefault t.flash a = memGet flashDefault s.flash a)

end Sys2Proof.Machine
end

