-- ==== Sys2Proof/Certificates/Slice0/Obligations.lean ====
section
/-! DEFINITION. The statements about the model: one definition of a proposition for each. Every command of the table has a clause here
that says where it completes and with what effect; the docstrings cite what a clause formalises. -/

open Sys2Proof Sys2Proof.Machine

/-! The queue and the step. -/

/-- A step takes the command at the front of the queue and does its effect on the state with the queue's rest. -/
def Obligations.StepRunsFrontCommand : Prop :=
  ∀ (s : State) (c : Instr) (rest : List Instr), step { s with pending := c :: rest } = exec c { s with pending := rest }

/-- The raw counter starts at zero when AON powers on; no command that leaves AON powered clears or steps it; it advances by exactly one tick of its
64 bits in a cycle, which in this model is a step with no command waiting (notes/assumptions/1.md: the model's notion of time). Rules: R22. -/
def Obligations.RawCounter : Prop :=
  (∀ (s : State) (home fstartN : Bool) (bankSel : Nat), s.supply.on = false →
    ∃ t, exec (.powerUp home fstartN bankSel) s = .next t ∧ t.raw = 0) ∧
  (∀ (c : Instr) (s t : State), exec c s = .next t → s.supply.on = true → t.supply.on = true → t.raw = s.raw) ∧
  (∀ s : State, s.pending = [] → s.supply.on = true → step s = .next { s with raw := (s.raw + 1) % 2 ^ 64 }) ∧
  (∀ s : State, s.pending = [] → s.supply.on = false → step s = .next s)

/-- A command stops the machine exactly when it names a unit that the hardware does not have, and then with the one fault of that name: no command
is refused, and every well-formed command goes on from every state. -/
def Obligations.OnlyMissingUnitsStop : Prop :=
  ∀ (c : Instr) (s : State),
    (WellFormed c → ∃ t, exec c s = .next t) ∧ (¬ WellFormed c → exec c s = .fault .noSuchUnit)

/-- Every step keeps the canonical form of the register store and of both memories, and the number of units of each kind. -/
def Obligations.StepKeepsInvariant : Prop :=
  ∀ s t : State, StateInv s → step s = .next t → StateInv t

/-- The state after reset has the canonical form and the right number of units. -/
def Obligations.ResetHasInvariant : Prop :=
  StateInv State.reset

/-- No command's meaning touches the queue: commands wait until a step takes them, first in, first out. -/
def Obligations.CommandsKeepTheQueue : Prop :=
  ∀ (c : Instr) (s t : State), exec c s = .next t → t.pending = s.pending

/-- Right after AON powers on the raw counter is zero, no command waits, memories and the event queues are empty, and every register field whose
reset value the spec gives and no strap or start step writes holds that value. -/
def Obligations.ResetState : Prop :=
  State.reset.raw = 0 ∧ State.reset.pending = [] ∧ State.reset.sram = [] ∧ State.reset.flash = [] ∧
  (∀ f : Fld, f.blk ≠ 0 → State.reset.get f = f.rst) ∧
  State.reset.get F.GLB_STRAP.BANK_SEL = 3 ∧ State.reset.get F.GLB_STRAP.FSTART_N = 1 ∧ State.reset.get F.GLB_STRAP.HOME = 1

/-! The time bus (spec/01_architecture.md). -/

/-- A token launch (every 625 ticks) sends one token on every enabled route; each passes the island's CRC check, names the launch tick and the
generation of the pair in force, and is 58 bytes long with a pair block and 16 without. Rules: R41. -/
def Obligations.LaunchedTokensAreGood : Prop :=
  ∀ s : State, s.supply.on = true → s.raw % 625 = 0 → s.raw < 2 ^ 64 →
    ∃ t, exec .tokenLaunch s = .next t ∧ ∀ n ∈ s.enRoutes, ∃ b : List Byte, Emission.token n b ∈ t.out ∧ tokenOk b = true ∧
      leAt b 0 8 = s.raw ∧ leAt b 12 1 = s.hrt.cur.gen % 256 ∧ b.length = if (leAt b 13 1).testBit 0 then 58 else 16

/-- An enabled route of an awake island takes what its tokens bring: a token that fails a CRC is discarded whole and counted, saturating at 255; a
good one gives its tick and bound, and one that shows the replica to differ reloads the replica and sets FAULT; a route without a good token for
1,250 ticks reports an unbounded error until the next. A route's calibration within its limits gives it the latency round(mean round trip ÷ 2) +
SKEW in crumbs, and its replica then waits for a token; a start whose route fails its limits ends with code 0x20 and the route; an in-service round
trip moves the route's filter 1/64 of the way. An island's replica reaching the commit tick of its pending pair puts that pair in force there, and
no other island's; in the Hearth the pending pair becomes the pair in force and heads the history of the sixteen latest. Rules: R48, R49, R50, R52,
R54, R55. -/
def Obligations.TimeBusIslands : Prop :=
  ((∀ (s : State) (n edge : Nat) (b : List Byte), 1 ≤ n → n < 14 → s.stage ≠ 5 → s.bit (F.HRT_TB_ROUTE.EN n) = true →
      s.domLost (routeDom n) = false → tokenOk b = false →
      ∃ t, exec (.tokenArrival n b edge) s = .next t ∧ t.tb = s.tb ∧
        t.get (F.HRT_TB_ROUTE.CRCERR n) = min 255 (s.get (F.HRT_TB_ROUTE.CRCERR n) + 1) ∧
        RegsBut [F.HRT_TB_ROUTE.CRCERR n] s t ∧ RegsOnly s t) ∧
    (∀ (s : State) (n edge : Nat) (b : List Byte), StateShape s → 1 ≤ n → n < 14 → s.stage ≠ 5 → s.bit (F.HRT_TB_ROUTE.EN n) = true →
      s.domLost (routeDom n) = false → tokenOk b = true → s.bit (F.HRT_TB_ROUTE.VALID n) = true → (s.isle n).awaitLoad = false →
      ∃ t, exec (.tokenArrival n b edge) s = .next t ∧
        (t.isle n).lastTick = leAt b 0 8 ∧ (t.isle n).errb = leAt b 8 4 ∧ (t.isle n).lost = false ∧
        (edge : Int) + (t.isle n).repOff = leAt b 0 8 ∧
        ((edge : Int) + (s.isle n).repOff ≠ leAt b 0 8 → t.bit (F.HRT_TB_ROUTE.FAULT n) = true) ∧
        ((edge : Int) + (s.isle n).repOff = leAt b 0 8 → RegsOutside [] s t)) ∧
    (∀ (s : State) (n : Nat), StateShape s → 1 ≤ n → n < 14 → s.bit (F.HRT_TB_ROUTE.VALID n) = true → (s.isle n).lastTick + 1250 ≤ s.raw →
      ∃ t, exec (.tokenTimeout n) s = .next t ∧ (t.isle n).lost = true ∧ RegsOutside [] s t ∧ MemorySame s t)) ∧
  ((∀ (s : State) (n sum sumSq l : Nat), StateShape s → 1 ≤ n → n < 14 → s.stage = 3 → s.tb.calQ.head? = some n →
      s.calLatency n s.calMarkers sum sumSq = some l →
      ∃ t, exec (.routeCalibrationDone n sum sumSq) s = .next t ∧ t.latency n = l ∧
        (l : Int) = roundAway ((sum : Rat) / (2 * s.calMarkers)) + s.skew n ∧ (t.isle n).awaitLoad = true) ∧
    (∀ (s : State) (n sum sumSq : Nat), 1 ≤ n → n < 14 → s.supply.on = true → s.stage = 3 → s.boot.starter = false → s.tb.calQ.head? = some n →
      s.calLatency n s.calMarkers sum sumSq = none →
      ∃ t, exec (.routeCalibrationDone n sum sumSq) s = .next t ∧ t.supply.on = false ∧ t.nv.record.why.head? = some 0x20 ∧
        t.nv.record.detail = n) ∧
    (∀ (s : State) (n sum sumSq l : Nat), StateShape s → 1 ≤ n → n < 14 → s.stage = 6 ∨ s.stage = 7 → s.tb.calQ.head? = some n →
      s.calLatency n 256 sum sumSq = some l →
      ∃ t, exec (.wakeCalibrationDone n sum sumSq) s = .next t ∧ t.latency n = l ∧ (t.isle n).awaitLoad = true ∧ t.tb.calQ = s.tb.calQ.tail) ∧
    (∀ (s : State) (n rt : Nat), StateShape s → 1 ≤ n → n < 14 → s.bit (F.HRT_TB_ROUTE.EN n) = true → s.bit (F.HRT_TB_ROUTE.VALID n) = true →
      s.tb.calQ = [] → s.domLost (routeDom n) = false →
      ∃ t, exec (.roundTripMeasured n rt) s = .next t ∧ (t.isle n).filter = (s.isle n).filter + ((rt : Rat) - (s.isle n).filter) / 64 ∧
        RegsBut [F.HRT_TB_ROUTE.FAULT n] s t ∧ MemorySame s t)) ∧
  ((∀ (s : State) (n : Nat) (p : Pair), StateShape s → 1 ≤ n → n < 14 → (s.isle n).pend = some p → p.commit * 512 ≤ s.replica n →
      ∃ t, exec (.pairCommit n) s = .next t ∧ (t.isle n).cur = some p ∧ (t.isle n).pend = none ∧
        (∀ m, m ≠ n → t.isle m = s.isle m) ∧ t.hrt = s.hrt ∧ RegsOutside [] s t) ∧
    (∀ (s : State) (p : Pair) (host : Bool), s.hrt.pend = some (p, host) → p.commit ≤ s.raw →
      ∃ t, exec (.pairCommit 0) s = .next t ∧ t.hrt.cur = p ∧ t.hrt.history = (p :: s.hrt.history).take 16))

/-! Supply and reset (spec/02_module.md). -/

/-- The supply warnings: each sets its bit of GLB_SUPPLY and changes no other register but those of the event block, and no memory; the millisecond
update shows VIN (once the supply is good) and the hottest sensor, and sets a bit again whose condition still holds. The ends of a run: each records
its STOP in the start record, holds ALERT#, stops everything driving and switches AON off, with the queue as it was. A module without power comes up
with the straps as read and its raw counter at zero, and goes on to its start or to starter mode; one that goes on towards service though its record
tells that the last start neither completed nor stopped counts a failed start, with code 0x2B. Rules: R69, R70, R71, R72, R73, R88, R139, R445. -/
def Obligations.SupplyAndPowerUp : Prop :=
  ((∀ s : State, s.supply.on = true →
      ∃ t, exec .vinWarning s = .next t ∧ t.bit F.GLB_SUPPLY.UVW = true ∧ RegsBut [F.GLB_SUPPLY.UVW] s t ∧ MemorySame s t) ∧
    (∀ s : State, s.supply.on = true →
      ∃ t, exec .overvoltageWarning s = .next t ∧ t.bit F.GLB_SUPPLY.OVW = true ∧ RegsBut [F.GLB_SUPPLY.OVW] s t ∧ MemorySame s t) ∧
    (∀ (s : State) (celsius : Int), s.supply.on = true → 100 ≤ celsius →
      ∃ t, exec (.thermalWarning celsius) s = .next t ∧ t.bit F.GLB_SUPPLY.HOTW = true ∧ RegsBut [F.GLB_SUPPLY.HOTW] s t ∧ MemorySame s t) ∧
    (∀ (s : State) (vin : Nat) (hottest : Int), s.supply.on = true →
      ∃ t, exec (.supplyUpdate vin hottest) s = .next t ∧
        t.get F.GLB_SUPPLY.VIN = (if s.supply.pgood = true ∨ 2500000 ≤ s.raw then min 2047 vin else 0) ∧
        t.getI F.GLB_SUPPLY.TMAX = max (-128) (min 127 hottest) ∧
        (vin < 1120 → t.bit F.GLB_SUPPLY.UVW = true) ∧ (1300 < vin → t.bit F.GLB_SUPPLY.OVW = true) ∧
        (100 ≤ hottest → t.bit F.GLB_SUPPLY.HOTW = true) ∧
        RegsBut [F.GLB_SUPPLY.VIN, F.GLB_SUPPLY.TMAX, F.GLB_SUPPLY.UVW, F.GLB_SUPPLY.OVW, F.GLB_SUPPLY.HOTW] s t ∧ MemorySame s t)) ∧
  (
    let Ends : State → State → Nat → Prop := fun s t stop =>
      t.supply.on = false ∧ t.supply.alert = true ∧ t.supply.quiet = true ∧ t.nv.record.stop = stop ∧ t.raw = 0 ∧ t.regs = [] ∧
        t.pending = s.pending
    (∀ (s : State) (z : Nat), s.supply.on = true → ∃ t, exec (.powerFail z) s = .next t ∧ Ends s t 4 ∧ t.nv.record.lastSec = s.dsec) ∧
    (∀ (s : State) (z : Nat), s.supply.on = true → ∃ t, exec (.overvoltageShutdown z) s = .next t ∧ Ends s t 5) ∧
    (∀ (s : State) (z : Nat) (c : Int), s.supply.on = true → 115 ≤ c → ∃ t, exec (.thermalShutdown c z) s = .next t ∧ Ends s t 6) ∧
    (∀ s : State, s.supply.on = true → ∃ t, exec .porstAssert s = .next t ∧ Ends s t 3) ∧
    (∀ s : State, s.stage = 7 → s.supply.on = true → ∃ t, exec .tftpWriteRestart s = .next t ∧ Ends s t 1)) ∧
  ((∀ (s : State) (home fstartN : Bool) (bankSel : Nat), s.supply.on = false → bankSel < 4 →
      (s.nv.record.inStart = false ∨ s.nv.record.stop ≠ 0 ∨ fstartN = false ∨ 3 ≤ s.nv.record.attempts ∨ s.nv.record.starterReq = true) →
      ∃ t, exec (.powerUp home fstartN bankSel) s = .next t ∧ t.supply.on = true ∧ t.raw = 0 ∧ t.pending = s.pending ∧
        t.bit F.GLB_STRAP.HOME = home ∧ t.bit F.GLB_STRAP.FSTART_N = fstartN ∧ t.get F.GLB_STRAP.BANK_SEL = bankSel) ∧
    (∀ (s : State) (home : Bool) (bankSel : Nat), s.supply.on = false → s.nv.record.inStart = true → s.nv.record.stop = 0 →
      s.nv.record.attempts < 3 → s.nv.record.starterReq = false →
      ∃ t, exec (.powerUp home true bankSel) s = .next t ∧ t.supply.on = false ∧ t.nv.record.why.head? = some 0x2B ∧
        t.nv.record.attempts = min 255 (s.nv.record.attempts + 1)) ∧
    (∀ s : State, s.supply.on = true → ∃ t, exec .holdupCharged s = .next t ∧ t.bit F.KVT_STAT.HOLDOK = true ∧ MemorySame s t))

/-! The recipe (spec/03_recipe.md). -/

/-- An action of RCP_CTRL that nothing stands in the way of begins: its bit and STATE show it, and it alone runs. A CHECK ends with the code of the
bank's validation: STATE 4 and code 0 for a good image, STATE 5 and the failure's code for a bad one; a LIVE commit counts its acknowledgements, is
tried again with a new commit tick while attempts remain, ends with code 0x62 after the third, and ends at its commit tick once every island has
acknowledged. Rules: R115, R119, R121, R122, R124, R125. -/
def Obligations.RecipeActions : Prop :=
  ((∀ (s : State) (req : Requester) (bank : Nat), s.Reaches req 0x200008 → bank < 2 → 6 ≤ s.stage → s.rcp.action = none →
      s.rcp.unusable.contains bank = false →
      (∃ t, exec (.rcpCheck req bank) s = .next t ∧ t.rcp.action = some (.check bank) ∧ t.bit F.RCP_CTRL.CHECK = true ∧
        t.get F.RCP_CTRL.BANK = bank ∧ t.get F.RCP_STATUS.STATE = 1 ∧ MemorySame s t) ∧
      (∃ t, exec (.rcpReload req bank) s = .next t ∧ t.rcp.action = some (.reload bank) ∧ t.bit F.RCP_CTRL.RELOAD = true ∧
        t.get F.RCP_CTRL.BANK = bank ∧ t.get F.RCP_STATUS.STATE = 1 ∧ MemorySame s t) ∧
      (∃ t, exec (.rcpPrefer req bank) s = .next t ∧ t.rcp.action = some (.prefer false bank) ∧ t.bit F.RCP_CTRL.PREFER = true ∧
        t.get F.RCP_CTRL.BANK = bank ∧ t.get F.RCP_STATUS.STATE = 1 ∧ MemorySame s t)) ∧
    (∀ (s : State) (req : Requester) (bank : Nat), s.Reaches req 0x200008 → bank < 2 → 6 ≤ s.stage → s.rcp.action = none →
      (s.stage = 6 → bank ≠ s.get F.RCP_STATUS.BANK) → 0 < s.get F.RCP_LEN.LEN → s.get F.RCP_LEN.LEN ≤ 0x800000 →
      ∃ t, exec (.rcpProg req bank) s = .next t ∧
        t.rcp.action = some (.prog false bank (s.get F.RCP_SRC.ADDR * 64) (s.get F.RCP_LEN.LEN)) ∧ t.bit F.RCP_CTRL.PROG = true ∧
        t.get F.RCP_CTRL.BANK = bank ∧ t.get F.RCP_STATUS.STATE = 6 ∧ MemorySame s t)) ∧
  ((∀ (s : State) (bank : Nat), s.supply.on = true → 2 ≤ s.stage → s.rcp.action = some (.check bank) → s.rcp.live = none →
      ∃ t, exec .recipeValidationDone s = .next t ∧ t.rcp.action = none ∧ t.get F.RCP_CTRL.CHECK = 0 ∧ MemorySame s t ∧
        (match s.validate bank with
        | .ok _ => t.get F.RCP_STATUS.STATE = 4 ∧ t.get F.RCP_FAIL.CODE = 0 ∧ t.rcp.sections = s.rcp.sections
        | .error f => f.code ≠ 0 → t.get F.RCP_STATUS.STATE = 5 ∧ t.get F.RCP_FAIL.CODE = f.code % 256)) ∧
    (∀ (s : State) (island : Nat) (v : LiveSt), island < 14 → s.rcp.live = some v →
      ∃ t, exec (.liveShadowAck island) s = .next t ∧
        t = { s with rcp := { s.rcp with live := some { v with missing := v.missing.filter (fun i => i != island) } } }) ∧
    (∀ (s : State) (v : LiveSt), s.rcp.live = some v → v.missing ≠ [] → v.c ≤ s.raw + 128 → v.attempt < 3 →
      ∃ t, exec .liveAckDeadline s = .next t ∧
        t = { s with rcp := { s.rcp with
          live := some ⟨s.raw + s.get F.RCP_LEAD.LEAD, v.attempt + 1, s.liveIslands (v.sections.map (·.1)), v.sections⟩ } }) ∧
    (∀ (s : State) (v : LiveSt) (bank : Nat), s.rcp.action = some (.reload bank) → s.rcp.live = some v → v.missing ≠ [] →
      v.c ≤ s.raw + 128 → 3 ≤ v.attempt →
      ∃ t, exec .liveAckDeadline s = .next t ∧ t.rcp.live = none ∧ t.rcp.action = none ∧ t.get F.RCP_FAIL.CODE = 0x62 ∧
        t.get F.RCP_STATUS.STATE = 5) ∧
    (∀ (s : State) (v : LiveSt) (bank : Nat), s.rcp.action = some (.reload bank) → s.rcp.live = some v → v.missing = [] → v.c ≤ s.raw →
      ∃ t, exec .recipeLiveSwitch s = .next t ∧ t.rcp.live = none ∧ t.rcp.action = none ∧ t.get F.RCP_STATUS.STATE = 4))

/-- Programming that ends well leaves in the bank, from its first byte on, the bytes that stood in SRAM, and erased bytes after them; no byte of
flash outside the bank, and no byte of SRAM, changes; the action is over. Rules: R125. -/
def Obligations.ProgrammingWritesTheBank : Prop :=
  ∀ (s : State) (fw : Bool) (bank src len : Nat), s.rcp.action = some (.prog fw bank src len) → len ≤ bankSize fw →
    ∃ t, exec (.progDone false) s = .next t ∧ t.rcp.action = none ∧
      (∀ i, i < len → memGet flashDefault t.flash (bankBase fw bank + i) = memGet sramDefault s.sram (src + i)) ∧
      (∀ i, len ≤ i → i < bankSize fw → memGet flashDefault t.flash (bankBase fw bank + i) = flashDefault) ∧
      (∀ a, a < bankBase fw bank ∨ bankBase fw bank + bankSize fw ≤ a → memGet flashDefault t.flash a = memGet flashDefault s.flash a) ∧
      (∀ a, memGet sramDefault t.sram a = memGet sramDefault s.sram a)

/-! Start, restart and starter mode (spec/04_startup.md). -/

/-- The steps of a start lead from stage to stage, and what ends an attempt counts it in the start record with its code and powers the module off
for a cold restart. The actions of BOOT_CTRL take effect with KEY 0x9612: a warm restart begins at stage 1 with STOP 2, a cold restart records STOP
1 and switches AON off, STARTER asks for starter mode as well, CLRFAIL clears the attempts, and the firmware actions begin. Without the key the
whole write is discarded and the access error recorded. Starter mode over MG0: a written image of a valid length stands in its bank and nothing of
flash outside the bank changes; a read of startrec answers with the 64 bytes of the start record, and an echo with its payload. Rules: R128, R129,
R130, R132, R134, R135, R136, R138, R139, R140, R484. -/
def Obligations.StartAndRestart : Prop :=
  ((∀ s : State, s.stage = 2 → ∃ t, exec .domainsGood s = .next t ∧ t.stage = 3 ∧ t.tb.calQ = s.tb.calQ ++ s.enRoutes ∧ MemorySame s t) ∧
    (∀ (s : State) (d : Nat), d < 13 → s.stage = 2 → s.supply.on = true →
      ∃ t, exec (.regulatorTimeout d) s = .next t ∧ t.supply.on = false ∧ t.nv.record.why.head? = some 0x21 ∧ t.nv.record.detail = d ∧
        t.nv.record.stop = 9 ∧ t.nv.record.attempts = min 255 (s.nv.record.attempts + 1)) ∧
    (∀ s : State, s.stage = 4 → s.supply.on = true →
      ∃ t, exec .firmwareValidated s = .next t ∧
        (match s.validateFw s.fwBank with
        | .ok r => t.stage = 5 ∧ t.get F.SUP_STATUS.RUN = 0xF ∧ t.get F.BOOT_STATUS.FWBANK = s.fwBank ∧ t.get F.SUP_FWVER.VER = r.2 % 2 ^ 32 ∧
            MemorySame s t
        | .error c => (s.boot.fwTry = 0 → t.boot.fwTry = 1 ∧ t.boot.fwFail = some c ∧ t.stage = 4) ∧
            (s.boot.fwTry ≠ 0 → t.supply.on = false ∧ t.nv.record.why.head? = some 0x18 ∧ t.nv.record.stop = 9))) ∧
    (∀ s : State, s.stage = 5 → s.routesValid = false →
      ∃ t, exec .supReady s = .next t ∧ t.bit F.SUP_STATUS.READY = true ∧ t.stage = 5 ∧ MemorySame s t) ∧
    (∀ s : State, s.stage = 5 → s.supply.on = true → s.routesValid = true →
      ∃ t, exec .supReady s = .next t ∧ t.boot.complete = some s.raw ∧ t.supply.alert = false ∧ t.nv.record.inStart = false) ∧
    (∀ s : State, s.supply.on = true → s.stage < 6 → s.boot.starter = false → s.boot.deadline ≤ s.raw →
      ∃ t, exec .bootLimitExpiry s = .next t ∧ t.supply.on = false ∧ t.nv.record.why.head? = some 0x28 ∧ t.nv.record.detail = s.stage ∧
        t.nv.record.attempts = min 255 (s.nv.record.attempts + 1)) ∧
    (∀ (s : State) (c : Nat), s.supply.on = true → s.boot.complete = some c → s.stage = 6 → s.bit F.BOOT_STATUS.STABLE = false →
      c + 300 * 625000000 ≤ s.raw →
      ∃ t, exec .stableTimer s = .next t ∧ t.bit F.BOOT_STATUS.STABLE = true ∧ t.get F.BOOT_STATUS.ATTEMPTS = 0 ∧
        t.nv.record.stable = true ∧ t.nv.record.attempts = 0 ∧ RegsBut [F.BOOT_STATUS.STABLE, F.BOOT_STATUS.ATTEMPTS] s t ∧ MemorySame s t) ∧
    (∀ s : State, s.supply.on = true → s.stage = 6 → s.boot.lastSecAt + 1024 * 625000000 ≤ s.raw →
      ∃ t, exec .lastSecWrite s = .next t ∧ t.nv.record.lastSec = s.dsec ∧ RegsOutside [] s t ∧ MemorySame s t)) ∧
  ((∀ (s : State) (req : Requester), s.Reaches req 0x100008 → ¬ (s.paired = true ∧ s.role = 1 ∧ s.pairState = 5) →
      ∃ t, exec (.bootWarm req 0x9612) s = .next t ∧ t.stage = 1 ∧ t.bit F.BOOT_STATUS.WARM = true ∧ t.get F.BOOT_WHY.STOP = 2 ∧
        t.raw = s.raw ∧ t.supply.on = true) ∧
    (∀ (s : State) (req : Requester), s.Reaches req 0x100008 →
      ∃ t, exec (.bootCold req 0x9612) s = .next t ∧ t.supply.on = false ∧ t.nv.record.stop = 1 ∧ t.pending = s.pending) ∧
    (∀ (s : State) (req : Requester), s.Reaches req 0x100008 →
      ∃ t, exec (.bootStarter req 0x9612) s = .next t ∧ t.supply.on = false ∧ t.nv.record.stop = 1 ∧ t.nv.record.starterReq = true) ∧
    (∀ (s : State) (req : Requester), s.Reaches req 0x100008 →
      ∃ t, exec (.bootClrfail req 0x9612) s = .next t ∧ t.nv.record.attempts = 0 ∧ t.get F.BOOT_STATUS.ATTEMPTS = 0 ∧ MemorySame s t) ∧
    (∀ (s : State) (req : Requester) (bank : Nat), s.Reaches req 0x100008 → bank < 2 → 6 ≤ s.stage → s.rcp.action = none →
      s.rcp.unusable.contains (bank + 2) = false →
      ∃ t, exec (.bootFwprefer req 0x9612 bank) s = .next t ∧ t.rcp.action = some (.prefer true bank) ∧ t.bit F.BOOT_CTRL.FWPREFER = true) ∧
    (∀ (s : State) (req : Requester) (bank : Nat), s.Reaches req 0x100008 → bank < 2 → 6 ≤ s.stage → s.rcp.action = none →
      (s.stage = 6 → bank ≠ s.get F.BOOT_STATUS.FWBANK) → 0 < s.get F.RCP_LEN.LEN → s.get F.RCP_LEN.LEN ≤ 0xFFFFF0 →
      ∃ t, exec (.bootFwprog req 0x9612 bank) s = .next t ∧
        t.rcp.action = some (.prog true bank (s.get F.RCP_SRC.ADDR * 64) (s.get F.RCP_LEN.LEN)) ∧ t.bit F.BOOT_CTRL.FWPROG = true) ∧
    (∀ (s : State) (req : Requester) (key : Nat), s.Reaches req 0x100008 → key % 65536 ≠ 0x9612 → s.bit F.XBR_AERR.AERR = false →
      ∀ c ∈ [Instr.bootWarm req key, .bootCold req key, .bootStarter req key, .bootClrfail req key],
        ∃ t, exec c s = .next t ∧ t.get F.XBR_AERR.CAUSE = 6 ∧ t.get F.XBR_AERRADDR.ADDR = 0x100008 ∧ t.nv = s.nv ∧ t.rcp = s.rcp ∧
          RegsBut [F.XBR_TSTAT.OWNER 6, F.XBR_AERR.AERR, F.XBR_AERR.REQ, F.XBR_AERR.CAUSE, F.XBR_AERRADDR.ADDR] s t)) ∧
  ((∀ (s : State) (fw : Bool) (bank : Nat) (image : List Byte), bank < 2 → s.stage = 7 → s.rcp.action = none → image ≠ [] →
      image.length ≤ (if fw then 0xFFFFF0 else 0x800000) →
      ∃ t, exec (.tftpWriteImage fw bank image) s = .next t ∧
        (∀ i (h : i < image.length), memGet flashDefault t.flash (bankBase fw bank + i) = image[i]) ∧
        (∀ a, a < bankBase fw bank ∨ bankBase fw bank + bankSize fw ≤ a → memGet flashDefault t.flash a = memGet flashDefault s.flash a)) ∧
    (∀ s : State, s.stage = 7 → s.supply.on = true →
      ∃ t, exec .tftpReadStartrec s = .next t ∧ t = { s with out := s.out ++ [.mg0Reply 2 (beBytes 2 3 ++ beBytes 2 1 ++ s.nv.record.bytes)] } ∧
        s.nv.record.bytes.length = 36 + s.nv.record.why.length + 24) ∧
    (∀ (s : State) (kind : EchoKind) (payload : List Byte), s.stage = 7 → s.supply.on = true →
      ∃ t, exec (.mg0RecoveryEcho kind payload) s = .next t ∧
        t = { s with out := s.out ++ [.mg0Reply (echoNumber kind) (match kind with | .arp | .ndp => portMac 4 | .icmp | .icmp6 => payload)] }))

/-! Reference inputs (spec/05_references.md). -/

/-- The oldest stamp of a pulse channel that is not judged yet: one that follows the last accepted edge by less than 0.9 of the nominal period is
spurious and discarded, and one within 0.9 to 1.1 of it is accepted and shows activity; 2.5 periods without an accepted edge end the activity. An
IRIG-B frame with a pulse of no known width fails and shows it; a frame that decodes names the second of its Pr edge. Rules: R144, R145, R147. -/
def Obligations.PulsesAndIrig : Prop :=
  ((∀ (s : State) (c l : Nat) (h : Held), StateShape s → c < 16 → s.kind c = 2 → (s.rf c).held.find? (fun h => h.cls == 0) = some h →
      (s.rf c).lastEdge = some l → 0 < s.get (F.REF_NOMFREQ.FREQ c) →
      (h.at16 : Rat) - l < 9 / 10 * (320000000000 * 16 * 65536 / s.get (F.REF_NOMFREQ.FREQ c)) →
      ∃ t, exec (.pulseEdge c) s = .next t ∧ t.bit (F.REF_STAT.SPUR c) = true ∧ (t.rf c).lastEdge = some l ∧
        (t.rf c).held.length + 1 = (s.rf c).held.length ∧ RegsBut [F.REF_STAT.SPUR c] s t ∧ MemorySame s t) ∧
    (∀ (s : State) (c l : Nat) (h : Held), StateShape s → c < 16 → s.kind c = 2 → (s.rf c).held.find? (fun h => h.cls == 0) = some h →
      (s.rf c).lastEdge = some l → 0 < s.get (F.REF_NOMFREQ.FREQ c) →
      9 / 10 * (320000000000 * 16 * 65536 / s.get (F.REF_NOMFREQ.FREQ c) : Rat) ≤ (h.at16 : Rat) - l →
      (h.at16 : Rat) - l ≤ 11 / 10 * (320000000000 * 16 * 65536 / s.get (F.REF_NOMFREQ.FREQ c)) →
      ∃ t, exec (.pulseEdge c) s = .next t ∧ t.bit (F.REF_STAT.ACTIVITY c) = true ∧ (t.rf c).lastEdge = some h.at16 ∧
        (t.rf c).held.length = (s.rf c).held.length ∧ MemorySame s t) ∧
    (∀ (s : State) (c l : Nat), c < 16 → s.kind c = 2 → (s.rf c).lastEdge = some l → 0 < s.get (F.REF_NOMFREQ.FREQ c) →
      (l : Rat) + 5 / 2 * (320000000000 * 16 * 65536 / s.get (F.REF_NOMFREQ.FREQ c)) ≤ (s.now * 16 : Nat) →
      ∃ t, exec (.activityTimeout c) s = .next t ∧ t.bit (F.REF_STAT.ACTIVITY c) = false) ∧
    (∀ (s : State) (c n : Nat), c < 16 → freqOnly (s.kind c) = true → s.raw % 625000 = 0 → s.tdcOf c = some n →
      ∃ t, exec (.freqActivityCount c) s = .next t ∧
        t.bit (F.REF_STAT.ACTIVITY c) = decide (s.get (F.REF_NOMFREQ.FREQ c) ≤ 2 * ((s.td n).edges - (s.td n).countAt) * 65536000 *
          2 ^ (if s.bit (F.TDC_CFG.PRESCALE n) then s.get (F.TDC_CFG.PSK n) + 1 else 0)))) ∧
  ((∀ (s : State) (c code pr16 : Nat) (widths : List Nat), StateShape s → c < 16 → code < 8 → s.kind c = 4 → pr16 ∈ (s.rf c).prs →
      (∃ w ∈ widths, irigClass w = none) →
      ∃ t, exec (.irigFrame c code widths pr16) s = .next t ∧ t.bit (F.REF_STAT.LABELERR c) = true ∧
        (t.rf c).failed = (s.rf c).failed + 1 ∧ (t.rf c).good = 0) ∧
    (∀ (s : State) (c code pr16 v : Nat) (widths : List Nat), StateShape s → c < 16 → code < 8 → s.kind c = 4 → pr16 ∈ (s.rf c).prs →
      (∀ w ∈ widths, irigClass w ≠ none) →
      s.irigSecond code (widths.map (fun w => (irigClass w).getD 3)) (s.get (F.REF_CFG.TSCALE c) == 1) = some v →
      (4 ≤ code ∨ s.timeKnown = true) →
      ∃ t, exec (.irigFrame c code widths pr16) s = .next t ∧ (t.rf c).lastTime = v ∧ (t.rf c).failed = 0 ∧
        t.bit (F.REF_STAT.ACTIVITY c) = true))

/-- The GNSS reference: a solution shows its fix, its satellites and its position and counts; a completed survey holds the position; 5 s without a
fix end the channel's label and activity. The antenna feed: more than 80 mA is a short, under 3 mA an open feed, and 3 to 80 mA an antenna; a short
of 1 ms cuts the feed off, and a retry 10 s later keeps the short or ends it. Rules: R149, R151, R565. -/
def Obligations.GnssAndAntenna : Prop :=
  ((∀ (s : State) (c tsys ukind used dual : Nat) (corr : Int) (moved validated : Bool) (pos : List Int) (sats : List Nat),
      s.channelOfKind 1 = some c →
      ∃ t, exec (.gnssSolution tsys corr ukind used dual moved validated pos sats) s = .next t ∧
        t.get F.GNS_STAT.FIX = s.fixOf c used dual moved validated ∧ t.get F.GNS_STAT.USED = min 255 used ∧
        t.get F.GNS_SOLN.SOLN = (s.get F.GNS_SOLN.SOLN + 1) % 2 ^ 32 ∧ t.get (F.REF_QUAL.RAW c) = s.fixOf c used dual moved validated) ∧
    (∀ s : State, s.sel.posHeld = false → s.sel.surveyLeft = 0 →
      ∃ t, exec .gnssSurveyComplete s = .next t ∧ t.sel.posHeld = true ∧ t.bit F.GNS_STAT.HOLD = true ∧ t.bit F.GNS_STAT.SURVEY = false ∧
        RegsBut [F.GNS_STAT.HOLD, F.GNS_STAT.SURVEY, F.GNS_SURVEY.LEFT] s t ∧ MemorySame s t) ∧
    (∀ (s : State) (c : Nat), s.channelOfKind 1 = some c → s.sel.lastFix + 5 * 625000000 ≤ s.raw →
      ∃ t, exec .gnssNoFixTimeout s = .next t ∧ t.bit (F.REF_STAT.LABELLED c) = false ∧ t.bit (F.REF_STAT.ACTIVITY c) = false ∧
        t.get (F.REF_UKIND.UKIND c) = 0xFFFFFFFF) ∧
    (∀ (s : State) (n half code kStop : Nat), StateShape s → half < 2 → (s.channelOfKind 1).bind s.tdcOf = some n →
      ∃ t, exec (.gnssEpochStrobe half code kStop) s = .next t ∧ (t.td n).edges = (s.td n).edges + 1)) ∧
  ((∀ (s : State) (mA : Nat), ¬ (s.bit F.REF_ANT.SHORT = true ∧ s.bit F.REF_ANT.FEEDON = false) →
      ∃ t, exec (.antennaCurrentSample mA) s = .next t ∧ t.get F.REF_ANT.CURRENT = min 100 mA ∧
        t.bit F.REF_PRES.ANT = decide (3 ≤ mA ∧ mA ≤ 80) ∧ t.bit F.REF_ANT.SHORT = decide (80 < mA) ∧ t.bit F.REF_ANT.OPEN = decide (mA < 3)) ∧
    (∀ (s : State) (t0 : Nat), s.sel.shortSince = some t0 → s.bit F.REF_ANT.SHORT = true → s.bit F.REF_ANT.FEEDON = true → t0 + 625000 ≤ s.raw →
      ∃ t, exec .antennaShortCutoff s = .next t ∧ t.bit F.REF_ANT.FEEDON = false ∧ t.sel.retryAt = s.raw + 10 * 625000000 ∧
        RegsBut [F.REF_ANT.FEEDON] s t ∧ MemorySame s t) ∧
    (∀ (s : State) (mA : Nat), s.bit F.REF_ANT.SHORT = true → s.bit F.REF_ANT.FEEDON = false → s.sel.retryAt ≤ s.raw →
      ∃ t, exec (.antennaRetry mA) s = .next t ∧ t.bit F.REF_ANT.SHORT = decide (80 < mA) ∧ t.bit F.REF_ANT.FEEDON = decide (mA ≤ 80) ∧
        (80 < mA → t.sel.retryAt = s.raw + 10 * 625000000)))

/-- Quality indications: a valid ESMC PDU sets the level of a SyncE channel and 5 s without one end it; the announce receipt timeout takes a PTP
channel's label and presence; an evaluation shows the effective class and flags a change. Presence: a sense sample of a UIN decides its presence
against the limit of its mode; 100 ms of unbroken presence set PLUG; a stamp held for 32 µs is released. Writes of a reference channel's
configuration: one that keeps to the rules of REF_CFG takes effect on every field, and EN 0 turns the channel off; a nominal frequency waits for its
high word and then takes effect. Rules: R145, R153, R154, R159, R163, R164, R165, R546. -/
def Obligations.ReferenceChannels : Prop :=
  ((∀ (s : State) (c code : Nat) (e : Bool) (bytes : List Byte), StateShape s → c < 16 → s.kind c = 5 →
      esmcCode bytes (s.bit (F.REF_CFG.EXTQL c)) = some (code, e) → code < 256 →
      ∃ t, exec (.esmcPdu c bytes) s = .next t ∧ t.get (F.REF_QUAL.RAW c) = code ∧ (t.rf c).qlOk = true ∧ (t.rf c).extended = e ∧
        (t.rf c).heardAt = s.raw ∧ RegsBut [F.REF_QUAL.RAW c] s t ∧ MemorySame s t) ∧
    (∀ (s : State) (c : Nat), StateShape s → c < 16 → s.kind c = 5 → (s.rf c).heardAt + 5 * 625000000 ≤ s.raw →
      ∃ t, exec (.esmcTimeout c) s = .next t ∧ (t.rf c).qlOk = false ∧ RegsOutside [] s t ∧ MemorySame s t) ∧
    (∀ (s : State) (c : Nat), c < 16 → s.kind c = 6 →
      ∃ t, exec (.announceReceiptTimeout c) s = .next t ∧ t.bit (F.REF_STAT.LABELLED c) = false ∧ t.bit (F.REF_STAT.PRESENT c) = false) ∧
    (∀ (s : State) (c : Nat), c < 16 → s.effectiveClass c < 16 →
      ∃ t, exec (.qclassEvaluation c) s = .next t ∧ t.get (F.REF_STAT.QCLASS c) = s.effectiveClass c ∧
        (s.get (F.REF_STAT.QCLASS c) ≠ s.effectiveClass c → t.bit (F.REF_STAT.QCHG c) = true))) ∧
  ((∀ (s : State) (k v : Nat), k < 6 →
      ∃ t, exec (.uinSenseSample k (some v)) s = .next t ∧
        t.bit (F.PNL_SENSE.PRES k) = (s.bit (F.PNL_SENSE.SENSEOFF k) || decide (v ≤ Config.uinBias k *
          (if leAt (s.sec 0x12) (8 * k) 1 = 2 then 30000
           else if (leAt (s.sec 0x12) (8 * k) 1 = 1 ∨ leAt (s.sec 0x12) (8 * k) 1 = 3) ∧ leAt (s.sec 0x12) (8 * k + 1) 1 = 0 then 40
           else 5000)))) ∧
    (∀ (s : State) (k : Nat), k < 6 → exec (.uinSenseSample k none) s = .next s) ∧
    (∀ (s : State) (c t0 : Nat), StateShape s → c < 16 → (s.rf c).presAt = some t0 → t0 + 62500000 ≤ s.raw →
      ∃ t, exec (.plugHoldDone c) s = .next t ∧ t.bit (F.REF_STAT.PLUG c) = true ∧ (t.rf c).presAt = none ∧ (t.rf c).xs = [] ∧ MemorySame s t) ∧
    (∀ (s : State) (c n : Nat) (h : Held) (rest : List Held), StateShape s → c < 16 → (s.rf c).held = h :: rest → s.tdcOf c = some n →
      h.taken + 20000 ≤ s.raw →
      ∃ t, exec (.heldStampRelease c) s = .next t ∧ (t.rf c).held = rest)) ∧
  ((∀ (s : State) (req : Requester) (c data : Nat), s.Reaches req 0x600004 → c < 16 →
      let f := fun (x : Fld) => bitsOf data x.lo x.w
      (s.bit (F.REF_CFG.EN c) = true → ∀ x ∈ [F.REF_CFG.ANTOPEN_OK c, F.REF_CFG.SINGLE c, F.REF_CFG.CONST c, F.REF_CFG.GSYS c, F.REF_CFG.PORT c,
        F.REF_CFG.EXTQL c, F.REF_CFG.TSCALE c], f x = s.get x) →
      (1 ≤ f (F.REF_CFG.QOVR c) ∧ (f (F.REF_CFG.QOVR c) ≤ 7 ∨ f (F.REF_CFG.QOVR c) = 15)) → f (F.REF_CFG.CONST c) ≠ 0 →
      f (F.REF_CFG.GSYS c) ≠ 3 → (f (F.REF_CFG.CONST c)).testBit (f (F.REF_CFG.GSYS c)) = true → f (F.REF_CFG.TSCALE c) ≠ 3 →
      s.isHeld (0x100 + c) = false →
      ∃ t, exec (.refCfgWrite req c data) s = .next t ∧
        (∀ x ∈ [F.REF_CFG.EN c, F.REF_CFG.FORCE_DQ c, F.REF_CFG.QOVR_EN c, F.REF_CFG.QOVR c, F.REF_CFG.TSCALE c, F.REF_CFG.GSYS c], t.get x = f x) ∧
        (f (F.REF_CFG.EN c) = 0 → t.qstate c = 0)) ∧
    (∀ (s : State) (req : Requester) (c data : Nat), s.Reaches req 0x600020 → c < 16 → (s.kind c = 2 ∨ s.kind c = 3) → s.bit (F.REF_CFG.EN c) = false →
      ∃ t, exec (.refNomfreqWrite req c false data) s = .next t ∧ lookup c t.sel.nomLow = some (data % 2 ^ 32) ∧
        t.get (F.REF_NOMFREQ.FREQ c) = s.get (F.REF_NOMFREQ.FREQ c) ∧ RegsBut [F.XBR_TSTAT.OWNER 6] s t ∧ MemorySame s t) ∧
    (∀ (s : State) (req : Requester) (c data low : Nat), s.Reaches req 0x600024 → c < 16 → s.kind c = 2 → s.bit (F.REF_CFG.EN c) = false →
      lookup c s.sel.nomLow = some low → 65536 ≤ low + data % 65536 * 2 ^ 32 → low + data % 65536 * 2 ^ 32 ≤ 10000000 * 65536 →
      ∃ t, exec (.refNomfreqWrite req c true data) s = .next t ∧ t.get (F.REF_NOMFREQ.FREQ c) = low + data % 65536 * 2 ^ 32 ∧ MemorySame s t))

/-! Measurement (spec/06_measurement.md). -/

/-- An edge at a used TDC channel is counted; an armed half stamps it with its pair and is then unarmed, and an edge that finds the half unarmed is
counted as missed. A half without a pair takes a calibration pair whose span lies within 12% of the nominal one, and is armed with it; a pair
outside that range sets CALERR. Rules: R169, R171. -/
def Obligations.EdgesAndInterpolators : Prop :=
  ((∀ (s : State) (n half code kStop c1 c2 tk at16 : Nat), StateShape s → n < 24 → half < 2 → s.tdcUse n ≠ 0 →
      (if half = 0 then (s.td n).h0 else (s.td n).h1).pair = some (c1, c2, tk) → eventTime c1 c2 code kStop = some at16 →
      ∃ t, exec (.tdcEdge n half code kStop) s = .next t ∧ (t.td n).edges = (s.td n).edges + 1 ∧
        (t.td n).stamps.head? = some (at16, s.raw) ∧ (if half = 0 then (t.td n).h0 else (t.td n).h1).pair = none) ∧
    (∀ (s : State) (n half code kStop : Nat), StateShape s → n < 24 → half < 2 → s.tdcUse n ≠ 0 →
      (if half = 0 then (s.td n).h0 else (s.td n).h1).pair = none →
      ∃ t, exec (.tdcEdge n half code kStop) s = .next t ∧ (t.td n).edges = (s.td n).edges + 1 ∧ t.bit (F.TDC_STAT.MISSED n) = true ∧
        t.get (F.TDC_CNT.MISS n) = min (2 ^ (F.TDC_CNT.MISS n).w - 1) (s.get (F.TDC_CNT.MISS n) + 1) ∧ (t.td n).stamps = (s.td n).stamps)) ∧
  (∀ (s : State) (n half c1 c2 : Nat), StateShape s → n < 24 → half < 2 → s.tdcUse n ≠ 0 →
      (if half = 0 then (s.td n).h0 else (s.td n).h1).pair = none →
      ((((c2 : Int) - c1 - s.get (F.TDC_CAL.NOM n)).natAbs : Int) * 100 ≤ 12 * s.get (F.TDC_CAL.NOM n) →
        ∃ t, exec (.interpolatorCalibration n half c1 c2) s = .next t ∧
          (if half = 0 then (t.td n).h0 else (t.td n).h1).pair = some (c1, c2, s.raw) ∧ t.bit (F.TDC_STAT.ARMED n) = true) ∧
      (12 * (s.get (F.TDC_CAL.NOM n) : Int) < (((c2 : Int) - c1 - s.get (F.TDC_CAL.NOM n)).natAbs : Int) * 100 →
        ∃ t, exec (.interpolatorCalibration n half c1 c2) s = .next t ∧ t.bit (F.TDC_STAT.CALERR n) = true ∧
          (if half = 0 then (t.td n).h0 else (t.td n).h1).bad = true))

/-- Results leave their queues: a millisecond's mean is delivered once and the sums start again; the oldest stop whose window has closed is paired
or reported without a start; a gate that has ended and whose stamps are released gives its result and is gone. Writes of measurement registers:
CLRCNT clears both counters of the channel; the time base and the gate length take the values written, in their ranges, and a gate length out of
range is discarded with an access error of cause 7. Rules: R176, R177, R178, R181, R187, R192. -/
def Obligations.Measurements : Prop :=
  ((∀ (s : State) (c n : Nat), StateShape s → c < 16 → s.kind c = 2 → s.raw % 625000 = 20000 → 0 < (s.rf c).msCount → s.tdcOf c = some n →
      s.bit (F.TDC_CFG.UNSIGNED n) = false →
      ∃ t, exec (.phaseResultMs c) s = .next t ∧ (t.rf c).msCount = 0 ∧ (t.rf c).msSum = 0 ∧ leAt (t.td n).record 0 1 = 2 ∧
        leAt (t.td n).record 1 1 = n ∧ (t.td n).seq = ((s.td n).seq + 1) % 65536) ∧
    (∀ (s : State) (n : Nat) (q : Stop) (rest : List Stop), StateShape s → n < 24 → (s.td n).stops = q :: rest →
      q.taken + max (s.get (F.TDC_WIN.WIN n)) 20000 ≤ s.raw →
      ∃ t, exec (.intervalRecord n) s = .next t ∧ (t.td n).stops = rest ∧
        (s.tdcUse q.start = 0 → t.bit (F.TDC_STAT.NOSTART n) = true)) ∧
    (∀ (s : State) (n : Nat) (g : Gate), StateShape s → n < 24 → ((s.rollGate n).td n).closing = some g →
      g.endTick + holdTicks (s.kind (s.tdcTarget n)) + 5000 ≤ s.raw →
      ∃ t, exec (.gateEnd n) s = .next t ∧ (t.td n).closing = none)) ∧
  ((∀ (s : State) (req : Requester) (n : Nat), s.Reaches req 0x500004 → n < 24 → s.tdcReserved n = false →
      ∃ t, exec (.tdcClrcnt req n) s = .next t ∧ t.get (F.TDC_CNT.MISS n) = 0 ∧ t.get (F.TDC_CNT.REJ n) = 0 ∧
        RegsBut [F.XBR_TSTAT.OWNER 6, F.TDC_CNT.MISS n, F.TDC_CNT.REJ n] s t ∧ RegsOnly s t) ∧
    (∀ (s : State) (req : Requester) (data : Nat), s.Reaches req 0x500024 → bitsOf data 0 2 ≠ 3 →
      (bitsOf data 0 2 = 1 → s.kind (bitsOf data 4 4) = 3 ∧ s.bit (F.REF_STAT.PRESENT (bitsOf data 4 4)) = true ∧
        s.bit (F.REF_STAT.ACTIVITY (bitsOf data 4 4)) = true) →
      ∃ t, exec (.tdcTbWrite req data) s = .next t ∧ t.get F.TDC_TB.SEL = bitsOf data 0 2 ∧ t.get F.TDC_TB.CH = bitsOf data 4 4 ∧
        t.get F.TDC_TB.ACT = bitsOf data 0 2 ∧ RegsOnly s t) ∧
    (∀ (s : State) (req : Requester) (n data : Nat), s.Reaches req 0x50000C → n < 24 → s.tdcReserved n = false → 1 ≤ bitsOf data 0 20 →
      bitsOf data 0 20 ≤ 1000000 →
      ∃ t, exec (.tdcGateWrite req n data) s = .next t ∧ t.get (F.TDC_GATE.GATE n) = bitsOf data 0 20 ∧
        RegsBut [F.XBR_TSTAT.OWNER 6, F.TDC_GATE.GATE n] s t ∧ RegsOnly s t) ∧
    (∀ (s : State) (req : Requester) (n data : Nat), s.Reaches req 0x50000C → n < 24 → s.bit F.XBR_AERR.AERR = false →
      bitsOf data 0 20 = 0 ∨ 1000000 < bitsOf data 0 20 →
      ∃ t, exec (.tdcGateWrite req n data) s = .next t ∧ t.get (F.TDC_GATE.GATE n) = s.get (F.TDC_GATE.GATE n) ∧ t.get F.XBR_AERR.CAUSE = 7))

/-! The oven and the atomic standard (spec/07_oscillators.md). -/

/-- The atomic standard's states follow one another: heating, optical search, microwave search, Locked, and Fault on a time limit; Locked is shown
as CELL_LOCK, counted, and its end sets UNLOCK and discards the estimate of the atomic frequency. The proofing bits: each clears after its settled
time and sets again on a deviation, and a heater that has not reached its window in ten minutes sets HEATFLT. Rules: R196, R197, R198, R199, R201.
-/
def Obligations.AtomicStandard : Prop :=
  ((∀ s : State, s.cellState = 0 → ∃ t, exec .cellHeatingDone s = .next t ∧ t.cellState = 1 ∧ t.osc.stateAt = s.raw ∧
      RegsBut [F.OSC_STAT.CELL_STATE] s t ∧ MemorySame s t) ∧
    (∀ s : State, s.cellState = 1 → ∃ t, exec .opticalSearchDone s = .next t ∧ t.cellState = 2 ∧ t.osc.stateAt = s.raw ∧
      RegsBut [F.OSC_STAT.CELL_STATE] s t ∧ MemorySame s t) ∧
    (∀ s : State, s.cellState = 2 → s.osc.stateAt + 10 * 625000000 ≤ s.raw →
      ∃ t, exec .microwaveLock s = .next t ∧ t.cellState = 3 ∧ t.bit F.OSC_STAT.CELL_LOCK = true ∧
        t.get F.OSC_CELL.LOCKS = min 255 (s.get F.OSC_CELL.LOCKS + 1) ∧ t.osc.lockAt = s.raw) ∧
    (∀ (s : State) (k limit : Nat), (k, limit) ∈ [(0, 600), (1, 20), (2, 10)] → s.cellState = k → s.osc.stateAt + limit * 625000000 ≤ s.raw →
      ∃ t, exec .cellSearchTimeout s = .next t ∧ t.cellState = 4 ∧ RegsBut [F.OSC_STAT.CELL_STATE] s t ∧ MemorySame s t) ∧
    (∀ s : State, s.cellState = 4 → s.osc.stateAt + 60 * 625000000 ≤ s.raw →
      ∃ t, exec .cellFaultRetry s = .next t ∧ t.cellState = 0 ∧ t.bit F.OSC_STAT.CELL_PROOF = true ∧ t.osc.stateAt = s.raw) ∧
    (∀ (s : State) (inWindow : Bool), s.cellState = 3 →
      ∃ t, exec (.cellUnlock inWindow) s = .next t ∧ t.cellState = (if inWindow then 1 else 0) ∧ t.bit F.OSC_STAT.CELL_LOCK = false ∧
        t.bit F.OSC_STAT.UNLOCK = true ∧ t.osc.gates = [])) ∧
  ((∀ (s : State) (t0 : Nat), s.osc.ovenIn = some t0 → s.bit F.OSC_STAT.OVEN_PROOF = true → t0 + 300 * 625000000 ≤ s.raw →
      ∃ t, exec .ovenProofClear s = .next t ∧ t.bit F.OSC_STAT.OVEN_PROOF = false ∧ t.bit F.OSC_STAT.PROOFING = t.bit F.OSC_STAT.CELL_PROOF) ∧
    (∀ s : State, s.bit F.OSC_STAT.CELL_PROOF = true → s.bit F.OSC_STAT.CELL_LOCK = true →
      s.osc.lockAt + s.get F.OSC_SETTLE.CELL * 625000000 ≤ s.raw →
      ∃ t, exec .cellProofClear s = .next t ∧ t.bit F.OSC_STAT.CELL_PROOF = false ∧ t.bit F.OSC_STAT.PROOFING = t.bit F.OSC_STAT.OVEN_PROOF) ∧
    (∀ (s : State) (t0 : Nat), s.osc.ovenOut = some t0 → s.bit F.OSC_STAT.OVEN_PROOF = false → t0 + 625000000 ≤ s.raw →
      ∃ t, exec .ovenDeviation s = .next t ∧ t.bit F.OSC_STAT.OVEN_PROOF = true ∧ t.bit F.OSC_STAT.OVENDEV = true ∧
        t.bit F.OSC_STAT.PROOFING = true) ∧
    (∀ (s : State) (t0 : Nat), s.osc.leftLock = some t0 → s.bit F.OSC_STAT.CELL_LOCK = false → s.bit F.OSC_STAT.CELL_PROOF = false →
      t0 + 60 * 625000000 ≤ s.raw →
      ∃ t, exec .cellProofSet s = .next t ∧ t.bit F.OSC_STAT.CELL_PROOF = true ∧ t.bit F.OSC_STAT.PROOFING = true) ∧
    (∀ s : State, 374997500000 ≤ s.raw → s.osc.ovenReached = false →
      ∃ t, exec (.heaterFault false) s = .next t ∧ t.bit F.OSC_STAT.HEATFLT = true ∧ RegsBut [F.OSC_STAT.HEATFLT] s t) ∧
    (∀ s : State, 374997500000 ≤ s.raw → s.cellState = 0 → s.osc.heatAt = none →
      ∃ t, exec (.heaterFault true) s = .next t ∧ t.bit F.OSC_STAT.HEATFLT = true ∧ t.cellState = 4))

/-- What the thermal model takes in: each sensor's reading, the loop errors, the heaters and the lagged load at a sample; a quarter's load of one
microsecond, full while an awake quarter's report is missing; and the mean load of a second, after which the sum starts again. The model sets: a
day's end shows the number of counted days; a write of the model store puts the sets into the older copy, which is then the newest valid one; a
cleared set is empty with no counted day, unless it is in use in holdover. Rules: R197, R202, R204, R212, R213, R214, R369. -/
def Obligations.OvenAndModels : Prop :=
  ((∀ (s : State) (temps : List Int) (oven cell : Int) (oh ch : Nat), (∀ x ∈ temps, -32768 ≤ x ∧ x < 32768) →
      ∃ t, exec (.sensorSample temps oven cell oh ch) s = .next t ∧ (∀ i < 8, t.getI (F.OSC_TS.TEMP i) = temps.getD i 0) ∧
        t.getI F.OSC_OVEN.TERR = max (-32768) (min 32767 oven) ∧ t.getI F.OSC_CELL.TERR = max (-32768) (min 32767 cell) ∧
        t.get F.OSC_OVEN.HEAT = min 255 oh ∧ t.get F.OSC_CELL.HEAT = min 255 ch ∧ t.osc.h = s.osc.h + (s.osc.load - s.osc.h) / 45000) ∧
    (∀ (s : State) (q used : Nat), q < 4 → s.get (F.PWR_DOM_STAT.STATE (q + 1)) = 0 →
      ∃ t, exec (.loadReport q used) s = .next t ∧
        t.osc.loadSum = s.osc.loadSum + min 1 ((used : Rat) / (4 * levelMHz (s.get (F.PWR_DOM_STAT.PLVL (q + 1))))) *
          levelWeight (s.get (F.PWR_DOM_STAT.PLVL (q + 1))) ∧
        t.bit (F.PKE_QSTAT.MISSING q) = false ∧ RegsBut [F.PKE_QSTAT.MISSING q, F.PKE_QSTAT.USED q] s t ∧ MemorySame s t) ∧
    (∀ (s : State) (q : Nat), q < 4 → s.get (F.PWR_DOM_STAT.STATE (q + 1)) = 0 →
      ∃ t, exec (.loadReportMissing q) s = .next t ∧ t.osc.loadSum = s.osc.loadSum + 1 ∧ t.bit (F.PKE_QSTAT.MISSING q) = true ∧
        RegsBut [F.PKE_QSTAT.MISSING q] s t ∧ MemorySame s t) ∧
    (∀ (s : State) (q : Nat), q < 4 → s.get (F.PWR_DOM_STAT.STATE (q + 1)) ≠ 0 →
      ∃ t, exec (.loadReportMissing q) s = .next t ∧ t.osc.loadSum = s.osc.loadSum ∧ RegsOutside [] s t ∧ MemorySame s t) ∧
    (∀ s : State, s.raw % 625000000 = 0 →
      ∃ t, exec .operatingPointUpdate s = .next t ∧ t.osc.lbar = min 1 (s.osc.loadSum / 4000000) ∧ t.osc.loadSum = 0 ∧
        t.get F.OSC_OP.LOAD = (roundAway (256 * min 1 (s.osc.loadSum / 4000000))).toNat % 512)) ∧
  ((∀ s : State,
      ∃ t, exec .ageingDayEnd s = .next t ∧ t.osc.sets = s.osc.sets.map (fun (m : ModelSet) => m.endDay (s.dsec / 86400)) ∧
        t.get (F.OSC_LEARN.DAYS 0) = min 255 (t.mset 0).days.length ∧ t.get (F.OSC_LEARN.DAYS 1) = min 255 (t.mset 1).days.length ∧
        RegsBut [F.OSC_AGE_D.D 0, F.OSC_AGE_D.D 1, F.OSC_AGE_U.U 0, F.OSC_AGE_U.U 1, F.OSC_LEARN.DAYS 0, F.OSC_LEARN.DAYS 1, F.OSC_LEARN.LEARNT 0,
          F.OSC_LEARN.LEARNT 1] s t ∧ MemorySame s t) ∧
    (∀ s : State, s.supply.on = true → s.raw % 640000000000 = 0 → s.boot.warm = false →
      ∃ t, exec (.modelStoreWrite true) s = .next t ∧ (t.nv.newestStore.map (·.sets)) = some s.osc.sets ∧ RegsOutside [] s t ∧ MemorySame s t) ∧
    (∀ s : State, s.supply.on = true → s.raw % 640000000000 = 0 → s.boot.warm = false →
      ∃ t, exec (.modelStoreWrite false) s = .next t ∧ t.bit F.OSC_STAT.STOREERR = true) ∧
    (∀ (s : State) (req : Requester), s.Reaches req 0x700004 →
      ∃ t, exec (.oscStore req 0x9612 true) s = .next t ∧ (t.nv.newestStore.map (·.sets)) = some s.osc.sets ∧ MemorySame s t) ∧
    (∀ (s : State) (req : Requester), s.Reaches req 0x700004 → ¬ (s.get F.OSC_STAT.HSET = 0 ∧ s.srvState = 3) →
      ∃ t, exec (.oscClrC req 0x9612) s = .next t ∧ t.mset 0 = {} ∧ t.get (F.OSC_LEARN.DAYS 0) = 0 ∧ t.mset 1 = s.mset 1) ∧
    (∀ (s : State) (req : Requester), s.Reaches req 0x700004 → ¬ (s.get F.OSC_STAT.HSET = 1 ∧ s.srvState = 3) →
      ∃ t, exec (.oscClrO req 0x9612) s = .next t ∧ t.mset 1 = {} ∧ t.get (F.OSC_LEARN.DAYS 1) = 0 ∧ t.mset 0 = s.mset 0) ∧
    (∀ (s : State) (req : Requester), s.Reaches req 0x700004 → s.cellState = 3 →
      ∃ t, exec (.oscRelock req 0x9612) s = .next t ∧ t.bit F.OSC_STAT.CELL_LOCK = false ∧ t.bit F.OSC_STAT.UNLOCK = true) ∧
    (∀ (s : State) (req : Requester) (key : Nat), s.Reaches req 0x700004 → key % 65536 ≠ 0x9612 → s.bit F.XBR_AERR.AERR = false →
      ∀ c ∈ [Instr.oscClrC req key, .oscClrO req key, .oscRelock req key, .oscStore req key true],
        ∃ t, exec c s = .next t ∧ t.osc = s.osc ∧ t.nv = s.nv ∧ t.get F.XBR_AERR.CAUSE = 6 ∧
          RegsBut [F.XBR_TSTAT.OWNER 6, F.XBR_AERR.AERR, F.XBR_AERR.REQ, F.XBR_AERR.CAUSE, F.XBR_AERRADDR.ADDR] s t))

/-! The time scale and the servo (spec/08_timescale.md). -/

/-- A host proposal with its key is checked: one that passes becomes the pending pair, one generation above the pair in force and with the staged
rate, anchor and commit tick; one that fails leaves what is pending and sets DPREF. Rules: R222. -/
def Obligations.HostPairProposals : Prop :=
  ∀ (s : State) (req : Requester), s.Reaches req 0x4000A8 →
    let v := s.checkPair true (s.getI F.HRT_DPW_RATE.RATE) (dtimeOf (leBytes 16 (s.get F.HRT_DPW_OFFSET.OFFSET))) (s.get F.HRT_DPW_ANCHOR.ANCHOR)
      (s.get F.HRT_DP_COMMIT.COMMIT)
    (v = 1 → ∃ t p, exec (.dpGo req 0x9612) s = .next t ∧ t.hrt.pend = some (p, true) ∧ p.gen = (s.hrt.cur.gen + 1) % 256 ∧
      p.rate = s.getI F.HRT_DPW_RATE.RATE ∧ p.anchor = s.get F.HRT_DPW_ANCHOR.ANCHOR ∧ p.commit = s.get F.HRT_DP_COMMIT.COMMIT ∧
      t.get F.HRT_DP_STAT.RESULT = 1 ∧ t.hrt.cur = s.hrt.cur) ∧
    (v ≠ 1 → ∃ t, exec (.dpGo req 0x9612) s = .next t ∧ t.hrt = s.hrt ∧ t.bit F.HRT_STAT.DPREF = true)

/-- Servo updates: an enabled instance whose period's tick it is updates once, an SRV1 without its input keeps no reference, and the characteriser
updates whenever it is asked. Servo controls: MAN changes only with its key, a changed MAN without it is discarded with an access error of cause 6,
and CLRI waits for the instance's next update; a disabled instance's register takes no write. Rules: R225, R228, R232. -/
def Obligations.ServoUpdatesAndControls : Prop :=
  ((∀ (s : State) (n : Nat), StateShape s → n < 4 → n ≠ 2 → s.srvEn n = true → s.srvP n ≠ 0 → s.raw % s.srvP n = 0 → s.raw ≠ (s.sv n).lastTick →
      ¬ (n = 0 ∧ s.inStep = true) →
      ∃ t, exec (.srvUpdate n) s = .next t ∧ (t.sv n).lastTick = s.raw) ∧
    (∀ s : State, StateShape s → s.srvEn 2 = true → ∃ t, exec (.srvUpdate 2) s = .next t ∧ (t.sv 2).lastTick = s.raw) ∧
    (∀ s : State, StateShape s → s.srvEn 1 = true → s.srvP 1 ≠ 0 → s.raw % s.srvP 1 = 0 → s.raw ≠ (s.sv 1).lastTick → s.channelOfKind 7 = none →
      ∃ t, exec (.srvUpdate 1) s = .next t ∧ t.bit (F.HRT_SRV_STAT.NOREF 1) = true ∧ t.get (F.HRT_SRV_STAT.STATE 1) = 0 ∧ t.hrt.cur = s.hrt.cur) ∧
    (∀ (s : State) (n : Nat), n < 4 → s.srvEn n = false → exec (.srvUpdate n) s = .next s)) ∧
  ((∀ (s : State) (req : Requester) (data : Nat), s.Reaches req 0x400200 → s.srvEn 0 = true →
      (data.testBit 0 = s.bit (F.HRT_SRV_CTRL.MAN 0) ∨ bitsOf data 16 16 = 0x9612) →
      ∃ t, exec (.srvManWrite req data) s = .next t ∧ t.bit (F.HRT_SRV_CTRL.MAN 0) = data.testBit 0 ∧
        t.bit (F.HRT_SRV_CTRL.STEP_EN 0) = data.testBit 1) ∧
    (∀ (s : State) (req : Requester) (data : Nat), s.Reaches req 0x400200 → data.testBit 0 ≠ s.bit (F.HRT_SRV_CTRL.MAN 0) →
      bitsOf data 16 16 ≠ 0x9612 → s.bit F.XBR_AERR.AERR = false →
      ∃ t, exec (.srvManWrite req data) s = .next t ∧ t.hrt = s.hrt ∧ t.get F.XBR_AERR.CAUSE = 6 ∧
        RegsBut [F.XBR_TSTAT.OWNER 6, F.XBR_AERR.AERR, F.XBR_AERR.REQ, F.XBR_AERR.CAUSE, F.XBR_AERRADDR.ADDR] s t) ∧
    (∀ (s : State) (req : Requester) (n : Nat), s.Reaches req (0x400200 + 0x20 * n) → n < 4 → s.srvEn n = true →
      ∃ t, exec (.srvClri req n) s = .next t ∧ t.bit (F.HRT_SRV_CTRL.CLRI n) = true ∧
        RegsBut [F.XBR_TSTAT.OWNER 6, F.HRT_SRV_CTRL.CLRI n] s t ∧ RegsOnly s t) ∧
    (∀ (s : State) (req : Requester) (n : Nat), s.Reaches req (0x400200 + 0x20 * n) → n < 4 → s.srvEn n = false → s.bit F.XBR_AERR.AERR = false →
      ∃ t, exec (.srvClri req n) s = .next t ∧ t.get F.XBR_AERR.CAUSE = 7 ∧ t.get (F.HRT_SRV_CTRL.CLRI n) = s.get (F.HRT_SRV_CTRL.CLRI n)))

/-- The UTC offset: a source's report is kept with its tick; the host's offset waits for its second and then holds; the expiry of a source leaves
the offset and keeps no report older than 86,400 s; a report that has differed for 60 s sets UTCERR. Leap seconds and seconds: the host's schedule
and cancellation are its report; at LEAP_SEC the offset changes by one, the previous one is kept with its second, and nothing is scheduled any more;
a whole second of disciplined time shows in HRT_EPOCH_SEC. Rules: R236, R237, R238, R239, R241. -/
def Obligations.UtcAndLeaps : Prop :=
  ((∀ (s : State) (src ann leapSec : Nat) (offset after : Int), 2 ≤ src → src ≤ 4 →
      ∃ t r, exec (.utcSourceReport src offset ann leapSec after) s = .next t ∧ lookup src t.hrt.reports = some r ∧ r.offset = offset ∧
        r.at_ = s.raw ∧ (ann = 0 → r.change = none) ∧ (ann = 1 → r.change.map (·.2) = some false) ∧ (ann = 2 → r.change.map (·.2) = some true)) ∧
    (∀ (s : State) (src : Nat), 2 ≤ src → src ≤ 4 → s.sourceCounts src = false →
      ∃ t, exec (.utcSourceExpiry src) s = .next t ∧ t.utcOffset = s.utcOffset ∧
          ∀ r ∈ lookup src t.hrt.reports, s.raw ≤ r.at_ + 86400 * 625000000) ∧
    (∀ (s : State) (req : Requester) (offset : Int), s.Reaches req 0x400314 → -32768 ≤ offset → offset < 32768 →
      ∃ t sec, exec (.utcwSetoff req offset) s = .next t ∧ t.hrt.setoff = some (sec, offset) ∧ s.dsec + 2 ≤ sec ∧ sec ≤ s.dsec + 3) ∧
    (∀ (s : State) (sec : Nat) (o : Int), s.hrt.setoff = some (sec, o) → -32768 ≤ o → o < 32768 → sec ≤ s.dsec → s.inStep = false →
      ∃ t, exec .setoffApply s = .next t ∧ t.utcOffset = o ∧ t.bit F.HRT_UTC.VALID = true ∧ t.hrt.setoff = none) ∧
    (∀ (s : State) (r : UtcReport) (t0 : Nat), lookup s.followedSource s.hrt.reports = some r → r.differs = some t0 →
      s.bit F.HRT_UTC.VALID = true → r.offset ≠ s.utcOffset → t0 + 60 * 625000000 ≤ s.raw →
      ∃ t, exec .utcDisagreeTimeout s = .next t ∧ t.bit F.HRT_STAT.UTCERR = true ∧ RegsBut [F.HRT_STAT.UTCERR] s t ∧ MemorySame s t)) ∧
  ((∀ (s : State) (req : Requester) (del : Bool), s.Reaches req 0x400314 →
      ∃ t r, exec (.utcwSched req del) s = .next t ∧ lookup 1 t.hrt.reports = some r ∧ r.change = some (s.get F.HRT_UTCW_SEC.SEC, del)) ∧
    (∀ (s : State) (req : Requester), s.Reaches req 0x400314 →
      ∃ t r, exec (.utcwCancel req) s = .next t ∧ lookup 1 t.hrt.reports = some r ∧ r.change = none) ∧
    (∀ s : State, s.bit F.HRT_UTC.LEAPPEND = true → s.get F.HRT_LEAP.SEC ≤ s.dsec → -32767 ≤ s.utcOffset → s.utcOffset < 32767 →
      ∃ t, exec .leapSecReached s = .next t ∧ t.utcOffset = s.utcOffset + (if s.bit F.HRT_UTC.DIR then -1 else 1) ∧
        t.bit F.HRT_UTC.LEAPPEND = false ∧ t.bit F.HRT_STAT.LEAPDONE = true ∧ t.getI F.HRT_UTCPREV_HI.PREV = s.utcOffset ∧
        t.get F.HRT_UTCPREV.SEC = s.get F.HRT_LEAP.SEC % 2 ^ 48) ∧
    (∀ s : State, s.get F.HRT_EPOCH_SEC.SEC < s.dsec → s.dsec < 2 ^ 48 →
      ∃ t, exec .secondBoundary s = .next t ∧ t.get F.HRT_EPOCH_SEC.SEC = s.dsec ∧ RegsBut [F.HRT_EPOCH_SEC.SEC] s t ∧ MemorySame s t))

/-! Qualification and selection (spec/09_selection.md). -/

/-- A channel in DQ whose hold-off has ended and that is present and active enters QUALIFYING, and is QUALIFIED once QTIME has passed; an evaluation
with something to evaluate is taken, and one without changes nothing. What SRV0 selects: nothing while HOLD is set, the forced channel while FORCE
names a candidate, and nothing with FORCEFAIL where it does not; a write of REF_SELCTL stores the choice. Rules: R244, R245, R246, R253. -/
def Obligations.QualificationAndSelection : Prop :=
  ((∀ (s : State) (c : Nat), StateShape s → c < 16 → s.qstate c = 1 → (s.rf c).presAt = none → (s.rf c).holdUntil ≤ s.raw →
      s.bit (F.REF_STAT.PRESENT c) = true → s.bit (F.REF_STAT.ACTIVITY c) = true → s.get (F.REF_STAT.QCLASS c) ≠ 15 → s.calBad c = false →
      ∃ t, exec (.holdoffEnd c) s = .next t ∧ t.qstate c = 2 ∧ (t.rf c).qSince = s.raw ∧ (t.rf c).qLen = s.get (F.REF_QCFG.QTIME c) ∧
        (t.rf c).results = [] ∧ MemorySame s t) ∧
    (∀ (s : State) (c : Nat), c < 16 → s.qstate c = 2 → (s.rf c).qSince + (s.rf c).qLen * 625000000 ≤ s.raw →
      ∃ t, exec (.qtimeExpiry c) s = .next t ∧ t.qstate c = 3 ∧ RegsBut [F.REF_QSTAT.QSTATE c] s t ∧ RegsOnly s t) ∧
    (∀ (s : State) (c : Nat) (r : RefSt), StateShape s → c < 16 → 2 ≤ s.qstate c → (freqOnly (s.kind c) = true ∨ s.raw % 625000000 = 0) →
      s.formEvaluation c = some r →
      ∃ t, exec (.refEvaluation c) s = .next t ∧ (t.rf c).evalAt = r.evalAt ∧ (t.rf c).yD = r.yD) ∧
    (∀ (s : State) (c : Nat), c < 16 → s.formEvaluation c = none → exec (.refEvaluation c) s = .next s)) ∧
  ((∀ s : State, s.bit F.REF_SELCTL.HOLD = true →
      ∃ t, exec .selectionEvaluation s = .next t ∧ t.sel.sel = none) ∧
    (∀ s : State, s.bit F.REF_SELCTL.HOLD = false → s.bit F.REF_SELCTL.FORCE = true →
      let b := (s.setBit F.REF_SELSTAT.REFOK s.refereeOk).settle 0
      ∃ t, exec .selectionEvaluation s = .next t ∧
        t.sel.sel = (if b.candidate 0 (s.get F.REF_SELCTL.FCH) then some (s.get F.REF_SELCTL.FCH) else none) ∧
        t.bit F.REF_SELSTAT.FORCEFAIL = !b.candidate 0 (s.get F.REF_SELCTL.FCH)) ∧
    (∀ (s : State) (req : Requester) (data : Nat), s.Reaches req 0x600100 →
      ∃ t, exec (.refSelctlWrite req data) s = .next t ∧ t.get F.REF_SELCTL.FCH = bitsOf data 0 4 ∧ t.bit F.REF_SELCTL.FORCE = data.testBit 4 ∧
        t.bit F.REF_SELCTL.HOLD = data.testBit 5 ∧ RegsBut [F.XBR_TSTAT.OWNER 6, F.REF_SELCTL.FCH, F.REF_SELCTL.FORCE, F.REF_SELCTL.HOLD] s t ∧
        RegsOnly s t))

/-! Output synthesis (spec/10_outputs.md). -/

/-- The synthesis units: a lock is declared after 65,536 reference cycles of ACQUIRE and releases the outputs from then on; a slew moves by at most
a ten-thousandth of the frequency at a step and lands on the target; a loss of lock or of the reference is COAST, and 1 ms of COAST ends in a gated
relock. What the host writes into a unit: the low word of FREQ waits for the high one; an allowed FREQ is stored, leaves an unused unit OFF, slews a
locked unit where RELOCK is set and K and M stay, and relocks it where RELOCK is clear; one outside the outputs' limits is discarded; REALIGN under
KEY relocks. Rules: R277, R278, R279, R280, R281. -/
def Obligations.Synthesis : Prop :=
  ((∀ (s : State) (u : Nat), StateShape s → u < 5 → s.unitState u = 1 → s.acquired u = true →
      ∃ t, exec (.synLockDeclared u) s = .next t ∧ t.unitState u = 2 ∧ (u < 4 → t.bit (F.OUT_SYN_STAT.RELOCKED u) = true) ∧
        (u = 4 → ∀ p ∈ t.port, p.txOn = true) ∧ RegsOutside [8, 9, 0x11] s t ∧ MemorySame s t) ∧
    (∀ (s : State) (u : Nat), StateShape s → u < 4 → s.unitState u = 3 → (s.un u).stepAt ≤ s.raw →
      ∃ t, exec (.slewStep u) s = .next t ∧ RegsOutside [8] s t ∧ MemorySame s t ∧
        (absR ((s.unitFreq u : Rat) - (s.un u).freq) ≤ (s.un u).freq / 10000 → t.unitState u = 2 ∧ (t.un u).freq = s.unitFreq u) ∧
        (¬ absR ((s.unitFreq u : Rat) - (s.un u).freq) ≤ (s.un u).freq / 10000 → t.unitState u = 3 ∧ (t.un u).stepAt = s.raw + 1024 ∧
          (t.un u).freq = (s.un u).freq + (if (s.un u).freq < s.unitFreq u then (s.un u).freq / 10000 else -(s.un u).freq / 10000))) ∧
    (∀ (s : State) (u : Nat), StateShape s → u < 5 → s.unitState u = 2 ∨ s.unitState u = 3 →
      ∃ t, exec (.synLossOfLock u) s = .next t ∧ t.unitState u = 4 ∧ (t.un u).coastAt = s.raw ∧ (t.un u).restart = false ∧
        t.bit (if u = 4 then F.PRT_SYT_STAT.LOL else F.OUT_SYN_STAT.LOL u) = true ∧ RegsOutside [8, 9, 0x11] s t) ∧
    (∀ (s : State) (u : Nat), StateShape s → u < 5 → s.unitState u = 2 ∨ s.unitState u = 3 →
      ∃ t, exec (.synReferenceLoss u) s = .next t ∧ t.unitState u = 4 ∧ (t.un u).coastAt = s.raw ∧ (t.un u).restart = true ∧
        (u < 4 → t.bit (F.OUT_SYN_STAT.REFLOSS u) = true) ∧ RegsOutside [8, 9, 0x11] s t) ∧
    (∀ (s : State) (u : Nat), StateShape s → u < 5 → s.unitState u = 4 → (s.un u).coastAt + 625000 ≤ s.raw →
      ∃ t, exec (.coastEnd u) s = .next t ∧ t.unitState u = 1 ∧ (t.un u).restart = false ∧ (t.un u).relockTick = s.raw ∧
        RegsOutside [8, 9, 0x11] s t)) ∧
  ((∀ (s : State) (req : Requester) (u data : Nat), StateShape s → u < 4 → s.Reaches req (0x800100 + 0x20 * u) →
      ∃ t, exec (.synFreqWrite req u false data) s = .next t ∧ (t.un u).low = some (data % 2 ^ 32) ∧
        RegsBut [F.XBR_TSTAT.OWNER 6] s t ∧ MemorySame s t) ∧
    (∀ (s : State) (req : Requester) (u data lo : Nat), StateShape s → u < 4 → s.Reaches req (0x800104 + 0x20 * u) →
      (s.un u).low = some lo → lo < 2 ^ 32 →
      let b := ((s.set (F.XBR_TSTAT.OWNER 6) req.master).updUnit u (fun x => { x with low := none })).settleOuts
      let f := data % 2 ^ 16 * 2 ^ 32 + lo
      (b.freqAllowed u f = true → ∃ t, exec (.synFreqWrite req u true data) s = .next t ∧ t.get (F.OUT_SYN_FREQ.FREQ u) = f ∧
        (b.unitState u = 0 → t.unitState u = 0) ∧
        (b.unitState u = 2 → b.bit (F.OUT_SYN_CTRL.RELOCK u) = false → t.unitState u = 1) ∧
        (b.unitState u = 2 → b.bit (F.OUT_SYN_CTRL.RELOCK u) = true → kExp f = kExp (b.unitFreq u) → mOf f = mOf (b.unitFreq u) →
          t.unitState u = 3)) ∧
      (b.freqAllowed u f = false → ∃ t, exec (.synFreqWrite req u true data) s = .next t ∧
        t.get (F.OUT_SYN_FREQ.FREQ u) = s.get (F.OUT_SYN_FREQ.FREQ u) ∧ t.bit F.XBR_AERR.AERR = true)) ∧
    (∀ (s : State) (req : Requester) (u data : Nat), StateShape s → u < 4 → s.Reaches req (0x800108 + 0x20 * u) →
      data.testBit 1 = false →
      ∃ t, exec (.outRealign req u data) s = .next t ∧ t.bit (F.OUT_SYN_CTRL.RELOCK u) = data.testBit 0 ∧
        RegsBut [F.XBR_TSTAT.OWNER 6, F.OUT_SYN_CTRL.RELOCK u] s t ∧ RegsOnly s t) ∧
    (∀ (s : State) (req : Requester) (u data : Nat), StateShape s → u < 4 → s.Reaches req (0x800108 + 0x20 * u) →
      data.testBit 1 = true → bitsOf data 16 16 = 0x9612 → s.unitState u ≠ 0 →
      ∃ t, exec (.outRealign req u data) s = .next t ∧ t.unitState u = 1 ∧ (t.un u).relockTick = s.raw ∧
        t.bit (F.OUT_SYN_CTRL.RELOCK u) = data.testBit 0) ∧
    (∀ (s : State) (req : Requester) (u data : Nat), u < 4 → s.Reaches req (0x800108 + 0x20 * u) → data.testBit 1 = true →
      bitsOf data 16 16 ≠ 0x9612 → s.bit F.XBR_AERR.AERR = false →
      ∃ t, exec (.outRealign req u data) s = .next t ∧ t.syn = s.syn ∧ t.get F.XBR_AERR.CAUSE = 6))

/-- An output: a gated one is released at its first period boundary, a disabled one leaves its ball at the end of its period; EN and the grid values
are stored where they are allowed, and a change of EN on an output without a kind is an access error of cause 7. Rules: R280, R284, R285. -/
def Obligations.OutputControl : Prop :=
  (∀ (s : State) (n : Nat) (q : Rat), StateShape s → n < 12 → (s.ou n).offAt = none → (s.ou n).relFrom = some q →
    s.unitState (s.get (F.OUT_CFG.SYN n)) = 2 →
    (s.un (s.get (F.OUT_CFG.SYN n))).boundary (s.get (F.OUT_DIV.DIV n)) (s.getI (F.OUT_PHASE.PHASE n)) q ≤ s.psNow →
    ∃ t, exec (.outputRelease n) s = .next t ∧ (t.ou n).released = true ∧ (t.ou n).relFrom = none ∧
      (t.ou n).div = s.get (F.OUT_DIV.DIV n) ∧ t.bit (F.OUT_STAT.GATED n) = false ∧ RegsOutside [8, 0x11] s t ∧ MemorySame s t) ∧
  (∀ (s : State) (n : Nat) (q : Rat), StateShape s → n < 12 → (s.ou n).offAt = some q → q ≤ s.psNow → (s.ou n).relFrom = none →
    s.bit (F.OUT_CFG.EN n) = false →
    ∃ t, exec (.outputRelease n) s = .next t ∧ (t.ou n).released = false ∧ t.bit (F.OUT_STAT.DRIVE n) = false ∧
      RegsOutside [8, 0x11] s t) ∧
  (∀ (s : State) (req : Requester) (n data : Nat), StateShape s → n < 12 → s.Reaches req 0x800004 → s.get (F.OUT_CFG.KIND n) ≠ 0 →
    s.isHeld (0x200 + n) = false →
    ∃ t, exec (.outEnWrite req n data) s = .next t ∧ t.bit (F.OUT_CFG.EN n) = data.testBit 8 ∧
      t.bit (F.OUT_CFG.SQUELCH n) = data.testBit 9 ∧ RegsOutside [8, 0x10, 0x11] s t ∧ MemorySame s t) ∧
  (∀ (s : State) (req : Requester) (n data : Nat), StateShape s → n < 12 → s.Reaches req 0x800004 → s.get (F.OUT_CFG.KIND n) = 0 →
    data.testBit 8 ≠ s.bit (F.OUT_CFG.EN n) → s.bit F.XBR_AERR.AERR = false →
    ∃ t, exec (.outEnWrite req n data) s = .next t ∧ t.bit (F.OUT_CFG.EN n) = s.bit (F.OUT_CFG.EN n) ∧ t.get F.XBR_AERR.CAUSE = 7) ∧
  (∀ (s : State) (req : Requester) (n value : Nat), StateShape s → n < 12 → s.Reaches req 0x80000C → value % 2 ^ 32 ≠ 0 →
    paramOk (s.get (F.OUT_CFG.KIND n)) (value % 2 ^ 32) (s.get (F.OUT_PARAM.PARAM n)) = true →
    s.get (F.OUT_CFG.KIND n) = 0 ∨ outFreqOk n (s.get (F.OUT_CFG.ELEC n)) (s.bit (F.OUT_CFG.TIE n))
      (s.unitFreq (s.get (F.OUT_CFG.SYN n))) (value % 2 ^ 32) = true →
    ∃ t, exec (.outRegridWrite req n 0 value) s = .next t ∧ t.get (F.OUT_DIV.DIV n) = value % 2 ^ 32) ∧
  (∀ (s : State) (req : Requester) (n value : Nat), StateShape s → n < 12 → s.Reaches req 0x800010 →
    paramOk (s.get (F.OUT_CFG.KIND n)) (s.get (F.OUT_DIV.DIV n)) (value % 2 ^ 32) = true →
    ∃ t, exec (.outRegridWrite req n 1 value) s = .next t ∧ t.get (F.OUT_PARAM.PARAM n) = value % 2 ^ 32) ∧
  (∀ (s : State) (req : Requester) (n value : Nat), StateShape s → n < 12 → s.Reaches req 0x800014 →
    ∃ t, exec (.outRegridWrite req n 2 value) s = .next t ∧ t.get (F.OUT_PHASE.PHASE n) = value % 2 ^ 32 ∧ MemorySame s t)

/-- Calibration and alignment of outputs: RECAL makes the next dwell a first one; a first dwell sets CALOK, a later one moves TRIM by at most two
crumbs or, beyond 48 crumbs, ends CALOK with CALERR; a line start arms the output's target, and one too late for its launch sets LATE. Rules: R289,
R295. -/
def Obligations.OutputCalibrationAndAlignment : Prop :=
  (∀ (s : State) (req : Requester) (n : Nat), StateShape s → n < 12 → s.Reaches req 0x800024 →
    ∃ t, exec (.outRecal req n) s = .next t ∧ (t.ou n).first = true ∧ RegsBut [F.XBR_TSTAT.OWNER 6] s t ∧ MemorySame s t) ∧
  (∀ (s : State) (n began ch : Nat) (lams : List Int), StateShape s → n < 12 → s.bit (F.OUT_CFG.EN n) = true → s.loopbackOf n = some ch →
    let b := s.settleOut n
    let l := (b.loopErrors n ch lams).1
    let mean : Rat := ((l.foldl (· + ·) 0 : Int) : Rat) / (l.length : Nat)
    l ≠ [] → (b.ou n).since ≤ began →
    ∃ t, exec (.loopbackDwellEnd n began lams) s = .next t ∧ (t.getI (F.OUT_CAL.ERR n) = max (-32768) (min 32767 (roundAway mean))) ∧
      ((b.ou n).first = true → t.bit (F.OUT_CAL.CALOK n) = true ∧ (t.ou n).first = false) ∧
      ((b.ou n).first = false → 48 < absR mean → t.bit (F.OUT_CAL.CALOK n) = false ∧ t.bit (F.OUT_STAT.CALERR n) = true ∧
        (t.ou n).first = true ∧ t.getI (F.OUT_CAL.TRIM n) = s.getI (F.OUT_CAL.TRIM n)) ∧
      ((b.ou n).first = false → ¬ 48 < absR mean → t.getI (F.OUT_CAL.TRIM n) =
        max (-1024) (min 1023 (s.getI (F.OUT_CAL.TRIM n) + max (-2) (min 2 (roundAway mean)))))) ∧
  (∀ (s : State) (n k at16 d : Nat), StateShape s → n < 12 → s.get (F.OUT_ALCFG.MODE n) ≠ 0 → s.bit (F.OUT_CFG.EN n) = true →
    s.bit (F.REF_STAT.PRESENT (s.get (F.OUT_ALCFG.CH n))) = true → s.tdcOf (s.get (F.OUT_ALCFG.CH n)) = some k →
    (∃ p ∈ (s.td k).stamps, p.1 = at16 ∧ p.2 + (if s.bit (F.OUT_ALCFG.HELD n) then 20000 else 0) ≤ s.raw) →
    let c := s.get (F.OUT_ALCFG.CH n)
    let stamp := ((crumbOf at16 : Int) - s.boardDelay c - s.getI (F.REF_DLY.DLY c)).toNat
    let launch := s.hrt.cur.rawOf 1 ((d + s.get (F.OUT_ALOFF.ALOFF n) * 65536 : Nat) : Rat) - s.get (F.OUT_DELAY.DELAY n) - s.launchCal n
    let b := s.settleOut n
    (s.pairAt stamp).dtime stamp = some d → (b.ou n).lastSet = none →
    ∃ t, exec (.lineStartEdge n at16) s = .next t ∧ RegsOutside [8, 0x11] s t ∧ MemorySame s t ∧
      (launch ≤ s.now → t.bit (F.OUT_STAT.LATE n) = true) ∧
      ((s.now : Int) < launch → b.unitState (s.get (F.OUT_CFG.SYN n)) = 2 → (b.ou n).released = true →
        (t.ou n).target = some (d + s.get (F.OUT_ALOFF.ALOFF n) * 65536, launch) ∧ (t.ou n).lastSet = some d ∧
        t.bit (F.OUT_STAT.ARMED n) = true))

/-! The network ports (spec/11_ports.md). -/

/-- Frames at a port: a received frame is stamped and classified, into the pipeline of the entry it hits or, with no entry and no default, nowhere;
an appointed frame on the wire and an admitted waiting frame are sent. The link: block lock brings it up with LINKUP and starts verification and the
latency measurement, whose end sets LATOK and clears NOLAT's count; LATCAL measures again; the link's end clears LATOK and VERIFY with LINKDN.
Rules: R308, R310, R311, R317. -/
def Obligations.FramesAndLinks : Prop :=
  ((∀ (s : State) (n edge b : Nat) (preempt : Bool) (bytes : List Byte) (e : Nat × List Byte), StateShape s → n < 4 →
      s.bit (F.PRT_STAT.LINK n) = true → bytes.length + 4 ≤ 9216 →
      let r := s.makeRec (n + 1) n (s.rxStamp n edge b) (s.portErrb n)
        (s.isleFlags (n + 1) (s.bit (F.PRT_STAT.LATOK n)) + if preempt then 16 else 0) 0
      let p := byteAt e.2 65
      (s.clsFor r).1.find? (fun e => entryHits (clsKey n bytes) e.2) = some e → byteAt e.2 64 = 1 → p < s.pke.pipes.length →
      s.bit F.PKE_CTRL.DRAIN = false → ¬ ((s.pipeSvc p = 1 ∨ s.pipeSvc p = 2) ∧ 1536 < bytes.length + 4) →
      (s.pke.pipes.getD p []).length < 512 →
      ∃ t i, exec (.frameReceived n edge b preempt bytes) s = .next t ∧ t.pke.pipes.getD p [] = s.pke.pipes.getD p [] ++ [i] ∧
        i.frame = bytes ∧ i.recd = r ∧ lookup e.1 t.pke.hits = some (((lookup e.1 s.pke.hits).getD 0 + 1) % 2 ^ 32) ∧
        (s.bit (F.PRT_STAT.LATOK n) = false → t.get (F.PRT_CNT.NOLAT n) = min 65535 (s.get (F.PRT_CNT.NOLAT n) + 1)) ∧
        RegsOutside [9, 0xB, 0x11, 0x12] s t ∧ MemorySame s t) ∧
    (∀ (s : State) (n edge b : Nat) (preempt : Bool) (bytes : List Byte), n < 4 → s.bit (F.PRT_STAT.LINK n) = true → bytes.length + 4 ≤ 9216 →
      let r := s.makeRec (n + 1) n (s.rxStamp n edge b) (s.portErrb n)
        (s.isleFlags (n + 1) (s.bit (F.PRT_STAT.LATOK n)) + if preempt then 16 else 0) 0
      (s.clsFor r).1.find? (fun e => entryHits (clsKey n bytes) e.2) = none → (s.clsFor r).2 = 0xFFFF →
      ∃ t, exec (.frameReceived n edge b preempt bytes) s = .next t ∧ t.pke = s.pke ∧ t.port = (s.hearFrag n bytes).port ∧
        RegsOutside [9, 0x11, 0x12] s t ∧ MemorySame s t) ∧
    (∀ (s : State) (n edge b : Nat) (w : Wire), StateShape s → n < 4 → (s.pt n).wire = some w → w.complete = false → s.canSend n = true →
      s.supply.on = true →
      ∃ t, exec (.frameTransmitted n none edge b) s = .next t ∧ Emission.frame n w.frame.bytes ∈ t.out ∧
        (w.appointed = true → t.get (F.APD_SENT.SENT n) = (s.get (F.APD_SENT.SENT n) + 1) % 2 ^ 64)) ∧
    (∀ (s : State) (n i edge b : Nat) (f : TxFrame), StateShape s → n < 4 → (s.pt n).waiting[i]? = some f → s.admits n f = true →
      s.supply.on = true →
      ∃ t, exec (.frameTransmitted n (some i) edge b) s = .next t ∧ Emission.frame n f.bytes ∈ t.out ∧
        t.get (F.APD_SENT.SENT n) = s.get (F.APD_SENT.SENT n))) ∧
  ((∀ (s : State) (n : Nat), StateShape s → n < 4 → s.get (F.PRT_STAT.MODE n) ≠ 0 → s.bit (F.PRT_CTRL.ADMIN n) = true →
      (s.get F.PNL_SFP.ABS).testBit n = false → (s.get F.PNL_SFP.LOS).testBit n = false → s.bit (F.PRT_STAT.LINK n) = false →
      ∃ t, exec (.blockLock n) s = .next t ∧ t.bit (F.PRT_STAT.LINK n) = true ∧ t.bit (F.PRT_STAT.LINKUP n) = true ∧ (t.pt n).latRun = true ∧
        t.get (F.PRT_STAT.VERIFY n) = (if s.bit (F.PRT_STAT.PREEMPT n) && (s.get (F.PRT_STAT.MODE n) == 1 || s.get (F.PRT_STAT.MODE n) == 2)
          then 1 else 0) ∧ MemorySame s t) ∧
    (∀ (s : State) (n rx tx : Nat), StateShape s → n < 4 → (s.pt n).latRun = true →
      ∃ t, exec (.latencyMeasured n rx tx) s = .next t ∧ t.get (F.PRT_LAT.RXLAT n) = rx % 65536 ∧ t.get (F.PRT_LAT.TXLAT n) = tx % 65536 ∧
        t.bit (F.PRT_STAT.LATOK n) = true ∧ t.bit (F.PRT_CTRL.LATCAL n) = false ∧ t.get (F.PRT_CNT.NOLAT n) = 0 ∧ (t.pt n).latRun = false ∧
        RegsOutside [9] s t ∧ MemorySame s t) ∧
    (∀ (s : State) (req : Requester) (n : Nat), StateShape s → n < 4 → s.Serves req (0x900000 + 0x100 * n) →
      s.bit (F.PRT_CTRL.LATCAL n) = false → s.bit (F.PRT_STAT.LINK n) = true →
      ∃ t, exec (.prtLatcal req n) s = .next t ∧ t.bit (F.PRT_STAT.LATOK n) = false ∧ t.bit (F.PRT_CTRL.LATCAL n) = true ∧
        (t.pt n).latRun = true ∧ RegsOutside [9, 0x10] s t ∧ MemorySame s t) ∧
    (∀ (s : State) (n : Nat) (cut : Option (Option Nat × Nat × Nat)), n < 4 → s.bit (F.PRT_STAT.LINK n) = true →
      ∃ t, exec (.linkDown n cut) s = .next t ∧ t.bit (F.PRT_STAT.LINK n) = false ∧ t.bit (F.PRT_STAT.LATOK n) = false ∧
        t.get (F.PRT_STAT.VERIFY n) = 0 ∧ t.bit (F.PRT_STAT.LINKDN n) = true))

/-- Pauses and preemption: an honoured pause lasts its quanta of 512 MAC bit times from now, one of no quanta ends the pause, a pause that has run
out is over, and verification's end shows its outcome. ESMC, MG0 and the transceivers: an ESMC message shows the level it advertises and waits for a
gap; a frame at MG0 is stamped by replica 5 with COARSE and 5 µs of bound; MG0's link shows its speed; a transceiver's absence stops its laser, and
its absence or loss of signal ends the link. Rules: R301, R305, R315, R316, R338, R548. -/
def Obligations.PausesAndTransceivers : Prop :=
  ((∀ (s : State) (n quanta : Nat), StateShape s → n < 4 → s.bit (F.PRT_CTRL.RXPAUSE n) = true → s.bit (F.PRT_STAT.LINK n) = true →
      quanta % 65536 ≠ 0 →
      ∃ t, exec (.pauseFrame n quanta) s = .next t ∧ (t.pt n).pause =
        some (s.replica (n + 1) + (ceilR ((quanta % 65536 * 64 : Nat) * byteCrumbs (s.get (F.PRT_STAT.MODE n)))).toNat)) ∧
    (∀ (s : State) (n quanta : Nat), StateShape s → n < 4 → s.bit (F.PRT_CTRL.RXPAUSE n) = true → s.bit (F.PRT_STAT.LINK n) = true →
      quanta % 65536 = 0 →
      ∃ t, exec (.pauseFrame n quanta) s = .next t ∧ (t.pt n).pause = none ∧ RegsOutside [] s t ∧ MemorySame s t) ∧
    (∀ (s : State) (n u : Nat), StateShape s → n < 4 → (s.pt n).pause = some u → u ≤ s.replica (n + 1) →
      ∃ t, exec (.pauseEnd n) s = .next t ∧ (t.pt n).pause = none ∧ RegsOutside [] s t ∧ MemorySame s t) ∧
    (∀ (s : State) (n : Nat), n < 4 → s.get (F.PRT_STAT.VERIFY n) = 1 →
      ∃ t, exec (.preemptVerifyDone n true) s = .next t ∧ t.get (F.PRT_STAT.VERIFY n) = 2 ∧ RegsBut [F.PRT_STAT.VERIFY n] s t ∧ RegsOnly s t) ∧
    (∀ (s : State) (n : Nat), n < 4 → s.get (F.PRT_STAT.VERIFY n) = 1 →
      ∃ t, exec (.preemptVerifyDone n false) s = .next t ∧ t.get (F.PRT_STAT.VERIFY n) = 3)) ∧
  ((∀ (s : State) (n : Nat) (event : Bool), StateShape s → n < 4 → s.bit (F.PRT_ESMC.TXEN n) = true → s.canSend n = true →
      event = false ∨ (s.pt n).esmc ≠ some (s.esmcLevel n) →
      ∃ t f, exec (.esmcInfoSend n event) s = .next t ∧ t.get (F.PRT_ESMC.SSSM n) = (s.esmcLevel n).1 % 16 ∧
        (t.pt n).esmc = some (s.esmcLevel n) ∧ (t.pt n).waiting = (s.pt n).waiting ++ [f] ∧
        f.bytes = esmcFrame n event (s.bit (F.PRT_ESMC.EXT n)) (s.esmcLevel n).1 (s.esmcLevel n).2 ∧
        RegsBut [F.PRT_ESMC.SSSM n, F.PRT_ESMC.SESSM n] s t ∧ MemorySame s t) ∧
    (∀ s : State, ∃ t, exec .mg0RxInterrupt s = .next t ∧ t.pke.mgRec.flags.testBit 6 = true ∧
      t.pke.mgRec.errb = errbSum [if (s.isle 5).lost then unbounded else (s.isle 5).errb, 5000000] ∧
      (s.bit (F.HRT_TB_ROUTE.VALID 5) = true → t.pke.mgRec.raw = s.replica 5) ∧ RegsOutside [] s t ∧ MemorySame s t) ∧
    (∀ (s : State) (speed : Nat), speed < 3 → speed = 0 ∨ s.bit F.PRT_MG_CTRL.ADMIN = true →
      ∃ t, exec (.mg0LinkChange speed) s = .next t ∧ t.get F.PRT_MG_STAT.SPEED = speed ∧
        (s.get F.PRT_MG_STAT.SPEED = 0 → speed ≠ 0 → t.bit F.PRT_MG_STAT.LINKUP = true) ∧
        (s.get F.PRT_MG_STAT.SPEED ≠ 0 → speed = 0 → t.bit F.PRT_MG_STAT.LINKDN = true) ∧
        RegsBut [F.PRT_MG_STAT.SPEED, F.PRT_MG_STAT.LINKUP, F.PRT_MG_STAT.LINKDN] s t ∧ MemorySame s t) ∧
    (∀ (s : State) (n : Nat) (high : Bool), n < 4 → (s.get F.PNL_SFP.ABS).testBit n ≠ high →
      ∃ t, exec (.sfpAbsChange n high) s = .next t ∧ (t.get F.PNL_SFP.ABS).testBit n = high ∧ (t.get F.PNL_SFP.ABSCHG).testBit n = true ∧
        (high = true → (t.get F.PNL_SFP.TXDIS).testBit n = true ∧ t.bit (F.PRT_STAT.LINK n) = false)) ∧
    (∀ (s : State) (n : Nat) (los : Bool), n < 4 →
      ∃ t, exec (.sfpLos n los) s = .next t ∧ (t.get F.PNL_SFP.LOS).testBit n = los ∧ (los = true → t.bit (F.PRT_STAT.LINK n) = false) ∧
        (los = false → RegsBut [F.PNL_SFP.LOS] s t ∧ RegsOnly s t)))

/-- Asymmetry calibration: it starts with the port's enabled PTP channel, or fails at once with its cause; at its window's end it moves ASYM by the
mean and shows the uncertainty, or fails with cause 8 below ten evaluations. Rules: R314. -/
def Obligations.AsymmetryCalibration : Prop :=
  (∀ (s : State) (req : Requester) (n : Nat), StateShape s → n < 4 → s.Serves req (0x900000 + 0x100 * n) → (s.pt n).acal = none →
    s.ptpChannelOf n = none →
    ∃ t, exec (.prtAsymcal req n) s = .next t ∧ t.bit (F.PRT_STAT.ACFAIL n) = true ∧ t.get (F.PRT_STAT.ACWHY n) = 1 ∧
      t.bit (F.PRT_CTRL.ASYMCAL n) = false) ∧
  (∀ (s : State) (req : Requester) (n c : Nat), StateShape s → n < 4 → s.Serves req (0x900000 + 0x100 * n) → (s.pt n).acal = none →
    s.ptpChannelOf n = some c → s.acalWhy c = 0 → s.get (F.REF_UKIND.UKIND c) ≠ unbounded → s.bit (F.PRT_STAT.LINK n) = true →
    ∃ t k, exec (.prtAsymcal req n) s = .next t ∧ (t.pt n).acal = some k ∧ k.start = s.raw ∧ k.chan = c ∧ k.n = 0 ∧
      RegsBut [F.XBR_TSTAT.OWNER 6, F.PRT_CTRL.ASYMCAL n] s t ∧ t.bit (F.PRT_CTRL.ASYMCAL n) = true ∧ MemorySame s t) ∧
  (∀ (s : State) (n : Nat) (k : AsymCal), StateShape s → n < 4 → (s.pt n).acal = some k →
    k.start + s.get (F.PRT_ACAL.SEC n) * 625000000 ≤ s.raw → 10 ≤ k.n → k.ukind ≠ unbounded →
    ∃ t, exec (.asymcalWindowEnd n) s = .next t ∧ (t.pt n).acal = none ∧ t.bit (F.PRT_CTRL.ASYMCAL n) = false ∧
      t.bit (F.PRT_STAT.ACDONE n) = true ∧ t.getI (F.PRT_ASYM.ASYM n) =
        max (-2147483648) (min 2147483647 (s.getI (F.PRT_ASYM.ASYM n) - roundAway (k.sum / k.n / crumbPs))) ∧
      RegsOutside [9, 0x11] s t ∧ MemorySame s t) ∧
  (∀ (s : State) (n : Nat) (k : AsymCal), StateShape s → n < 4 → (s.pt n).acal = some k →
    k.start + s.get (F.PRT_ACAL.SEC n) * 625000000 ≤ s.raw → k.n < 10 →
    ∃ t, exec (.asymcalWindowEnd n) s = .next t ∧ (t.pt n).acal = none ∧ t.bit (F.PRT_STAT.ACFAIL n) = true ∧
      t.get (F.PRT_STAT.ACWHY n) = 8 ∧ t.getI (F.PRT_ASYM.ASYM n) = s.getI (F.PRT_ASYM.ASYM n))

/-! Appointed departure (spec/12_departure.md). -/

/-- The appointment of a message: a grant makes a reservation at the first start edge that suits, with its deadline, and counts at once if the
message is committed; a port that cannot serve collapses it; its arrival records the margin, in time or after the deadline with a collapse; at its
start edge it is released onto the wire, or collapses with the cause that keeps the gate from it. Rules: R322, R324, R325. -/
def Obligations.Appointments : Prop :=
  (∀ (s : State) (id e : Nat) (cut : Bool) (starts : List Nat) (x : Ctx), StateShape s → s.ctx? id = some x → x.id = id → x.port < 4 →
    x.appoints = true → x.granted = false → s.portCause x.port = 0 →
    let n := x.port
    let limit := x.t0 + s.get F.APD_SLIP.SLIP * nsCrumbs
    let occ := occupation (s.get (F.PRT_STAT.MODE n)) x.len
    let c := s.crossing n e
    ¬ (limit < s.crossing n ((s.pt n).pause.getD 0) ∧ (s.pt n).pause.getD 0 ≠ 0) → (s.pt n).cal.length < 64 →
    s.firstFit n x.t0 limit occ starts = some (e, cut) →
    ¬ (1 ≤ x.kind ∧ x.kind ≤ 5 ∧ s.bit F.NTS_CFG.UNSYNC = false ∧
      s.leapInd (s.errbW n) (((s.islePair (n + 1) c).bind (fun p => p.dtime c)).getD 0) = 3) →
    ∃ t, exec (.reservation id starts) s = .next t ∧
      t.get (F.APD_APPT.APPT n) = (if x.committed then (s.get (F.APD_APPT.APPT n) + 1) % 2 ^ 64 else s.get (F.APD_APPT.APPT n)) ∧
      ∃ r ∈ (t.pt n).cal, r.ctx = id ∧ r.e = e ∧ r.c = c ∧ r.occ = occ ∧ r.deadline = e - gPipe (s.get (F.PRT_STAT.MODE n)) ∧
        r.errbW = s.errbW n ∧ r.cut = cut) ∧
  (∀ (s : State) (id : Nat) (starts : List Nat) (x : Ctx), StateShape s → s.ctx? id = some x → x.id = id → x.port < 4 →
    x.appoints = true → x.granted = false → s.portCause x.port ≠ 0 →
    ∃ t, exec (.reservation id starts) s = .next t ∧ t.bit (F.APD_PSTAT.COLLAPSED x.port) = true ∧ ∀ r ∈ (t.pt x.port).cal, r.ctx ≠ id) ∧
  (∀ (s : State) (id : Nat) (x : Ctx) (r : Resv), StateShape s → s.ctx? id = some x → x.port < 4 → x.granted = true →
    x.sealed_ = true → x.committed = true → x.appoints = true → (s.pt x.port).cal.find? (fun r => r.ctx == id) = some r →
    let now := s.replica (x.port + 1)
    (now ≤ r.deadline → ∃ t, exec (.sealedMessageArrival id) s = .next t ∧
      (∀ q ∈ (t.pt x.port).cal, q.ctx = id → q.arrived = some now) ∧
      t.getI (F.APD_MARGIN.LAST x.port) = max (-32768) (min 32767 (marginOf r.deadline now)) ∧
      RegsBut [F.APD_MARGIN.LAST x.port, F.APD_MARGIN.MIN x.port] s t ∧ MemorySame s t) ∧
    (r.deadline < now → ∃ t, exec (.sealedMessageArrival id) s = .next t ∧ t.bit (F.APD_PSTAT.COLLAPSED x.port) = true ∧
      ∀ q ∈ (t.pt x.port).cal, q.ctx ≠ id)) ∧
  (∀ (s : State) (n : Nat) (r : Resv) (x : Ctx), StateShape s → n < 4 → (s.pt n).cal.head? = some r → r.e ≤ s.replica (n + 1) →
    s.releaseCause n r = 0 → s.ctx? r.ctx = some x →
    ∃ t w, exec (.departureRelease n) s = .next t ∧ (t.pt n).wire = some w ∧ w.frame.bytes = x.frameOut ∧ w.appointed = true ∧
      w.start = r.e ∧ w.stop = r.e + r.occ ∧ (∀ q ∈ (t.pt n).cal, q.ctx ≠ r.ctx) ∧
      RegsBut [F.APD_PSTAT.PEND n, F.APD_PSTAT.HOLD n] s t ∧ MemorySame s t) ∧
  (∀ (s : State) (n : Nat) (r : Resv), StateShape s → n < 4 → (s.pt n).cal.head? = some r → r.e ≤ s.replica (n + 1) →
    s.releaseCause n r ≠ 0 →
    ∃ t, exec (.departureRelease n) s = .next t ∧ t.bit (F.APD_PSTAT.COLLAPSED n) = true ∧ ∀ q ∈ (t.pt n).cal, q.ctx ≠ r.ctx)

/-- A commit record is applied whole or not at all: with every condition of its effects met the context is committed and counted; else the request
is abandoned, and an engine's request counts as an abort. CLRCNT clears a port's departure counters, CLRMARG restarts its least margin. Rules: R325,
R341, R357. -/
def Obligations.CommitsAndDepartureCounters : Prop :=
  (∀ (s : State) (id : Nat) (x : Ctx), s.ctx? id = some x → x.id = id → x.kind ≠ 0 → x.sealed_ = true → x.ops = 0 → x.committed = false →
    x.appoints = false ∨ x.granted = true →
    (x.effs.all s.effOk = true → ∃ t, exec (.commitRecord id) s = .next t ∧ (∀ y, t.ctx? id = some y → y.committed = true) ∧
      t.get F.APD_SPEC_COMMIT.COMMIT = (if x.engine < 16 then (s.get F.APD_SPEC_COMMIT.COMMIT + 1) % 2 ^ 64 else s.get F.APD_SPEC_COMMIT.COMMIT)) ∧
    (x.effs.all s.effOk = false → ∃ t, exec (.commitRecord id) s = .next t ∧ t.ctx? id = none ∧ t.ptp = s.ptp ∧ t.nts = s.nts ∧
      t.get F.APD_SPEC_ABORT.ABORT = (if x.engine < 16 then (s.get F.APD_SPEC_ABORT.ABORT + 1) % 2 ^ 64 else s.get F.APD_SPEC_ABORT.ABORT))) ∧
  (∀ (s : State) (req : Requester) (n : Nat), n < 4 → s.Serves req (0xA00104 + 0x100 * n) →
    ∃ t, exec (.apdClrcnt req n) s = .next t ∧ (∀ f ∈ apdCounters n, t.get f = 0) ∧
      RegsBut (F.XBR_TSTAT.OWNER 6 :: apdCounters n) s t ∧ RegsOnly s t) ∧
  (∀ (s : State) (req : Requester) (n : Nat), n < 4 → s.Serves req (0xA00104 + 0x100 * n) →
    ∃ t, exec (.apdClrmarg req n) s = .next t ∧ t.getI (F.APD_MARGIN.MIN n) = 32767 ∧
      RegsBut [F.XBR_TSTAT.OWNER 6, F.APD_MARGIN.MIN n] s t ∧ RegsOnly s t)

/-! The packet engines (spec/13_engines.md). -/

/-- Engines and lanes: stage 0 takes the oldest frame of its queue into a context, a later stage the oldest request of the stage before; an engine's
fault halts it and ends its contexts, a reload lets it run again; a free lane takes the operation granted next and gives its result when its time
has passed. Rules: R345, R355, R356, R370. -/
def Obligations.EnginesAndLanes : Prop :=
  (∀ (s : State) (p k : Nat) (i : InFrame) (rest : List InFrame), p < 8 → s.nextEngine p 0 = some k → s.pke.pipes.getD p [] = i :: rest →
    s.pipeSvc p = 1 ∨ s.pipeSvc p = 2 →
    ∃ t, exec (.pipelineDequeue p 0) s = .next t ∧ t.pke.pipes.getD p [] = rest ∧
      (∃ x ∈ t.pke.ctxs, x.engine = k ∧ x.pipe = p ∧ x.service = s.pipeSvc p ∧ x.frame = i.frame ∧ x.recd = i.recd) ∧
      t.get F.APD_SPEC_IN.IN = (s.get F.APD_SPEC_IN.IN + 1) % 2 ^ 64) ∧
  (∀ (s : State) (p st k : Nat) (x : Ctx), p < 8 → 1 ≤ st → st < 4 → s.nextEngine p st = some k →
    s.pke.ctxs.find? (fun x => x.pipe == p && x.stage + 1 == st && decide (x.engine < 16)) = some x →
    ∃ t, exec (.pipelineDequeue p st) s = .next t ∧ (∃ y ∈ t.pke.ctxs, y.id = x.id ∧ y.engine = k ∧ y.stage = st ∧ y.frame = x.frame) ∧
      t.pke.pipes = s.pke.pipes ∧ MemorySame s t) ∧
  (∀ (s : State) (k : Nat), k < 16 → s.bit (F.PKE_ENG.RUN k) = true →
    ∃ t, exec (.engineFault k false) s = .next t ∧ t.bit (F.PKE_ENG.FAULT k) = true ∧ t.bit (F.PKE_ENG.RUN k) = false ∧
      t.bit F.PKE_STAT.ENGFLT = true ∧ ∀ y ∈ t.pke.ctxs, y.engine ≠ k) ∧
  (∀ (s : State) (k : Nat), k < 16 → s.bit (F.PKE_ENG.FAULT k) = true →
    ∃ t, exec (.engineFault k true) s = .next t ∧ t.bit (F.PKE_ENG.FAULT k) = false ∧ t.bit (F.PKE_ENG.RUN k) = true ∧
      RegsBut [F.PKE_ENG.FAULT k, F.PKE_ENG.RUN k] s t ∧ RegsOnly s t) ∧
  (∀ (s : State) (hmac : Bool) (o : LaneOp) (j : Nat), nextOp hmac s.pke.laneQ = some o → j < s.pke.lanes.length →
    (if hmac then [8, 9, 10, 11] else List.range 8).find? (fun j => (s.pke.lanes.getD j {}).op.isNone) = some j →
    ∃ t, exec (.laneGrant hmac) s = .next t ∧ (t.pke.lanes.getD j {}).op = some (o, s.raw) ∧ t.pke.laneQ = s.pke.laneQ.erase o ∧
      (t.pke.lanes.getD j {}).refused = (match o.slot with | none => false | some n => s.slotRefuses n [o.use] != 0) ∧ MemorySame s t) ∧
  (∀ (s : State) (j t0 : Nat) (bad : Bool) (o : LaneOp), j < 12 → (s.pke.lanes.getD j {}).op = some (o, t0) → o.slot = none →
    (s.pke.lanes.getD j {}).refused = false → laneTime o true ≤ (s.raw - t0) * 16 →
    ∃ t, exec (.laneResult j bad) s = .next t ∧ (t.pke.lanes.getD j {}).op = none ∧
      (o.isSeal = true → ∀ y, t.ctx? o.ctx = some y → y.sealed_ = true))

/-- Draining: DRAIN abandons what has not committed and shows DRAINED once no context is held, and cleared it admits again; PKE_PCNT_CLR clears a
pipeline's counters. The classifier's single entry: a correct WRITE puts the window into the shadow bank and chooses the swap's tick; READ loads the
entry in force; at the tick the banks swap. Rules: R346, R352, R353, R368. -/
def Obligations.DrainingAndClassifier : Prop :=
  ((∀ (s : State) (req : Requester) (data : Nat), s.Serves req 0xB00000 → data.testBit 0 = true → s.bit F.PKE_CTRL.DRAIN = false →
      ∃ t, exec (.pkeDrainWrite req data) s = .next t ∧ t.bit F.PKE_CTRL.DRAIN = true ∧ (∀ x ∈ t.pke.ctxs, x.committed = true) ∧
        t.bit F.PKE_STAT.DRAINED = t.pke.ctxs.isEmpty) ∧
    (∀ (s : State) (req : Requester) (data : Nat), s.Serves req 0xB00000 → data.testBit 0 = false → s.isHeld 0x500 = false →
      ∃ t, exec (.pkeDrainWrite req data) s = .next t ∧ t.bit F.PKE_CTRL.DRAIN = false ∧ t.bit F.PKE_STAT.DRAINED = false ∧
        RegsBut [F.XBR_TSTAT.OWNER 6, F.PKE_CTRL.DRAIN, F.PKE_STAT.DRAINED] s t ∧ RegsOnly s t) ∧
    (∀ s : State, ∃ t, exec .drained s = .next t ∧ t.bit F.PKE_STAT.DRAINED = (s.bit F.PKE_CTRL.DRAIN && s.pke.ctxs.isEmpty) ∧
      RegsBut [F.PKE_STAT.DRAINED] s t ∧ RegsOnly s t) ∧
    (∀ (s : State) (req : Requester) (p : Nat), p < 8 → s.Serves req (0xB0020C + 0x10 * p) →
      ∃ t, exec (.pcntClr req p) s = .next t ∧ (∀ f ∈ pcntFields p, t.get f = 0) ∧
        RegsBut (F.XBR_TSTAT.OWNER 6 :: pcntFields p) s t ∧ RegsOnly s t)) ∧
  ((∀ (s : State) (req : Requester), s.Serves req 0xB00100 → s.bit F.PKE_CLS_CTRL.WRITE = false → s.reloading = false →
      s.entryOk (s.clsWindow req.idx) = true →
      ∃ t, exec (.clsWrite req) s = .next t ∧ t.bit F.PKE_CLS_CTRL.WRITE = true ∧ t.clsBank = s.clsBank ∧
        t.pke.swap = some (s.raw + s.get F.RCP_LEAD.LEAD, 1 - s.get F.PKE_CLS_STAT.BANK) ∧
        lookup (s.get (F.PKE_CLS_SEL.IDX req.idx)) (t.pke.bank (1 - s.get F.PKE_CLS_STAT.BANK)) = some (s.clsWindow req.idx) ∧
        RegsBut [F.XBR_TSTAT.OWNER 6, F.PKE_CLS_CTRL.WRITE] s t ∧ MemorySame s t) ∧
    (∀ (s : State) (req : Requester), s.Serves req 0xB00100 →
      ∃ t, exec (.clsRead req) s = .next t ∧ (∀ w < 18, t.get (F.PKE_CLS_WIN.WORD req.idx w) =
        leAt ((lookup (s.get (F.PKE_CLS_SEL.IDX req.idx)) s.clsBank).getD (List.replicate 72 0)) (4 * w) 4) ∧
        RegsBut (F.XBR_TSTAT.OWNER 6 :: (List.range 18).map (F.PKE_CLS_WIN.WORD req.idx)) s t ∧ RegsOnly s t) ∧
    (∀ (s : State) (t0 b : Nat), s.pke.swap = some (t0, b) → t0 ≤ s.raw →
      ∃ t, exec .clsBankSwap s = .next t ∧ t.get F.PKE_CLS_STAT.BANK = b % 2 ∧ t.pke.swap = none ∧ t.pke.swapAt = t0 ∧
        t.bit F.PKE_CLS_CTRL.WRITE = false ∧ RegsBut [F.PKE_CLS_STAT.BANK, F.PKE_CLS_CTRL.WRITE] s t ∧ MemorySame s t))

/-- Rings and queues: PROD moves within the ring; EN set starts the indices at 0, and cleared stops the ring; a write-back completes the descriptor
at CONS, with the data's length and type in it; a coalesced interrupt is signalled when its time has passed. Rules: R361, R362, R365, R366. -/
def Obligations.RingsAndQueues : Prop :=
  (∀ (s : State) (req : Requester) (r prod : Nat) (posted : List (List Byte × List Byte)), r < 144 → s.Serves req (0xB10010 + 0x20 * r) →
    (ringIdx prod + 131072 - s.get (F.PKE_RING_CONS.CONS r)) % 131072 ≤ 2 ^ s.ringK r →
    ∃ t, exec (.ringProdWrite req r prod posted) s = .next t ∧ t.get (F.PKE_RING_PROD.PROD r) = ringIdx prod) ∧
  (∀ (s : State) (req : Requester) (r data : Nat), r < 144 → s.Serves req (0xB10008 + 0x20 * r) → bitsOf data 0 4 ≤ 10 →
    bitsOf data 6 7 ≤ (if isQueue r then 31 else 95) → data.testBit 4 = true → s.bit (F.PKE_RING_CFG.EN r) = false →
    ∃ t, exec (.ringEnWrite req r data) s = .next t ∧ t.bit (F.PKE_RING_CFG.EN r) = true ∧ t.get (F.PKE_RING_PROD.PROD r) = 0 ∧
      t.get (F.PKE_RING_CONS.CONS r) = 0 ∧ t.get (F.PKE_RING_CFG.SIZE r) = bitsOf data 0 4 ∧ t.get (F.PKE_RING_CFG.VEC r) = bitsOf data 6 7 ∧
      RegsOutside [0xB, 0x10] s t ∧ MemorySame s t) ∧
  (∀ (s : State) (req : Requester) (r data : Nat), r < 144 → s.Serves req (0xB10008 + 0x20 * r) → bitsOf data 0 4 = s.get (F.PKE_RING_CFG.SIZE r) →
    bitsOf data 0 4 ≤ 10 → bitsOf data 6 7 ≤ (if isQueue r then 31 else 95) → data.testBit 4 = false → s.bit (F.PKE_RING_CFG.EN r) = true →
    ∃ t, exec (.ringEnWrite req r data) s = .next t ∧ t.bit (F.PKE_RING_CFG.EN r) = false ∧ RegsOutside [0xB, 0x10, 0x11] s t ∧ MemorySame s t) ∧
  (∀ (s : State) (r : Nat) (host : List Byte) (i : RingItem), r < 64 → s.supply.on = true → s.pke.ringQ.find? (fun i => i.ring == r) = some i →
    let cons := s.get (F.PKE_RING_CONS.CONS r)
    ∃ t b, exec (.descriptorWriteback r host) s = .next t ∧ Emission.dma (s.descAddr r cons) b ∈ t.out ∧ b.length = 32 ∧
      leAt b 10 2 = min (leAt host 8 2) i.data.length ∧ leAt b 12 1 = i.type % 256 ∧ leAt b 13 1 = i.src % 256 ∧
      Emission.dma (leAt host 0 8) (i.data.take (min (leAt host 8 2) i.data.length)) ∈ t.out ∧
      t.get (F.PKE_RING_CONS.CONS r) = (cons + 1) % 2 ^ 17 ∧ MemorySame s t) ∧
  (∀ (s : State) (r : Nat) (host : List Byte) (d : TxDone), 64 ≤ r → r < 128 → s.supply.on = true →
    s.pke.done.find? (fun t => t.ring == r && t.idx == s.get (F.PKE_RING_CONS.CONS r)) = some d →
    ∃ t b, exec (.descriptorWriteback r host) s = .next t ∧ Emission.dma (s.descAddr r (s.get (F.PKE_RING_CONS.CONS r))) b ∈ t.out ∧
      b.length = 32 ∧ leAt b 14 1 = d.status % 256 ∧ t.get (F.PKE_RING_CONS.CONS r) = (s.get (F.PKE_RING_CONS.CONS r) + 1) % 2 ^ 17 ∧
      MemorySame s t) ∧
  (∀ (s : State) (r n t0 : Nat), 128 ≤ r → r < 144 → s.supply.on = true → lookup r s.pke.coal = some (n, t0) →
    s.get (F.PKE_RING_CFG.COALT r) ≠ 0 → t0 + s.get (F.PKE_RING_CFG.COALT r) * 625 ≤ s.raw →
    ∃ t, exec (.ringCoalesceTimeout r) s = .next t ∧ lookup r t.pke.coal = none ∧
      Emission.supLine (s.get (F.PKE_RING_CFG.VEC r)) ∈ t.out ∧ RegsOutside [] s t ∧ MemorySame s t)

/-! NTP and NTS service (spec/14_nts.md). -/

/-- Requests: a request that passes its checks waits for its reservation with its target instant, length and effects; one that does not is abandoned
and its reason counted; on MG0 a plain request is answered at once with the coarse stamps, and a refused one counted. Rules: R372, R397. -/
def Obligations.NtsService : Prop :=
  (∀ (s : State) (id : Nat) (x y : Ctx), s.ctx? id = some x → x.service = 1 → x.kind = 0 →
    s.requestPlan { x with req := payloadOf x.frame, dest := replyHead x.frame (portMac x.port) } = .ok y → s.leapSpan y.recd y.off = false →
    ∃ t z, exec (.ntsRequest id) s = .next t ∧ t.ctx? id = some z ∧ z.kind = y.kind ∧ z.t0 = y.recd.raw + y.off * nsCrumbs ∧
      z.len = y.frame.length + 4 ∧ z.effs = y.effs ∧ z.port = y.port ∧ t.nts.drbg = s.nts.drbg + 1 ∧ MemorySame s t) ∧
  (∀ (s : State) (id r : Nat) (x : Ctx), s.ctx? id = some x → x.service = 1 → x.kind = 0 →
    s.requestPlan { x with req := payloadOf x.frame, dest := replyHead x.frame (portMac x.port) } = .error r →
    ∃ t, exec (.ntsRequest id) s = .next t ∧ t.ctx? id = none ∧ t.get (F.NTS_SPEC.CNT r) = (s.get (F.NTS_SPEC.CNT r) + 1) % 2 ^ 32 ∧
      t.nts = s.nts ∧ MemorySame s t) ∧
  (∀ (s : State) (frame : List Byte) (y : Ctx), s.supply.on = true → s.bit F.PRT_MG_CTRL.NTP = true → s.canSend 4 = true →
    let e := errbSum [if (s.isle 5).lost then unbounded else (s.isle 5).errb, 5000000]
    let t3 := ((s.islePair 5 (s.replica 5)).bind (fun p => p.dtime (s.replica 5))).getD 0
    s.requestPlan { id := 0, service := 1, frame := frame, recd := s.pke.mgRec, req := payloadOf frame, dest := replyHead frame (portMac 4), port := 4 } =
      .ok y → y.kind = 4 → s.bit F.NTS_CFG.UNSYNC = true ∨ s.leapInd e t3 ≠ 3 → y.effs.all s.effOk = true →
    ∃ t, exec (.mg0NtpRequest frame) s = .next t ∧
      Emission.frame 4 (sealFrame y.dest ((y.effs.foldl State.applyEff s).ntpBody { y with fresh := [] } e t3)) ∈ t.out ∧ MemorySame s t) ∧
  (∀ (s : State) (frame : List Byte) (r : Nat), s.bit F.PRT_MG_CTRL.NTP = true → s.canSend 4 = true →
    s.requestPlan { id := 0, service := 1, frame := frame, recd := s.pke.mgRec, req := payloadOf frame, dest := replyHead frame (portMac 4), port := 4 } =
      .error r →
    ∃ t, exec (.mg0NtpRequest frame) s = .next t ∧ t.get (F.NTS_SPEC.CNT r) = (s.get (F.NTS_SPEC.CNT r) + 1) % 2 ^ 32 ∧
      RegsBut [F.NTS_SPEC.CNT r] s t ∧ RegsOnly s t)

/-- Master keys: a rotation, by time or by the host's key, takes an empty position whose slots are defined and asks the vault for its derivation
with the next generation; at its switch the new position is CURRENT and the old one in grace, whose encryption slot retires 1 ms later and which is
empty after GRACE; RESEED starts an empty sketch under a fresh key. The rate sketch, the counters and NTS-KE: a sweep takes RATE_min from every
counter; the random source is reseeded after 2²⁰ requests; CLRCNT clears the counters; connections open up to MAXCONN, exchange cookies, and close
on an alert or after 10 s; an expiring certificate warns once. Rules: R379, R381, R382, R387, R391, R392, R395, R561. -/
def Obligations.NtsKeysAndKe : Prop :=
  ((∀ (s : State) (p : Nat), s.bit F.NTS_CFG.NTS = true → s.inStep = false → s.kstore.nextRot ≤ s.dsec → s.nts.rot = none → p < 4 →
      (s.npos p).state = 0 → s.posUsable p = true →
      ∃ t r, exec .keyRotation s = .next t ∧ t.nts.rot = some r ∧ (s.npos r.pos).state = 0 ∧ s.posUsable r.pos = true ∧
        (∀ c, s.currentPos = some c → r.gen = ((s.npos c).gen + 1) % 2 ^ 32) ∧ t.bit F.NTS_STAT.ROTBUSY = true ∧
        (∃ q ∈ t.kvt.queue, q.code = 8 ∧ q.pos = r.pos ∧ q.gen = r.gen ∧ q.slot = s.get (F.NTS_KPOS.ENCSLOT r.pos)) ∧
        RegsBut [F.NTS_STAT.ROTBUSY] s t ∧ MemorySame s t) ∧
    (∀ (s : State) (req : Requester) (p : Nat), s.Serves req 0xC00014 → s.nts.rot = none → p < 4 → (s.npos p).state = 0 → s.posUsable p = true →
      ∃ t r, exec (.ntsRotate req 0x9612) s = .next t ∧ t.nts.rot = some r ∧ (s.npos r.pos).state = 0 ∧ s.posUsable r.pos = true ∧
        t.bit F.NTS_ROTCTRL.ROTATE = true ∧ (∃ q ∈ t.kvt.queue, q.code = 8 ∧ q.pos = r.pos ∧ q.gen = r.gen) ∧
        RegsBut [F.XBR_TSTAT.OWNER 6, F.NTS_STAT.ROTBUSY, F.NTS_ROTCTRL.ROTATE] s t ∧ MemorySame s t) ∧
    (∀ (s : State) (req : Requester), s.Serves req 0xC00014 →
      ∃ t, exec (.ntsReseed req 0x9612) s = .next t ∧ t.nts.sketch = [] ∧ t.nts.sketchKey = s.free ∧ t.free = s.free + 1 ∧
        RegsBut [F.XBR_TSTAT.OWNER 6] s t ∧ MemorySame s t) ∧
    (∀ (s : State) (req : Requester) (key : Nat), s.Serves req 0xC00014 → key % 65536 ≠ 0x9612 → s.bit F.XBR_AERR.AERR = false →
      ∀ c ∈ [Instr.ntsRotate req key, .ntsReseed req key], ∃ t, exec c s = .next t ∧ t.nts = s.nts ∧ t.get F.XBR_AERR.CAUSE = 6) ∧
    (∀ (s : State) (r : Rotation) (t0 : Nat), s.nts.rot = some r → r.switch = some t0 → t0 ≤ s.raw → r.pos < s.nts.pos.length →
      s.currentPos ≠ some r.pos → (∀ k ∈ s.pair.keys, s.dnow.getD 0 < k.2.2.2) →
      ∃ t, exec .rotationSwitch s = .next t ∧ (t.npos r.pos).state = 1 ∧ (t.npos r.pos).gen = r.gen ∧
        (∀ c, s.currentPos = some c → (t.npos c).state = 2) ∧ t.nts.rot = none ∧ t.nts.retire = s.currentPos.map (fun p => (p, t0 + 625000)) ∧
        t.bit F.NTS_STAT.ROTATED = true ∧ t.bit F.NTS_STAT.ROTBUSY = false ∧ t.get F.NTS_STAT.CUR = r.pos % 4 ∧
        RegsOutside [0xC, 0x11] s t ∧ MemorySame s t) ∧
    (∀ (s : State) (q t0 : Nat), s.nts.retire = some (q, t0) → t0 ≤ s.raw →
      ∃ t, exec .encslotRetire s = .next t ∧ t.nts.retire = none ∧ RegsOutside [] s t ∧ MemorySame s t) ∧
    (∀ (s : State) (p : Nat), p < 4 → (s.npos p).state = 2 → (s.npos p).since + s.get F.NTS_ROT.GRACE * 4 ≤ s.dsec →
      ∃ t, exec (.graceExpiry p) s = .next t ∧ (t.npos p).state = 0 ∧ (t.npos p).gen = (s.npos p).gen ∧ t.get (F.NTS_KPOS.STATE p) = 0 ∧
        MemorySame s t)) ∧
  ((∀ s : State, s.raw % 39062500 = 0 → (s.nts.sketch.map (·.1)).Nodup →
      ∃ t, exec .sketchSweep s = .next t ∧ (∀ i, t.level i = s.level i - s.rateMin) ∧ RegsOutside [] s t ∧ MemorySame s t) ∧
    (∀ s : State, 2 ^ 20 ≤ s.nts.drbg → ∃ t, exec .drbgReseed s = .next t ∧ t.nts.drbg = 0 ∧ t.nts.seed = s.free ∧ t.free = s.free + 1 ∧
      RegsOutside [] s t ∧ MemorySame s t) ∧
    (∀ (s : State) (req : Requester), s.Serves req 0xC00018 →
      ∃ t, exec (.ntsClrcnt req) s = .next t ∧ (∀ f ∈ ntsCounters, t.get f = 0) ∧
        RegsBut (F.XBR_TSTAT.OWNER 6 :: ntsCounters) s t ∧ RegsOnly s t) ∧
    (∀ (s : State) (c : Nat), lookup c s.nts.conns = none → s.nts.conns.length < s.get F.NTS_KE.MAXCONN →
      ∃ t, exec (.ntsKeConnection c .opened) s = .next t ∧ lookup c t.nts.conns = some s.raw ∧
        t.get F.NTS_KE_STAT.OPEN = (s.nts.conns.length + 1) % 2 ^ 15 ∧ RegsBut [F.NTS_KE_STAT.OPEN, F.NTS_KE_STAT.HS] s t ∧ MemorySame s t) ∧
    (∀ (s : State) (c : Nat), lookup c s.nts.conns = none → s.get F.NTS_KE.MAXCONN ≤ s.nts.conns.length → s.supply.on = true →
      ∃ t, exec (.ntsKeConnection c .opened) s = .next t ∧ Emission.keReset c ∈ t.out ∧ t.nts = s.nts ∧ RegsBut [] s t) ∧
    (∀ (s : State) (c t0 : Nat) (keys : List Byte) (ok : Bool), lookup c s.nts.conns = some t0 → s.slotRefuses (s.get F.NTS_KE.CERTSLOT) [0] = 0 →
      s.supply.on = true →
      ∃ t b, exec (.ntsKeConnection c (.exchange keys ok)) s = .next t ∧ Emission.ntsKe c b ∈ t.out ∧ lookup c t.nts.conns = none ∧
        (ok = false → b = []) ∧ RegsBut [F.NTS_KE_STAT.OPEN, F.NTS_KE_STAT.HS] s t) ∧
    (∀ (s : State) (c t0 : Nat), lookup c s.nts.conns = some t0 →
      ∃ t, exec (.ntsKeConnection c .alert) s = .next t ∧ lookup c t.nts.conns = none ∧
        t.get (F.EVT_COUNT.COUNT 47) = (s.get (F.EVT_COUNT.COUNT 47) + 1) % 2 ^ 32) ∧
    (∀ (s : State) (c t0 : Nat), lookup c s.nts.conns = some t0 → t0 + 6250000000 ≤ s.raw →
      ∃ t, exec (.ntsKeIdleTimeout c) s = .next t ∧ lookup c t.nts.conns = none ∧
        RegsBut [F.NTS_KE_STAT.OPEN, F.NTS_KE_STAT.HS] s t ∧ MemorySame s t) ∧
    (∀ (s : State) (seconds : Nat), seconds ≤ 2592000 → s.sys.keCertWarned = false →
      ∃ t, exec (.ntsKeCertExpiry seconds) s = .next t ∧ t.sys.keCertWarned = true ∧
        t.get (F.EVT_COUNT.COUNT 47) = (s.get (F.EVT_COUNT.COUNT 47) + 1) % 2 ^ 32 ∧ RegsBut [] s t ∧ MemorySame s t))

/-! PTP service (spec/15_ptp.md). -/

/-- PTP messages: a message that the checks refuse is abandoned and its reason counted; an Announce is remembered with its sender; a message whose
plan is a reply becomes that reply's context; streams, Delay_Req and grant requests are built with their sequence numbers. Rules: R401, R405, R418,
R478. -/
def Obligations.PtpMessages : Prop :=
  (∀ (s : State) (id r : Nat) (x : Ctx), s.ctx? id = some x → x.service = 2 → x.kind = 0 → x.engine < 16 →
    s.ptpRefuses { x with req := (payloadOf x.frame).take (ptpLen (payloadOf x.frame)) } (payloadOf x.frame) = some r →
    ∃ t, exec (.ptpMessage id) s = .next t ∧ t.ctx? id = none ∧ t.get (F.PTP_SPEC.CNT r) = (s.get (F.PTP_SPEC.CNT r) + 1) % 2 ^ 32 ∧
      t.ptp = s.ptp ∧ (r = 8 → t.bit F.PTP_STAT.AUTHFAIL = true) ∧ MemorySame s t) ∧
  (∀ (s : State) (id : Nat) (x : Ctx) (l : List (Nat × Nat × List Byte)), s.ctx? id = some x → x.service = 2 → x.kind = 0 → x.engine < 16 →
    let m := (payloadOf x.frame).take (ptpLen (payloadOf x.frame))
    s.ptpRefuses { x with req := m } (payloadOf x.frame) = none → tlvs m 64 (bodyLen (ptpType m)) = some l →
    (s.svcOf x.recd).authCheck m l (s.bit (F.PTP_PCFG.AUTHREQ x.port) || x.label.testBit 0) = .ok none → ptpType m = 0xB → s.peerOf x.port x.frame = none →
    ∃ t, exec (.ptpMessage id) s = .next t ∧ t.ctx? id = none ∧
      (∃ f ∈ t.ptp.foreign, f.port = x.port ∧ f.id = ptpSource m ∧ f.at_ = s.raw ∧ f.ds = sliceB m 47 14) ∧ MemorySame s t) ∧
  (∀ (s u : State) (id : Nat) (x z : Ctx) (l : List (Nat × Nat × List Byte)), s.ctx? id = some x → x.service = 2 → x.kind = 0 → x.engine < 16 →
    let m := (payloadOf x.frame).take (ptpLen (payloadOf x.frame))
    s.ptpRefuses { x with req := m } (payloadOf x.frame) = none → tlvs m 64 (bodyLen (ptpType m)) = some l →
    (s.svcOf x.recd).authCheck m l (s.bit (F.PTP_PCFG.AUTHREQ x.port) || x.label.testBit 0) = .ok none →
    (if (ptpType m == 1 && !isGroup x.frame) || ptpType m == 0xC then s.clusterEvent 9 0 else s).ptpPlan { x with req := m } none l = .reply u z →
    ∃ t w, exec (.ptpMessage id) s = .next t ∧ t.ctx? id = some w ∧ w.kind = z.kind ∧ w.effs = z.effs ∧ w.port = z.port ∧ w.dest = z.dest) ∧
  (∀ (s : State) (n mt : Nat), n < 4 → mt = 0 ∨ mt = 0xB → s.mayServe n mt = true → s.bit (F.PTP_PCFG.MCAST n) = true →
    let q := (if mt = 0 then s.ptp.syncs else s.ptp.anns).getD n {}
    q.next * 512 ≤ s.now + s.leadCrumbs →
    ∃ t y, exec (.streamBuild none n mt) s = .next t ∧ y ∈ t.pke.ctxs ∧ y.id = s.pke.nextCtx ∧ y.port = n ∧ y.t0 = q.next * 512 ∧
      y.kind = (if mt = 0 then (if s.bit F.PTP_CFG.ONESTEP then 7 else 9) else 10) ∧
      y.effs = [.advanceMc n mt, .ptpCount n (if mt = 0 then 0 else 1)] ∧ t.pke.nextCtx = s.pke.nextCtx + 1 ∧ MemorySame s t) ∧
  (∀ (s : State) (i n mt : Nat) (g : Grant), n < 4 → s.grant? i = some g → s.raw < g.expiry → g.mtype = 0 ∨ g.mtype = 0xB →
    s.mayServe g.port g.mtype = true → g.next * 512 ≤ s.now + s.leadCrumbs → g.auth = false →
    ∃ t y, exec (.streamBuild (some i) n mt) s = .next t ∧ y ∈ t.pke.ctxs ∧ y.id = s.pke.nextCtx ∧ y.port = g.port ∧ y.t0 = g.next * 512 ∧
      y.effs = [.advance i, .ptpCount g.port (if g.mtype = 0 then 0 else 1)]) ∧
  (∀ (s : State) (n : Nat) (pid : List Byte), s.ptp.parent = some (n, pid) → s.ptp.reqNext ≤ s.raw → s.canSend n = true → s.standby = false →
    ∃ t, exec (.delayReqSend none) s = .next t ∧ t.ptp.reqPend = some (s.ptp.reqSeq, none) ∧ t.ptp.reqSeq = (s.ptp.reqSeq + 1) % 65536 ∧
      t.pke.nextCtx = s.pke.nextCtx + 1 ∧ MemorySame s t) ∧
  (∀ (s : State) (k : Nat), k < 2048 → s.peerOn k = true → (s.peer k).reqNext ≤ s.raw → s.canSend (s.get (F.PEER_CFG.PORT k)) = true →
    ∃ t, exec (.delayReqSend (some k)) s = .next t ∧ (t.peer k).reqPend = some ((s.peer k).reqSeq, none) ∧
      (t.peer k).reqSeq = ((s.peer k).reqSeq + 1) % 65536 ∧ t.pke.nextCtx = s.pke.nextCtx + 1 ∧ MemorySame s t) ∧
  (∀ (s : State) (k : Nat), k < 2048 → s.peerOn k = true → s.canSend (s.get (F.PEER_CFG.PORT k)) = true →
    ∃ t, exec (.grantRequestSend k) s = .next t ∧ (t.peer k).sigSeq = ((s.peer k).sigSeq + 1) % 65536 ∧
      t.pke.nextCtx = s.pke.nextCtx + 1 ∧ t.free = s.free + 1 ∧ MemorySame s t)

/-- The clock's quality, its port states, its grants and its peers: an evaluation shows clockClass and gives disabled and down ports their states;
expired, invalidated and flushed grants leave the table, and READ shows an entry; a peer out of reach is LOST; the ensemble counts the reachable
peers and is unbounded with fewer than three. Rules: R406, R408, R413, R479, R480. -/
def Obligations.PtpClockGrantsAndPeers : Prop :=
  (∀ s : State, ∃ t, exec .bmcaEvaluation s = .next t ∧ t.get F.PTP_STAT.CLASS = s.ptpClass ∧ t.ptp.evalAt = s.raw ∧
    (∀ n < 4, s.bit (F.PTP_PCFG.EN n) = false → t.get (F.PTP_PSTAT.STATE n) = 3) ∧
    (∀ n < 4, s.bit (F.PTP_PCFG.EN n) = true → s.bit (F.PRT_STAT.LINK n) = false → t.get (F.PTP_PSTAT.STATE n) = 2) ∧ MemorySame s t) ∧
  (∀ (s : State) (i : Nat) (g : Grant), i < 65536 → s.grant? i = some g → g.expiry ≤ s.raw →
    ∃ t, exec (.grantExpiry i) s = .next t ∧ t.grant? i = none ∧ t.get F.PTP_GSTAT.VALID = t.ptp.grants.length % 2 ^ 17 ∧
      RegsBut [F.PTP_GSTAT.VALID, F.PAIR_JTX.TX] s t ∧ MemorySame s t) ∧
  (∀ (s : State) (req : Requester), s.Serves req 0xD0002C →
    ∃ t, exec (.ptpGread req) s = .next t ∧ (∀ w < 16, t.get (F.PTP_GWIN.WORD req.idx w) =
      leAt (((s.grant? (s.get (F.PTP_GSEL.IDX req.idx))).map Grant.bytes).getD (List.replicate 64 0)) (4 * w) 4) ∧
      RegsBut (F.XBR_TSTAT.OWNER 6 :: (List.range 16).map (F.PTP_GWIN.WORD req.idx)) s t ∧ RegsOnly s t) ∧
  (∀ (s : State) (req : Requester), s.Serves req 0xD0002C →
    ∃ t, exec (.ptpGinval req 0x9612) s = .next t ∧ t.grant? (s.get (F.PTP_GSEL.IDX req.idx)) = none ∧
      RegsBut [F.XBR_TSTAT.OWNER 6, F.PTP_GSTAT.VALID, F.PAIR_JTX.TX] s t ∧ MemorySame s t) ∧
  (∀ (s : State) (req : Requester), s.Serves req 0xD0002C → s.ptp.grants ≠ [] →
    ∃ t, exec (.ptpGflush req 0x9612) s = .next t ∧ t.ptp.grants = [] ∧ t.get F.PTP_GSTAT.VALID = 0 ∧
      RegsBut [F.XBR_TSTAT.OWNER 6, F.PTP_GSTAT.VALID, F.PAIR_JTX.TX] s t ∧ MemorySame s t) ∧
  (∀ (s : State) (req : Requester) (key : Nat), s.Serves req 0xD0002C → key % 65536 ≠ 0x9612 → s.bit F.XBR_AERR.AERR = false →
    ∀ c ∈ [Instr.ptpGinval req key, .ptpGflush req key], ∃ t, exec c s = .next t ∧ t.ptp = s.ptp ∧ t.get F.XBR_AERR.CAUSE = 6) ∧
  (∀ (s : State) (k : Nat), k < 2048 → (s.peer k).offsetAt + 4 * intervalTicks (s.peer k).logSync ≤ s.raw → s.bit (F.PEER_STAT.REACH k) = true →
    ∃ t, exec (.peerReachTimeout k) s = .next t ∧ t.bit (F.PEER_STAT.REACH k) = false ∧ t.bit (F.PEER_STAT.LOST k) = true ∧ MemorySame s t) ∧
  (∀ s : State, ∃ t, exec .ensembleUpdate s = .next t ∧
    (∀ g < 2, t.get (F.PAIR_ENS_N.N g) = (s.reachable g).length % 2 ^ 12 ∧
      ((s.reachable g).length < 3 → t.get (F.PAIR_ENS_U.U g) = 0xFFFFFFFF)) ∧ MemorySame s t)

/-! The key vault (spec/16_vault.md). -/

/-- What KVT_OP starts: an update waits in the queue while START reads 1, is BUSY where eight wait and ends with PFAIL once power has begun to fail;
EXPORT, SIGN and PUBKEY write their results to SRAM and end with RESULT 0, and a slot that refuses ends them with its reason. Rules: R427, R430,
R431, R433, R434, R437. -/
def Obligations.VaultOperations : Prop :=
  (∀ (s : State) (req : Requester) (data : Nat), s.Reaches req 0xE00010 → s.bit (F.KVT_OP.START req.idx) = false → s.bit F.KVT_STAT.PFAIL = false →
    s.kvt.queue.length < 8 →
    ∀ p ∈ [(1, Instr.kvtDerive req data), (2, .kvtInval req data), (3, .kvtImport req data), (5, .kvtAgree req data)],
      ∃ t r, exec p.2 s = .next t ∧ t.kvt.queue = s.kvt.queue ++ [r] ∧ r.by_ = req.idx ∧ r.code = p.1 ∧ r.slot = bitsOf data 8 8 ∧
        r.wslot = bitsOf data 16 8 ∧ r.tree = data.testBit 4 ∧ r.ctx = s.opCtx req.idx ∧ t.bit (F.KVT_OP.START req.idx) = true ∧
        t.nv = s.nv ∧ t.kvt.slots = s.kvt.slots ∧ MemorySame s t) ∧
  (∀ (s : State) (req : Requester) (data : Nat), s.Reaches req 0xE00010 → s.bit (F.KVT_OP.START req.idx) = false →
    s.bit F.KVT_STAT.PFAIL = true ∨ 8 ≤ s.kvt.queue.length →
    ∃ t, exec (.kvtDerive req data) s = .next t ∧ t.kvt = s.kvt ∧ t.bit (F.KVT_OP.START req.idx) = false ∧
      t.get (F.KVT_OPSTAT.RESULT req.idx) = (if s.bit F.KVT_STAT.PFAIL then 9 else 1)) ∧
  (∀ (s : State) (req : Requester) (data : Nat), s.Reaches req 0xE00010 → s.bit (F.KVT_OP.START req.idx) = false →
    s.bit F.KVT_STAT.DBG = false → 2 ≤ bitsOf data 8 8 → s.slotRefuses (bitsOf data 8 8) [0, 1, 3] = 0 →
    (s.slot (bitsOf data 16 8)).use = 2 → (s.slot (bitsOf data 16 8)).state = 2 → (s.slot (bitsOf data 16 8)).cert = true →
    ∃ t, exec (.kvtExport req data) s = .next t ∧ t.get (F.KVT_OPSTAT.RESULT req.idx) = 0 ∧ t.bit (F.KVT_OP.START req.idx) = false ∧
      t.sramRead (s.get (F.KVT_OPADDR.ADDR req.idx) * 64) 72 =
        sliceB (Config.keyWrap ((s.slot (bitsOf data 16 8)).key.take 32) (s.slot (bitsOf data 8 8)).key) 0 72 ∧ t.nv = s.nv) ∧
  (∀ (s : State) (req : Requester) (data : Nat), s.Reaches req 0xE00010 → s.bit (F.KVT_OP.START req.idx) = false →
    s.slotRefuses (bitsOf data 8 8) [0] = 0 →
    let curve := bitsOf data 5 1
    let n := if curve = 0 then 32 else 48
    let a := s.get (F.KVT_OPADDR.ADDR req.idx) * 64
    let scalar := scalarOf curve (s.slot (bitsOf data 8 8)).key
    (∃ t, exec (.kvtSign req data) s = .next t ∧ t.get (F.KVT_OPSTAT.RESULT req.idx) = 0 ∧ t.bit (F.KVT_OP.START req.idx) = false ∧
      t.sramRead (a + 64) (2 * n) = sliceB (Config.ecdsaSign curve scalar (s.sramRead a n) s.freeVal) 0 (2 * n) ∧
      t.free = s.free + 1 ∧ t.nv = s.nv) ∧
    (∃ t, exec (.kvtPubkey req data) s = .next t ∧ t.get (F.KVT_OPSTAT.RESULT req.idx) = 0 ∧ t.bit (F.KVT_OP.START req.idx) = false ∧
      t.sramRead a (2 * n) = sliceB (Config.publicPoint curve scalar) 0 (2 * n) ∧ t.nv = s.nv)) ∧
  (∀ (s : State) (req : Requester) (data : Nat), s.Reaches req 0xE00010 → s.bit (F.KVT_OP.START req.idx) = false →
    s.slotRefuses (bitsOf data 8 8) [0] ≠ 0 →
    ∀ c ∈ [Instr.kvtSign req data, .kvtPubkey req data], ∃ t, exec c s = .next t ∧
      t.get (F.KVT_OPSTAT.RESULT req.idx) = s.slotRefuses (bitsOf data 8 8) [0] ∧ t.kvt = s.kvt ∧ MemorySame s t)

/-- The vault's own work: phase 1 of an update writes its undo entries, phase 2 gives the slot its key and ends the operation; a key whose shares
fail their check is a cell fault; a short hold time sets HOLDFLT; zeroise raises ZEPOCH, empties the store and the queue; DBG_EN puts the test root
in force. Rules: R435, R443, R445, R446, R448. -/
def Obligations.VaultStoreAndRoots : Prop :=
  (∀ (s : State) (r : VaultReq) (k : List Byte × Bool), s.supply.on = true → s.kvt.queue.head? = some r → s.kvt.opened = none →
    s.bit F.KVT_STAT.HOLDOK = true → s.computeUpdate r = .ok k →
    ∃ t, exec (.vaultUpdate false) s = .next t ∧ t.kvt.opened = some k ∧ t.kvt.slots = s.kvt.slots ∧ t.kvt.queue = s.kvt.queue ∧
      t.bit F.KVT_STAT.BUSY = true ∧ (t.kstore.undo.map (·.1)) = some ((s.updateSlots r).map (fun n => (n, s.kstore.rec? n))) ∧ MemorySame s t) ∧
  (∀ (s : State) (r : VaultReq) (e : Nat), s.kvt.queue.head? = some r → s.kvt.opened = none → s.bit F.KVT_STAT.HOLDOK = true → r.by_ < 9 →
    s.computeUpdate r = .error e → e < 16 →
    ∃ t, exec (.vaultUpdate false) s = .next t ∧ t.kvt.queue = s.kvt.queue.drop 1 ∧ t.kvt.slots = s.kvt.slots ∧
      t.get (F.KVT_OPSTAT.RESULT r.by_) = e ∧ t.bit (F.KVT_OP.START r.by_) = false ∧ t.nv = s.nv) ∧
  (∀ (s : State) (r : VaultReq) (key : List Byte) (cert : Bool), s.kvt.queue.head? = some r → s.kvt.opened = some (key, cert) → r.by_ < 9 →
    r.code = 1 → r.tree = false → r.slot < s.kvt.slots.length →
    ∃ t, exec (.vaultUpdate true) s = .next t ∧ t.kvt.opened = none ∧ (t.slot r.slot).key = key ∧ (t.slot r.slot).state = 2 ∧
      (t.slot r.slot).ctx = r.ctx ∧ (t.slot r.slot).origin = 1 ∧ t.get (F.KVT_OPSTAT.RESULT r.by_) = 0 ∧ t.bit (F.KVT_OP.START r.by_) = false ∧
      (∀ x ∈ s.descendants r.slot, (t.slot x).state ≠ 2) ∧ MemorySame s t) ∧
  (∀ (s : State) (n : Nat), (s.slot n).state = 2 →
    ∃ t, exec (.shareRefresh [n]) s = .next t ∧ (t.slot n).state = 4 ∧ (t.slot n).cause = 2 ∧ (t.slot n).key = [] ∧
      t.bit F.KVT_STAT.CELLFLT = true ∧ MemorySame s t) ∧
  (∀ s : State, ∃ t, exec (.shareRefresh []) s = .next t ∧ (∀ n, (t.slot n).key = (s.slot n).key ∧ (t.slot n).state = (s.slot n).state) ∧
    t.free = s.free + 1 ∧ RegsOutside [] s t ∧ MemorySame s t) ∧
  (∀ (s : State) (us : Nat), ∃ t, exec (.holdupTest us) s = .next t ∧ t.kvt.holdTest = s.raw ∧
    (us < 20000 → t.bit F.KVT_STAT.HOLDFLT = true) ∧ RegsBut [F.KVT_STAT.HOLDFLT] s t ∧ MemorySame s t) ∧
  (∀ (s : State) (req : Requester), s.Reaches req 0xE00004 →
    ∃ t, exec (.kvtZeroise req 0x9612) s = .next t ∧ t.nv.zepoch = (if s.nv.zepoch < 32 then s.nv.zepoch + 1 else 32) ∧
      t.bit F.KVT_STAT.ZEROISED = true ∧ t.kvt.queue = [] ∧ t.kvt.opened = none ∧ t.nts.rot = none ∧ (∀ p, (t.npos p).state = 0) ∧ MemorySame s t) ∧
  (∀ (s : State) (req : Requester) (key : Nat), s.Reaches req 0xE00004 → key % 65536 ≠ 0x9612 → s.bit F.XBR_AERR.AERR = false →
    ∃ t, exec (.kvtZeroise req key) s = .next t ∧ t.kvt = s.kvt ∧ t.nv = s.nv ∧ t.get F.XBR_AERR.CAUSE = 6) ∧
  (∀ s : State, s.bit F.KVT_STAT.DBG = false → ∃ t, exec .dbgEnSet s = .next t ∧ t.bit F.KVT_STAT.DBG = true ∧ t.bit F.NTS_STAT.TESTKEY = true ∧
    t.bit F.GLB_DBG.DBG_EN = true ∧ MemorySame s t)

/-! The redundant pair (spec/17_pair.md). -/

/-- A record in order is applied: HELLO, PPSM, HEALTH, BOUND, and in step RESULT, UPDATE, SELECT, LEAP, DIGEST, PARAM. A RESULT is held for the next
UPDATE; an UPDATE of mode 1 gives SRV0 its rate, and one that says it stepped sends the standby back to JOIN; a digest that differs is counted.
Rules: R455, R462, R463, R466, R468, R477. -/
def Obligations.RecordsOfTheStream : Prop :=
  (∀ (s : State) (lane seq tick : Nat) (b : List Byte), s.Expects lane seq b → b.length = 24 →
    ∃ t, exec (.helloRecord lane (recordBytes seq 0x01 0 tick b)) s = .next t ∧ t.pair.hello = true ∧ t.pair.twinRole = leAt b 9 1 ∧
      t.pair.twinState = leAt b 10 1 ∧ t.pair.twinCheck = leAt b 20 4 ∧ t.pair.conflict = ((leAt b 8 1 == 1) == s.bit F.GLB_STRAP.HOME) ∧
      t.get F.PAIR_TWINID.MODULE = leAt b 0 8 ∧ t.get F.PAIR_STAT.TVERD = leAt b 11 1 % 4) ∧
  (∀ (s : State) (lane seq tick : Nat) (b : List Byte), s.Expects lane seq b →
    (s.pair.mOwn = none →
      ∃ t, exec (.ppsmRecord lane (recordBytes seq 0x02 0 tick b)) s = .next t ∧ t.pair.mTwin = some (leAt b 0 8, toSigned 64 (leAt b 8 8)) ∧
        RegsBut [F.PAIR_JRX.RX] s t) ∧
    (∀ (own : Int) (stamp : Nat), s.pair.mOwn = some (leAt b 0 8, own, stamp) → s.role = 1 → s.pairState = 5 → s.channelOfKind 7 = none →
      let x : Rat := ((toSigned 64 (leAt b 8 8) - own : Int) : Rat) * 25 / 256
      absR x ≤ (s.get F.PAIR_THR.THR : Rat) → absR x < 1073741824 →
      ∃ t, exec (.ppsmRecord lane (recordBytes seq 0x02 0 tick b)) s = .next t ∧ t.getI F.PAIR_X.X = roundAway x ∧ t.pair.x = some (x, s.raw) ∧
        t.pair.xPrev = s.pair.x.map (·.1) ∧ (absR x * 2 ≤ (s.get F.PAIR_THR.THR : Rat) → t.bit F.PAIR_STAT.ARMED = true))) ∧
  (∀ (s : State) (lane seq tick : Nat) (b : List Byte), s.Expects lane seq b → s.role ≠ 2 → s.channelOfKind 7 = none →
    ∃ t, exec (.healthRecord lane (recordBytes seq 0x03 0 tick b)) s = .next t ∧ t.get F.PAIR_STAT.TVERD = leAt b 0 1 % 4 ∧
      t.get F.PAIR_TWINB.B = leAt b 8 4 ∧ RegsBut [F.PAIR_JRX.RX, F.PAIR_STAT.TVERD, F.PAIR_TWINB.B, F.PAIR_UPAIR.UPAIR] s t) ∧
  (∀ (s : State) (lane seq tick : Nat) (b : List Byte), s.Expects lane seq b →
    (∃ t, exec (.boundRecord lane (recordBytes seq 0x04 0 tick b)) s = .next t ∧ t.pair.bound = some (leAt b 0 4, s.raw) ∧
      RegsBut [F.PAIR_JRX.RX, F.PAIR_UPAIR.UPAIR] s t) ∧
    (s.role = 2 → ∃ t, exec (.resultJournalRecord lane (recordBytes seq 0x10 0 tick b)) s = .next t ∧
      t.pair.results = s.pair.results ++ [{ ch := leAt b 0 1, freq := leAt b 1 1 == 4, value := if leAt b 1 1 = 4 then (toSigned 64 (leAt b 4 8) : Rat) / 1000000000000000000 else (toSigned 64 (leAt b 4 8) : Rat) / 65536, stamp := leAt b 12 8 }] ∧ RegsBut [F.PAIR_JRX.RX] s t) ∧
    (s.role ≠ 2 → ∃ t, exec (.resultJournalRecord lane (recordBytes seq 0x10 0 tick b)) s = .next t ∧ t.pair.results = s.pair.results ∧
      RegsBut [F.PAIR_JRX.RX] s t)) ∧
  (∀ (s : State) (lane seq tick : Nat) (b : List Byte), s.Expects lane seq b → s.inStep = true → leAt b 16 1 = 1 → leAt b 28 8 = 0 →
    leAt b 17 1 < 8 → s.hrt.srv.length = 4 →
    ∃ t, exec (.updateRecord lane (recordBytes seq 0x11 0 tick b)) s = .next t ∧ (t.sv 0).r = toSigned 64 (leAt b 20 8) ∧
      t.srvState = leAt b 17 1 ∧ t.pair.results = s.pair.results.drop (leAt b 18 2) ∧ t.role = 2 ∧ t.pairState = s.pairState) ∧
  (∀ (s : State) (lane seq tick : Nat) (b : List Byte), s.Expects lane seq b → s.inStep = true → toSigned 64 (leAt b 28 8) ≠ 0 →
    ∃ t, exec (.updateRecord lane (recordBytes seq 0x11 0 tick b)) s = .next t ∧ t.pairState = 4 ∧ t.role = 2 ∧ t.bit F.PAIR_STAT.ARMED = false) ∧
  (∀ (s : State) (lane seq tick : Nat) (b : List Byte), s.Expects lane seq b → s.inStep = true →
    (leAt b 1 1 < 8 → ∃ t, exec (.selectRecord lane (recordBytes seq 0x12 0 tick b)) s = .next t ∧ t.pair.select = b ∧ t.srvState = leAt b 1 1) ∧
    (∃ t, exec (.leapRecord lane (recordBytes seq 0x13 0 tick b)) s = .next t ∧ t.pair.leap = b ∧ t.get F.HRT_UTC.OFFSET = leAt b 0 2 ∧
      t.bit F.HRT_UTC.VALID = (leAt b 2 1).testBit 0 ∧ t.bit F.HRT_UTC.LEAPPEND = (leAt b 2 1).testBit 1 ∧
      t.get F.HRT_LEAP.SEC = leAt b 4 8 % 2 ^ 48 ∧ RegsBut [F.PAIR_JRX.RX, F.HRT_UTC.OFFSET, F.HRT_UTC.VALID, F.HRT_UTC.LEAPPEND, F.HRT_UTC.DIR,
        F.HRT_UTC.SRC, F.HRT_LEAP.SEC, F.HRT_UTCPREV.SEC, F.HRT_UTCPREV_HI.PREV] s t) ∧
    (∃ t, exec (.paramRecord lane (recordBytes seq 0x15 0 tick b)) s = .next t ∧ t.get (F.HRT_SRV_KP.KP 0) = leAt b 0 4 ∧
      t.get (F.HRT_SRV_KI.KI 0) = leAt b 4 4 ∧ t.get (F.HRT_SRV_FSTEP.FSTEP 0) = leAt b 8 4 ∧ t.get F.HRT_SRV_LIM.STEPLIM = leAt b 16 2 ∧
      RegsBut [F.PAIR_JRX.RX, F.HRT_SRV_KP.KP 0, F.HRT_SRV_KI.KI 0, F.HRT_SRV_FSTEP.FSTEP 0, F.HRT_SRV_LEAD.LEAD, F.HRT_SRV_LIM.STEPLIM,
        F.HRT_SRV_LIM.LOCKLIM, F.REF_SWSLEW.SLEW, F.REF_HAVG.SEC] s t) ∧
    (s.digest = sliceB b 4 8 → ∃ t, exec (.digestRecord lane (recordBytes seq 0x14 0 tick b)) s = .next t ∧ RegsBut [F.PAIR_JRX.RX] s t) ∧
    (s.digest ≠ sliceB b 4 8 → s.bit F.PAIR_STAT.ARMED = false → s.pairState = 5 →
      ∃ t, exec (.digestRecord lane (recordBytes seq 0x14 0 tick b)) s = .next t ∧
        t.get F.PAIR_JERR.DIGERR = min 65535 (s.get F.PAIR_JERR.DIGERR + 1) ∧ RegsBut [F.PAIR_JRX.RX, F.PAIR_JERR.DIGERR] s t))

/-- The records that carry tables and settle roles: SRVSTATE and the snapshot's begin and end, GRANT, NTSKEY, KEYX, VREQ and VERDICT, SWAP, ACK and
TAKE. Rules: R461, R463, R464, R465, R467, R469, R471, R475. -/
def Obligations.RecordsOfRolesAndTables : Prop :=
  (∀ (s : State) (lane seq tick : Nat) (b : List Byte), s.Expects lane seq b → s.role = 2 → s.pair.phase = 2 → s.pair.swapState = false → leAt b 32 1 < 8 → s.hrt.srv.length = 4 →
    ∃ t, exec (.srvstateRecord lane (recordBytes seq 0x16 0 tick b)) s = .next t ∧ (t.sv 0).i = (toSigned 64 (leAt b 0 8) : Rat) / 65536 ∧
      (t.sv 0).r = toSigned 64 (leAt b 8 8) ∧ (t.sv 0).phaseState = (leAt b 33 1 == 1) ∧ (t.sv 0).run = leAt b 34 2 ∧ t.srvState = leAt b 32 1) ∧
  (∀ (s : State) (lane seq tick : Nat) (b : List Byte), s.Expects lane seq b → s.inStep = true →
    ∃ t, exec (.grantRecord lane (recordBytes seq 0x18 0 tick b)) s = .next t ∧ t.pair.grants = s.pair.grants + 1 ∧
      t.ptp.grants = (match grantOf (b.drop 4) with | some g => insertAt (leAt b 0 2) g s.ptp.grants | none => dropKey (leAt b 0 2) s.ptp.grants)) ∧
  (∀ (s : State) (lane seq tick : Nat) (b : List Byte), s.Expects lane seq b → s.inStep = true → leAt b 1 1 = 0 →
    let d := (leAt b 8 8 * 1000000000 + leAt b 16 4) * 65536
    s.dnow.getD 0 < d → s.pair.keys = [] →
    ∃ t, exec (.ntskeyRecord lane (recordBytes seq 0x19 0 tick b)) s = .next t ∧ t.pair.keys = [(leAt b 0 1 % 4, 0, leAt b 4 4, d)] ∧
      t.nts = s.nts ∧ RegsBut [F.PAIR_JRX.RX] s t) ∧
  (∀ (s : State) (lane seq tick : Nat) (b : List Byte), s.Expects lane seq b → s.role = 2 →
    (beAt b 4 1 = 0 → ∃ t, exec (.snapRecord lane (recordBytes seq 0x1A 0 tick b)) s = .next t ∧ t.ptp.grants = [] ∧ t.pair.phase = 2 ∧
      t.pair.results = [] ∧ t.pair.grants = 0) ∧
    (beAt b 4 1 ≠ 0 → s.pair.phase = 2 → s.pairState = 4 → ∃ t, exec (.snapRecord lane (recordBytes seq 0x1A 0 tick b)) s = .next t ∧ t.pairState = 5 ∧
      t.bit F.PAIR_STAT.JOINED = true ∧ t.pair.phase = 0 ∧ t.pair.used = s.pair.results.reverse ∧ t.pair.results = [])) ∧
  (∀ (s : State) (lane seq tick : Nat) (b : List Byte), s.Expects lane seq b →
    (s.role ≠ 0 → s.pair.exch = none → s.pair.swap = none → ∃ t, exec (.vreqRecord lane (recordBytes seq 0x20 0 tick b)) s = .next t ∧
      t.pair.exch = some (leAt b 4 4, t.get F.PAIR_STAT.VERD) ∧ t.role = s.role) ∧
    (s.pair.exch = none → ∃ t, exec (.verdictRecord lane (recordBytes seq 0x21 0 tick b)) s = .next t ∧ t.get F.PAIR_STAT.TVERD = leAt b 0 1 % 4 ∧
      RegsBut [F.PAIR_JRX.RX, F.PAIR_STAT.TVERD] s t) ∧
    (s.pair.exch = some (leAt b 4 4, 2) → s.role = 1 → leAt b 0 1 = 1 → ∃ t, exec (.verdictRecord lane (recordBytes seq 0x21 0 tick b)) s = .next t ∧
      t.role = 2 ∧ t.pairState = 4 ∧ t.bit F.PAIR_STAT.YIELD = true ∧ t.pair.exch = none)) ∧
  (∀ (s : State) (lane seq tick : Nat) (b : List Byte), s.Expects lane seq b → s.role = 2 →
    (s.bit F.PAIR_STAT.CLEAN = true → ∃ t, exec (.swapRecord lane (recordBytes seq 0x22 0 tick b)) s = .next t ∧ t.pair.swap = some (leAt b 0 8, true)) ∧
    (s.bit F.PAIR_STAT.CLEAN = false → ∃ t, exec (.swapRecord lane (recordBytes seq 0x22 0 tick b)) s = .next t ∧ t.pair.swap = s.pair.swap ∧
      t.bit F.PAIR_CTRL.SWAP = false)) ∧
  (∀ (s : State) (lane seq tick : Nat) (b : List Byte), s.Expects lane seq b → s.pair.seq < 2 ^ 32 →
    (∀ n : Nat, leAt b 0 4 = s.pair.seq → s.role = 1 → s.pair.swap.map (·.1) = some n → (leAt b 4 1).testBit 0 = true →
      ∃ t, exec (.ackRecord lane (recordBytes seq 0x23 0 tick b)) s = .next t ∧ t.pair.swap = some (n, true) ∧ RegsBut [F.PAIR_JRX.RX] s t) ∧
    (∀ n : Nat, (s.pair.seq + 2 ^ 32 - leAt b 0 4) % 2 ^ 32 = n → 1 ≤ n → n ≤ s.pair.store.length → s.role ≠ 1 → s.supply.on = true →
      ∃ t, exec (.ackRecord lane (recordBytes seq 0x23 0 tick b)) s = .next t ∧ t.out.length = s.out.length + n ∧ t.pair.seq = s.pair.seq ∧
        RegsBut [F.PAIR_JRX.RX] s t)) ∧
  (∀ (s : State) (lane seq tick : Nat) (b : List Byte), s.Expects lane seq b →
    (s.role = 1 → leAt b 0 1 = 1 → ∃ t, exec (.takeRecord lane (recordBytes seq 0x24 0 tick b)) s = .next t ∧ t.role = 2 ∧ t.pairState = 4 ∧
      t.bit F.PAIR_STAT.YIELD = true) ∧
    (s.role ≠ 1 → ∃ t, exec (.takeRecord lane (recordBytes seq 0x24 0 tick b)) s = .next t ∧ RegsBut [F.PAIR_JRX.RX] s t) ∧
    (leAt b 2 1 = 0 → ∃ t, exec (.keyxRecord lane (recordBytes seq 0x25 0 tick b)) s = .next t ∧
      t.pair.cert = insertAt (leAt b 0 1 * 256 + leAt b 1 1) (b.drop 4) s.pair.cert ∧ t.kvt = s.kvt ∧ RegsBut [F.PAIR_JRX.RX] s t) ∧
    (leAt b 0 1 = 1 → leAt b 1 1 = 0 → leAt b 2 1 = 1 → s.pair.cert = [] → ∃ t, exec (.keyxRecord lane (recordBytes seq 0x25 0 tick b)) s = .next t ∧
      ∃ r, t.kvt.queue = s.kvt.queue ++ [r] ∧ r.by_ = 10 ∧ r.code = 5 ∧ r.slot = s.get F.PAIR_KEY.WSLOT ∧ r.data = b.drop 4))

/-- What the units send of their own accord, one record at a time under the next SEQ (HELLO, HEALTH, BOUND, DIGEST, ACK), and a record that comes
early or damaged: it changes nothing but opens a gap, which is acknowledged; a gap that is not filled in 100 µs is JGAP. Rules: R460, R461, R462,
R477. -/
def Obligations.SendingAndGaps : Prop :=
  (∀ s : State, s.paired = true → s.pair.any = true → s.supply.on = true → s.pair.warmWait = false → s.channelOfKind 7 = none →
    (s.pair.twinCheck = s.pairCheck → s.pair.rekey = none →
      ∃ t, exec .helloSend s = .next t ∧ s.Sent t 0x01 (leBytes 8 Config.serial ++ leBytes 1 (s.get F.GLB_STRAP.HOME) ++ leBytes 1 s.role ++
        leBytes 1 s.pairState ++ leBytes 1 (s.get F.PAIR_STAT.VERD) ++ s.rcpDigest ++ leBytes 4 s.pairCheck) ∧ RegsBut [F.PAIR_JTX.TX] s t) ∧
    (∃ t b, exec .healthSend s = .next t ∧ s.Sent t 0x03 b ∧ leAt b 0 1 = s.get F.PAIR_STAT.VERD % 256 ∧ leAt b 8 4 = s.selfB % 2 ^ 32 ∧
      leAt b 12 4 = s.uPair % 2 ^ 32 ∧ RegsBut [F.PAIR_JTX.TX, F.PAIR_UPAIR.UPAIR] s t) ∧
    (s.role = 1 → ∃ t b, exec .boundSend s = .next t ∧ s.Sent t 0x04 b ∧ RegsBut [F.PAIR_JTX.TX] s t) ∧
    (s.journals = true → s.raw % 625000 = 0 → s.pair.select = s.selectPayload → s.pair.leap = s.leapPayload → s.pair.param = s.paramPayload →
      ∃ t, exec .digestSend s = .next t ∧ s.Sent t 0x14 (leBytes 4 (s.pair.seq + 2 ^ 32 - 1) ++ s.digest ++ leBytes 4 0) ∧
        RegsBut [F.PAIR_JTX.TX] s t) ∧
    (¬(s.role = 2 ∧ s.pair.phase = 1) → ∃ t, exec .ackSend s = .next t ∧ s.Sent t 0x23 (leBytes 4 (s.pair.next.getD 0) ++ leBytes 1 0 ++ leBytes 3 0) ∧
      t.get F.PAIR_JERR.RETX = (if s.pair.gapAt.isSome then min 65535 (s.get F.PAIR_JERR.RETX + 1) else s.get F.PAIR_JERR.RETX) ∧
      RegsBut [F.PAIR_JTX.TX, F.PAIR_JERR.RETX] s t)) ∧
  (∀ (s : State) (lane seq ahead tick : Nat) (b : List Byte), s.Expects lane seq b → s.pair.next = some seq → 1 ≤ ahead → ahead < 2 ^ 31 →
    s.supply.on = true →
    ∃ t, exec (.boundRecord lane (recordBytes ((seq + ahead) % 2 ^ 32) 0x04 0 tick b)) s = .next t ∧ t.pair.bound = s.pair.bound ∧
      t.pair.early = [((seq + ahead) % 2 ^ 32, 4, b)] ∧ t.pair.gapAt.isSome = true ∧ t.pair.next = some seq) ∧
  (∀ (s : State) (lane seq : Nat) (b bytes : List Byte), s.Expects lane seq b → leAt bytes 4 1 ≠ 4 → s.supply.on = true →
    ∃ t, exec (.boundRecord lane bytes) s = .next t ∧ t.pair.bound = s.pair.bound ∧ t.pair.gapAt.isSome = true ∧ t.pair.next = s.pair.next ∧
      s.Sent t 0x23 (leBytes 4 (s.pair.next.getD 0) ++ leBytes 1 0 ++ leBytes 3 0)) ∧
  (∀ (s : State) (t0 : Nat), s.pair.gapAt = some t0 → t0 + 62500 ≤ s.raw → s.pair.early = [] → s.pair.warmWait = false →
    ∃ t, exec .journalGapTimeout s = .next t ∧ t.bit F.PAIR_STAT.JGAP = true ∧ t.pair.gapAt = none ∧ t.pair.next = none ∧
      (s.role = 2 → 4 ≤ s.pairState → t.pairState = 4 ∧ t.role = 2))

/-- Lanes, PPI, roles and checks: a lost lane sets LINKFLT, and an active unit that loses both is in PART; SEEK's table; the takeover of a standby
whose twin is lost; the self-check's verdict; DISPUTE's exchanges; a comparison that is stale. Rules: R453, R455, R456, R458, R466, R468, R469,
R470. -/
def Obligations.RolesAndLanes : Prop :=
  (∀ s : State, s.paired = true → s.channelOfKind 7 = none → s.pair.warmWait = false →
    (s.pair.lane0 = true → s.pair.lane1 = true → s.bit F.PAIR_STAT.CLEAN = false →
      ∃ t, exec (.laneLockLoss 0) s = .next t ∧ t.pair = { s.pair with lane0 := false } ∧ t.bit F.PAIR_STAT.LINKFLT = true ∧
        t.bit F.PAIR_STAT.LANE1 = true ∧ RegsBut [F.PAIR_STAT.LINKFLT, F.PAIR_STAT.LANE1] s t) ∧
    (s.pair.lane0 = false → s.pair.lane1 = true → s.role = 1 →
      ∃ t, exec (.laneLockLoss 1) s = .next t ∧ t.pair.any = false ∧ t.pairState = 3 ∧ t.role = 1 ∧ t.bit F.PAIR_STAT.LINKFLT = true ∧
        t.bit F.PAIR_STAT.ARMED = false ∧ t.bit F.PAIR_STAT.LANE1 = false ∧ t.pair.downAt = s.raw) ∧
    (s.bit F.PAIR_STAT.CLEAN = false → s.role = 1 →
      ∃ t, exec (.pl0BlockLock 0) s = .next t ∧ t.pair = { s.pair with lane0 := true } ∧ t.bit F.PAIR_STAT.LANE1 = !s.pair.lane1 ∧
        RegsBut [F.PAIR_STAT.LANE1] s t) ∧
    (∀ (half code k : Nat) (active : Bool), half < 2 → s.role ≠ 1 → s.pair.mTwin = none →
      ∃ t, exec (.ppiEdge half code k active) s = .next t ∧ t.pair.ppiAt = some s.raw ∧
        t.pair.seenActive = (if active then s.pair.seenActive + 1 else 0) ∧ t.pair.seenIdle = (if active then 0 else s.pair.seenIdle + 1)) ∧
    (s.pair.stale s.raw = true → s.bit F.PAIR_STAT.CLEAN = false →
      ∃ t, exec .ppiStale s = .next t ∧ t.bit F.PAIR_STAT.PPSFLT = true ∧ RegsBut [F.PAIR_STAT.PPSFLT, F.PAIR_UPAIR.UPAIR] s t)) ∧
  (∀ (s : State) (alertLow : Bool), s.pairState = 1 → s.pair.warmWait = false →
    (s.pair.both = true → s.pair.hello = true → s.pair.twinRole = 1 →
      ∃ t, exec (.seekEvaluation alertLow) s = .next t ∧ t.role = 2 ∧ t.pairState = 4) ∧
    (s.pair.any = false → max s.pair.seekAt (s.pair.ppiAt.getD 0) + 937500000 ≤ s.raw →
      ∃ t, exec (.seekEvaluation alertLow) s = .next t ∧ t.role = 1 ∧ t.pairState = 2) ∧
    (s.pair.any = false → 0 < s.pair.seenActive → s.raw < max s.pair.seekAt (s.pair.ppiAt.getD 0) + 937500000 → alertLow = false →
      ∃ t, exec (.seekEvaluation alertLow) s = .next t ∧ t.role = 2 ∧ t.pairState = 3) ∧
    (∀ t0 : Nat, s.pair.waitFrom = some t0 → t0 + 625000000 ≤ s.raw → s.pair.seenActive = 0 →
      ∃ t, exec .homeRandomWait s = .next t ∧ t.role = 1 ∧ t.pairState = 3 ∧ t.pair.waitFrom = none)) ∧
  (∀ s : State, s.paired = true → s.role = 2 → s.pair.any = false → s.pair.downAt + 313 ≤ s.raw → s.pair.warmWait = false →
    (s.supply.alert = false → ∃ t, exec (.twinLost true) s = .next t ∧ t.role = 1 ∧ t.pairState = 2 ∧ t.bit F.PAIR_STAT.TAKEOVER = true ∧
      t.pair.exch = none ∧ t.pair.swap = none) ∧
    (∃ t, exec (.twinLost false) s = .next t ∧ t.role = 2 ∧ t.pairState = 3)) ∧
  (∀ s : State, s.paired = true → s.pair.warmWait = false → s.atomicGap = none →
    ∃ t, exec .selfCheck s = .next t ∧ t.get F.PAIR_STAT.VERD =
      (if s.checkedChans = [] then 0 else if (s.checkedChans.filter s.agrees) = [] then 2 else 1) ∧
      t.pair.checked = maskOf s.checkedChans ∧ t.pair.agreed = maskOf (s.checkedChans.filter s.agrees)) ∧
  (∀ s : State, s.pairState = 6 → s.pair.exch = none → s.pair.warmWait = false →
    ∃ t, exec .disputeExchange s = .next t ∧ t.pair.exch = some ((s.pair.vid + 1) % 2 ^ 32, t.get F.PAIR_STAT.VERD) ∧ t.pairState = 6)

/-- Swaps: PAIR_CTRL behind its KEY schedules one at the first disciplined second at least 1 s ahead; the clean home standby asks for one when the
countdown ends; at N a swap that the standby has answered exchanges the roles, and one it has not falls with SWAPFAIL; RESYNC runs SYNC again.
Rules: R464, R474, R475. -/
def Obligations.Swaps : Prop :=
  (∀ (s : State) (req : Requester), s.Serves req 0xF0000C → s.bit F.PAIR_CTRL.SWAP = false → s.role = 1 → s.pairState = 5 → s.pair.swap = none →
    ∃ t, exec (.pairSwap req 0x9612) s = .next t ∧ t.pair.swap = some (s.swapSecond, false) ∧ t.bit F.PAIR_CTRL.SWAP = true ∧
      RegsBut [F.PAIR_CTRL.SWAP, F.PAIR_JTX.TX, F.XBR_TSTAT.OWNER 6] s t) ∧
  (∀ (s : State) (req : Requester), s.Serves req 0xF0000C → s.bit F.PAIR_CTRL.SWAP = false → s.role = 1 → s.pairState ≠ 5 →
    ∃ t, exec (.pairSwap req 0x9612) s = .next t ∧ t.pair = s.pair ∧ t.bit F.PAIR_CTRL.SWAP = false ∧ t.bit F.PAIR_STAT.SWAPFAIL = true) ∧
  (∀ (s : State) (req : Requester) (key : Nat), s.Serves req 0xF0000C → key % 65536 ≠ 0x9612 → s.bit F.XBR_AERR.AERR = false →
    ∃ t, exec (.pairSwap req key) s = .next t ∧ t.pair = s.pair ∧ t.get F.XBR_AERR.CAUSE = 6 ∧ t.get F.XBR_AERRADDR.ADDR = 0xF0000C) ∧
  (∀ (s : State) (req : Requester), s.Serves req 0xF0000C → s.inStep = true → s.supply.on = true →
    ∃ t, exec (.pairResync req 0x9612) s = .next t ∧ t.pair.phase = 1 ∧ t.pairState = s.pairState) ∧
  (∀ (s : State) (t0 : Nat), s.pair.wtrFrom = some t0 → s.bit F.PAIR_STAT.CLEAN = true → s.bit F.PAIR_STAT.HOME = true → s.role = 2 → s.paired = true →
    s.pair.any = true → s.supply.on = true → s.pair.swap = none → s.pair.warmWait = false → t0 + s.get F.PAIR_CFG.WTR * 625000000 ≤ s.raw →
    ∃ t, exec .wtrExpiry s = .next t ∧ s.Sent t 0x22 (leBytes 8 s.swapSecond) ∧ RegsBut [F.PAIR_JTX.TX] s t) ∧
  (∀ (s : State) (n : Nat), n ≤ s.dsec → s.pair.warmWait = false →
    (s.pair.swap = some (n, false) → ∃ t, exec .swapBoundary s = .next t ∧ t.pair.swap = none ∧ t.bit F.PAIR_CTRL.SWAP = false ∧
      t.bit F.PAIR_STAT.SWAPFAIL = true ∧ RegsBut [F.PAIR_CTRL.SWAP, F.PAIR_STAT.SWAPFAIL] s t) ∧
    (s.pair.swap = some (n, true) → s.role = 1 → ∃ t, exec .swapBoundary s = .next t ∧ t.role = 2 ∧ t.pair.swap = none ∧
      t.bit F.PAIR_STAT.SWAPPED = true ∧ t.bit F.PAIR_CTRL.SWAP = false) ∧
    (s.pair.swap = some (n, true) → s.role = 2 → ∃ t, exec .swapBoundary s = .next t ∧ t.role = 1 ∧ t.pair.swap = none ∧
      t.bit F.PAIR_STAT.SWAPPED = true ∧ t.bit F.PAIR_CTRL.SWAP = false))

/-! The supervisor, the crossbar and the host interface (spec/18_system.md). -/

/-- The mailbox: the doorbell sets H2SBUSY unless it is refused; the firmware answers a request under its OP and SEQ with a STATUS and the payload
of its table row, BAD_LEN for another length and UNKNOWN_OP for an operation it does not know; the answer is posted and S2HVALID set. Rules: R486,
R487. -/
def Obligations.Mailbox : Prop :=
  (∀ (s : State) (req : Requester), s.Serves req 0x1400010 → s.bit F.SUP_STATUS.READY = true → s.bit F.SUP_MBX.H2SBUSY = false →
    s.bit F.SUP_MBX.S2HVALID = false → s.get F.SUP_MBX.VEC ≤ 95 → s.get F.SUP_MBX.IRQEN ≤ 1 →
    ∃ t, exec (.mbxDoorbell req) s = .next t ∧ t.bit F.SUP_MBX.H2SBUSY = true ∧ RegsOnly s t ∧ RegsBut [F.SUP_MBX.H2SBUSY, F.XBR_TSTAT.OWNER 6] s t) ∧
  (∀ (s : State) (req : Requester), s.Serves req 0x1400010 →
    s.bit F.SUP_STATUS.READY = false ∨ s.bit F.SUP_MBX.H2SBUSY = true ∨ s.bit F.SUP_MBX.S2HVALID = true → s.bit F.XBR_AERR.AERR = false →
    ∃ t, exec (.mbxDoorbell req) s = .next t ∧ t.get F.XBR_AERR.CAUSE = 7 ∧ t.get F.XBR_AERRADDR.ADDR = 0x1400010 ∧
      t.get F.SUP_MBX.H2SBUSY = s.get F.SUP_MBX.H2SBUSY ∧ t.get F.SUP_MBX.S2HVALID = s.get F.SUP_MBX.S2HVALID) ∧
  (∀ s : State, s.mbxWaits 0x1 = true →
    (s.mbxLenGood = true → ∃ t, exec .mbxPing s = .next t ∧ s.Answered t 0 s.mbxPayload) ∧
    (s.mbxLenGood = false → ∃ t, exec .mbxPing s = .next t ∧ s.Answered t 2 [])) ∧
  (∀ s : State, s.mbxWaits 0x2 = true → s.mbxLen = 0 → ∃ t, exec .mbxVersion s = .next t ∧
    s.Answered t 0 [s.get F.SUP_FWVER.VER, s.get F.BOOT_STATUS.FWBANK, Config.engineVersion % 2 ^ 32, Config.bootRomVersion % 2 ^ 32]) ∧
  (∀ (s : State) (a : NetAddr), s.mbxWaits 0x10 = true → s.mbxLen = 40 → addrOf s.mbxPayload = some a →
    ∃ t, exec .mbxAddrSet s = .next t ∧ t.sys.addrs = insertAt (s.mbxPayload.getD 0 0) a s.sys.addrs ∧ s.Answered t 0 []) ∧
  (∀ s : State, s.mbxWaits 0x10 = true → s.mbxLen = 40 → addrOf s.mbxPayload = none →
    ∃ t, exec .mbxAddrSet s = .next t ∧ t.sys.addrs = s.sys.addrs ∧ s.Answered t 3 []) ∧
  (∀ s : State, s.mbxWaits 0x11 = true → s.mbxLen = 4 →
    let k := s.mbxPayload.getD 0 0
    ∃ t, exec .mbxAddrGet s = .next t ∧ (if k < 16 then s.Answered t 0 (addrWords k (lookup k s.sys.addrs)) else s.Answered t 3 [])) ∧
  (∀ s : State, s.mbxWaits 0x20 = true → s.mbxLen = 8 →
    let a := s.mbxPayload.getD 0 0
    let n := s.mbxPayload.getD 1 0
    1 ≤ n → n ≤ 16384 → a + n ≤ 0x3000000 →
    ∃ t, exec .mbxKeCert s = .next t ∧ (if s.leafMatches (s.sramRead a n) then t.sys.keCert = s.sramRead a n ∧ s.Answered t 0 []
      else t.sys.keCert = s.sys.keCert ∧ s.Answered t 4 [])) ∧
  (∀ s : State, s.mbxWaits 0x30 = true → s.mbxLen = 8 → s.mbxPayload.getD 0 0 ≤ 4 → s.mbxPayload.getD 1 0 < 4 →
    ∃ t, exec .mbxPtpDs s = .next t ∧ s.Answered t 0 (wordsOf 62 (s.dataSet (s.mbxPayload.getD 0 0) (s.mbxPayload.getD 1 0)))) ∧
  (∀ s : State, s.mbxWaits 0x40 = true →
    (s.mbxLen = 4 → s.mbxPayload.getD 0 0 = 0 → ∃ t, exec .mbxNav s = .next t ∧ s.Answered t 0 [] ∧ t.bit F.GNS_STAT.SURVEY = true ∧
      t.bit F.GNS_STAT.HOLD = false ∧ t.get F.GNS_SURVEY.LEFT = 3600 ∧ t.sel.posHeld = false) ∧
    (s.mbxLen = 16 → s.mbxPayload.getD 0 0 = 1 → s.mbxPayload.getD 1 0 ≤ 900000000 → s.mbxPayload.getD 2 0 ≤ 1800000000 → s.mbxPayload.getD 3 0 < 2 ^ 32 →
      ∃ t, exec .mbxNav s = .next t ∧ s.Answered t 0 [] ∧ t.get F.GNS_LAT.LAT = s.mbxPayload.getD 1 0 ∧ t.get F.GNS_LON.LON = s.mbxPayload.getD 2 0 ∧
        t.get F.GNS_HGT.HGT = s.mbxPayload.getD 3 0 ∧ t.bit F.GNS_STAT.HOLD = true ∧ t.bit F.GNS_STAT.SURVEY = false) ∧
    (s.mbxLen = 8 → ∃ t, exec .mbxNav s = .next t ∧ s.Answered t 2 [] ∧ t.sel = s.sel)) ∧
  (∀ s : State, s.mbxWaits 0x50 = true → s.mbxLen = 8 →
    let a := s.mbxPayload.getD 0 0
    let n := s.mbxPayload.getD 1 0
    4096 ≤ n → a + n ≤ 0x3000000 →
    let b := (Config.firmwareLog s.free).drop ((Config.firmwareLog s.free).length - n)
    ∃ t, exec .mbxLog s = .next t ∧ s.Answered t 0 [b.length] ∧ t.sramRead a b.length = b) ∧
  (∀ (s : State) (w : List Nat), s.bit F.SUP_STATUS.READY = true → s.bit F.SUP_MBX.S2HVALID = false → s.sys.answer = some w → w.length ≤ 64 →
    ∃ t, exec .mbxResponse s = .next t ∧ t.bit F.SUP_MBX.S2HVALID = true ∧ t.sys.answer = none ∧
      ∀ k < w.length, t.get (F.SUP_S2H.WORD k) = w.getD k 0 % 2 ^ 32) ∧
  (∀ s : State, s.bit F.SUP_STATUS.READY = true → s.bit F.SUP_MBX.S2HVALID = false → s.sys.answer = none → s.bit F.SUP_MBX.H2SBUSY = true →
    s.mbxOp ∉ mbxOps → ∃ t, exec .mbxResponse s = .next t ∧ t.bit F.SUP_MBX.S2HVALID = true ∧ t.bit F.SUP_MBX.H2SBUSY = false ∧
      t.get (F.SUP_S2H.WORD 0) % 65536 = s.mbxOp ∧ t.get (F.SUP_S2H.WORD 1) = 1)

/-- The watchdog restarts its period on a kick of a supervisor core and of no other requester; its expiry and a fatal error fail a start in stage 5,
and in stage 6 with STABLE set they begin a warm restart with STOP 7 or 8. Rules: R485. -/
def Obligations.WatchdogAndFatalErrors : Prop :=
  (∀ (s : State) (req : Requester), s.Serves req 0x1400008 → 100 ≤ s.get F.SUP_WDOG.PERIOD → s.get F.SUP_WDOG.PERIOD ≤ 60000 →
    (req.isSup = true → ∃ t, exec (.wdogKick req) s = .next t ∧ t.sys = { s.sys with wdogAt := s.raw + s.get F.SUP_WDOG.PERIOD * 625000 } ∧
      RegsBut [F.XBR_TSTAT.OWNER 6] s t) ∧
    (req.isSup = false → s.bit F.XBR_AERR.AERR = false → ∃ t, exec (.wdogKick req) s = .next t ∧ t.sys.wdogAt = s.sys.wdogAt ∧
      t.get F.XBR_AERR.CAUSE = 7 ∧ t.get F.XBR_AERRADDR.ADDR = 0x1400008)) ∧
  (∀ (s : State) (code : Nat), s.supply.on = true → s.supRuns = true → s.pair.warmWait = false →
    (s.stage = 6 → s.bit F.BOOT_STATUS.STABLE = true →
      (s.sys.wdogAt ≤ s.raw → ∃ t, exec .wdogExpiry s = .next t ∧ t.stage = 1 ∧ t.get F.BOOT_WHY.STOP = 7 ∧ t.bit F.BOOT_STATUS.WARM = true ∧
        t.raw = s.raw ∧ t.supply.on = true ∧ t.nv.record.warm = true ∧ t.nv.record.attempts = s.nv.record.attempts) ∧
      (∃ t, exec (.firmwareFatal code) s = .next t ∧ t.stage = 1 ∧ t.get F.BOOT_WHY.STOP = 8 ∧ t.bit F.BOOT_STATUS.WARM = true ∧
        t.raw = s.raw ∧ t.supply.on = true ∧ t.nv.record.warm = true ∧ t.nv.record.attempts = s.nv.record.attempts)) ∧
    (s.stage = 5 → ∃ t, exec (.firmwareFatal code) s = .next t ∧ t.supply.on = false ∧ t.nv.record.stop = 9 ∧ t.nv.record.why.head? = some 0x29 ∧
      t.nv.record.detail = code % 256 ∧ t.nv.record.attempts = min 255 (s.nv.record.attempts + 1)) ∧
    (s.raw < s.sys.wdogAt → exec .wdogExpiry s = .next s))

/-- A locked sequence holds its target from the read until its own write, the limit of 64 cycles or its master's reset; an atomic operation of 4 or
8 bytes on an open bank stores its result and answers with the old value; a write that comes too late leaves memory as it was. Rules: R493, R494,
R495, R502. -/
def Obligations.LocksAndAtomics : Prop :=
  (∀ (s : State) (m addr n k : Nat), m < 12 → s.supply.on = true → s.aborted m = false → bankOf addr = some k → s.lockOn k = none → s.sramReady k = true →
    s.sys.waits = [] → s.badWord addr n = false →
    ∃ t, exec (.lockedSequence m addr n none) s = .next t ∧ t.lockOn k = some (m, s.raw) ∧ t.bit (F.XBR_TSTAT.LOCKED k) = true ∧
      t.out = s.out ++ [.completion m 0 (s.sramRead addr n)] ∧ RegsBut [F.XBR_TSTAT.LOCKED k, F.XBR_TSTAT.OWNER k] s t ∧ MemorySame s t) ∧
  (∀ (s : State) (m addr k g : Nat) (b : List Byte), m < 12 → s.supply.on = true → s.aborted m = false → bankOf addr = some k → s.lockOn k = some (m, g) →
    s.sys.waits = [] →
    (s.raw ≤ g + 40 → ∃ t, exec (.lockedSequence m addr 0 (some b)) s = .next t ∧ t.lockOn k = none ∧ t.bit (F.XBR_TSTAT.LOCKED k) = false ∧
      t.out = s.out ++ [.completion m 0 []] ∧ t.sramRead addr b.length = b ∧
      (∀ a, a < addr ∨ addr + b.length ≤ a → memGet sramDefault t.sram a = memGet sramDefault s.sram a) ∧ RegsBut [F.XBR_TSTAT.LOCKED k] s t) ∧
    (g + 40 < s.raw → ∃ t, exec (.lockedSequence m addr 0 (some b)) s = .next t ∧ t.lockOn k = none ∧
      t.get (F.XBR_TSTAT.LOCKTO k) = min 65535 (s.get (F.XBR_TSTAT.LOCKTO k) + 1) ∧ MemorySame s t) ∧
    (g + 40 ≤ s.raw → ∃ t, exec (.lockTimeout k) s = .next t ∧ t.lockOn k = none ∧ t.bit (F.XBR_TSTAT.LOCKED k) = false ∧
      t.get (F.XBR_TSTAT.LOCKTO k) = min 65535 (s.get (F.XBR_TSTAT.LOCKTO k) + 1) ∧ RegsBut [F.XBR_TSTAT.LOCKTO k, F.XBR_TSTAT.LOCKED k] s t ∧
      MemorySame s t)) ∧
  (∀ (s : State) (m : Nat) (burst : Bool), m < 12 → s.sys.waits = [] →
    ∃ t, exec (.masterReset m burst) s = .next t ∧ t.aborted m = (s.aborted m || burst) ∧ (∀ k g, t.lockOn k ≠ some (m, g)) ∧ MemorySame s t) ∧
  (∀ (s : State) (kind : AtomicKind) (n addr k a b : Nat), n = 4 ∨ n = 8 → s.supply.on = true → s.aborted 4 = false → bankOf addr = some k →
    s.bankOpen addr = true → s.lockOn k = none → s.sramReady k = true → s.sys.waits = [] → s.badWord addr n = false →
    (∃ t, exec (.atomicOp kind .bar2 n addr a b false) s = .next t ∧ t.out = s.out ++ [.completion 4 0 (s.sramRead addr n)] ∧
      leAt (t.sramRead addr n) 0 n = (match kind with
        | .fetchAdd => (leAt (s.sramRead addr n) 0 n + a) % 256 ^ n
        | .swap => a % 256 ^ n
        | .cas => if leAt (s.sramRead addr n) 0 n = a % 256 ^ n then b % 256 ^ n else leAt (s.sramRead addr n) 0 n) ∧
      (∀ x, x < addr ∨ addr + n ≤ x → memGet sramDefault t.sram x = memGet sramDefault s.sram x) ∧ RegsBut [F.XBR_TSTAT.OWNER k] s t) ∧
    (∃ t, exec (.atomicOp kind .bar2 n addr a b true) s = .next t ∧ MemorySame s t ∧
      t.get (F.XBR_TSTAT.LOCKTO k) = min 65535 (s.get (F.XBR_TSTAT.LOCKTO k) + 1))) ∧
  (∀ (s : State) (kind : AtomicKind) (space : Space) (n addr a b : Nat) (late : Bool), space ≠ .bar2 ∨ (n ≠ 4 ∧ n ≠ 8) →
    exec (.atomicOp kind space n addr a b late) s = .next (s.emit (.completion 4 6 [])))

/-- The scrubber counts what it corrects and keeps what it cannot; XBR_HWIN belongs to the supervisor cores; the PCIe link's fall takes SPEED and
WIDTH to 0 and a reset of either kind empties the MSI-X table; training sets both again. Rules: R498, R501, R504, R557. -/
def Obligations.ScrubWindowAndLink : Prop :=
  (∀ (s : State) (addr : Nat), s.get (F.PWR_DOM_STAT.STATE 5) = 0 → addr < 0x3000000 →
    (∃ t, exec (.sramScrub [(addr, false)]) s = .next t ∧ t.get F.XBR_ECC.CE = min 65535 (s.get F.XBR_ECC.CE + 1) ∧ RegsOnly s t ∧
      RegsBut [F.XBR_ECC.CE] s t) ∧
    (∃ t, exec (.sramScrub [(addr, true)]) s = .next t ∧ t.bit F.XBR_ECC.UE = true ∧ t.get F.XBR_ECC.UECNT = min 255 (s.get F.XBR_ECC.UECNT + 1) ∧
      t.get F.XBR_ECCADDR.ADDR = addr / 8 * 8 ∧ t.badWord (addr / 8 * 8) 8 = true ∧ MemorySame s t)) ∧
  (∀ (s : State) (req : Requester) (data : Nat), s.Serves req 0x100001C →
    (req.isSup = true → ∃ t, exec (.xbrHwinWrite req data) s = .next t ∧ t.get F.XBR_HWIN.BANKS = data % 64 ∧ RegsOnly s t ∧
      RegsBut [F.XBR_HWIN.BANKS, F.XBR_TSTAT.OWNER 6] s t) ∧
    (req.isSup = false → s.bit F.XBR_AERR.AERR = false → ∃ t, exec (.xbrHwinWrite req data) s = .next t ∧
      t.get F.XBR_HWIN.BANKS = s.get F.XBR_HWIN.BANKS ∧ t.get F.XBR_AERR.CAUSE = 7 ∧ t.get F.XBR_AERRADDR.ADDR = 0x100001C)) ∧
  (∀ (s : State) (k : LinkReset), ∃ t, exec (.pcieLinkReset k) s = .next t ∧ t.sys.msixTable = [] ∧
    (k = .flr → t.bit F.SUP_LINK.FLR = true ∧ t.get F.SUP_LINK.SPEED = s.get F.SUP_LINK.SPEED) ∧
    (k ≠ .flr → t.bit F.SUP_LINK.LINKDN = true ∧ t.get F.SUP_LINK.SPEED = 0 ∧ t.get F.SUP_LINK.WIDTH = 0)) ∧
  (∀ (s : State) (speed width : Nat), 1 ≤ speed → speed ≤ 4 → width = 1 ∨ width = 2 ∨ width = 4 →
    ∃ t, exec (.pcieLinkUp speed width) s = .next t ∧ t.get F.SUP_LINK.SPEED = speed ∧ t.get F.SUP_LINK.WIDTH = width ∧
      RegsBut [F.SUP_LINK.SPEED, F.SUP_LINK.WIDTH] s t ∧ MemorySame s t)

/-! The power controller (spec/19_power.md). -/

/-- Requests: S1 enters at once, S2 and S3 wait for their condition and fall after 10 ms; a request on a sleeping domain wakes it; the domains whose
REQ is not the requester's to write answer with cause 7. Rules: R512, R513. -/
def Obligations.SleepRequests : Prop :=
  (∀ (s : State) (req : Requester) (d v : Nat), s.Reaches req (0x300100 + 0x20 * d) → 1 ≤ d → d < 13 → d ≠ 5 → d ≠ 11 → v < 4 → s.pwr.length = 13 →
    s.bit (F.PWR_DOM_STAT.ENTERING d) = false →
    (s.asleep d = false →
      ∃ t, exec (.pwrReqWrite req d v) s = .next t ∧ t.get (F.PWR_DOM_CTRL.REQ d) = v ∧
        (v = 0 → t.bit (F.PWR_DOM_STAT.WAITING d) = false) ∧
        (v = 1 → t.bit (F.PWR_DOM_STAT.ENTERING d) = true ∧ t.bit (F.PWR_DOM_STAT.WAITING d) = false ∧ (t.dm d).target = 1) ∧
        (2 ≤ v → t.bit (F.PWR_DOM_STAT.WAITING d) = true ∧ (s.bit (F.PWR_DOM_STAT.WAITING d) = false → (t.dm d).waitSince = s.raw)) ∧
        RegsBut [F.PWR_DOM_CTRL.REQ d, F.PWR_DOM_STAT.WAITING d, F.PWR_DOM_STAT.ENTERING d, F.XBR_TSTAT.OWNER 6] s t) ∧
    (s.asleep d = true → (s.dm d).wakeStart = none → v ≠ s.get (F.PWR_DOM_STAT.STATE d) →
      ∃ t, exec (.pwrReqWrite req d v) s = .next t ∧ t.get (F.PWR_DOM_CTRL.REQ d) = v ∧ (t.dm d).wakeStart = some s.raw ∧
        t.get (F.PWR_WAKE.WSRC d) = 1 ∧ t.get (F.PWR_WAKE.WREQ d) = 15)) ∧
  (∀ (s : State) (req : Requester) (v : Nat), s.Reaches req 0x300100 → s.bit F.XBR_AERR.AERR = false →
    ∃ t, exec (.pwrReqWrite req 0 v) s = .next t ∧ t.get F.XBR_AERR.CAUSE = 7 ∧ t.pwr = s.pwr) ∧
  (∀ (s : State) (req : Requester) (v : Nat), s.Reaches req 0x3001A0 → req.isSup = false → s.bit F.XBR_AERR.AERR = false →
    ∃ t, exec (.pwrReqWrite req 5 v) s = .next t ∧ t.get F.XBR_AERR.CAUSE = 7 ∧ t.pwr = s.pwr) ∧
  (∀ (s : State) (d : Nat), d < 13 → s.pwr.length = 13 → s.bit (F.PWR_DOM_STAT.WAITING d) = true →
    (s.mayEnter d = true → ∃ t, exec (.sleepEntryBegin d) s = .next t ∧ t.bit (F.PWR_DOM_STAT.WAITING d) = false ∧
      t.bit (F.PWR_DOM_STAT.ENTERING d) = true ∧ (t.dm d).target = s.get (F.PWR_DOM_CTRL.REQ d) ∧
      RegsBut [F.PWR_DOM_STAT.WAITING d, F.PWR_DOM_STAT.ENTERING d] s t) ∧
    (s.mayEnter d = false → exec (.sleepEntryBegin d) s = .next s) ∧
    ((s.dm d).waitSince + 6250000 ≤ s.raw → ∃ t, exec (.sleepRequestWithdrawn d) s = .next t ∧ t.get (F.PWR_DOM_CTRL.REQ d) = 0 ∧
      t.bit (F.PWR_DOM_STAT.WAITING d) = false ∧ t.bit (F.PWR_DOM_STAT.REFUSED d) = true ∧
      RegsBut [F.PWR_DOM_CTRL.REQ d, F.PWR_DOM_STAT.WAITING d, F.PWR_DOM_STAT.REFUSED d] s t)) ∧
  (∀ s : State, s.pwr.length = 13 → s.get (F.PWR_DOM_STAT.STATE 11) = 0 → s.bit (F.PWR_DOM_STAT.ENTERING 11) = false →
    ∃ t, exec .pciLowPowerEntry s = .next t ∧ t.bit (F.PWR_DOM_STAT.ENTERING 11) = true ∧ (t.dm 11).target = 1 ∧ t.sys.lowPower = true ∧
      RegsBut [F.PWR_DOM_STAT.WAITING 11, F.PWR_DOM_STAT.ENTERING 11] s t)

/-- Entry, wake and levels: the entry's end shows the state reached and from S2 on takes the replicas; a wake source is recorded with its master;
the stall's end shows S0 and after S2 begins the checks, whose failure sets RETFAIL; a quarter's level changes through PLCHG. Rules: R510, R513,
R514, R516. -/
def Obligations.EntryWakeAndLevels : Prop :=
  (∀ (s : State) (d : Nat), d < 13 → s.pwr.length = 13 → s.bit (F.PWR_DOM_STAT.ENTERING d) = true → (s.dm d).wakePending = none →
    ((s.dm d).target = 1 → ∃ t, exec (.sleepEntryComplete d) s = .next t ∧ t.bit (F.PWR_DOM_STAT.ENTERING d) = false ∧
      t.get (F.PWR_DOM_STAT.STATE d) = 1 ∧ t.get (F.PWR_SLEEP_CNT.ENTRIES d) = (s.get (F.PWR_SLEEP_CNT.ENTRIES d) + 1) % 2 ^ 32 ∧
      (t.dm d).sleepStart = s.raw ∧ t.tb = s.tb) ∧
    ((s.dm d).target = 2 → ∃ t, exec (.sleepEntryComplete d) s = .next t ∧ t.bit (F.PWR_DOM_STAT.ENTERING d) = false ∧
      t.get (F.PWR_DOM_STAT.STATE d) = 2 ∧ ∀ n ∈ domRoutes d, t.bit (F.HRT_TB_ROUTE.VALID n) = false)) ∧
  (∀ (s : State) (d src master : Nat), 1 ≤ d → d < 13 → 1 ≤ src → src ≤ 7 → master < 12 → s.pwr.length = 13 → s.bit (F.PWR_DOM_STAT.ENTERING d) = false →
    s.asleep d = true → (s.dm d).wakeStart = none →
    ∃ t, exec (.domainWake d src master) s = .next t ∧ (t.dm d).wakeStart = some s.raw ∧ t.get (F.PWR_WAKE.WSRC d) = src ∧
      t.get (F.PWR_WAKE.WREQ d) = (if src = 2 ∨ src = 3 then master else 15) ∧ t.bit (F.PWR_WAKE.DURING d) = false ∧
      t.get (F.PWR_WAKET.TICK d) = s.raw % 2 ^ 64 ∧ t.get (F.PWR_DOM_CTRL.REQ d) = 0 ∧
      t.get (F.PWR_SLEEP_ACC.TICKS d) = (s.get (F.PWR_SLEEP_ACC.TICKS d) + (s.raw - (s.dm d).sleepStart)) % 2 ^ 64) ∧
  (∀ (s : State) (d t0 : Nat), d < 13 → s.pwr.length = 13 → (s.dm d).wakeStart = some t0 → (s.dm d).heldPlvl = none → (s.dm d).stalled = [] →
    s.get (F.PWR_DOM_CTRL.REQ d) = 0 →
    ∃ t, exec (.wakeStallEnd d) s = .next t ∧ t.get (F.PWR_DOM_STAT.STATE d) = 0 ∧ (t.dm d).wakeStart = none ∧
      (t.dm d).checking = (if s.get (F.PWR_DOM_STAT.STATE d) = 2 then retBanks d else [])) ∧
  (∀ (s : State) (d bank : Nat), d < 13 → d ≠ 5 → s.pwr.length = 13 → bank ∈ (s.dm d).checking → (s.dm d).stalled = [] →
    ∃ t, exec (.retentionCheckDone d bank true) s = .next t ∧ (t.dm d).checking = (s.dm d).checking.filter (· != bank) ∧
      t.bit (F.PWR_DOM_STAT.CHECK d) = !(s.dm d).checking.all (· == bank) ∧ RegsBut [F.PWR_DOM_STAT.CHECK d] s t) ∧
  (∀ (s : State) (d bank : Nat), 1 ≤ d → d ≤ 4 → bank < 4 → s.pwr.length = 13 → bank ∈ (s.dm d).checking → (s.dm d).stalled = [] →
    ∃ t, exec (.retentionCheckDone d bank false) s = .next t ∧ (t.get (F.PWR_DOM_STAT.RETFAIL d)).testBit bank = true ∧
      t.bit (F.PKE_ENG.RUN (4 * (d - 1) + bank)) = false) ∧
  (∀ (s : State) (req : Requester) (d level : Nat), s.Reaches req (0x300100 + 0x20 * d) → 1 ≤ d → d ≤ 4 → level < 4 → s.pwr.length = 13 →
    s.bit (F.PWR_DOM_STAT.PLCHG d) = false → s.asleep d = false → s.bit (F.PWR_DOM_STAT.ENTERING d) = false → level ≠ s.get (F.PWR_DOM_STAT.PLVL d) →
    ∃ t, exec (.plvlWrite req d level) s = .next t ∧ t.get (F.PWR_DOM_CTRL.PLVL d) = level ∧ t.bit (F.PWR_DOM_STAT.PLCHG d) = true ∧
      (t.dm d).toLevel = level ∧ RegsBut [F.PWR_DOM_CTRL.PLVL d, F.PWR_DOM_STAT.PLCHG d, F.XBR_TSTAT.OWNER 6] s t) ∧
  (∀ (s : State) (d : Nat), 1 ≤ d → d ≤ 4 → s.pwr.length = 13 → s.bit (F.PWR_DOM_STAT.PLCHG d) = true → (s.dm d).heldPlvl = none → (s.dm d).toLevel < 4 →
    ∃ t, exec (.plvlChangeDone d) s = .next t ∧ t.get (F.PWR_DOM_STAT.PLVL d) = (s.dm d).toLevel ∧ t.bit (F.PWR_DOM_STAT.PLCHG d) = false ∧
      t.get (F.PKE_QSTAT.PLEVEL (d - 1)) = (s.dm d).toLevel ∧ RegsBut [F.PWR_DOM_STAT.PLVL d, F.PWR_DOM_STAT.PLCHG d, F.PKE_QSTAT.PLEVEL (d - 1)] s t)

/-! Performance monitoring (spec/20_pmu.md) and the front panel (spec/21_panel.md). -/

/-- Counters and samples: a count below 2³² changes nothing else, the overflow of one that is not chained sets its bit; control registers, counts,
FREEZE and CLRALL are written by no user-mode code; a tag is held until its instruction retires, whose record goes to the ring; the consumer index
takes records off it. Rules: R525, R526, R527, R532, R533, R534, R535. -/
def Obligations.PerformanceMonitoring : Prop :=
  (∀ (s : State) (set : PmuSet) (j n : Nat), pmuExists set j = true → s.pmuRuns set j = true → s.bit (pmuChain set j) = false →
    s.get (pmuEvt set j) ≠ 0 → pmuOwn set (s.get (pmuEvt set j)) = false → n < 2 ^ 32 →
    (s.get (pmuCnt set j) + n < 2 ^ 32 → ∃ t, exec (.pmuCounterOverflow set j n) s = .next t ∧ t.get (pmuCnt set j) = s.get (pmuCnt set j) + n ∧
      RegsOnly s t ∧ RegsBut [pmuCnt set j] s t) ∧
    (2 ^ 32 ≤ s.get (pmuCnt set j) + n → s.pmuChained set j = false → set = .cluster → s.bit F.PMU_CTRL.FRZOVF = false →
      ∃ t, exec (.pmuCounterOverflow set j n) s = .next t ∧ t.get (pmuCnt set j) = (s.get (pmuCnt set j) + n) % 2 ^ 32 ∧
        (t.get (pmuOvf set)).testBit j = true ∧ RegsBut [pmuCnt set j, pmuOvf set] s t)) ∧
  (∀ (s : State) (req : Requester) (k j data : Nat), k < 16 → j < 8 →
    (s.Serves req (0x1200100 + 0x40 * k + 4 * j) → req.isUser = false → j ≠ 0 ∨ data.testBit 7 = false →
      ∃ t, exec (.pmuCounterWrite req (.engine k) j true data) s = .next t ∧ t.get (F.PMU_ECTL.EVT k j) = data % 64 ∧
        t.bit (F.PMU_ECTL.EN k j) = data.testBit 6 ∧ t.bit (F.PMU_ECTL.CHAIN k j) = data.testBit 7 ∧ RegsOnly s t) ∧
    (s.Serves req (0x1200120 + 0x40 * k + 4 * j) → req.isUser = false →
      ∃ t, exec (.pmuCounterWrite req (.engine k) j false data) s = .next t ∧ t.get (F.PMU_ECNT.COUNT k j) = data % 2 ^ 32 ∧ RegsOnly s t ∧
        RegsBut [F.PMU_ECNT.COUNT k j, F.XBR_TSTAT.OWNER 6] s t) ∧
    (s.Serves req (0x1200120 + 0x40 * k + 4 * j) → req.isUser = true → s.bit F.XBR_AERR.AERR = false →
      ∃ t, exec (.pmuCounterWrite req (.engine k) j false data) s = .next t ∧ t.get (F.PMU_ECNT.COUNT k j) = s.get (F.PMU_ECNT.COUNT k j) ∧
        t.get F.XBR_AERR.CAUSE = 7)) ∧
  (∀ (s : State) (req : Requester), s.Serves req 0x1200000 → req.isUser = false → s.get F.PMU_CTRL.USER_EN ≤ 1 → s.get F.PMU_CTRL.FREEZE ≤ 1 →
    s.get F.PMU_CTRL.FRZOVF ≤ 1 →
    (∀ on : Bool, ∃ t, exec (.pmuFreezeWrite req on) s = .next t ∧ t.bit F.PMU_CTRL.FREEZE = on ∧ RegsOnly s t ∧
      RegsBut [F.PMU_CTRL.FREEZE, F.XBR_TSTAT.OWNER 6] s t) ∧
    (∃ t, exec (.pmuClrall req) s = .next t ∧ (∀ k j, k < 16 → j < 8 → t.get (F.PMU_ECNT.COUNT k j) = 0 ∧ t.get (F.PMU_EOVF.OVF k) = 0 ∧
        t.get (F.PMU_ECTL.EVT k j) = s.get (F.PMU_ECTL.EVT k j)) ∧
      (∀ j < 16, t.get (F.PMU_CCNT.COUNT j) = 0) ∧ t.get F.PMU_COVF.OVF = 0 ∧ t.pmu.ring = [] ∧ t.get F.PMU_SR_PROD.PROD = 0 ∧
      t.get F.PMU_SR_CONS.CONS = 0 ∧ t.get F.PMU_CTRL.FREEZE = s.get F.PMU_CTRL.FREEZE)) ∧
  (∀ (s : State) (k : Nat), k < 16 → s.bit F.PMU_PS_CTRL.EN = true → (s.get F.PMU_PS_ENG.MASK).testBit k = true →
    (k ∉ s.pmu.tags → exec (.preciseSampleTag k) s = .next { s with pmu := { s.pmu with tags := s.pmu.tags ++ [k] } }) ∧
    (k ∈ s.pmu.tags → ∃ t, exec (.preciseSampleTag k) s = .next t ∧ t.get F.PMU_PS_SKIP.SKIP = min (2 ^ 32 - 1) (s.get F.PMU_PS_SKIP.SKIP + 1) ∧
      RegsOnly s t ∧ RegsBut [F.PMU_PS_SKIP.SKIP] s t)) ∧
  (∀ (s : State) (k pc insn thread lat flags ctx : Nat), k < 16 → k ∈ s.pmu.tags → s.pmu.ring.length < 4096 →
    ∃ t r, exec (.preciseSampleRecord k pc insn thread lat flags ctx) s = .next t ∧ t.pmu.ring = s.pmu.ring ++ [r] ∧ r.length = 32 ∧
      leAt r 0 4 = pc % 2 ^ 32 ∧ leAt r 4 4 = insn % 2 ^ 32 ∧ leAt r 8 1 = k ∧ leAt r 12 2 = min 65535 lat ∧ k ∉ t.pmu.tags ∧
      t.get F.PMU_SR_PROD.PROD = (s.get F.PMU_SR_PROD.PROD + 1) % 8192 ∧ RegsOutside [0x11, 0x12] s t ∧ MemorySame s t) ∧
  (∀ (s : State) (req : Requester) (value : Nat), s.Serves req 0x1200918 → req.isUser = false →
    let n := (value % 8192 + 8192 - s.get F.PMU_SR_CONS.CONS) % 8192
    n ≤ s.pmu.ring.length →
    ∃ t, exec (.pmuSrConsWrite req value) s = .next t ∧ t.get F.PMU_SR_CONS.CONS = value % 8192 ∧ t.pmu.ring = s.pmu.ring.drop n ∧
      RegsBut [F.PMU_SR_CONS.CONS, F.XBR_TSTAT.OWNER 6] s t)

/-- Keys, touch, LEDs and the zeroise balls: DEB samples in a row change a key, a press of HOLD reports KHOLD and may ask for a swap; a capacitance
TTHR above its baseline is a touch, 60 s of one end it; the LEDs show their conditions; the count of both balls starts zeroise. Rules: R537, R539,
R540, R541, R543. -/
def Obligations.FrontPanel : Prop :=
  (∀ (s : State) (low : Nat) (a b : Bool) (k : Nat), s.supply.on = true → k < 8 →
    s.get F.PNL_KCFG.DEB ≤ (s.pnl.keys.getD k {}).run + 1 →
    (low.testBit k = true → (s.get F.PNL_KSTAT.KDOWN).testBit k = false → ∃ t, exec (.keySample low a b) s = .next t ∧
      (t.get F.PNL_KSTAT.KDOWN).testBit k = true ∧ (t.get F.PNL_KEV.KPRESS).testBit k = true ∧ t.bit F.PNL_ZSTAT.A = a ∧ t.bit F.PNL_ZSTAT.B = b ∧
      t.pnl.zBoth = (if a && b then s.pnl.zBoth + 1 else 0) ∧ t.pnl.zOne = (if a != b then s.pnl.zOne + 1 else 0) ∧ RegsOutside [0x11, 0x13] s t) ∧
    (low.testBit k = false → (s.get F.PNL_KSTAT.KDOWN).testBit k = true → ∃ t, exec (.keySample low a b) s = .next t ∧
      (t.get F.PNL_KSTAT.KDOWN).testBit k = false ∧ (t.get F.PNL_KEV.KREL).testBit k = true)) ∧
  (∀ (s : State) (k : Nat), k < 8 → (s.get F.PNL_KSTAT.KDOWN).testBit k = true → (s.pnl.keys.getD k {}).held = false →
    (s.pnl.keys.getD k {}).downAt + s.holdTicks ≤ s.raw →
    (s.kact k ≠ 2 → ∃ t, exec (.keyHold k) s = .next t ∧ (t.get F.PNL_KEV.KHOLD).testBit k = true ∧ t.pair = s.pair ∧
      RegsBut [F.PNL_KEV.KHOLD] s t) ∧
    (s.kact k = 2 → s.role = 1 → s.pairState = 5 → s.bit F.PAIR_CTRL.SWAP = false → s.pair.swap = none → ∃ t, exec (.keyHold k) s = .next t ∧
      t.pair.swap = some (s.swapSecond, false) ∧ t.bit F.PAIR_CTRL.SWAP = true)) ∧
  (∀ (s : State) (caps : List Nat) (k c : Nat) (b : Rat), s.supply.on = true → k < 4 → s.pnl.touch.length = 4 → caps[k]? = some c → 500 ≤ c → c ≤ 5000 →
    (s.pnl.touch.getD k {}).base = some b → (s.get F.PNL_KSTAT.TDOWN).testBit k = false →
    ((s.get F.PNL_TCFG.TTHR : Rat) ≤ (c : Rat) - b → ∃ t, exec (.touchSample caps) s = .next t ∧ (t.get F.PNL_KSTAT.TDOWN).testBit k = true ∧
      (t.get F.PNL_TEV.TPRESS).testBit k = true ∧ t.get (F.PNL_TCAP.C k) = c ∧ (t.pnl.touch.getD k {}).base = some b) ∧
    ((c : Rat) - b < (s.get F.PNL_TCFG.TTHR : Rat) → ∃ t, exec (.touchSample caps) s = .next t ∧ (t.get F.PNL_KSTAT.TDOWN).testBit k = false ∧
      t.get (F.PNL_TCAP.C k) = c ∧ (t.pnl.touch.getD k {}).base = some (b + ((c : Rat) - b) / 256))) ∧
  (∀ (s : State) (k : Nat), k < 4 → s.pnl.touch.length = 4 → (s.get F.PNL_KSTAT.TDOWN).testBit k = true →
    (s.pnl.touch.getD k {}).downAt + 37500000000 ≤ s.raw →
    ∃ t, exec (.touchTimeout k) s = .next t ∧ (t.get F.PNL_KSTAT.TDOWN).testBit k = false ∧ (t.get F.PNL_TEV.TREL).testBit k = true ∧
      (t.pnl.touch.getD k {}).base = some (s.get (F.PNL_TCAP.C k) : Rat)) ∧
  (∀ s : State, s.supply.on = true → ∃ t, exec .ledUpdate s = .next t ∧ (∀ n < 16, t.bit (F.PNL_LED.LIT n) = s.ledLit n) ∧ RegsOnly s t ∧
    RegsBut ((List.range 16).map F.PNL_LED.LIT) s t) ∧
  (∀ (s : State) (n : Nat), n < 16 → s.bit (F.PNL_LED.LIT n) = true → ∃ t, exec (.ledopen n) s = .next t ∧ t.bit (F.PNL_LED.LEDOPEN n) = true ∧
    RegsBut [F.PNL_LED.LEDOPEN n] s t ∧ EventsOnly s t) ∧
  (∀ s : State, s.supply.on = true → s.pnl.zDone = false → s.get F.PNL_ZCFG.ZHOLD * 100 ≤ s.pnl.zBoth → 0 < s.pnl.zBoth →
    ∃ t, exec .zeroiseCountComplete s = .next t ∧ t.bit F.PNL_ZSTAT.ZSTART = true ∧ t.bit F.PNL_ZSTAT.COUNTING = false ∧ t.pnl.zDone = true ∧
      t.bit F.KVT_STAT.ZEROISED = true ∧ t.nv.zepoch = (if s.nv.zepoch < 32 then s.nv.zepoch + 1 else 32))

/-- Exactly one of ZERO_A and ZERO_B asserted in each sample for 1 s (1,000 samples, one each millisecond) sets ZFAULT and raises the panel event;
nothing else happens, and with fewer samples nothing at all. Rules: R543, R544. -/
def Obligations.OneZeroiseBallAlone : Prop :=
  (∀ (s : State) (low : Nat) (a b : Bool), s.supply.on = true →
    ∃ t, exec (.keySample low a b) s = .next t ∧ t.pnl.zOne = (if a != b then s.pnl.zOne + 1 else 0) ∧ (a = b → t.pnl.zFaulted = false)) ∧
  (∀ s : State, s.pnl.zFaulted = false → 1000 ≤ s.pnl.zOne → ∃ t, exec .zfault s = .next t ∧ t.bit F.PNL_ZSTAT.ZFAULT = true ∧
    (s.bit F.PNL_ZSTAT.ZFAULT = false → t.get (F.EVT_COUNT.COUNT 85) = (s.get (F.EVT_COUNT.COUNT 85) + 1) % 2 ^ 32 ∧ t.evPending 0 85 = true ∧
      t.evPending 1 85 = true) ∧
    RegsBut [F.PNL_ZSTAT.ZFAULT] s t ∧
    t = { s with regs := t.regs, evt := t.evt, sys := t.sys, out := t.out, pnl := { s.pnl with zFaulted := true } }) ∧
  (∀ s : State, s.pnl.zOne < 1000 → exec .zfault s = .next s)

/-! Events (spec/22_events.md) and register accesses (spec/00_scope.md, spec/18_system.md). -/

/-- A write of EVT_SWSET raises one occurrence of SWk for each bit k that is set, from any requester, and an engine thread raises SW0 to SW15 with
its signal instruction: the count, PEND on both sides, and where a side enables the event one record with INST the master number and DETAIL the
engine number for a thread and 0xFF otherwise. Rules: R558. -/
def Obligations.SoftwareEvents : Prop :=
  (∀ (s : State) (req : Requester) (bits : Nat), s.Reaches req 0x1100000 →
    ∃ t, exec (.evtSwset req bits) s = .next t ∧ RegsBut [F.XBR_TSTAT.OWNER 6] s t ∧ MemorySame s t ∧ ∀ k < 24,
      (bits.testBit k = true → t.get (F.EVT_COUNT.COUNT (swEvent k)) = (s.get (F.EVT_COUNT.COUNT (swEvent k)) + 1) % 2 ^ 32 ∧
        t.evPending 0 (swEvent k) = true ∧ t.evPending 1 (swEvent k) = true) ∧
      (bits.testBit k = false → t.get (F.EVT_COUNT.COUNT (swEvent k)) = s.get (F.EVT_COUNT.COUNT (swEvent k)))) ∧
  (∀ (s : State) (req : Requester) (k : Nat), k < 24 → s.Reaches req 0x1100000 → s.evEnabled 0 (swEvent k) = true →
    (s.get (F.EVT_QSTAT.PROD 0) + 256 - s.get (F.EVT_QCONS.CONS 0)) % 256 < 32 → s.evt.q0.length = 32 →
    ∃ t, exec (.evtSwset req (2 ^ k)) s = .next t ∧ t.get (F.EVT_QSTAT.PROD 0) = (s.get (F.EVT_QSTAT.PROD 0) + 1) % 256 ∧
      t.evt.seq0 = (s.evt.seq0 + 1) % 2 ^ 32 ∧ t.evt.q0.getD (s.get (F.EVT_QSTAT.PROD 0) % 32) {} =
        { ev := swEvent k, bit := 0xFF, inst := req.master, seq := s.evt.seq0, raw := s.now, detail := 0xFF, noraw := false }) ∧
  (∀ (s : State) (req : Requester) (k : Nat), k < 24 → s.Reaches req 0x1100000 → s.evEnabled 1 (swEvent k) = true →
    (s.get (F.EVT_QSTAT.PROD 1) + 256 - s.get (F.EVT_QCONS.CONS 1)) % 256 < 32 → s.evt.q1.length = 32 →
    ∃ t, exec (.evtSwset req (2 ^ k)) s = .next t ∧ t.get (F.EVT_QSTAT.PROD 1) = (s.get (F.EVT_QSTAT.PROD 1) + 1) % 256 ∧
      t.evt.seq1 = (s.evt.seq1 + 1) % 2 ^ 32 ∧ t.evt.q1.getD (s.get (F.EVT_QSTAT.PROD 1) % 32) {} =
        { ev := swEvent k, bit := 0xFF, inst := req.master, seq := s.evt.seq1, raw := s.now, detail := 0xFF, noraw := false }) ∧
  (∀ (s : State) (engine k : Nat), engine < 16 → k < 16 →
    (∃ t, exec (.signalInstruction engine k) s = .next t ∧ t.get (F.EVT_COUNT.COUNT (48 + k)) = (s.get (F.EVT_COUNT.COUNT (48 + k)) + 1) % 2 ^ 32 ∧
      t.evPending 0 (48 + k) = true ∧ t.evPending 1 (48 + k) = true ∧ RegsOutside [0x11] s t ∧ EventsOnly s t) ∧
    (s.evEnabled 0 (48 + k) = true → (s.get (F.EVT_QSTAT.PROD 0) + 256 - s.get (F.EVT_QCONS.CONS 0)) % 256 < 32 → s.evt.q0.length = 32 →
      ∃ t, exec (.signalInstruction engine k) s = .next t ∧ t.get (F.EVT_QSTAT.PROD 0) = (s.get (F.EVT_QSTAT.PROD 0) + 1) % 256 ∧
        t.evt.seq0 = (s.evt.seq0 + 1) % 2 ^ 32 ∧ t.evt.q0.getD (s.get (F.EVT_QSTAT.PROD 0) % 32) {} =
          { ev := 48 + k, bit := 0xFF, inst := 6, seq := s.evt.seq0, raw := s.now, detail := engine, noraw := false }) ∧
    (s.evEnabled 1 (48 + k) = true → (s.get (F.EVT_QSTAT.PROD 1) + 256 - s.get (F.EVT_QCONS.CONS 1)) % 256 < 32 → s.evt.q1.length = 32 →
      ∃ t, exec (.signalInstruction engine k) s = .next t ∧ t.get (F.EVT_QSTAT.PROD 1) = (s.get (F.EVT_QSTAT.PROD 1) + 1) % 256 ∧
        t.evt.seq1 = (s.evt.seq1 + 1) % 2 ^ 32 ∧ t.evt.q1.getD (s.get (F.EVT_QSTAT.PROD 1) % 32) {} =
          { ev := 48 + k, bit := 0xFF, inst := 6, seq := s.evt.seq1, raw := s.now, detail := engine, noraw := false }))

/-- A record that finds its queue full is dropped, which counts in LOST and raises EV87; timers raise at their target, once where PER is 0 and every
PER milliseconds else; a consumer index moves forwards and to PROD at most; an enable is written whole. Rules: R555, R556, R558, R559. -/
def Obligations.TimersQueuesAndEnables : Prop :=
  (∀ (s : State) (engine k : Nat), engine < 16 → k < 16 → s.evEnabled 0 (48 + k) = true →
    32 ≤ (s.get (F.EVT_QSTAT.PROD 0) + 256 - s.get (F.EVT_QCONS.CONS 0)) % 256 →
    ∃ t, exec (.signalInstruction engine k) s = .next t ∧ t.get (F.EVT_QSTAT.PROD 0) = s.get (F.EVT_QSTAT.PROD 0) ∧ t.evt.q0 = s.evt.q0 ∧
      t.get (F.EVT_QSTAT.LOST 0) = min 255 (s.get (F.EVT_QSTAT.LOST 0) + 1) ∧ t.evPending 0 87 = true) ∧
  (∀ (s : State) (req : Requester) (n sec ns per d : Nat), n < 5 → s.Reaches req (0x1100048 + 0x10 * n) → ns < 1000000000 → sec < 2 ^ 48 → per < 2 ^ 32 →
    s.evt.targets.length = 5 → s.dnow = some d →
    ((d < (sec * 1000000000 + ns) * 65536 → ∃ t, exec (.evtTimerArm req n sec ns per) s = .next t ∧ t.bit (F.EVT_TMR_NS.EN n) = true ∧
        t.get (F.EVT_TMR_NS.NS n) = ns ∧ t.get (F.EVT_TMR_PER.PER n) = per ∧ t.evt.targets.getD n 0 = sec * 1000000000 + ns ∧
        t.get (F.EVT_COUNT.COUNT (27 + n)) = s.get (F.EVT_COUNT.COUNT (27 + n))) ∧
     ((sec * 1000000000 + ns) * 65536 ≤ d → per = 0 → ∃ t, exec (.evtTimerArm req n sec ns per) s = .next t ∧ t.bit (F.EVT_TMR_NS.EN n) = false ∧
        t.get (F.EVT_COUNT.COUNT (27 + n)) = (s.get (F.EVT_COUNT.COUNT (27 + n)) + 1) % 2 ^ 32))) ∧
  (∀ (s : State) (req : Requester) (n sec ns per : Nat), n < 5 → s.Reaches req (0x1100048 + 0x10 * n) → 1000000000 ≤ ns → s.bit F.XBR_AERR.AERR = false →
    ∃ t, exec (.evtTimerArm req n sec ns per) s = .next t ∧ t.get F.XBR_AERR.CAUSE = 4 ∧ t.get (F.EVT_TMR_NS.EN n) = s.get (F.EVT_TMR_NS.EN n) ∧
      t.evt.targets = s.evt.targets) ∧
  (∀ (s : State) (n d : Nat), n < 5 → s.dnow = some d → s.bit (F.EVT_TMR_NS.EN n) = true → s.evt.targets.length = 5 →
    (s.evt.targets.getD n 0 * 65536 ≤ d → ∃ t, exec (.evtTimerExpiry n) s = .next t ∧
      t.get (F.EVT_COUNT.COUNT (27 + n)) = (s.get (F.EVT_COUNT.COUNT (27 + n)) + 1) % 2 ^ 32 ∧
      (s.get (F.EVT_TMR_PER.PER n) = 0 → t.bit (F.EVT_TMR_NS.EN n) = false) ∧
      (s.get (F.EVT_TMR_PER.PER n) ≠ 0 → t.bit (F.EVT_TMR_NS.EN n) = true ∧
        t.evt.targets.getD n 0 = s.evt.targets.getD n 0 + s.get (F.EVT_TMR_PER.PER n) * 1000000) ∧ RegsOutside [0x11] s t) ∧
    (d < s.evt.targets.getD n 0 * 65536 → exec (.evtTimerExpiry n) s = .next s)) ∧
  (∀ (s : State) (req : Requester) (side v : Nat), side < 2 → s.Reaches req (0x1101024 + 0x1000 * side) →
    let room := (s.get (F.EVT_QSTAT.PROD side) + 256 - s.get (F.EVT_QCONS.CONS side)) % 256
    let move := (v % 256 + 256 - s.get (F.EVT_QCONS.CONS side)) % 256
    (move ≤ room → ∃ t, exec (.evtQconsWrite req side v) s = .next t ∧ t.get (F.EVT_QCONS.CONS side) = v % 256 ∧ t.evt = s.evt ∧
      RegsBut [F.XBR_TSTAT.OWNER 6] s t) ∧
    (room < move → s.bit F.XBR_AERR.AERR = false → ∃ t, exec (.evtQconsWrite req side v) s = .next t ∧
      t.get (F.EVT_QCONS.CONS side) = s.get (F.EVT_QCONS.CONS side) ∧ t.get F.XBR_AERR.CAUSE = 7)) ∧
  (∀ (s : State) (req : Requester) (side group v : Nat), side < 2 → group < 3 → v < 2 ^ 32 → s.Reaches req (0x1101010 + 0x1000 * side + 4 * group) →
    ∃ t, exec (.evtEnWrite req side group v) s = .next t ∧ t.get (F.EVT_EN.EN side group) = v ∧
      (∀ f : Fld, f.key ≠ (F.EVT_EN.EN side group).key → f.key ≠ (F.XBR_TSTAT.OWNER 6).key → t.get f = s.get f) ∧
      ((∀ k < 32, s.evPending side (32 * group + k) = false) → t.out = s.out ∧ t.sys = s.sys))

/-- A read of an offset that holds no register returns 0; a write to such an offset is discarded and raises the access-error event. Rules: R16. -/
def Obligations.OffsetsWithoutRegister : Prop :=
  ∀ (s : State) (req : Requester) (off : Nat), s.Serves req off → off % 4 = 0 → off < 0x4000000 → findReg off = none →
    (∃ t, exec (.snapshotRead req .bar0 off) s = .next t ∧ t.out = s.out ++ [.readback req.idx 0] ∧
      RegsBut [F.XBR_TSTAT.OWNER 6, F.GLB_DBG.TAPACT] s t ∧ MemorySame s t) ∧
    (∀ data : Nat, s.bit F.XBR_AERR.AERR = false → s.pair.warmWait = false →
      ∃ t, exec (.registerWrite req .bar0 off data 15) s = .next t ∧ t.bit F.XBR_AERR.AERR = true ∧ t.get F.XBR_AERR.CAUSE = 3 ∧
        t.get F.XBR_AERRADDR.ADDR = off ∧ t.get F.XBR_AERR.REQ = req.master ∧
        t.get (F.EVT_COUNT.COUNT 64) = (s.get (F.EVT_COUNT.COUNT 64) + 1) % 2 ^ 32 ∧ t.evPending 0 64 = true ∧ t.evPending 1 64 = true ∧
        RegsBut [F.XBR_TSTAT.OWNER 6, F.GLB_DBG.TAPACT, F.XBR_AERR.AERR, F.XBR_AERR.REQ, F.XBR_AERR.CAUSE, F.XBR_AERRADDR.ADDR] s t ∧ MemorySame s t)

/-- Register accesses: a write with a byte enable off is an access error of cause 2; a read-write field takes the written value and a read returns
it; a bit that a 1 clears; a value out of range. Rules: R11, R18. -/
def Obligations.RegisterAccesses : Prop :=
  (∀ (s : State) (req : Requester) (off data be : Nat), s.Serves req off → off % 4 = 0 → off < 0x4000000 → req ≠ .jtag → be < 15 →
    s.bit F.XBR_AERR.AERR = false → s.pair.warmWait = false →
    ∃ t, exec (.registerWrite req .bar0 off data be) s = .next t ∧ t.get F.XBR_AERR.CAUSE = 2 ∧ t.get F.XBR_AERRADDR.ADDR = off ∧
      RegsBut [F.XBR_TSTAT.OWNER 6, F.XBR_AERR.AERR, F.XBR_AERR.REQ, F.XBR_AERR.CAUSE, F.XBR_AERRADDR.ADDR] s t ∧ MemorySame s t) ∧
  (∀ (s : State) (req : Requester) (data : Nat), s.pair.warmWait = false → s.rcp.locks = [] → req ≠ .jtag →
    (s.Serves req 0x1C →
      (∃ t, exec (.registerWrite req .bar0 0x1C data 15) s = .next t ∧ t.get F.GLB_SCRATCH.DATA = data % 2 ^ 32 ∧
        RegsBut [F.GLB_SCRATCH.DATA, F.XBR_TSTAT.OWNER 6] s t ∧ RegsOnly s t) ∧
      (s.get F.GLB_SCRATCH.DATA < 2 ^ 32 → ∃ t, exec (.snapshotRead req .bar0 0x1C) s = .next t ∧
        t.out = s.out ++ [.readback req.idx (s.get F.GLB_SCRATCH.DATA)] ∧ RegsBut [F.XBR_TSTAT.OWNER 6] s t)) ∧
    (s.Serves req 0x8 → ∃ t, exec (.registerWrite req .bar0 0x8 data 15) s = .next t ∧
      (data.testBit 12 = true → t.bit F.GLB_SUPPLY.UVW = false) ∧ (data.testBit 12 = false → s.get F.GLB_SUPPLY.UVW ≤ 1 →
        t.get F.GLB_SUPPLY.UVW = s.get F.GLB_SUPPLY.UVW) ∧ t.get F.GLB_SUPPLY.VIN = s.get F.GLB_SUPPLY.VIN) ∧
    (s.Serves req 0x10000C → 10 ≤ data % 65536 → data % 65536 ≤ 600 → ∃ t, exec (.registerWrite req .bar0 0x10000C data 15) s = .next t ∧
      t.get F.BOOT_LIMIT.LIMIT = data % 65536) ∧
    (s.Serves req 0x10000C → data % 65536 < 10 → s.bit F.XBR_AERR.AERR = false → ∃ t, exec (.registerWrite req .bar0 0x10000C data 15) s = .next t ∧
      t.get F.BOOT_LIMIT.LIMIT = s.get F.BOOT_LIMIT.LIMIT ∧ t.get F.XBR_AERR.CAUSE = 7)) ∧
  (∀ (s : State) (addr k data : Nat), s.supply.on = true → s.aborted 4 = false → bankOf addr = some k → s.bankOpen addr = true → s.stage ≠ 7 →
    s.lockOn k = none → s.sramReady k = true → s.sys.waits = [] → s.pair.warmWait = false → addr < 0x4000000 →
    (s.badWord addr 4 = false → ∃ t, exec (.snapshotRead .host .bar2 addr) s = .next t ∧ t.out = s.out ++ [.completion 4 0 (s.sramRead addr 4)] ∧
      RegsBut [F.XBR_TSTAT.OWNER k] s t ∧ MemorySame s t) ∧
    (∃ t, exec (.registerWrite .host .bar2 addr data 15) s = .next t ∧ t.sramRead addr 4 = leBytes 4 data ∧
      (∀ a, a < addr ∨ addr + 4 ≤ a → memGet sramDefault t.sram a = memGet sramDefault s.sram a) ∧ RegsBut [F.XBR_TSTAT.OWNER k] s t))
end

