-- ==== Sys2Proof/Laws/Store.lean ====
section
/-! SUPPORT. The laws of the two association lists of the state: the register store and a memory. A read after a write answers the
value written, a write leaves every other place alone, and every operation keeps the canonical form. -/

namespace Sys2Proof.Machine

/-! The register store. -/

theorem storeGet_erase_self (l : List (Nat × Nat)) (q : Nat) : storeGet (storeErase l q) q = 0 := by
  induction l with
  | nil => rfl
  | cons e t ih => obtain ⟨k, v⟩ := e; simp only [storeErase]; split <;> simp_all [storeGet]

theorem storeGet_erase_ne (l : List (Nat × Nat)) {q r : Nat} (h : r ≠ q) : storeGet (storeErase l q) r = storeGet l r := by
  induction l with
  | nil => rfl
  | cons e t ih => obtain ⟨k, v⟩ := e; simp only [storeErase]; split <;> simp_all [storeGet]

theorem storeGet_put_self (l : List (Nat × Nat)) (q x : Nat) : storeGet (storePut l q x) q = x := by
  induction l with
  | nil => simp [storePut, storeGet]
  | cons e t ih =>
    obtain ⟨k, v⟩ := e; simp only [storePut]
    split
    · simp [storeGet]
    · split <;> simp_all [storeGet]

theorem storeGet_put_ne (l : List (Nat × Nat)) {q r : Nat} (x : Nat) (h : r ≠ q) : storeGet (storePut l q x) r = storeGet l r := by
  induction l with
  | nil => simp [storePut, storeGet, h]
  | cons e t ih =>
    obtain ⟨k, v⟩ := e; simp only [storePut]
    split
    · simp [storeGet, h]
    · split <;> simp_all [storeGet]

/-- A read after a write of the same key. -/
@[simp] theorem storeGet_storeSet_self (l : List (Nat × Nat)) (q x : Nat) : storeGet (storeSet l q x) q = x := by
  unfold storeSet; split
  · simp_all [storeGet_erase_self]
  · exact storeGet_put_self l q x

/-- A write leaves every other key alone. -/
theorem storeGet_storeSet_ne (l : List (Nat × Nat)) {q r : Nat} (x : Nat) (h : r ≠ q) :
    storeGet (storeSet l q x) r = storeGet l r := by
  unfold storeSet; split
  · exact storeGet_erase_ne l h
  · exact storeGet_put_ne l x h

/-- A bound below every key of a canonical store. -/
def belowKeys : Option Nat → Nat → Bool
  | none, _ => true
  | some m, k => decide (m < k)

theorem storeWfFrom_cons (b : Option Nat) (k v : Nat) (t : List (Nat × Nat)) :
    storeWfFrom b ((k, v) :: t) = (belowKeys b k && (v != 0) && storeWfFrom (some k) t) := by cases b <;> rfl

theorem storeWfFrom_weaken {b : Option Nat} {m : Nat} {l : List (Nat × Nat)} (hb : belowKeys b m = true)
    (h : storeWfFrom (some m) l = true) : storeWfFrom b l = true := by
  cases l with
  | nil => cases b <;> rfl
  | cons e t =>
    obtain ⟨k, v⟩ := e
    cases b with
    | none => simp_all [storeWfFrom_cons, belowKeys]
    | some n => simp_all [storeWfFrom_cons, belowKeys]; omega

theorem storeWfFrom_erase {b : Option Nat} {l : List (Nat × Nat)} (q : Nat) (h : storeWfFrom b l = true) :
    storeWfFrom b (storeErase l q) = true := by
  induction l generalizing b with
  | nil => exact h
  | cons e t ih =>
    obtain ⟨k, v⟩ := e
    simp only [storeWfFrom_cons, Bool.and_eq_true] at h
    obtain ⟨⟨hb, hv⟩, ht⟩ := h
    simp only [storeErase]; split
    · exact ih (storeWfFrom_weaken hb ht)
    · simp [storeWfFrom_cons, hb, hv, ih ht]

theorem storeWfFrom_put {b : Option Nat} {l : List (Nat × Nat)} {q x : Nat} (hx : x ≠ 0) (hq : belowKeys b q = true)
    (h : storeWfFrom b l = true) : storeWfFrom b (storePut l q x) = true := by
  induction l generalizing b with
  | nil => simp [storePut, storeWfFrom_cons, hq, hx, storeWfFrom]
  | cons e t ih =>
    obtain ⟨k, v⟩ := e
    simp only [storeWfFrom_cons, Bool.and_eq_true] at h
    obtain ⟨⟨hb, hv⟩, ht⟩ := h
    simp only [storePut]
    split
    · simp [storeWfFrom_cons, hq, hx, hv, ht]; simpa [belowKeys]
    · split
      · subst_vars; simp [storeWfFrom_cons, hq, hx, ht]
      · simp [storeWfFrom_cons, hb, hv]
        exact ih (by simp [belowKeys]; omega) ht

/-- A write of the register store keeps its canonical form. -/
theorem storeWf_storeSet {l : List (Nat × Nat)} (q x : Nat) (h : storeWf l = true) : storeWf (storeSet l q x) = true := by
  unfold storeSet storeWf at *; split
  · exact storeWfFrom_erase q h
  · exact storeWfFrom_put ‹_› rfl h

/-- Dropping entries keeps the canonical form. -/
theorem storeWfFrom_filter {b : Option Nat} {l : List (Nat × Nat)} (p : Nat × Nat → Bool) (h : storeWfFrom b l = true) :
    storeWfFrom b (l.filter p) = true := by
  induction l generalizing b with
  | nil => exact h
  | cons e t ih =>
    obtain ⟨k, v⟩ := e
    simp only [storeWfFrom_cons, Bool.and_eq_true] at h
    obtain ⟨⟨hb, hv⟩, ht⟩ := h
    rw [List.filter_cons]; split
    · simp [storeWfFrom_cons, hb, hv, ih ht]
    · exact ih (storeWfFrom_weaken hb ht)

/-! A memory: the same list laws for bytes, with the default `d` in the place of 0. -/

theorem memGet_erase_self (d : Byte) (l : List Host.Cell) (a : Nat) : memGet d (memErase l a) a = d := by
  induction l with
  | nil => rfl
  | cons e t ih => obtain ⟨k, v⟩ := e; simp only [memErase]; split <;> simp_all [memGet]

theorem memGet_erase_ne (d : Byte) (l : List Host.Cell) {a b : Nat} (h : b ≠ a) : memGet d (memErase l a) b = memGet d l b := by
  induction l with
  | nil => rfl
  | cons e t ih => obtain ⟨k, v⟩ := e; simp only [memErase]; split <;> simp_all [memGet]

theorem memGet_put_self (d : Byte) (l : List Host.Cell) (a : Nat) (x : Byte) : memGet d (memPut l a x) a = x := by
  induction l with
  | nil => simp [memPut, memGet]
  | cons e t ih =>
    obtain ⟨k, v⟩ := e; simp only [memPut]
    split
    · simp [memGet]
    · split <;> simp_all [memGet]

theorem memGet_put_ne (d : Byte) (l : List Host.Cell) {a b : Nat} (x : Byte) (h : b ≠ a) :
    memGet d (memPut l a x) b = memGet d l b := by
  induction l with
  | nil => simp [memPut, memGet, h]
  | cons e t ih =>
    obtain ⟨k, v⟩ := e; simp only [memPut]
    split
    · simp [memGet, h]
    · split <;> simp_all [memGet]

/-- A byte read after it is written. -/
@[simp] theorem memGet_memSet_self (d : Byte) (l : List Host.Cell) (a : Nat) (x : Byte) : memGet d (memSet d l a x) a = x := by
  unfold memSet; split
  · simp_all [memGet_erase_self]
  · exact memGet_put_self d l a x

/-- A write leaves every other byte alone. -/
theorem memGet_memSet_ne (d : Byte) (l : List Host.Cell) {a b : Nat} (x : Byte) (h : b ≠ a) :
    memGet d (memSet d l a x) b = memGet d l b := by
  unfold memSet; split
  · exact memGet_erase_ne d l h
  · exact memGet_put_ne d l x h

/-- Bytes outside those written at rising addresses stay. -/
theorem memGet_memSets_outside (d : Byte) (l : List Host.Cell) (a b : Nat) (bs : List Byte) (h : b < a ∨ a + bs.length ≤ b) :
    memGet d (memSets d l a bs) b = memGet d l b := by
  induction bs generalizing l a with
  | nil => rfl
  | cons x t ih =>
    simp only [memSets, List.length_cons] at *
    rw [ih _ _ (by omega), memGet_memSet_ne _ _ _ (by omega)]

/-- A byte written at a rising address reads as it was given. -/
theorem memGet_memSets_inside (d : Byte) (l : List Host.Cell) (a i : Nat) (bs : List Byte) (h : i < bs.length) :
    memGet d (memSets d l a bs) (a + i) = bs[i] := by
  induction bs generalizing l a i with
  | nil => simp at h
  | cons x t ih =>
    simp only [memSets] at *
    cases i with
    | zero => rw [memGet_memSets_outside _ _ _ _ _ (by omega)]; simp
    | succ j =>
      have := ih (memSet d l a x) (a + 1) j (by simp at h; omega)
      rw [show a + (j + 1) = a + 1 + j by omega, this]; rfl

theorem memWfFrom_cons (d : Byte) (b : Option Nat) (k : Nat) (v : Byte) (t : List Host.Cell) :
    memWfFrom d b ((k, v) :: t) = (belowKeys b k && (v != d) && memWfFrom d (some k) t) := by cases b <;> rfl

theorem memWfFrom_weaken {d : Byte} {b : Option Nat} {m : Nat} {l : List Host.Cell} (hb : belowKeys b m = true)
    (h : memWfFrom d (some m) l = true) : memWfFrom d b l = true := by
  cases l with
  | nil => cases b <;> rfl
  | cons e t =>
    obtain ⟨k, v⟩ := e
    cases b with
    | none => simp_all [memWfFrom_cons, belowKeys]
    | some n => simp_all [memWfFrom_cons, belowKeys]; omega

theorem memWfFrom_erase {d : Byte} {b : Option Nat} {l : List Host.Cell} (a : Nat) (h : memWfFrom d b l = true) :
    memWfFrom d b (memErase l a) = true := by
  induction l generalizing b with
  | nil => exact h
  | cons e t ih =>
    obtain ⟨k, v⟩ := e
    simp only [memWfFrom_cons, Bool.and_eq_true] at h
    obtain ⟨⟨hb, hv⟩, ht⟩ := h
    simp only [memErase]; split
    · exact ih (memWfFrom_weaken hb ht)
    · simp only [memWfFrom_cons, hb, hv, ih ht]; rfl

theorem memWfFrom_put {d : Byte} {b : Option Nat} {l : List Host.Cell} {a : Nat} {x : Byte} (hx : x ≠ d)
    (hq : belowKeys b a = true) (h : memWfFrom d b l = true) : memWfFrom d b (memPut l a x) = true := by
  induction l generalizing b with
  | nil => simp [memPut, memWfFrom_cons, hq, hx, memWfFrom]
  | cons e t ih =>
    obtain ⟨k, v⟩ := e
    simp only [memWfFrom_cons, Bool.and_eq_true] at h
    obtain ⟨⟨hb, hv⟩, ht⟩ := h
    have hv' : (v == d) = false := by simpa using hv
    simp only [memPut]
    split
    · have : belowKeys (some a) k = true := by simpa [belowKeys]
      simp only [memWfFrom_cons, hq, ht, this, bne, hv']; simp [hx]
    · split
      · subst_vars; simp only [memWfFrom_cons, hq, ht]; simp [hx]
      · have := ih (b := some k) (by simp [belowKeys]; omega) ht
        simp only [memWfFrom_cons, hb, bne, hv', this]; rfl

/-- A write of a byte keeps the canonical form. -/
theorem Memory.wf_memSet {d : Byte} {l : List Host.Cell} (a : Nat) (x : Byte) (h : Memory.wf d l = true) :
    Memory.wf d (memSet d l a x) = true := by
  unfold memSet Memory.wf at *; split
  · exact memWfFrom_erase a h
  · exact memWfFrom_put ‹_› rfl h

/-- A write of bytes keeps the canonical form. -/
theorem Memory.wf_memSets {d : Byte} {l : List Host.Cell} (a : Nat) (bs : List Byte) (h : Memory.wf d l = true) :
    Memory.wf d (memSets d l a bs) = true := by
  induction bs generalizing l a with
  | nil => exact h
  | cons x t ih => exact ih (a + 1) (Memory.wf_memSet a x h)

theorem memWfFrom_filter {d : Byte} {b : Option Nat} {l : List Host.Cell} (p : Host.Cell → Bool) (h : memWfFrom d b l = true) :
    memWfFrom d b (l.filter p) = true := by
  induction l generalizing b with
  | nil => exact h
  | cons e t ih =>
    obtain ⟨k, v⟩ := e
    simp only [memWfFrom_cons, Bool.and_eq_true] at h
    obtain ⟨⟨hb, hv⟩, ht⟩ := h
    rw [List.filter_cons]; split
    · simp only [memWfFrom_cons, hb, hv, ih ht]; rfl
    · exact ih (memWfFrom_weaken hb ht)

end Sys2Proof.Machine
end

