-- ==== Sys2Proof/Laws/State.lean ====
section
/-! SUPPORT. One lemma per field of State per update: what each update of the state leaves as it was, and what a field reads after a
write. -/

namespace Sys2Proof.Machine

/-! A write of a register field, and a change of one part, leave every other part alone. -/

@[simp] theorem State.set_pending (s : State) (f : Fld) (v : Nat) : (s.set f v).pending = s.pending := rfl
@[simp] theorem State.set_raw (s : State) (f : Fld) (v : Nat) : (s.set f v).raw = s.raw := rfl
@[simp] theorem State.set_supply (s : State) (f : Fld) (v : Nat) : (s.set f v).supply = s.supply := rfl
@[simp] theorem State.set_nv (s : State) (f : Fld) (v : Nat) : (s.set f v).nv = s.nv := rfl
@[simp] theorem State.set_flash (s : State) (f : Fld) (v : Nat) : (s.set f v).flash = s.flash := rfl
@[simp] theorem State.set_sram (s : State) (f : Fld) (v : Nat) : (s.set f v).sram = s.sram := rfl
@[simp] theorem State.set_boot (s : State) (f : Fld) (v : Nat) : (s.set f v).boot = s.boot := rfl
@[simp] theorem State.set_rcp (s : State) (f : Fld) (v : Nat) : (s.set f v).rcp = s.rcp := rfl
@[simp] theorem State.set_tb (s : State) (f : Fld) (v : Nat) : (s.set f v).tb = s.tb := rfl
@[simp] theorem State.set_hrt (s : State) (f : Fld) (v : Nat) : (s.set f v).hrt = s.hrt := rfl
@[simp] theorem State.set_ref (s : State) (f : Fld) (v : Nat) : (s.set f v).ref = s.ref := rfl
@[simp] theorem State.set_sel (s : State) (f : Fld) (v : Nat) : (s.set f v).sel = s.sel := rfl
@[simp] theorem State.set_bound (s : State) (f : Fld) (v : Nat) : (s.set f v).bound = s.bound := rfl
@[simp] theorem State.set_tdc (s : State) (f : Fld) (v : Nat) : (s.set f v).tdc = s.tdc := rfl
@[simp] theorem State.set_osc (s : State) (f : Fld) (v : Nat) : (s.set f v).osc = s.osc := rfl
@[simp] theorem State.set_syn (s : State) (f : Fld) (v : Nat) : (s.set f v).syn = s.syn := rfl
@[simp] theorem State.set_outp (s : State) (f : Fld) (v : Nat) : (s.set f v).outp = s.outp := rfl
@[simp] theorem State.set_pwr (s : State) (f : Fld) (v : Nat) : (s.set f v).pwr = s.pwr := rfl
@[simp] theorem State.set_evt (s : State) (f : Fld) (v : Nat) : (s.set f v).evt = s.evt := rfl
@[simp] theorem State.set_sys (s : State) (f : Fld) (v : Nat) : (s.set f v).sys = s.sys := rfl
@[simp] theorem State.set_pmu (s : State) (f : Fld) (v : Nat) : (s.set f v).pmu = s.pmu := rfl
@[simp] theorem State.set_pnl (s : State) (f : Fld) (v : Nat) : (s.set f v).pnl = s.pnl := rfl
@[simp] theorem State.set_pke (s : State) (f : Fld) (v : Nat) : (s.set f v).pke = s.pke := rfl
@[simp] theorem State.set_port (s : State) (f : Fld) (v : Nat) : (s.set f v).port = s.port := rfl
@[simp] theorem State.set_nts (s : State) (f : Fld) (v : Nat) : (s.set f v).nts = s.nts := rfl
@[simp] theorem State.set_ptp (s : State) (f : Fld) (v : Nat) : (s.set f v).ptp = s.ptp := rfl
@[simp] theorem State.set_kvt (s : State) (f : Fld) (v : Nat) : (s.set f v).kvt = s.kvt := rfl
@[simp] theorem State.set_pair (s : State) (f : Fld) (v : Nat) : (s.set f v).pair = s.pair := rfl
@[simp] theorem State.set_snaps (s : State) (f : Fld) (v : Nat) : (s.set f v).snaps = s.snaps := rfl
@[simp] theorem State.set_out (s : State) (f : Fld) (v : Nat) : (s.set f v).out = s.out := rfl
@[simp] theorem State.set_free (s : State) (f : Fld) (v : Nat) : (s.set f v).free = s.free := rfl

@[simp] theorem State.get_with_pending (s : State) (x : List Instr) (f : Fld) : ({ s with pending := x } : State).get f = s.get f := rfl
@[simp] theorem State.get_with_raw (s : State) (x : Nat) (f : Fld) : ({ s with raw := x } : State).get f = s.get f := rfl
@[simp] theorem State.get_with_supply (s : State) (x : SupplySt) (f : Fld) : ({ s with supply := x } : State).get f = s.get f := rfl
@[simp] theorem State.get_with_nv (s : State) (x : NvSt) (f : Fld) : ({ s with nv := x } : State).get f = s.get f := rfl
@[simp] theorem State.get_with_flash (s : State) (x : List Host.Cell) (f : Fld) : ({ s with flash := x } : State).get f = s.get f := rfl
@[simp] theorem State.get_with_sram (s : State) (x : List Host.Cell) (f : Fld) : ({ s with sram := x } : State).get f = s.get f := rfl
@[simp] theorem State.get_with_boot (s : State) (x : BootSt) (f : Fld) : ({ s with boot := x } : State).get f = s.get f := rfl
@[simp] theorem State.get_with_rcp (s : State) (x : RcpSt) (f : Fld) : ({ s with rcp := x } : State).get f = s.get f := rfl
@[simp] theorem State.get_with_tb (s : State) (x : TimeBusSt) (f : Fld) : ({ s with tb := x } : State).get f = s.get f := rfl
@[simp] theorem State.get_with_hrt (s : State) (x : HrtSt) (f : Fld) : ({ s with hrt := x } : State).get f = s.get f := rfl
@[simp] theorem State.get_with_ref (s : State) (x : List RefSt) (f : Fld) : ({ s with ref := x } : State).get f = s.get f := rfl
@[simp] theorem State.get_with_sel (s : State) (x : SelSt) (f : Fld) : ({ s with sel := x } : State).get f = s.get f := rfl
@[simp] theorem State.get_with_bound (s : State) (x : BoundSt) (f : Fld) : ({ s with bound := x } : State).get f = s.get f := rfl
@[simp] theorem State.get_with_tdc (s : State) (x : List TdcSt) (f : Fld) : ({ s with tdc := x } : State).get f = s.get f := rfl
@[simp] theorem State.get_with_osc (s : State) (x : OscSt) (f : Fld) : ({ s with osc := x } : State).get f = s.get f := rfl
@[simp] theorem State.get_with_syn (s : State) (x : List UnitSt) (f : Fld) : ({ s with syn := x } : State).get f = s.get f := rfl
@[simp] theorem State.get_with_outp (s : State) (x : List OutSt) (f : Fld) : ({ s with outp := x } : State).get f = s.get f := rfl
@[simp] theorem State.get_with_pwr (s : State) (x : List DomSt) (f : Fld) : ({ s with pwr := x } : State).get f = s.get f := rfl
@[simp] theorem State.get_with_evt (s : State) (x : EvtSt) (f : Fld) : ({ s with evt := x } : State).get f = s.get f := rfl
@[simp] theorem State.get_with_sys (s : State) (x : SysSt) (f : Fld) : ({ s with sys := x } : State).get f = s.get f := rfl
@[simp] theorem State.get_with_pmu (s : State) (x : PmuSt) (f : Fld) : ({ s with pmu := x } : State).get f = s.get f := rfl
@[simp] theorem State.get_with_pnl (s : State) (x : PnlSt) (f : Fld) : ({ s with pnl := x } : State).get f = s.get f := rfl
@[simp] theorem State.get_with_pke (s : State) (x : PkeSt) (f : Fld) : ({ s with pke := x } : State).get f = s.get f := rfl
@[simp] theorem State.get_with_port (s : State) (x : List PortSt) (f : Fld) : ({ s with port := x } : State).get f = s.get f := rfl
@[simp] theorem State.get_with_nts (s : State) (x : NtsSt) (f : Fld) : ({ s with nts := x } : State).get f = s.get f := rfl
@[simp] theorem State.get_with_ptp (s : State) (x : PtpSt) (f : Fld) : ({ s with ptp := x } : State).get f = s.get f := rfl
@[simp] theorem State.get_with_kvt (s : State) (x : KvtSt) (f : Fld) : ({ s with kvt := x } : State).get f = s.get f := rfl
@[simp] theorem State.get_with_pair (s : State) (x : PairSt) (f : Fld) : ({ s with pair := x } : State).get f = s.get f := rfl
@[simp] theorem State.get_with_snaps (s : State) (x : List ((Nat × Nat) × List Nat)) (f : Fld) : ({ s with snaps := x } : State).get f = s.get f := rfl
@[simp] theorem State.get_with_out (s : State) (x : List Emission) (f : Fld) : ({ s with out := x } : State).get f = s.get f := rfl
@[simp] theorem State.get_with_free (s : State) (x : Nat) (f : Fld) : ({ s with free := x } : State).get f = s.get f := rfl

/-! Reads after writes. -/

/-- A field read after it is written: the value, cut to the field's width. -/
@[simp] theorem State.get_set_self (s : State) (f : Fld) (v : Nat) : (s.set f v).get f = v % 2 ^ f.w := by
  simp [State.get, State.set]

/-- A write leaves a field of another key alone. -/
theorem State.get_set_ne (s : State) {f g : Fld} (v : Nat) (h : g.key ≠ f.key) : (s.set f v).get g = s.get g := by
  simp [State.get, State.set, storeGet_storeSet_ne _ _ h]

/-- A field that no write of a list touches keeps its value. -/
theorem State.get_sets_ne (s : State) {g : Fld} (l : List (Fld × Nat)) (h : ∀ p ∈ l, g.key ≠ p.1.key) :
    (s.sets l).get g = s.get g := by
  induction l generalizing s with
  | nil => rfl
  | cons p t ih =>
    have := ih (s.set p.1 p.2) (fun q hq => h q (List.mem_cons_of_mem _ hq))
    rw [State.sets, List.foldl_cons]; exact this.trans (State.get_set_ne s _ (h p List.mem_cons_self))

@[simp] theorem State.sets_nil (s : State) : s.sets [] = s := rfl
@[simp] theorem State.sets_cons (s : State) (p : Fld × Nat) (l : List (Fld × Nat)) :
    s.sets (p :: l) = (s.set p.1 p.2).sets l := rfl
@[simp] theorem State.clearAll_nil (s : State) : s.clearAll [] = s := rfl
@[simp] theorem State.clearAll_cons (s : State) (f : Fld) (l : List Fld) : s.clearAll (f :: l) = (s.set f 0).clearAll l := rfl
@[simp] theorem State.when_true (s : State) (f : State → State) : s.when true f = f s := rfl
@[simp] theorem State.when_false (s : State) (f : State → State) : s.when false f = s := rfl
@[simp] theorem onUnit_true (t : State) : onUnit true t = .next t := rfl
@[simp] theorem onUnit_false (t : State) : onUnit false t = .fault .noSuchUnit := rfl
@[simp] theorem State.emit_regs (s : State) (e : Emission) : (s.emit e).regs = s.regs := by unfold State.emit; split <;> rfl

/-- Two states with the same register store read the same. -/
theorem State.get_congr {s t : State} (h : s.regs = t.regs) (f : Fld) : s.get f = t.get f := by simp [State.get, h]

@[simp] theorem State.get_emit (s : State) (e : Emission) (f : Fld) : (s.emit e).get f = s.get f :=
  State.get_congr (State.emit_regs s e) f

/-- What sending changes: the output alone. -/
theorem State.emit_eq (s : State) (e : Emission) : s.emit e = { s with out := if s.supply.on then s.out ++ [e] else s.out } := by
  unfold State.emit; split <;> rfl

@[simp] theorem State.emit_pending (s : State) (e : Emission) : (s.emit e).pending = s.pending := by rw [State.emit_eq]
@[simp] theorem State.emit_raw (s : State) (e : Emission) : (s.emit e).raw = s.raw := by rw [State.emit_eq]
@[simp] theorem State.emit_supply (s : State) (e : Emission) : (s.emit e).supply = s.supply := by rw [State.emit_eq]
@[simp] theorem State.emit_nv (s : State) (e : Emission) : (s.emit e).nv = s.nv := by rw [State.emit_eq]
@[simp] theorem State.emit_flash (s : State) (e : Emission) : (s.emit e).flash = s.flash := by rw [State.emit_eq]
@[simp] theorem State.emit_sram (s : State) (e : Emission) : (s.emit e).sram = s.sram := by rw [State.emit_eq]
@[simp] theorem State.emit_boot (s : State) (e : Emission) : (s.emit e).boot = s.boot := by rw [State.emit_eq]
@[simp] theorem State.emit_rcp (s : State) (e : Emission) : (s.emit e).rcp = s.rcp := by rw [State.emit_eq]
@[simp] theorem State.emit_tb (s : State) (e : Emission) : (s.emit e).tb = s.tb := by rw [State.emit_eq]
@[simp] theorem State.emit_hrt (s : State) (e : Emission) : (s.emit e).hrt = s.hrt := by rw [State.emit_eq]
@[simp] theorem State.emit_ref (s : State) (e : Emission) : (s.emit e).ref = s.ref := by rw [State.emit_eq]
@[simp] theorem State.emit_sel (s : State) (e : Emission) : (s.emit e).sel = s.sel := by rw [State.emit_eq]
@[simp] theorem State.emit_bound (s : State) (e : Emission) : (s.emit e).bound = s.bound := by rw [State.emit_eq]
@[simp] theorem State.emit_tdc (s : State) (e : Emission) : (s.emit e).tdc = s.tdc := by rw [State.emit_eq]
@[simp] theorem State.emit_osc (s : State) (e : Emission) : (s.emit e).osc = s.osc := by rw [State.emit_eq]
@[simp] theorem State.emit_syn (s : State) (e : Emission) : (s.emit e).syn = s.syn := by rw [State.emit_eq]
@[simp] theorem State.emit_outp (s : State) (e : Emission) : (s.emit e).outp = s.outp := by rw [State.emit_eq]
@[simp] theorem State.emit_pwr (s : State) (e : Emission) : (s.emit e).pwr = s.pwr := by rw [State.emit_eq]
@[simp] theorem State.emit_evt (s : State) (e : Emission) : (s.emit e).evt = s.evt := by rw [State.emit_eq]
@[simp] theorem State.emit_sys (s : State) (e : Emission) : (s.emit e).sys = s.sys := by rw [State.emit_eq]
@[simp] theorem State.emit_pmu (s : State) (e : Emission) : (s.emit e).pmu = s.pmu := by rw [State.emit_eq]
@[simp] theorem State.emit_pnl (s : State) (e : Emission) : (s.emit e).pnl = s.pnl := by rw [State.emit_eq]
@[simp] theorem State.emit_pke (s : State) (e : Emission) : (s.emit e).pke = s.pke := by rw [State.emit_eq]
@[simp] theorem State.emit_port (s : State) (e : Emission) : (s.emit e).port = s.port := by rw [State.emit_eq]
@[simp] theorem State.emit_nts (s : State) (e : Emission) : (s.emit e).nts = s.nts := by rw [State.emit_eq]
@[simp] theorem State.emit_ptp (s : State) (e : Emission) : (s.emit e).ptp = s.ptp := by rw [State.emit_eq]
@[simp] theorem State.emit_kvt (s : State) (e : Emission) : (s.emit e).kvt = s.kvt := by rw [State.emit_eq]
@[simp] theorem State.emit_pair (s : State) (e : Emission) : (s.emit e).pair = s.pair := by rw [State.emit_eq]
@[simp] theorem State.emit_snaps (s : State) (e : Emission) : (s.emit e).snaps = s.snaps := by rw [State.emit_eq]
@[simp] theorem State.emit_free (s : State) (e : Emission) : (s.emit e).free = s.free := by rw [State.emit_eq]

/-- An update of a list of fields leaves every part but the register store alone. -/
theorem State.sets_eq (s : State) (l : List (Fld × Nat)) : ∃ r, s.sets l = { s with regs := r } := by
  induction l generalizing s with
  | nil => exact ⟨s.regs, rfl⟩
  | cons p t ih => obtain ⟨r, h⟩ := ih (s.set p.1 p.2); exact ⟨r, h⟩

end Sys2Proof.Machine
end

