-- ==== Sys2Proof/Laws/Ops.lean ====
section
/-! SUPPORT. What the shared operations do, said once: counters and signed fields, an occurrence of an event and everything that raises
one, an access error, and the way of a register access. -/

namespace Sys2Proof.Machine

/-! Counters, bits and signed fields. -/

/-- A counter that wraps, read after a count. -/
@[simp] theorem State.get_bump_self (s : State) (f : Fld) (n : Nat) : (s.bump f n).get f = (s.get f + n) % 2 ^ f.w := by
  simp [State.bump]

theorem State.get_bump_ne (s : State) {f g : Fld} (n : Nat) (h : g.key ≠ f.key) : (s.bump f n).get g = s.get g :=
  State.get_set_ne s _ h

/-- A counter that saturates, read after a count. -/
@[simp] theorem State.get_bumpSat_self (s : State) (f : Fld) (n : Nat) :
    (s.bumpSat f n).get f = min (2 ^ f.w - 1) (s.get f + n) := by
  have : 0 < 2 ^ f.w := Nat.two_pow_pos _
  simp only [State.bumpSat, State.get_set_self]
  exact Nat.mod_eq_of_lt (by omega)

theorem State.get_bumpSat_ne (s : State) {f g : Fld} (n : Nat) (h : g.key ≠ f.key) : (s.bumpSat f n).get g = s.get g :=
  State.get_set_ne s _ h

/-- A one-bit field read after it is written. -/
theorem State.bit_setBit_self (s : State) (f : Fld) (b : Bool) (h : f.w = 1) : (s.setBit f b).bit f = b := by
  cases b <;> simp [State.setBit, State.bit, h]

theorem State.get_setBit_ne (s : State) {f g : Fld} (b : Bool) (h : g.key ≠ f.key) : (s.setBit f b).get g = s.get g :=
  State.get_set_ne s _ h

/-- The canonical form of the register store stays. -/
theorem State.set_wf {s : State} (f : Fld) (v : Nat) (h : storeWf s.regs = true) : storeWf (s.set f v).regs = true :=
  storeWf_storeSet _ _ h

/-! What an occurrence of an event may change. -/

/-- Only the event block's registers, its records, and the messages pending and sent. -/
structure KeepsButEvents (s t : State) : Prop where
  parts : EventsOnly s t
  regs : ∀ f : Fld, f.blk ≠ 0x11 → t.get f = s.get f
  wf : storeWf s.regs = true → storeWf t.regs = true

theorem EventsOnly.trans {s t u : State} (h : EventsOnly s t) (k : EventsOnly t u) : EventsOnly s u := by
  unfold EventsOnly at *
  cases s; cases t; cases u
  simp only [State.mk.injEq] at *
  simp_all

theorem KeepsButEvents.refl (s : State) : KeepsButEvents s s := ⟨rfl, fun _ _ => rfl, id⟩

theorem KeepsButEvents.trans {s t u : State} (h : KeepsButEvents s t) (k : KeepsButEvents t u) : KeepsButEvents s u :=
  ⟨h.parts.trans k.parts, fun f hf => (k.regs f hf).trans (h.regs f hf), fun w => k.wf (h.wf w)⟩

/-- A write of a field of the event block. -/
theorem State.set_keepsButEvents (s : State) (g : Fld) (v : Nat) (h : g.blk = 0x11) : KeepsButEvents s (s.set g v) :=
  ⟨rfl, fun f hf => State.get_set_ne s v (fun e => hf (by rw [← h]; simp [Fld.blk, e])), State.set_wf g v⟩

/-- Sending something out. -/
theorem State.emit_keepsButEvents (s : State) (e : Emission) : KeepsButEvents s (s.emit e) :=
  ⟨by rw [EventsOnly, State.emit_eq], fun f _ => State.get_emit s e f, fun w => by rw [State.emit_regs]; exact w⟩

theorem State.msix_keepsButEvents (s : State) (vec : Nat) : KeepsButEvents s (s.msix vec) := by
  unfold State.msix
  split
  · exact .refl s
  · split
    · exact ⟨rfl, fun _ _ => rfl, id⟩
    · exact State.emit_keepsButEvents s _

theorem State.message_keepsButEvents (s : State) (side ev : Nat) : KeepsButEvents s (s.message side ev) := by
  unfold State.message
  split
  · exact State.msix_keepsButEvents s _
  · exact State.emit_keepsButEvents s _

/-- The registers of R555 and R556 lie in the event block. -/
theorem blk_evt_pend {side ev : Nat} (hs : side < 2) (he : ev < 128) : (F.EVT_PEND.PEND side (ev / 32)).blk = 0x11 := by
  simp only [Fld.blk, Fld.key, F.EVT_PEND.PEND]; omega

theorem blk_evt_count {ev : Nat} (he : ev < 128) : (F.EVT_COUNT.COUNT ev).blk = 0x11 := by
  simp only [Fld.blk, Fld.key, F.EVT_COUNT.COUNT]; omega

theorem blk_evt_prod {side : Nat} (hs : side < 2) : (F.EVT_QSTAT.PROD side).blk = 0x11 := by
  simp only [Fld.blk, Fld.key, F.EVT_QSTAT.PROD]; omega

theorem blk_evt_lost {side : Nat} (hs : side < 2) : (F.EVT_QSTAT.LOST side).blk = 0x11 := by
  simp only [Fld.blk, Fld.key, F.EVT_QSTAT.LOST]; omega

theorem State.pendAndTell_keepsButEvents (s : State) {side ev : Nat} (hs : side < 2) (he : ev < 128) :
    KeepsButEvents s (s.pendAndTell side ev) := by
  unfold State.pendAndTell
  dsimp only
  split
  · exact (State.set_keepsButEvents s _ _ (blk_evt_pend hs he)).trans (State.message_keepsButEvents _ _ _)
  · exact State.set_keepsButEvents s _ _ (blk_evt_pend hs he)

theorem State.pushRecord_keepsButEvents (s : State) {side : Nat} (hs : side < 2) (r : EvRec) :
    KeepsButEvents s (s.pushRecord side r) := by
  unfold State.pushRecord
  dsimp only
  split
  · exact ((State.set_keepsButEvents s _ _ (blk_evt_lost hs)).trans
      (State.set_keepsButEvents _ (F.EVT_COUNT.COUNT 87) _ (blk_evt_count (by norm_num)))).trans
      (State.pendAndTell_keepsButEvents _ (ev := 87) hs (by norm_num))
  · have h := State.set_keepsButEvents s (F.EVT_QSTAT.PROD side) (s.get (F.EVT_QSTAT.PROD side) + 1) (blk_evt_prod hs)
    split
    · exact h.trans ⟨rfl, fun _ _ => rfl, id⟩
    · exact h.trans ⟨rfl, fun _ _ => rfl, id⟩

theorem State.tellSide_keepsButEvents (s : State) {side : Nat} (hs : side < 2) {r : EvRec} (he : r.ev < 128) :
    KeepsButEvents s (s.tellSide side r) := by
  unfold State.tellSide
  split
  · exact (State.pushRecord_keepsButEvents s hs r).trans (State.pendAndTell_keepsButEvents _ hs he)
  · exact State.pendAndTell_keepsButEvents s hs he

/-- An occurrence of an event: everything it can change. -/
theorem State.occurAt_keepsButEvents (s : State) {ev : Nat} (he : ev < 128) (bit inst detail crumbs : Nat) :
    KeepsButEvents s (s.occurAt ev bit inst detail crumbs) := by
  unfold State.occurAt
  exact ((State.set_keepsButEvents s _ _ (blk_evt_count he)).trans (State.tellSide_keepsButEvents _ (by omega) he)).trans
    (State.tellSide_keepsButEvents _ (by omega) he)

theorem State.occur_keepsButEvents (s : State) {ev : Nat} (he : ev < 128) (bit inst detail : Nat) :
    KeepsButEvents s (s.occur ev bit inst detail) := State.occurAt_keepsButEvents s he _ _ _ _

/-- Raising a source bit outside the event block: it reads 1, and every other field outside the event block reads as before. -/
theorem State.flag_get (s : State) {f : Fld} {ev : Nat} (inst detail : Nat) (he : ev < 128) (hw : f.w = 1) (hb : f.blk ≠ 0x11) :
    (s.flag f ev inst detail).bit f = true := by
  unfold State.flag
  split
  · assumption
  · rw [State.bit, (State.occur_keepsButEvents _ he _ _ _).regs f hb, State.get_set_self, hw]; rfl

theorem State.flag_get_ne (s : State) {f g : Fld} {ev : Nat} (inst detail : Nat) (he : ev < 128) (hg : g.blk ≠ 0x11) (hk : g.key ≠ f.key) :
    (s.flag f ev inst detail).get g = s.get g := by
  unfold State.flag
  split
  · rfl
  · rw [(State.occur_keepsButEvents _ he _ _ _).regs g hg, State.get_set_ne s 1 hk]

/-- Raising a source bit changes nothing but registers, records and messages. -/
theorem State.flag_eventsOnly (s : State) (f : Fld) {ev : Nat} (inst detail : Nat) (he : ev < 128) :
    EventsOnly s (s.flag f ev inst detail) := by
  unfold State.flag
  split
  · rfl
  · exact EventsOnly.trans (t := s.set f 1) rfl (State.occur_keepsButEvents _ he _ _ _).parts

/-- An access error changes, outside the event block, only the five fields of R497. -/
theorem State.accessError_get_ne (s : State) {g : Fld} (req : Requester) (cause addr : Nat) (hg : g.blk ≠ 0x11)
    (hk : ∀ f ∈ [F.XBR_AERR.AERR, F.XBR_AERR.MORE, F.XBR_AERR.REQ, F.XBR_AERR.CAUSE, F.XBR_AERRADDR.ADDR], g.key ≠ f.key) :
    (s.accessError req cause addr).get g = s.get g := by
  simp only [List.mem_cons, List.not_mem_nil, or_false, forall_eq_or_imp, forall_eq] at hk
  obtain ⟨h1, h2, h3, h4, h5⟩ := hk
  unfold State.accessError
  split
  · exact State.flag_get_ne s _ _ (by omega) hg h2
  · rw [State.flag_get_ne _ _ _ (by omega) hg h1]
    exact State.get_sets_ne s _ (by simp [h3, h4, h5])

theorem State.accessError_eventsOnly (s : State) (req : Requester) (cause addr : Nat) : EventsOnly s (s.accessError req cause addr) := by
  unfold State.accessError
  split
  · exact State.flag_eventsOnly s _ _ _ (by omega)
  · refine EventsOnly.trans (t := s.sets [(F.XBR_AERR.REQ, req.master), (F.XBR_AERR.CAUSE, cause), (F.XBR_AERRADDR.ADDR, addr)]) ?_
      (State.flag_eventsOnly _ _ _ _ (by omega))
    rfl

/-! The way of a register access. -/

/-- An access that reaches its block is served, the crossbar's owner of the register fabric being its requester. -/
theorem State.atFabric_of_reaches {s : State} {req : Requester} {off : Nat} (h : s.Reaches req off) (f : State → State) :
    s.atFabric req off f = f (s.set (F.XBR_TSTAT.OWNER 6) req.master) := by
  obtain ⟨h1, h2, h3, h4⟩ := h
  simp [State.atFabric, h1, h2, h3, h4]

/-- The owner of the register fabric does not bear on whether a domain answers. -/
theorem State.regsReady_owner (s : State) (d v : Nat) (hd : d < 13) : (s.set (F.XBR_TSTAT.OWNER 6) v).regsReady d = s.regsReady d := by
  unfold State.regsReady State.bit
  rw [State.get_set_ne s v (by simp only [Fld.key, F.PWR_DOM_STAT.STATE, F.XBR_TSTAT.OWNER]; omega),
    State.get_set_ne s v (by simp only [Fld.key, F.PWR_DOM_STAT.ENTERING, F.XBR_TSTAT.OWNER]; omega)]
  rfl

theorem domOf_lt (off : Nat) : domOf off < 13 := by
  unfold domOf
  dsimp only
  repeat' split
  all_goals omega

/-- An access whose domain answers, too, is served at once. -/
theorem State.atDomain_of_serves {s : State} {req : Requester} {off : Nat} (h : s.Serves req off) (data : Nat) (f : State → State) :
    s.atDomain req off data f = f (s.set (F.XBR_TSTAT.OWNER 6) req.master) := by
  unfold State.atDomain
  rw [State.atFabric_of_reaches h.1, State.regsReady_owner _ _ _ (domOf_lt off), h.2]
  rfl

end Sys2Proof.Machine
end

