-- ==== Sys2Proof/Tests/Slice0.lean ====
section
/-! SUPPORT. The package's own tests: an ill-formed command for each check of WellFormed, the spec's worked examples, a few single
steps, and for each statement with hypotheses, clause by clause, a state and operands that meet them all. -/

namespace Sys2Proof.Tests

set_option Elab.async false

open Sys2Proof.Machine

/-! Ill-formed commands, each refused by one check. -/

theorem test_ill_formed_1 : ∀ c ∈ ([
    .tokenArrival 0 [] 0, .tokenArrival 14 [] 0, .tokenTimeout 0, .tokenTimeout 14, .pairCommit 14, .routeCalibrationDone 0 0 0,
    .routeCalibrationDone 14 0 0, .roundTripMeasured 0 0, .roundTripMeasured 14 0, .wakeCalibrationDone 0 0 0, .wakeCalibrationDone 14 0 0,
    .rcpCheck .host 2, .rcpReload .host 2, .rcpProg .host 2, .rcpPrefer .host 2, .liveShadowAck 14, .regulatorTimeout 13, .bootFwprog .host 0 2
    ] : List Instr), c.wf = false := by decide

theorem test_ill_formed_2 : ∀ c ∈ ([
    .bootFwprefer .host 0 2, .tftpWriteImage false 2 [], .pulseEdge 16, .activityTimeout 16, .freqActivityCount 16, .irigFrame 16 0 [] 0,
    .irigFrame 0 8 [] 0, .gnssEpochStrobe 2 0 0, .esmcPdu 16 [], .esmcTimeout 16, .announceReceiptTimeout 16, .qclassEvaluation 16,
    .uinSenseSample 6 none, .plugHoldDone 16, .heldStampRelease 16, .refCfgWrite .host 16 0, .refNomfreqWrite .host 16 false 0, .tdcEdge 24 0 0 0
    ] : List Instr), c.wf = false := by decide

theorem test_ill_formed_3 : ∀ c ∈ ([
    .tdcEdge 0 2 0 0, .interpolatorCalibration 24 0 0 0, .interpolatorCalibration 0 2 0 0, .phaseResultMs 16, .intervalRecord 24, .gateEnd 24,
    .tdcClrcnt .host 24, .tdcGateWrite .host 24 0, .loadReport 4 0, .loadReportMissing 4, .srvUpdate 4, .srvClri .host 4,
    .utcSourceReport 1 0 0 0 0, .utcSourceReport 5 0 0 0 0, .refEvaluation 16, .holdoffEnd 16, .qtimeExpiry 16, .synFreqWrite .host 4 false 0
    ] : List Instr), c.wf = false := by decide

theorem test_ill_formed_4 : ∀ c ∈ ([
    .synLockDeclared 5, .outputRelease 12, .slewStep 4, .synLossOfLock 5, .synReferenceLoss 5, .coastEnd 5, .outEnWrite .host 12 0,
    .outRegridWrite .host 12 0 0, .outRegridWrite .host 0 3 0, .outRealign .host 4 0, .outRecal .host 12, .loopbackDwellEnd 12 0 [],
    .lineStartEdge 12 0, .frameReceived 4 0 0 false [], .frameTransmitted 4 none 0 0, .blockLock 4, .latencyMeasured 4 0 0, .prtLatcal .host 4
    ] : List Instr), c.wf = false := by decide

theorem test_ill_formed_5 : ∀ c ∈ ([
    .linkDown 4 none, .pauseFrame 4 0, .preemptVerifyDone 4 false, .prtAsymcal .host 4, .asymcalWindowEnd 4, .esmcInfoSend 4 false,
    .sfpAbsChange 4 false, .sfpLos 4 false, .departureRelease 4, .apdClrcnt .host 4, .apdClrmarg .host 4, .pipelineDequeue 8 0,
    .pipelineDequeue 0 4, .laneResult 12 false, .ringProdWrite .host 144 0 [], .descriptorWriteback 144 [], .ringEnWrite .host 144 0,
    .ringCoalesceTimeout 144
    ] : List Instr), c.wf = false := by decide

theorem test_ill_formed_6 : ∀ c ∈ ([
    .engineFault 16 false, .pcntClr .host 8, .graceExpiry 4, .streamBuild none 4 0, .grantExpiry 65536, .helloRecord 2 [], .ppsmRecord 2 [],
    .healthRecord 2 [], .boundRecord 2 [], .resultJournalRecord 2 [], .updateRecord 2 [], .selectRecord 2 [], .leapRecord 2 [], .digestRecord 2 [],
    .paramRecord 2 [], .srvstateRecord 2 [], .grantRecord 2 [], .ntskeyRecord 2 []
    ] : List Instr), c.wf = false := by decide

theorem test_ill_formed_7 : ∀ c ∈ ([
    .snapRecord 2 [], .vreqRecord 2 [], .verdictRecord 2 [], .swapRecord 2 [], .ackRecord 2 [], .takeRecord 2 [], .keyxRecord 2 [],
    .ppiEdge 2 0 0 false, .laneLockLoss 2, .lockedSequence 12 0 0 none, .lockTimeout 6, .masterReset 12 false, .pwrReqWrite .host 13 0,
    .sleepEntryBegin 13, .sleepRequestWithdrawn 13, .sleepEntryComplete 13, .domainWake 0 1 0, .domainWake 13 1 0
    ] : List Instr), c.wf = false := by decide

theorem test_ill_formed_8 : ∀ c ∈ ([
    .domainWake 1 0 0, .domainWake 1 8 0, .domainWake 1 1 12, .wakeStallEnd 13, .retentionCheckDone 13 0 false, .plvlWrite .host 13 0,
    .plvlChangeDone 0, .plvlChangeDone 5, .preciseSampleTag 16, .preciseSampleRecord 16 0 0 0 0 0 0, .keyHold 8, .touchTimeout 4, .ledopen 16,
    .signalInstruction 16 0, .signalInstruction 0 16, .evtTimerArm .host 5 0 0 0, .evtTimerExpiry 5, .evtQconsWrite .host 2 0
    ] : List Instr), c.wf = false := by decide

theorem test_ill_formed_9 : ∀ c ∈ ([
    .evtEnWrite .host 2 0 0, .evtEnWrite .host 0 3 0, .pl0BlockLock 2, .mg0LinkChange 3, .pauseEnd 4, .grantRequestSend 2048,
    .peerReachTimeout 2048, .utcSourceExpiry 1, .utcSourceExpiry 5, .delayReqSend (some 2048), .pmuCounterOverflow .cluster 16 0,
    .pmuCounterOverflow (.engine 15) 8 0, .pmuCounterOverflow (.engine 16) 7 0, .pmuCounterWrite .host .cluster 16 false 0,
    .pmuCounterWrite .host (.engine 16) 0 false 0, .snapshotRead .host .bar0 0x4000000, .snapshotRead .sup0 .bar4 0,
    .snapshotRead .host .bar4 0x4000
    ] : List Instr), c.wf = false := by decide

theorem test_ill_formed_10 : ∀ c ∈ ([
    .registerWrite .host .bar2 0x4000000 0 15, .registerWrite .dma .bar4 0 0 15
    ] : List Instr), c.wf = false := by decide

/-! Small states. -/

theorem shaped {s : State} (h : (s.tb.routes.length = 14 ∧ s.ref.length = 16 ∧ s.tdc.length = 24 ∧ s.syn.length = 5) ∧
    s.outp.length = 12 ∧ s.pwr.length = 13 ∧ s.port.length = 4 ∧ s.hrt.srv.length = 4) : StateShape s :=
  ⟨h.1.1, h.1.2.1, h.1.2.2.1, h.1.2.2.2, h.2.1, h.2.2.1, h.2.2.2.1, h.2.2.2.2⟩

theorem reaches {s : State} {req : Requester} {off : Nat} (h : s.supply.on = true ∧ s.aborted req.master = false ∧
    fabricAllows req off = true ∧ s.blockAnswers req off = true) : s.Reaches req off := h

theorem serves {s : State} {req : Requester} {off : Nat} (h : (s.supply.on = true ∧ s.aborted req.master = false ∧
    fabricAllows req off = true ∧ s.blockAnswers req off = true) ∧ s.regsReady (domOf off) = true) : s.Serves req off := h

theorem expects {s : State} {lane seq : Nat} {b : List Byte} (h : s.paired = true ∧ lane < 2 ∧
    (if lane = 0 then s.pair.lane0 else s.pair.lane1) = true ∧ s.pair.next.getD seq = seq ∧ seq < 2 ^ 32 ∧ s.pair.early = [] ∧
    s.pair.warmWait = false ∧ b.length < 256) : s.Expects lane seq b := h

/-- A running module: stage 6. -/
def B : State := (({} : State).sets [(F.BOOT_STATUS.STAGE, 6), (F.PAIR_STAT.STATE, 0)])
def st (l : List (Fld × Nat)) : State := B.sets l
def withIsle (s : State) (n : Nat) (r : Route) : State := s.updIsle n (fun _ => r)
def calling (s : State) (l : List Nat) : State := { s with tb := { s.tb with calQ := l } }
def withSec (s : State) (ty : Nat) (b : List Nat) : State := { s with rcp := { s.rcp with sections := s.rcp.sections ++ [(ty, b.map (fun n => BitVec.ofNat 8 n))] } }
def withRef (s : State) (c : Nat) (r : RefSt) : State := s.updRef c (fun _ => r)
def withTdc (s : State) (n : Nat) (d : TdcSt) : State := s.updTdc n (fun _ => d)
def late (n : Nat) (s : State) : State := { s with raw := n }
def withUnit (s : State) (u : Nat) (x : UnitSt) : State := s.updUnit u (fun _ => x)
def withOut (s : State) (n : Nat) (x : OutSt) : State := s.updOut n (fun _ => x)
def withPort (s : State) (n : Nat) (x : PortSt) : State := s.updPort n (fun _ => x)
def zeros (n : Nat) : List Byte := List.replicate n 0
def portOk (s : State) (n : Nat) : State :=
  withIsle (withPort (s.sets [(F.PRT_STAT.LINK n, 1), (F.PRT_CTRL.ADMIN n, 1), (F.HRT_TB_ROUTE.VALID (n + 1), 1)]) n { txOn := true }) (n + 1) { cur := some {}, errb := 5 }
def withCtx (s : State) (x : Ctx) : State := { s with pke := { s.pke with ctxs := s.pke.ctxs ++ [x] } }
def withPke (s : State) (f : PkeSt → PkeSt) : State := { s with pke := f s.pke }
def inFrame0 : InFrame := ⟨[], {}, 0, 0, 0, 0, false⟩
def bs (l : List Nat) : List Byte := l.map (fun n => BitVec.ofNat 8 n)
def ntpFrame : List Byte := zeros 12 ++ bs ([8, 0, 0x45, 0, 0, 0, 0, 0, 0, 0, 0, 17] ++ List.replicate 10 0 ++ [0, 0, 0, 0, 0, 56, 0, 0, 0x23]) ++ zeros 47
def ptpFrame (type len : Nat) : List Byte := bs [0x01, 0x1B, 0x19, 0, 0, 0, 2, 0, 0, 0, 0, 9, 0x88, 0xF7, type, 2, 0, len] ++ zeros (len - 4)
def grant0 : Grant := ⟨false, 0, 1, 0, 0, 300, 900000000000, 0, 0, 0, zeros 10, 0, 0, zeros 6, 0⟩
def item0 : RingItem := ⟨3, 1, 2, 0, 0, 0, 7, zeros 20⟩
def plan1 (s : State) (x : Ctx) : Option (State × Ctx) :=
  match s.ptpPlan { x with req := (payloadOf x.frame).take (ptpLen (payloadOf x.frame)) } none [] with | .reply u z => some (u, z) | _ => none
def withPair (s : State) (f : PairSt → PairSt) : State := { s with pair := f s.pair }
def linked (l : List (Fld × Nat)) : State := withPair (st ((F.PAIR_CFG.EN, 1) :: l)) (fun p => { p with lane0 := true, lane1 := true, next := some 5 })
def req0 : VaultReq := { by_ := 0, code := 1, slot := 5 }
def mbx (op len : Nat) (p : List Nat) : State :=
  st ([(F.SUP_STATUS.READY, 1), (F.SUP_MBX.H2SBUSY, 1), (F.SUP_H2S.WORD 0, op + 65536 * len)] ++ (p.zipIdx.map (fun q => (F.SUP_H2S.WORD (q.2 + 1), q.1))))
def withDom (s : State) (d : Nat) (x : DomSt) : State := { s with pwr := modAt s.pwr d (fun _ => x) }
def supUp (l : List (Fld × Nat)) : State := st ([(F.SUP_STATUS.RUN, 15), (F.PWR_DOM_STAT.STATE 5, 0)] ++ l)
theorem digest_length (s : State) : s.digest.length = 8 := by simp [State.digest, sliceB]

theorem digest_held (s : State) : s.digest = sliceB (zeros 4 ++ s.digest ++ zeros 4) 4 8 := by
  simp [sliceB, zeros, digest_length s]

theorem digest_fits (s : State) : (zeros 4 ++ s.digest ++ zeros 4).length < 256 := by
  simp [zeros, digest_length s]

theorem digest_other (s : State) : s.digest ≠ sliceB (zeros 4 ++ [s.digest.headD 0 + 1] ++ zeros 11) 4 8 := by
  intro h
  have g := congrArg (fun l => l.headD 0) h
  simp [sliceB, zeros] at g

theorem okOf {α : Type} {o : Except Nat α} {p : α → Bool} (h : (match o with | .ok y => p y | .error _ => false) = true) :
    ∃ y, o = .ok y ∧ p y = true := by
  cases o with
  | error e => cases h
  | ok y => exact ⟨y, rfl, h⟩

theorem replyOf {o : PtpPlan} (h : (match o with | .reply _ _ => true | _ => false) = true) : ∃ u z, o = .reply u z := by
  cases o with
  | reply u z => exact ⟨u, z, rfl⟩
  | done t => cases h
  | stop t r => cases h

def ntsCtx : Ctx := { id := 4, service := 1, frame := ntpFrame, label := 4 }
def ntsState : State := withCtx (st [(F.NTS_CFG.PLAIN, 1)]) ntsCtx
def mgState : State :=
  st [(F.NTS_CFG.PLAIN, 1), (F.PRT_MG_CTRL.NTP, 1), (F.PRT_MG_CTRL.ADMIN, 1), (F.PRT_MG_STAT.SPEED, 2), (F.NTS_CFG.UNSYNC, 1)]
def mgCtx : Ctx :=
  { id := 0, service := 1, frame := ntpFrame, recd := mgState.pke.mgRec, req := payloadOf ntpFrame, dest := replyHead ntpFrame (portMac 4), port := 4 }
def ptpCtx : Ctx :=
  { id := 4, service := 2, engine := 1, frame := ptpFrame 1 44, req := (payloadOf (ptpFrame 1 44)).take (ptpLen (payloadOf (ptpFrame 1 44))) }
def ptpState : State := withCtx (st [(F.PTP_PCFG.EN 0, 1), (F.PTP_PSTAT.STATE 0, 6)]) { ptpCtx with req := [] }

theorem nts_planned : ∃ y, ntsState.requestPlan
    { ntsCtx with req := payloadOf ntsCtx.frame, dest := replyHead ntsCtx.frame (portMac ntsCtx.port) } = .ok y ∧
    ntsState.leapSpan y.recd y.off = false := by
  obtain ⟨y, h, p⟩ := okOf (p := fun y => !ntsState.leapSpan y.recd y.off) (o := ntsState.requestPlan
    { ntsCtx with req := payloadOf ntsCtx.frame, dest := replyHead ntsCtx.frame (portMac ntsCtx.port) }) (by decide +kernel)
  exact ⟨y, h, by simpa using p⟩

theorem mg_planned : ∃ y, mgState.requestPlan mgCtx = .ok y ∧ y.kind = 4 ∧ y.effs.all mgState.effOk = true := by
  obtain ⟨y, h, p⟩ := okOf (p := fun y => decide (y.kind = 4 ∧ y.effs.all mgState.effOk = true)) (o := mgState.requestPlan mgCtx)
    (by decide +kernel)
  exact ⟨y, h, of_decide_eq_true p⟩

theorem ptp_planned : ∃ u z, (ptpState.clusterEvent 9 0).ptpPlan ptpCtx none [] = .reply u z := replyOf (by decide +kernel)

/-! The spec's own worked examples. -/

/-- spec/06_measurement.md, one stamp: TICK 7,312,500,000 and 4,185 sixteenths, CRUMB 262. -/
theorem test_stamp_example : eventTime 1031 2049 1529 7312500002 = some (7312500000 * 8192 + 4185) ∧
    crumbOf (7312500000 * 8192 + 4185) = 7312500000 * 512 + 262 := by decide +kernel

/-- The pair of spec/08_timescale.md's worked conversion. -/
def pairExample : Pair := { rate := 41800, anchor := 1000000000000, offset := (1761607683 * 1000000000 + 999999990) * 65536 }

/-- spec/08_timescale.md, one conversion: SEC 1,761,607,684, NS 9,999,990, FRAC 20,507. -/
theorem test_conversion_example : pairExample.dtime (1000006250000 * 512 + 100) =
    some ((1761607684 * 1000000000 + 9999990) * 65536 + 20507) := by decide +kernel

/-- spec/00_scope.md: a stamp of 1,761,607,682 s and 612,345,678 ns has NS32 2,612,345,678. -/
theorem test_sstamp_example : sstamp ((1761607682 * 1000000000 + 612345678) * 65536 + 5) = 2612345678 * 65536 + 5 := by decide +kernel

/-- spec/06_measurement.md, 10 MHz on the three time bases: T_nom 64,000 crumbs, D 77, and the DISC and EXT records' values. -/
theorem test_gate_example :
    let s := st [(F.TDC_CFG.PRESCALE 5, 1), (F.TDC_CFG.PSK 5, 0), (F.REF_NOMFREQ.FREQ 5, 655360000000)]
    let g : Gate := { openTick := 0, ms := 1000, first := 0, d := 77, lim := 0, free := true, tb := 0, tbCh := 1 }
    let v := fun (tb : Nat) (e : Option Rat) =>
      ({ g with tb := tb }.refer [{ rate := 41800 }] (425 / 10000000000000) e).map (fun q => roundAway (q * 1000000000000000000))
    s.tNom 5 5 = 64000 ∧ s.decimation 5 5 1000 = 77 ∧ v 0 none = some 700000 ∧ v 1 (some (421 / 10000000000000)) = some 400000 ∧
      v 2 none = some 42500000 := by decide +kernel

/-- spec/05_references.md, GNSS channel: U_ref is 3,170 ps, and 7,970 ps once the solution is single-band. -/
theorem test_uref_example :
    let s := fun u => st [(F.REF_STAT.KIND 0, 1), (F.REF_UNC.UNC 0, 3000), (F.REF_UKIND.UKIND 0, u), (F.REF_DLYUNC.DLYUNC 0, 150)]
    (s 2100).uref 0 = 3170 ∧ (s 7800).uref 0 = 7970 := by decide +kernel

/-- spec/10_outputs.md, gated relock: 10 MHz has K 128 and M 21, 12.8 MHz has K 64 and M 14. -/
theorem test_synthesis_example : kExp (10000000 * 65536) = 7 ∧ mOf (10000000 * 65536) = 21 ∧ kExp (12800000 * 65536) = 6 ∧
    mOf (12800000 * 65536) = 14 := by decide +kernel

/-- spec/11_ports.md, a received stamp: TICK 4,999,999,987, CRUMB 195. -/
theorem test_receive_stamp_example :
    (st [(F.PRT_STAT.MODE 1, 1), (F.PRT_PLANE.RXDLY 1, 160), (F.PRT_LAT.RXLAT 1, 7420)]).rxStamp 1 (5000000000 * 512 + 300) 66 =
      4999999987 * 512 + 195 := by decide +kernel

/-- spec/11_ports.md, the asymmetry calibration's U_ASYM: 250 + 50 + 7,000 ps. -/
theorem test_uasym_example :
    (st [(F.PRT_STAT.MODE 1, 1), (F.PRT_STAT.LATOK 1, 1), (F.PRT_PLANEUNC.UNC 1, 50), (F.PRT_LINKUNC.UNC 1, 7000), (F.REF_STAT.KIND 11, 6),
      (F.REF_CFG.EN 11, 1), (F.REF_CFG.PORT 11, 1)]).uAsym 1 = 7300 := by decide +kernel

/-- spec/12_departure.md, an NTS reply: with e at 216.4625 ns (69,268 crumbs) the crossing is at 241.085 ns (77,147 crumbs), and 274 bytes
occupy 94.72 ns (30,310.4 crumbs). -/
theorem test_appointment_example :
    (st [(F.PRT_STAT.MODE 2, 1), (F.PRT_PLANE.TXDLY 2, 160), (F.PRT_LAT.TXLAT 2, 6900)]).crossing 2 69268 = 77147 ∧
      occupation 1 274 = 30311 := by decide +kernel

/-- spec/13_engines.md: sealing 240 bytes takes 32 ns, and an HMAC over 100 bytes 36 ns. -/
theorem test_lane_time_example : laneTime ⟨0, false, none, 0, 240, none, true⟩ true = 320 ∧
    laneTime ⟨0, true, none, 0, 100, none, false⟩ true = 360 := by decide +kernel

/-- spec/14_nts.md, fields of one reply: seconds 3,970,596,447, fraction 42,949,631, dispersion 1, and ERRB_w 4,662 ps. -/
theorem test_ntp_example :
    (st [(F.HRT_UTC.OFFSET, 37), (F.HRT_UTC.VALID, 1)]).ntpTime ((1761607684 * 1000000000 + 9999990) * 65536 + 20507) =
      3970596447 * 2 ^ 32 + 42949631 ∧ rootDispersion 4662 = 1 ∧ errbSum [4346, 16, 300] = 4662 := by decide +kernel

/-- spec/15_ptp.md, a one-step Sync: a bound of 4,662 ps has clockAccuracy 0x1F. -/
theorem test_accuracy_example : accOf 4662 = 0x1F := by decide +kernel

/-- spec/13_engines.md, one entry: an NTP request for 2001:db8:40::7b hits it, and one for another address does not. -/
theorem test_classifier_example :
    let a := fun (b : Nat) => [0x20, 0x01, 0x0D, 0xB8, 0, 0x40, 0, 0, 0, 0, 0, 0, 0, 0, 0, b]
    let e := bs ([0, 0, 0xDD, 0x86, 0, 0, 6, 0x11] ++ a 0x7B ++ [0x7B, 0, 0, 0, 3, 0, 0, 0] ++ [0, 0, 0xFF, 0xFF, 0, 0, 0xFF, 0xFF] ++
      List.replicate 16 0xFF ++ [0xFF, 0xFF, 0, 0, 7, 0, 0, 0] ++ [1, 0, 0, 1])
    let f := fun (b : Nat) => zeros 12 ++ bs ([0x86, 0xDD, 0x60, 0, 0, 0, 0, 56, 17, 64] ++ List.replicate 16 9 ++ a b ++
      [0, 99, 0, 123, 0, 56, 0, 0, 0x23]) ++ zeros 47
    entryHits (clsKey 1 (f 0x7B)) e = true ∧ entryHits (clsKey 1 (f 0x7C)) e = false := by decide +kernel

/-! One step each. -/

/-- R22: on an empty queue the raw counter counts. -/
theorem test_tick : (match step State.reset with | .next t => t.raw | _ => 0) = 1 := by decide +kernel

/-- A command that names no unit ends the step with the fault. -/
theorem test_missing_unit :
    (match step { B with pending := [.pulseEdge 16] } with | .fault .noSuchUnit => true | _ => false) = true := by decide +kernel

/-- R16: a read of an offset that holds no register returns 0. -/
theorem test_read_no_register :
    (match exec (.snapshotRead .host .bar0 0x3FFFFFC) B with | .next t => t.out | _ => []) = [.readback 0 0] := by decide +kernel

/-- R558: one write of EVT_SWSET counts an occurrence of each event named. -/
theorem test_swset :
    (match execEvtSwset .host 0x800001 B with
      | .next t => (t.get (F.EVT_COUNT.COUNT (swEvent 0)), t.get (F.EVT_COUNT.COUNT (swEvent 23)), t.get (F.EVT_COUNT.COUNT (swEvent 1)))
      | _ => (9, 9, 9)) = (1, 1, 0) := by decide +kernel

/-! Every statement's hypotheses can be met. -/

theorem witness_RawCounter :
    (∃ s : State, s.supply.on = false) ∧
    (∃ (c : Instr) (s t : State), exec c s = .next t ∧ s.supply.on = true ∧ t.supply.on = true) ∧
    (∃ s : State, s.pending = [] ∧ s.supply.on = true) ∧ (∃ s : State, s.pending = [] ∧ s.supply.on = false) :=
  ⟨⟨{ B with supply := { on := false } }, rfl⟩, ⟨.drained, B, _, rfl, by decide +kernel, by decide +kernel⟩, ⟨B, by decide +kernel, by decide +kernel⟩,
   ⟨{ B with supply := { on := false } }, by decide +kernel, rfl⟩⟩

theorem witness_OnlyMissingUnitsStop : (∃ c : Instr, WellFormed c) ∧ ∃ c : Instr, ¬ WellFormed c :=
  ⟨⟨.tokenTimeout 13, by decide⟩, ⟨.tokenTimeout 14, by decide⟩⟩

theorem witness_StepKeepsInvariant : ∃ s t : State, StateInv s ∧ step s = .next t :=
  ⟨B, _, ⟨⟨by decide +kernel, by decide +kernel, by decide +kernel⟩, shaped (by decide +kernel)⟩, rfl⟩

theorem witness_CommandsKeepTheQueue : ∃ (c : Instr) (s t : State), exec c s = .next t := ⟨.drained, B, _, rfl⟩

theorem witness_LaunchedTokensAreGood :
    (∃ (s : State), s.supply.on = true ∧ s.raw % 625 = 0 ∧ s.raw < 2 ^ 64) :=
  ⟨({ st [(F.HRT_TB_ROUTE.EN 1,1), (F.HRT_TB_ROUTE.EN 13,1)] with raw := 625*16 }), by decide +kernel, by decide +kernel, by decide +kernel⟩

theorem witness_TimeBusIslands :
    (∃ (s : State) (n : Nat) (b : List Byte), 1 ≤ n ∧ n < 14 ∧ s.stage ≠ 5 ∧ s.bit (F.HRT_TB_ROUTE.EN n) = true ∧ s.domLost (routeDom n) = false ∧
      tokenOk b = false) ∧
    (∃ (s : State) (n : Nat) (b : List Byte), StateShape s ∧ 1 ≤ n ∧ n < 14 ∧ s.stage ≠ 5 ∧ s.bit (F.HRT_TB_ROUTE.EN n) = true ∧
      s.domLost (routeDom n) = false ∧ tokenOk b = true ∧ s.bit (F.HRT_TB_ROUTE.VALID n) = true ∧ (s.isle n).awaitLoad = false) ∧
    (∃ (s : State) (n : Nat), StateShape s ∧ 1 ≤ n ∧ n < 14 ∧ s.bit (F.HRT_TB_ROUTE.VALID n) = true ∧ (s.isle n).lastTick + 1250 ≤ s.raw) ∧
    (∃ (s : State) (n : Nat) (sum : Nat) (sumSq : Nat) (l : Nat), StateShape s ∧ 1 ≤ n ∧ n < 14 ∧ s.stage = 3 ∧ s.tb.calQ.head? = some n ∧
      s.calLatency n s.calMarkers sum sumSq = some l) ∧
    (∃ (s : State) (n : Nat) (sum : Nat) (sumSq : Nat), 1 ≤ n ∧ n < 14 ∧ s.supply.on = true ∧ s.stage = 3 ∧ s.boot.starter = false ∧
      s.tb.calQ.head? = some n ∧ s.calLatency n s.calMarkers sum sumSq = none) ∧
    (∃ (s : State) (n : Nat) (sum : Nat) (sumSq : Nat) (l : Nat), StateShape s ∧ 1 ≤ n ∧ n < 14 ∧ (s.stage = 6 ∨ s.stage = 7) ∧
      s.tb.calQ.head? = some n ∧ s.calLatency n 256 sum sumSq = some l) ∧
    (∃ (s : State) (n : Nat), StateShape s ∧ 1 ≤ n ∧ n < 14 ∧ s.bit (F.HRT_TB_ROUTE.EN n) = true ∧ s.bit (F.HRT_TB_ROUTE.VALID n) = true ∧
      s.tb.calQ = [] ∧ s.domLost (routeDom n) = false) ∧
    (∃ (s : State) (n : Nat) (p : Pair), StateShape s ∧ 1 ≤ n ∧ n < 14 ∧ (s.isle n).pend = some p ∧ p.commit * 512 ≤ s.replica n) ∧
    (∃ (s : State) (p : Pair) (host : Bool), s.hrt.pend = some (p, host) ∧ p.commit ≤ s.raw) :=
  ⟨⟨(st [(F.HRT_TB_ROUTE.EN 3,1)]), 3, ([]), by decide +kernel, by decide +kernel, by decide +kernel, by decide +kernel, by decide +kernel,
     by decide +kernel⟩,
   ⟨(st [(F.HRT_TB_ROUTE.EN 13,1), (F.HRT_TB_ROUTE.VALID 13,1)]), 13, (baseToken 1250 7 0 0), shaped (by decide +kernel), by decide +kernel,
     by decide +kernel, by decide +kernel, by decide +kernel, by decide +kernel, by decide +kernel, by decide +kernel, by decide +kernel⟩,
   ⟨({ st [(F.HRT_TB_ROUTE.EN 1,1), (F.HRT_TB_ROUTE.VALID 1,1)] with raw := 1250 }), 1, shaped (by decide +kernel), by decide +kernel,
     by decide +kernel, by decide +kernel, by decide +kernel⟩,
   ⟨(calling (st [(F.BOOT_STATUS.STAGE, 3)]) [5]), 5, 65536, 1048576, 8, shaped (by decide +kernel), by decide +kernel, by decide +kernel,
     by decide +kernel, by decide +kernel, by decide +kernel⟩,
   ⟨(calling (st [(F.BOOT_STATUS.STAGE, 3)]) [5]), 5, 1638400000, 0, by decide +kernel, by decide +kernel, by decide +kernel, by decide +kernel,
     by decide +kernel, by decide +kernel, by decide +kernel⟩,
   ⟨(calling B [10]), 10, 4096, 65536, 8, shaped (by decide +kernel), by decide +kernel, by decide +kernel, by decide +kernel, by decide +kernel,
     by decide +kernel⟩,
   ⟨(st [(F.HRT_TB_ROUTE.EN 2,1), (F.HRT_TB_ROUTE.VALID 2,1)]), 2, shaped (by decide +kernel), by decide +kernel, by decide +kernel,
     by decide +kernel, by decide +kernel, by decide +kernel, by decide +kernel⟩,
   ⟨({ withIsle B 4 { pend := some { gen := 1, commit := 100 } } with raw := 100 }), 4, ({ gen := 1, commit := 100 }), shaped (by decide +kernel),
     by decide +kernel, by decide +kernel, by decide +kernel, by decide +kernel⟩,
   ⟨({ B with raw := 100, hrt := { B.hrt with pend := some ({ gen := 1, commit := 100 }, true) } }), ({ gen := 1, commit := 100 }), (true),
     by decide +kernel, by decide +kernel⟩⟩

theorem witness_SupplyAndPowerUp :
    (∃ (s : State), s.supply.on = true) ∧
    (∃ (s : State), s.supply.on = true) ∧
    (∃ (s : State) (celsius : Int), s.supply.on = true ∧ 100 ≤ celsius) ∧
    (∃ (s : State), s.supply.on = true) ∧
    (∃ (s : State), s.supply.on = true) ∧
    (∃ (s : State), s.supply.on = true) ∧
    (∃ (s : State) (c : Int), s.supply.on = true ∧ 115 ≤ c) ∧
    (∃ (s : State), s.supply.on = true) ∧
    (∃ (s : State), s.stage = 7 ∧ s.supply.on = true) ∧
    (∃ (s : State) (fstartN : Bool) (bankSel : Nat), s.supply.on = false ∧ bankSel < 4 ∧
      ((s.nv.record.inStart = false ∨ s.nv.record.stop ≠ 0 ∨ fstartN = false ∨ 3 ≤ s.nv.record.attempts ∨ s.nv.record.starterReq = true))) ∧
    (∃ (s : State), s.supply.on = false ∧ s.nv.record.inStart = true ∧ s.nv.record.stop = 0 ∧ s.nv.record.attempts < 3 ∧
      s.nv.record.starterReq = false) ∧
    (∃ (s : State), s.supply.on = true) :=
  ⟨⟨(B), by decide +kernel⟩,
   ⟨(B), by decide +kernel⟩,
   ⟨(B), (100), by decide +kernel, by decide +kernel⟩,
   ⟨(B), by decide +kernel⟩,
   ⟨(B), by decide +kernel⟩,
   ⟨(B), by decide +kernel⟩,
   ⟨(B), (115), by decide +kernel, by decide +kernel⟩,
   ⟨(B), by decide +kernel⟩,
   ⟨(st [(F.BOOT_STATUS.STAGE, 7)]), by decide +kernel, by decide +kernel⟩,
   ⟨({ B with supply := { B.supply with on := false } }), (false), 3, by decide +kernel, by decide +kernel, by decide +kernel⟩,
   ⟨({ B with supply := { B.supply with on := false }, nv := { B.nv with recA := some { inStart := true } } }), by decide +kernel, by decide +kernel,
     by decide +kernel, by decide +kernel, by decide +kernel⟩,
   ⟨(B), by decide +kernel⟩⟩

theorem witness_RecipeActions :
    (∃ (s : State) (req : Requester) (bank : Nat), s.Reaches req 0x200008 ∧ bank < 2 ∧ 6 ≤ s.stage ∧ s.rcp.action = none ∧
      s.rcp.unusable.contains bank = false) ∧
    (∃ (s : State) (req : Requester) (bank : Nat), s.Reaches req 0x200008 ∧ bank < 2 ∧ 6 ≤ s.stage ∧ s.rcp.action = none ∧
      s.rcp.unusable.contains bank = false) ∧
    (∃ (s : State) (req : Requester) (bank : Nat), s.Reaches req 0x200008 ∧ bank < 2 ∧ 6 ≤ s.stage ∧ s.rcp.action = none ∧
      s.rcp.unusable.contains bank = false) ∧
    (∃ (s : State) (req : Requester) (bank : Nat), s.Reaches req 0x200008 ∧ bank < 2 ∧ 6 ≤ s.stage ∧ s.rcp.action = none ∧ ((s.stage = 6 →
      bank ≠ s.get F.RCP_STATUS.BANK)) ∧ 0 < s.get F.RCP_LEN.LEN ∧ s.get F.RCP_LEN.LEN ≤ 0x800000) ∧
    (∃ (s : State) (bank : Nat), s.supply.on = true ∧ 2 ≤ s.stage ∧ s.rcp.action = some (.check bank) ∧ s.rcp.live = none) ∧
    (∃ (s : State) (island : Nat) (v : LiveSt), island < 14 ∧ s.rcp.live = some v) ∧
    (∃ (s : State) (v : LiveSt), s.rcp.live = some v ∧ v.missing ≠ [] ∧ v.c ≤ s.raw + 128 ∧ v.attempt < 3) ∧
    (∃ (s : State) (v : LiveSt) (bank : Nat), s.rcp.action = some (.reload bank) ∧ s.rcp.live = some v ∧ v.missing ≠ [] ∧ v.c ≤ s.raw + 128 ∧
      3 ≤ v.attempt) ∧
    (∃ (s : State) (v : LiveSt) (bank : Nat), s.rcp.action = some (.reload bank) ∧ s.rcp.live = some v ∧ v.missing = [] ∧ v.c ≤ s.raw) :=
  ⟨⟨(B), (.host), 1, reaches (by decide +kernel), by decide +kernel, by decide +kernel, by decide +kernel, by decide +kernel⟩,
   ⟨(B), (.host), 1, reaches (by decide +kernel), by decide +kernel, by decide +kernel, by decide +kernel, by decide +kernel⟩,
   ⟨(B), (.host), 1, reaches (by decide +kernel), by decide +kernel, by decide +kernel, by decide +kernel, by decide +kernel⟩,
   ⟨(st [(F.RCP_LEN.LEN, 1)]), (.host), 1, reaches (by decide +kernel), by decide +kernel, by decide +kernel, by decide +kernel, by decide +kernel,
     by decide +kernel, by decide +kernel⟩,
   ⟨({ B with rcp := { B.rcp with action := some (.check 0) } }), 0, by decide +kernel, by decide +kernel, by decide +kernel, by decide +kernel⟩,
   ⟨({ B with rcp := { B.rcp with live := some ⟨100, 1, [0, 13], []⟩ } }), 13, (⟨100, 1, [0, 13], []⟩), by decide +kernel, by decide +kernel⟩,
   ⟨({ B with rcp := { B.rcp with live := some ⟨100, 1, [0, 13], []⟩ } }), (⟨100, 1, [0, 13], []⟩), by decide +kernel, by decide +kernel,
     by decide +kernel, by decide +kernel⟩,
   ⟨({ B with rcp := { B.rcp with action := some (.reload 0), live := some ⟨100, 3, [0, 13], []⟩ } }), (⟨100, 3, [0, 13], []⟩), 0, by decide +kernel,
     by decide +kernel, by decide +kernel, by decide +kernel, by decide +kernel⟩,
   ⟨({ B with rcp := { B.rcp with action := some (.reload 0), live := some ⟨0, 3, [], []⟩ } }), (⟨0, 3, [], []⟩), 0, by decide +kernel,
     by decide +kernel, by decide +kernel, by decide +kernel⟩⟩

theorem witness_ProgrammingWritesTheBank :
    (∃ (s : State) (fw : Bool) (bank : Nat) (src : Nat) (len : Nat), s.rcp.action = some (.prog fw bank src len) ∧ len ≤ bankSize fw) :=
  ⟨({ B with rcp := { B.rcp with action := some (.prog true 1 64 3) }, sram := [(64, 1), (66, 2)], flash := [(0x3000001, 7)] }), (true), 1, 64, 3,
    by decide +kernel, by decide +kernel⟩

theorem witness_StartAndRestart :
    (∃ (s : State), s.stage = 2) ∧
    (∃ (s : State) (d : Nat), d < 13 ∧ s.stage = 2 ∧ s.supply.on = true) ∧
    (∃ (s : State), s.stage = 4 ∧ s.supply.on = true) ∧
    (∃ (s : State), s.stage = 5 ∧ s.routesValid = false) ∧
    (∃ (s : State), s.stage = 5 ∧ s.supply.on = true ∧ s.routesValid = true) ∧
    (∃ (s : State), s.supply.on = true ∧ s.stage < 6 ∧ s.boot.starter = false ∧ s.boot.deadline ≤ s.raw) ∧
    (∃ (s : State) (c : Nat), s.supply.on = true ∧ s.boot.complete = some c ∧ s.stage = 6 ∧ s.bit F.BOOT_STATUS.STABLE = false ∧
      c + 300 * 625000000 ≤ s.raw) ∧
    (∃ (s : State), s.supply.on = true ∧ s.stage = 6 ∧ s.boot.lastSecAt + 1024 * 625000000 ≤ s.raw) ∧
    (∃ (s : State) (req : Requester), s.Reaches req 0x100008 ∧ (¬ (s.paired = true ∧ s.role = 1 ∧ s.pairState = 5))) ∧
    (∃ (s : State) (req : Requester), s.Reaches req 0x100008) ∧
    (∃ (s : State) (req : Requester), s.Reaches req 0x100008) ∧
    (∃ (s : State) (req : Requester), s.Reaches req 0x100008) ∧
    (∃ (s : State) (req : Requester) (bank : Nat), s.Reaches req 0x100008 ∧ bank < 2 ∧ 6 ≤ s.stage ∧ s.rcp.action = none ∧
      s.rcp.unusable.contains (bank + 2) = false) ∧
    (∃ (s : State) (req : Requester) (bank : Nat), s.Reaches req 0x100008 ∧ bank < 2 ∧ 6 ≤ s.stage ∧ s.rcp.action = none ∧ ((s.stage = 6 →
      bank ≠ s.get F.BOOT_STATUS.FWBANK)) ∧ 0 < s.get F.RCP_LEN.LEN ∧ s.get F.RCP_LEN.LEN ≤ 0xFFFFF0) ∧
    (∃ (s : State) (req : Requester) (key : Nat), s.Reaches req 0x100008 ∧ key % 65536 ≠ 0x9612 ∧ s.bit F.XBR_AERR.AERR = false) ∧
    (∃ (s : State) (fw : Bool) (bank : Nat) (image : List Byte), bank < 2 ∧ s.stage = 7 ∧ s.rcp.action = none ∧ image ≠ [] ∧
      (image.length ≤ (if fw then 0xFFFFF0 else 0x800000))) ∧
    (∃ (s : State), s.stage = 7 ∧ s.supply.on = true) ∧
    (∃ (s : State), s.stage = 7 ∧ s.supply.on = true) :=
  ⟨⟨(st [(F.BOOT_STATUS.STAGE, 2), (F.HRT_TB_ROUTE.EN 5,1)]), by decide +kernel⟩,
   ⟨(st [(F.BOOT_STATUS.STAGE, 2)]), 12, by decide +kernel, by decide +kernel, by decide +kernel⟩,
   ⟨(st [(F.BOOT_STATUS.STAGE, 4)]), by decide +kernel, by decide +kernel⟩,
   ⟨(st [(F.BOOT_STATUS.STAGE, 5), (F.HRT_TB_ROUTE.EN 5,1)]), by decide +kernel, by decide +kernel⟩,
   ⟨(st [(F.BOOT_STATUS.STAGE, 5)]), by decide +kernel, by decide +kernel, by decide +kernel⟩,
   ⟨({ st [(F.BOOT_STATUS.STAGE, 4)] with boot := { B.boot with deadline := 0 } }), by decide +kernel, by decide +kernel, by decide +kernel,
     by decide +kernel⟩,
   ⟨({ B with raw := 300*625000000, boot := { B.boot with complete := some 0 } }), 0, by decide +kernel, by decide +kernel, by decide +kernel,
     by decide +kernel, by decide +kernel⟩,
   ⟨({ B with raw := 1024*625000000 }), by decide +kernel, by decide +kernel, by decide +kernel⟩,
   ⟨(B), (.host), reaches (by decide +kernel), by decide +kernel⟩,
   ⟨(B), (.host), reaches (by decide +kernel)⟩,
   ⟨(B), (.host), reaches (by decide +kernel)⟩,
   ⟨(B), (.host), reaches (by decide +kernel)⟩,
   ⟨(B), (.host), 1, reaches (by decide +kernel), by decide +kernel, by decide +kernel, by decide +kernel, by decide +kernel⟩,
   ⟨(st [(F.RCP_LEN.LEN, 1)]), (.host), 1, reaches (by decide +kernel), by decide +kernel, by decide +kernel, by decide +kernel, by decide +kernel,
     by decide +kernel, by decide +kernel⟩,
   ⟨(B), (.host), 0, reaches (by decide +kernel), by decide +kernel, by decide +kernel⟩,
   ⟨(st [(F.BOOT_STATUS.STAGE, 7)]), (false), 1, ([1,2,3]), by decide +kernel, by decide +kernel, by decide +kernel, by decide +kernel,
     by decide +kernel⟩,
   ⟨(st [(F.BOOT_STATUS.STAGE, 7)]), by decide +kernel, by decide +kernel⟩,
   ⟨(st [(F.BOOT_STATUS.STAGE, 7)]), by decide +kernel, by decide +kernel⟩⟩

theorem witness_PulsesAndIrig :
    (∃ (s : State) (c : Nat) (l : Nat) (h : Held), StateShape s ∧ c < 16 ∧ s.kind c = 2 ∧ (s.rf c).held.find? (fun h => h.cls == 0) = some h ∧
      (s.rf c).lastEdge = some l ∧ 0 < s.get (F.REF_NOMFREQ.FREQ c) ∧
      (h.at16 : Rat) - l < 9 / 10 * (320000000000 * 16 * 65536 / s.get (F.REF_NOMFREQ.FREQ c))) ∧
    (∃ (s : State) (c : Nat) (l : Nat) (h : Held), StateShape s ∧ c < 16 ∧ s.kind c = 2 ∧ (s.rf c).held.find? (fun h => h.cls == 0) = some h ∧
      (s.rf c).lastEdge = some l ∧ 0 < s.get (F.REF_NOMFREQ.FREQ c) ∧
      9 / 10 * (320000000000 * 16 * 65536 / s.get (F.REF_NOMFREQ.FREQ c) : Rat) ≤ (h.at16 : Rat) - l ∧
      (h.at16 : Rat) - l ≤ 11 / 10 * (320000000000 * 16 * 65536 / s.get (F.REF_NOMFREQ.FREQ c))) ∧
    (∃ (s : State) (c : Nat) (l : Nat), c < 16 ∧ s.kind c = 2 ∧ (s.rf c).lastEdge = some l ∧ 0 < s.get (F.REF_NOMFREQ.FREQ c) ∧
      (l : Rat) + 5 / 2 * (320000000000 * 16 * 65536 / s.get (F.REF_NOMFREQ.FREQ c)) ≤ (s.now * 16 : Nat)) ∧
    (∃ (s : State) (c : Nat) (n : Nat), c < 16 ∧ freqOnly (s.kind c) = true ∧ s.raw % 625000 = 0 ∧ s.tdcOf c = some n) ∧
    (∃ (s : State) (c : Nat) (code : Nat) (pr16 : Nat) (widths : List Nat), StateShape s ∧ c < 16 ∧ code < 8 ∧ s.kind c = 4 ∧ pr16 ∈ (s.rf c).prs ∧
      ((∃ w ∈ widths, irigClass w = none))) ∧
    (∃ (s : State) (c : Nat) (code : Nat) (pr16 : Nat) (v : Nat) (widths : List Nat), StateShape s ∧ c < 16 ∧ code < 8 ∧ s.kind c = 4 ∧
      pr16 ∈ (s.rf c).prs ∧ ((∀ w ∈ widths, irigClass w ≠ none)) ∧
      s.irigSecond code (widths.map (fun w => (irigClass w).getD 3)) (s.get (F.REF_CFG.TSCALE c) == 1) = some v ∧ ((4 ≤ code ∨ s.timeKnown = true))) :=
  ⟨⟨(withRef (st [(F.REF_STAT.KIND 3, 2), (F.REF_NOMFREQ.FREQ 3, 65536)]) 3 { lastEdge := some 0, held := [⟨100, 0, 0, 0, false, 0⟩] }), 3, 0, (⟨100,
     0, 0, 0, false, 0⟩), shaped (by decide +kernel), by decide +kernel, by decide +kernel, by decide +kernel, by decide +kernel, by decide +kernel,
     by decide +kernel⟩,
   ⟨(withRef (st [(F.REF_STAT.KIND 3, 2), (F.REF_NOMFREQ.FREQ 3,
     65536)]) 3 { lastEdge := some 5, held := [⟨9, 0, 0, 0, false, 1⟩, ⟨5120000000000, 0, 0, 0, false, 0⟩] }), 3, 5, (⟨5120000000000, 0, 0, 0, false,
     0⟩), shaped (by decide +kernel), by decide +kernel, by decide +kernel, by decide +kernel, by decide +kernel, by decide +kernel,
     by decide +kernel, by decide +kernel⟩,
   ⟨(late 1562500000 (withRef (st [(F.REF_STAT.KIND 15, 2), (F.REF_NOMFREQ.FREQ 15, 65536)]) 15 { lastEdge := some 0 })), 15, 0, by decide +kernel,
     by decide +kernel, by decide +kernel, by decide +kernel, by decide +kernel⟩,
   ⟨(withTdc (withSec (late 625000 (st [(F.REF_STAT.KIND 3, 3), (F.REF_NOMFREQ.FREQ 3, 655360000000)])) 0x11 [0,0,0,0,1,3]) 1 { edges := 10000 }), 3,
     1, by decide +kernel, by decide +kernel, by decide +kernel, by decide +kernel⟩,
   ⟨(withRef (st [(F.REF_STAT.KIND 0, 4)]) 0 { prs := [77] }), 0, 0, 77, ([3000]), shaped (by decide +kernel), by decide +kernel, by decide +kernel,
     by decide +kernel, by decide +kernel, by decide +kernel⟩,
   ⟨(withRef (st [(F.REF_STAT.KIND 0, 4)]) 0 { prs := [77] }), 0, 5, 77, 946684800,
     ((List.range 100).map (fun i => if i == 0 || i % 10 == 9 then 8000 else if i == 30 then 5000 else 2000)), shaped (by decide +kernel),
     by decide +kernel, by decide +kernel, by decide +kernel, by decide +kernel, by decide +kernel, by decide +kernel, by decide +kernel⟩⟩

theorem witness_GnssAndAntenna :
    (∃ (s : State) (c : Nat), s.channelOfKind 1 = some c) ∧
    (∃ (s : State), s.sel.posHeld = false ∧ s.sel.surveyLeft = 0) ∧
    (∃ (s : State) (c : Nat), s.channelOfKind 1 = some c ∧ s.sel.lastFix + 5 * 625000000 ≤ s.raw) ∧
    (∃ (s : State) (n : Nat) (half : Nat), StateShape s ∧ half < 2 ∧ (s.channelOfKind 1).bind s.tdcOf = some n) ∧
    (∃ (s : State), (¬ (s.bit F.REF_ANT.SHORT = true ∧ s.bit F.REF_ANT.FEEDON = false))) ∧
    (∃ (s : State) (t0 : Nat), s.sel.shortSince = some t0 ∧ s.bit F.REF_ANT.SHORT = true ∧ s.bit F.REF_ANT.FEEDON = true ∧ t0 + 625000 ≤ s.raw) ∧
    (∃ (s : State), s.bit F.REF_ANT.SHORT = true ∧ s.bit F.REF_ANT.FEEDON = false ∧ s.sel.retryAt ≤ s.raw) :=
  ⟨⟨(st [(F.REF_STAT.KIND 2, 1)]), 2, by decide +kernel⟩,
   ⟨({ B with sel := { surveyLeft := 0 } }), by decide +kernel, by decide +kernel⟩,
   ⟨(late (5 * 625000000) (st [(F.REF_STAT.KIND 2, 1)])), 2, by decide +kernel, by decide +kernel⟩,
   ⟨(withSec (st [(F.REF_STAT.KIND 2, 1)]) 0x11 [1,2]), 0, 1, shaped (by decide +kernel), by decide +kernel, by decide +kernel⟩,
   ⟨(B), by decide +kernel⟩,
   ⟨({ late 625000 (st [(F.REF_ANT.SHORT, 1), (F.REF_ANT.FEEDON, 1)]) with sel := { shortSince := some 0 } }), 0, by decide +kernel,
     by decide +kernel, by decide +kernel, by decide +kernel⟩,
   ⟨(st [(F.REF_ANT.SHORT, 1), (F.REF_ANT.FEEDON, 0)]), by decide +kernel, by decide +kernel, by decide +kernel⟩⟩

theorem witness_ReferenceChannels :
    (∃ (s : State) (c : Nat) (code : Nat) (e : Bool) (bytes : List Byte), StateShape s ∧ c < 16 ∧ s.kind c = 5 ∧
      esmcCode bytes (s.bit (F.REF_CFG.EXTQL c)) = some (code, e) ∧ code < 256) ∧
    (∃ (s : State) (c : Nat), StateShape s ∧ c < 16 ∧ s.kind c = 5 ∧ (s.rf c).heardAt + 5 * 625000000 ≤ s.raw) ∧
    (∃ (s : State) (c : Nat), c < 16 ∧ s.kind c = 6) ∧
    (∃ (s : State) (c : Nat), c < 16 ∧ s.effectiveClass c < 16) ∧
    (∃ (k : Nat), k < 6) ∧
    (∃ (k : Nat), k < 6) ∧
    (∃ (s : State) (c : Nat) (t0 : Nat), StateShape s ∧ c < 16 ∧ (s.rf c).presAt = some t0 ∧ t0 + 62500000 ≤ s.raw) ∧
    (∃ (s : State) (c : Nat) (n : Nat) (h : Held) (rest : List Held), StateShape s ∧ c < 16 ∧ (s.rf c).held = h :: rest ∧ s.tdcOf c = some n ∧
      h.taken + 20000 ≤ s.raw) ∧
    (∃ (s : State) (req : Requester) (c : Nat) (data : Nat), let f := fun (x : Fld) => bitsOf data x.lo x.w; s.Reaches req 0x600004 ∧ c < 16 ∧
      ((s.bit (F.REF_CFG.EN c) = true → ∀ x ∈ [F.REF_CFG.ANTOPEN_OK c, F.REF_CFG.SINGLE c, F.REF_CFG.CONST c, F.REF_CFG.GSYS c, F.REF_CFG.PORT c,
      F.REF_CFG.EXTQL c, F.REF_CFG.TSCALE c], f x = s.get x)) ∧ ((1 ≤ f (F.REF_CFG.QOVR c) ∧
      (f (F.REF_CFG.QOVR c) ≤ 7 ∨ f (F.REF_CFG.QOVR c) = 15))) ∧ f (F.REF_CFG.CONST c) ≠ 0 ∧ f (F.REF_CFG.GSYS c) ≠ 3 ∧
      (f (F.REF_CFG.CONST c)).testBit (f (F.REF_CFG.GSYS c)) = true ∧ f (F.REF_CFG.TSCALE c) ≠ 3 ∧ s.isHeld (0x100 + c) = false) ∧
    (∃ (s : State) (req : Requester) (c : Nat), s.Reaches req 0x600020 ∧ c < 16 ∧ ((s.kind c = 2 ∨ s.kind c = 3)) ∧ s.bit (F.REF_CFG.EN c) = false) ∧
    (∃ (s : State) (req : Requester) (c : Nat) (data : Nat) (low : Nat), s.Reaches req 0x600024 ∧ c < 16 ∧ s.kind c = 2 ∧
      s.bit (F.REF_CFG.EN c) = false ∧ lookup c s.sel.nomLow = some low ∧ 65536 ≤ low + data % 65536 * 2 ^ 32 ∧
      low + data % 65536 * 2 ^ 32 ≤ 10000000 * 65536) :=
  ⟨⟨(st [(F.REF_STAT.KIND 15, 5), (F.REF_CFG.EXTQL 15, 1)]), 15, (0x21), (true), ([0x0A, 0, 0x19, 0xA7, 0, 1, 0x10, 0, 0, 0, 1, 0, 4, 2, 2, 0, 0x14,
     0x21].map (BitVec.ofNat 8)), shaped (by decide +kernel), by decide +kernel, by decide +kernel, by decide +kernel, by decide +kernel⟩,
   ⟨(late (5 * 625000000) (st [(F.REF_STAT.KIND 15, 5)])), 15, shaped (by decide +kernel), by decide +kernel, by decide +kernel, by decide +kernel⟩,
   ⟨(st [(F.REF_STAT.KIND 1, 6)]), 1, by decide +kernel, by decide +kernel⟩,
   ⟨(st [(F.REF_STAT.KIND 1, 2), (F.REF_CFG.EN 1, 1), (F.REF_STAT.QCLASS 1, 3)]), 1, by decide +kernel, by decide +kernel⟩,
   ⟨0, by decide +kernel⟩,
   ⟨5, by decide +kernel⟩,
   ⟨(withRef (late 62500000 (st [(F.REF_STAT.KIND 1, 2)])) 1 { presAt := some 0 }), 1, 0, shaped (by decide +kernel), by decide +kernel,
     by decide +kernel, by decide +kernel⟩,
   ⟨(withSec (withRef (late 20000 (st [(F.REF_STAT.KIND 1, 2), (F.REF_NOMFREQ.FREQ 1,
     65536)])) 1 { held := [⟨9, 0, 0, 0, false, 0⟩] }) 0x11 [0,0,0,0,1,1,0,0]), 1, 1, (⟨9, 0, 0, 0, false, 0⟩), ([]), shaped (by decide +kernel),
     by decide +kernel, by decide +kernel, by decide +kernel, by decide +kernel⟩,
   ⟨(B), (.host), 15, (1 + 0x60 + 0x400 * 7), reaches (by decide +kernel), by decide +kernel, by decide +kernel, by decide +kernel, by decide +kernel,
     by decide +kernel, by decide +kernel, by decide +kernel, by decide +kernel⟩,
   ⟨(st [(F.REF_STAT.KIND 15, 3)]), (.host), 15, reaches (by decide +kernel), by decide +kernel, by decide +kernel, by decide +kernel⟩,
   ⟨({ st [(F.REF_STAT.KIND 0, 2)] with sel := { nomLow := [(0, 0)] } }), (.host), 0, 10, 0, reaches (by decide +kernel), by decide +kernel,
     by decide +kernel, by decide +kernel, by decide +kernel, by decide +kernel, by decide +kernel⟩⟩

theorem witness_EdgesAndInterpolators :
    (∃ (s : State) (n : Nat) (half : Nat) (code : Nat) (kStop : Nat) (c1 : Nat) (c2 : Nat) (tk : Nat) (at16 : Nat), StateShape s ∧ n < 24 ∧ half < 2 ∧
      s.tdcUse n ≠ 0 ∧ ((if half = 0 then (s.td n).h0 else (s.td n).h1).pair = some (c1, c2, tk)) ∧ eventTime c1 c2 code kStop = some at16) ∧
    (∃ (s : State) (n : Nat) (half : Nat), StateShape s ∧ n < 24 ∧ half < 2 ∧ s.tdcUse n ≠ 0 ∧
      ((if half = 0 then (s.td n).h0 else (s.td n).h1).pair = none)) ∧
    (∃ (s : State) (n : Nat) (half : Nat) (c1 : Nat) (c2 : Nat), StateShape s ∧ n < 24 ∧ half < 2 ∧ s.tdcUse n ≠ 0 ∧
      ((if half = 0 then (s.td n).h0 else (s.td n).h1).pair = none) ∧
      (((c2 : Int) - c1 - s.get (F.TDC_CAL.NOM n)).natAbs : Int) * 100 ≤ 12 * s.get (F.TDC_CAL.NOM n)) ∧
    (∃ (s : State) (n : Nat) (half : Nat) (c1 : Nat) (c2 : Nat), StateShape s ∧ n < 24 ∧ half < 2 ∧ s.tdcUse n ≠ 0 ∧
      ((if half = 0 then (s.td n).h0 else (s.td n).h1).pair = none) ∧
      12 * (s.get (F.TDC_CAL.NOM n) : Int) < (((c2 : Int) - c1 - s.get (F.TDC_CAL.NOM n)).natAbs : Int) * 100) :=
  ⟨⟨(withTdc (withSec B 0x11 [2]) 0 { h0 := { pair := some (100, 200, 5) } }), 0, 0, 150, 1000, 100, 200, 5, 8179712, shaped (by decide +kernel),
     by decide +kernel, by decide +kernel, by decide +kernel, by decide +kernel, by decide +kernel⟩,
   ⟨(withSec B 0x11 ((List.range 96).map (fun i => if i == 92 then 2 else 0))), 23, 1, shaped (by decide +kernel), by decide +kernel,
     by decide +kernel, by decide +kernel, by decide +kernel⟩,
   ⟨(withSec (st [(F.TDC_CAL.NOM 1, 100)]) 0x11 [0,0,0,0,2]), 1, 0, 5, 117, shaped (by decide +kernel), by decide +kernel, by decide +kernel,
     by decide +kernel, by decide +kernel, by decide +kernel⟩,
   ⟨(withSec (st [(F.TDC_CAL.NOM 1, 100)]) 0x11 [0,0,0,0,2]), 1, 1, 5, 118, shaped (by decide +kernel), by decide +kernel, by decide +kernel,
     by decide +kernel, by decide +kernel, by decide +kernel⟩⟩

theorem witness_Measurements :
    (∃ (s : State) (c : Nat) (n : Nat), StateShape s ∧ c < 16 ∧ s.kind c = 2 ∧ s.raw % 625000 = 20000 ∧ 0 < (s.rf c).msCount ∧ s.tdcOf c = some n ∧
      s.bit (F.TDC_CFG.UNSIGNED n) = false) ∧
    (∃ (s : State) (n : Nat) (q : Stop) (rest : List Stop), StateShape s ∧ n < 24 ∧ (s.td n).stops = q :: rest ∧
      q.taken + max (s.get (F.TDC_WIN.WIN n)) 20000 ≤ s.raw) ∧
    (∃ (s : State) (n : Nat) (g : Gate), StateShape s ∧ n < 24 ∧ ((s.rollGate n).td n).closing = some g ∧
      g.endTick + holdTicks (s.kind (s.tdcTarget n)) + 5000 ≤ s.raw) ∧
    (∃ (s : State) (req : Requester) (n : Nat), s.Reaches req 0x500004 ∧ n < 24 ∧ s.tdcReserved n = false) ∧
    (∃ (s : State) (req : Requester) (data : Nat), s.Reaches req 0x500024 ∧ bitsOf data 0 2 ≠ 3 ∧ ((bitsOf data 0 2 = 1 →
      s.kind (bitsOf data 4 4) = 3 ∧ s.bit (F.REF_STAT.PRESENT (bitsOf data 4 4)) = true ∧ s.bit (F.REF_STAT.ACTIVITY (bitsOf data 4 4)) = true))) ∧
    (∃ (s : State) (req : Requester) (n : Nat) (data : Nat), s.Reaches req 0x50000C ∧ n < 24 ∧ s.tdcReserved n = false ∧ 1 ≤ bitsOf data 0 20 ∧
      bitsOf data 0 20 ≤ 1000000) ∧
    (∃ (s : State) (req : Requester) (n : Nat) (data : Nat), s.Reaches req 0x50000C ∧ n < 24 ∧ s.bit F.XBR_AERR.AERR = false ∧
      (bitsOf data 0 20 = 0 ∨ 1000000 < bitsOf data 0 20)) :=
  ⟨⟨(withSec (withRef (late (625000 + 20000) (st [(F.REF_STAT.KIND 0, 2), (F.REF_NOMFREQ.FREQ 0,
     655360000)])) 0 { msCount := 3, msSum := 7 }) 0x11 [1, 0]), 0, 0, shaped (by decide +kernel), by decide +kernel, by decide +kernel,
     by decide +kernel, by decide +kernel, by decide +kernel, by decide +kernel⟩,
   ⟨(withTdc (late 3000000000 B) 5 { stops := [⟨900000, 2, 0, false⟩] }), 5, (⟨900000, 2, 0, false⟩), ([]), shaped (by decide +kernel),
     by decide +kernel, by decide +kernel, by decide +kernel⟩,
   ⟨(withTdc (late 10000000 B) 5 { closing := some { openTick := 0, ms := 1, first := 0, d := 1, lim := 10, free := true, tb := 2, tbCh := 0 } }), 5,
     ({ openTick := 0, ms := 1, first := 0, d := 1, lim := 10, free := true, tb := 2, tbCh := 0 }), shaped (by decide +kernel), by decide +kernel,
     by decide +kernel, by decide +kernel⟩,
   ⟨(st [(F.TDC_CNT.MISS 23, 4)]), (.host), 23, reaches (by decide +kernel), by decide +kernel, by decide +kernel⟩,
   ⟨(st [(F.REF_STAT.KIND 2, 3), (F.REF_STAT.PRESENT 2, 1), (F.REF_STAT.ACTIVITY 2, 1)]), (.host), (0x21), reaches (by decide +kernel),
     by decide +kernel, by decide +kernel⟩,
   ⟨(B), (.host), 23, 1000000, reaches (by decide +kernel), by decide +kernel, by decide +kernel, by decide +kernel, by decide +kernel⟩,
   ⟨(B), (.host), 0, 1000001, reaches (by decide +kernel), by decide +kernel, by decide +kernel, by decide +kernel⟩⟩

theorem witness_AtomicStandard :
    (∃ (s : State), s.cellState = 0) ∧
    (∃ (s : State), s.cellState = 1) ∧
    (∃ (s : State), s.cellState = 2 ∧ s.osc.stateAt + 10 * 625000000 ≤ s.raw) ∧
    (∃ (s : State) (k : Nat) (limit : Nat), (k, limit) ∈ [(0, 600), (1, 20), (2, 10)] ∧ s.cellState = k ∧ s.osc.stateAt + limit * 625000000 ≤ s.raw) ∧
    (∃ (s : State), s.cellState = 4 ∧ s.osc.stateAt + 60 * 625000000 ≤ s.raw) ∧
    (∃ (s : State), s.cellState = 3) ∧
    (∃ (s : State) (t0 : Nat), s.osc.ovenIn = some t0 ∧ s.bit F.OSC_STAT.OVEN_PROOF = true ∧ t0 + 300 * 625000000 ≤ s.raw) ∧
    (∃ (s : State), s.bit F.OSC_STAT.CELL_PROOF = true ∧ s.bit F.OSC_STAT.CELL_LOCK = true ∧
      s.osc.lockAt + s.get F.OSC_SETTLE.CELL * 625000000 ≤ s.raw) ∧
    (∃ (s : State) (t0 : Nat), s.osc.ovenOut = some t0 ∧ s.bit F.OSC_STAT.OVEN_PROOF = false ∧ t0 + 625000000 ≤ s.raw) ∧
    (∃ (s : State) (t0 : Nat), s.osc.leftLock = some t0 ∧ s.bit F.OSC_STAT.CELL_LOCK = false ∧ s.bit F.OSC_STAT.CELL_PROOF = false ∧
      t0 + 60 * 625000000 ≤ s.raw) ∧
    (∃ (s : State), 374997500000 ≤ s.raw ∧ s.osc.ovenReached = false) ∧
    (∃ (s : State), 374997500000 ≤ s.raw ∧ s.cellState = 0 ∧ s.osc.heatAt = none) :=
  ⟨⟨(st [(F.OSC_STAT.CELL_STATE, 0)]), by decide +kernel⟩,
   ⟨(st [(F.OSC_STAT.CELL_STATE, 1)]), by decide +kernel⟩,
   ⟨(late 6250000000 (st [(F.OSC_STAT.CELL_STATE, 2)])), by decide +kernel, by decide +kernel⟩,
   ⟨(late (20*625000000) (st [(F.OSC_STAT.CELL_STATE, 1)])), 1, 20, by decide +kernel, by decide +kernel, by decide +kernel⟩,
   ⟨(late (60*625000000) (st [(F.OSC_STAT.CELL_STATE, 4)])), by decide +kernel, by decide +kernel⟩,
   ⟨(st [(F.OSC_STAT.CELL_STATE, 3)]), by decide +kernel⟩,
   ⟨({ late (300*625000000) (st [(F.OSC_STAT.OVEN_PROOF, 1)]) with osc := { ovenIn := some 0 } }), 0, by decide +kernel, by decide +kernel,
     by decide +kernel⟩,
   ⟨({ late (9000000*625000000) (st [(F.OSC_STAT.CELL_PROOF, 1), (F.OSC_STAT.CELL_LOCK, 1)]) with osc := { lockAt := 0 } }), by decide +kernel,
     by decide +kernel, by decide +kernel⟩,
   ⟨({ late (625000000) (st [(F.OSC_STAT.OVEN_PROOF, 0)]) with osc := { ovenOut := some 0 } }), 0, by decide +kernel, by decide +kernel,
     by decide +kernel⟩,
   ⟨({ late (60*625000000) (st [(F.OSC_STAT.CELL_PROOF, 0), (F.OSC_STAT.CELL_LOCK, 0)]) with osc := { leftLock := some 0 } }), 0, by decide +kernel,
     by decide +kernel, by decide +kernel, by decide +kernel⟩,
   ⟨(late 374997500000 B), by decide +kernel, by decide +kernel⟩,
   ⟨(late 374997500000 (st [(F.OSC_STAT.CELL_STATE, 0)])), by decide +kernel, by decide +kernel, by decide +kernel⟩⟩

theorem witness_OvenAndModels :
    (∃ (temps : List Int), ((∀ x ∈ temps, -32768 ≤ x ∧ x < 32768))) ∧
    (∃ (s : State) (q : Nat), q < 4 ∧ s.get (F.PWR_DOM_STAT.STATE (q + 1)) = 0) ∧
    (∃ (s : State) (q : Nat), q < 4 ∧ s.get (F.PWR_DOM_STAT.STATE (q + 1)) = 0) ∧
    (∃ (s : State) (q : Nat), q < 4 ∧ s.get (F.PWR_DOM_STAT.STATE (q + 1)) ≠ 0) ∧
    (∃ (s : State), s.raw % 625000000 = 0) ∧
    (∃ (s : State), s.supply.on = true ∧ s.raw % 640000000000 = 0 ∧ s.boot.warm = false) ∧
    (∃ (s : State), s.supply.on = true ∧ s.raw % 640000000000 = 0 ∧ s.boot.warm = false) ∧
    (∃ (s : State) (req : Requester), s.Reaches req 0x700004) ∧
    (∃ (s : State) (req : Requester), s.Reaches req 0x700004 ∧ (¬ (s.get F.OSC_STAT.HSET = 0 ∧ s.srvState = 3))) ∧
    (∃ (s : State) (req : Requester), s.Reaches req 0x700004 ∧ (¬ (s.get F.OSC_STAT.HSET = 1 ∧ s.srvState = 3))) ∧
    (∃ (s : State) (req : Requester), s.Reaches req 0x700004 ∧ s.cellState = 3) ∧
    (∃ (s : State) (req : Requester) (key : Nat), s.Reaches req 0x700004 ∧ key % 65536 ≠ 0x9612 ∧ s.bit F.XBR_AERR.AERR = false) :=
  ⟨⟨([-32768, 32767, 5]), by decide +kernel⟩,
   ⟨(B), 3, by decide +kernel, by decide +kernel⟩,
   ⟨(B), 3, by decide +kernel, by decide +kernel⟩,
   ⟨(st [(F.PWR_DOM_STAT.STATE 1, 2)]), 0, by decide +kernel, by decide +kernel⟩,
   ⟨(late 625000000 B), by decide +kernel⟩,
   ⟨(late 640000000000 B), by decide +kernel, by decide +kernel, by decide +kernel⟩,
   ⟨(late 640000000000 B), by decide +kernel, by decide +kernel, by decide +kernel⟩,
   ⟨(B), (.host), reaches (by decide +kernel)⟩,
   ⟨(st [(F.OSC_STAT.HSET, 1)]), (.host), reaches (by decide +kernel), by decide +kernel⟩,
   ⟨(st [(F.OSC_STAT.HSET, 0)]), (.host), reaches (by decide +kernel), by decide +kernel⟩,
   ⟨(st [(F.OSC_STAT.CELL_STATE, 3)]), (.host), reaches (by decide +kernel), by decide +kernel⟩,
   ⟨(B), (.host), 5, reaches (by decide +kernel), by decide +kernel, by decide +kernel⟩⟩

theorem witness_HostPairProposals :
    (∃ (s : State) (req : Requester),
      let v := s.checkPair true (s.getI F.HRT_DPW_RATE.RATE) (dtimeOf (leBytes 16 (s.get F.HRT_DPW_OFFSET.OFFSET))) (s.get F.HRT_DPW_ANCHOR.ANCHOR) (s.get F.HRT_DP_COMMIT.COMMIT);
      s.Reaches req 0x4000A8 ∧ v = 1) ∧
    (∃ (s : State) (req : Requester),
      let v := s.checkPair true (s.getI F.HRT_DPW_RATE.RATE) (dtimeOf (leBytes 16 (s.get F.HRT_DPW_OFFSET.OFFSET))) (s.get F.HRT_DPW_ANCHOR.ANCHOR) (s.get F.HRT_DP_COMMIT.COMMIT);
      s.Reaches req 0x4000A8 ∧ v ≠ 1) :=
  ⟨⟨(st [(F.HRT_SRV_CTRL.MAN 0, 1), (F.HRT_DP_COMMIT.COMMIT, 3253)]), (.host), reaches (by decide +kernel), by decide +kernel⟩,
   ⟨(B), (.host), reaches (by decide +kernel), by decide +kernel⟩⟩

theorem witness_ServoUpdatesAndControls :
    (∃ (s : State) (n : Nat), StateShape s ∧ n < 4 ∧ n ≠ 2 ∧ s.srvEn n = true ∧ s.srvP n ≠ 0 ∧ s.raw % s.srvP n = 0 ∧ s.raw ≠ (s.sv n).lastTick ∧
      (¬ (n = 0 ∧ s.inStep = true))) ∧
    (∃ (s : State), StateShape s ∧ s.srvEn 2 = true) ∧
    (∃ (s : State), StateShape s ∧ s.srvEn 1 = true ∧ s.srvP 1 ≠ 0 ∧ s.raw % s.srvP 1 = 0 ∧ s.raw ≠ (s.sv 1).lastTick ∧ s.channelOfKind 7 = none) ∧
    (∃ (s : State) (n : Nat), n < 4 ∧ s.srvEn n = false) ∧
    (∃ (s : State) (req : Requester) (data : Nat), s.Reaches req 0x400200 ∧ s.srvEn 0 = true ∧
      ((data.testBit 0 = s.bit (F.HRT_SRV_CTRL.MAN 0) ∨ bitsOf data 16 16 = 0x9612))) ∧
    (∃ (s : State) (req : Requester) (data : Nat), s.Reaches req 0x400200 ∧ data.testBit 0 ≠ s.bit (F.HRT_SRV_CTRL.MAN 0) ∧
      bitsOf data 16 16 ≠ 0x9612 ∧ s.bit F.XBR_AERR.AERR = false) ∧
    (∃ (s : State) (req : Requester) (n : Nat), s.Reaches req (0x400200 + 0x20 * n) ∧ n < 4 ∧ s.srvEn n = true) ∧
    (∃ (s : State) (req : Requester) (n : Nat), s.Reaches req (0x400200 + 0x20 * n) ∧ n < 4 ∧ s.srvEn n = false ∧ s.bit F.XBR_AERR.AERR = false) :=
  ⟨⟨(late 625000 (withSec B 0x20 [1, 1, 0, 0, 0x68, 0x89, 0x09, 0])), 0, shaped (by decide +kernel), by decide +kernel, by decide +kernel,
     by decide +kernel, by decide +kernel, by decide +kernel, by decide +kernel, by decide +kernel⟩,
   ⟨(late 7 (withSec B 0x20 ((List.range 40).map (fun i => if i == 32 then 1 else 0)))), shaped (by decide +kernel), by decide +kernel⟩,
   ⟨(late 625000 (withSec B 0x20 ([0,0,0,0,0,0,0,0,0,0,0,0,0,0,0,0] ++ [1, 1, 0, 0, 0x68, 0x89, 0x09, 0]))), shaped (by decide +kernel),
     by decide +kernel, by decide +kernel, by decide +kernel, by decide +kernel, by decide +kernel⟩,
   ⟨(B), 3, by decide +kernel, by decide +kernel⟩,
   ⟨(withSec B 0x20 [1]), (.host), (0x96120003), reaches (by decide +kernel), by decide +kernel, by decide +kernel⟩,
   ⟨(B), (.host), 1, reaches (by decide +kernel), by decide +kernel, by decide +kernel, by decide +kernel⟩,
   ⟨(withSec B 0x20 [1]), (.host), 0, reaches (by decide +kernel), by decide +kernel, by decide +kernel⟩,
   ⟨(B), (.host), 3, reaches (by decide +kernel), by decide +kernel, by decide +kernel, by decide +kernel⟩⟩

theorem witness_UtcAndLeaps :
    (∃ (src : Nat), 2 ≤ src ∧ src ≤ 4) ∧
    (∃ (s : State) (src : Nat), 2 ≤ src ∧ src ≤ 4 ∧ s.sourceCounts src = false) ∧
    (∃ (s : State) (req : Requester) (offset : Int), s.Reaches req 0x400314 ∧ -32768 ≤ offset ∧ offset < 32768) ∧
    (∃ (s : State) (sec : Nat) (o : Int), s.hrt.setoff = some (sec, o) ∧ -32768 ≤ o ∧ o < 32768 ∧ sec ≤ s.dsec ∧ s.inStep = false) ∧
    (∃ (s : State) (r : UtcReport) (t0 : Nat), lookup s.followedSource s.hrt.reports = some r ∧ r.differs = some t0 ∧ s.bit F.HRT_UTC.VALID = true ∧
      r.offset ≠ s.utcOffset ∧ t0 + 60 * 625000000 ≤ s.raw) ∧
    (∃ (s : State) (req : Requester), s.Reaches req 0x400314) ∧
    (∃ (s : State) (req : Requester), s.Reaches req 0x400314) ∧
    (∃ (s : State), s.bit F.HRT_UTC.LEAPPEND = true ∧ s.get F.HRT_LEAP.SEC ≤ s.dsec ∧ -32767 ≤ s.utcOffset ∧ s.utcOffset < 32767) ∧
    (∃ (s : State), s.get F.HRT_EPOCH_SEC.SEC < s.dsec ∧ s.dsec < 2 ^ 48) :=
  ⟨⟨4, by decide +kernel, by decide +kernel⟩,
   ⟨({ late (86401 * 625000000) B with hrt := { B.hrt with reports := [(2, {})] } }), 2, by decide +kernel, by decide +kernel, by decide +kernel⟩,
   ⟨(B), (.host), (-32768), reaches (by decide +kernel), by decide +kernel, by decide +kernel⟩,
   ⟨({ B with hrt := { B.hrt with setoff := some (0, 37) } }), 0, (37), by decide +kernel, by decide +kernel, by decide +kernel, by decide +kernel,
     by decide +kernel⟩,
   ⟨({ late (60 * 625000000) (st [(F.HRT_UTC.VALID, 1)]) with hrt := { B.hrt with reports := [(1, { offset := 38, differs := some 0 })] } }),
     ({ offset := 38, differs := some 0 }), 0, by decide +kernel, by decide +kernel, by decide +kernel, by decide +kernel, by decide +kernel⟩,
   ⟨(B), (.host), reaches (by decide +kernel)⟩,
   ⟨(B), (.host), reaches (by decide +kernel)⟩,
   ⟨(st [(F.HRT_UTC.LEAPPEND, 1), (F.HRT_UTC.VALID, 1), (F.HRT_UTC.DIR, 1)]), by decide +kernel, by decide +kernel, by decide +kernel,
     by decide +kernel⟩,
   ⟨(late 625000000 B), by decide +kernel, by decide +kernel⟩⟩

theorem witness_QualificationAndSelection :
    (∃ (s : State) (c : Nat), StateShape s ∧ c < 16 ∧ s.qstate c = 1 ∧ (s.rf c).presAt = none ∧ (s.rf c).holdUntil ≤ s.raw ∧
      s.bit (F.REF_STAT.PRESENT c) = true ∧ s.bit (F.REF_STAT.ACTIVITY c) = true ∧ s.get (F.REF_STAT.QCLASS c) ≠ 15 ∧ s.calBad c = false) ∧
    (∃ (s : State) (c : Nat), c < 16 ∧ s.qstate c = 2 ∧ (s.rf c).qSince + (s.rf c).qLen * 625000000 ≤ s.raw) ∧
    (∃ (s : State) (c : Nat) (r : RefSt), StateShape s ∧ c < 16 ∧ 2 ≤ s.qstate c ∧ ((freqOnly (s.kind c) = true ∨ s.raw % 625000000 = 0)) ∧
      s.formEvaluation c = some r) ∧
    (∃ (s : State) (c : Nat), c < 16 ∧ s.formEvaluation c = none) ∧
    (∃ (s : State), s.bit F.REF_SELCTL.HOLD = true) ∧
    (∃ (s : State), s.bit F.REF_SELCTL.HOLD = false ∧ s.bit F.REF_SELCTL.FORCE = true) ∧
    (∃ (s : State) (req : Requester), s.Reaches req 0x600100) :=
  ⟨⟨(withSec (withRef (late 5 (st [(F.REF_QSTAT.QSTATE 2, 1), (F.REF_STAT.KIND 2, 2), (F.REF_STAT.PRESENT 2, 1), (F.REF_STAT.ACTIVITY 2, 1),
     (F.REF_STAT.QCLASS 2, 3), (F.REF_CFG.EN 2, 1)])) 2 { holdUntil := 5 }) 0x11 [1, 2]), 2, shaped (by decide +kernel), by decide +kernel,
     by decide +kernel, by decide +kernel, by decide +kernel, by decide +kernel, by decide +kernel, by decide +kernel, by decide +kernel⟩,
   ⟨(withRef (late (60 * 625000000) (st [(F.REF_QSTAT.QSTATE 2, 2)])) 2 { qSince := 0, qLen := 60 }), 2, by decide +kernel, by decide +kernel,
     by decide +kernel⟩,
   by exact let s : State := withRef (late 9999 (st [(F.REF_QSTAT.QSTATE 2, 2), (F.REF_STAT.KIND 2, 3)])) 2 { gate := some ⟨0, 1, 5, 10, 3⟩ };
     ⟨(withRef (late 9999 (st [(F.REF_QSTAT.QSTATE 2, 2), (F.REF_STAT.KIND 2, 3)])) 2 { gate := some ⟨0, 1, 5, 10, 3⟩ }), 2,
     ((s.formEvaluation 2).getD {}), shaped (by decide +kernel), by decide +kernel, by decide +kernel, by decide +kernel, by decide +kernel⟩,
   ⟨(B), 15, by decide +kernel, by decide +kernel⟩,
   ⟨(st [(F.REF_SELCTL.HOLD, 1)]), by decide +kernel⟩,
   ⟨(st [(F.REF_SELCTL.FORCE, 1), (F.REF_SELCTL.FCH, 3)]), by decide +kernel, by decide +kernel⟩,
   ⟨(B), (.host), reaches (by decide +kernel)⟩⟩

theorem witness_Synthesis :
    (∃ (s : State) (u : Nat), StateShape s ∧ u < 5 ∧ s.unitState u = 1 ∧ s.acquired u = true) ∧
    (∃ (s : State) (u : Nat), StateShape s ∧ u < 4 ∧ s.unitState u = 3 ∧ (s.un u).stepAt ≤ s.raw) ∧
    (∃ (s : State) (u : Nat), StateShape s ∧ u < 5 ∧ (s.unitState u = 2 ∨ s.unitState u = 3)) ∧
    (∃ (s : State) (u : Nat), StateShape s ∧ u < 5 ∧ (s.unitState u = 2 ∨ s.unitState u = 3)) ∧
    (∃ (s : State) (u : Nat), StateShape s ∧ u < 5 ∧ s.unitState u = 4 ∧ (s.un u).coastAt + 625000 ≤ s.raw) ∧
    (∃ (s : State) (req : Requester) (u : Nat), StateShape s ∧ u < 4 ∧ s.Reaches req (0x800100 + 0x20 * u)) ∧
    (∃ (s : State) (req : Requester) (u : Nat) (data : Nat) (lo : Nat),
      let b := ((s.set (F.XBR_TSTAT.OWNER 6) req.master).updUnit u (fun x => { x with low := none })).settleOuts;
      let f := data % 2 ^ 16 * 2 ^ 32 + lo; StateShape s ∧ u < 4 ∧ s.Reaches req (0x800104 + 0x20 * u) ∧ (s.un u).low = some lo ∧ lo < 2 ^ 32 ∧
      b.freqAllowed u f = true) ∧
    (∃ (s : State) (req : Requester) (u : Nat) (data : Nat) (lo : Nat),
      let b := ((s.set (F.XBR_TSTAT.OWNER 6) req.master).updUnit u (fun x => { x with low := none })).settleOuts;
      let f := data % 2 ^ 16 * 2 ^ 32 + lo; StateShape s ∧ u < 4 ∧ s.Reaches req (0x800104 + 0x20 * u) ∧ (s.un u).low = some lo ∧ lo < 2 ^ 32 ∧
      b.freqAllowed u f = false) ∧
    (∃ (s : State) (req : Requester) (u : Nat) (data : Nat), StateShape s ∧ u < 4 ∧ s.Reaches req (0x800108 + 0x20 * u) ∧ data.testBit 1 = false) ∧
    (∃ (s : State) (req : Requester) (u : Nat) (data : Nat), StateShape s ∧ u < 4 ∧ s.Reaches req (0x800108 + 0x20 * u) ∧ data.testBit 1 = true ∧
      bitsOf data 16 16 = 0x9612 ∧ s.unitState u ≠ 0) ∧
    (∃ (s : State) (req : Requester) (u : Nat) (data : Nat), u < 4 ∧ s.Reaches req (0x800108 + 0x20 * u) ∧ data.testBit 1 = true ∧
      bitsOf data 16 16 ≠ 0x9612 ∧ s.bit F.XBR_AERR.AERR = false) :=
  ⟨⟨(withUnit (st [(F.PRT_SYT_STAT.STATE, 1)]) 4 { ref0 := -65536 }), 4, shaped (by decide +kernel), by decide +kernel, by decide +kernel,
     by decide +kernel⟩,
   ⟨(withUnit (st [(F.OUT_SYN_STAT.STATE 3, 3), (F.OUT_SYN_FREQ.FREQ 3, 655360000000)]) 3 { freq := 655360000000 }), 3, shaped (by decide +kernel),
     by decide +kernel, by decide +kernel, by decide +kernel⟩,
   ⟨(withUnit (st [(F.PRT_SYT_STAT.STATE, 2)]) 4 { ref0 := -65536 }), 4, shaped (by decide +kernel), by decide +kernel, by decide +kernel⟩,
   ⟨(st [(F.OUT_SYN_STAT.STATE 0, 2)]), 0, shaped (by decide +kernel), by decide +kernel, by decide +kernel⟩,
   ⟨(late 625000 (st [(F.OUT_SYN_STAT.STATE 0, 4)])), 0, shaped (by decide +kernel), by decide +kernel, by decide +kernel, by decide +kernel⟩,
   ⟨(B), (.host), 3, shaped (by decide +kernel), by decide +kernel, reaches (by decide +kernel)⟩,
   ⟨(withUnit B 3 { low := some 0x96800000 }), (.host), 3, (0x98), (0x96800000), shaped (by decide +kernel), by decide +kernel,
     reaches (by decide +kernel), by decide +kernel, by decide +kernel, by decide +kernel⟩,
   ⟨(withUnit B 3 { low := some 65535 }), (.host), 3, 0, 65535, shaped (by decide +kernel), by decide +kernel, reaches (by decide +kernel),
     by decide +kernel, by decide +kernel, by decide +kernel⟩,
   ⟨(B), (.host), 0, 1, shaped (by decide +kernel), by decide +kernel, reaches (by decide +kernel), by decide +kernel⟩,
   ⟨(st [(F.OUT_SYN_STAT.STATE 0, 2), (F.OUT_SYN_FREQ.FREQ 0, 655360000000)]), (.host), 0, (0x96120002), shaped (by decide +kernel),
     by decide +kernel, reaches (by decide +kernel), by decide +kernel, by decide +kernel, by decide +kernel⟩,
   ⟨(B), (.host), 0, 2, by decide +kernel, reaches (by decide +kernel), by decide +kernel, by decide +kernel, by decide +kernel⟩⟩

theorem witness_OutputControl :
    (∃ (s : State) (n : Nat) (q : Rat), StateShape s ∧ n < 12 ∧ (s.ou n).offAt = none ∧ (s.ou n).relFrom = some q ∧
      s.unitState (s.get (F.OUT_CFG.SYN n)) = 2 ∧
      (s.un (s.get (F.OUT_CFG.SYN n))).boundary (s.get (F.OUT_DIV.DIV n)) (s.getI (F.OUT_PHASE.PHASE n)) q ≤ s.psNow) ∧
    (∃ (s : State) (n : Nat) (q : Rat), StateShape s ∧ n < 12 ∧ (s.ou n).offAt = some q ∧ q ≤ s.psNow ∧ (s.ou n).relFrom = none ∧
      s.bit (F.OUT_CFG.EN n) = false) ∧
    (∃ (s : State) (req : Requester) (n : Nat), StateShape s ∧ n < 12 ∧ s.Reaches req 0x800004 ∧ s.get (F.OUT_CFG.KIND n) ≠ 0 ∧
      s.isHeld (0x200 + n) = false) ∧
    (∃ (s : State) (req : Requester) (n : Nat) (data : Nat), StateShape s ∧ n < 12 ∧ s.Reaches req 0x800004 ∧ s.get (F.OUT_CFG.KIND n) = 0 ∧
      data.testBit 8 ≠ s.bit (F.OUT_CFG.EN n) ∧ s.bit F.XBR_AERR.AERR = false) ∧
    (∃ (s : State) (req : Requester) (n : Nat) (value : Nat), StateShape s ∧ n < 12 ∧ s.Reaches req 0x80000C ∧ value % 2 ^ 32 ≠ 0 ∧
      paramOk (s.get (F.OUT_CFG.KIND n)) (value % 2 ^ 32) (s.get (F.OUT_PARAM.PARAM n)) = true ∧
      (s.get (F.OUT_CFG.KIND n) = 0 ∨ outFreqOk n (s.get (F.OUT_CFG.ELEC n)) (s.bit (F.OUT_CFG.TIE n)) (s.unitFreq (s.get (F.OUT_CFG.SYN n))) (value % 2 ^ 32) = true)) ∧
    (∃ (s : State) (req : Requester) (n : Nat) (value : Nat), StateShape s ∧ n < 12 ∧ s.Reaches req 0x800010 ∧
      paramOk (s.get (F.OUT_CFG.KIND n)) (s.get (F.OUT_DIV.DIV n)) (value % 2 ^ 32) = true) ∧
    (∃ (s : State) (req : Requester) (n : Nat), StateShape s ∧ n < 12 ∧ s.Reaches req 0x800014) :=
  ⟨⟨(withOut (withUnit (st [(F.OUT_SYN_STAT.STATE 0, 2)]) 0 { freq := 655360000000 }) 11 { relFrom := some 0 }), 11, (0), shaped (by decide +kernel),
     by decide +kernel, by decide +kernel, by decide +kernel, by decide +kernel, by decide +kernel⟩,
   ⟨(withOut (st [(F.OUT_STAT.DRIVE 11, 1)]) 11 { offAt := some 0, released := true }), 11, (0), shaped (by decide +kernel), by decide +kernel,
     by decide +kernel, by decide +kernel, by decide +kernel, by decide +kernel⟩,
   ⟨(st [(F.OUT_CFG.KIND 0, 1)]), (.host), 0, shaped (by decide +kernel), by decide +kernel, reaches (by decide +kernel), by decide +kernel,
     by decide +kernel⟩,
   ⟨(B), (.host), 0, (0x100), shaped (by decide +kernel), by decide +kernel, reaches (by decide +kernel), by decide +kernel, by decide +kernel,
     by decide +kernel⟩,
   ⟨(B), (.host), 0, 625, shaped (by decide +kernel), by decide +kernel, reaches (by decide +kernel), by decide +kernel, by decide +kernel,
     by decide +kernel⟩,
   ⟨(B), (.host), 0, 0, shaped (by decide +kernel), by decide +kernel, reaches (by decide +kernel), by decide +kernel⟩,
   ⟨(B), (.host), 11, shaped (by decide +kernel), by decide +kernel, reaches (by decide +kernel)⟩⟩

theorem witness_OutputCalibrationAndAlignment :
    (∃ (s : State) (req : Requester) (n : Nat), StateShape s ∧ n < 12 ∧ s.Reaches req 0x800024) ∧
    (∃ (s : State) (n : Nat) (began : Nat) (ch : Nat) (lams : List Int), let b := s.settleOut n; let l := (b.loopErrors n ch lams).1; StateShape s ∧
      n < 12 ∧ s.bit (F.OUT_CFG.EN n) = true ∧ s.loopbackOf n = some ch ∧ l ≠ [] ∧ (b.ou n).since ≤ began) ∧
    (∃ (s : State) (n : Nat) (k : Nat) (at16 : Nat) (d : Nat), let c := s.get (F.OUT_ALCFG.CH n);
      let stamp := ((crumbOf at16 : Int) - s.boardDelay c - s.getI (F.REF_DLY.DLY c)).toNat; let b := s.settleOut n; StateShape s ∧ n < 12 ∧
      s.get (F.OUT_ALCFG.MODE n) ≠ 0 ∧ s.bit (F.OUT_CFG.EN n) = true ∧ s.bit (F.REF_STAT.PRESENT (s.get (F.OUT_ALCFG.CH n))) = true ∧
      s.tdcOf (s.get (F.OUT_ALCFG.CH n)) = some k ∧ ((∃ p ∈ (s.td k).stamps, p.1 = at16 ∧
      p.2 + (if s.bit (F.OUT_ALCFG.HELD n) then 20000 else 0) ≤ s.raw)) ∧ (s.pairAt stamp).dtime stamp = some d ∧ (b.ou n).lastSet = none) :=
  ⟨⟨(B), (.host), 11, shaped (by decide +kernel), by decide +kernel, reaches (by decide +kernel)⟩,
   ⟨(withSec (st [(F.OUT_CFG.KIND 3, 1), (F.OUT_CFG.EN 3, 1)]) 0x11 [0,0,0,0,0,0,0,0,2,3]), 3, 10, 2, ([5, 7]), shaped (by decide +kernel),
     by decide +kernel, by decide +kernel, by decide +kernel, by decide +kernel, by decide +kernel⟩,
   by exact let s : State := withOut (withTdc (withSec (late 100 (st [(F.OUT_CFG.KIND 3, 1), (F.OUT_CFG.EN 3, 1), (F.OUT_ALCFG.MODE 3, 2),
     (F.OUT_ALOFF.ALOFF 3, 1000000), (F.REF_STAT.PRESENT 0, 1), (F.OUT_SYN_STAT.STATE 0, 2)])) 0x11 [1,
     0]) 0 { stamps := [(819200, 100)] }) 3 { released := true }; ⟨(withOut (withTdc (withSec (late 100 (st [(F.OUT_CFG.KIND 3, 1), (F.OUT_CFG.EN 3,
     1), (F.OUT_ALCFG.MODE 3, 2), (F.OUT_ALOFF.ALOFF 3, 1000000), (F.REF_STAT.PRESENT 0, 1), (F.OUT_SYN_STAT.STATE 0, 2)])) 0x11 [1,
     0]) 0 { stamps := [(819200, 100)] }) 3 { released := true }), 3, 0, 819200, ((s.pairAt 51200).dtime 51200 |>.getD 0), shaped (by decide +kernel),
     by decide +kernel, by decide +kernel, by decide +kernel, by decide +kernel, by decide +kernel, by decide +kernel, by decide +kernel,
     by decide +kernel⟩⟩

theorem witness_FramesAndLinks :
    (∃ (s : State) (n : Nat) (edge : Nat) (b : Nat) (preempt : Bool) (bytes : List Byte) (e : Nat × List Byte),
      let r := s.makeRec (n + 1) n (s.rxStamp n edge b) (s.portErrb n) (s.isleFlags (n + 1) (s.bit (F.PRT_STAT.LATOK n)) + if preempt then 16 else 0) 0;
      let p := byteAt e.2 65; StateShape s ∧ n < 4 ∧ s.bit (F.PRT_STAT.LINK n) = true ∧ bytes.length + 4 ≤ 9216 ∧
      (s.clsFor r).1.find? (fun e => entryHits (clsKey n bytes) e.2) = some e ∧ byteAt e.2 64 = 1 ∧ p < s.pke.pipes.length ∧
      s.bit F.PKE_CTRL.DRAIN = false ∧ (¬ ((s.pipeSvc p = 1 ∨ s.pipeSvc p = 2) ∧ 1536 < bytes.length + 4)) ∧ (s.pke.pipes.getD p []).length < 512) ∧
    (∃ (s : State) (n : Nat) (edge : Nat) (b : Nat) (preempt : Bool) (bytes : List Byte),
      let r := s.makeRec (n + 1) n (s.rxStamp n edge b) (s.portErrb n) (s.isleFlags (n + 1) (s.bit (F.PRT_STAT.LATOK n)) + if preempt then 16 else 0) 0;
      n < 4 ∧ s.bit (F.PRT_STAT.LINK n) = true ∧ bytes.length + 4 ≤ 9216 ∧ (s.clsFor r).1.find? (fun e => entryHits (clsKey n bytes) e.2) = none ∧
      (s.clsFor r).2 = 0xFFFF) ∧
    (∃ (s : State) (n : Nat) (w : Wire), StateShape s ∧ n < 4 ∧ (s.pt n).wire = some w ∧ w.complete = false ∧ s.canSend n = true ∧ s.supply.on = true) ∧
    (∃ (s : State) (n : Nat) (i : Nat) (f : TxFrame), StateShape s ∧ n < 4 ∧ (s.pt n).waiting[i]? = some f ∧ s.admits n f = true ∧ s.supply.on = true) ∧
    (∃ (s : State) (n : Nat), StateShape s ∧ n < 4 ∧ s.get (F.PRT_STAT.MODE n) ≠ 0 ∧ s.bit (F.PRT_CTRL.ADMIN n) = true ∧
      (s.get F.PNL_SFP.ABS).testBit n = false ∧ (s.get F.PNL_SFP.LOS).testBit n = false ∧ s.bit (F.PRT_STAT.LINK n) = false) ∧
    (∃ (s : State) (n : Nat), StateShape s ∧ n < 4 ∧ (s.pt n).latRun = true) ∧
    (∃ (s : State) (req : Requester) (n : Nat), StateShape s ∧ n < 4 ∧ s.Serves req (0x900000 + 0x100 * n) ∧ s.bit (F.PRT_CTRL.LATCAL n) = false ∧
      s.bit (F.PRT_STAT.LINK n) = true) ∧
    (∃ (s : State) (n : Nat), n < 4 ∧ s.bit (F.PRT_STAT.LINK n) = true) :=
  ⟨⟨({ st [(F.PRT_STAT.LINK 3, 1)] with pke := { B.pke with bankA := [(7, putAt (zeros 72) 64 [1, 2, 0, 1])] } }), 3, 0, 0, (false), (zeros 60), ((7,
     putAt (zeros 72) 64 [1, 2, 0, 1])), shaped (by decide +kernel), by decide +kernel, by decide +kernel, by decide +kernel, by decide +kernel,
     by decide +kernel, by decide +kernel, by decide +kernel, by decide +kernel, by decide +kernel⟩,
   ⟨(st [(F.PRT_STAT.LINK 0, 1), (F.PKE_CLS_STAT.DEFAULT, 0xFFFF)]), 0, 0, 0, (false), (zeros 60), by decide +kernel, by decide +kernel,
     by decide +kernel, by decide +kernel, by decide +kernel⟩,
   ⟨((portOk B 1).updPort 1 (fun p => { p with wire := some ⟨⟨.own, zeros 60, 0, false, true⟩, true, 0, 100, false⟩ })), 1, (⟨⟨.own, zeros 60, 0,
     false, true⟩, true, 0, 100, false⟩), shaped (by decide +kernel), by decide +kernel, by decide +kernel, by decide +kernel, by decide +kernel,
     by decide +kernel⟩,
   ⟨((portOk B 1).updPort 1 (fun p => { p with waiting := [⟨.own, zeros 60, 0, false, true⟩] })), 1, 0, (⟨.own, zeros 60, 0, false, true⟩),
     shaped (by decide +kernel), by decide +kernel, by decide +kernel, by decide +kernel, by decide +kernel⟩,
   ⟨(st [(F.PRT_STAT.MODE 2, 1), (F.PRT_CTRL.ADMIN 2, 1)]), 2, shaped (by decide +kernel), by decide +kernel, by decide +kernel, by decide +kernel,
     by decide +kernel, by decide +kernel, by decide +kernel⟩,
   ⟨(withPort B 2 { latRun := true }), 2, shaped (by decide +kernel), by decide +kernel, by decide +kernel⟩,
   ⟨(st [(F.PRT_STAT.LINK 0, 1), (F.PWR_DOM_STAT.STATE 6, 0)]), (.host), 0, shaped (by decide +kernel), by decide +kernel, serves (by decide +kernel),
     by decide +kernel, by decide +kernel⟩,
   ⟨(st [(F.PRT_STAT.LINK 0, 1)]), 0, by decide +kernel, by decide +kernel⟩⟩

theorem witness_PausesAndTransceivers :
    (∃ (s : State) (n : Nat) (quanta : Nat), StateShape s ∧ n < 4 ∧ s.bit (F.PRT_CTRL.RXPAUSE n) = true ∧ s.bit (F.PRT_STAT.LINK n) = true ∧
      quanta % 65536 ≠ 0) ∧
    (∃ (s : State) (n : Nat) (quanta : Nat), StateShape s ∧ n < 4 ∧ s.bit (F.PRT_CTRL.RXPAUSE n) = true ∧ s.bit (F.PRT_STAT.LINK n) = true ∧
      quanta % 65536 = 0) ∧
    (∃ (s : State) (n : Nat) (u : Nat), StateShape s ∧ n < 4 ∧ (s.pt n).pause = some u ∧ u ≤ s.replica (n + 1)) ∧
    (∃ (s : State) (n : Nat), n < 4 ∧ s.get (F.PRT_STAT.VERIFY n) = 1) ∧
    (∃ (s : State) (n : Nat), n < 4 ∧ s.get (F.PRT_STAT.VERIFY n) = 1) ∧
    (∃ (s : State) (n : Nat) (event : Bool), StateShape s ∧ n < 4 ∧ s.bit (F.PRT_ESMC.TXEN n) = true ∧ s.canSend n = true ∧
      (event = false ∨ (s.pt n).esmc ≠ some (s.esmcLevel n))) ∧
    (∃ (s : State) (speed : Nat), speed < 3 ∧ (speed = 0 ∨ s.bit F.PRT_MG_CTRL.ADMIN = true)) ∧
    (∃ (s : State) (n : Nat) (high : Bool), n < 4 ∧ (s.get F.PNL_SFP.ABS).testBit n ≠ high) ∧
    (∃ (n : Nat), n < 4) :=
  ⟨⟨(st [(F.PRT_CTRL.RXPAUSE 3, 1), (F.PRT_STAT.LINK 3, 1)]), 3, 65535, shaped (by decide +kernel), by decide +kernel, by decide +kernel,
     by decide +kernel, by decide +kernel⟩,
   ⟨(st [(F.PRT_CTRL.RXPAUSE 0, 1), (F.PRT_STAT.LINK 0, 1)]), 0, 65536, shaped (by decide +kernel), by decide +kernel, by decide +kernel,
     by decide +kernel, by decide +kernel⟩,
   ⟨(withPort (late 10 B) 0 { pause := some 5120 }), 0, 5120, shaped (by decide +kernel), by decide +kernel, by decide +kernel, by decide +kernel⟩,
   ⟨(st [(F.PRT_STAT.VERIFY 0, 1)]), 0, by decide +kernel, by decide +kernel⟩,
   ⟨(st [(F.PRT_STAT.VERIFY 0, 1)]), 0, by decide +kernel, by decide +kernel⟩,
   ⟨((portOk B 2).set (F.PRT_ESMC.TXEN 2) 1), 2, (false), shaped (by decide +kernel), by decide +kernel, by decide +kernel, by decide +kernel,
     by decide +kernel⟩,
   ⟨(st [(F.PRT_MG_CTRL.ADMIN, 1)]), 2, by decide +kernel, by decide +kernel⟩,
   ⟨(B), 3, (!(B.get F.PNL_SFP.ABS).testBit 3), by decide +kernel, by decide +kernel⟩,
   ⟨3, by decide +kernel⟩⟩

theorem witness_AsymmetryCalibration :
    (∃ (s : State) (req : Requester) (n : Nat), StateShape s ∧ n < 4 ∧ s.Serves req (0x900000 + 0x100 * n) ∧ (s.pt n).acal = none ∧
      s.ptpChannelOf n = none) ∧
    (∃ (s : State) (req : Requester) (n : Nat) (c : Nat), StateShape s ∧ n < 4 ∧ s.Serves req (0x900000 + 0x100 * n) ∧ (s.pt n).acal = none ∧
      s.ptpChannelOf n = some c ∧ s.acalWhy c = 0 ∧ s.get (F.REF_UKIND.UKIND c) ≠ unbounded ∧ s.bit (F.PRT_STAT.LINK n) = true) ∧
    (∃ (s : State) (n : Nat) (k : AsymCal), StateShape s ∧ n < 4 ∧ (s.pt n).acal = some k ∧ k.start + s.get (F.PRT_ACAL.SEC n) * 625000000 ≤ s.raw ∧
      10 ≤ k.n ∧ k.ukind ≠ unbounded) ∧
    (∃ (s : State) (n : Nat) (k : AsymCal), StateShape s ∧ n < 4 ∧ (s.pt n).acal = some k ∧ k.start + s.get (F.PRT_ACAL.SEC n) * 625000000 ≤ s.raw ∧
      k.n < 10) :=
  ⟨⟨(st []), (.host), 3, shaped (by decide +kernel), by decide +kernel, serves (by decide +kernel), by decide +kernel, by decide +kernel⟩,
   ⟨((portOk (withRef (st [(F.REF_STAT.KIND 4, 6), (F.REF_CFG.EN 4, 1), (F.REF_CFG.PORT 4, 2), (F.REF_QSTAT.QSTATE 4, 3), (F.HRT_SRV_STAT.STATE 0, 2),
     (F.REF_ERRB.ERRB, 100), (F.REF_UKIND.UKIND 4, 7)]) 4 {}) 2)), (.host), 2, 4, shaped (by decide +kernel), by decide +kernel,
     serves (by decide +kernel), by decide +kernel, by decide +kernel, by decide +kernel, by decide +kernel, by decide +kernel⟩,
   ⟨(withPort (late (100000 * 625000000) B) 2 { acal := some ⟨0, 4, 10, 5000, 2600000, 100, 7⟩ }), 2, (⟨0, 4, 10, 5000, 2600000, 100, 7⟩),
     shaped (by decide +kernel), by decide +kernel, by decide +kernel, by decide +kernel, by decide +kernel, by decide +kernel⟩,
   ⟨(withPort (late (100000 * 625000000) B) 2 { acal := some ⟨0, 4, 9, 5000, 2600000, 100, 7⟩ }), 2, (⟨0, 4, 9, 5000, 2600000, 100, 7⟩),
     shaped (by decide +kernel), by decide +kernel, by decide +kernel, by decide +kernel, by decide +kernel⟩⟩

theorem witness_Appointments :
    (∃ (s : State) (id : Nat) (e : Nat) (cut : Bool) (starts : List Nat) (x : Ctx), let n := x.port;
      let limit := x.t0 + s.get F.APD_SLIP.SLIP * nsCrumbs; let occ := occupation (s.get (F.PRT_STAT.MODE n)) x.len; let c := s.crossing n e;
      StateShape s ∧ s.ctx? id = some x ∧ x.id = id ∧ x.port < 4 ∧ x.appoints = true ∧ x.granted = false ∧ s.portCause x.port = 0 ∧
      (¬ (limit < s.crossing n ((s.pt n).pause.getD 0) ∧ (s.pt n).pause.getD 0 ≠ 0)) ∧ (s.pt n).cal.length < 64 ∧
      s.firstFit n x.t0 limit occ starts = some (e, cut) ∧ (¬ (1 ≤ x.kind ∧ x.kind ≤ 5 ∧ s.bit F.NTS_CFG.UNSYNC = false ∧
      s.leapInd (s.errbW n) (((s.islePair (n + 1) c).bind (fun p => p.dtime c)).getD 0) = 3))) ∧
    (∃ (s : State) (id : Nat) (x : Ctx), StateShape s ∧ s.ctx? id = some x ∧ x.id = id ∧ x.port < 4 ∧ x.appoints = true ∧ x.granted = false ∧
      s.portCause x.port ≠ 0) ∧
    (∃ (s : State) (id : Nat) (x : Ctx) (r : Resv), let now := s.replica (x.port + 1); StateShape s ∧ s.ctx? id = some x ∧ x.port < 4 ∧
      x.granted = true ∧ x.sealed_ = true ∧ x.committed = true ∧ x.appoints = true ∧ (s.pt x.port).cal.find? (fun r => r.ctx == id) = some r ∧
      now ≤ r.deadline) ∧
    (∃ (s : State) (id : Nat) (x : Ctx) (r : Resv), let now := s.replica (x.port + 1); StateShape s ∧ s.ctx? id = some x ∧ x.port < 4 ∧
      x.granted = true ∧ x.sealed_ = true ∧ x.committed = true ∧ x.appoints = true ∧ (s.pt x.port).cal.find? (fun r => r.ctx == id) = some r ∧
      r.deadline < now) ∧
    (∃ (s : State) (n : Nat) (r : Resv) (x : Ctx), StateShape s ∧ n < 4 ∧ (s.pt n).cal.head? = some r ∧ r.e ≤ s.replica (n + 1) ∧
      s.releaseCause n r = 0 ∧ s.ctx? r.ctx = some x) ∧
    (∃ (s : State) (n : Nat) (r : Resv), StateShape s ∧ n < 4 ∧ (s.pt n).cal.head? = some r ∧ r.e ≤ s.replica (n + 1) ∧ s.releaseCause n r ≠ 0) :=
  ⟨⟨(withCtx ((portOk B 1).sets [(F.PRT_STAT.MODE 1, 2), (F.APD_SLIP.SLIP, 100000)]) { id := 5, port := 1, kind := 8, t0 := 0, len := 100 }), 5,
     30000, (false), ([30000]), ({ id := 5, port := 1, kind := 8, t0 := 0, len := 100 }), shaped (by decide +kernel), by decide +kernel,
     by decide +kernel, by decide +kernel, by decide +kernel, by decide +kernel, by decide +kernel, by decide +kernel, by decide +kernel,
     by decide +kernel, by decide +kernel⟩,
   ⟨(withCtx B { id := 5, port := 1, kind := 8, t0 := 0, len := 100 }), 5, ({ id := 5, port := 1, kind := 8, t0 := 0, len := 100 }),
     shaped (by decide +kernel), by decide +kernel, by decide +kernel, by decide +kernel, by decide +kernel, by decide +kernel, by decide +kernel⟩,
   ⟨(withPort (withCtx (late 10 B) { id := 5, port := 1, kind := 8, granted := true, sealed_ := true, committed := true }) 1 { cal := [{ ctx := 5, c := 0, e := 6000, occ := 100, gen := 0, errbW := 9, deadline := 5120 }] }),
     5, ({ id := 5, port := 1, kind := 8, granted := true, sealed_ := true, committed := true }),
     ({ ctx := 5, c := 0, e := 6000, occ := 100, gen := 0, errbW := 9, deadline := 5120 }), shaped (by decide +kernel), by decide +kernel,
     by decide +kernel, by decide +kernel, by decide +kernel, by decide +kernel, by decide +kernel, by decide +kernel, by decide +kernel⟩,
   ⟨(withPort (withCtx (late 10 B) { id := 5, port := 1, kind := 8, granted := true, sealed_ := true, committed := true }) 1 { cal := [{ ctx := 5, c := 0, e := 6000, occ := 100, gen := 0, errbW := 9, deadline := 5119 }] }),
     5, ({ id := 5, port := 1, kind := 8, granted := true, sealed_ := true, committed := true }),
     ({ ctx := 5, c := 0, e := 6000, occ := 100, gen := 0, errbW := 9, deadline := 5119 }), shaped (by decide +kernel), by decide +kernel,
     by decide +kernel, by decide +kernel, by decide +kernel, by decide +kernel, by decide +kernel, by decide +kernel, by decide +kernel⟩,
   ⟨((withCtx (portOk (late 10 B) 1) { id := 5, port := 1, kind := 8, granted := true, sealed_ := true, committed := true, dest := zeros 14, msg := zeros 44 }).updPort 1 (fun p => { p with cal := [{ ctx := 5, c := 0, e := 5120, occ := 100, gen := 0, errbW := 0xFFFFFFFF, deadline := 5119, arrived := some 5000 }] })),
     1, ({ ctx := 5, c := 0, e := 5120, occ := 100, gen := 0, errbW := 0xFFFFFFFF, deadline := 5119, arrived := some 5000 }),
     ({ id := 5, port := 1, kind := 8, granted := true, sealed_ := true, committed := true, dest := zeros 14, msg := zeros 44 }),
     shaped (by decide +kernel), by decide +kernel, by decide +kernel, by decide +kernel, by decide +kernel, by decide +kernel⟩,
   ⟨((portOk (late 10 B) 1).updPort 1 (fun p => { p with cal := [{ ctx := 5, c := 0, e := 5120, occ := 100, gen := 0, errbW := 4, deadline := 5119, arrived := some 5000 }] })),
     1, ({ ctx := 5, c := 0, e := 5120, occ := 100, gen := 0, errbW := 4, deadline := 5119, arrived := some 5000 }), shaped (by decide +kernel),
     by decide +kernel, by decide +kernel, by decide +kernel, by decide +kernel⟩⟩

theorem witness_CommitsAndDepartureCounters :
    (∃ (s : State) (id : Nat) (x : Ctx), s.ctx? id = some x ∧ x.id = id ∧ x.kind ≠ 0 ∧ x.sealed_ = true ∧ x.ops = 0 ∧ x.committed = false ∧
      (x.appoints = false ∨ x.granted = true) ∧ x.effs.all s.effOk = true) ∧
    (∃ (s : State) (id : Nat) (x : Ctx), s.ctx? id = some x ∧ x.id = id ∧ x.kind ≠ 0 ∧ x.sealed_ = true ∧ x.ops = 0 ∧ x.committed = false ∧
      (x.appoints = false ∨ x.granted = true) ∧ x.effs.all s.effOk = false) ∧
    (∃ (s : State) (req : Requester) (n : Nat), n < 4 ∧ s.Serves req (0xA00104 + 0x100 * n)) ∧
    (∃ (s : State) (req : Requester) (n : Nat), n < 4 ∧ s.Serves req (0xA00104 + 0x100 * n)) :=
  ⟨⟨(withCtx B { id := 5, kind := 8, engine := 3, granted := true, sealed_ := true, effs := [.count 1] }), 5,
     ({ id := 5, kind := 8, engine := 3, granted := true, sealed_ := true, effs := [.count 1] }), by decide +kernel, by decide +kernel,
     by decide +kernel, by decide +kernel, by decide +kernel, by decide +kernel, by decide +kernel, by decide +kernel⟩,
   ⟨(withCtx B { id := 5, kind := 10, engine := 3, sealed_ := true, effs := [.advance 9] }), 5,
     ({ id := 5, kind := 10, engine := 3, sealed_ := true, effs := [.advance 9] }), by decide +kernel, by decide +kernel, by decide +kernel,
     by decide +kernel, by decide +kernel, by decide +kernel, by decide +kernel, by decide +kernel⟩,
   ⟨(st [(F.APD_DROP.DROP 0, 7)]), (.host), 0, by decide +kernel, serves (by decide +kernel)⟩,
   ⟨(B), (.host), 3, by decide +kernel, serves (by decide +kernel)⟩⟩

theorem witness_EnginesAndLanes :
    (∃ (s : State) (p : Nat) (k : Nat) (i : InFrame) (rest : List InFrame), p < 8 ∧ s.nextEngine p 0 = some k ∧ s.pke.pipes.getD p [] = i :: rest ∧
      (s.pipeSvc p = 1 ∨ s.pipeSvc p = 2)) ∧
    (∃ (s : State) (p : Nat) (st : Nat) (k : Nat) (x : Ctx), p < 8 ∧ 1 ≤ st ∧ st < 4 ∧ s.nextEngine p st = some k ∧
      s.pke.ctxs.find? (fun x => x.pipe == p && x.stage + 1 == st && decide (x.engine < 16)) = some x) ∧
    (∃ (s : State) (k : Nat), k < 16 ∧ s.bit (F.PKE_ENG.RUN k) = true) ∧
    (∃ (s : State) (k : Nat), k < 16 ∧ s.bit (F.PKE_ENG.FAULT k) = true) ∧
    (∃ (s : State) (hmac : Bool) (o : LaneOp) (j : Nat), nextOp hmac s.pke.laneQ = some o ∧ j < s.pke.lanes.length ∧ ((if hmac then [8, 9, 10,
      11] else List.range 8).find? (fun j => (s.pke.lanes.getD j {}).op.isNone) = some j)) ∧
    (∃ (s : State) (j : Nat) (t0 : Nat) (o : LaneOp), j < 12 ∧ (s.pke.lanes.getD j {}).op = some (o, t0) ∧ o.slot = none ∧
      (s.pke.lanes.getD j {}).refused = false ∧ laneTime o true ≤ (s.raw - t0) * 16) :=
  ⟨⟨(withPke (withSec (st [(F.PKE_ENG.PIPE 4, 2), (F.PKE_ENG.RUN 4, 1)]) 0x50 ([3] ++ List.replicate 75 0 ++ [1,
     1])) (fun p => { p with pipes := [[], [], [⟨zeros 60, {}, 5, 0, 0, 2, false⟩], [], [], [], [], []] })), 2, 4, (⟨zeros 60, {}, 5, 0, 0, 2,
     false⟩), ([]), by decide +kernel, by decide +kernel, by decide +kernel, by decide +kernel⟩,
   ⟨(withCtx (B.sets [(F.PKE_ENG.PIPE 5, 2), (F.PKE_ENG.STAGE 5, 3), (F.PKE_ENG.RUN 5,
     1)]) { id := 9, engine := 4, pipe := 2, stage := 2, frame := zeros 60 }), 2, 3, 5,
     ({ id := 9, engine := 4, pipe := 2, stage := 2, frame := zeros 60 }), by decide +kernel, by decide +kernel, by decide +kernel, by decide +kernel,
     by decide +kernel⟩,
   ⟨(withCtx (st [(F.PKE_ENG.RUN 15, 1)]) { id := 9, engine := 15 }), 15, by decide +kernel, by decide +kernel⟩,
   ⟨(st [(F.PKE_ENG.FAULT 15, 1)]), 15, by decide +kernel, by decide +kernel⟩,
   ⟨(withPke B (fun p => { p with laneQ := [⟨3, false, none, 0, 32, none, false⟩] })), (false), (⟨3, false, none, 0, 32, none, false⟩), 0,
     by decide +kernel, by decide +kernel, by decide +kernel⟩,
   ⟨(withPke (late 50 (withCtx B { id := 3, ops := 1 })) (fun p => { p with lanes := (List.replicate 11 {}) ++ [{ op := some (⟨3, true, none, 0, 32, none, true⟩, 0) }] })),
     11, 0, (⟨3, true, none, 0, 32, none, true⟩), by decide +kernel, by decide +kernel, by decide +kernel, by decide +kernel, by decide +kernel⟩⟩

theorem witness_DrainingAndClassifier :
    (∃ (s : State) (req : Requester) (data : Nat), s.Serves req 0xB00000 ∧ data.testBit 0 = true ∧ s.bit F.PKE_CTRL.DRAIN = false) ∧
    (∃ (s : State) (req : Requester) (data : Nat), s.Serves req 0xB00000 ∧ data.testBit 0 = false ∧ s.isHeld 0x500 = false) ∧
    (∃ (s : State) (req : Requester) (p : Nat), p < 8 ∧ s.Serves req (0xB0020C + 0x10 * p)) ∧
    (∃ (s : State) (req : Requester), s.Serves req 0xB00100 ∧ s.bit F.PKE_CLS_CTRL.WRITE = false ∧ s.reloading = false ∧
      s.entryOk (s.clsWindow req.idx) = true) ∧
    (∃ (s : State) (req : Requester), s.Serves req 0xB00100) ∧
    (∃ (s : State) (t0 : Nat) (b : Nat), s.pke.swap = some (t0, b) ∧ t0 ≤ s.raw) :=
  ⟨⟨(withCtx (withCtx B { id := 1, engine := 3, kind := 1 }) { id := 2, engine := 3, kind := 1, committed := true }), (.host), 1,
     serves (by decide +kernel), by decide +kernel, by decide +kernel⟩,
   ⟨(st [(F.PKE_CTRL.DRAIN, 1)]), (.host), 0, serves (by decide +kernel), by decide +kernel, by decide +kernel⟩,
   ⟨(B), (.host), 7, by decide +kernel, serves (by decide +kernel)⟩,
   ⟨(withSec B 0x50 [3]), (.host), serves (by decide +kernel), by decide +kernel, by decide +kernel, by decide +kernel⟩,
   ⟨(B), (.host), serves (by decide +kernel)⟩,
   ⟨(withPke (late 5 B) (fun p => { p with swap := some (5, 1) })), 5, 1, by decide +kernel, by decide +kernel⟩⟩

theorem witness_RingsAndQueues :
    (∃ (s : State) (req : Requester) (r : Nat) (prod : Nat), r < 144 ∧ s.Serves req (0xB10010 + 0x20 * r) ∧
      (ringIdx prod + 131072 - s.get (F.PKE_RING_CONS.CONS r)) % 131072 ≤ 2 ^ s.ringK r) ∧
    (∃ (s : State) (req : Requester) (r : Nat) (data : Nat), r < 144 ∧ s.Serves req (0xB10008 + 0x20 * r) ∧ bitsOf data 0 4 ≤ 10 ∧
      (bitsOf data 6 7 ≤ (if isQueue r then 31 else 95)) ∧ data.testBit 4 = true ∧ s.bit (F.PKE_RING_CFG.EN r) = false) ∧
    (∃ (s : State) (req : Requester) (r : Nat) (data : Nat), r < 144 ∧ s.Serves req (0xB10008 + 0x20 * r) ∧
      bitsOf data 0 4 = s.get (F.PKE_RING_CFG.SIZE r) ∧ bitsOf data 0 4 ≤ 10 ∧ (bitsOf data 6 7 ≤ (if isQueue r then 31 else 95)) ∧
      data.testBit 4 = false ∧ s.bit (F.PKE_RING_CFG.EN r) = true) ∧
    (∃ (s : State) (r : Nat) (i : RingItem), r < 64 ∧ s.supply.on = true ∧ s.pke.ringQ.find? (fun i => i.ring == r) = some i) ∧
    (∃ (s : State) (r : Nat) (d : TxDone), 64 ≤ r ∧ r < 128 ∧ s.supply.on = true ∧
      s.pke.done.find? (fun t => t.ring == r && t.idx == s.get (F.PKE_RING_CONS.CONS r)) = some d) ∧
    (∃ (s : State) (r : Nat) (n : Nat) (t0 : Nat), 128 ≤ r ∧ r < 144 ∧ s.supply.on = true ∧ lookup r s.pke.coal = some (n, t0) ∧
      s.get (F.PKE_RING_CFG.COALT r) ≠ 0 ∧ t0 + s.get (F.PKE_RING_CFG.COALT r) * 625 ≤ s.raw) :=
  ⟨⟨(B), (.host), 143, 64, by decide +kernel, serves (by decide +kernel), by decide +kernel⟩,
   ⟨(B), (.host), 130, (0x1F * 64 + 16 + 10), by decide +kernel, serves (by decide +kernel), by decide +kernel, by decide +kernel, by decide +kernel,
     by decide +kernel⟩,
   ⟨(st [(F.PKE_RING_CFG.EN 3, 1), (F.PKE_RING_CFG.SIZE 3, 0)]), (.host), 3, 0, by decide +kernel, serves (by decide +kernel), by decide +kernel,
     by decide +kernel, by decide +kernel, by decide +kernel, by decide +kernel⟩,
   ⟨(withPke (st [(F.PKE_RING_CFG.EN 3, 1), (F.PKE_RING_PROD.PROD 3, 5)]) (fun p => { p with ringQ := [item0] })), 3, (item0), by decide +kernel,
     by decide +kernel, by decide +kernel⟩,
   ⟨(withPke (st [(F.PKE_RING_CFG.EN 64, 1), (F.PKE_RING_PROD.PROD 64, 5)]) (fun p => { p with done := [⟨64, 0, 1, {}, true⟩] })), 64, (⟨64, 0, 1, {},
     true⟩), by decide +kernel, by decide +kernel, by decide +kernel, by decide +kernel⟩,
   ⟨(withPke (late 625 (st [(F.PKE_RING_CFG.COALT 143, 1)])) (fun p => { p with coal := [(143, (3, 0))] })), 143, 3, 0, by decide +kernel,
     by decide +kernel, by decide +kernel, by decide +kernel, by decide +kernel, by decide +kernel⟩⟩

theorem witness_NtsService :
    (∃ (s : State) (id : Nat) (x : Ctx) (y : Ctx), s.ctx? id = some x ∧ x.service = 1 ∧ x.kind = 0 ∧
      s.requestPlan { x with req := payloadOf x.frame, dest := replyHead x.frame (portMac x.port) } = .ok y ∧ s.leapSpan y.recd y.off = false) ∧
    (∃ (s : State) (id : Nat) (r : Nat) (x : Ctx), s.ctx? id = some x ∧ x.service = 1 ∧ x.kind = 0 ∧
      s.requestPlan { x with req := payloadOf x.frame, dest := replyHead x.frame (portMac x.port) } = .error r) ∧
    (∃ (s : State) (frame : List Byte) (y : Ctx), let e := errbSum [if (s.isle 5).lost then unbounded else (s.isle 5).errb, 5000000];
      let t3 := ((s.islePair 5 (s.replica 5)).bind (fun p => p.dtime (s.replica 5))).getD 0; s.supply.on = true ∧ s.bit F.PRT_MG_CTRL.NTP = true ∧
      s.canSend 4 = true ∧
      s.requestPlan { id := 0, service := 1, frame := frame, recd := s.pke.mgRec, req := payloadOf frame, dest := replyHead frame (portMac 4), port := 4 } = .ok y ∧
      y.kind = 4 ∧ (s.bit F.NTS_CFG.UNSYNC = true ∨ s.leapInd e t3 ≠ 3) ∧ y.effs.all s.effOk = true) ∧
    (∃ (s : State) (frame : List Byte) (r : Nat), s.bit F.PRT_MG_CTRL.NTP = true ∧ s.canSend 4 = true ∧
      s.requestPlan { id := 0, service := 1, frame := frame, recd := s.pke.mgRec, req := payloadOf frame, dest := replyHead frame (portMac 4), port := 4 } = .error r) :=
  ⟨let ⟨y, h, p⟩ := nts_planned; ⟨ntsState, 4, ntsCtx, y, by decide +kernel, by decide +kernel, by decide +kernel, h, p⟩,
   ⟨(withCtx (st [(F.NTS_CFG.PLAIN, 1)]) { id := 4, service := 1, frame := ntpFrame, label := 12 }), 4, 3,
     ({ id := 4, service := 1, frame := ntpFrame, label := 12 }), by decide +kernel, by decide +kernel, by decide +kernel, by decide +kernel⟩,
   let ⟨y, h, k, e⟩ := mg_planned; ⟨mgState, ntpFrame, y, by decide +kernel, by decide +kernel, by decide +kernel, h, k, by decide +kernel, e⟩,
   ⟨(st [(F.NTS_CFG.PLAIN, 0), (F.PRT_MG_CTRL.NTP, 1), (F.PRT_MG_CTRL.ADMIN, 1), (F.PRT_MG_STAT.SPEED, 2)]), (ntpFrame), 3, by decide +kernel,
     by decide +kernel, by decide +kernel⟩⟩

theorem witness_NtsKeysAndKe :
    (∃ (s : State) (p : Nat), s.bit F.NTS_CFG.NTS = true ∧ s.inStep = false ∧ s.kstore.nextRot ≤ s.dsec ∧ s.nts.rot = none ∧ p < 4 ∧
      (s.npos p).state = 0 ∧ s.posUsable p = true) ∧
    (∃ (s : State) (req : Requester) (p : Nat), s.Serves req 0xC00014 ∧ s.nts.rot = none ∧ p < 4 ∧ (s.npos p).state = 0 ∧ s.posUsable p = true) ∧
    (∃ (s : State) (req : Requester), s.Serves req 0xC00014) ∧
    (∃ (s : State) (req : Requester) (key : Nat), s.Serves req 0xC00014 ∧ key % 65536 ≠ 0x9612 ∧ s.bit F.XBR_AERR.AERR = false) ∧
    (∃ (s : State) (r : Rotation) (t0 : Nat), s.nts.rot = some r ∧ r.switch = some t0 ∧ t0 ≤ s.raw ∧ r.pos < s.nts.pos.length ∧
      s.currentPos ≠ some r.pos ∧ ((∀ k ∈ s.pair.keys, s.dnow.getD 0 < k.2.2.2))) ∧
    (∃ (s : State) (q : Nat) (t0 : Nat), s.nts.retire = some (q, t0) ∧ t0 ≤ s.raw) ∧
    (∃ (s : State) (p : Nat), p < 4 ∧ (s.npos p).state = 2 ∧ (s.npos p).since + s.get F.NTS_ROT.GRACE * 4 ≤ s.dsec) ∧
    (∃ (s : State), s.raw % 39062500 = 0 ∧ (s.nts.sketch.map (·.1)).Nodup) ∧
    (∃ (s : State), 2 ^ 20 ≤ s.nts.drbg) ∧
    (∃ (s : State) (req : Requester), s.Serves req 0xC00018) ∧
    (∃ (s : State) (c : Nat), lookup c s.nts.conns = none ∧ s.nts.conns.length < s.get F.NTS_KE.MAXCONN) ∧
    (∃ (s : State) (c : Nat), lookup c s.nts.conns = none ∧ s.get F.NTS_KE.MAXCONN ≤ s.nts.conns.length ∧ s.supply.on = true) ∧
    (∃ (s : State) (c : Nat) (t0 : Nat), lookup c s.nts.conns = some t0 ∧ s.slotRefuses (s.get F.NTS_KE.CERTSLOT) [0] = 0 ∧ s.supply.on = true) ∧
    (∃ (s : State) (c : Nat) (t0 : Nat), lookup c s.nts.conns = some t0) ∧
    (∃ (s : State) (c : Nat) (t0 : Nat), lookup c s.nts.conns = some t0 ∧ t0 + 6250000000 ≤ s.raw) ∧
    (∃ (s : State) (seconds : Nat), seconds ≤ 2592000 ∧ s.sys.keCertWarned = false) :=
  ⟨⟨(((st [(F.NTS_CFG.NTS, 1), (F.NTS_KPOS.ENCSLOT 2, 4), (F.NTS_KPOS.DECSLOT 2,
     5)]).updSlot 4 (fun x => { x with state := 1, use := 0 })).updSlot 5 (fun x => { x with state := 1, use := 1 })), 2, by decide +kernel,
     by decide +kernel, by decide +kernel, by decide +kernel, by decide +kernel, by decide +kernel, by decide +kernel⟩,
   ⟨(((st [(F.NTS_KPOS.ENCSLOT 2, 4), (F.NTS_KPOS.DECSLOT 2,
     5)]).updSlot 4 (fun x => { x with state := 1, use := 0 })).updSlot 5 (fun x => { x with state := 1, use := 1 })), (.host), 2,
     serves (by decide +kernel), by decide +kernel, by decide +kernel, by decide +kernel, by decide +kernel⟩,
   ⟨(B), (.host), serves (by decide +kernel)⟩,
   ⟨(B), (.host), 3, serves (by decide +kernel), by decide +kernel, by decide +kernel⟩,
   ⟨({ late 5 B with nts := { B.nts with rot := some ⟨2, 9, some 5⟩, pos := [⟨1, 8, 0⟩, {}, {}, {}] } }), (⟨2, 9, some 5⟩), 5, by decide +kernel,
     by decide +kernel, by decide +kernel, by decide +kernel, by decide +kernel, by decide +kernel⟩,
   ⟨({ late 5 B with nts := { B.nts with retire := some (3, 5) } }), 3, 5, by decide +kernel, by decide +kernel⟩,
   ⟨({ late (5000000*625000000) B with nts := { B.nts with pos := [{}, {}, {}, ⟨2, 8, 0⟩] } }), 3, by decide +kernel, by decide +kernel,
     by decide +kernel⟩,
   ⟨({ late 39062500 B with nts := { B.nts with sketch := [(5, 100), (70000, 3)] } }), by decide +kernel, by decide +kernel⟩,
   ⟨({ B with nts := { B.nts with drbg := 1048576 } }), by decide +kernel⟩,
   ⟨(B), (.host), serves (by decide +kernel)⟩,
   ⟨(B), 9, by decide +kernel, by decide +kernel⟩,
   ⟨(st [(F.NTS_KE.MAXCONN, 0)]), 9, by decide +kernel, by decide +kernel, by decide +kernel⟩,
   ⟨({ (st [(F.NTS_KE.CERTSLOT, 3)]).updSlot 3 (fun x => { x with state := 2, use := 0 }) with nts := { B.nts with conns := [(9, 1)] } }), 9, 1,
     by decide +kernel, by decide +kernel, by decide +kernel⟩,
   ⟨({ B with nts := { B.nts with conns := [(9, 1)] } }), 9, 1, by decide +kernel⟩,
   ⟨({ late 6250000001 B with nts := { B.nts with conns := [(9, 1)] } }), 9, 1, by decide +kernel, by decide +kernel⟩,
   ⟨(B), 2592000, by decide +kernel, by decide +kernel⟩⟩

theorem witness_PtpMessages :
    (∃ (s : State) (id : Nat) (r : Nat) (x : Ctx), s.ctx? id = some x ∧ x.service = 2 ∧ x.kind = 0 ∧ x.engine < 16 ∧
      s.ptpRefuses { x with req := (payloadOf x.frame).take (ptpLen (payloadOf x.frame)) } (payloadOf x.frame) = some r) ∧
    (∃ (s : State) (id : Nat) (x : Ctx) (l : List (Nat × Nat × List Byte)), let m := (payloadOf x.frame).take (ptpLen (payloadOf x.frame));
      s.ctx? id = some x ∧ x.service = 2 ∧ x.kind = 0 ∧ x.engine < 16 ∧ s.ptpRefuses { x with req := m } (payloadOf x.frame) = none ∧
      tlvs m 64 (bodyLen (ptpType m)) = some l ∧ (s.svcOf x.recd).authCheck m l (s.bit (F.PTP_PCFG.AUTHREQ x.port) || x.label.testBit 0) = .ok none ∧
      ptpType m = 0xB ∧ s.peerOf x.port x.frame = none) ∧
    (∃ (s : State) (u : State) (id : Nat) (x : Ctx) (z : Ctx) (l : List (Nat × Nat × List Byte)),
      let m := (payloadOf x.frame).take (ptpLen (payloadOf x.frame)); s.ctx? id = some x ∧ x.service = 2 ∧ x.kind = 0 ∧ x.engine < 16 ∧
      s.ptpRefuses { x with req := m } (payloadOf x.frame) = none ∧ tlvs m 64 (bodyLen (ptpType m)) = some l ∧
      (s.svcOf x.recd).authCheck m l (s.bit (F.PTP_PCFG.AUTHREQ x.port) || x.label.testBit 0) = .ok none ∧
      ((if (ptpType m == 1 && !isGroup x.frame) || ptpType m == 0xC then s.clusterEvent 9 0 else s).ptpPlan { x with req := m } none l = .reply u z)) ∧
    (∃ (s : State) (n : Nat) (mt : Nat), let q := (if mt = 0 then s.ptp.syncs else s.ptp.anns).getD n {}; n < 4 ∧ (mt = 0 ∨ mt = 0xB) ∧
      s.mayServe n mt = true ∧ s.bit (F.PTP_PCFG.MCAST n) = true ∧ q.next * 512 ≤ s.now + s.leadCrumbs) ∧
    (∃ (s : State) (i : Nat) (n : Nat) (g : Grant), n < 4 ∧ s.grant? i = some g ∧ s.raw < g.expiry ∧ (g.mtype = 0 ∨ g.mtype = 0xB) ∧
      s.mayServe g.port g.mtype = true ∧ g.next * 512 ≤ s.now + s.leadCrumbs ∧ g.auth = false) ∧
    (∃ (s : State) (n : Nat) (pid : List Byte), s.ptp.parent = some (n, pid) ∧ s.ptp.reqNext ≤ s.raw ∧ s.canSend n = true ∧ s.standby = false) ∧
    (∃ (s : State) (k : Nat), k < 2048 ∧ s.peerOn k = true ∧ (s.peer k).reqNext ≤ s.raw ∧ s.canSend (s.get (F.PEER_CFG.PORT k)) = true) ∧
    (∃ (s : State) (k : Nat), k < 2048 ∧ s.peerOn k = true ∧ s.canSend (s.get (F.PEER_CFG.PORT k)) = true) :=
  ⟨⟨(withCtx (st []) { id := 4, service := 2, engine := 1, frame := ptpFrame 0xB 64 }), 4, 3,
     ({ id := 4, service := 2, engine := 1, frame := ptpFrame 0xB 64 }), by decide +kernel, by decide +kernel, by decide +kernel, by decide +kernel,
     by decide +kernel⟩,
   ⟨(withCtx (st [(F.PTP_PCFG.EN 0, 1)]) { id := 4, service := 2, engine := 1, frame := ptpFrame 0xB 64 }), 4,
     ({ id := 4, service := 2, engine := 1, frame := ptpFrame 0xB 64 }), ([]), by decide +kernel, by decide +kernel, by decide +kernel,
     by decide +kernel, by decide +kernel, by decide +kernel, by decide +kernel, by decide +kernel, by decide +kernel⟩,
   let ⟨u, z, h⟩ := ptp_planned; ⟨ptpState, u, 4, { ptpCtx with req := [] }, z, [], by decide +kernel, by decide +kernel, by decide +kernel,
     by decide +kernel, by decide +kernel, by decide +kernel, by decide +kernel, h⟩,
   ⟨(st [(F.PTP_PCFG.EN 3, 1), (F.PTP_PSTAT.STATE 3, 6)]), 3, 11, by decide +kernel, by decide +kernel, by decide +kernel, by decide +kernel,
     by decide +kernel⟩,
   ⟨({ st [(F.PTP_PCFG.EN 1, 1), (F.PTP_PSTAT.STATE 1, 6)] with ptp := { grants := [(7, grant0)] } }), 7, 1, (grant0), by decide +kernel,
     by decide +kernel, by decide +kernel, by decide +kernel, by decide +kernel, by decide +kernel, by decide +kernel⟩,
   ⟨({ portOk B 1 with ptp := { parent := some (1, zeros 10) } }), 1, (zeros 10), by decide +kernel, by decide +kernel, by decide +kernel,
     by decide +kernel⟩,
   ⟨((portOk B 1).sets [(F.PEER_CFG.EN 2047, 1), (F.PEER_CFG.PORT 2047, 1), (F.PTP_PCFG.EN 1, 1)]), 2047, by decide +kernel, by decide +kernel,
     by decide +kernel, by decide +kernel⟩,
   ⟨((portOk B 1).sets [(F.PEER_CFG.EN 0, 1), (F.PEER_CFG.PORT 0, 1), (F.PTP_PCFG.EN 1, 1)]), 0, by decide +kernel, by decide +kernel,
     by decide +kernel⟩⟩

theorem witness_PtpClockGrantsAndPeers :
    (∃ (s : State) (i : Nat) (g : Grant), i < 65536 ∧ s.grant? i = some g ∧ g.expiry ≤ s.raw) ∧
    (∃ (s : State) (req : Requester), s.Serves req 0xD0002C) ∧
    (∃ (s : State) (req : Requester), s.Serves req 0xD0002C) ∧
    (∃ (s : State) (req : Requester), s.Serves req 0xD0002C ∧ s.ptp.grants ≠ []) ∧
    (∃ (s : State) (req : Requester) (key : Nat), s.Serves req 0xD0002C ∧ key % 65536 ≠ 0x9612 ∧ s.bit F.XBR_AERR.AERR = false) ∧
    (∃ (s : State) (k : Nat), k < 2048 ∧ (s.peer k).offsetAt + 4 * intervalTicks (s.peer k).logSync ≤ s.raw ∧ s.bit (F.PEER_STAT.REACH k) = true) :=
  ⟨⟨({ late 900000000000 B with ptp := { grants := [(65535, grant0)] } }), 65535, (grant0), by decide +kernel, by decide +kernel, by decide +kernel⟩,
   ⟨(B), (.host), serves (by decide +kernel)⟩,
   ⟨(B), (.host), serves (by decide +kernel)⟩,
   ⟨({ B with ptp := { grants := [(65535, grant0)] } }), (.host), serves (by decide +kernel), by decide +kernel⟩,
   ⟨(B), (.host), 1, serves (by decide +kernel), by decide +kernel, by decide +kernel⟩,
   ⟨(late 9999999999 (st [(F.PEER_STAT.REACH 0, 1)])), 0, by decide +kernel, by decide +kernel, by decide +kernel⟩⟩

theorem witness_VaultOperations :
    (∃ (s : State) (req : Requester), s.Reaches req 0xE00010 ∧ s.bit (F.KVT_OP.START req.idx) = false ∧ s.bit F.KVT_STAT.PFAIL = false ∧
      s.kvt.queue.length < 8) ∧
    (∃ (s : State) (req : Requester), s.Reaches req 0xE00010 ∧ s.bit (F.KVT_OP.START req.idx) = false ∧
      (s.bit F.KVT_STAT.PFAIL = true ∨ 8 ≤ s.kvt.queue.length)) ∧
    (∃ (s : State) (req : Requester) (data : Nat), s.Reaches req 0xE00010 ∧ s.bit (F.KVT_OP.START req.idx) = false ∧ s.bit F.KVT_STAT.DBG = false ∧
      2 ≤ bitsOf data 8 8 ∧ s.slotRefuses (bitsOf data 8 8) [0, 1, 3] = 0 ∧ (s.slot (bitsOf data 16 8)).use = 2 ∧
      (s.slot (bitsOf data 16 8)).state = 2 ∧ (s.slot (bitsOf data 16 8)).cert = true) ∧
    (∃ (s : State) (req : Requester) (data : Nat), s.Reaches req 0xE00010 ∧ s.bit (F.KVT_OP.START req.idx) = false ∧
      s.slotRefuses (bitsOf data 8 8) [0] = 0) ∧
    (∃ (s : State) (req : Requester) (data : Nat), s.Reaches req 0xE00010 ∧ s.bit (F.KVT_OP.START req.idx) = false ∧
      s.slotRefuses (bitsOf data 8 8) [0] = 0) ∧
    (∃ (s : State) (req : Requester) (data : Nat), s.Reaches req 0xE00010 ∧ s.bit (F.KVT_OP.START req.idx) = false ∧
      s.slotRefuses (bitsOf data 8 8) [0] ≠ 0) :=
  ⟨⟨(B), (.host), reaches (by decide +kernel), by decide +kernel, by decide +kernel, by decide +kernel⟩,
   ⟨(st [(F.KVT_STAT.PFAIL, 1)]), (.host), reaches (by decide +kernel), by decide +kernel, by decide +kernel⟩,
   ⟨(((B.updSlot 4 (fun x => { x with state := 2, use := 0 })).updSlot 5 (fun x => { x with state := 2, use := 2, cert := true }))), (.host),
     (0x00050400), reaches (by decide +kernel), by decide +kernel, by decide +kernel, by decide +kernel, by decide +kernel, by decide +kernel,
     by decide +kernel, by decide +kernel⟩,
   ⟨((B.updSlot 4 (fun x => { x with state := 2, use := 0 }))), (.host), (0x00000420), reaches (by decide +kernel), by decide +kernel,
     by decide +kernel⟩,
   ⟨((B.updSlot 4 (fun x => { x with state := 2, use := 0 }))), (.host), (0x00000400), reaches (by decide +kernel), by decide +kernel,
     by decide +kernel⟩,
   ⟨((B.updSlot 4 (fun x => { x with state := 1, use := 0 }))), (.host), (0x00000400), reaches (by decide +kernel), by decide +kernel,
     by decide +kernel⟩⟩

theorem witness_VaultStoreAndRoots :
    (∃ (s : State) (r : VaultReq) (k : List Byte × Bool), s.supply.on = true ∧ s.kvt.queue.head? = some r ∧ s.kvt.opened = none ∧
      s.bit F.KVT_STAT.HOLDOK = true ∧ s.computeUpdate r = .ok k) ∧
    (∃ (s : State) (r : VaultReq) (e : Nat), s.kvt.queue.head? = some r ∧ s.kvt.opened = none ∧ s.bit F.KVT_STAT.HOLDOK = true ∧ r.by_ < 9 ∧
      s.computeUpdate r = .error e ∧ e < 16) ∧
    (∃ (s : State) (r : VaultReq) (key : List Byte) (cert : Bool), s.kvt.queue.head? = some r ∧ s.kvt.opened = some (key, cert) ∧ r.by_ < 9 ∧
      r.code = 1 ∧ r.tree = false ∧ r.slot < s.kvt.slots.length) ∧
    (∃ (s : State) (n : Nat), (s.slot n).state = 2) ∧
    (∃ (s : State) (req : Requester), s.Reaches req 0xE00004) ∧
    (∃ (s : State) (req : Requester) (key : Nat), s.Reaches req 0xE00004 ∧ key % 65536 ≠ 0x9612 ∧ s.bit F.XBR_AERR.AERR = false) ∧
    (∃ (s : State), s.bit F.KVT_STAT.DBG = false) :=
  ⟨⟨({ (((st [(F.KVT_STAT.HOLDOK, 1)]).updSlot 5 (fun x => { x with state := 1, parent := 0 })).updSlot 0 (fun x => { x with state := 2 })) with kvt := { (((st [(F.KVT_STAT.HOLDOK, 1)]).updSlot 5 (fun x => { x with state := 1, parent := 0 })).updSlot 0 (fun x => { x with state := 2 })).kvt with queue := [req0] } }),
     (req0), ((kdf [] req0.ctx, false)), by decide +kernel, by decide +kernel, by decide +kernel, by decide +kernel, rfl⟩,
   ⟨({ st [(F.KVT_STAT.HOLDOK, 1)] with kvt := { B.kvt with queue := [req0] } }), (req0), 2, by decide +kernel, by decide +kernel, by decide +kernel,
     by decide +kernel, by decide +kernel, by decide +kernel⟩,
   ⟨({ B with kvt := { B.kvt with queue := [req0], opened := some ([3], false) } }), (req0), ([3]), (false), by decide +kernel, by decide +kernel,
     by decide +kernel, by decide +kernel, by decide +kernel, by decide +kernel⟩,
   ⟨(B.updSlot 5 (fun x => { x with state := 2, key := [1] })), 5, by decide +kernel⟩,
   ⟨(B), (.host), reaches (by decide +kernel)⟩,
   ⟨(B), (.host), 5, reaches (by decide +kernel), by decide +kernel, by decide +kernel⟩,
   ⟨(B), by decide +kernel⟩⟩

theorem witness_RecordsOfTheStream :
    (∃ (s : State) (lane : Nat) (seq : Nat) (b : List Byte), s.Expects lane seq b ∧ b.length = 24) ∧
    (∃ (s : State) (lane : Nat) (seq : Nat) (b : List Byte), s.Expects lane seq b ∧ s.pair.mOwn = none) ∧
    (∃ (s : State) (lane : Nat) (seq : Nat) (b : List Byte) (own : Int) (stamp : Nat),
      let x : Rat := ((toSigned 64 (leAt b 8 8) - own : Int) : Rat) * 25 / 256; s.Expects lane seq b ∧ s.pair.mOwn = some (leAt b 0 8, own, stamp) ∧
      s.role = 1 ∧ s.pairState = 5 ∧ s.channelOfKind 7 = none ∧ absR x ≤ (s.get F.PAIR_THR.THR : Rat) ∧ absR x < 1073741824) ∧
    (∃ (s : State) (lane : Nat) (seq : Nat) (b : List Byte), s.Expects lane seq b ∧ s.role ≠ 2 ∧ s.channelOfKind 7 = none) ∧
    (∃ (s : State) (lane : Nat) (seq : Nat) (b : List Byte), s.Expects lane seq b) ∧
    (∃ (s : State) (lane : Nat) (seq : Nat) (b : List Byte), s.Expects lane seq b ∧ s.role = 2) ∧
    (∃ (s : State) (lane : Nat) (seq : Nat) (b : List Byte), s.Expects lane seq b ∧ s.role ≠ 2) ∧
    (∃ (s : State) (lane : Nat) (seq : Nat) (b : List Byte), s.Expects lane seq b ∧ s.inStep = true ∧ leAt b 16 1 = 1 ∧ leAt b 28 8 = 0 ∧
      leAt b 17 1 < 8 ∧ s.hrt.srv.length = 4) ∧
    (∃ (s : State) (lane : Nat) (seq : Nat) (b : List Byte), s.Expects lane seq b ∧ s.inStep = true ∧ toSigned 64 (leAt b 28 8) ≠ 0) ∧
    (∃ (s : State) (lane : Nat) (seq : Nat) (b : List Byte), s.Expects lane seq b ∧ s.inStep = true ∧ leAt b 1 1 < 8) ∧
    (∃ (s : State) (lane : Nat) (seq : Nat) (b : List Byte), s.Expects lane seq b ∧ s.inStep = true) ∧
    (∃ (s : State) (lane : Nat) (seq : Nat) (b : List Byte), s.Expects lane seq b ∧ s.inStep = true) ∧
    (∃ (s : State) (lane : Nat) (seq : Nat) (b : List Byte), s.Expects lane seq b ∧ s.inStep = true ∧ s.digest = sliceB b 4 8) ∧
    (∃ (s : State) (lane : Nat) (seq : Nat) (b : List Byte), s.Expects lane seq b ∧ s.inStep = true ∧ s.digest ≠ sliceB b 4 8 ∧
      s.bit F.PAIR_STAT.ARMED = false ∧ s.pairState = 5) :=
  ⟨⟨(linked []), 0, 5, (zeros 24), expects (by decide +kernel), by decide +kernel⟩,
   ⟨(linked []), 0, 5, (zeros 16), expects (by decide +kernel), by decide +kernel⟩,
   ⟨(withPair (linked [(F.PAIR_STAT.ROLE, 1), (F.PAIR_STAT.STATE, 5), (F.PAIR_THR.THR, 100)]) (fun p => { p with mOwn := some (0, 5, 6) })), 0, 5,
     (zeros 16), (5), 6, expects (by decide +kernel), by decide +kernel, by decide +kernel, by decide +kernel, by decide +kernel, by decide +kernel,
     by decide +kernel⟩,
   ⟨(linked [(F.PAIR_STAT.ROLE, 1)]), 0, 5, (zeros 16), expects (by decide +kernel), by decide +kernel, by decide +kernel⟩,
   ⟨(linked []), 1, 5, (zeros 4), expects (by decide +kernel)⟩,
   ⟨(linked [(F.PAIR_STAT.ROLE, 2)]), 0, 5, (zeros 24), expects (by decide +kernel), by decide +kernel⟩,
   ⟨(linked [(F.PAIR_STAT.ROLE, 1)]), 0, 5, (zeros 24), expects (by decide +kernel), by decide +kernel⟩,
   ⟨(linked [(F.PAIR_STAT.ROLE, 2), (F.PAIR_STAT.STATE, 5)]), 0, 5, (putAt (putAt (zeros 48) 16 [1, 2]) 20 [9]), expects (by decide +kernel),
     by decide +kernel, by decide +kernel, by decide +kernel, by decide +kernel, by decide +kernel⟩,
   ⟨(linked [(F.PAIR_STAT.ROLE, 2), (F.PAIR_STAT.STATE, 5)]), 0, 5, (putAt (zeros 48) 28 [1]), expects (by decide +kernel), by decide +kernel,
     by decide +kernel⟩,
   ⟨(linked [(F.PAIR_STAT.ROLE, 2), (F.PAIR_STAT.STATE, 5)]), 0, 5, (putAt (zeros 12) 0 [255, 2]), expects (by decide +kernel), by decide +kernel,
     by decide +kernel⟩,
   ⟨(linked [(F.PAIR_STAT.ROLE, 2), (F.PAIR_STAT.STATE, 6)]), 0, 5, (zeros 24), expects (by decide +kernel), by decide +kernel⟩,
   ⟨(linked [(F.PAIR_STAT.ROLE, 2), (F.PAIR_STAT.STATE, 6)]), 0, 5, (zeros 32), expects (by decide +kernel), by decide +kernel⟩,
   ⟨(linked [(F.PAIR_STAT.ROLE, 2), (F.PAIR_STAT.STATE, 6)]), 0, 5, (zeros 4 ++ (linked [(F.PAIR_STAT.ROLE, 2), (F.PAIR_STAT.STATE,
     6)]).digest ++ zeros 4), expects ⟨by decide +kernel, by decide +kernel, by decide +kernel, by decide +kernel, by decide +kernel,
     by decide +kernel, by decide +kernel, digest_fits _⟩, by decide +kernel, digest_held _⟩,
   ⟨(linked [(F.PAIR_STAT.ROLE, 2), (F.PAIR_STAT.STATE, 5)]), 0, 5, (zeros 4 ++ [(linked [(F.PAIR_STAT.ROLE, 2), (F.PAIR_STAT.STATE,
     5)]).digest.headD 0 + 1] ++ zeros 11), expects (by decide +kernel), by decide +kernel, digest_other _, by decide +kernel, by decide +kernel⟩⟩

theorem witness_RecordsOfRolesAndTables :
    (∃ (s : State) (lane : Nat) (seq : Nat) (b : List Byte), s.Expects lane seq b ∧ s.role = 2 ∧ s.pair.phase = 2 ∧ s.pair.swapState = false ∧
      leAt b 32 1 < 8 ∧ s.hrt.srv.length = 4) ∧
    (∃ (s : State) (lane : Nat) (seq : Nat) (b : List Byte), s.Expects lane seq b ∧ s.inStep = true) ∧
    (∃ (s : State) (lane : Nat) (seq : Nat) (b : List Byte), let d := (leAt b 8 8 * 1000000000 + leAt b 16 4) * 65536; s.Expects lane seq b ∧
      s.inStep = true ∧ leAt b 1 1 = 0 ∧ s.dnow.getD 0 < d ∧ s.pair.keys = []) ∧
    (∃ (s : State) (lane : Nat) (seq : Nat) (b : List Byte), s.Expects lane seq b ∧ s.role = 2 ∧ beAt b 4 1 = 0) ∧
    (∃ (s : State) (lane : Nat) (seq : Nat) (b : List Byte), s.Expects lane seq b ∧ s.role = 2 ∧ beAt b 4 1 ≠ 0 ∧ s.pair.phase = 2 ∧ s.pairState = 4) ∧
    (∃ (s : State) (lane : Nat) (seq : Nat) (b : List Byte), s.Expects lane seq b ∧ s.role ≠ 0 ∧ s.pair.exch = none ∧ s.pair.swap = none) ∧
    (∃ (s : State) (lane : Nat) (seq : Nat) (b : List Byte), s.Expects lane seq b ∧ s.pair.exch = none) ∧
    (∃ (s : State) (lane : Nat) (seq : Nat) (b : List Byte), s.Expects lane seq b ∧ s.pair.exch = some (leAt b 4 4, 2) ∧ s.role = 1 ∧ leAt b 0 1 = 1) ∧
    (∃ (s : State) (lane : Nat) (seq : Nat) (b : List Byte), s.Expects lane seq b ∧ s.role = 2 ∧ s.bit F.PAIR_STAT.CLEAN = true) ∧
    (∃ (s : State) (lane : Nat) (seq : Nat) (b : List Byte), s.Expects lane seq b ∧ s.role = 2 ∧ s.bit F.PAIR_STAT.CLEAN = false) ∧
    (∃ (s : State) (lane : Nat) (seq : Nat) (b : List Byte) (n : Nat), s.Expects lane seq b ∧ s.pair.seq < 2 ^ 32 ∧ leAt b 0 4 = s.pair.seq ∧
      s.role = 1 ∧ s.pair.swap.map (·.1) = some n ∧ (leAt b 4 1).testBit 0 = true) ∧
    (∃ (s : State) (lane : Nat) (seq : Nat) (b : List Byte) (n : Nat), s.Expects lane seq b ∧ s.pair.seq < 2 ^ 32 ∧
      (s.pair.seq + 2 ^ 32 - leAt b 0 4) % 2 ^ 32 = n ∧ 1 ≤ n ∧ n ≤ s.pair.store.length ∧ s.role ≠ 1 ∧ s.supply.on = true) ∧
    (∃ (s : State) (lane : Nat) (seq : Nat) (b : List Byte), s.Expects lane seq b ∧ s.role = 1 ∧ leAt b 0 1 = 1) ∧
    (∃ (s : State) (lane : Nat) (seq : Nat) (b : List Byte), s.Expects lane seq b ∧ s.role ≠ 1) ∧
    (∃ (s : State) (lane : Nat) (seq : Nat) (b : List Byte), s.Expects lane seq b ∧ leAt b 2 1 = 0) ∧
    (∃ (s : State) (lane : Nat) (seq : Nat) (b : List Byte), s.Expects lane seq b ∧ leAt b 0 1 = 1 ∧ leAt b 1 1 = 0 ∧ leAt b 2 1 = 1 ∧
      s.pair.cert = []) :=
  ⟨⟨(withPair (linked [(F.PAIR_STAT.ROLE, 2), (F.PAIR_STAT.STATE, 4)]) (fun p => { p with phase := 2 })), 0, 5, (zeros 48),
     expects (by decide +kernel), by decide +kernel, by decide +kernel, by decide +kernel, by decide +kernel, by decide +kernel⟩,
   ⟨(linked [(F.PAIR_STAT.ROLE, 2), (F.PAIR_STAT.STATE, 5)]), 0, 5, (zeros 68), expects (by decide +kernel), by decide +kernel⟩,
   ⟨(linked [(F.PAIR_STAT.ROLE, 2), (F.PAIR_STAT.STATE, 5)]), 0, 5, (putAt (zeros 20) 8 [9]), expects (by decide +kernel), by decide +kernel,
     by decide +kernel, by decide +kernel, by decide +kernel⟩,
   ⟨(linked [(F.PAIR_STAT.ROLE, 2), (F.PAIR_STAT.STATE, 4)]), 0, 5, (zeros 8), expects (by decide +kernel), by decide +kernel, by decide +kernel⟩,
   ⟨(withPair (linked [(F.PAIR_STAT.ROLE, 2), (F.PAIR_STAT.STATE, 4)]) (fun p => { p with phase := 2 })), 0, 5, (putAt (zeros 8) 4 [1]),
     expects (by decide +kernel), by decide +kernel, by decide +kernel, by decide +kernel, by decide +kernel⟩,
   ⟨(linked [(F.PAIR_STAT.ROLE, 1), (F.PAIR_STAT.STATE, 5)]), 0, 5, (zeros 8), expects (by decide +kernel), by decide +kernel, by decide +kernel,
     by decide +kernel⟩,
   ⟨(linked [(F.PAIR_STAT.ROLE, 1), (F.PAIR_STAT.STATE, 5)]), 0, 5, (zeros 8), expects (by decide +kernel), by decide +kernel⟩,
   ⟨(withPair (linked [(F.PAIR_STAT.ROLE, 1), (F.PAIR_STAT.STATE, 6)]) (fun p => { p with exch := some (0, 2) })), 0, 5, (putAt (zeros 8) 0 [1]),
     expects (by decide +kernel), by decide +kernel, by decide +kernel, by decide +kernel⟩,
   ⟨(linked [(F.PAIR_STAT.ROLE, 2), (F.PAIR_STAT.STATE, 5), (F.PAIR_STAT.CLEAN, 1)]), 0, 5, (zeros 8), expects (by decide +kernel), by decide +kernel,
     by decide +kernel⟩,
   ⟨(linked [(F.PAIR_STAT.ROLE, 2), (F.PAIR_STAT.STATE, 5)]), 0, 5, (zeros 8), expects (by decide +kernel), by decide +kernel, by decide +kernel⟩,
   ⟨(withPair (linked [(F.PAIR_STAT.ROLE, 1), (F.PAIR_STAT.STATE, 5)]) (fun p => { p with swap := some (7, false) })), 0, 5, (putAt (zeros 8) 4 [1]),
     7, expects (by decide +kernel), by decide +kernel, by decide +kernel, by decide +kernel, by decide +kernel, by decide +kernel⟩,
   ⟨(withPair (linked [(F.PAIR_STAT.ROLE, 2), (F.PAIR_STAT.STATE, 5)]) (fun p => { p with seq := 3, store := [(2, [1]), (1, [2]), (0, [3])] })), 0, 5,
     (putAt (zeros 8) 0 [1]), 2, expects (by decide +kernel), by decide +kernel, by decide +kernel, by decide +kernel, by decide +kernel,
     by decide +kernel, by decide +kernel⟩,
   ⟨(linked [(F.PAIR_STAT.ROLE, 1), (F.PAIR_STAT.STATE, 5)]), 0, 5, (putAt (zeros 8) 0 [1]), expects (by decide +kernel), by decide +kernel,
     by decide +kernel⟩,
   ⟨(linked [(F.PAIR_STAT.ROLE, 2), (F.PAIR_STAT.STATE, 5)]), 0, 5, (putAt (zeros 8) 0 [1]), expects (by decide +kernel), by decide +kernel⟩,
   ⟨(linked []), 0, 5, (zeros 20), expects (by decide +kernel), by decide +kernel⟩,
   ⟨(linked []), 0, 5, (putAt (zeros 20) 0 [1, 0, 1]), expects (by decide +kernel), by decide +kernel, by decide +kernel, by decide +kernel,
     by decide +kernel⟩⟩

theorem witness_SendingAndGaps :
    (∃ (s : State), s.paired = true ∧ s.pair.any = true ∧ s.supply.on = true ∧ s.pair.warmWait = false ∧ s.channelOfKind 7 = none ∧
      s.pair.twinCheck = s.pairCheck ∧ s.pair.rekey = none) ∧
    (∃ (s : State), s.paired = true ∧ s.pair.any = true ∧ s.supply.on = true ∧ s.pair.warmWait = false ∧ s.channelOfKind 7 = none) ∧
    (∃ (s : State), s.paired = true ∧ s.pair.any = true ∧ s.supply.on = true ∧ s.pair.warmWait = false ∧ s.channelOfKind 7 = none ∧ s.role = 1) ∧
    (∃ (s : State), s.paired = true ∧ s.pair.any = true ∧ s.supply.on = true ∧ s.pair.warmWait = false ∧ s.channelOfKind 7 = none ∧
      s.journals = true ∧ s.raw % 625000 = 0 ∧ s.pair.select = s.selectPayload ∧ s.pair.leap = s.leapPayload ∧ s.pair.param = s.paramPayload) ∧
    (∃ (s : State), s.paired = true ∧ s.pair.any = true ∧ s.supply.on = true ∧ s.pair.warmWait = false ∧ s.channelOfKind 7 = none ∧ (¬(s.role = 2 ∧
      s.pair.phase = 1))) ∧
    (∃ (s : State) (lane : Nat) (seq : Nat) (ahead : Nat) (b : List Byte), s.Expects lane seq b ∧ s.pair.next = some seq ∧ 1 ≤ ahead ∧
      ahead < 2 ^ 31 ∧ s.supply.on = true) ∧
    (∃ (s : State) (lane : Nat) (seq : Nat) (b : List Byte) (bytes : List Byte), s.Expects lane seq b ∧ leAt bytes 4 1 ≠ 4 ∧ s.supply.on = true) ∧
    (∃ (s : State) (t0 : Nat), s.pair.gapAt = some t0 ∧ t0 + 62500 ≤ s.raw ∧ s.pair.early = [] ∧ s.pair.warmWait = false) :=
  ⟨⟨(withPair (linked []) (fun p => { p with twinCheck := (linked []).pairCheck })), by decide +kernel, by decide +kernel, by decide +kernel,
     by decide +kernel, by decide +kernel, by decide +kernel, by decide +kernel⟩,
   ⟨(linked []), by decide +kernel, by decide +kernel, by decide +kernel, by decide +kernel, by decide +kernel⟩,
   ⟨(linked [(F.PAIR_STAT.ROLE, 1)]), by decide +kernel, by decide +kernel, by decide +kernel, by decide +kernel, by decide +kernel,
     by decide +kernel⟩,
   ⟨(withPair (late 625000 (linked [(F.PAIR_STAT.ROLE, 1), (F.PAIR_STAT.STATE,
     5)])) (fun p => { p with select := (linked []).selectPayload, leap := (linked []).leapPayload, param := (linked []).paramPayload })),
     by decide +kernel, by decide +kernel, by decide +kernel, by decide +kernel, by decide +kernel, by decide +kernel, by decide +kernel,
     by decide +kernel, by decide +kernel, by decide +kernel⟩,
   ⟨(linked []), by decide +kernel, by decide +kernel, by decide +kernel, by decide +kernel, by decide +kernel, by decide +kernel⟩,
   ⟨(linked []), 0, 5, 1, (zeros 4), expects (by decide +kernel), by decide +kernel, by decide +kernel, by decide +kernel, by decide +kernel⟩,
   ⟨(linked []), 0, 5, ([]), (zeros 30), expects (by decide +kernel), by decide +kernel, by decide +kernel⟩,
   ⟨(withPair (late 62500 (linked [(F.PAIR_STAT.ROLE, 2), (F.PAIR_STAT.STATE, 5)])) (fun p => { p with gapAt := some 0 })), 0, by decide +kernel,
     by decide +kernel, by decide +kernel, by decide +kernel⟩⟩

theorem witness_RolesAndLanes :
    (∃ (s : State), s.paired = true ∧ s.channelOfKind 7 = none ∧ s.pair.warmWait = false ∧ s.pair.lane0 = true ∧ s.pair.lane1 = true ∧
      s.bit F.PAIR_STAT.CLEAN = false) ∧
    (∃ (s : State), s.paired = true ∧ s.channelOfKind 7 = none ∧ s.pair.warmWait = false ∧ s.pair.lane0 = false ∧ s.pair.lane1 = true ∧ s.role = 1) ∧
    (∃ (s : State), s.paired = true ∧ s.channelOfKind 7 = none ∧ s.pair.warmWait = false ∧ s.bit F.PAIR_STAT.CLEAN = false ∧ s.role = 1) ∧
    (∃ (s : State) (half : Nat), s.paired = true ∧ s.channelOfKind 7 = none ∧ s.pair.warmWait = false ∧ half < 2 ∧ s.role ≠ 1 ∧ s.pair.mTwin = none) ∧
    (∃ (s : State), s.paired = true ∧ s.channelOfKind 7 = none ∧ s.pair.warmWait = false ∧ s.pair.stale s.raw = true ∧
      s.bit F.PAIR_STAT.CLEAN = false) ∧
    (∃ (s : State), s.pairState = 1 ∧ s.pair.warmWait = false ∧ s.pair.both = true ∧ s.pair.hello = true ∧ s.pair.twinRole = 1) ∧
    (∃ (s : State), s.pairState = 1 ∧ s.pair.warmWait = false ∧ s.pair.any = false ∧ max s.pair.seekAt (s.pair.ppiAt.getD 0) + 937500000 ≤ s.raw) ∧
    (∃ (s : State) (alertLow : Bool), s.pairState = 1 ∧ s.pair.warmWait = false ∧ s.pair.any = false ∧ 0 < s.pair.seenActive ∧
      s.raw < max s.pair.seekAt (s.pair.ppiAt.getD 0) + 937500000 ∧ alertLow = false) ∧
    (∃ (s : State) (t0 : Nat), s.pairState = 1 ∧ s.pair.warmWait = false ∧ s.pair.waitFrom = some t0 ∧ t0 + 625000000 ≤ s.raw ∧ s.pair.seenActive = 0) ∧
    (∃ (s : State), s.paired = true ∧ s.role = 2 ∧ s.pair.any = false ∧ s.pair.downAt + 313 ≤ s.raw ∧ s.pair.warmWait = false ∧
      s.supply.alert = false) ∧
    (∃ (s : State), s.paired = true ∧ s.role = 2 ∧ s.pair.any = false ∧ s.pair.downAt + 313 ≤ s.raw ∧ s.pair.warmWait = false) ∧
    (∃ (s : State), s.paired = true ∧ s.pair.warmWait = false ∧ s.atomicGap = none) ∧
    (∃ (s : State), s.pairState = 6 ∧ s.pair.exch = none ∧ s.pair.warmWait = false) :=
  ⟨⟨(linked []), by decide +kernel, by decide +kernel, by decide +kernel, by decide +kernel, by decide +kernel, by decide +kernel⟩,
   ⟨(withPair (linked [(F.PAIR_STAT.ROLE, 1), (F.PAIR_STAT.STATE, 5)]) (fun p => { p with lane0 := false })), by decide +kernel, by decide +kernel,
     by decide +kernel, by decide +kernel, by decide +kernel, by decide +kernel⟩,
   ⟨(withPair (linked [(F.PAIR_STAT.ROLE, 1), (F.PAIR_STAT.STATE, 3)]) (fun p => { p with lane0 := false, lane1 := false })), by decide +kernel,
     by decide +kernel, by decide +kernel, by decide +kernel, by decide +kernel⟩,
   ⟨(linked [(F.PAIR_STAT.ROLE, 2)]), 0, by decide +kernel, by decide +kernel, by decide +kernel, by decide +kernel, by decide +kernel,
     by decide +kernel⟩,
   ⟨(linked []), by decide +kernel, by decide +kernel, by decide +kernel, by decide +kernel, by decide +kernel⟩,
   ⟨(withPair (linked [(F.PAIR_STAT.STATE, 1)]) (fun p => { p with hello := true, twinRole := 1 })), by decide +kernel, by decide +kernel,
     by decide +kernel, by decide +kernel, by decide +kernel⟩,
   ⟨(withPair (late 937500000 (linked [(F.PAIR_STAT.STATE, 1)])) (fun p => { p with lane0 := false, lane1 := false })), by decide +kernel,
     by decide +kernel, by decide +kernel, by decide +kernel⟩,
   ⟨(withPair (linked [(F.PAIR_STAT.STATE, 1)]) (fun p => { p with lane0 := false, lane1 := false, seenActive := 1 })), (false), by decide +kernel,
     by decide +kernel, by decide +kernel, by decide +kernel, by decide +kernel, by decide +kernel⟩,
   ⟨(withPair (late 625000000 (linked [(F.PAIR_STAT.STATE, 1)])) (fun p => { p with lane0 := false, lane1 := false, waitFrom := some 0 })), 0,
     by decide +kernel, by decide +kernel, by decide +kernel, by decide +kernel, by decide +kernel⟩,
   ⟨(withPair { late 313 (linked [(F.PAIR_STAT.ROLE, 2), (F.PAIR_STAT.STATE, 5)]) with supply := { alert := false } } (fun p => { p with lane0 := false, lane1 := false })),
     by decide +kernel, by decide +kernel, by decide +kernel, by decide +kernel, by decide +kernel, by decide +kernel⟩,
   ⟨(withPair (late 313 (linked [(F.PAIR_STAT.ROLE, 2), (F.PAIR_STAT.STATE, 5)])) (fun p => { p with lane0 := false, lane1 := false })),
     by decide +kernel, by decide +kernel, by decide +kernel, by decide +kernel, by decide +kernel⟩,
   ⟨(linked []), by decide +kernel, by decide +kernel, by decide +kernel⟩,
   ⟨(linked [(F.PAIR_STAT.STATE, 6), (F.PAIR_STAT.ROLE, 1)]), by decide +kernel, by decide +kernel, by decide +kernel⟩⟩

theorem witness_Swaps :
    (∃ (s : State) (req : Requester), s.Serves req 0xF0000C ∧ s.bit F.PAIR_CTRL.SWAP = false ∧ s.role = 1 ∧ s.pairState = 5 ∧ s.pair.swap = none) ∧
    (∃ (s : State) (req : Requester), s.Serves req 0xF0000C ∧ s.bit F.PAIR_CTRL.SWAP = false ∧ s.role = 1 ∧ s.pairState ≠ 5) ∧
    (∃ (s : State) (req : Requester) (key : Nat), s.Serves req 0xF0000C ∧ key % 65536 ≠ 0x9612 ∧ s.bit F.XBR_AERR.AERR = false) ∧
    (∃ (s : State) (req : Requester), s.Serves req 0xF0000C ∧ s.inStep = true ∧ s.supply.on = true) ∧
    (∃ (s : State) (t0 : Nat), s.pair.wtrFrom = some t0 ∧ s.bit F.PAIR_STAT.CLEAN = true ∧ s.bit F.PAIR_STAT.HOME = true ∧ s.role = 2 ∧
      s.paired = true ∧ s.pair.any = true ∧ s.supply.on = true ∧ s.pair.swap = none ∧ s.pair.warmWait = false ∧
      t0 + s.get F.PAIR_CFG.WTR * 625000000 ≤ s.raw) ∧
    (∃ (s : State) (n : Nat), n ≤ s.dsec ∧ s.pair.warmWait = false ∧ s.pair.swap = some (n, false)) ∧
    (∃ (s : State) (n : Nat), n ≤ s.dsec ∧ s.pair.warmWait = false ∧ s.pair.swap = some (n, true) ∧ s.role = 1) ∧
    (∃ (s : State) (n : Nat), n ≤ s.dsec ∧ s.pair.warmWait = false ∧ s.pair.swap = some (n, true) ∧ s.role = 2) :=
  ⟨⟨(linked [(F.PAIR_STAT.ROLE, 1), (F.PAIR_STAT.STATE, 5), (F.PAIR_STAT.CLEAN, 1)]), (.host), serves (by decide +kernel), by decide +kernel,
     by decide +kernel, by decide +kernel, by decide +kernel⟩,
   ⟨(linked [(F.PAIR_STAT.ROLE, 1), (F.PAIR_STAT.STATE, 4)]), (.host), serves (by decide +kernel), by decide +kernel, by decide +kernel,
     by decide +kernel⟩,
   ⟨(B), (.host), 5, serves (by decide +kernel), by decide +kernel, by decide +kernel⟩,
   ⟨(linked [(F.PAIR_STAT.ROLE, 2), (F.PAIR_STAT.STATE, 5)]), (.host), serves (by decide +kernel), by decide +kernel, by decide +kernel⟩,
   ⟨(withPair (late (100000*625000000) (linked [(F.PAIR_STAT.ROLE, 2), (F.PAIR_STAT.STATE, 5), (F.PAIR_STAT.CLEAN, 1), (F.PAIR_STAT.HOME,
     1)])) (fun p => { p with wtrFrom := some 0 })), 0, by decide +kernel, by decide +kernel, by decide +kernel, by decide +kernel, by decide +kernel,
     by decide +kernel, by decide +kernel, by decide +kernel, by decide +kernel, by decide +kernel⟩,
   ⟨(withPair (linked [(F.PAIR_STAT.ROLE, 1), (F.PAIR_STAT.STATE, 5), (F.PAIR_CTRL.SWAP, 1)]) (fun p => { p with swap := some (0, false) })), 0,
     by decide +kernel, by decide +kernel, by decide +kernel⟩,
   ⟨(withPair (linked [(F.PAIR_STAT.ROLE, 1), (F.PAIR_STAT.STATE, 5), (F.PAIR_CTRL.SWAP, 1)]) (fun p => { p with swap := some (0, true) })), 0,
     by decide +kernel, by decide +kernel, by decide +kernel, by decide +kernel⟩,
   ⟨(withPair (linked [(F.PAIR_STAT.ROLE, 2), (F.PAIR_STAT.STATE, 5)]) (fun p => { p with swap := some (0, true) })), 0, by decide +kernel,
     by decide +kernel, by decide +kernel, by decide +kernel⟩⟩

theorem witness_Mailbox :
    (∃ (s : State) (req : Requester), s.Serves req 0x1400010 ∧ s.bit F.SUP_STATUS.READY = true ∧ s.bit F.SUP_MBX.H2SBUSY = false ∧
      s.bit F.SUP_MBX.S2HVALID = false ∧ s.get F.SUP_MBX.VEC ≤ 95 ∧ s.get F.SUP_MBX.IRQEN ≤ 1) ∧
    (∃ (s : State) (req : Requester), s.Serves req 0x1400010 ∧
      (s.bit F.SUP_STATUS.READY = false ∨ s.bit F.SUP_MBX.H2SBUSY = true ∨ s.bit F.SUP_MBX.S2HVALID = true) ∧ s.bit F.XBR_AERR.AERR = false) ∧
    (∃ (s : State), s.mbxWaits 0x1 = true ∧ s.mbxLenGood = true) ∧
    (∃ (s : State), s.mbxWaits 0x1 = true ∧ s.mbxLenGood = false) ∧
    (∃ (s : State), s.mbxWaits 0x2 = true ∧ s.mbxLen = 0) ∧
    (∃ (s : State) (a : NetAddr), s.mbxWaits 0x10 = true ∧ s.mbxLen = 40 ∧ addrOf s.mbxPayload = some a) ∧
    (∃ (s : State), s.mbxWaits 0x10 = true ∧ s.mbxLen = 40 ∧ addrOf s.mbxPayload = none) ∧
    (∃ (s : State), s.mbxWaits 0x11 = true ∧ s.mbxLen = 4) ∧
    (∃ (s : State), let a := s.mbxPayload.getD 0 0; let n := s.mbxPayload.getD 1 0; s.mbxWaits 0x20 = true ∧ s.mbxLen = 8 ∧ 1 ≤ n ∧ n ≤ 16384 ∧
      a + n ≤ 0x3000000) ∧
    (∃ (s : State), s.mbxWaits 0x30 = true ∧ s.mbxLen = 8 ∧ s.mbxPayload.getD 0 0 ≤ 4 ∧ s.mbxPayload.getD 1 0 < 4) ∧
    (∃ (s : State), s.mbxWaits 0x40 = true ∧ s.mbxLen = 4 ∧ s.mbxPayload.getD 0 0 = 0) ∧
    (∃ (s : State), s.mbxWaits 0x40 = true ∧ s.mbxLen = 16 ∧ s.mbxPayload.getD 0 0 = 1 ∧ s.mbxPayload.getD 1 0 ≤ 900000000 ∧
      s.mbxPayload.getD 2 0 ≤ 1800000000 ∧ s.mbxPayload.getD 3 0 < 2 ^ 32) ∧
    (∃ (s : State), s.mbxWaits 0x40 = true ∧ s.mbxLen = 8) ∧
    (∃ (s : State), let a := s.mbxPayload.getD 0 0; let n := s.mbxPayload.getD 1 0; s.mbxWaits 0x50 = true ∧ s.mbxLen = 8 ∧ 4096 ≤ n ∧
      a + n ≤ 0x3000000) ∧
    (∃ (s : State) (w : List Nat), s.bit F.SUP_STATUS.READY = true ∧ s.bit F.SUP_MBX.S2HVALID = false ∧ s.sys.answer = some w ∧ w.length ≤ 64) ∧
    (∃ (s : State), s.bit F.SUP_STATUS.READY = true ∧ s.bit F.SUP_MBX.S2HVALID = false ∧ s.sys.answer = none ∧ s.bit F.SUP_MBX.H2SBUSY = true ∧
      s.mbxOp ∉ mbxOps) :=
  ⟨⟨(st [(F.SUP_STATUS.READY, 1)]), (.host), serves (by decide +kernel), by decide +kernel, by decide +kernel, by decide +kernel, by decide +kernel,
     by decide +kernel⟩,
   ⟨(st [(F.SUP_STATUS.READY, 1), (F.SUP_MBX.S2HVALID, 1)]), (.host), serves (by decide +kernel), by decide +kernel, by decide +kernel⟩,
   ⟨(mbx 1 8 [5, 6]), by decide +kernel, by decide +kernel⟩,
   ⟨(mbx 1 5 [5, 6]), by decide +kernel, by decide +kernel⟩,
   ⟨(mbx 2 0 []), by decide +kernel, by decide +kernel⟩,
   ⟨(mbx 0x10 40 [15, 4, 4095, 4, 1, 0, 0, 0, 32, 15]), ((addrOf [15, 4, 4095, 4, 1, 0, 0, 0, 32, 15]).getD ⟨0,0,[],0,0⟩), by decide +kernel,
     by decide +kernel, by decide +kernel⟩,
   ⟨(mbx 0x10 40 [16, 4, 4095, 4, 1, 0, 0, 0, 32, 15]), by decide +kernel, by decide +kernel, by decide +kernel⟩,
   ⟨(mbx 0x11 4 [16]), by decide +kernel, by decide +kernel⟩,
   ⟨(mbx 0x20 8 [0x2FFFFFF, 1]), by decide +kernel, by decide +kernel, by decide +kernel, by decide +kernel, by decide +kernel⟩,
   ⟨(mbx 0x30 8 [4, 3]), by decide +kernel, by decide +kernel, by decide +kernel, by decide +kernel⟩,
   ⟨(mbx 0x40 4 [0]), by decide +kernel, by decide +kernel, by decide +kernel⟩,
   ⟨(mbx 0x40 16 [1, 900000000, 1800000000, 0xFFFFFFFF]), by decide +kernel, by decide +kernel, by decide +kernel, by decide +kernel,
     by decide +kernel, by decide +kernel⟩,
   ⟨(mbx 0x40 8 [1, 2]), by decide +kernel, by decide +kernel⟩,
   ⟨(mbx 0x50 8 [0x1000, 4096]), by decide +kernel, by decide +kernel, by decide +kernel, by decide +kernel⟩,
   ⟨({ st [(F.SUP_STATUS.READY, 1)] with sys := { answer := some [1, 2] } }), ([1, 2]), by decide +kernel, by decide +kernel, by decide +kernel,
     by decide +kernel⟩,
   ⟨(mbx 0x77 0 []), by decide +kernel, by decide +kernel, by decide +kernel, by decide +kernel, by decide +kernel⟩⟩

theorem witness_WatchdogAndFatalErrors :
    (∃ (s : State) (req : Requester), s.Serves req 0x1400008 ∧ 100 ≤ s.get F.SUP_WDOG.PERIOD ∧ s.get F.SUP_WDOG.PERIOD ≤ 60000 ∧ req.isSup = true) ∧
    (∃ (s : State) (req : Requester), s.Serves req 0x1400008 ∧ 100 ≤ s.get F.SUP_WDOG.PERIOD ∧ s.get F.SUP_WDOG.PERIOD ≤ 60000 ∧ req.isSup = false ∧
      s.bit F.XBR_AERR.AERR = false) ∧
    (∃ (s : State), s.supply.on = true ∧ s.supRuns = true ∧ s.pair.warmWait = false ∧ s.stage = 6 ∧ s.bit F.BOOT_STATUS.STABLE = true ∧
      s.sys.wdogAt ≤ s.raw) ∧
    (∃ (s : State), s.supply.on = true ∧ s.supRuns = true ∧ s.pair.warmWait = false ∧ s.stage = 6 ∧ s.bit F.BOOT_STATUS.STABLE = true) ∧
    (∃ (s : State), s.supply.on = true ∧ s.supRuns = true ∧ s.pair.warmWait = false ∧ s.stage = 5) ∧
    (∃ (s : State), s.supply.on = true ∧ s.supRuns = true ∧ s.pair.warmWait = false ∧ s.raw < s.sys.wdogAt) :=
  ⟨⟨(st [(F.SUP_WDOG.PERIOD, 60000)]), (.sup0), serves (by decide +kernel), by decide +kernel, by decide +kernel, by decide +kernel⟩,
   ⟨(st [(F.SUP_WDOG.PERIOD, 100)]), (.host), serves (by decide +kernel), by decide +kernel, by decide +kernel, by decide +kernel, by decide +kernel⟩,
   ⟨(supUp [(F.BOOT_STATUS.STABLE, 1)]), by decide +kernel, by decide +kernel, by decide +kernel, by decide +kernel, by decide +kernel,
     by decide +kernel⟩,
   ⟨(supUp [(F.BOOT_STATUS.STABLE, 1)]), by decide +kernel, by decide +kernel, by decide +kernel, by decide +kernel, by decide +kernel⟩,
   ⟨(supUp [(F.BOOT_STATUS.STAGE, 5)]), by decide +kernel, by decide +kernel, by decide +kernel, by decide +kernel⟩,
   ⟨({ supUp [] with sys := { wdogAt := 1 } }), by decide +kernel, by decide +kernel, by decide +kernel, by decide +kernel⟩⟩

theorem witness_LocksAndAtomics :
    (∃ (s : State) (m : Nat) (addr : Nat) (n : Nat) (k : Nat), m < 12 ∧ s.supply.on = true ∧ s.aborted m = false ∧ bankOf addr = some k ∧
      s.lockOn k = none ∧ s.sramReady k = true ∧ s.sys.waits = [] ∧ s.badWord addr n = false) ∧
    (∃ (s : State) (m : Nat) (addr : Nat) (k : Nat) (g : Nat), m < 12 ∧ s.supply.on = true ∧ s.aborted m = false ∧ bankOf addr = some k ∧
      s.lockOn k = some (m, g) ∧ s.sys.waits = [] ∧ s.raw ≤ g + 40) ∧
    (∃ (s : State) (m : Nat) (addr : Nat) (k : Nat) (g : Nat), m < 12 ∧ s.supply.on = true ∧ s.aborted m = false ∧ bankOf addr = some k ∧
      s.lockOn k = some (m, g) ∧ s.sys.waits = [] ∧ g + 40 < s.raw) ∧
    (∃ (s : State) (m : Nat) (addr : Nat) (k : Nat) (g : Nat), m < 12 ∧ s.supply.on = true ∧ s.aborted m = false ∧ bankOf addr = some k ∧
      s.lockOn k = some (m, g) ∧ s.sys.waits = [] ∧ g + 40 ≤ s.raw) ∧
    (∃ (s : State) (m : Nat), m < 12 ∧ s.sys.waits = []) ∧
    (∃ (s : State) (n : Nat) (addr : Nat) (k : Nat), (n = 4 ∨ n = 8) ∧ s.supply.on = true ∧ s.aborted 4 = false ∧ bankOf addr = some k ∧
      s.bankOpen addr = true ∧ s.lockOn k = none ∧ s.sramReady k = true ∧ s.sys.waits = [] ∧ s.badWord addr n = false) ∧
    (∃ (s : State) (n : Nat) (addr : Nat) (k : Nat), (n = 4 ∨ n = 8) ∧ s.supply.on = true ∧ s.aborted 4 = false ∧ bankOf addr = some k ∧
      s.bankOpen addr = true ∧ s.lockOn k = none ∧ s.sramReady k = true ∧ s.sys.waits = [] ∧ s.badWord addr n = false) ∧
    (∃ (space : Space) (n : Nat), (space ≠ .bar2 ∨ (n ≠ 4 ∧ n ≠ 8))) :=
  ⟨⟨(B), 11, (0x2FFFFF8), 8, 5, by decide +kernel, by decide +kernel, by decide +kernel, by decide +kernel, by decide +kernel, by decide +kernel,
     by decide +kernel, by decide +kernel⟩,
   ⟨({ late 40 B with sys := { locks := [(5, (11, 0))] } }), 11, (0x2FFFFF8), 5, 0, by decide +kernel, by decide +kernel, by decide +kernel,
     by decide +kernel, by decide +kernel, by decide +kernel, by decide +kernel⟩,
   ⟨({ late 41 B with sys := { locks := [(5, (11, 0))] } }), 11, (0x2FFFFF8), 5, 0, by decide +kernel, by decide +kernel, by decide +kernel,
     by decide +kernel, by decide +kernel, by decide +kernel, by decide +kernel⟩,
   ⟨({ late 40 B with sys := { locks := [(5, (11, 0))] } }), 11, (0x2FFFFF8), 5, 0, by decide +kernel, by decide +kernel, by decide +kernel,
     by decide +kernel, by decide +kernel, by decide +kernel, by decide +kernel⟩,
   ⟨({ late 40 B with sys := { locks := [(5, (11, 0))] } }), 11, by decide +kernel, by decide +kernel⟩,
   ⟨(st [(F.XBR_HWIN.BANKS, 1)]), 8, (0x10), 0, by decide +kernel, by decide +kernel, by decide +kernel, by decide +kernel, by decide +kernel,
     by decide +kernel, by decide +kernel, by decide +kernel, by decide +kernel⟩,
   ⟨(st [(F.XBR_HWIN.BANKS, 1)]), 4, (0x10), 0, by decide +kernel, by decide +kernel, by decide +kernel, by decide +kernel, by decide +kernel,
     by decide +kernel, by decide +kernel, by decide +kernel, by decide +kernel⟩,
   ⟨(.bar2), 2, by decide +kernel⟩⟩

theorem witness_ScrubWindowAndLink :
    (∃ (s : State) (addr : Nat), s.get (F.PWR_DOM_STAT.STATE 5) = 0 ∧ addr < 0x3000000) ∧
    (∃ (s : State) (addr : Nat), s.get (F.PWR_DOM_STAT.STATE 5) = 0 ∧ addr < 0x3000000) ∧
    (∃ (s : State) (req : Requester), s.Serves req 0x100001C ∧ req.isSup = true) ∧
    (∃ (s : State) (req : Requester), s.Serves req 0x100001C ∧ req.isSup = false ∧ s.bit F.XBR_AERR.AERR = false) ∧
    (∃ (speed : Nat) (width : Nat), 1 ≤ speed ∧ speed ≤ 4 ∧ (width = 1 ∨ width = 2 ∨ width = 4)) :=
  ⟨⟨(B), (0x2FFFFFF), by decide +kernel, by decide +kernel⟩,
   ⟨(B), (0x2FFFFFF), by decide +kernel, by decide +kernel⟩,
   ⟨(B), (.sup3), serves (by decide +kernel), by decide +kernel⟩,
   ⟨(B), (.host), serves (by decide +kernel), by decide +kernel, by decide +kernel⟩,
   ⟨4, 2, by decide +kernel, by decide +kernel, by decide +kernel⟩⟩

theorem witness_SleepRequests :
    (∃ (s : State) (req : Requester) (d : Nat) (v : Nat), s.Reaches req (0x300100 + 0x20 * d) ∧ 1 ≤ d ∧ d < 13 ∧ d ≠ 5 ∧ d ≠ 11 ∧ v < 4 ∧
      s.pwr.length = 13 ∧ s.bit (F.PWR_DOM_STAT.ENTERING d) = false ∧ s.asleep d = false) ∧
    (∃ (s : State) (req : Requester) (d : Nat) (v : Nat), s.Reaches req (0x300100 + 0x20 * d) ∧ 1 ≤ d ∧ d < 13 ∧ d ≠ 5 ∧ d ≠ 11 ∧ v < 4 ∧
      s.pwr.length = 13 ∧ s.bit (F.PWR_DOM_STAT.ENTERING d) = false ∧ s.asleep d = true ∧ (s.dm d).wakeStart = none ∧
      v ≠ s.get (F.PWR_DOM_STAT.STATE d)) ∧
    (∃ (s : State) (req : Requester), s.Reaches req 0x300100 ∧ s.bit F.XBR_AERR.AERR = false) ∧
    (∃ (s : State) (req : Requester), s.Reaches req 0x3001A0 ∧ req.isSup = false ∧ s.bit F.XBR_AERR.AERR = false) ∧
    (∃ (s : State) (d : Nat), d < 13 ∧ s.pwr.length = 13 ∧ s.bit (F.PWR_DOM_STAT.WAITING d) = true ∧ s.mayEnter d = true) ∧
    (∃ (s : State) (d : Nat), d < 13 ∧ s.pwr.length = 13 ∧ s.bit (F.PWR_DOM_STAT.WAITING d) = true ∧ s.mayEnter d = false) ∧
    (∃ (s : State) (d : Nat), d < 13 ∧ s.pwr.length = 13 ∧ s.bit (F.PWR_DOM_STAT.WAITING d) = true ∧ (s.dm d).waitSince + 6250000 ≤ s.raw) ∧
    (∃ (s : State), s.pwr.length = 13 ∧ s.get (F.PWR_DOM_STAT.STATE 11) = 0 ∧ s.bit (F.PWR_DOM_STAT.ENTERING 11) = false) :=
  ⟨⟨(B), (.host), 12, 1, reaches (by decide +kernel), by decide +kernel, by decide +kernel, by decide +kernel, by decide +kernel, by decide +kernel,
     by decide +kernel, by decide +kernel, by decide +kernel⟩,
   ⟨(st [(F.PWR_DOM_STAT.STATE 12, 1), (F.PWR_DOM_CTRL.REQ 12, 1)]), (.host), 12, 0, reaches (by decide +kernel), by decide +kernel,
     by decide +kernel, by decide +kernel, by decide +kernel, by decide +kernel, by decide +kernel, by decide +kernel, by decide +kernel,
     by decide +kernel, by decide +kernel⟩,
   ⟨(B), (.host), reaches (by decide +kernel), by decide +kernel⟩,
   ⟨(B), (.host), reaches (by decide +kernel), by decide +kernel, by decide +kernel⟩,
   ⟨(st [(F.PWR_DOM_STAT.WAITING 12, 1), (F.PWR_DOM_CTRL.REQ 12, 2)]), 12, by decide +kernel, by decide +kernel, by decide +kernel, by decide +kernel⟩,
   ⟨(st [(F.PWR_DOM_STAT.WAITING 1, 1)]), 1, by decide +kernel, by decide +kernel, by decide +kernel, by decide +kernel⟩,
   ⟨(late 6250000 (st [(F.PWR_DOM_STAT.WAITING 3, 1), (F.PWR_DOM_CTRL.REQ 3, 2)])), 3, by decide +kernel, by decide +kernel, by decide +kernel,
     by decide +kernel⟩,
   ⟨(B), by decide +kernel, by decide +kernel, by decide +kernel⟩⟩

theorem witness_EntryWakeAndLevels :
    (∃ (s : State) (d : Nat), d < 13 ∧ s.pwr.length = 13 ∧ s.bit (F.PWR_DOM_STAT.ENTERING d) = true ∧ (s.dm d).wakePending = none ∧
      (s.dm d).target = 1) ∧
    (∃ (s : State) (d : Nat), d < 13 ∧ s.pwr.length = 13 ∧ s.bit (F.PWR_DOM_STAT.ENTERING d) = true ∧ (s.dm d).wakePending = none ∧
      (s.dm d).target = 2) ∧
    (∃ (s : State) (d : Nat) (src : Nat) (master : Nat), 1 ≤ d ∧ d < 13 ∧ 1 ≤ src ∧ src ≤ 7 ∧ master < 12 ∧ s.pwr.length = 13 ∧
      s.bit (F.PWR_DOM_STAT.ENTERING d) = false ∧ s.asleep d = true ∧ (s.dm d).wakeStart = none) ∧
    (∃ (s : State) (d : Nat) (t0 : Nat), d < 13 ∧ s.pwr.length = 13 ∧ (s.dm d).wakeStart = some t0 ∧ (s.dm d).heldPlvl = none ∧
      (s.dm d).stalled = [] ∧ s.get (F.PWR_DOM_CTRL.REQ d) = 0) ∧
    (∃ (s : State) (d : Nat) (bank : Nat), d < 13 ∧ d ≠ 5 ∧ s.pwr.length = 13 ∧ bank ∈ (s.dm d).checking ∧ (s.dm d).stalled = []) ∧
    (∃ (s : State) (d : Nat) (bank : Nat), 1 ≤ d ∧ d ≤ 4 ∧ bank < 4 ∧ s.pwr.length = 13 ∧ bank ∈ (s.dm d).checking ∧ (s.dm d).stalled = []) ∧
    (∃ (s : State) (req : Requester) (d : Nat) (level : Nat), s.Reaches req (0x300100 + 0x20 * d) ∧ 1 ≤ d ∧ d ≤ 4 ∧ level < 4 ∧ s.pwr.length = 13 ∧
      s.bit (F.PWR_DOM_STAT.PLCHG d) = false ∧ s.asleep d = false ∧ s.bit (F.PWR_DOM_STAT.ENTERING d) = false ∧ level ≠ s.get (F.PWR_DOM_STAT.PLVL d)) ∧
    (∃ (s : State) (d : Nat), 1 ≤ d ∧ d ≤ 4 ∧ s.pwr.length = 13 ∧ s.bit (F.PWR_DOM_STAT.PLCHG d) = true ∧ (s.dm d).heldPlvl = none ∧
      (s.dm d).toLevel < 4) :=
  ⟨⟨(withDom (st [(F.PWR_DOM_STAT.ENTERING 12, 1)]) 12 { target := 1 }), 12, by decide +kernel, by decide +kernel, by decide +kernel,
     by decide +kernel, by decide +kernel⟩,
   ⟨(withDom (st [(F.PWR_DOM_STAT.ENTERING 1, 1)]) 1 { target := 2 }), 1, by decide +kernel, by decide +kernel, by decide +kernel, by decide +kernel,
     by decide +kernel⟩,
   ⟨(st [(F.PWR_DOM_STAT.STATE 1, 2)]), 1, 3, 11, by decide +kernel, by decide +kernel, by decide +kernel, by decide +kernel, by decide +kernel,
     by decide +kernel, by decide +kernel, by decide +kernel, by decide +kernel⟩,
   ⟨(withDom (st [(F.PWR_DOM_STAT.STATE 1, 2)]) 1 { wakeStart := some 5 }), 1, 5, by decide +kernel, by decide +kernel, by decide +kernel,
     by decide +kernel, by decide +kernel, by decide +kernel⟩,
   ⟨(withDom (st [(F.PWR_DOM_STAT.CHECK 1, 1)]) 1 { checking := [6, 7] }), 1, 7, by decide +kernel, by decide +kernel, by decide +kernel,
     by decide +kernel, by decide +kernel⟩,
   ⟨(withDom (st [(F.PWR_DOM_STAT.CHECK 4, 1), (F.PKE_ENG.RUN 15, 1)]) 4 { checking := [3] }), 4, 3, by decide +kernel, by decide +kernel,
     by decide +kernel, by decide +kernel, by decide +kernel, by decide +kernel⟩,
   ⟨(B), (.host), 4, 2, reaches (by decide +kernel), by decide +kernel, by decide +kernel, by decide +kernel, by decide +kernel, by decide +kernel,
     by decide +kernel, by decide +kernel, by decide +kernel⟩,
   ⟨(withDom (st [(F.PWR_DOM_STAT.PLCHG 4, 1)]) 4 { toLevel := 3 }), 4, by decide +kernel, by decide +kernel, by decide +kernel, by decide +kernel,
     by decide +kernel, by decide +kernel⟩⟩

theorem witness_PerformanceMonitoring :
    (∃ (s : State) (set : PmuSet) (j : Nat) (n : Nat), pmuExists set j = true ∧ s.pmuRuns set j = true ∧ s.bit (pmuChain set j) = false ∧
      s.get (pmuEvt set j) ≠ 0 ∧ pmuOwn set (s.get (pmuEvt set j)) = false ∧ n < 2 ^ 32 ∧ s.get (pmuCnt set j) + n < 2 ^ 32) ∧
    (∃ (s : State) (set : PmuSet) (j : Nat) (n : Nat), pmuExists set j = true ∧ s.pmuRuns set j = true ∧ s.bit (pmuChain set j) = false ∧
      s.get (pmuEvt set j) ≠ 0 ∧ pmuOwn set (s.get (pmuEvt set j)) = false ∧ n < 2 ^ 32 ∧ 2 ^ 32 ≤ s.get (pmuCnt set j) + n ∧
      s.pmuChained set j = false ∧ set = .cluster ∧ s.bit F.PMU_CTRL.FRZOVF = false) ∧
    (∃ (s : State) (req : Requester) (k : Nat) (j : Nat) (data : Nat), k < 16 ∧ j < 8 ∧ s.Serves req (0x1200100 + 0x40 * k + 4 * j) ∧
      req.isUser = false ∧ (j ≠ 0 ∨ data.testBit 7 = false)) ∧
    (∃ (s : State) (req : Requester) (k : Nat) (j : Nat), k < 16 ∧ j < 8 ∧ s.Serves req (0x1200120 + 0x40 * k + 4 * j) ∧ req.isUser = false) ∧
    (∃ (s : State) (req : Requester) (k : Nat) (j : Nat), k < 16 ∧ j < 8 ∧ s.Serves req (0x1200120 + 0x40 * k + 4 * j) ∧ req.isUser = true ∧
      s.bit F.XBR_AERR.AERR = false) ∧
    (∃ (s : State) (req : Requester), s.Serves req 0x1200000 ∧ req.isUser = false ∧ s.get F.PMU_CTRL.USER_EN ≤ 1 ∧ s.get F.PMU_CTRL.FREEZE ≤ 1 ∧
      s.get F.PMU_CTRL.FRZOVF ≤ 1) ∧
    (∃ (s : State) (req : Requester), s.Serves req 0x1200000 ∧ req.isUser = false ∧ s.get F.PMU_CTRL.USER_EN ≤ 1 ∧ s.get F.PMU_CTRL.FREEZE ≤ 1 ∧
      s.get F.PMU_CTRL.FRZOVF ≤ 1) ∧
    (∃ (s : State) (k : Nat), k < 16 ∧ s.bit F.PMU_PS_CTRL.EN = true ∧ (s.get F.PMU_PS_ENG.MASK).testBit k = true ∧ k ∉ s.pmu.tags) ∧
    (∃ (s : State) (k : Nat), k < 16 ∧ s.bit F.PMU_PS_CTRL.EN = true ∧ (s.get F.PMU_PS_ENG.MASK).testBit k = true ∧ k ∈ s.pmu.tags) ∧
    (∃ (s : State) (k : Nat), k < 16 ∧ k ∈ s.pmu.tags ∧ s.pmu.ring.length < 4096) ∧
    (∃ (s : State) (req : Requester) (value : Nat), let n := (value % 8192 + 8192 - s.get F.PMU_SR_CONS.CONS) % 8192; s.Serves req 0x1200918 ∧
      req.isUser = false ∧ n ≤ s.pmu.ring.length) :=
  ⟨⟨(st [(F.PMU_ECTL.EVT 15 7, 2), (F.PMU_ECTL.EN 15 7, 1)]), (.engine 15), 7, 5, by decide +kernel, by decide +kernel, by decide +kernel,
     by decide +kernel, by decide +kernel, by decide +kernel, by decide +kernel⟩,
   ⟨(st [(F.PMU_CCTL.EVT 15, 1), (F.PMU_CCTL.EN 15, 1), (F.PMU_CCNT.COUNT 15, 0xFFFFFFFF)]), (.cluster), 15, 5, by decide +kernel, by decide +kernel,
     by decide +kernel, by decide +kernel, by decide +kernel, by decide +kernel, by decide +kernel, by decide +kernel, by decide +kernel,
     by decide +kernel⟩,
   ⟨(B), (.host), 15, 7, (0xFF), by decide +kernel, by decide +kernel, serves (by decide +kernel), by decide +kernel, by decide +kernel⟩,
   ⟨(B), (.host), 15, 7, by decide +kernel, by decide +kernel, serves (by decide +kernel), by decide +kernel⟩,
   ⟨(B), (.user0), 15, 7, by decide +kernel, by decide +kernel, serves (by decide +kernel), by decide +kernel, by decide +kernel⟩,
   ⟨(B), (.host), serves (by decide +kernel), by decide +kernel, by decide +kernel, by decide +kernel, by decide +kernel⟩,
   ⟨(B), (.host), serves (by decide +kernel), by decide +kernel, by decide +kernel, by decide +kernel, by decide +kernel⟩,
   ⟨(st [(F.PMU_PS_CTRL.EN, 1), (F.PMU_PS_ENG.MASK, 0x8000)]), 15, by decide +kernel, by decide +kernel, by decide +kernel, by decide +kernel⟩,
   ⟨({ st [(F.PMU_PS_CTRL.EN, 1), (F.PMU_PS_ENG.MASK, 0x8000)] with pmu := { tags := [15] } }), 15, by decide +kernel, by decide +kernel,
     by decide +kernel, by decide +kernel⟩,
   ⟨({ st [] with pmu := { tags := [15] } }), 15, by decide +kernel, by decide +kernel, by decide +kernel⟩,
   ⟨({ st [] with pmu := { ring := [[1], [2]] } }), (.host), 1, serves (by decide +kernel), by decide +kernel, by decide +kernel⟩⟩

theorem witness_FrontPanel :
    (∃ (s : State) (low : Nat) (k : Nat), s.supply.on = true ∧ k < 8 ∧ s.get F.PNL_KCFG.DEB ≤ (s.pnl.keys.getD k {}).run + 1 ∧ low.testBit k = true ∧
      (s.get F.PNL_KSTAT.KDOWN).testBit k = false) ∧
    (∃ (s : State) (low : Nat) (k : Nat), s.supply.on = true ∧ k < 8 ∧ s.get F.PNL_KCFG.DEB ≤ (s.pnl.keys.getD k {}).run + 1 ∧ low.testBit k = false ∧
      (s.get F.PNL_KSTAT.KDOWN).testBit k = true) ∧
    (∃ (s : State) (k : Nat), k < 8 ∧ (s.get F.PNL_KSTAT.KDOWN).testBit k = true ∧ (s.pnl.keys.getD k {}).held = false ∧
      (s.pnl.keys.getD k {}).downAt + s.holdTicks ≤ s.raw ∧ s.kact k ≠ 2) ∧
    (∃ (s : State) (k : Nat), k < 8 ∧ (s.get F.PNL_KSTAT.KDOWN).testBit k = true ∧ (s.pnl.keys.getD k {}).held = false ∧
      (s.pnl.keys.getD k {}).downAt + s.holdTicks ≤ s.raw ∧ s.kact k = 2 ∧ s.role = 1 ∧ s.pairState = 5 ∧ s.bit F.PAIR_CTRL.SWAP = false ∧
      s.pair.swap = none) ∧
    (∃ (s : State) (caps : List Nat) (k : Nat) (c : Nat) (b : Rat), s.supply.on = true ∧ k < 4 ∧ s.pnl.touch.length = 4 ∧ caps[k]? = some c ∧
      500 ≤ c ∧ c ≤ 5000 ∧ (s.pnl.touch.getD k {}).base = some b ∧ (s.get F.PNL_KSTAT.TDOWN).testBit k = false ∧
      (s.get F.PNL_TCFG.TTHR : Rat) ≤ (c : Rat) - b) ∧
    (∃ (s : State) (caps : List Nat) (k : Nat) (c : Nat) (b : Rat), s.supply.on = true ∧ k < 4 ∧ s.pnl.touch.length = 4 ∧ caps[k]? = some c ∧
      500 ≤ c ∧ c ≤ 5000 ∧ (s.pnl.touch.getD k {}).base = some b ∧ (s.get F.PNL_KSTAT.TDOWN).testBit k = false ∧
      (c : Rat) - b < (s.get F.PNL_TCFG.TTHR : Rat)) ∧
    (∃ (s : State) (k : Nat), k < 4 ∧ s.pnl.touch.length = 4 ∧ (s.get F.PNL_KSTAT.TDOWN).testBit k = true ∧
      (s.pnl.touch.getD k {}).downAt + 37500000000 ≤ s.raw) ∧
    (∃ (s : State), s.supply.on = true) ∧
    (∃ (s : State) (n : Nat), n < 16 ∧ s.bit (F.PNL_LED.LIT n) = true) ∧
    (∃ (s : State), s.supply.on = true ∧ s.pnl.zDone = false ∧ s.get F.PNL_ZCFG.ZHOLD * 100 ≤ s.pnl.zBoth ∧ 0 < s.pnl.zBoth) :=
  ⟨⟨({ B with pnl := { B.pnl with keys := (List.replicate 7 {}) ++ [{ run := 300 }] } }), 128, 7, by decide +kernel, by decide +kernel,
     by decide +kernel, by decide +kernel, by decide +kernel⟩,
   ⟨({ st [(F.PNL_KSTAT.KDOWN, 128)] with pnl := { B.pnl with keys := (List.replicate 7 {}) ++ [{ run := 300 }] } }), 0, 7, by decide +kernel,
     by decide +kernel, by decide +kernel, by decide +kernel, by decide +kernel⟩,
   ⟨(late 9999999999999 (st [(F.PNL_KSTAT.KDOWN, 128)])), 7, by decide +kernel, by decide +kernel, by decide +kernel, by decide +kernel,
     by decide +kernel⟩,
   ⟨(late 9999999999999 (linked [(F.PNL_KSTAT.KDOWN, 1), (F.PNL_KACT.ACT, 2), (F.PAIR_STAT.ROLE, 1), (F.PAIR_STAT.STATE, 5)])), 0, by decide +kernel,
     by decide +kernel, by decide +kernel, by decide +kernel, by decide +kernel, by decide +kernel, by decide +kernel, by decide +kernel,
     by decide +kernel⟩,
   ⟨({ B with pnl := { B.pnl with touch := [{}, {}, {}, { base := some 600 }] } }), ([600, 600, 600, 5000]), 3, 5000, (600), by decide +kernel,
     by decide +kernel, by decide +kernel, by decide +kernel, by decide +kernel, by decide +kernel, by decide +kernel, by decide +kernel,
     by decide +kernel⟩,
   ⟨({ B with pnl := { B.pnl with touch := [{}, {}, {}, { base := some 600 }] } }), ([600, 600, 600, 601]), 3, 601, (600), by decide +kernel,
     by decide +kernel, by decide +kernel, by decide +kernel, by decide +kernel, by decide +kernel, by decide +kernel, by decide +kernel,
     by decide +kernel⟩,
   ⟨(late 37500000000 (st [(F.PNL_KSTAT.TDOWN, 8), (F.PNL_TCAP.C 3, 700)])), 3, by decide +kernel, by decide +kernel, by decide +kernel,
     by decide +kernel⟩,
   ⟨(B), by decide +kernel⟩,
   ⟨(st [(F.PNL_LED.LIT 15, 1)]), 15, by decide +kernel, by decide +kernel⟩,
   ⟨({ st [(F.PNL_ZCFG.ZHOLD, 1)] with pnl := { B.pnl with zBoth := 100 } }), by decide +kernel, by decide +kernel, by decide +kernel,
     by decide +kernel⟩⟩

theorem witness_OneZeroiseBallAlone :
    (∃ (s : State), s.supply.on = true) ∧
    (∃ (s : State), s.pnl.zFaulted = false ∧ 1000 ≤ s.pnl.zOne) ∧
    (∃ (s : State), s.pnl.zOne < 1000) :=
  ⟨⟨(B), by decide +kernel⟩,
   ⟨({ B with pnl := { B.pnl with zOne := 1000 } }), by decide +kernel, by decide +kernel⟩,
   ⟨({ B with pnl := { B.pnl with zOne := 999 } }), by decide +kernel⟩⟩

theorem witness_SoftwareEvents :
    (∃ (s : State) (req : Requester), s.Reaches req 0x1100000) ∧
    (∃ (s : State) (req : Requester) (k : Nat), k < 24 ∧ s.Reaches req 0x1100000 ∧ s.evEnabled 0 (swEvent k) = true ∧
      (s.get (F.EVT_QSTAT.PROD 0) + 256 - s.get (F.EVT_QCONS.CONS 0)) % 256 < 32 ∧ s.evt.q0.length = 32) ∧
    (∃ (s : State) (req : Requester) (k : Nat), k < 24 ∧ s.Reaches req 0x1100000 ∧ s.evEnabled 1 (swEvent k) = true ∧
      (s.get (F.EVT_QSTAT.PROD 1) + 256 - s.get (F.EVT_QCONS.CONS 1)) % 256 < 32 ∧ s.evt.q1.length = 32) ∧
    (∃ (engine : Nat) (k : Nat), engine < 16 ∧ k < 16) ∧
    (∃ (s : State) (engine : Nat) (k : Nat), engine < 16 ∧ k < 16 ∧ s.evEnabled 0 (48 + k) = true ∧
      (s.get (F.EVT_QSTAT.PROD 0) + 256 - s.get (F.EVT_QCONS.CONS 0)) % 256 < 32 ∧ s.evt.q0.length = 32) ∧
    (∃ (s : State) (engine : Nat) (k : Nat), engine < 16 ∧ k < 16 ∧ s.evEnabled 1 (48 + k) = true ∧
      (s.get (F.EVT_QSTAT.PROD 1) + 256 - s.get (F.EVT_QCONS.CONS 1)) % 256 < 32 ∧ s.evt.q1.length = 32) :=
  ⟨⟨(B), (.host), reaches (by decide +kernel)⟩,
   ⟨(st [(F.EVT_EN.EN 0 ((swEvent 23) / 32), 2 ^ ((swEvent 23) % 32))]), (.host), 23, by decide +kernel, reaches (by decide +kernel),
     by decide +kernel, by decide +kernel, by decide +kernel⟩,
   ⟨(st [(F.EVT_EN.EN 1 ((swEvent 23) / 32), 2 ^ ((swEvent 23) % 32))]), (.host), 23, by decide +kernel, reaches (by decide +kernel),
     by decide +kernel, by decide +kernel, by decide +kernel⟩,
   ⟨15, 15, by decide +kernel, by decide +kernel⟩,
   ⟨(st [(F.EVT_EN.EN 0 1, 2 ^ 31)]), 15, 15, by decide +kernel, by decide +kernel, by decide +kernel, by decide +kernel, by decide +kernel⟩,
   ⟨(st [(F.EVT_EN.EN 1 1, 2 ^ 31)]), 15, 15, by decide +kernel, by decide +kernel, by decide +kernel, by decide +kernel, by decide +kernel⟩⟩

theorem witness_TimersQueuesAndEnables :
    (∃ (s : State) (engine : Nat) (k : Nat), engine < 16 ∧ k < 16 ∧ s.evEnabled 0 (48 + k) = true ∧
      32 ≤ (s.get (F.EVT_QSTAT.PROD 0) + 256 - s.get (F.EVT_QCONS.CONS 0)) % 256) ∧
    (∃ (s : State) (req : Requester) (n : Nat) (sec : Nat) (ns : Nat) (per : Nat) (d : Nat), n < 5 ∧ s.Reaches req (0x1100048 + 0x10 * n) ∧
      ns < 1000000000 ∧ sec < 2 ^ 48 ∧ per < 2 ^ 32 ∧ s.evt.targets.length = 5 ∧ s.dnow = some d ∧ d < (sec * 1000000000 + ns) * 65536) ∧
    (∃ (s : State) (req : Requester) (n : Nat) (sec : Nat) (ns : Nat) (per : Nat) (d : Nat), n < 5 ∧ s.Reaches req (0x1100048 + 0x10 * n) ∧
      ns < 1000000000 ∧ sec < 2 ^ 48 ∧ per < 2 ^ 32 ∧ s.evt.targets.length = 5 ∧ s.dnow = some d ∧ (sec * 1000000000 + ns) * 65536 ≤ d ∧ per = 0) ∧
    (∃ (s : State) (req : Requester) (n : Nat) (ns : Nat), n < 5 ∧ s.Reaches req (0x1100048 + 0x10 * n) ∧ 1000000000 ≤ ns ∧
      s.bit F.XBR_AERR.AERR = false) ∧
    (∃ (s : State) (n : Nat) (d : Nat), n < 5 ∧ s.dnow = some d ∧ s.bit (F.EVT_TMR_NS.EN n) = true ∧ s.evt.targets.length = 5 ∧
      s.evt.targets.getD n 0 * 65536 ≤ d) ∧
    (∃ (s : State) (n : Nat) (d : Nat), n < 5 ∧ s.dnow = some d ∧ s.bit (F.EVT_TMR_NS.EN n) = true ∧ s.evt.targets.length = 5 ∧
      d < s.evt.targets.getD n 0 * 65536) ∧
    (∃ (s : State) (req : Requester) (side : Nat) (v : Nat), let room := (s.get (F.EVT_QSTAT.PROD side) + 256 - s.get (F.EVT_QCONS.CONS side)) % 256;
      let move := (v % 256 + 256 - s.get (F.EVT_QCONS.CONS side)) % 256; side < 2 ∧ s.Reaches req (0x1101024 + 0x1000 * side) ∧ move ≤ room) ∧
    (∃ (s : State) (req : Requester) (side : Nat) (v : Nat), let room := (s.get (F.EVT_QSTAT.PROD side) + 256 - s.get (F.EVT_QCONS.CONS side)) % 256;
      let move := (v % 256 + 256 - s.get (F.EVT_QCONS.CONS side)) % 256; side < 2 ∧ s.Reaches req (0x1101024 + 0x1000 * side) ∧ room < move ∧
      s.bit F.XBR_AERR.AERR = false) ∧
    (∃ (s : State) (req : Requester) (side : Nat) (group : Nat) (v : Nat), side < 2 ∧ group < 3 ∧ v < 2 ^ 32 ∧
      s.Reaches req (0x1101010 + 0x1000 * side + 4 * group)) :=
  ⟨⟨(st [(F.EVT_EN.EN 0 1, 2 ^ 31), (F.EVT_QSTAT.PROD 0, 32)]), 15, 15, by decide +kernel, by decide +kernel, by decide +kernel, by decide +kernel⟩,
   by exact let s : State := B; ⟨(B), (.host), 4, 5, 999999999, (0xFFFFFFFF), (s.dnow.getD 0), by decide +kernel, reaches (by decide +kernel),
     by decide +kernel, by decide +kernel, by decide +kernel, by decide +kernel, by decide +kernel, by decide +kernel⟩,
   by exact let s : State := B; ⟨(B), (.host), 4, 0, 0, 0, (s.dnow.getD 0), by decide +kernel, reaches (by decide +kernel), by decide +kernel,
     by decide +kernel, by decide +kernel, by decide +kernel, by decide +kernel, by decide +kernel, by decide +kernel⟩,
   ⟨(B), (.host), 4, 1000000000, by decide +kernel, reaches (by decide +kernel), by decide +kernel, by decide +kernel⟩,
   by exact let s : State := st [(F.EVT_TMR_NS.EN 4, 1)]; ⟨(st [(F.EVT_TMR_NS.EN 4, 1)]), 4, (s.dnow.getD 0), by decide +kernel, by decide +kernel,
     by decide +kernel, by decide +kernel, by decide +kernel⟩,
   by exact let s : State := { st [(F.EVT_TMR_NS.EN 4, 1)] with evt := { targets := [0,0,0,0,1] } };
     ⟨({ st [(F.EVT_TMR_NS.EN 4, 1)] with evt := { targets := [0,0,0,0,1] } }), 4, (s.dnow.getD 0), by decide +kernel, by decide +kernel,
     by decide +kernel, by decide +kernel, by decide +kernel⟩,
   ⟨(st [(F.EVT_QSTAT.PROD 1, 5)]), (.host), 1, 5, by decide +kernel, reaches (by decide +kernel), by decide +kernel⟩,
   ⟨(st [(F.EVT_QSTAT.PROD 1, 5)]), (.host), 1, 6, by decide +kernel, reaches (by decide +kernel), by decide +kernel, by decide +kernel⟩,
   ⟨(B), (.host), 1, 2, (0xFFFFFFFF), by decide +kernel, by decide +kernel, by decide +kernel, reaches (by decide +kernel)⟩⟩

theorem witness_OffsetsWithoutRegister :
    (∃ (s : State) (req : Requester) (off : Nat), s.Serves req off ∧ off % 4 = 0 ∧ off < 0x4000000 ∧ findReg off = none) ∧
    (∃ (s : State) (req : Requester) (off : Nat), s.Serves req off ∧ off % 4 = 0 ∧ off < 0x4000000 ∧ findReg off = none ∧
      s.bit F.XBR_AERR.AERR = false ∧ s.pair.warmWait = false) :=
  ⟨⟨(B), (.host), (0x3FFFFFC), serves (by decide +kernel), by decide +kernel, by decide +kernel, by decide +kernel⟩,
   ⟨(B), (.host), (0x3FFFFFC), serves (by decide +kernel), by decide +kernel, by decide +kernel, by decide +kernel, by decide +kernel,
     by decide +kernel⟩⟩

theorem witness_RegisterAccesses :
    (∃ (s : State) (req : Requester) (off : Nat) (be : Nat), s.Serves req off ∧ off % 4 = 0 ∧ off < 0x4000000 ∧ req ≠ .jtag ∧ be < 15 ∧
      s.bit F.XBR_AERR.AERR = false ∧ s.pair.warmWait = false) ∧
    (∃ (s : State) (req : Requester), s.pair.warmWait = false ∧ s.rcp.locks = [] ∧ req ≠ .jtag ∧ s.Serves req 0x1C) ∧
    (∃ (s : State) (req : Requester), s.pair.warmWait = false ∧ s.rcp.locks = [] ∧ req ≠ .jtag ∧ s.Serves req 0x1C ∧
      s.get F.GLB_SCRATCH.DATA < 2 ^ 32) ∧
    (∃ (s : State) (req : Requester), s.pair.warmWait = false ∧ s.rcp.locks = [] ∧ req ≠ .jtag ∧ s.Serves req 0x8) ∧
    (∃ (s : State) (req : Requester) (data : Nat), s.pair.warmWait = false ∧ s.rcp.locks = [] ∧ req ≠ .jtag ∧ s.Serves req 0x10000C ∧
      10 ≤ data % 65536 ∧ data % 65536 ≤ 600) ∧
    (∃ (s : State) (req : Requester) (data : Nat), s.pair.warmWait = false ∧ s.rcp.locks = [] ∧ req ≠ .jtag ∧ s.Serves req 0x10000C ∧
      data % 65536 < 10 ∧ s.bit F.XBR_AERR.AERR = false) ∧
    (∃ (s : State) (addr : Nat) (k : Nat), s.supply.on = true ∧ s.aborted 4 = false ∧ bankOf addr = some k ∧ s.bankOpen addr = true ∧ s.stage ≠ 7 ∧
      s.lockOn k = none ∧ s.sramReady k = true ∧ s.sys.waits = [] ∧ s.pair.warmWait = false ∧ addr < 0x4000000 ∧ s.badWord addr 4 = false) ∧
    (∃ (s : State) (addr : Nat) (k : Nat), s.supply.on = true ∧ s.aborted 4 = false ∧ bankOf addr = some k ∧ s.bankOpen addr = true ∧ s.stage ≠ 7 ∧
      s.lockOn k = none ∧ s.sramReady k = true ∧ s.sys.waits = [] ∧ s.pair.warmWait = false ∧ addr < 0x4000000) :=
  ⟨⟨(B), (.host), (0x1C), 7, serves (by decide +kernel), by decide +kernel, by decide +kernel, by decide +kernel, by decide +kernel,
     by decide +kernel, by decide +kernel⟩,
   ⟨(B), (.host), by decide +kernel, by decide +kernel, by decide +kernel, serves (by decide +kernel)⟩,
   ⟨(st [(F.GLB_SCRATCH.DATA, 77)]), (.host), by decide +kernel, by decide +kernel, by decide +kernel, serves (by decide +kernel), by decide +kernel⟩,
   ⟨(st [(F.GLB_SUPPLY.UVW, 1)]), (.host), by decide +kernel, by decide +kernel, by decide +kernel, serves (by decide +kernel)⟩,
   ⟨(B), (.host), 600, by decide +kernel, by decide +kernel, by decide +kernel, serves (by decide +kernel), by decide +kernel, by decide +kernel⟩,
   ⟨(B), (.host), 9, by decide +kernel, by decide +kernel, by decide +kernel, serves (by decide +kernel), by decide +kernel, by decide +kernel⟩,
   ⟨(st [(F.XBR_HWIN.BANKS, 2)]), (0x800000), 1, by decide +kernel, by decide +kernel, by decide +kernel, by decide +kernel, by decide +kernel,
     by decide +kernel, by decide +kernel, by decide +kernel, by decide +kernel, by decide +kernel, by decide +kernel⟩,
   ⟨(st [(F.XBR_HWIN.BANKS, 2)]), (0x800000), 1, by decide +kernel, by decide +kernel, by decide +kernel, by decide +kernel, by decide +kernel,
     by decide +kernel, by decide +kernel, by decide +kernel, by decide +kernel, by decide +kernel⟩⟩

end Sys2Proof.Tests
end

/-! PROOF. What follows from the frame relations of Safety.lean, and the way of a served register access down to the register it names. -/

namespace Sys2Proof.Machine

/-! What the frame relations keep. -/

theorem EventsOnly.pair {s t : State} (h : EventsOnly s t) : t.pair = s.pair := by rw [h]

theorem RegsOnly.eventsOnly {s t : State} (h : RegsOnly s t) : EventsOnly s t := by
  rw [EventsOnly, h]

theorem EventsOnly.memorySame {s t : State} (h : EventsOnly s t) : MemorySame s t := by
  have hsram : t.sram = s.sram := by rw [h]
  have hflash : t.flash = s.flash := by rw [h]
  exact ⟨fun a => by rw [hsram], fun a => by rw [hflash]⟩

/-! The state in which the fabric serves an access. -/

/-- An access by JTAG shows the test port out of reset. -/
def State.tapShown (s : State) (req : Requester) : State := s.when (req == .jtag) (·.set F.GLB_DBG.TAPACT 1)

/-- The test port is shown where JTAG makes the access, and the requester owns the register fabric. -/
def State.serving (s : State) (req : Requester) : State := (s.tapShown req).set (F.XBR_TSTAT.OWNER 6) req.master

theorem State.tapShown_regsOnly (s : State) (req : Requester) : RegsOnly s (s.tapShown req) := by
  unfold State.tapShown State.when
  split <;> rfl

theorem State.get_tapShown_ne (s : State) (req : Requester) {f : Fld} (h : f.key ≠ F.GLB_DBG.TAPACT.key) :
    (s.tapShown req).get f = s.get f := by
  unfold State.tapShown State.when
  split
  · exact State.get_set_ne s 1 h
  · rfl

theorem State.serving_regsOnly (s : State) (req : Requester) : RegsOnly s (s.serving req) := by
  rw [RegsOnly, State.serving, s.tapShown_regsOnly req]
  rfl

/-- Serving an access writes no field but the fabric's owner and the test port's mark. -/
theorem State.get_serving_ne (s : State) (req : Requester) {f : Fld} (howner : f.key ≠ (F.XBR_TSTAT.OWNER 6).key)
    (htap : f.key ≠ F.GLB_DBG.TAPACT.key) : (s.serving req).get f = s.get f :=
  (State.get_set_ne _ _ howner).trans (s.get_tapShown_ne req htap)

@[simp] theorem State.serving_supply (s : State) (req : Requester) : (s.serving req).supply = s.supply := by
  rw [s.serving_regsOnly req]

@[simp] theorem State.serving_out (s : State) (req : Requester) : (s.serving req).out = s.out := by
  rw [s.serving_regsOnly req]

/-- The test port's mark does not bear on whether an access is served. -/
theorem State.Serves.tapShown {s : State} {req : Requester} {off : Nat} (h : s.Serves req off) : (s.tapShown req).Serves req off := by
  obtain ⟨⟨hon, hab, hfab, hblk⟩, hdom⟩ := h
  have hparts := s.tapShown_regsOnly req
  have hsupply : (s.tapShown req).supply = s.supply := by rw [hparts]
  have hsys : (s.tapShown req).sys = s.sys := by rw [hparts]
  have hdm : (s.tapShown req).dm (domOf off) = s.dm (domOf off) := by rw [hparts]; rfl
  have hstage : (s.tapShown req).stage = s.stage := s.get_tapShown_ne req (by decide)
  have hstate := s.get_tapShown_ne req (f := F.PWR_DOM_STAT.STATE (domOf off))
    (by simp only [Fld.key, F.PWR_DOM_STAT.STATE, F.GLB_DBG.TAPACT]; omega)
  have hent := s.get_tapShown_ne req (f := F.PWR_DOM_STAT.ENTERING (domOf off))
    (by simp only [Fld.key, F.PWR_DOM_STAT.ENTERING, F.GLB_DBG.TAPACT]; omega)
  refine ⟨⟨?_, ?_, hfab, ?_⟩, ?_⟩
  · rw [hsupply, hon]
  · rw [State.aborted, hsys]; exact hab
  · rw [State.blockAnswers, hstage]; exact hblk
  · rw [State.regsReady, State.bit, hstate, hent, hdm]; exact hdom

/-- An access of an awake domain that no thread makes outside the fabric is served at once. -/
theorem State.regAccess_of_serves {s : State} {req : Requester} {off : Nat} (h : s.Serves req off) (hthread : threadRead req off = false)
    (write : Option (Nat × Nat)) :
    s.regAccess req off write = (s.set (F.XBR_TSTAT.OWNER 6) req.master).serveReg req off write := by
  obtain ⟨hreach, hdom⟩ := h
  have ⟨hon, _, _, hblk⟩ := hreach
  have hready := (State.regsReady_owner s (domOf off) req.master (domOf_lt off)).trans hdom
  simp [State.regAccess, hon, hthread, hblk, State.atFabric_of_reaches hreach, hready]

/-- The same for a four-byte access of BAR0 at an aligned offset. -/
theorem State.access_bar0_of_serves {s : State} {req : Requester} {off : Nat} (h : s.Serves req off) (halign : off % 4 = 0)
    (hthread : threadRead req off = false) (write : Option (Nat × Nat)) :
    s.access req .bar0 off write = (s.serving req).serveReg req off write := by
  have hsplit : s.access req .bar0 off write = (s.tapShown req).regAccess req off write := by
    simp only [State.access, State.splitAccess, halign, if_true]
    rfl
  rw [hsplit, State.regAccess_of_serves h.tapShown hthread]
  rfl

theorem State.resumeWarm_of_not_waiting {s : State} (h : s.pair.warmWait = false) : s.resumeWarm = s := by
  simp [State.resumeWarm, h]

theorem execSnapshotRead_of_serves {s : State} {req : Requester} {off : Nat} (h : s.Serves req off) (halign : off % 4 = 0)
    (hbar : off < 0x4000000) (hthread : threadRead req off = false) :
    execSnapshotRead req .bar0 off s = .next ((s.serving req).readReg req off) := by
  simp [execSnapshotRead, accessExists, hbar, State.access_bar0_of_serves h halign hthread, State.serveReg]

theorem execRegisterWrite_of_serves {s : State} {req : Requester} {off : Nat} (h : s.Serves req off) (halign : off % 4 = 0)
    (hbar : off < 0x4000000) (hthread : threadRead req off = false) (data be : Nat) :
    execRegisterWrite req .bar0 off data be s = .next ((s.serving req).writeReg req off (data % 2 ^ 32) (be % 16)).resumeWarm := by
  simp [execRegisterWrite, accessExists, hbar, State.access_bar0_of_serves h halign hthread, State.serveReg]

/-! PROOF. What one occurrence of an event does to its own count and to its pending bits, and what the first access error records. -/

/-! Messages. -/

@[simp] theorem State.get_msix (s : State) (vec : Nat) (f : Fld) : (s.msix vec).get f = s.get f := by
  unfold State.msix
  split
  · rfl
  · split
    · rfl
    · exact State.get_emit s _ f

@[simp] theorem State.get_message (s : State) (side ev : Nat) (f : Fld) : (s.message side ev).get f = s.get f := by
  unfold State.message
  split
  · exact State.get_msix s _ f
  · exact State.get_emit s _ f

/-! The pending bit and the record of one side. -/

/-- Step 2 of R555 as a register write. -/
theorem State.get_pendAndTell (s : State) (side ev : Nat) (f : Fld) :
    (s.pendAndTell side ev).get f =
      (s.set (F.EVT_PEND.PEND side (ev / 32)) (setBitN (s.get (F.EVT_PEND.PEND side (ev / 32))) (ev % 32))).get f := by
  unfold State.pendAndTell
  dsimp only
  split
  · exact State.get_message _ _ _ f
  · rfl

theorem State.get_pendAndTell_ne (s : State) {side ev : Nat} {f : Fld} (h : f.key ≠ (F.EVT_PEND.PEND side (ev / 32)).key) :
    (s.pendAndTell side ev).get f = s.get f := by
  rw [State.get_pendAndTell, State.get_set_ne s _ h]

theorem State.evPending_pendAndTell (s : State) (side ev : Nat) : (s.pendAndTell side ev).evPending side ev = true := by
  have hlt : ev % 32 < 32 := Nat.mod_lt _ (by decide)
  rw [State.evPending, State.get_pendAndTell, State.get_set_self, show (F.EVT_PEND.PEND side (ev / 32)).w = 32 from rfl,
    Nat.testBit_mod_two_pow, setBitN, Nat.testBit_or, Nat.testBit_two_pow_self]
  simp [hlt]

/-- Writing a record, or dropping it, touches only the queue's state and what EV87 counts and pends (R556). -/
theorem State.get_pushRecord_ne (s : State) {side : Nat} (r : EvRec) {f : Fld} (hprod : f.key ≠ (F.EVT_QSTAT.PROD side).key)
    (hlost : f.key ≠ (F.EVT_QSTAT.LOST side).key) (hcount : f.key ≠ (F.EVT_COUNT.COUNT 87).key)
    (hpend : f.key ≠ (F.EVT_PEND.PEND side 2).key) : (s.pushRecord side r).get f = s.get f := by
  have hrecord := State.get_set_ne s (s.get (F.EVT_QSTAT.PROD side) + 1) hprod
  unfold State.pushRecord
  dsimp only
  split
  · rw [State.dropRecord, State.get_pendAndTell_ne _ hpend, State.get_bump_ne _ _ hcount, State.get_bumpSat_ne _ _ hlost]
  · split <;> exact hrecord

/-! One side told. -/

theorem State.get_tellSide_ne (s : State) {side : Nat} (r : EvRec) {f : Fld} (hprod : f.key ≠ (F.EVT_QSTAT.PROD side).key)
    (hlost : f.key ≠ (F.EVT_QSTAT.LOST side).key) (hcount : f.key ≠ (F.EVT_COUNT.COUNT 87).key)
    (hpend : ∀ w < 4, f.key ≠ (F.EVT_PEND.PEND side w).key) (he : r.ev < 128) : (s.tellSide side r).get f = s.get f := by
  unfold State.tellSide
  rw [State.get_pendAndTell_ne _ (hpend _ (by omega))]
  split
  · exact State.get_pushRecord_ne s r hprod hlost hcount (hpend 2 (by decide))
  · rfl

theorem State.evPending_tellSide (s : State) (side : Nat) (r : EvRec) : (s.tellSide side r).evPending side r.ev = true :=
  State.evPending_pendAndTell _ side r.ev

/-- No other count than that of EV87 moves when a side is told. -/
theorem State.get_count_tellSide (s : State) {side ev : Nat} (r : EvRec) (hev : ev < 128) (hne : ev ≠ 87)
    (he : r.ev < 128) : (s.tellSide side r).get (F.EVT_COUNT.COUNT ev) = s.get (F.EVT_COUNT.COUNT ev) := by
  refine State.get_tellSide_ne s r ?_ ?_ ?_ (fun w hw => ?_) he <;>
    simp only [Fld.key, F.EVT_COUNT.COUNT, F.EVT_QSTAT.PROD, F.EVT_QSTAT.LOST, F.EVT_PEND.PEND] <;> omega

/-- Telling side 1 leaves what is pending on side 0. -/
theorem State.evPending_zero_tellSide_one (s : State) {ev : Nat} (r : EvRec) (hev : ev < 128) (he : r.ev < 128) :
    (s.tellSide 1 r).evPending 0 ev = s.evPending 0 ev := by
  unfold State.evPending
  rw [State.get_tellSide_ne s r ?_ ?_ ?_ (fun w hw => ?_) he] <;>
    simp only [Fld.key, F.EVT_COUNT.COUNT, F.EVT_QSTAT.PROD, F.EVT_QSTAT.LOST, F.EVT_PEND.PEND] <;> omega

/-! One occurrence. -/

/-- An occurrence counts once: EV87 alone may count again, for its own lost records. -/
theorem State.get_count_occur (s : State) {ev : Nat} (bit inst detail : Nat) (he : ev < 128) (hne : ev ≠ 87) :
    (s.occur ev bit inst detail).get (F.EVT_COUNT.COUNT ev) = (s.get (F.EVT_COUNT.COUNT ev) + 1) % 2 ^ 32 := by
  unfold State.occur State.occurAt
  rw [State.get_count_tellSide _ _ he hne he, State.get_count_tellSide _ _ he hne he]
  exact State.get_bump_self s (F.EVT_COUNT.COUNT ev) 1

theorem State.evPending_zero_occur (s : State) {ev : Nat} (bit inst detail : Nat) (he : ev < 128) :
    (s.occur ev bit inst detail).evPending 0 ev = true := by
  unfold State.occur State.occurAt
  exact (State.evPending_zero_tellSide_one _ _ he he).trans (State.evPending_tellSide _ 0 _)

theorem State.evPending_one_occur (s : State) (ev bit inst detail : Nat) : (s.occur ev bit inst detail).evPending 1 ev = true :=
  State.evPending_tellSide _ 1 _

/-! The first access error (R497). -/

/-- The record of the first access error. -/
def State.aerrRecorded (s : State) (req : Requester) (cause addr : Nat) : State :=
  s.sets [(F.XBR_AERR.REQ, req.master), (F.XBR_AERR.CAUSE, cause), (F.XBR_AERRADDR.ADDR, addr), (F.XBR_AERR.AERR, 1)]

theorem State.get_aerrRecorded_ne (s : State) (req : Requester) (cause addr : Nat) {f : Fld}
    (hk : ∀ g ∈ [F.XBR_AERR.REQ, F.XBR_AERR.CAUSE, F.XBR_AERRADDR.ADDR, F.XBR_AERR.AERR], f.key ≠ g.key) :
    (s.aerrRecorded req cause addr).get f = s.get f := by
  refine State.get_sets_ne s _ fun p hp => hk p.1 ?_
  simpa using List.mem_map_of_mem (f := Prod.fst) hp

/-- While AERR is 0 an access error is recorded and is an occurrence of EV64. -/
theorem State.accessError_of_clear {s : State} (h : s.bit F.XBR_AERR.AERR = false) (req : Requester) (cause addr : Nat) :
    s.accessError req cause addr =
      (s.aerrRecorded req cause addr).occur 64 16 req.master (addr % 2 ^ 32 + cause * 2 ^ 32) := by
  have hclear : (s.sets [(F.XBR_AERR.REQ, req.master), (F.XBR_AERR.CAUSE, cause), (F.XBR_AERRADDR.ADDR, addr)]).bit F.XBR_AERR.AERR = false := by
    rw [State.bit, State.get_sets_ne s _ (by simp only [List.forall_mem_cons]; decide)]
    exact h
  simp only [State.accessError, h, State.flag, hclear]
  rfl

/-- Outside the event block the first access error writes its record and nothing else. -/
theorem State.get_accessError_of_clear {s : State} (h : s.bit F.XBR_AERR.AERR = false) (req : Requester) (cause addr : Nat) {f : Fld}
    (hf : f.blk ≠ 0x11) : (s.accessError req cause addr).get f = (s.aerrRecorded req cause addr).get f := by
  rw [State.accessError_of_clear h]
  exact (State.occur_keepsButEvents _ (by decide) _ _ _).regs f hf

/-- The master numbers of R488 fit XBR_AERR.REQ. -/
theorem master_lt (req : Requester) : req.master < 16 := by
  cases req <;> simp [Requester.master]

section
variable {s : State} (h : s.bit F.XBR_AERR.AERR = false) (req : Requester) (cause addr : Nat)
include h

theorem State.accessError_aerr : (s.accessError req cause addr).bit F.XBR_AERR.AERR = true := by
  rw [State.bit, State.get_accessError_of_clear h _ _ _ (by decide)]
  simp [State.aerrRecorded, F.XBR_AERR.AERR]

theorem State.accessError_addr (haddr : addr < 2 ^ 32) : (s.accessError req cause addr).get F.XBR_AERRADDR.ADDR = addr := by
  rw [State.get_accessError_of_clear h _ _ _ (by decide), State.aerrRecorded]
  simp only [State.sets_cons, State.sets_nil]
  rw [State.get_set_ne _ _ (by decide), State.get_set_self]
  exact Nat.mod_eq_of_lt haddr

theorem State.accessError_cause (hcause : cause < 16) : (s.accessError req cause addr).get F.XBR_AERR.CAUSE = cause := by
  rw [State.get_accessError_of_clear h _ _ _ (by decide), State.aerrRecorded]
  simp only [State.sets_cons, State.sets_nil]
  rw [State.get_set_ne _ _ (by decide), State.get_set_ne _ _ (by decide), State.get_set_self]
  exact Nat.mod_eq_of_lt hcause

theorem State.accessError_req : (s.accessError req cause addr).get F.XBR_AERR.REQ = req.master := by
  rw [State.get_accessError_of_clear h _ _ _ (by decide), State.aerrRecorded]
  simp only [State.sets_cons, State.sets_nil]
  rw [State.get_set_ne _ _ (by decide), State.get_set_ne _ _ (by decide), State.get_set_ne _ _ (by decide), State.get_set_self]
  exact Nat.mod_eq_of_lt (master_lt req)

theorem State.accessError_count :
    (s.accessError req cause addr).get (F.EVT_COUNT.COUNT 64) = (s.get (F.EVT_COUNT.COUNT 64) + 1) % 2 ^ 32 := by
  rw [State.accessError_of_clear h, State.get_count_occur _ _ _ _ (by decide) (by decide),
    State.get_aerrRecorded_ne s _ _ _ (by simp only [List.forall_mem_cons]; decide)]

theorem State.accessError_evPending_zero : (s.accessError req cause addr).evPending 0 64 = true := by
  rw [State.accessError_of_clear h]
  exact State.evPending_zero_occur _ _ _ _ (by decide)

theorem State.accessError_evPending_one : (s.accessError req cause addr).evPending 1 64 = true := by
  rw [State.accessError_of_clear h]
  exact State.evPending_one_occur _ _ _ _ _

end

/-! PROOF. Accesses of offsets that hold no register (R16). -/

section
variable {off : Nat} (hnone : findReg off = none)
include hnone

theorem threadRead_of_no_register (req : Requester) : threadRead req off = false := by simp [threadRead, hnone]

theorem State.readReg_of_no_register (s : State) (req : Requester) : s.readReg req off = s.emit (.readback req.idx 0) := by
  simp [State.readReg, hnone]

theorem State.writeReg_of_no_register (s : State) (req : Requester) (data : Nat) :
    s.writeReg req off data 15 = s.accessError req 3 off := by
  simp [State.writeReg, hnone]

end

/-- A served answer: it is sent, and it changes nothing else. -/
theorem serving_emit_frame {s : State} (hon : s.supply.on = true) (req : Requester) (e : Emission) :
    ((s.serving req).emit e).out = s.out ++ [e] ∧
      RegsBut [F.XBR_TSTAT.OWNER 6, F.GLB_DBG.TAPACT] s ((s.serving req).emit e) ∧ MemorySame s ((s.serving req).emit e) := by
  refine ⟨?_, fun f _ hk => ?_, ?_⟩
  · simp [State.emit_eq, hon]
  · rw [State.get_emit]
    exact s.get_serving_ne req (hk _ (by simp)) (hk _ (by simp))
  · exact ((s.serving_regsOnly req).eventsOnly.trans (State.emit_keepsButEvents _ e).parts).memorySame

theorem State.serving_aerr_clear {s : State} (hclear : s.bit F.XBR_AERR.AERR = false) (req : Requester) :
    (s.serving req).bit F.XBR_AERR.AERR = false := by
  rw [State.bit, s.get_serving_ne req (by decide) (by decide)]
  exact hclear

/-- What an access error of a served access leaves as it was. -/
theorem serving_accessError_frame {s : State} (hclear : s.bit F.XBR_AERR.AERR = false) (req : Requester) (cause off : Nat) :
    EventsOnly s ((s.serving req).accessError req cause off) ∧
      RegsBut [F.XBR_TSTAT.OWNER 6, F.GLB_DBG.TAPACT, F.XBR_AERR.AERR, F.XBR_AERR.REQ, F.XBR_AERR.CAUSE, F.XBR_AERRADDR.ADDR] s
        ((s.serving req).accessError req cause off) := by
  have hserving := State.serving_aerr_clear hclear req
  refine ⟨(s.serving_regsOnly req).eventsOnly.trans (State.accessError_eventsOnly _ req cause off), fun f hf hk => ?_⟩
  rw [State.get_accessError_of_clear hserving _ _ _ hf,
    State.get_aerrRecorded_ne _ _ _ _ fun g hg => hk g (by simp only [List.mem_cons] at hg ⊢; tauto)]
  exact s.get_serving_ne req (hk _ (by simp)) (hk _ (by simp))

/-- Settles O58: the fabric serves the access; a read of no register answers 0, and a write is an access error of cause 3. -/
theorem offsetsWithoutRegister : Obligations.OffsetsWithoutRegister := by
  unfold Obligations.OffsetsWithoutRegister
  intro s req off hserves halign hbar hnone
  have hthread := threadRead_of_no_register hnone req
  have ⟨⟨hon, _⟩, _⟩ := hserves
  constructor
  · refine ⟨(s.serving req).emit (.readback req.idx 0), ?_, serving_emit_frame hon req _⟩
    exact (execSnapshotRead_of_serves hserves halign hbar hthread).trans (by rw [State.readReg_of_no_register hnone])
  · intro data hclear hwarm
    have hserving := State.serving_aerr_clear hclear req
    obtain ⟨hparts, hregs⟩ := serving_accessError_frame hclear req 3 off
    have hcount := (State.accessError_count hserving req 3 off).trans
      (by rw [s.get_serving_ne req (by decide) (by decide)])
    have hexec : exec (.registerWrite req .bar0 off data 15) s = .next ((s.serving req).accessError req 3 off) := by
      refine (execRegisterWrite_of_serves hserves halign hbar hthread data 15).trans ?_
      rw [State.writeReg_of_no_register hnone, State.resumeWarm_of_not_waiting (by rw [hparts.pair, hwarm])]
    exact ⟨_, hexec, State.accessError_aerr hserving req 3 off, State.accessError_cause hserving req 3 off (by decide),
      State.accessError_addr hserving req 3 off (by omega), State.accessError_req hserving req 3 off, hcount,
      State.accessError_evPending_zero hserving req 3 off, State.accessError_evPending_one hserving req 3 off, hregs, hparts.memorySame⟩

end Sys2Proof.Machine

/-! PROOF. The zeroise balls: what a millisecond's samples do to their counts (R543), and what ZFAULT raises and leaves alone (R544). -/

namespace Sys2Proof.Machine

/-! Raising a source bit that is clear. -/

theorem State.flag_of_clear {s : State} {f : Fld} (h : s.bit f = false) (ev inst detail : Nat) :
    s.flag f ev inst detail = (s.set f 1).occur ev f.lo inst detail := by
  simp [State.flag, h]

/-- The change of a source bit from 0 to 1 counts once (R554). -/
theorem State.get_count_flag_of_clear {s : State} {f : Fld} (h : s.bit f = false) {ev : Nat} (inst detail : Nat) (he : ev < 128)
    (hne : ev ≠ 87) (hb : f.blk ≠ 0x11) :
    (s.flag f ev inst detail).get (F.EVT_COUNT.COUNT ev) = (s.get (F.EVT_COUNT.COUNT ev) + 1) % 2 ^ 32 := by
  have hkey : (F.EVT_COUNT.COUNT ev).key ≠ f.key := fun hk => hb (by rw [Fld.blk, ← hk]; exact blk_evt_count he)
  rw [State.flag_of_clear h, State.get_count_occur _ _ _ _ he hne, State.get_set_ne s 1 hkey]

theorem EventsOnly.pnl {s t : State} (h : EventsOnly s t) : t.pnl = s.pnl := by rw [h]

theorem State.flagBit_eventsOnly (s : State) (f : Fld) (i : Nat) {ev : Nat} (inst detail : Nat) (he : ev < 128) :
    EventsOnly s (s.flagBit f i ev inst detail) := by
  unfold State.flagBit
  split
  · rfl
  · exact EventsOnly.trans (t := s.set f _) rfl (State.occur_keepsButEvents _ he _ _ _).parts

/-! The samples of one millisecond. -/

@[simp] theorem State.pnlBit_pnl (s : State) (f : Fld) (i : Nat) : (s.pnlBit f i).pnl = s.pnl :=
  (s.flagBit_eventsOnly f i i 0 (by decide)).pnl

/-- A key's sample bears on no part of the panel's inner state but that of the keys (R537). -/
theorem State.sampleKey_pnl (s : State) (k : Nat) (low : Bool) :
    (s.sampleKey k low).pnl = { s.pnl with keys := (s.sampleKey k low).pnl.keys } := by
  unfold State.sampleKey
  dsimp only
  split
  · rfl
  · split
    · rfl
    · split <;> simp only [State.pnlBit_pnl] <;> rfl

/-- One millisecond's samples of the listed keys, bit k of `low` saying that Kk reads low. -/
def State.sampleKeys (s : State) (low : Nat) (ks : List Nat) : State := ks.foldl (fun t k => t.sampleKey k (low.testBit k)) s

theorem State.sampleKeys_pnl (s : State) (low : Nat) (ks : List Nat) :
    (s.sampleKeys low ks).pnl = { s.pnl with keys := (s.sampleKeys low ks).pnl.keys } := by
  induction ks generalizing s with
  | nil => rfl
  | cons k ks ih =>
    change ((s.sampleKey k (low.testBit k)).sampleKeys low ks).pnl = _
    rw [ih, s.sampleKey_pnl k]
    rfl

/-- What a sample of the zeroise balls makes of their counts and of the marks of the present assertion (R543, R544). -/
theorem State.sampleZero_pnl (s : State) (a b : Bool) :
    (s.sampleZero a b).pnl =
      { s.pnl with zBoth := if a && b then s.pnl.zBoth + 1 else 0, zOne := if a != b then s.pnl.zOne + 1 else 0,
                   zDone := s.pnl.zDone && a && b, zFaulted := s.pnl.zFaulted && (a != b) } := rfl

theorem exec_keySample_of_on {s : State} (hon : s.supply.on = true) (low : Nat) (a b : Bool) :
    exec (.keySample low a b) s = .next ((s.sampleKeys low (List.range 8)).sampleZero a b) := by
  change execKeySample low a b s = _
  rw [execKeySample, hon, State.when_true]
  rfl

/-- A millisecond's samples count one in which exactly one ball is asserted and restart the count otherwise; with both balls alike
the mark of a set ZFAULT goes, too. -/
theorem keySample_zeroBalls {s : State} (hon : s.supply.on = true) (low : Nat) (a b : Bool) :
    ∃ t, exec (.keySample low a b) s = .next t ∧ t.pnl.zOne = (if a != b then s.pnl.zOne + 1 else 0) ∧
      (a = b → t.pnl.zFaulted = false) := by
  refine ⟨_, exec_keySample_of_on hon low a b, ?_, fun hab => ?_⟩
  · rw [State.sampleZero_pnl, State.sampleKeys_pnl]
  · simp [State.sampleZero_pnl, hab]

/-! ZFAULT (R544). -/

/-- The mark that the present assertion has set ZFAULT. -/
def State.zfaultMarked (s : State) : State := { s with pnl := { s.pnl with zFaulted := true } }

@[simp] theorem State.get_zfaultMarked (s : State) (f : Fld) : s.zfaultMarked.get f = s.get f := rfl

@[simp] theorem State.bit_zfaultMarked (s : State) (f : Fld) : s.zfaultMarked.bit f = s.bit f := rfl

theorem exec_zfault_of_counted {s : State} (hmark : s.pnl.zFaulted = false) (hcount : 1000 ≤ s.pnl.zOne) :
    exec .zfault s = .next (s.zfaultMarked.flag F.PNL_ZSTAT.ZFAULT 85 0) := by
  change execZfault s = _
  simp only [execZfault, hmark, hcount, Bool.not_false, decide_true, Bool.and_true, State.when_true]
  rfl

theorem exec_zfault_of_fewer {s : State} (hcount : s.pnl.zOne < 1000) : exec .zfault s = .next s := by
  change execZfault s = _
  simp [execZfault, Nat.not_le.mpr hcount]

/-- ZFAULT's change from 0 to 1 is an occurrence of the panel event EV85 on both sides. -/
theorem State.zfault_occurs {s : State} (hclear : s.bit F.PNL_ZSTAT.ZFAULT = false) :
    (s.flag F.PNL_ZSTAT.ZFAULT 85 0).get (F.EVT_COUNT.COUNT 85) = (s.get (F.EVT_COUNT.COUNT 85) + 1) % 2 ^ 32 ∧
      (s.flag F.PNL_ZSTAT.ZFAULT 85 0).evPending 0 85 = true ∧ (s.flag F.PNL_ZSTAT.ZFAULT 85 0).evPending 1 85 = true := by
  refine ⟨State.get_count_flag_of_clear hclear _ _ (by decide) (by decide) (by decide), ?_, ?_⟩
  · rw [State.flag_of_clear hclear]
    exact State.evPending_zero_occur _ _ _ _ (by decide)
  · rw [State.flag_of_clear hclear]
    exact State.evPending_one_occur _ _ _ _ _

theorem State.zfault_regsBut (s : State) : RegsBut [F.PNL_ZSTAT.ZFAULT] s (s.flag F.PNL_ZSTAT.ZFAULT 85 0) :=
  fun _ hf hk => State.flag_get_ne s _ _ (by decide) hf (hk _ List.mem_cons_self)

/-- Settles O55: key samples leave the zeroise counts alone, one ball alone counts up to ZFAULT, and ZFAULT is one source bit raised. -/
theorem oneZeroiseBallAlone : Obligations.OneZeroiseBallAlone := by
  unfold Obligations.OneZeroiseBallAlone
  refine ⟨fun s low a b hon => keySample_zeroBalls hon low a b, fun s hmark hcount => ?_, fun s hcount => exec_zfault_of_fewer hcount⟩
  exact ⟨_, exec_zfault_of_counted hmark hcount, State.flag_get _ _ _ (by decide) rfl (by decide),
    fun hclear => State.zfault_occurs (s := s.zfaultMarked) hclear, s.zfaultMarked.zfault_regsBut,
    State.flag_eventsOnly s.zfaultMarked F.PNL_ZSTAT.ZFAULT 0 0 (by decide)⟩

end Sys2Proof.Machine

/-! PROOF. The software events (R558): the record an occurrence leaves on an enabled side (R555, R556), and what the occurrences of one
write do to one another's counts and pending bits. -/

namespace Sys2Proof.Machine

/-! What writing a record on a side depends on. -/

/-- A side's record memory. -/
def EvtSt.queue (e : EvtSt) (side : Nat) : List EvRec := if side = 0 then e.q0 else e.q1

/-- The SEQ of a side's next record. -/
def EvtSt.nextSeq (e : EvtSt) (side : Nat) : Nat := if side = 0 then e.seq0 else e.seq1

/-- The registers of a side that R555 and R556 read to write a record: its indices and its enables. -/
def QueueField (side : Nat) (f : Fld) : Prop :=
  f = F.EVT_QSTAT.PROD side ∨ f = F.EVT_QCONS.CONS side ∨ ∃ j < 4, f = F.EVT_EN.EN side j

@[simp] theorem EvtSt.queue_zero (e : EvtSt) : e.queue 0 = e.q0 := rfl

@[simp] theorem EvtSt.nextSeq_zero (e : EvtSt) : e.nextSeq 0 = e.seq0 := rfl

theorem EvtSt.queue_of_ne_zero (e : EvtSt) {side : Nat} (h : side ≠ 0) : e.queue side = e.q1 := if_neg h

theorem EvtSt.nextSeq_of_ne_zero (e : EvtSt) {side : Nat} (h : side ≠ 0) : e.nextSeq side = e.seq1 := if_neg h

/-- A side's queue and its enables are as they were. -/
structure QueueSame (side : Nat) (s t : State) : Prop where
  regs : ∀ f, QueueField side f → t.get f = s.get f
  queue : t.evt.queue side = s.evt.queue side
  nextSeq : t.evt.nextSeq side = s.evt.nextSeq side

/-- One record has been written to a side's queue, under the side's next SEQ. -/
def Recorded (side : Nat) (r : EvRec) (s t : State) : Prop :=
  t.get (F.EVT_QSTAT.PROD side) = (s.get (F.EVT_QSTAT.PROD side) + 1) % 256 ∧ t.evt.nextSeq side = (s.evt.nextSeq side + 1) % 2 ^ 32 ∧
    (t.evt.queue side).getD (s.get (F.EVT_QSTAT.PROD side) % 32) {} = { r with seq := s.evt.nextSeq side }

/-- A side enables an event and has room for its record. -/
structure TakesRecord (side ev : Nat) (s : State) : Prop where
  enabled : s.evEnabled side ev = true
  room : (s.get (F.EVT_QSTAT.PROD side) + 256 - s.get (F.EVT_QCONS.CONS side)) % 256 < 32
  length : (s.evt.queue side).length = 32

theorem queueField_prod (side : Nat) : QueueField side (F.EVT_QSTAT.PROD side) := .inl rfl

theorem queueField_cons (side : Nat) : QueueField side (F.EVT_QCONS.CONS side) := .inr (.inl rfl)

theorem queueField_en (side : Nat) {j : Nat} (hj : j < 4) : QueueField side (F.EVT_EN.EN side j) := .inr (.inr ⟨j, hj, rfl⟩)

section
variable {side other : Nat} {f : Fld} (hf : QueueField side f)
include hf

theorem QueueField.key_ne_pend {w : Nat} (hw : w < 4) : f.key ≠ (F.EVT_PEND.PEND other w).key := by
  obtain rfl | rfl | ⟨j, hj, rfl⟩ := hf <;>
    simp only [Fld.key, F.EVT_QSTAT.PROD, F.EVT_QCONS.CONS, F.EVT_EN.EN, F.EVT_PEND.PEND] <;> omega

theorem QueueField.key_ne_count {ev : Nat} (he : ev < 128) : f.key ≠ (F.EVT_COUNT.COUNT ev).key := by
  obtain rfl | rfl | ⟨j, hj, rfl⟩ := hf <;>
    simp only [Fld.key, F.EVT_QSTAT.PROD, F.EVT_QCONS.CONS, F.EVT_EN.EN, F.EVT_COUNT.COUNT] <;> omega

theorem QueueField.key_ne_lost : f.key ≠ (F.EVT_QSTAT.LOST other).key := by
  obtain rfl | rfl | ⟨j, hj, rfl⟩ := hf <;>
    simp only [Fld.key, F.EVT_QSTAT.PROD, F.EVT_QCONS.CONS, F.EVT_EN.EN, F.EVT_QSTAT.LOST] <;> omega

theorem QueueField.key_ne_prod_of_ne (hne : other ≠ side) : f.key ≠ (F.EVT_QSTAT.PROD other).key := by
  obtain rfl | rfl | ⟨j, hj, rfl⟩ := hf <;>
    simp only [Fld.key, F.EVT_QSTAT.PROD, F.EVT_QCONS.CONS, F.EVT_EN.EN] <;> omega

/-- The owner of the register fabric is no part of a queue. -/
theorem QueueField.key_ne_owner : f.key ≠ (F.XBR_TSTAT.OWNER 6).key := by
  obtain rfl | rfl | ⟨j, hj, rfl⟩ := hf <;>
    simp only [Fld.key, F.EVT_QSTAT.PROD, F.EVT_QCONS.CONS, F.EVT_EN.EN, F.XBR_TSTAT.OWNER] <;> omega

end

theorem QueueSame.trans {side : Nat} {s t u : State} (h : QueueSame side s t) (k : QueueSame side t u) : QueueSame side s u :=
  ⟨fun f hf => (k.regs f hf).trans (h.regs f hf), k.queue.trans h.queue, k.nextSeq.trans h.nextSeq⟩

/-- A write of a field that is no part of the queue. -/
theorem State.set_queueSame (s : State) {side : Nat} {g : Fld} (v : Nat) (h : ∀ f, QueueField side f → f.key ≠ g.key) :
    QueueSame side s (s.set g v) :=
  ⟨fun f hf => State.get_set_ne s v (h f hf), rfl, rfl⟩

theorem QueueSame.takesRecord {side ev : Nat} {s t : State} (h : QueueSame side s t) (he : ev < 128) (ht : TakesRecord side ev s) :
    TakesRecord side ev t := by
  refine ⟨?_, ?_, ?_⟩
  · rw [State.evEnabled, h.regs _ (queueField_en side (by omega))]
    exact ht.enabled
  · rw [h.regs _ (queueField_prod side), h.regs _ (queueField_cons side)]
    exact ht.room
  · rw [h.queue]
    exact ht.length

theorem Recorded.of_queueSame {side : Nat} {r : EvRec} {s t u : State} (h : QueueSame side s t) (hr : Recorded side r t u) :
    Recorded side r s u := by
  obtain ⟨hprod, hseq, hrec⟩ := hr
  rw [h.regs _ (queueField_prod side)] at hprod hrec
  rw [h.nextSeq] at hseq hrec
  exact ⟨hprod, hseq, hrec⟩

theorem Recorded.queueSame {side : Nat} {r : EvRec} {s t u : State} (hr : Recorded side r s t) (h : QueueSame side t u) :
    Recorded side r s u := by
  obtain ⟨hprod, hseq, hrec⟩ := hr
  exact ⟨(h.regs _ (queueField_prod side)).trans hprod, h.nextSeq.trans hseq, by rw [h.queue]; exact hrec⟩

/-! One side told. -/

@[simp] theorem State.message_evt (s : State) (side ev : Nat) : (s.message side ev).evt = s.evt := by
  unfold State.message State.msix
  split
  · split
    · rfl
    · split
      · rfl
      · exact State.emit_evt s _
  · exact State.emit_evt s _

@[simp] theorem State.pendAndTell_evt (s : State) (side ev : Nat) : (s.pendAndTell side ev).evt = s.evt := by
  unfold State.pendAndTell
  dsimp only
  split
  · exact State.message_evt _ _ _
  · rfl

/-- Setting a pending bit and sending its message leaves both queues. -/
theorem State.pendAndTell_queueSame (s : State) (side other : Nat) {ev : Nat} (he : ev < 128) :
    QueueSame side s (s.pendAndTell other ev) :=
  ⟨fun _ hf => State.get_pendAndTell_ne s (hf.key_ne_pend (by omega)), by rw [State.pendAndTell_evt], by rw [State.pendAndTell_evt]⟩

/-- Writing or dropping a record on one side leaves the other side's record memory and its SEQ. -/
theorem State.pushRecord_evt_of_ne (s : State) {side other : Nat} (hs : side < 2) (ho : other < 2) (hne : other ≠ side) (r : EvRec) :
    (s.pushRecord other r).evt.queue side = s.evt.queue side ∧ (s.pushRecord other r).evt.nextSeq side = s.evt.nextSeq side := by
  unfold State.pushRecord
  dsimp only
  split
  · rw [State.dropRecord, State.pendAndTell_evt]
    exact ⟨rfl, rfl⟩
  · split
    · have hside : side ≠ 0 := by omega
      simp [EvtSt.queue_of_ne_zero, EvtSt.nextSeq_of_ne_zero, hside]
    · obtain rfl : side = 0 := by omega
      exact ⟨rfl, rfl⟩

theorem State.tellSide_queueSame_of_ne (s : State) {side other : Nat} (hs : side < 2) (ho : other < 2) (hne : other ≠ side) {r : EvRec}
    (he : r.ev < 128) : QueueSame side s (s.tellSide other r) := by
  obtain ⟨hqueue, hseq⟩ := s.pushRecord_evt_of_ne hs ho hne r
  refine ⟨fun f hf => State.get_tellSide_ne s r (hf.key_ne_prod_of_ne hne) hf.key_ne_lost (hf.key_ne_count (by decide))
    (fun w hw => hf.key_ne_pend hw) he, ?_, ?_⟩ <;>
  · rw [State.tellSide, State.pendAndTell_evt]
    split
    · assumption
    · rfl

/-- A side with room writes the record at PROD (R556). -/
theorem State.pushRecord_recorded {s : State} {side ev : Nat} (h : TakesRecord side ev s) (r : EvRec) :
    Recorded side r s (s.pushRecord side r) := by
  obtain ⟨-, hroom, hlen⟩ := h
  have hpos : s.get (F.EVT_QSTAT.PROD side) % 32 < 32 := Nat.mod_lt _ (by decide)
  unfold State.pushRecord
  dsimp only
  rw [if_neg (by omega)]
  split
  · next hside =>
    subst hside
    rw [EvtSt.queue_zero] at hlen
    exact ⟨State.get_set_self s _ _, rfl, by simp [hlen, hpos]⟩
  · next hside =>
    rw [EvtSt.queue_of_ne_zero _ hside] at hlen
    exact ⟨State.get_set_self s _ _, by simp [EvtSt.nextSeq_of_ne_zero, hside],
      by simp [EvtSt.queue_of_ne_zero, EvtSt.nextSeq_of_ne_zero, hside, hlen, hpos]⟩

theorem State.tellSide_recorded {s : State} {side : Nat} {r : EvRec} (he : r.ev < 128) (h : TakesRecord side r.ev s) :
    Recorded side r s (s.tellSide side r) := by
  rw [State.tellSide, if_pos h.enabled]
  exact (State.pushRecord_recorded h r).queueSame (State.pendAndTell_queueSame _ side side he)

/-! One occurrence of an event of no island. -/

/-- The record of an occurrence now, before a queue gives it a SEQ (R553). -/
def State.recordNow (s : State) (ev bit inst detail : Nat) : EvRec := { ev := ev, bit := bit, inst := inst, raw := s.now, detail := detail }

theorem State.occur_of_no_island {ev : Nat} (h : evIsland ev = none) (s : State) (bit inst detail : Nat) :
    s.occur ev bit inst detail =
      ((s.bump (F.EVT_COUNT.COUNT ev)).tellSide 0 (s.recordNow ev bit inst detail)).tellSide 1 (s.recordNow ev bit inst detail) := by
  simp [State.occur, State.occurAt, State.recordNow, h]

/-- An occurrence writes one record on each side that takes it (R555 step 1). -/
theorem State.occur_recorded {s : State} {side ev : Nat} (hside : side < 2) (he : ev < 128) (hisland : evIsland ev = none)
    (h : TakesRecord side ev s) (bit inst detail : Nat) :
    Recorded side (s.recordNow ev bit inst detail) s (s.occur ev bit inst detail) := by
  have hcount : QueueSame side s (s.bump (F.EVT_COUNT.COUNT ev)) := s.set_queueSame _ fun _ hf => hf.key_ne_count he
  rw [State.occur_of_no_island hisland]
  obtain rfl | rfl : side = 0 ∨ side = 1 := by omega
  · have hfirst := State.tellSide_recorded (r := s.recordNow ev bit inst detail) he (hcount.takesRecord he h)
    exact (hfirst.of_queueSame hcount).queueSame (State.tellSide_queueSame_of_ne _ (by decide) (by decide) (by decide) he)
  · have hsecond := hcount.trans
      (State.tellSide_queueSame_of_ne _ (other := 0) (r := s.recordNow ev bit inst detail) (by decide) (by decide) (by decide) he)
    exact (State.tellSide_recorded he (hsecond.takesRecord he h)).of_queueSame hsecond

/-! What an occurrence leaves of other events. -/

theorem State.get_count_occur_ne (s : State) {ev other : Nat} (bit inst detail : Nat) (he : ev < 128) (ho : other < 128) (hne : other ≠ ev)
    (hlost : other ≠ 87) : (s.occur ev bit inst detail).get (F.EVT_COUNT.COUNT other) = s.get (F.EVT_COUNT.COUNT other) := by
  unfold State.occur State.occurAt
  rw [State.get_count_tellSide _ _ ho hlost he, State.get_count_tellSide _ _ ho hlost he]
  exact State.get_bump_ne s 1 (by simp only [Fld.key, F.EVT_COUNT.COUNT]; omega)

/-- Raising an event takes no pending bit away. -/
theorem State.evPending_pendAndTell_of_pending {s : State} {side ev : Nat} (h : s.evPending side ev = true) (side' ev' : Nat) :
    (s.pendAndTell side' ev').evPending side ev = true := by
  by_cases hkey : (F.EVT_PEND.PEND side (ev / 32)).key = (F.EVT_PEND.PEND side' (ev' / 32)).key
  · have hfld : F.EVT_PEND.PEND side' (ev' / 32) = F.EVT_PEND.PEND side (ev / 32) := by
      simp only [Fld.key, F.EVT_PEND.PEND] at hkey
      simp only [F.EVT_PEND.PEND, Fld.mk.injEq, and_true, true_and]
      omega
    have hlt : ev % 32 < 32 := Nat.mod_lt _ (by decide)
    have hbit : (s.get (F.EVT_PEND.PEND side (ev / 32))).testBit (ev % 32) = true := h
    rw [State.evPending, State.get_pendAndTell, hfld, State.get_set_self, show (F.EVT_PEND.PEND side (ev / 32)).w = 32 from rfl,
      Nat.testBit_mod_two_pow, setBitN, Nat.testBit_or, hbit]
    simp [hlt]
  · rw [State.evPending, State.get_pendAndTell_ne s hkey]
    exact h

section
variable {s : State} {side ev : Nat} (he : ev < 128) (h : s.evPending side ev = true)
include he h

theorem State.evPending_bump_count {m : Nat} (hm : m < 128) : (s.bump (F.EVT_COUNT.COUNT m)).evPending side ev = true := by
  rw [State.evPending, State.get_bump_ne s 1 (by simp only [Fld.key, F.EVT_COUNT.COUNT, F.EVT_PEND.PEND]; omega)]
  exact h

theorem State.evPending_pushRecord_of_pending (side' : Nat) (r : EvRec) : (s.pushRecord side' r).evPending side ev = true := by
  unfold State.pushRecord
  dsimp only
  split
  · have hlost : (s.bumpSat (F.EVT_QSTAT.LOST side')).evPending side ev = true := by
      rw [State.evPending, State.get_bumpSat_ne s 1 (by simp only [Fld.key, F.EVT_QSTAT.LOST, F.EVT_PEND.PEND]; omega)]
      exact h
    exact State.evPending_pendAndTell_of_pending (State.evPending_bump_count he hlost (by decide)) side' 87
  · have hprod : (s.set (F.EVT_QSTAT.PROD side') (s.get (F.EVT_QSTAT.PROD side') + 1)).evPending side ev = true := by
      rw [State.evPending, State.get_set_ne s _ (by simp only [Fld.key, F.EVT_QSTAT.PROD, F.EVT_PEND.PEND]; omega)]
      exact h
    split <;> exact hprod

theorem State.evPending_tellSide_of_pending (side' : Nat) (r : EvRec) : (s.tellSide side' r).evPending side ev = true := by
  rw [State.tellSide]
  split
  · exact State.evPending_pendAndTell_of_pending (State.evPending_pushRecord_of_pending he h side' r) side' r.ev
  · exact State.evPending_pendAndTell_of_pending h side' r.ev

theorem State.evPending_occur_of_pending {m : Nat} (hm : m < 128) (bit inst detail : Nat) :
    (s.occur m bit inst detail).evPending side ev = true := by
  unfold State.occur State.occurAt
  exact State.evPending_tellSide_of_pending he
    (State.evPending_tellSide_of_pending he (State.evPending_bump_count he h hm) 0 _) 1 _

end

/-! The software events. -/

theorem swEvent_of_lt {k : Nat} (hk : k < 16) : swEvent k = 48 + k := if_pos hk

section
variable {k : Nat} (hk : k < 24)
include hk

theorem swEvent_lt : swEvent k < 128 := by
  unfold swEvent
  split <;> omega

theorem swEvent_ne_overflow : swEvent k ≠ 87 := by
  unfold swEvent
  split <;> omega

/-- R552 names no island for a software event. -/
theorem evIsland_swEvent : evIsland (swEvent k) = none := by
  revert k
  decide

end

theorem swEvent_injective : Function.Injective swEvent := by
  intro j k h
  unfold swEvent at h
  split at h <;> split at h <;> omega

/-- One occurrence of each listed software event, in order, by a requester. -/
def State.raiseSw (s : State) (req : Requester) (ks : List Nat) : State :=
  ks.foldl (fun t k => t.occur (swEvent k) 0xFF req.master 0xFF) s

@[simp] theorem State.raiseSw_nil (s : State) (req : Requester) : s.raiseSw req [] = s := rfl

@[simp] theorem State.raiseSw_cons (s : State) (req : Requester) (k : Nat) (ks : List Nat) :
    s.raiseSw req (k :: ks) = (s.occur (swEvent k) 0xFF req.master 0xFF).raiseSw req ks := rfl

theorem State.swset_eq_raiseSw (s : State) (req : Requester) (bits : Nat) :
    s.swset req bits = s.raiseSw req ((List.range 24).filter bits.testBit) := by
  rw [State.swset, State.raiseSw, List.foldl_filter]

theorem State.swset_two_pow (s : State) (req : Requester) {k : Nat} (hk : k < 24) :
    s.swset req (2 ^ k) = s.occur (swEvent k) 0xFF req.master 0xFF := by
  have hone : ∀ k < 24, (List.range 24).filter (2 ^ k).testBit = [k] := by decide
  rw [State.swset_eq_raiseSw, hone k hk, State.raiseSw_cons, State.raiseSw_nil]

section
variable (req : Requester) {ks : List Nat}

theorem State.raiseSw_keepsButEvents (s : State) (hks : ∀ j ∈ ks, j < 24) : KeepsButEvents s (s.raiseSw req ks) := by
  induction ks generalizing s with
  | nil => exact .refl s
  | cons j ks ih =>
    obtain ⟨hj, htail⟩ := List.forall_mem_cons.mp hks
    exact (State.occur_keepsButEvents s (swEvent_lt hj) _ _ _).trans (ih _ htail)

theorem State.get_count_raiseSw_of_notMem (s : State) (hks : ∀ j ∈ ks, j < 24) {k : Nat} (hk : k < 24) (hmem : k ∉ ks) :
    (s.raiseSw req ks).get (F.EVT_COUNT.COUNT (swEvent k)) = s.get (F.EVT_COUNT.COUNT (swEvent k)) := by
  induction ks generalizing s with
  | nil => rfl
  | cons j ks ih =>
    obtain ⟨hj, htail⟩ := List.forall_mem_cons.mp hks
    obtain ⟨hne, hnot⟩ := List.ne_and_not_mem_of_not_mem_cons hmem
    rw [State.raiseSw_cons, ih _ htail hnot]
    exact State.get_count_occur_ne s _ _ _ (swEvent_lt hj) (swEvent_lt hk) (swEvent_injective.ne hne) (swEvent_ne_overflow hk)

/-- An event listed once counts once. -/
theorem State.get_count_raiseSw_of_mem (s : State) (hks : ∀ j ∈ ks, j < 24) (hnodup : ks.Nodup) {k : Nat} (hk : k < 24) (hmem : k ∈ ks) :
    (s.raiseSw req ks).get (F.EVT_COUNT.COUNT (swEvent k)) = (s.get (F.EVT_COUNT.COUNT (swEvent k)) + 1) % 2 ^ 32 := by
  induction ks generalizing s with
  | nil => cases hmem
  | cons j ks ih =>
    obtain ⟨hj, htail⟩ := List.forall_mem_cons.mp hks
    obtain ⟨hjnot, hnodup⟩ := List.nodup_cons.mp hnodup
    rw [State.raiseSw_cons]
    obtain rfl | hin := List.mem_cons.mp hmem
    · rw [State.get_count_raiseSw_of_notMem req _ htail hk hjnot]
      exact State.get_count_occur s _ _ _ (swEvent_lt hk) (swEvent_ne_overflow hk)
    · have hne : k ≠ j := fun e => hjnot (e ▸ hin)
      rw [ih _ htail hnodup hin,
        State.get_count_occur_ne s _ _ _ (swEvent_lt hj) (swEvent_lt hk) (swEvent_injective.ne hne) (swEvent_ne_overflow hk)]

theorem State.evPending_raiseSw_of_pending {s : State} (hks : ∀ j ∈ ks, j < 24) {side ev : Nat} (he : ev < 128)
    (h : s.evPending side ev = true) : (s.raiseSw req ks).evPending side ev = true := by
  induction ks generalizing s with
  | nil => exact h
  | cons j ks ih =>
    obtain ⟨hj, htail⟩ := List.forall_mem_cons.mp hks
    exact ih htail (State.evPending_occur_of_pending he h (swEvent_lt hj) _ _ _)

theorem State.evPending_raiseSw_of_mem (s : State) (hks : ∀ j ∈ ks, j < 24) {k : Nat} (hk : k < 24) (hmem : k ∈ ks) :
    (s.raiseSw req ks).evPending 0 (swEvent k) = true ∧ (s.raiseSw req ks).evPending 1 (swEvent k) = true := by
  induction ks generalizing s with
  | nil => cases hmem
  | cons j ks ih =>
    obtain ⟨hj, htail⟩ := List.forall_mem_cons.mp hks
    obtain rfl | hin := List.mem_cons.mp hmem
    · have hlt := swEvent_lt hk
      exact ⟨State.evPending_raiseSw_of_pending req htail hlt (State.evPending_zero_occur s _ _ _ hlt),
        State.evPending_raiseSw_of_pending req htail hlt (State.evPending_one_occur s _ _ _ _)⟩
    · exact ih _ htail hin

end

/-! The write of EVT_SWSET. -/

/-- The bits of a write of EVT_SWSET that name an event, in ascending order. -/
theorem mem_swBits {bits k : Nat} (hk : k < 24) : k ∈ (List.range 24).filter bits.testBit ↔ bits.testBit k = true := by
  simp [hk]

theorem lt_of_mem_swBits (bits : Nat) : ∀ j ∈ (List.range 24).filter bits.testBit, j < 24 :=
  fun _ hj => List.mem_range.mp (List.mem_filter.mp hj).1

theorem exec_evtSwset_of_reaches {s : State} {req : Requester} (h : s.Reaches req 0x1100000) (bits : Nat) :
    exec (.evtSwset req bits) s = .next ((s.set (F.XBR_TSTAT.OWNER 6) req.master).swset req bits) := by
  change execEvtSwset req bits s = _
  rw [execEvtSwset, State.atFabric_of_reaches h]

/-- The owner of the register fabric bears on no event. -/
theorem State.get_count_owner (s : State) (v : Nat) {ev : Nat} (he : ev < 128) :
    (s.set (F.XBR_TSTAT.OWNER 6) v).get (F.EVT_COUNT.COUNT ev) = s.get (F.EVT_COUNT.COUNT ev) :=
  State.get_set_ne s v (by simp only [Fld.key, F.EVT_COUNT.COUNT, F.XBR_TSTAT.OWNER]; omega)

theorem State.owner_queueSame (s : State) (side v : Nat) : QueueSame side s (s.set (F.XBR_TSTAT.OWNER 6) v) :=
  s.set_queueSame v fun _ hf => hf.key_ne_owner

theorem evtSwset_raises {s : State} {req : Requester} (h : s.Reaches req 0x1100000) (bits : Nat) :
    ∃ t, exec (.evtSwset req bits) s = .next t ∧ RegsBut [F.XBR_TSTAT.OWNER 6] s t ∧ MemorySame s t ∧ ∀ k < 24,
      (bits.testBit k = true → t.get (F.EVT_COUNT.COUNT (swEvent k)) = (s.get (F.EVT_COUNT.COUNT (swEvent k)) + 1) % 2 ^ 32 ∧
        t.evPending 0 (swEvent k) = true ∧ t.evPending 1 (swEvent k) = true) ∧
      (bits.testBit k = false → t.get (F.EVT_COUNT.COUNT (swEvent k)) = s.get (F.EVT_COUNT.COUNT (swEvent k))) := by
  have hks := lt_of_mem_swBits bits
  refine ⟨_, exec_evtSwset_of_reaches h bits, ?_⟩
  rw [State.swset_eq_raiseSw]
  have hkeeps := State.raiseSw_keepsButEvents req (s.set (F.XBR_TSTAT.OWNER 6) req.master) hks
  refine ⟨fun f hf hk => ?_, hkeeps.parts.memorySame, fun k hk => ⟨fun hbit => ⟨?_, ?_⟩, fun hbit => ?_⟩⟩
  · exact (hkeeps.regs f hf).trans (State.get_set_ne s _ (hk _ List.mem_cons_self))
  · rw [State.get_count_raiseSw_of_mem req _ hks (List.nodup_range.filter _) hk ((mem_swBits hk).mpr hbit),
      State.get_count_owner s _ (swEvent_lt hk)]
  · exact State.evPending_raiseSw_of_mem req _ hks hk ((mem_swBits hk).mpr hbit)
  · rw [State.get_count_raiseSw_of_notMem req _ hks hk (by rw [mem_swBits hk, hbit]; decide),
      State.get_count_owner s _ (swEvent_lt hk)]

/-- The record of a software event names the master, and 0xFF for the engine. -/
theorem evtSwset_records {s : State} {req : Requester} {side k : Nat} (hside : side < 2) (hk : k < 24) (h : s.Reaches req 0x1100000)
    (htakes : TakesRecord side (swEvent k) s) :
    ∃ t, exec (.evtSwset req (2 ^ k)) s = .next t ∧ Recorded side (s.recordNow (swEvent k) 0xFF req.master 0xFF) s t := by
  have howner := s.owner_queueSame side req.master
  have hrec := State.occur_recorded hside (swEvent_lt hk) (evIsland_swEvent hk) (howner.takesRecord (swEvent_lt hk) htakes)
    0xFF req.master 0xFF
  exact ⟨_, exec_evtSwset_of_reaches h (2 ^ k), by rw [State.swset_two_pow _ _ hk]; exact hrec.of_queueSame howner⟩

/-! The signal instruction. -/

section
variable {engine k : Nat} (hengine : engine < 16) (hk : k < 16)
include hengine hk

theorem exec_signalInstruction (s : State) : exec (.signalInstruction engine k) s = .next (s.occur (48 + k) 0xFF 6 engine) := by
  change execSignalInstruction engine k s = _
  rw [execSignalInstruction, swEvent_of_lt hk, decide_eq_true hengine, decide_eq_true hk]
  rfl

theorem signalInstruction_raises (s : State) :
    ∃ t, exec (.signalInstruction engine k) s = .next t ∧
      t.get (F.EVT_COUNT.COUNT (48 + k)) = (s.get (F.EVT_COUNT.COUNT (48 + k)) + 1) % 2 ^ 32 ∧
      t.evPending 0 (48 + k) = true ∧ t.evPending 1 (48 + k) = true ∧ RegsOutside [0x11] s t ∧ EventsOnly s t := by
  have hev : 48 + k < 128 := by omega
  have hkeeps := State.occur_keepsButEvents s hev 0xFF 6 engine
  exact ⟨_, exec_signalInstruction hengine hk s, State.get_count_occur s _ _ _ hev (by omega), State.evPending_zero_occur s _ _ _ hev,
    State.evPending_one_occur s _ _ _ _, fun f hf => hkeeps.regs f (List.ne_of_not_mem_cons hf), hkeeps.parts⟩

theorem signalInstruction_records {s : State} {side : Nat} (hside : side < 2) (htakes : TakesRecord side (48 + k) s) :
    ∃ t, exec (.signalInstruction engine k) s = .next t ∧ Recorded side (s.recordNow (48 + k) 0xFF 6 engine) s t := by
  have hisland : evIsland (48 + k) = none := swEvent_of_lt hk ▸ evIsland_swEvent (by omega)
  exact ⟨_, exec_signalInstruction hengine hk s, State.occur_recorded hside (by omega) hisland htakes _ _ _⟩

end

/-- Settles O56: a write raises the listed events one after another, and each occurrence leaves one record on a side that takes it. -/
theorem softwareEvents : Obligations.SoftwareEvents := by
  unfold Obligations.SoftwareEvents
  refine ⟨fun s req bits h => evtSwset_raises h bits, fun s req k hk h hen hroom hlen => ?_, fun s req k hk h hen hroom hlen => ?_,
    fun s engine k hengine hk => ⟨signalInstruction_raises hengine hk s, fun hen hroom hlen => ?_, fun hen hroom hlen => ?_⟩⟩
  · exact evtSwset_records (side := 0) (by decide) hk h ⟨hen, hroom, hlen⟩
  · exact evtSwset_records (side := 1) (by decide) hk h ⟨hen, hroom, hlen⟩
  · exact signalInstruction_records hengine hk (side := 0) (by decide) ⟨hen, hroom, hlen⟩
  · exact signalInstruction_records hengine hk (side := 1) (by decide) ⟨hen, hroom, hlen⟩

end Sys2Proof.Machine

/-! PROOF. What every command keeps: the queue, the raw counter while AON is powered, the output sent so far, the canonical forms and the unit
counts, and of the parts that are watched those it does not touch. One lemma per state function, in the order of the model, each saying that the
function keeps what its input state has kept so far. -/

namespace Sys2Proof.Machine

/-- Parts of the state that few functions touch: both memories, the supply, and the pair in force with its history. -/
structure Watch where
  memory : Bool
  supply : Bool
  pairs : Bool

/-- All of them. -/
abbrev Watch.all : Watch := ⟨true, true, true⟩

/-- What a state reached inside one command has kept of the state the command started from: the queue; the raw counter, unless AON has
gone off (which clears it); the canonical forms and the unit counts; what has been sent; and the parts that are watched. -/
structure Keeps (w : Watch) (s₀ s : State) : Prop where
  queue : s.pending = s₀.pending
  raw : s₀.supply.on = true → s.raw = s₀.raw ∨ s.supply.on = false ∧ s.raw = 0
  canonical : StateCanonical s₀ → StateCanonical s
  shape : StateShape s₀ → StateShape s
  out : s₀.out <+: s.out
  memory : w.memory = true → s.sram = s₀.sram ∧ s.flash = s₀.flash
  supply : w.supply = true → s.supply = s₀.supply
  pairs : w.pairs = true → s.hrt.cur = s₀.hrt.cur ∧ s.hrt.history = s₀.hrt.history

/-- A command's outcome: it goes on exactly when it names units that exist, and then keeps what every command keeps. -/
def Runs (w : Watch) (ok : Bool) (s : State) (r : Result) : Prop := ∃ t, r = onUnit ok t ∧ Keeps w s t

theorem length_modAt {α : Type} (l : List α) (i : Nat) (f : α → α) : (modAt l i f).length = l.length := by
  induction l generalizing i with
  | nil => rfl
  | cons a t ih => cases i with
    | zero => rfl
    | succ k => exact congrArg (· + 1) (ih k)

section
variable {w : Watch} {m u p : Bool} {s₀ s t : State}

/-! The ways of building a state. -/

theorem Keeps.refl (s : State) : Keeps w s s :=
  ⟨rfl, fun _ => .inl rfl, id, id, List.prefix_refl _, fun _ => ⟨rfl, rfl⟩, fun _ => rfl, fun _ => ⟨rfl, rfl⟩⟩

/-- A change that leaves the queue, the raw counter and the power alone, keeps the invariant and sends at the end of the output. -/
theorem Keeps.change (h : Keeps w s₀ s) (hcan : StateCanonical s → StateCanonical t) (hshape : StateShape s → StateShape t) (hout : s.out <+: t.out)
    (hmem : w.memory = true → t.sram = s.sram ∧ t.flash = s.flash) (hsup : w.supply = true → t.supply = s.supply)
    (hpairs : w.pairs = true → t.hrt.cur = s.hrt.cur ∧ t.hrt.history = s.hrt.history)
    (hq : t.pending = s.pending) (hraw : t.raw = s.raw) (hon : t.supply.on = s.supply.on) : Keeps w s₀ t where
  queue := hq.trans h.queue
  raw h0 := by rw [hraw, hon]; exact h.raw h0
  canonical h0 := hcan (h.canonical h0)
  shape h0 := hshape (h.shape h0)
  out := h.out.trans hout
  memory hw := ⟨(hmem hw).1.trans (h.memory hw).1, (hmem hw).2.trans (h.memory hw).2⟩
  supply hw := (hsup hw).trans (h.supply hw)
  pairs hw := ⟨(hpairs hw).1.trans (h.pairs hw).1, (hpairs hw).2.trans (h.pairs hw).2⟩

/-- A change that touches none of the watched parts and sends nothing. -/
theorem Keeps.update (h : Keeps w s₀ s) (hcan : StateCanonical s → StateCanonical t) (hshape : StateShape s → StateShape t) (hq : t.pending = s.pending) (hraw : t.raw = s.raw)
    (hout : t.out = s.out) (hsram : t.sram = s.sram) (hflash : t.flash = s.flash)
    (hsup : t.supply = s.supply) (hcur : t.hrt.cur = s.hrt.cur) (hhist : t.hrt.history = s.hrt.history) :
    Keeps w s₀ t :=
  h.change hcan hshape (hout ▸ List.prefix_refl _) (fun _ => ⟨hsram, hflash⟩) (fun _ => hsup) (fun _ => ⟨hcur, hhist⟩) hq hraw (by rw [hsup])

/-- A change of parts that carry no unit counts. -/
theorem Keeps.parts {nv boot rcp sel bound osc evt sys pmu pnl pke nts ptp kvt pair snaps free} (h : Keeps w s₀ s) :
    Keeps w s₀ { s with nv := nv, boot := boot, rcp := rcp, sel := sel, bound := bound, osc := osc, evt := evt, sys := sys, pmu := pmu, pnl := pnl,
                        pke := pke, nts := nts, ptp := ptp, kvt := kvt, pair := pair, snaps := snaps, free := free } :=
  h.update id (fun hs => ⟨hs.1, hs.2, hs.3, hs.4, hs.5, hs.6, hs.7, hs.8⟩) rfl rfl rfl rfl rfl rfl rfl rfl

/-- Sending at the end of the output. -/
theorem Keeps.send {e : Emission} (h : Keeps w s₀ s) : Keeps w s₀ { s with out := s.out ++ [e] } :=
  h.change id (fun hs => ⟨hs.1, hs.2, hs.3, hs.4, hs.5, hs.6, hs.7, hs.8⟩) (List.prefix_append _ _) (fun _ => ⟨rfl, rfl⟩) (fun _ => rfl)
    (fun _ => ⟨rfl, rfl⟩) rfl rfl rfl

/-- What a state with the same pair and history has kept. -/
theorem pairsKept {a : Prop} {hrt : HrtSt} : a → hrt.cur = hrt.cur ∧ hrt.history = hrt.history := fun _ => ⟨rfl, rfl⟩

/-- A change of the time scale that keeps the number of servos and the pair in force, with parts that carry no unit counts. -/
theorem Keeps.withHrt {nv boot rcp sel bound osc evt sys pmu pnl pke nts ptp kvt pair snaps free} {hrt : HrtSt} (h : Keeps w s₀ s)
    (hsrv : hrt.srv.length = s.hrt.srv.length)
    (hpairs : w.pairs = true → hrt.cur = s.hrt.cur ∧ hrt.history = s.hrt.history) :
    Keeps w s₀ { s with hrt := hrt, nv := nv, boot := boot, rcp := rcp, sel := sel, bound := bound, osc := osc, evt := evt, sys := sys, pmu := pmu,
                        pnl := pnl, pke := pke, nts := nts, ptp := ptp, kvt := kvt, pair := pair, snaps := snaps, free := free } :=
  h.change id (fun hs => { hs with servos := hsrv.trans hs.servos }) (List.prefix_refl _) (fun _ => ⟨rfl, rfl⟩) (fun _ => rfl) hpairs
    rfl rfl rfl

theorem Keeps.withTb {tb : TimeBusSt} (h : Keeps w s₀ s) (hr : tb.routes.length = s.tb.routes.length) : Keeps w s₀ { s with tb := tb } :=
  h.update id (fun hs => { hs with routes := hr.trans hs.routes }) rfl rfl rfl rfl rfl rfl rfl rfl

theorem Keeps.withRef {ref : List RefSt} (h : Keeps w s₀ s) (hl : ref.length = s.ref.length) : Keeps w s₀ { s with ref := ref } :=
  h.update id (fun hs => { hs with refs := hl.trans hs.refs }) rfl rfl rfl rfl rfl rfl rfl rfl

theorem Keeps.withTdc {tdc : List TdcSt} (h : Keeps w s₀ s) (hl : tdc.length = s.tdc.length) : Keeps w s₀ { s with tdc := tdc } :=
  h.update id (fun hs => { hs with tdcs := hl.trans hs.tdcs }) rfl rfl rfl rfl rfl rfl rfl rfl

theorem Keeps.withSyn {syn : List UnitSt} (h : Keeps w s₀ s) (hl : syn.length = s.syn.length) : Keeps w s₀ { s with syn := syn } :=
  h.update id (fun hs => { hs with units := hl.trans hs.units }) rfl rfl rfl rfl rfl rfl rfl rfl

theorem Keeps.withOutp {outp : List OutSt} (h : Keeps w s₀ s) (hl : outp.length = s.outp.length) : Keeps w s₀ { s with outp := outp } :=
  h.update id (fun hs => { hs with outputs := hl.trans hs.outputs }) rfl rfl rfl rfl rfl rfl rfl rfl

theorem Keeps.withPwr {pwr : List DomSt} (h : Keeps w s₀ s) (hl : pwr.length = s.pwr.length) : Keeps w s₀ { s with pwr := pwr } :=
  h.update id (fun hs => { hs with domains := hl.trans hs.domains }) rfl rfl rfl rfl rfl rfl rfl rfl

theorem Keeps.withPort {port : List PortSt} (h : Keeps w s₀ s) (hl : port.length = s.port.length) : Keeps w s₀ { s with port := port } :=
  h.update id (fun hs => { hs with ports := hl.trans hs.ports }) rfl rfl rfl rfl rfl rfl rfl rfl

/-- A change of the supply that does not switch AON, with the blocks that change beside it. -/
theorem Keeps.withSupply {supply : SupplySt} {nv boot rcp} (h : Keeps ⟨m, false, p⟩ s₀ s) (hon : supply.on = s.supply.on) :
    Keeps ⟨m, false, p⟩ s₀ { s with supply := supply, nv := nv, boot := boot, rcp := rcp } :=
  h.change id (fun hs => ⟨hs.1, hs.2, hs.3, hs.4, hs.5, hs.6, hs.7, hs.8⟩) (List.prefix_refl _) (fun _ => ⟨rfl, rfl⟩) nofun
    (fun _ => ⟨rfl, rfl⟩) rfl rfl hon

theorem Keeps.withRegs {regs : List (Nat × Nat)} (h : Keeps w s₀ s) (hw : storeWf s.regs = true → storeWf regs = true) :
    Keeps w s₀ { s with regs := regs } :=
  h.update (fun ⟨hr, hm⟩ => ⟨hw hr, hm⟩) (fun hs => ⟨hs.1, hs.2, hs.3, hs.4, hs.5, hs.6, hs.7, hs.8⟩) rfl rfl rfl rfl rfl rfl rfl rfl

theorem Keeps.withSram {sram : List Host.Cell} (h : Keeps ⟨false, u, p⟩ s₀ s)
    (hw : Memory.wf sramDefault s.sram = true → Memory.wf sramDefault sram = true) : Keeps ⟨false, u, p⟩ s₀ { s with sram := sram } :=
  h.change (fun ⟨hr, hm, hf⟩ => ⟨hr, hw hm, hf⟩) (fun hs => ⟨hs.1, hs.2, hs.3, hs.4, hs.5, hs.6, hs.7, hs.8⟩) (List.prefix_refl _) nofun
    (fun _ => rfl) (fun _ => ⟨rfl, rfl⟩) rfl rfl rfl

theorem Keeps.withFlash {flash : List Host.Cell} (h : Keeps ⟨false, u, p⟩ s₀ s)
    (hw : Memory.wf flashDefault s.flash = true → Memory.wf flashDefault flash = true) : Keeps ⟨false, u, p⟩ s₀ { s with flash := flash } :=
  h.change (fun ⟨hr, hm, hf⟩ => ⟨hr, hm, hw hf⟩) (fun hs => ⟨hs.1, hs.2, hs.3, hs.4, hs.5, hs.6, hs.7, hs.8⟩) (List.prefix_refl _) nofun
    (fun _ => rfl) (fun _ => ⟨rfl, rfl⟩) rfl rfl rfl

/-! Choices and repetitions. -/

theorem Keeps.ite {c : Prop} [Decidable c] (ht : Keeps w s₀ s) (he : Keeps w s₀ t) : Keeps w s₀ (if c then s else t) := by split <;> assumption

theorem Keeps.foldl {α : Type} {f : State → α → State} {l : List α} (h : Keeps w s₀ s) (hf : ∀ t a, Keeps w s₀ t → Keeps w s₀ (f t a)) :
    Keeps w s₀ (l.foldl f s) := by
  induction l generalizing s with
  | nil => exact h
  | cons a l ih => exact ih (hf s a h)

theorem Runs.onUnit {ok : Bool} (h : Keeps w s t) : Runs w ok s (onUnit ok t) := ⟨t, rfl, h⟩

theorem Runs.next (h : Keeps w s t) : Runs w true s (.next t) := ⟨t, rfl, h⟩

theorem Keeps.when {c f} (h : Keeps w s₀ s) (hf : ∀ t, Keeps w s₀ t → Keeps w s₀ (f t)) : Keeps w s₀ (s.when c f) := .ite (hf s h) h

/-! The state functions of the model, in its order. -/

theorem Keeps.set {f v} (h : Keeps w s₀ s) : Keeps w s₀ (State.set s f v) := h.withRegs (storeWf_storeSet _ _)

theorem ok_of_ite_error {ε α : Type} {c : Prop} [Decidable c] {e : ε} {r : Except ε α} {a : α} (h : (if c then .error e else r) = .ok a) :
    r = .ok a := by
  split at h
  · contradiction
  · exact h

theorem eq_or_eq_of_ite_ok {ε α : Type} {c : Prop} [Decidable c] {a b y : α} (h : (if c then Except.ok (ε := ε) a else .ok b) = .ok y) :
    y = a ∨ y = b := by
  split at h <;> cases h
  · exact .inl rfl
  · exact .inr rfl

/-! Ops. -/

theorem Keeps.setBit {f b} (h : Keeps w s₀ s) : Keeps w s₀ (s.setBit f b) := .set h

theorem Keeps.setI {f v} (h : Keeps w s₀ s) : Keeps w s₀ (s.setI f v) := .set h

theorem Keeps.sets {l} (h : Keeps w s₀ s) : Keeps w s₀ (s.sets l) := .foldl h fun _ _ h => .set h

theorem Keeps.clearAll {l} (h : Keeps w s₀ s) : Keeps w s₀ (s.clearAll l) := .foldl h fun _ _ h => .set h

theorem Keeps.bump {f n} (h : Keeps w s₀ s) : Keeps w s₀ (s.bump f n) := .set h

theorem Keeps.bumpSat {f n} (h : Keeps w s₀ s) : Keeps w s₀ (s.bumpSat f n) := .set h

theorem Keeps.setISat {f v} (h : Keeps w s₀ s) : Keeps w s₀ (s.setISat f v) := .setI h

theorem Keeps.setSat {f v} (h : Keeps w s₀ s) : Keeps w s₀ (s.setSat f v) := .set h

theorem Keeps.resetBlock {lo hi} (h : Keeps w s₀ s) : Keeps w s₀ (s.resetBlock lo hi) := h.withRegs (storeWfFrom_filter _)

theorem Keeps.sramWrite {a b} (h : Keeps ⟨false, u, p⟩ s₀ s) : Keeps ⟨false, u, p⟩ s₀ (s.sramWrite a b) := h.withSram (Memory.wf_memSets a b)

theorem Keeps.flashProgram {base size b} (h : Keeps ⟨false, u, p⟩ s₀ s) : Keeps ⟨false, u, p⟩ s₀ (s.flashProgram base size b) :=
  h.withFlash fun hw => Memory.wf_memSets base b (memWfFrom_filter _ hw)

theorem Keeps.emit {e} (h : Keeps w s₀ s) : Keeps w s₀ (s.emit e) := .ite (.send h) h

theorem Keeps.useFree (h : Keeps w s₀ s) : Keeps w s₀ s.useFree := .parts h

/-! Events. -/

theorem Keeps.msix {vec} (h : Keeps w s₀ s) : Keeps w s₀ (s.msix vec) := .ite h (.ite (.parts h) (.emit h))

theorem Keeps.message {side ev} (h : Keeps w s₀ s) : Keeps w s₀ (s.message side ev) := .ite (.msix h) (.emit h)

theorem Keeps.pendAndTell {side ev} (h : Keeps w s₀ s) : Keeps w s₀ (s.pendAndTell side ev) := .ite (.message (.set h)) (.set h)

theorem Keeps.dropRecord {side} (h : Keeps w s₀ s) : Keeps w s₀ (s.dropRecord side) := .pendAndTell (.bump (.bumpSat h))

theorem Keeps.pushRecord {side r} (h : Keeps w s₀ s) : Keeps w s₀ (s.pushRecord side r) :=
  .ite (.dropRecord h) (.ite (.parts (.set h)) (.parts (.set h)))

theorem Keeps.tellSide {side r} (h : Keeps w s₀ s) : Keeps w s₀ (s.tellSide side r) := .pendAndTell (.ite (.pushRecord h) h)

theorem Keeps.occurAt {ev bit inst detail crumbs} (h : Keeps w s₀ s) : Keeps w s₀ (s.occurAt ev bit inst detail crumbs) :=
  .tellSide (.tellSide (.bump h))

theorem Keeps.occur {ev bit inst detail} (h : Keeps w s₀ s) : Keeps w s₀ (s.occur ev bit inst detail) := .occurAt h

theorem Keeps.flag {f ev inst detail} (h : Keeps w s₀ s) : Keeps w s₀ (s.flag f ev inst detail) := .ite h (.occur (.set h))

theorem Keeps.flagBit {f i ev inst detail} (h : Keeps w s₀ s) : Keeps w s₀ (s.flagBit f i ev inst detail) := .ite h (.occur (.set h))

theorem Keeps.accessError {req cause addr} (h : Keeps w s₀ s) : Keeps w s₀ (s.accessError req cause addr) := .ite (.flag h) (.flag (.sets h))

theorem Keeps.linkReturnMessages (h : Keeps w s₀ s) : Keeps w s₀ s.linkReturnMessages := .foldl h fun _ _ h => .msix h

/-! Start. -/

theorem Keeps.updRecord {f} (h : Keeps w s₀ s) : Keeps w s₀ (s.updRecord f) := .ite (.parts h) h

theorem Keeps.enterStage {n} (h : Keeps w s₀ s) : Keeps w s₀ (s.enterStage n) := .ite (.occur (.set h)) (.set h)

theorem Keeps.partProgram {fw bank src len} (h : Keeps ⟨false, u, p⟩ s₀ s) : Keeps ⟨false, u, p⟩ s₀ (s.partProgram fw bank src len) :=
  .useFree (.flashProgram h)

theorem Keeps.abandonAction (h : Keeps ⟨false, u, p⟩ s₀ s) : Keeps ⟨false, u, p⟩ s₀ s.abandonAction := by
  unfold State.abandonAction
  split; exacts [(.parts (.partProgram (.parts h))), (.parts h)]

theorem Keeps.powerOff (h : Keeps ⟨false, false, false⟩ s₀ s) : Keeps ⟨false, false, false⟩ s₀ s.powerOff where
  queue := h.abandonAction.queue
  raw _ := .inr ⟨rfl, rfl⟩
  canonical h0 := ⟨rfl, rfl, (h.abandonAction.canonical h0).2.2⟩
  shape _ := by constructor <;> rfl
  out := h.abandonAction.out
  memory := nofun
  supply := nofun
  pairs := nofun

theorem Keeps.powerFail {stop} (h : Keeps ⟨false, false, false⟩ s₀ s) : Keeps ⟨false, false, false⟩ s₀ (s.powerFail stop) := .powerOff (.updRecord h)

theorem Keeps.coldRestart {stop} (h : Keeps ⟨false, false, false⟩ s₀ s) : Keeps ⟨false, false, false⟩ s₀ (s.coldRestart stop) :=
  .powerOff (.updRecord h)

theorem Keeps.failStart {code detail} (h : Keeps ⟨false, false, false⟩ s₀ s) : Keeps ⟨false, false, false⟩ s₀ (s.failStart code detail) :=
  .coldRestart (.updRecord (.sets h))

/-! Bus. -/

theorem Keeps.updSys {f} (h : Keeps w s₀ s) : Keeps w s₀ (s.updSys f) := .parts h

theorem Keeps.xbrError {m t code addr} (h : Keeps w s₀ s) : Keeps w s₀ (s.xbrError m t code addr) := .ite (.set h) (.flag (.sets h))

theorem Keeps.xbrFail {m t code addr} (h : Keeps w s₀ s) : Keeps w s₀ (s.xbrFail m t code addr) := .emit (.xbrError h)

theorem Keeps.abortAccess {m addr} (h : Keeps w s₀ s) : Keeps w s₀ (s.abortAccess m addr) := .xbrFail (.updSys h)

theorem Keeps.abortRegister {m off} (h : Keeps w s₀ s) : Keeps w s₀ (s.abortRegister m off) := .xbrFail (.updSys h)

theorem Keeps.updDom {d f} (h : Keeps w s₀ s) : Keeps w s₀ (s.updDom d f) := h.withPwr (length_modAt _ _ _)

theorem Keeps.recordWake {d src master during} (h : Keeps w s₀ s) : Keeps w s₀ (s.recordWake d src master during) := .updDom (.bump (.sets h))

theorem Keeps.beginWake {d src master req} (h : Keeps w s₀ s) : Keeps w s₀ (s.beginWake d src master req) :=
  .ite (.updDom (.set h)) (.ite (.ite (.set h) (.recordWake (.set h))) h)

theorem Keeps.eccError {addr} (h : Keeps w s₀ s) : Keeps w s₀ (s.eccError addr) := .flag (.sets (.bumpSat h))

theorem Keeps.sramStore {addr b} (h : Keeps ⟨false, u, p⟩ s₀ s) : Keeps ⟨false, u, p⟩ s₀ (s.sramStore addr b) := .updSys (.sramWrite h)

theorem Keeps.sramBytes {l} (h : Keeps ⟨false, u, p⟩ s₀ s) : Keeps ⟨false, u, p⟩ s₀ (s.sramBytes l) := .foldl h fun _ _ h => .sramStore h

theorem Keeps.touchSram {m} (h : Keeps w s₀ s) : Keeps w s₀ (s.touchSram m) := .ite h (.beginWake h)

theorem Keeps.stall {d a} (h : Keeps w s₀ s) : Keeps w s₀ (s.stall d a) := .updDom (.beginWake h)

theorem Keeps.atFabric {req off f} (h : Keeps w s₀ s) (hf : ∀ t, Keeps w s₀ t → Keeps w s₀ (f t)) : Keeps w s₀ (s.atFabric req off f) :=
  .ite h (.ite (.abortRegister h) (.ite (.xbrFail h) (.ite h (hf _ (.set h)))))

theorem Keeps.atDomain {req off data f} (h : Keeps w s₀ s) (hf : ∀ t, Keeps w s₀ t → Keeps w s₀ (f t)) : Keeps w s₀ (s.atDomain req off data f) :=
  .atFabric h fun t h => .ite (hf t h) (.stall h)

/-! EventCmds. -/

theorem Keeps.swset {req bits} (h : Keeps w s₀ s) : Keeps w s₀ (s.swset req bits) := .foldl h fun _ _ h => .ite (.occur h) h

theorem Keeps.setTarget {n ns} (h : Keeps w s₀ s) : Keeps w s₀ (s.setTarget n ns) := .parts h

theorem Keeps.timerFire {n} (h : Keeps w s₀ s) : Keeps w s₀ (s.timerFire n) := by
  unfold State.timerFire
  split; exacts [h, (.ite (.ite (.set (.occur h)) (.setTarget (.occur h))) h)]

theorem Keeps.armTimer {n} (h : Keeps w s₀ s) : Keeps w s₀ (s.armTimer n) := .timerFire (.setTarget h)

theorem Keeps.writeQcons {req side value} (h : Keeps w s₀ s) : Keeps w s₀ (s.writeQcons req side value) := .ite (.set h) (.accessError h)

theorem Keeps.writeEnables {side group value} (h : Keeps w s₀ s) : Keeps w s₀ (s.writeEnables side group value) :=
  .foldl (.set h) fun _ _ h => .ite (.message h) h

theorem Keeps.clearPending {side group mask} (h : Keeps w s₀ s) : Keeps w s₀ (s.clearPending side group mask) := .ite (.set (.set h)) (.set h)

/-! Journal. -/

theorem Keeps.updPair {f} (h : Keeps w s₀ s) : Keeps w s₀ (s.updPair f) := .parts h

theorem Keeps.pairFlag {f} (h : Keeps w s₀ s) : Keeps w s₀ (s.pairFlag f) := .flag h

theorem Keeps.onLane {b} (h : Keeps w s₀ s) : Keeps w s₀ (s.onLane b) := by
  unfold State.onLane
  exact (.updPair (.emit h))

theorem Keeps.sendRecord {type payload} (h : Keeps w s₀ s) : Keeps w s₀ (s.sendRecord type payload) := .ite h (.bump (.updPair (.onLane h)))

theorem Keeps.journalChanges (h : Keeps w s₀ s) : Keeps w s₀ s.journalChanges :=
  .ite h (.ite (.ite (.ite h (.updPair (.sendRecord h))) (.updPair (.sendRecord (.ite h (.updPair (.sendRecord h)))))) (.updPair
    (.sendRecord (.ite (.ite h (.updPair (.sendRecord h))) (.updPair (.sendRecord (.ite h (.updPair (.sendRecord h)))))))))

theorem Keeps.journalResult {c isFreq v stamp gen count sigma} (h : Keeps w s₀ s) : Keeps w s₀
  (s.journalResult c isFreq v stamp gen count sigma) := .ite (.sendRecord h) h

theorem Keeps.journalUpdate {given nres} (h : Keeps w s₀ s) : Keeps w s₀ (s.journalUpdate given nres) := .ite h (.sendRecord h)

theorem Keeps.journalGrant {i bytes} (h : Keeps w s₀ s) : Keeps w s₀ (s.journalGrant i bytes) := .ite (.updPair (.sendRecord h)) h

theorem Keeps.journalPos {pos state gen d} (h : Keeps w s₀ s) : Keeps w s₀ (s.journalPos pos state gen d) := .ite (.sendRecord h) h

theorem Keeps.pairStart (h : Keeps w s₀ s) : Keeps w s₀ s.pairStart := .ite (.updPair (.sets h)) (.sets h)

/-! RefOps. -/

theorem Keeps.showAgeing {n} (h : Keeps w s₀ s) : Keeps w s₀ (s.showAgeing n) := .sets (.setSat (.setISat h))

theorem Keeps.updRef {c f} (h : Keeps w s₀ s) : Keeps w s₀ (s.updRef c f) := h.withRef (length_modAt _ _ _)

theorem Keeps.updTdc {n f} (h : Keeps w s₀ s) : Keeps w s₀ (s.updTdc n f) := h.withTdc (length_modAt _ _ _)

theorem Keeps.updSrv {n f} (h : Keeps w s₀ s) : Keeps w s₀ (s.updSrv n f) := h.withHrt (length_modAt _ _ _) pairsKept

theorem Keeps.refFlag {f c} (h : Keeps w s₀ s) : Keeps w s₀ (s.refFlag f c) := .flag h

theorem Keeps.selFlag {f inst detail} (h : Keeps w s₀ s) : Keeps w s₀ (s.selFlag f inst detail) := .flag h

theorem Keeps.hrtFlag {f detail} (h : Keeps w s₀ s) : Keeps w s₀ (s.hrtFlag f detail) := .flag h

theorem Keeps.cancelLeap (h : Keeps w s₀ s) : Keeps w s₀ s.cancelLeap := .ite (.hrtFlag (.sets h)) h

theorem Keeps.reviewLead {silent} (h : Keeps w s₀ s) : Keeps w s₀ (s.reviewLead silent) :=
  .ite h (.ite (.set h) (by split; exacts [(.ite (.set h) (.cancelLeap (.set h))), (.cancelLeap (.set h))]))

theorem Keeps.acalFail {n why} (h : Keeps w s₀ s) : Keeps w s₀ (s.acalFail n why) :=
  .flag (.set (.set (.withPort h (length_modAt _ _ _))))

theorem Keeps.reviewAcal (h : Keeps w s₀ s) : Keeps w s₀ s.reviewAcal := .foldl h fun _ _ h => (by split; exacts [h, (.ite h (.acalFail h))])

theorem Keeps.freezeYat (h : Keeps w s₀ s) : Keeps w s₀ s.freezeYat := .ite (.parts h) h

theorem Keeps.setSrvState {n} (h : Keeps w s₀ s) : Keeps w s₀ (s.setSrvState n) :=
  .ite h (.reviewAcal (.hrtFlag (.set (.parts (.freezeYat h)))))

theorem Keeps.openCarry {errb freq sy0 hset} (h : Keeps w s₀ s) : Keeps w s₀ (s.openCarry errb freq sy0 hset) := .setBit (.parts h)

theorem Keeps.endCarry (h : Keeps w s₀ s) : Keeps w s₀ s.endCarry := .setBit (.parts h)

theorem Keeps.reviewCarry (h : Keeps w s₀ s) : Keeps w s₀ s.reviewCarry := by
  unfold State.reviewCarry
  split; exacts [h, (.ite (.endCarry h) h)]

theorem Keeps.startSegment {first errb} (h : Keeps w s₀ s) : Keeps w s₀ (s.startSegment first errb) := .parts (.openCarry h)

theorem Keeps.enterHoldover {errb} (h : Keeps w s₀ s) : Keeps w s₀ (s.enterHoldover errb) := .selFlag (.startSegment (.setSrvState (.parts h)))

theorem Keeps.setHset {n} (h : Keeps w s₀ s) : Keeps w s₀ (s.setHset n) := .ite h (.ite (.parts (.setBit (.parts (.set h)))) (.set h))

theorem Keeps.refreshHset (h : Keeps w s₀ s) : Keeps w s₀ s.refreshHset := .setHset (.setBit h)

theorem Keeps.freshChannel {c} (h : Keeps w s₀ s) : Keeps w s₀ (s.freshChannel c) := by
  unfold State.freshChannel
  split; exacts [(.updRef h), (.set (.updTdc (.updRef h)))]

theorem Keeps.enterQualifying {c} (h : Keeps w s₀ s) : Keeps w s₀ (s.enterQualifying c) := .updRef (.set (.freshChannel h))

theorem Keeps.tryQualify {c} (h : Keeps w s₀ s) : Keeps w s₀ (s.tryQualify c) := .ite (.enterQualifying h) h

theorem Keeps.timeBaseLoss (h : Keeps w s₀ s) : Keeps w s₀ s.timeBaseLoss := .flag (.set (.withTdc h (List.length_map _)))

theorem Keeps.reviewJudged {inst} (h : Keeps w s₀ s) : Keeps w s₀ (s.reviewJudged inst) := .parts h

theorem Keeps.settle {inst} (h : Keeps w s₀ s) : Keeps w s₀ (s.settle inst) :=
  .foldl (.reviewJudged h) fun _ _ h => .ite (by split; exacts [(.ite (.selFlag (.parts h)) (.parts h)), h]) h

theorem Keeps.reviewDisagree (h : Keeps w s₀ s) : Keeps w s₀ s.reviewDisagree :=
  .ite (.ite (.set h) h) (.ite (.parts (by split; exacts [h, (.set h)])) (.selFlag (.set (.parts (by split; exacts [h, (.set h)])))))

theorem Keeps.showCandidates (h : Keeps w s₀ s) : Keeps w s₀ s.showCandidates := .foldl h fun _ _ h => .setBit (.setBit h)

theorem Keeps.showSel {n} (h : Keeps w s₀ s) : Keeps w s₀ (s.showSel n) := by
  unfold State.showSel
  split; exacts [(.set (.set h)), (.set (.set h))]

theorem Keeps.carryFor {c errb} (h : Keeps w s₀ s) : Keeps w s₀ (s.carryFor c errb) := .ite (.openCarry h) (.openCarry h)

theorem Keeps.changeSel {old new} (h : Keeps w s₀ s) : Keeps w s₀ (s.changeSel old new) := by
  unfold State.changeSel
  extract_lets _ _ _ t
  have ht : Keeps w s₀ t := .showSel (.parts h)
  split
  · exact ht
  · split
    · split
      · exact .enterHoldover ht
      · exact .ite (.setSrvState (.parts (.ite ht (.selFlag ht)))) (.ite ht (.selFlag ht))
    · extract_lets u
      have hu : Keeps w s₀ u := .carryFor ht
      exact .ite (.selFlag (.withHrt (.updSrv (.setSrvState hu)) rfl pairsKept)) (.ite (.selFlag (.withHrt (.updSrv (.setSrvState hu)) rfl pairsKept))
        (.selFlag hu))

theorem Keeps.evalSelection (h : Keeps w s₀ s) : Keeps w s₀ s.evalSelection :=
  .journalChanges (.reviewAcal (.ite (.parts (.settle (.setBit (.showCandidates (.reviewDisagree (.ite (.setBit (.settle (.setBit h)))
    (.changeSel (.setBit (.settle (.setBit h)))))))))) (.setBit (.showCandidates (.reviewDisagree (.ite (.setBit (.settle (.setBit h)))
    (.changeSel (.setBit (.settle (.setBit h))))))))))

theorem Keeps.disqualify {c why} (h : Keeps w s₀ s) : Keeps w s₀ (s.disqualify c why) :=
  .ite (.ite (.set h) h) (.evalSelection (.reviewLead (.ite (.timeBaseLoss (by split; exacts [(.updRef (.sets h)), (.set (.updTdc (.updRef
    (.sets h))))])) (by split; exacts [(.updRef (.sets h)), (.set (.updTdc (.updRef (.sets h))))]))))

theorem Keeps.alignLoss {c} (h : Keeps w s₀ s) : Keeps w s₀ (s.alignLoss c) := .foldl h fun _ _ h => .ite (.flag h) h

theorem Keeps.losePresence {c} (h : Keeps w s₀ s) : Keeps w s₀ (s.losePresence c) :=
  .ite (.updRef h) (.alignLoss (.refFlag (.sets (.ite (.timeBaseLoss (by split; exacts [(.updRef (.disqualify h)), (.updTdc (.updRef
    (.disqualify h)))])) (by split; exacts [(.updRef (.disqualify h)), (.updTdc (.updRef (.disqualify h)))])))))

theorem Keeps.gainPresence {c} (h : Keeps w s₀ s) : Keeps w s₀ (s.gainPresence c) := .ite h (.updRef (.set h))

theorem Keeps.loseActivity {c} (h : Keeps w s₀ s) : Keeps w s₀ (s.loseActivity c) :=
  .ite h (.ite (.timeBaseLoss (.disqualify (.set h))) (.disqualify (.set h)))

theorem Keeps.gainActivity {c} (h : Keeps w s₀ s) : Keeps w s₀ (s.gainActivity c) := .tryQualify (.set h)

theorem Keeps.leaveOff {c} (h : Keeps w s₀ s) : Keeps w s₀ (s.leaveOff c) := .ite (.tryQualify (.updRef (.set h))) h

theorem Keeps.reviewOff {c} (h : Keeps w s₀ s) : Keeps w s₀ (s.reviewOff c) := .ite (.disqualify h) (.leaveOff h)

theorem Keeps.deliver {c v stamp isFreq count sigma} (h : Keeps w s₀ s) : Keeps w s₀ (s.deliver c v stamp isFreq count sigma) :=
  .journalResult (.updRef h)

/-! PairOps. -/

theorem Keeps.propose {host rate offset anchor commit} (h : Keeps w s₀ s) : Keeps w s₀ (s.propose host rate offset anchor commit) :=
  .ite (.withHrt (.set (.bump (.setBit (.set h)))) rfl pairsKept) (.hrtFlag (.bump (.setBit (.set h))))

theorem Keeps.markSecond (h : Keeps w s₀ s) : Keeps w s₀ s.markSecond := .occur (.set h)

theorem Keeps.leaveManual (h : Keeps w s₀ s) : Keeps w s₀ s.leaveManual :=
  .evalSelection (.openCarry (.updSrv (.setSrvState (.withHrt h rfl pairsKept))))

theorem Keeps.enterManual (h : Keeps w s₀ s) : Keeps w s₀ s.enterManual := .setSrvState (.withHrt h rfl pairsKept)

theorem Keeps.enterStopped (h : Keeps w s₀ s) : Keeps w s₀ s.enterStopped := .openCarry (.setSrvState (.withHrt h rfl pairsKept))

theorem Keeps.leaveStopped (h : Keeps w s₀ s) : Keeps w s₀ s.leaveStopped := .evalSelection (.ite (.enterHoldover h) (.setSrvState h))

theorem Keeps.commitHearth (h : Keeps ⟨m, u, false⟩ s₀ s) : Keeps ⟨m, u, false⟩ s₀ s.commitHearth := by
  unfold State.commitHearth
  split
  · exact h
  extract_lets _ _ a b c x y z second d e f
  have hb : Keeps ⟨m, u, false⟩ s₀ b := .ite (.set (.withHrt h rfl nofun)) (.withHrt h rfl nofun)
  have hc : Keeps ⟨m, u, false⟩ s₀ c := .ite hb (.updSrv hb)
  have hz : Keeps ⟨m, u, false⟩ s₀ z := .ite (.hrtFlag (.setI (.set (.set hc)))) (.set (.hrtFlag (.setI (.set (.set hc)))))
  have hd : Keeps ⟨m, u, false⟩ s₀ d := .ite hc (.ite (.foldl (.markSecond hz) fun _ _ h => .timerFire h) (.markSecond hz))
  have he : Keeps ⟨m, u, false⟩ s₀ e := .ite (.enterManual hd) hd
  have hf : Keeps ⟨m, u, false⟩ s₀ f := .ite (.leaveManual he) he
  exact .ite (.enterStopped hf) hf

/-! ServoOps. -/

theorem Keeps.showUpdate {n c e r clamped} (h : Keeps w s₀ s) : Keeps w s₀ (s.showUpdate n c e r clamped) :=
  .ite (.ite (.hrtFlag (.set (.setBit (by split; exacts [(.setI (.set (.set h))), (.setI (.setI (.set (.set h))))])))) (.set (.setBit
    (by split; exacts [(.setI (.set (.set h))), (.setI (.setI (.set (.set h))))])))) (.setBit (by split; exacts [(.setI (.set (.set h))),
    (.setI (.setI (.set (.set h))))]))

theorem Keeps.reviewLock (h : Keeps w s₀ s) : Keeps w s₀ s.reviewLock :=
  .ite (.setSrvState (.withHrt h rfl pairsKept)) (.ite (.setSrvState (.updSrv (.withHrt h rfl pairsKept))) h)

theorem Keeps.proposeSrv {r0 step} (h : Keeps w s₀ s) : Keeps w s₀ (s.proposeSrv r0 step) := .propose h

theorem Keeps.movePhi (h : Keeps w s₀ s) : Keeps w s₀ s.movePhi := .parts h

theorem Keeps.lawUpdate {c e ec y} (h : Keeps w s₀ s) : Keeps w s₀ (s.lawUpdate c e ec y) := .proposeSrv (.showUpdate (.updSrv h))

theorem Keeps.keepUref {c} (h : Keeps w s₀ s) : Keeps w s₀ (s.keepUref c) := .ite (.parts h) h

theorem Keeps.followUpdate {c rs} (h : Keeps w s₀ s) : Keeps w s₀ (s.followUpdate c rs) :=
  .ite (.reviewLock (.proposeSrv (.showUpdate (.updSrv (.parts (.keepUref h)))))) (.ite (.reviewLock (.proposeSrv (.showUpdate (.updSrv
    (.withHrt (.parts (.keepUref h)) rfl pairsKept))))) (.reviewLock (.updSrv (.lawUpdate (.parts (.keepUref h))))))

theorem Keeps.holdUpdate (h : Keeps w s₀ s) : Keeps w s₀ s.holdUpdate := by
  unfold State.holdUpdate
  split; exacts [h, (.proposeSrv (.ite (.hrtFlag (.set (.setI (.updSrv h)))) (.setI (.updSrv h))))]

theorem Keeps.freeUpdate (h : Keeps w s₀ s) : Keeps w s₀ s.freeUpdate := by
  unfold State.freeUpdate
  split; exacts [h, (.ite (.proposeSrv (.showUpdate (.updSrv h))) h)]

theorem Keeps.sideUpdate {n c rs} (h : Keeps w s₀ s) : Keeps w s₀ (s.sideUpdate n c rs) :=
  .ite (.set (.showUpdate (.updSrv h))) (.set (.showUpdate (.updSrv h)))

theorem Keeps.coastSide {n} (h : Keeps w s₀ s) : Keeps w s₀ (s.coastSide n) := .ite (.updSrv h) h

theorem Keeps.recompute (h : Keeps w s₀ s) : Keeps w s₀ s.recompute := .reviewCarry (.parts h)

/-! Osc. -/

theorem Keeps.enterCell {n} (h : Keeps w s₀ s) : Keeps w s₀ (s.enterCell n) :=
  .ite (.refreshHset (.set (.parts (.set (.parts h))))) (.set (.parts h))

theorem Keeps.cellUnlocked {inWindow} (h : Keeps w s₀ s) : Keeps w s₀ (s.cellUnlocked inWindow) :=
  .refreshHset (.enterCell (.set (.parts (.flag (by split; exacts [(.losePresence (.set (.freezeYat h))), (.set (.freezeYat h))])))))

theorem Keeps.proofCleared {f} (h : Keeps w s₀ s) : Keeps w s₀ (s.proofCleared f) := .occur (.refreshHset (.set h))

theorem Keeps.sampleSensor {temps i} (h : Keeps w s₀ s) : Keeps w s₀ (s.sampleSensor temps i) :=
  .ite (.flag (.set (.parts (.setI h)))) (.ite (.set (.parts (.setI h))) (.parts (.setI h)))

theorem Keeps.takeLoad {q v} (h : Keeps w s₀ s) : Keeps w s₀ (s.takeLoad q v) := .parts h

/-- `change60` is made a variable before the body is opened: the kernel would otherwise evaluate it on its literal numbers of ticks. So,
  too,
the validations of an image below. -/
theorem Keeps.reviewRate (h : Keeps w s₀ s) : Keeps w s₀ s.reviewRate := by
  obtain ⟨f, hf⟩ : ∃ f, f = State.reviewRate := ⟨_, rfl⟩
  obtain ⟨v0, hv0⟩ : ∃ v, v = State.change60 := ⟨_, rfl⟩
  rw [← hf]
  delta State.reviewRate at hf
  rw [← hv0] at hf
  subst hf
  dsimp only
  split
  · exact .parts h
  · exact .ite (.parts (.parts h)) (.parts h)

theorem Keeps.chargeCarry (h : Keeps w s₀ s) : Keeps w s₀ s.chargeCarry := by
  unfold State.chargeCarry
  split; exacts [h, (.parts h)]

theorem Keeps.reviewUntrained (h : Keeps w s₀ s) : Keeps w s₀ s.reviewUntrained := .ite (.set h) (.ite h (.flag (.set h)))

theorem Keeps.writeStore {ok} (h : Keeps w s₀ s) : Keeps w s₀ (s.writeStore ok) := .ite h (.ite (.parts h) (.flag (.parts h)))

theorem Keeps.oscAction {req key f} (h : Keeps w s₀ s) (hf : ∀ t, Keeps w s₀ t → Keeps w s₀ (f t)) : Keeps w s₀ (s.oscAction req key f) :=
  .ite (.accessError h) (hf _ h)

theorem Keeps.clearSet {req n} (h : Keeps w s₀ s) : Keeps w s₀ (s.clearSet req n) := .ite (.accessError h) (.showAgeing (.parts h))

theorem Keeps.writeOscCtrl {req data} (h : Keeps w s₀ s) : Keeps w s₀ (s.writeOscCtrl req data) :=
  .ite h (.oscAction h (fun _ h => .ite (.accessError h) (.when (.when (.when (.when h (fun _ h => .clearSet h)) (fun _ h => .clearSet h))
    (fun _ h => .when h (fun _ h => .cellUnlocked h))) (fun _ h => .writeStore h))))

theorem Keeps.relock (h : Keeps w s₀ s) : Keeps w s₀ s.relock := .when h (fun _ h => .cellUnlocked h)

/-! PmuOps. -/

theorem Keeps.pmuFlag {f} (h : Keeps w s₀ s) : Keeps w s₀ (s.pmuFlag f) := .flag h

theorem Keeps.updPmu {f} (h : Keeps w s₀ s) : Keeps w s₀ (s.updPmu f) := .parts h

theorem Keeps.pmuReport {set j} (h : Keeps w s₀ s) : Keeps w s₀ (s.pmuReport set j) :=
  .ite (.set (.ite (.occur (.set h)) (.set h))) (.ite (.occur (.set h)) (.set h))

theorem Keeps.pmuAdd {set fuel j n} (h : Keeps w s₀ s) : Keeps w s₀ (s.pmuAdd set fuel j n).1 := by
  induction fuel generalizing s j n with
  | zero => exact h
  | succ fuel ih =>
    unfold State.pmuAdd
    extract_lets c a
    have ha : Keeps w s₀ a := .set h
    split
    · exact ha
    · split
      · split
        · exact ih ha
        · exact ha
      · exact .pmuReport ha

theorem Keeps.clusterEvent {ev filt} (h : Keeps w s₀ s) : Keeps w s₀ (s.clusterEvent ev filt) := .foldl h fun _ _ h => .ite (.pmuAdd h) h

theorem Keeps.sampleLost (h : Keeps w s₀ s) : Keeps w s₀ s.sampleLost := .clusterEvent (.pmuFlag (.bumpSat h))

theorem Keeps.pushSample {b} (h : Keeps w s₀ s) : Keeps w s₀ (s.pushSample b) :=
  .ite (.sampleLost h) (.clusterEvent (.ite (.pmuFlag (.bump (.ite (.bump (.updPmu h)) (.updPmu h)))) (.bump (.ite (.bump (.updPmu h))
    (.updPmu h)))))

theorem Keeps.skidSample {k j} (h : Keeps w s₀ s) : Keeps w s₀ (s.skidSample k j) := .pushSample (.useFree h)

theorem Keeps.engineCount {k j n} (h : Keeps w s₀ s) : Keeps w s₀ (s.engineCount k j n) := by
  unfold State.engineCount
  dsimp only
  split; exacts [(.ite (.skidSample (.pmuAdd h)) (.pmuAdd h)), (.pmuAdd h)]

theorem Keeps.engineEvent {k ev} (h : Keeps w s₀ s) : Keeps w s₀ (s.engineEvent k ev) := .ite h (.foldl h fun _ _ h => .ite (.engineCount h) h)

theorem Keeps.clrAll (h : Keeps w s₀ s) : Keeps w s₀ s.clrAll := by
  unfold State.clrAll
  exact .updPmu (.sets (.withRegs h (storeWfFrom_filter _)))

theorem Keeps.writeSrCons {req v} (h : Keeps w s₀ s) : Keeps w s₀ (s.writeSrCons req v) := .ite (.accessError h) (.updPmu (.set h))

/-! SynOps. -/

theorem Keeps.updUnit {u f} (h : Keeps w s₀ s) : Keeps w s₀ (s.updUnit u f) := h.withSyn (length_modAt _ _ _)

theorem Keeps.updOut {n f} (h : Keeps w s₀ s) : Keeps w s₀ (s.updOut n f) := h.withOutp (length_modAt _ _ _)

theorem Keeps.outFlag {f n} (h : Keeps w s₀ s) : Keeps w s₀ (s.outFlag f n) := .flag h

theorem Keeps.unitFlag {f u} (h : Keeps w s₀ s) : Keeps w s₀ (s.unitFlag f u) := .ite (.flag h) (.flag h)

theorem Keeps.showOut {n} (h : Keeps w s₀ s) : Keeps w s₀ (s.showOut n) := .setBit (.setBit (.setBit (.setBit (.setBit h))))

theorem Keeps.showUnit {u} (h : Keeps w s₀ s) : Keeps w s₀ (s.showUnit u) := .ite h (.foldl (.sets h) fun _ _ h => .showOut h)

theorem Keeps.gatedRelock {u} (h : Keeps w s₀ s) : Keeps w s₀ (s.gatedRelock u) := .showUnit (.set (.foldl (.updUnit h) fun _ _ h => .updOut h))

theorem Keeps.reviewUnit {u} (h : Keeps w s₀ s) : Keeps w s₀ (s.reviewUnit u) := .ite (.showUnit (.set h)) h

theorem Keeps.armReleases {u} (h : Keeps w s₀ s) : Keeps w s₀ (s.armReleases u) := .foldl h fun _ _ h => .ite (.updOut h) h

theorem Keeps.settleTarget {n} (h : Keeps w s₀ s) : Keeps w s₀ (s.settleTarget n) := by
  unfold State.settleTarget
  split; exacts [h, (.ite h (.ite (.updOut (.ite (.outFlag (.updOut h)) (.updOut h))) (.outFlag (.updOut h))))]

theorem Keeps.settleOut {n} (h : Keeps w s₀ s) : Keeps w s₀ (s.settleOut n) := by
  unfold State.settleOut
  extract_lets _ _ a b c
  have ha : Keeps w s₀ a := (by unfold a; split; exacts [(.ite (.reviewUnit (.updOut h)) h), h])
  have hb : Keeps w s₀ b := (by unfold b; split; exacts [(.ite (.updOut (.updOut ha)) ha), ha])
  have hc : Keeps w s₀ c := (by unfold c; split; exacts [(.ite (.updOut hb) hb), hb])
  exact (.showOut (.settleTarget hc))

theorem Keeps.settleOuts (h : Keeps w s₀ s) : Keeps w s₀ s.settleOuts := .foldl h fun _ _ h => .settleOut h

theorem Keeps.stepRelock (h : Keeps w s₀ s) : Keeps w s₀ s.stepRelock := .foldl h fun _ _ h => .ite h (.gatedRelock h)

theorem Keeps.showLimit (h : Keeps w s₀ s) : Keeps w s₀ s.showLimit := .setBit h

theorem Keeps.enterCoast {u restart} (h : Keeps w s₀ s) : Keeps w s₀ (s.enterCoast u restart) := .showUnit (.set (.updUnit h))

theorem Keeps.newFreq {u freq} (h : Keeps w s₀ s) : Keeps w s₀ (s.newFreq u freq) :=
  .ite (.showUnit (.set h)) (.ite (.gatedRelock (.set h)) (.ite (.ite (.showUnit (.set h)) (.unitFlag (.gatedRelock (.set h)))) (.ite (.ite
    (.showUnit (.set (.updUnit (.set h)))) (.unitFlag (.gatedRelock (.set h)))) (.gatedRelock (.set h)))))

theorem Keeps.slewStep {u} (h : Keeps w s₀ s) : Keeps w s₀ (s.slewStep u) := .ite (.showUnit (.armReleases (.set (.updUnit h)))) (.updUnit h)

theorem Keeps.writeEn {n en} (h : Keeps w s₀ s) : Keeps w s₀ (s.writeEn n en) :=
  .ite (.ite (.gatedRelock (.updOut (.set h))) (.ite (.showUnit (.updOut (.updOut (.set h)))) (.showUnit (.updOut (.set h))))) (.reviewUnit
    (.showUnit (.updOut (.set h))))

theorem Keeps.writeOutCfg {req n data} (h : Keeps w s₀ s) : Keeps w s₀ (s.writeOutCfg req n data) :=
  .ite (.accessError (.settleOut h)) (.ite (.set (.settleOut h)) (.writeEn (.set (.settleOut h))))

theorem Keeps.regrid {n} (h : Keeps w s₀ s) : Keeps w s₀ (s.regrid n) := .ite h (.updOut h)

theorem Keeps.writeGrid {req n which value} (h : Keeps w s₀ s) : Keeps w s₀ (s.writeGrid req n which value) := by
  unfold State.writeGrid
  exact .ite (.ite (.settleOut (.regrid (.set (.settleOut h)))) (.accessError (.settleOut h)))
    (.ite (.ite (.settleOut (.regrid (.set (.settleOut h)))) (.accessError (.settleOut h))) (.settleOut (.regrid (.set (.settleOut h)))))

theorem Keeps.writeDelay {req n data} (h : Keeps w s₀ s) : Keeps w s₀ (s.writeDelay req n data) := .ite (.accessError h) (.set h)

theorem Keeps.writeAlcfg {req n data} (h : Keeps w s₀ s) : Keeps w s₀ (s.writeAlcfg req n data) := .ite (.accessError h) (.sets h)

theorem Keeps.writeAloff {req n data} (h : Keeps w s₀ s) : Keeps w s₀ (s.writeAloff req n data) := .ite (.accessError h) (.set h)

theorem Keeps.writeSynCtrl {req u data} (h : Keeps w s₀ s) : Keeps w s₀ (s.writeSynCtrl req u data) :=
  .ite (.accessError h) (.ite (.gatedRelock (.settleOuts (.set h))) (.set h))

theorem Keeps.writeSynFreq {req u high data} (h : Keeps w s₀ s) : Keeps w s₀ (s.writeSynFreq req u high data) :=
  .ite (.updUnit h) (.ite (.newFreq (.settleOuts (.updUnit h))) (.accessError (.settleOuts (.updUnit h))))

theorem Keeps.loadSynth (h : Keeps w s₀ s) : Keeps w s₀ s.loadSynth :=
  .foldl (.foldl (.foldl h fun _ _ h => .updOut (.sets h)) fun _ _ h => .updUnit (.sets h)) fun _ _ h => .ite (.gatedRelock h) (.showUnit h)

/-! RingOps. -/

theorem Keeps.ringDrop {r} (h : Keeps w s₀ s) : Keeps w s₀ (s.ringDrop r) := .flag (.bumpSat h)

theorem Keeps.deliverRing {i} (h : Keeps w s₀ s) : Keeps w s₀ (s.deliverRing i) := .ite (.parts h) (.ringDrop h)

/-! TdcOps. -/

theorem Keeps.record {n type tb flags stamp value count resid} (h : Keeps w s₀ s) : Keeps w s₀
  (s.record n type tb flags stamp value count resid) := .ite (.deliverRing (.updTdc h)) (.updTdc h)

theorem Keeps.tdcMark {f n} (h : Keeps w s₀ s) : Keeps w s₀ (s.tdcMark f n) := .ite (.flag h) (.set h)

theorem Keeps.phaseResult {n c d stamp count} (h : Keeps w s₀ s) : Keeps w s₀ (s.phaseResult n c d stamp count) :=
  .ite (.tdcMark (.bumpSat h)) (.ite (.deliver (.record h)) (.record h))

theorem Keeps.openGate {n c tick free} (h : Keeps w s₀ s) : Keeps w s₀ (s.openGate n c tick free) := .set (.set (.updTdc h))

theorem Keeps.rollGate {n} (h : Keeps w s₀ s) : Keeps w s₀ (s.rollGate n) :=
  .ite (by split; exacts [(.ite (.openGate h) h), (.ite (.openGate (.updTdc h)) h)]) h

theorem Keeps.gateStamp {n g edge stamp} (h : Keeps w s₀ s) : Keeps w s₀ (s.gateStamp n g edge stamp).1 := by
  unfold State.gateStamp
  dsimp only
  split
  · exact h
  · split
    · exact h
    · exact .set (.bumpSat h)

theorem Keeps.freqStamp {n c g} (h : Keeps w s₀ s) : Keeps w s₀ (s.freqStamp n c g) := by
  unfold State.freqStamp
  extract_lets _ a b _ _
  have ha : Keeps w s₀ a := by
    unfold a
    split
    · exact .ite (.updTdc (.gateStamp h)) h
    · exact h
  have hb : Keeps w s₀ b := by
    unfold b
    split
    · exact .ite (.updTdc (.gateStamp ha)) ha
    · exact ha
  exact .withTdc hb (List.length_map _)

theorem Keeps.judgePulse {c g} (h : Keeps w s₀ s) : Keeps w s₀ (s.judgePulse c g).1 := by
  unfold State.judgePulse
  extract_lets f per
  split
  · exact .gainActivity (.updRef h)
  · extract_lets d
    split
    · exact .refFlag h
    · split
      · exact .gainActivity (.updRef h)
      · exact .gainActivity (.updRef h)

theorem Keeps.releaseStamp {n c g} (h : Keeps w s₀ s) : Keeps w s₀ (s.releaseStamp n c g) := by
  unfold State.releaseStamp
  extract_lets s' k
  have hs : Keeps w s₀ s' := .ite (.updTdc h) h
  have hj : Keeps w s₀ (if g.cls = 0 then s'.judgePulse c g else (s', some g)).1 := by split; exacts [.judgePulse hs, hs]
  refine .ite (.parts hs) (.ite ?_ (.ite (.updRef hs) (.ite (.freqStamp hs) hs)))
  dsimp only
  split
  · exact hj
  · exact .ite (.ite (.tdcMark (.bumpSat hj)) (.updRef hj)) (.phaseResult hj)

theorem Keeps.stampTaken {n at16 edge calErr} (h : Keeps w s₀ s) : Keeps w s₀ (s.stampTaken n at16 edge calErr) :=
  .ite (.ite (.ite (.updTdc h) (.updTdc (.updTdc h))) (.ite (.releaseStamp (.ite (.updTdc h) (.updTdc (.updTdc h)))) (.updRef (.ite
    (.updTdc h) (.updTdc (.updTdc h)))))) (.record (.ite (.updTdc (.ite (.updTdc h) (.updTdc (.updTdc h)))) (.ite (.updTdc h) (.updTdc
    (.updTdc h)))))

theorem Keeps.showArmed {n} (h : Keeps w s₀ s) : Keeps w s₀ (s.showArmed n) := .setBit h

theorem Keeps.tdcEdge {n half code kStop} (h : Keeps w s₀ s) : Keeps w s₀ (s.tdcEdge n half code kStop) := by
  unfold State.tdcEdge
  dsimp only
  split; exacts [(.updTdc (.set (.bumpSat (.updTdc (.rollGate h))))), (.stampTaken (.showArmed (.updTdc (.updTdc (.rollGate h)))))]

theorem Keeps.calPair {n half c1 c2} (h : Keeps w s₀ s) : Keeps w s₀ (s.calPair n half c1 c2) :=
  .ite (.ite (.tryQualify (.showArmed (.updTdc (.set h)))) (.showArmed (.updTdc (.set h)))) (.ite (.ite (.disqualify (.tdcMark (.tdcMark
    (.showArmed (.updTdc (.set h)))))) (.tdcMark (.tdcMark (.showArmed (.updTdc (.set h)))))) (.tdcMark (.showArmed (.updTdc (.set h)))))

theorem Keeps.closeGate {n c g} (h : Keeps w s₀ s) : Keeps w s₀ (s.closeGate n c g) :=
  .ite (.updTdc (.updTdc h)) (by split; exacts [(.updTdc h), (.ite (.updTdc h) (.ite (.updRef (.deliver (by split; exacts [(.updTdc
    (.updTdc h)), (.record (.updTdc (.updTdc h)))]))) (by split; exacts [(.updTdc (.updTdc h)), (.record (.updTdc (.updTdc h)))])))])

/-! VaultOps. -/

theorem Keeps.updSlot {n f} (h : Keeps w s₀ s) : Keeps w s₀ (s.updSlot n f) := .parts h

theorem Keeps.updStore {f} (h : Keeps w s₀ s) : Keeps w s₀ (s.updStore f) := .ite h (.ite (.parts h) (.parts h))

theorem Keeps.ntsFlag {f inst} (h : Keeps w s₀ s) : Keeps w s₀ (s.ntsFlag f inst) := .flag h

theorem Keeps.showPos {p} (h : Keeps w s₀ s) : Keeps w s₀ (s.showPos p) := .set (.set h)

theorem Keeps.setPosQuiet {p state gen} (h : Keeps w s₀ s) : Keeps w s₀ (s.setPosQuiet p state gen) :=
  .ite (.set (.showPos (.parts h))) (.showPos (.parts h))

theorem Keeps.setPos {p state gen} (h : Keeps w s₀ s) : Keeps w s₀ (s.setPos p state gen) := .journalPos (.setPosQuiet h)

theorem Keeps.enqueue {r} (h : Keeps w s₀ s) : Keeps w s₀ (s.enqueue r) := .parts h

theorem Keeps.storePositions (h : Keeps w s₀ s) : Keeps w s₀ s.storePositions := .enqueue h

theorem Keeps.startRotation (h : Keeps w s₀ s) : Keeps w s₀ s.startRotation := by
  unfold State.startRotation
  dsimp only
  exact (.ite h (by split; exacts [(.ntsFlag h), (.ite (.enqueue (.updStore (.set (.parts (.ite (.ntsFlag (.storePositions
    (.setPos h))) h))))) (.ntsFlag (.ite (.ntsFlag (.storePositions (.setPos h))) h)))]))

theorem Keeps.failRotation {p} (h : Keeps w s₀ s) : Keeps w s₀ (s.failRotation p) := .ntsFlag (.set (.set (.parts h)))

theorem Keeps.losePositions {n} (h : Keeps w s₀ s) : Keeps w s₀ (s.losePositions n) :=
  .foldl h fun _ _ h => .ite (.ite (.startRotation (.ntsFlag (.storePositions (.setPos h)))) (.ntsFlag (.storePositions (.setPos h)))) h

theorem Keeps.slotLeaves {n state cause} (h : Keeps w s₀ s) : Keeps w s₀ (s.slotLeaves n state cause) :=
  .ite h (.losePositions (.updSlot (.parts h)))

theorem Keeps.staleDescendants {n} (h : Keeps w s₀ s) : Keeps w s₀ (s.staleDescendants n) := .foldl h fun _ _ h => .slotLeaves h

theorem Keeps.loadKey {n key ctx origin cert} (h : Keeps w s₀ s) : Keeps w s₀ (s.loadKey n key ctx origin cert) := .updSlot (.slotLeaves h)

theorem Keeps.storeSlots {l} (h : Keeps w s₀ s) : Keeps w s₀ (s.storeSlots l) := .updStore h

theorem Keeps.restoreSlot {n} (h : Keeps w s₀ s) : Keeps w s₀ (s.restoreSlot n) :=
  .ite (by split; exacts [(.loadKey h), h]) (.ite (.loadKey h) h)

theorem Keeps.kvtFlag {f inst} (h : Keeps w s₀ s) : Keeps w s₀ (s.kvtFlag f inst) := .flag h

theorem Keeps.showQueue (h : Keeps w s₀ s) : Keeps w s₀ s.showQueue := .setBit (.foldl h fun _ _ h => .ite (.setBit (.set h)) h)

theorem Keeps.opEnd {q result stale} (h : Keeps w s₀ s) : Keeps w s₀ (s.opEnd q result stale) :=
  .ite (.kvtFlag (.set (.set (.set (.setBit (.set h)))))) (.set (.set (.set (.setBit (.set h)))))

theorem Keeps.useSlot {n} (h : Keeps w s₀ s) : Keeps w s₀ (s.useSlot n) := .updSlot h

theorem Keeps.afterLoad {r} (h : Keeps w s₀ s) : Keeps w s₀ (s.afterLoad r) :=
  .ite (.foldl (.staleDescendants h) fun _ _ h => .restoreSlot h) (.staleDescendants h)

theorem Keeps.applyUpdate {r key cert} (h : Keeps w s₀ s) : Keeps w s₀ (s.applyUpdate r key cert) :=
  .ite (.afterLoad (.loadKey h)) (.ite (.staleDescendants (.ite (.slotLeaves h) (.updSlot h))) (.ite (.afterLoad (.loadKey (.useSlot h)))
    (.ite (.afterLoad (.loadKey h)) (.ite (.loadKey (.loadKey h)) h))))

theorem Keeps.ntsUpdateEnd {r ok} (h : Keeps w s₀ s) : Keeps w s₀ (s.ntsUpdateEnd r ok) := by
  unfold State.ntsUpdateEnd
  split; exacts [(.ite (.ite (.journalPos (by split; exacts [(.journalPos (.parts h)), (.parts h)])) (.failRotation h)) h), h]

theorem Keeps.pairUpdateEnd {r ok} (h : Keeps w s₀ s) : Keeps w s₀ (s.pairUpdateEnd r ok) := .ite (.sendRecord (.useSlot (.useSlot h))) h

theorem Keeps.popUpdate {r result stale} (h : Keeps w s₀ s) : Keeps w s₀ (s.popUpdate r result stale) :=
  .showQueue (.ite (.opEnd (.parts h)) (.ite (.pairUpdateEnd (.parts h)) (.ntsUpdateEnd (.parts h))))

theorem Keeps.openUpdate (h : Keeps w s₀ s) : Keeps w s₀ s.openUpdate := by
  unfold State.openUpdate
  split; exacts [h, (.ite h (by split; exacts [(.popUpdate h), (.showQueue (.parts (.updStore h)))]))]

theorem Keeps.closeUpdate (h : Keeps w s₀ s) : Keeps w s₀ s.closeUpdate := by
  unfold State.closeUpdate
  split; exacts [(.popUpdate (.updStore (.storeSlots (.applyUpdate h)))), h]

theorem Keeps.vaultPowerFail (h : Keeps w s₀ s) : Keeps w s₀ s.vaultPowerFail := .ite (.closeUpdate h) h

theorem Keeps.rootSlots (h : Keeps w s₀ s) : Keeps w s₀ s.rootSlots := .updSlot (.updSlot h)

theorem Keeps.defineSlots (h : Keeps w s₀ s) : Keeps w s₀ s.defineSlots := .foldl h fun _ _ h => .updSlot h

theorem Keeps.startSlot {n} (h : Keeps w s₀ s) : Keeps w s₀ (s.startSlot n) := by
  unfold State.startSlot
  dsimp only
  split; exacts [(.ite (.updSlot h) (.ite (by split; exacts [(.updSlot h), (.updSlot h)]) (.ite (.updSlot h) (.updSlot h)))), (.ite
    (.updSlot h) (.updSlot h))]

theorem Keeps.restorePositions (h : Keeps w s₀ s) : Keeps w s₀ s.restorePositions := by
  unfold State.restorePositions
  dsimp only
  split; exacts [(.set (.foldl (.parts h) fun _ _ h => .showPos h)), (.foldl (.parts h) fun _ _ h => .showPos h)]

theorem Keeps.pruneRecords (h : Keeps w s₀ s) : Keeps w s₀ s.pruneRecords := .ite h (.kvtFlag (.updStore h))

theorem Keeps.vaultStart (h : Keeps w s₀ s) : Keeps w s₀ s.vaultStart :=
  .restorePositions (.foldl (.pruneRecords (.defineSlots h)) fun _ _ h => .startSlot h)

theorem Keeps.vaultPowerOn (h : Keeps w s₀ s) : Keeps w s₀ s.vaultPowerOn :=
  .ite (.kvtFlag (.rootSlots (.setBit (.set (.parts h))))) (.rootSlots (.setBit (.set (.parts h))))

theorem Keeps.zeroise (h : Keeps w s₀ s) : Keeps w s₀ s.zeroise :=
  .ite h (.kvtFlag (.showQueue (.set (.foldl (.defineSlots (.rootSlots (.setBit (.sets (.foldl (.foldl (.parts (.parts h)) fun _ _ h =>
    .ite (.opEnd h) h) fun _ _ h => .showPos h))))) fun _ _ h => .ite (.updSlot h) (.startSlot h)))))

theorem Keeps.enterDebug (h : Keeps w s₀ s) : Keeps w s₀ s.enterDebug :=
  .ite h (.vaultStart (.rootSlots (.sets (.parts (.foldl (.ite (.closeUpdate h) h) fun _ _ h => .slotLeaves h)))))

theorem Keeps.cellFault {n} (h : Keeps w s₀ s) : Keeps w s₀ (s.cellFault n) := .ite (.kvtFlag (.staleDescendants (.slotLeaves h))) h

/-! PortOps. -/

theorem Keeps.updPort {n f} (h : Keeps w s₀ s) : Keeps w s₀ (s.updPort n f) := h.withPort (length_modAt _ _ _)

theorem Keeps.svcOf {r} (h : Keeps w s₀ s) : Keeps w s₀ (s.svcOf r) := .ite (.sets h) h

theorem Keeps.showUasym (h : Keeps w s₀ s) : Keeps w s₀ s.showUasym := .foldl h fun _ _ h => .set h

theorem Keeps.prtFlag {f n detail} (h : Keeps w s₀ s) : Keeps w s₀ (s.prtFlag f n detail) := .flag h

theorem Keeps.updCtx {id f} (h : Keeps w s₀ s) : Keeps w s₀ (s.updCtx id f) := .parts h

theorem Keeps.showDrained (h : Keeps w s₀ s) : Keeps w s₀ s.showDrained := .setBit h

theorem Keeps.freeCtx {id} (h : Keeps w s₀ s) : Keeps w s₀ (s.freeCtx id) := by
  unfold State.freeCtx
  split; exacts [h, (.showDrained (.ite (.set (.parts h)) (.parts h)))]

theorem Keeps.newCtx {f} (h : Keeps w s₀ s) : Keeps w s₀ (s.newCtx f) := .showDrained (.engineEvent (.ite (.set (.parts h)) (.parts h)))

theorem Keeps.apdFlag {f n} (h : Keeps w s₀ s) : Keeps w s₀ (s.apdFlag f n) := .flag h

theorem Keeps.showCal {n} (h : Keeps w s₀ s) : Keeps w s₀ (s.showCal n) := .set (.set h)

theorem Keeps.cancelResv {id} (h : Keeps w s₀ s) : Keeps w s₀ (s.cancelResv id) := .foldl h fun _ _ h => .showCal (.updPort h)

theorem Keeps.abandon {id ctr} (h : Keeps w s₀ s) : Keeps w s₀ (s.abandon id ctr) := by
  unfold State.abandon
  dsimp only
  split; exacts [(.bump (.ite (.engineEvent (.freeCtx (.cancelResv h))) (.bump (.engineEvent (.freeCtx (.cancelResv h)))))), (.ite
    (.engineEvent (.freeCtx (.cancelResv h))) (.bump (.engineEvent (.freeCtx (.cancelResv h)))))]

theorem Keeps.sendOn {n f} (h : Keeps w s₀ s) : Keeps w s₀ (s.sendOn n f) := .ite (.emit h) (.updPort h)

theorem Keeps.laneAsk {o} (h : Keeps w s₀ s) : Keeps w s₀ (s.laneAsk o) := .updCtx (.parts (by split; exacts [(.engineEvent h), h]))

/-! Servo. -/

theorem Keeps.trainSet {n y len} (h : Keeps w s₀ s) : Keeps w s₀ (s.trainSet n y len) := .parts h

theorem Keeps.updateYat {v len} (h : Keeps w s₀ s) : Keeps w s₀ (s.updateYat v len) := .setSat (.setI (.ite (.useFree (.parts h)) (.parts h)))

theorem Keeps.characterise (h : Keeps w s₀ s) : Keeps w s₀ s.characterise := by
  unfold State.characterise
  split; exacts [(by split; exacts [h, (.ite h (.ite (.trainSet (.ite (.updateYat (.ite (.trainSet (.updSrv h)) (.updSrv h))) (.ite
    (.trainSet (.updSrv h)) (.updSrv h)))) (.ite (.updateYat (.ite (.trainSet (.updSrv h)) (.updSrv h))) (.ite (.trainSet (.updSrv h))
    (.updSrv h)))))]), (.ite (.trainSet (.updSrv h)) h)]

theorem Keeps.mainUpdate {since} (h : Keeps w s₀ s) : Keeps w s₀ (s.mainUpdate since) := by
  unfold State.mainUpdate
  extract_lets _ s' _
  have hs : Keeps w s₀ s' := .setBit h
  refine .ite (.journalUpdate (.journalChanges (.setBit (.updSrv (.freeUpdate hs))))) (.ite (.journalUpdate (.journalChanges (.updSrv
    (.holdUpdate hs))))
    (.ite ?_ (.updSrv hs)))
  split
  · exact .journalUpdate (.journalChanges (.updSrv hs))
  · exact .journalChanges (.movePhi (.journalUpdate (.journalChanges (.ite hs (.followUpdate hs)))))

theorem Keeps.writeDpCtrl {req data} (h : Keeps w s₀ s) : Keeps w s₀ (s.writeDpCtrl req data) := .ite h (.ite (.accessError h) (.propose h))

theorem Keeps.writeSrvCtrl {req n data} (h : Keeps w s₀ s) : Keeps w s₀ (s.writeSrvCtrl req n data) :=
  .ite (.accessError h) (.ite (.accessError h) (.ite (.ite (.set h) h) (.ite (.setBit (.ite (.set h) h)) (.ite (.ite (.withHrt (.setBit
    (.setBit (.ite (.set h) h))) rfl pairsKept) (.ite (.withHrt (.setBit (.setBit (.ite (.set h) h))) rfl pairsKept) (.enterManual (.setBit
    (.setBit (.ite (.set h) h)))))) (.ite (.withHrt (.setBit (.setBit (.ite (.set h) h))) rfl pairsKept) (.ite (.withHrt (.setBit (.setBit
    (.ite (.set h) h))) rfl pairsKept) (.leaveManual (.setBit (.setBit (.ite (.set h) h))))))))))

theorem Keeps.setUtcOffset {o sec} (h : Keeps w s₀ s) : Keeps w s₀ (s.setUtcOffset o sec) := .setI (.set (.set (.setI h)))

theorem Keeps.schedLeap {leap del} (h : Keeps w s₀ s) : Keeps w s₀ (s.schedLeap leap del) := .hrtFlag (.set (.setBit (.set h)))

theorem Keeps.followChange {change} (h : Keeps w s₀ s) : Keeps w s₀ (s.followChange change) := by
  unfold State.followChange
  split; exacts [(.cancelLeap h), (.ite h (.ite h (.ite (.schedLeap (.cancelLeap h)) (.hrtFlag (.cancelLeap h)))))]

theorem Keeps.takeReport {src offset change} (h : Keeps w s₀ s) : Keeps w s₀ (s.takeReport src offset change) :=
  .ite (.withHrt h rfl pairsKept) (.ite (.journalChanges (.reviewLead (.withHrt h rfl pairsKept))) (.journalChanges (.followChange (.ite
    (.setUtcOffset (.set (.withHrt h rfl pairsKept))) (.set (.withHrt h rfl pairsKept))))))

theorem Keeps.utcwSetoff {offset} (h : Keeps w s₀ s) : Keeps w s₀ (s.utcwSetoff offset) := .takeReport (.withHrt (.setI h) rfl pairsKept)

theorem Keeps.utcwSched {del} (h : Keeps w s₀ s) : Keeps w s₀ (s.utcwSched del) := .takeReport (.setBit h)

/-! MsgOps. -/

theorem Keeps.makeCookies {p keys n} (h : Keeps w s₀ s) : Keeps w s₀ (s.makeCookies p keys n).1 := by
  induction n generalizing s with
  | zero => exact h
  | succ n ih => exact ih h.useFree

theorem Keeps.ntsSeal {x body} (h : Keeps w s₀ s) : Keeps w s₀ (s.ntsSeal x body).1 := h.useFree

theorem Keeps.askSeal {x deadline} (h : Keeps w s₀ s) : Keeps w s₀ (s.askSeal x deadline) := .ite (.updCtx h) (.ite (.laneAsk h) (.laneAsk h))

theorem Keeps.sealCtx {id} (h : Keeps w s₀ s) : Keeps w s₀ (s.sealCtx id) := by
  unfold State.sealCtx
  split; exacts [h, (.ite (.updCtx (.ntsSeal h)) (by split; exacts [(.updCtx h), (.updCtx h)]))]

/-! DepartOps. -/

theorem Keeps.gateInc {n x2} (h : Keeps w s₀ s) : Keeps w s₀ (s.gateInc n x2) := by
  unfold State.gateInc
  split; exacts [(.bump h), (.bumpSat h), (.bumpSat h), (.bumpSat h), (.bumpSat h)]

theorem Keeps.gateCount {x g} (h : Keeps w s₀ s) : Keeps w s₀ (s.gateCount x g) := .ite (.gateInc h) h

theorem Keeps.gateHeld {x} (h : Keeps w s₀ s) : Keeps w s₀ (s.gateHeld x) := .foldl h fun _ _ h => .gateInc h

theorem Keeps.dropMsg {x cause} (h : Keeps w s₀ s) : Keeps w s₀ (s.dropMsg x cause) :=
  .ite (.freeCtx (.cancelResv (.apdFlag (.set (.bumpSat (.gateHeld h)))))) (.bump (.freeCtx (.cancelResv (.apdFlag (.set (.bumpSat
    (.gateHeld h)))))))

theorem Keeps.tryRelease {id} (h : Keeps w s₀ s) : Keeps w s₀ (s.tryRelease id) := by
  unfold State.tryRelease
  split; exacts [h, (.ite (.ite (.dropMsg h) (.sendOn (.updCtx h))) h)]

theorem Keeps.fallTwoStep {x} (h : Keeps w s₀ s) : Keeps w s₀ (s.fallTwoStep x) := .tryRelease (.askSeal (.updCtx (.apdFlag (.gateCount h))))

theorem Keeps.freeRelease {x} (h : Keeps w s₀ s) : Keeps w s₀ (s.freeRelease x) :=
  .tryRelease (.ite (.updCtx (.apdFlag (.gateCount h))) (.askSeal (.updCtx (.apdFlag (.gateCount h)))))

theorem Keeps.afterCollapse {x cause clear atRelease} (h : Keeps w s₀ s) : Keeps w s₀ (s.afterCollapse x cause clear atRelease) :=
  .ite (.dropMsg h) (.ite (.freeRelease h) (.ite (.ite (.fallTwoStep h) (.dropMsg h)) (.ite (.ite (.fallTwoStep h) (.dropMsg h))
    (.updCtx h))))

theorem Keeps.collapse {n id cause clear atRelease} (h : Keeps w s₀ s) : Keeps w s₀ (s.collapse n id cause clear atRelease) := by
  unfold State.collapse
  dsimp only
  split; exacts [(.apdFlag (.gateInc (.set (.clusterEvent (.showCal (.updPort h)))))), (.afterCollapse (.updCtx (.apdFlag (.gateCount (.set
    (.clusterEvent (.showCal (.updPort h))))))))]

theorem Keeps.grantAt {x e occ cut} (h : Keeps w s₀ s) : Keeps w s₀ (s.grantAt x e occ cut) :=
  .ite (.ite (.bump (.freeCtx h)) (.abandon h)) (.askSeal (.updCtx (.ite (.gateCount (.gateCount (.showCal (.updPort h)))) (.gateCount
    (.showCal (.updPort h))))))

theorem Keeps.reserve {x starts} (h : Keeps w s₀ s) : Keeps w s₀ (s.reserve x starts) :=
  .ite (.collapse h) (.ite (.collapse h) (by split; exacts [(.grantAt h), (.ite (.collapse h) (.collapse h))]))

theorem Keeps.releaseOne {n r} (h : Keeps w s₀ s) : Keeps w s₀ (s.releaseOne n r) :=
  .ite (.collapse h) (by split; exacts [(.showCal (.updPort h)), (.showCal (.updPort h))])

theorem Keeps.debit {p addr} (h : Keeps w s₀ s) : Keeps w s₀ (s.debit p addr) := .parts h

theorem Keeps.showGrants (h : Keeps w s₀ s) : Keeps w s₀ s.showGrants := .set h

theorem Keeps.putGrant {i g} (h : Keeps w s₀ s) : Keeps w s₀ (s.putGrant i g) := .journalGrant (.showGrants (.parts h))

theorem Keeps.ptpFlag {f inst detail} (h : Keeps w s₀ s) : Keeps w s₀ (s.ptpFlag f inst detail) := .flag h

theorem Keeps.applyEff {x1} (h : Keeps w s₀ s) : Keeps w s₀ (s.applyEff x1) := by
  unfold State.applyEff
  split; exacts [(.debit h), (.ite (.bump h) (.ite (.bump h) (.ite (.bump h) (.ite (.bump h) (.bump h))))), (by split; exacts
    [(.putGrant h), (.putGrant h)]), (.ptpFlag h), (.putGrant h), (by split; exacts [(.putGrant h), h]), (by split; exacts [(.ite (.ptpFlag
    (.putGrant h)) (.putGrant h)), h]), (.ite (.ptpFlag (.ite (.parts h) (.parts h))) (.ite (.parts h) (.parts h))), (.bump h)]

theorem Keeps.commit {x} (h : Keeps w s₀ s) : Keeps w s₀ (s.commit x) :=
  .ite (.tryRelease (.clusterEvent (.ite (.ntsFlag (.bump (.updCtx (.gateHeld (.ite (.bump (.foldl h fun _ _ h => .applyEff h))
    (.foldl h fun _ _ h => .applyEff h)))))) (.updCtx (.gateHeld (.ite (.bump (.foldl h fun _ _ h => .applyEff h)) (.foldl h fun _ _ h =>
    .applyEff h))))))) (.abandon (.clusterEvent h))

/-! EngOps. -/

theorem Keeps.ringFrame {ring r f dflt copy} (h : Keeps w s₀ s) : Keeps w s₀ (s.ringFrame ring r f dflt copy) := .deliverRing h

theorem Keeps.toPipe {p label f r dflt} (h : Keeps w s₀ s) : Keeps w s₀ (s.toPipe p label f r dflt) :=
  .ite (.bumpSat h) (.ite (.bumpSat h) (.ite (.flag (.bumpSat h)) (.bump (.parts h))))

theorem Keeps.actOn {e f r} (h : Keeps w s₀ s) : Keeps w s₀ (s.actOn e f r) := by
  unfold State.actOn
  split; exacts [(.toPipe h), (.ringFrame h), (.ringFrame h), (.ringFrame (.toPipe h)), h]

theorem Keeps.classify {port f r} (h : Keeps w s₀ s) : Keeps w s₀ (s.classify port f r) := by
  unfold State.classify
  dsimp only
  split; exacts [(.actOn (.parts (.clusterEvent h))), (.ite (.clusterEvent (.clusterEvent h)) (.toPipe (.clusterEvent (.clusterEvent h))))]

theorem Keeps.ringDone {ring idx status r stamp} (h : Keeps w s₀ s) : Keeps w s₀ (s.ringDone ring idx status r stamp) := .parts h

theorem Keeps.afterSent {f r trunc} (h : Keeps w s₀ s) : Keeps w s₀ (s.afterSent f r trunc) := by
  unfold State.afterSent
  split; exacts [h, (.ringDone h), (by split; exacts [h, (.ite (by split; exacts [(.freeCtx h), (.ite (.freeCtx h) (.tryRelease (.askSeal
    (.bump (.updCtx h)))))]) (.ite (.freeCtx (.parts h)) (.ite (.freeCtx (.updPair h)) (.freeCtx h))))])]

theorem Keeps.drainFifo {n} (h : Keeps w s₀ s) : Keeps w s₀ (s.drainFifo n) := .ite h (.foldl (.updPort h) fun _ _ h => .afterSent h)

theorem Keeps.sentFrame {n f appointed edge b trunc} (h : Keeps w s₀ s) : Keeps w s₀ (s.sentFrame n f appointed edge b trunc) := by
  unfold State.sentFrame
  extract_lets _ _ _ a c
  have ha : Keeps w s₀ a := (.ite (.bump h) h)
  have hc : Keeps w s₀ c := (.ite (.apdFlag (.bumpSat ha)) ha)
  exact (.ite (.afterSent hc) (.ite (.afterSent (.prtFlag (.bumpSat (.ite hc (.bumpSat hc))))) (.drainFifo (.updPort (.ite hc
    (.bumpSat hc))))))

theorem Keeps.failFrame {f} (h : Keeps w s₀ s) : Keeps w s₀ (s.failFrame f) := by
  unfold State.failFrame
  split; exacts [h, (.ringDone h), (by split; exacts [h, (.ite (.freeCtx h) (.dropMsg h))])]

theorem Keeps.portDown {n} (h : Keeps w s₀ s) : Keeps w s₀ (s.portDown n) :=
  .ite h (.showUasym (.foldl (.ite (.acalFail (.foldl (.updPort (.foldl (.prtFlag (.updPort (.sets h))) fun _ _ h =>
    .collapse h)) fun _ _ h => .failFrame h)) (.foldl (.updPort (.foldl (.prtFlag (.updPort (.sets h))) fun _ _ h =>
    .collapse h)) fun _ _ h => .failFrame h)) fun _ _ h => .losePresence (.updRef h)))

/-! RingCmds. -/

theorem Keeps.stopRing {r} (h : Keeps w s₀ s) : Keeps w s₀ (s.stopRing r) :=
  .ite (.foldl (.withPort (.set h) (List.length_map _)) fun _ _ h => .ite h (.ringDone h)) (.foldl (.parts (.set h)) fun _ _ h =>
    .ringDrop h)

theorem Keeps.stopOnEcc {r addr} (h : Keeps w s₀ s) : Keeps w s₀ (s.stopOnEcc r addr) := .flag (.stopRing (.xbrError (.eccError h)))

theorem Keeps.takeDesc {r i desc frame} (h : Keeps w s₀ s) : Keeps w s₀ (s.takeDesc r i desc frame) :=
  .ite (.ringDone h) (.ite (.ringDone (.toPipe h)) (.ite (.ringDone h) (.ite (.ringDone (.sendOn h)) (.sendOn h))))

theorem Keeps.takeDescs {r n i l} (h : Keeps w s₀ s) : Keeps w s₀ (s.takeDescs r n i l) := by
  induction n generalizing s i l with
  | zero => exact h
  | succ n ih => exact .ite (.stopOnEcc h) (ih (.takeDesc h))

theorem Keeps.writeProd {req r prod posted} (h : Keeps w s₀ s) : Keeps w s₀ (s.writeProd req r prod posted) :=
  .ite (.accessError h) (.ite (.takeDescs (.set h)) (.set h))

theorem Keeps.ringSignal {r} (h : Keeps w s₀ s) : Keeps w s₀ (s.ringSignal r) := .ite (.emit (.parts h)) (.msix (.parts h))

theorem Keeps.ringComplete {r} (h : Keeps w s₀ s) : Keeps w s₀ (s.ringComplete r) := .ite h (.ite (.ringSignal h) (.parts h))

theorem Keeps.dstamp (h : Keeps w s₀ s) : Keeps w s₀ s.dstamp.1 := by
  unfold State.dstamp
  split
  · exact h
  · exact h.useFree

theorem Keeps.dmaWrite {r addr b} (h : Keeps ⟨false, u, p⟩ s₀ s) : Keeps ⟨false, u, p⟩ s₀ (s.dmaWrite r addr b) :=
  .ite (.sramStore (.touchSram h)) (.emit h)

theorem Keeps.writeHostBound {r desc i} (h : Keeps ⟨false, u, p⟩ s₀ s) : Keeps ⟨false, u, p⟩ s₀ (s.writeHostBound r desc i) :=
  .ringComplete (.set (.dmaWrite (.dmaWrite (.dstamp h))))

theorem Keeps.writeEngineBound {r desc t} (h : Keeps ⟨false, u, p⟩ s₀ s) : Keeps ⟨false, u, p⟩ s₀ (s.writeEngineBound r desc t) :=
  .ringComplete (.set (.dmaWrite (.dstamp h)))

theorem Keeps.writeRingCfg {req r data} (h : Keeps w s₀ s) : Keeps w s₀ (s.writeRingCfg req r data) :=
  .ite (.accessError h) (.ite (.parts (.sets (.sets h))) (.ite (.stopRing (.sets h)) (.sets h)))

/-! Crossbar. -/

theorem Keeps.grantAccess {t r} (h : Keeps ⟨false, u, p⟩ s₀ s) : Keeps ⟨false, u, p⟩ s₀ (s.grantAccess t r) := by
  unfold State.grantAccess
  split; exacts [(.sramBytes (.set h)), (.ite (.xbrFail (.eccError (.set h))) (.ite (.emit (.set h)) (by split; exacts [(.emit (.updSys
    (.set (.set h)))), (.ite (.xbrFail (.bumpSat (.set h))) (.emit (.sramStore (.set h))))])))]

theorem Keeps.serveTarget {b k} (h : Keeps ⟨false, u, p⟩ s₀ s) : Keeps ⟨false, u, p⟩ s₀ (s.serveTarget b k) := by
  induction k generalizing s with
  | zero => exact h
  | succ k ih => exact .ite h (by split; exacts [h, ih (.grantAccess (.updSys h))])

theorem Keeps.askTarget {t r} (h : Keeps ⟨false, u, p⟩ s₀ s) : Keeps ⟨false, u, p⟩ s₀ (s.askTarget t r) := .serveTarget (.touchSram (.updSys h))

theorem Keeps.serveTargets (h : Keeps ⟨false, u, p⟩ s₀ s) : Keeps ⟨false, u, p⟩ s₀ s.serveTargets := .foldl h fun _ _ h => .serveTarget h

theorem Keeps.unlock {t} (h : Keeps ⟨false, u, p⟩ s₀ s) : Keeps ⟨false, u, p⟩ s₀ (s.unlock t) := .serveTarget (.updSys (.set h))

theorem Keeps.lockExpires {t} (h : Keeps ⟨false, u, p⟩ s₀ s) : Keeps ⟨false, u, p⟩ s₀ (s.lockExpires t) := .unlock (.bumpSat h)

theorem Keeps.lockedAccess {m addr n write} (h : Keeps ⟨false, u, p⟩ s₀ s) : Keeps ⟨false, u, p⟩ s₀ (s.lockedAccess m addr n write) :=
  .ite (.abortAccess h) (by split; exacts [(.xbrFail h), (by split; exacts [(.askTarget h), (by split; exacts [(.ite (.xbrFail h) (.ite
    (.xbrFail (.lockExpires h)) (.unlock (.emit (.sramStore h))))), (.xbrFail h)])])])

theorem Keeps.resetMaster {m inFlight} (h : Keeps ⟨false, u, p⟩ s₀ s) : Keeps ⟨false, u, p⟩ s₀ (s.resetMaster m inFlight) :=
  .foldl (.ite (.set (by split; exacts [(.parts (.updSys h)), (.updSys h)])) (by split; exacts [(.parts (.updSys h)),
    (.updSys h)])) fun _ _ h => .unlock h

theorem Keeps.scrubWord {addr double} (h : Keeps w s₀ s) : Keeps w s₀ (s.scrubWord addr double) := .ite (.updSys (.eccError h)) (.bumpSat h)

theorem Keeps.closedBank {req addr} (h : Keeps w s₀ s) : Keeps w s₀ (s.closedBank req addr) := .accessError (.xbrFail h)

theorem Keeps.atomicOp {k space n addr a b late} (h : Keeps ⟨false, u, p⟩ s₀ s) : Keeps ⟨false, u, p⟩ s₀ (s.atomicOp k space n addr a b late) :=
  .ite (.emit h) (.ite (.abortAccess h) (by split; exacts [(.xbrFail h), (.ite (.askTarget h) (.closedBank h))]))

theorem Keeps.writeHwin {req data} (h : Keeps w s₀ s) : Keeps w s₀ (s.writeHwin req data) := .ite (.set h) (.accessError h)

theorem Keeps.resetPci (h : Keeps ⟨false, u, p⟩ s₀ s) : Keeps ⟨false, u, p⟩ s₀ s.resetPci :=
  .foldl (.parts (.foldl (.resetMaster (.resetMaster (.updSys h))) fun _ _ h => .ite (.stopRing h) h)) fun _ _ h => .ringDrop h

/-! Ports. -/

theorem Keeps.hearFrag {n f} (h : Keeps w s₀ s) : Keeps w s₀ (s.hearFrag n f) := by
  unfold State.hearFrag
  split; exacts [h, (.updPort h)]

theorem Keeps.latcal {n} (h : Keeps w s₀ s) : Keeps w s₀ (s.latcal n) := .ite h (.showUasym (.updPort (.sets h)))

theorem Keeps.asymcal {n} (h : Keeps w s₀ s) : Keeps w s₀ (s.asymcal n) :=
  .ite h (by split; exacts [(.acalFail h), (.ite (.acalFail h) (.ite (.acalFail h) (.ite (.acalFail h) (.updPort (.set h)))))])

theorem Keeps.acalEnd {n k} (h : Keeps w s₀ s) : Keeps w s₀ (s.acalEnd n k) :=
  .ite (.acalFail h) (.ite (.acalFail h) (.prtFlag (.showUasym (.updPort (.sets (.setISat h))))))

theorem Keeps.mgLink {speed} (h : Keeps w s₀ s) : Keeps w s₀ (s.mgLink speed) := .ite (.flag (.set h)) (.ite (.flag (.set h)) (.set h))

theorem Keeps.showTxdis {n} (h : Keeps w s₀ s) : Keeps w s₀ (s.showTxdis n) := .set h

/-! Refs. -/

theorem Keeps.judgeOldest {c} (h : Keeps w s₀ s) : Keeps w s₀ (s.judgeOldest c) := by
  unfold State.judgeOldest
  split; exacts [h, (.updRef (.judgePulse h))]

theorem Keeps.irigFail {c} (h : Keeps w s₀ s) : Keeps w s₀ (s.irigFail c) :=
  .ite (.loseActivity (.set (.updRef (.refFlag h)))) (.updRef (.refFlag h))

theorem Keeps.irigGood {c f t pr16} (h : Keeps w s₀ s) : Keeps w s₀ (s.irigGood c f t pr16) := by
  unfold State.irigGood
  dsimp only
  split; exacts [(.gainActivity (.setBit (.set (.set (.updRef h))))), (.ite (.gainActivity (.setBit (.set (.set (.updRef h)))))
    (.phaseResult (.gainActivity (.setBit (.set (.set (.updRef h)))))))]

theorem Keeps.antennaSample {mA} (h : Keeps w s₀ s) : Keeps w s₀ (s.antennaSample mA) := by
  unfold State.antennaSample
  extract_lets a ch lose gain open_ clear noShort
  have ha : Keeps w s₀ a := .setBit (.set h)
  have hlose : ∀ t, Keeps w s₀ t → Keeps w s₀ (lose t) := fun t ht => by cases hc : ch <;> simp only [lose, hc]; exacts [ht, .losePresence ht]
  have hgain : ∀ t, Keeps w s₀ t → Keeps w s₀ (gain t) := fun t ht => by cases hc : ch <;> simp only [gain, hc]; exacts [ht, .gainPresence ht]
  have hopen : ∀ t, Keeps w s₀ t → Keeps w s₀ (open_ t) := fun t ht => .ite ht (.flag (.set ht))
  have hb : Keeps w s₀ (noShort (open_ (a.set F.REF_ANT.SHORT 0))) := .parts (hopen _ (.set ha))
  exact .ite ha (.ite (hlose _ (.set (.parts (.ite ha (.flag (.set ha))))))
    (.ite (.ite (hlose _ hb) (hgain _ hb)) (hgain _ (.parts (.setBit (.sets ha))))))

theorem Keeps.evalClass {c} (h : Keeps w s₀ s) : Keeps w s₀ (s.evalClass c) :=
  .ite (.ite h (.setSat h)) (.ite (.disqualify (.refFlag (.set (.ite h (.setSat h))))) (.tryQualify (.refFlag (.set (.ite h (.setSat h))))))

theorem Keeps.setUinPresence {k p} (h : Keeps w s₀ s) : Keeps w s₀ (s.setUinPresence k p) := by
  unfold State.setUinPresence
  dsimp only
  split; exacts [(.set (.setBit h)), (.ite (.gainPresence (.set (.setBit h))) (.losePresence (.set (.setBit h))))]

theorem Keeps.writeRefCfg {req c data} (h : Keeps w s₀ s) : Keeps w s₀ (s.writeRefCfg req c data) :=
  .ite (.accessError h) (.reviewOff (.evalClass (.ite (.set (.sets h)) (.sets h))))

theorem Keeps.writeNomfreq {req c high data} (h : Keeps w s₀ s) : Keeps w s₀ (s.writeNomfreq req c high data) :=
  .ite (.accessError h) (.ite (.parts h) (.ite (.accessError (.parts h)) (by split; exacts [(.ite (.set (.set (.parts h))) (.set
    (.parts h))), (.set (.parts h))])))

/-! Synth. -/

theorem Keeps.dwellEnd {n mean} (h : Keeps w s₀ s) : Keeps w s₀ (s.dwellEnd n mean) :=
  .ite (.updOut (.set (.setISat (.setISat h)))) (.ite (.outFlag (.updOut (.set (.setISat h)))) (.setISat (.setISat h)))

theorem Keeps.lineStart {n c at16} (h : Keeps w s₀ s) : Keeps w s₀ (s.lineStart n c at16) := by
  unfold State.lineStart
  dsimp only
  split; exacts [h, (.ite h (.ite (.outFlag h) (.showOut (.updOut h))))]

/-! Engines. -/

theorem Keeps.choseEngine {p st k} (h : Keeps w s₀ s) : Keeps w s₀ (s.choseEngine p st k) := .parts h

theorem Keeps.showCtx {k} (h : Keeps w s₀ s) : Keeps w s₀ (s.showCtx k) := .ite (.set h) h

theorem Keeps.hostService {i} (h : Keeps w s₀ s) : Keeps w s₀ (s.hostService i) := by
  unfold State.hostService
  dsimp only
  split; exacts [(.ite (.sendOn h) h), (.ringFrame h)]

theorem Keeps.writeDrain {req on} (h : Keeps w s₀ s) : Keeps w s₀ (s.writeDrain req on) :=
  .ite (.accessError h) (.ite (.showDrained (.set h)) (.ite h (.showDrained (.foldl (.parts (.set h)) fun _ _ h => .abandon h))))

theorem Keeps.showLanes (h : Keeps w s₀ s) : Keeps w s₀ s.showLanes := .set (.set h)

theorem Keeps.ctxRefused {x} (h : Keeps w s₀ s) : Keeps w s₀ (s.ctxRefused x) := .ite (.dropMsg h) (.abandon h)

theorem Keeps.laneBack {o stale refused} (h : Keeps w s₀ s) : Keeps w s₀ (s.laneBack o stale refused) := by
  unfold State.laneBack
  dsimp only
  split; exacts [h, (by split; exacts [(.updCtx h), (.ite (.ctxRefused (.updCtx h)) (.ite (.tryRelease (.sealCtx (.updCtx h)))
    (.updCtx h)))])]

theorem Keeps.clsWrite {req} (h : Keeps w s₀ s) : Keeps w s₀ (s.clsWrite req) :=
  .ite h (.ite (.accessError h) (.ite (.accessError h) (.set (.parts h))))

theorem Keeps.clsRead {req} (h : Keeps w s₀ s) : Keeps w s₀ (s.clsRead req) := .sets h

/-! Nts. -/

theorem Keeps.ntsAsk {x} (h : Keeps w s₀ s) : Keeps w s₀ (s.ntsAsk x) :=
  .foldl (.ite (.laneAsk (.ite (.laneAsk h) h)) (.ite (.laneAsk h) h)) fun _ _ h => .laneAsk h

theorem Keeps.sketchChecked {x plan} (h : Keeps w s₀ s) : Keeps w s₀ (s.sketchChecked x plan) := by
  unfold State.sketchChecked
  split; exacts [(.ite h (.clusterEvent h)), (.ite (.clusterEvent h) h)]

theorem Keeps.writeRotctrl {req data} (h : Keeps w s₀ s) : Keeps w s₀ (s.writeRotctrl req data) :=
  .ite (.accessError h) (.when (.when h (fun _ h => .setBit (.startRotation h))) (fun _ h => .useFree (.parts h)))

theorem Keeps.rotSwitch {r t} (h : Keeps w s₀ s) : Keeps w s₀ (s.rotSwitch r t) :=
  .ntsFlag (.storePositions (.sets (.parts (.setPosQuiet (by split; exacts [(.setPosQuiet h), h])))))

theorem Keeps.applyKeys (h : Keeps w s₀ s) : Keeps w s₀ s.applyKeys :=
  .ite h (.storePositions (.foldl (.updPair h) fun _ _ h => .setPosQuiet h))

theorem Keeps.showKe (h : Keeps w s₀ s) : Keeps w s₀ s.showKe := .setSat (.set (.parts h))

theorem Keeps.keEvent {cause} (h : Keeps w s₀ s) : Keeps w s₀ (s.keEvent cause) := .occur h

theorem Keeps.keClose {c} (h : Keeps w s₀ s) : Keeps w s₀ (s.keClose c) := .showKe (.parts h)

theorem Keeps.keCookies {p keys n} (h : Keeps w s₀ s) : Keeps w s₀ (s.keCookies p keys n).1 := by
  induction n generalizing s with
  | zero => exact h
  | succ n ih => exact ih h.useFree

theorem Keeps.keExchange {c keys acceptable} (h : Keeps w s₀ s) : Keeps w s₀ (s.keExchange c keys acceptable) := by
  unfold State.keExchange
  refine .ite (.keClose (.keEvent h)) (.keClose (.emit ?_))
  dsimp only
  split
  · split; exacts [.keCookies (.useSlot (.parts h)), .useSlot (.parts h)]
  · exact .useSlot (.parts h)

theorem Keeps.mgReply {y} (h : Keeps w s₀ s) : Keeps w s₀ (s.mgReply y) := by
  unfold State.mgReply
  refine .ite (.bump h) (.ite (.bump h) (.ite (.bump h) (.sendOn ?_)))
  by_cases hk : y.kind = 1 ∨ y.kind = 3
  · simp only [hk, if_true]
    exact .ntsSeal (.foldl (.makeCookies h) fun _ _ h => .applyEff h)
  · simp only [hk, if_false]
    exact .foldl h fun _ _ h => .applyEff h

/-! PtpOps. -/

theorem Keeps.showPtpUkind {c} (h : Keeps w s₀ s) : Keeps w s₀ (s.showPtpUkind c) := .set h

theorem Keeps.upOffset {n c t1 t2 stamp} (h : Keeps w s₀ s) : Keeps w s₀ (s.upOffset n c t1 t2 stamp) := by
  unfold State.upOffset
  dsimp only
  split; exacts [(.parts h), (.set (.deliver (.parts h)))]

theorem Keeps.rxSync {n c m l r} (h : Keeps w s₀ s) : Keeps w s₀ (s.rxSync n c m l r) :=
  .ite (.parts (by split; exacts [(.parts (.parts h)), (.parts h)])) (.upOffset (.showPtpUkind (.parts (by split; exacts [(.parts
    (.parts h)), (.parts h)]))))

theorem Keeps.rxFollowUp {n c m l} (h : Keeps w s₀ s) : Keeps w s₀ (s.rxFollowUp n c m l) := by
  unfold State.rxFollowUp
  split; exacts [h, (.ite h (.upOffset (.showPtpUkind (by split; exacts [(.parts (.parts h)), (.parts h)]))))]

theorem Keeps.rxDelayResp {n m} (h : Keeps w s₀ s) : Keeps w s₀ (s.rxDelayResp n m) := by
  unfold State.rxDelayResp
  split; exacts [(.ite (.parts h) h), h]

theorem Keeps.rxPdelayResp {n m t4} (h : Keeps w s₀ s) : Keeps w s₀ (s.rxPdelayResp n m t4) := by
  unfold State.rxPdelayResp
  split; exacts [(.ite (.ite (.parts h) (.parts h)) h), h]

theorem Keeps.rxPdelayFollow {n m} (h : Keeps w s₀ s) : Keeps w s₀ (s.rxPdelayFollow n m) := by
  unfold State.rxPdelayFollow
  split; exacts [(.ite (.parts h) h), h]

theorem Keeps.rxAnnounce {n m l addr} (h : Keeps w s₀ s) : Keeps w s₀ (s.rxAnnounce n m l addr) :=
  .ite (.parts h) (by split; exacts [(.parts h), (.ite (.gainPresence (.set (.showPtpUkind (.updRef (.sets (by split; exacts [(.parts
    (.parts h)), (.parts h)])))))) (.showPtpUkind (.updRef (.sets (by split; exacts [(.parts (.parts h)), (.parts h)])))))])

/-! PeerOps. -/

theorem Keeps.updPeer {k f} (h : Keeps w s₀ s) : Keeps w s₀ (s.updPeer k f) := .updPair h

theorem Keeps.losePeer {k} (h : Keeps w s₀ s) : Keeps w s₀ (s.losePeer k) := .ite (.flag (.set h)) h

theorem Keeps.peerOffset {k t1 t2} (h : Keeps w s₀ s) : Keeps w s₀ (s.peerOffset k t1 t2) := by
  unfold State.peerOffset
  dsimp only
  split; exacts [(.updPeer h), (.ite (.updPeer (.set (.setISat (.updPeer h)))) (.set (.updPeer (.set (.setISat (.updPeer h))))))]

theorem Keeps.peerMessage {k auth m l r} (h : Keeps w s₀ s) : Keeps w s₀ (s.peerMessage k auth m l r) := by
  unfold State.peerMessage
  dsimp only
  exact (.ite h (by split; exacts [(.ite (.updPeer (by split; exacts [(.updPeer (.updPeer h)), (.updPeer h)])) (.peerOffset (.updPeer
    (by split; exacts [(.updPeer (.updPeer h)), (.updPeer h)])))), (by split; exacts [(.ite h (.peerOffset (by split; exacts [(.updPeer
    (.updPeer h)), (.updPeer h)]))), h]), (by split; exacts [(.ite (.updPeer h) h), h]), (by split; exacts [(.updPeer h), h]), h]))

theorem Keeps.reviewEns {g} (h : Keeps w s₀ s) : Keeps w s₀ (s.reviewEns g) := by
  unfold State.reviewEns
  split; exacts [h, (.ite (.gainPresence h) (.losePresence (.set h)))]

theorem Keeps.ensemble {g} (h : Keeps w s₀ s) : Keeps w s₀ (s.ensemble g) := by
  unfold State.ensemble
  extract_lets _ _ _ _ a
  have ha : Keeps w s₀ a := (.foldl (.sets h) fun _ _ h => .setBit h)
  exact (.ite (.reviewEns (by split; exacts [(.set (.set ha)), (.set ha)])) (by split; exacts [(.ite (.gainActivity (.set (.deliver (.set
    (.reviewEns (.set (.setISat ha))))))) (.reviewEns (.set (.setISat ha)))), (.reviewEns (.set (.setISat ha)))]))

/-! Ptp. -/

theorem Keeps.replyPlain {x} (h : Keeps w s₀ s) : Keeps w s₀ (s.replyPlain x) := .askSeal (.updCtx h)

theorem Keeps.planDelayReq {x auth y} (h : Keeps w s₀ s) (hp : s.planDelayReq x auth = .ok y) : Keeps w s₀ y.1 := by
  unfold State.planDelayReq at hp
  extract_lets n uni key found t g free dest spp eff at hp
  have ht : Keeps w s₀ t := by
    clear_value found
    cases found with
    | none => exact h
    | some p => exact .ite (.putGrant h) h
  clear_value t g dest spp eff
  replace hp := ok_of_ite_error (ok_of_ite_error (ok_of_ite_error hp))
  split at hp
  · contradiction
  obtain rfl | rfl := eq_or_eq_of_ite_ok hp <;> exact ht

theorem Keeps.ptpAbandon {id r} (h : Keeps w s₀ s) : Keeps w s₀ (s.ptpAbandon id r) := .ite (.ptpFlag (.abandon h)) (.abandon h)

theorem Keeps.buildStream {n mt dest sa seq log next uni adv} (h : Keeps w s₀ s) : Keeps w s₀
  (s.buildStream n mt dest sa seq log next uni adv) := .ite (.newCtx h) (.askSeal (.newCtx h))

theorem Keeps.gRead {req} (h : Keeps w s₀ s) : Keeps w s₀ (s.gRead req) := .sets h

theorem Keeps.gFlush (h : Keeps w s₀ s) : Keeps w s₀ s.gFlush := .foldl h fun _ _ h => .putGrant h

theorem Keeps.writeGctrl {req data} (h : Keeps w s₀ s) : Keeps w s₀ (s.writeGctrl req data) :=
  .ite (.accessError h) (.when (.when (.when h (fun _ h => .gRead h)) (fun _ h => .putGrant h)) (fun _ h => .gFlush h))

theorem Keeps.setPortState {n st} (h : Keeps w s₀ s) : Keeps w s₀ (s.setPortState n st) :=
  .ite h (.ite (.parts (.ite (.parts (.ite (.foldl (.flag (.set h)) fun _ _ h => .putGrant h) (.flag (.set h)))) (.ite (.foldl (.flag
    (.set h)) fun _ _ h => .putGrant h) (.flag (.set h))))) (.ite (.parts (.ite (.foldl (.flag (.set h)) fun _ _ h => .putGrant h) (.flag
    (.set h)))) (.ite (.foldl (.flag (.set h)) fun _ _ h => .putGrant h) (.flag (.set h)))))

theorem Keeps.reviewParent (h : Keeps w s₀ s) : Keeps w s₀ s.reviewParent := by
  unfold State.reviewParent
  split; exacts [(.ite (.parts h) h), (.ite h (.ite (.ptpFlag (by split; exacts [(.parts h), (.ite (.losePresence (.set (.set (.parts h))))
    (.parts h))])) (by split; exacts [(.parts h), (.ite (.losePresence (.set (.set (.parts h)))) (.parts h))])))]

theorem Keeps.showPtpQuality (h : Keeps w s₀ s) : Keeps w s₀ s.showPtpQuality := .setBit (.set (.ite h (.ptpFlag (.set h))))

theorem Keeps.sendDelayReq (h : Keeps w s₀ s) : Keeps w s₀ s.sendDelayReq := by
  unfold State.sendDelayReq
  split; exacts [h, (.when h (fun _ h => .tryRelease (.askSeal (.newCtx (.parts h)))))]

theorem Keeps.sendPeerReq {k} (h : Keeps w s₀ s) : Keeps w s₀ (s.sendPeerReq k) := by
  unfold State.sendPeerReq
  exact (.when h (fun _ h => .tryRelease (.askSeal (.newCtx (.updPeer h)))))

/-! TwinOps. -/

theorem Keeps.selfCheck (h : Keeps w s₀ s) : Keeps w s₀ s.selfCheck := by
  unfold State.selfCheck
  exact (.updPair (.set h))

theorem Keeps.sendAck {need answer} (h : Keeps w s₀ s) : Keeps w s₀ (s.sendAck need answer) := .sendRecord (.ite (.bumpSat h) h)

theorem Keeps.ackNow {answer} (h : Keeps w s₀ s) : Keeps w s₀ (s.ackNow answer) := .sendAck h

theorem Keeps.cancelSwap (h : Keeps w s₀ s) : Keeps w s₀ s.cancelSwap := .ite (.pairFlag (.set (.updPair h))) h

theorem Keeps.endClean (h : Keeps w s₀ s) : Keeps w s₀ s.endClean := by
  unfold State.endClean
  split; exacts [(.ite (.ackNow (.cancelSwap (.updPair (.set (.set h))))) (.updPair (.set (.set h)))), (.updPair (.set (.set h)))]

theorem Keeps.reviewClean (h : Keeps w s₀ s) : Keeps w s₀ s.reviewClean := .ite (.ite (.endClean h) h) (.set (.ite h (.updPair (.set h))))

theorem Keeps.showUPair (h : Keeps w s₀ s) : Keeps w s₀ s.showUPair := .set h

theorem Keeps.giveVerdict {vid} (h : Keeps w s₀ s) : Keeps w s₀ (s.giveVerdict vid) := .sendRecord (.updPair (.selfCheck h))

theorem Keeps.openExchange {cause} (h : Keeps w s₀ s) : Keeps w s₀ (s.openExchange cause) := .ite h (.giveVerdict (.sendRecord h))

theorem Keeps.roleChanged (h : Keeps w s₀ s) : Keeps w s₀ s.roleChanged := .showUPair (.foldl h fun _ _ h => .showOut h)

theorem Keeps.joinPair (h : Keeps w s₀ s) : Keeps w s₀ s.joinPair :=
  .roleChanged (.evalSelection (.endClean (.sets (.updPair (.cancelSwap h)))))

theorem Keeps.srvFromCommitted (h : Keeps w s₀ s) : Keeps w s₀ s.srvFromCommitted := .updSrv h

theorem Keeps.startSrv1 (h : Keeps w s₀ s) : Keeps w s₀ s.startSrv1 := .updSrv h

theorem Keeps.ownSelection {u} (h : Keeps w s₀ s) : Keeps w s₀ (s.ownSelection u) :=
  .parts (.ite (.evalSelection (.srvFromCommitted (.parts h))) (by split; exacts [(.carryFor (.evalSelection (.srvFromCommitted
    (.parts h)))), (.openCarry (.evalSelection (.srvFromCommitted (.parts h))))]))

theorem Keeps.announceNow (h : Keeps w s₀ s) : Keeps w s₀ s.announceNow := .foldl h fun _ _ h => .ite (.parts h) h

theorem Keeps.takeover (h : Keeps w s₀ s) : Keeps w s₀ s.takeover :=
  .pairFlag (.announceNow (.roleChanged (.sendRecord (.ownSelection (.endClean (.sets (.updPair (.cancelSwap h))))))))

theorem Keeps.yieldPair (h : Keeps w s₀ s) : Keeps w s₀ s.yieldPair := .pairFlag (.announceNow (.joinPair h))

theorem Keeps.enterDispute (h : Keeps w s₀ s) : Keeps w s₀ s.enterDispute :=
  .ite h (.pairFlag (.showUPair (.setSat (.set (.updPair (.endClean h))))))

theorem Keeps.settleVerdicts {own twin} (h : Keeps w s₀ s) : Keeps w s₀ (s.settleVerdicts own twin) :=
  .ite (.ite (.yieldPair (.updPair h)) (.ite (.enterDispute (.updPair h)) (.updPair h))) (.ite (.ite (.takeover (.updPair h)) (.ite
    (.pairFlag (.joinPair (.updPair h))) (.enterDispute (.updPair h)))) (.updPair h))

theorem Keeps.mismatch {cause} (h : Keeps w s₀ s) : Keeps w s₀ (s.mismatch cause) :=
  .ite h (.ite (.endClean (.pairFlag h)) (.openExchange (.cancelSwap (.endClean (.pairFlag h)))))

theorem Keeps.askSync (h : Keeps w s₀ s) : Keeps w s₀ s.askSync := .sendAck (.updPair h)

theorem Keeps.reviewJoin (h : Keeps w s₀ s) : Keeps w s₀ s.reviewJoin := by
  unfold State.reviewJoin
  split; exacts [(.ite (.askSync h) h), h]

theorem Keeps.reviewDispute {x} (h : Keeps w s₀ s) : Keeps w s₀ (s.reviewDispute x) :=
  .ite h (.ite (.updPair (.sets (.setSat (.updPair h)))) (.setSat (.updPair h)))

theorem Keeps.newX {own twin stamp} (h : Keeps w s₀ s) : Keeps w s₀ (s.newX own twin stamp) := by
  unfold State.newX
  extract_lets _ a b c d _ e f
  have ha : Keeps w s₀ a := (.updPair h)
  have hb : Keeps w s₀ b := (.setI (.setISat ha))
  have hc : Keeps w s₀ c := (by unfold c; split; exacts [(.ite (.gainActivity (.set (.deliver hb))) hb), hb])
  have hd : Keeps w s₀ d := (.reviewDispute hc)
  have he : Keeps w s₀ e := (.ite (.set hd) hd)
  have hf : Keeps w s₀ f := (.ite (.mismatch he) he)
  exact (.showUPair (.reviewClean (.reviewJoin hf)))

theorem Keeps.tryX (h : Keeps w s₀ s) : Keeps w s₀ s.tryX := by
  unfold State.tryX
  split; exacts [(.ite (.newX (.updPair h)) h), h]

theorem Keeps.reviewTwin (h : Keeps w s₀ s) : Keeps w s₀ s.reviewTwin := by
  unfold State.reviewTwin
  split; exacts [h, (.ite (.gainPresence h) (.losePresence h))]

theorem Keeps.becomeActive {st} (h : Keeps w s₀ s) : Keeps w s₀ (s.becomeActive st) := .announceNow (.roleChanged (.updPair (.sets h)))

theorem Keeps.standbyPart (h : Keeps w s₀ s) : Keeps w s₀ s.standbyPart := .roleChanged (.endClean (.updPair (.sets h)))

theorem Keeps.backToSeek (h : Keeps w s₀ s) : Keeps w s₀ s.backToSeek := .roleChanged (.updPair (.sets h))

theorem Keeps.seek {twinAlert} (h : Keeps w s₀ s) : Keeps w s₀ (s.seek twinAlert) :=
  .ite (.joinPair h) (.ite (.ite (.becomeActive h) (.joinPair h)) (.ite h (.ite (.becomeActive h) (.ite (.standbyPart h) (.ite (.ite (.ite
    (.updPair h) h) (.ite (.becomeActive h) (.standbyPart h))) h)))))

theorem Keeps.scheduleSwap (h : Keeps w s₀ s) : Keeps w s₀ s.scheduleSwap := .ite h (.sendRecord (.updPair h))

theorem Keeps.askSwap (h : Keeps w s₀ s) : Keeps w s₀ s.askSwap := .ite (.scheduleSwap h) (.ite (.sendRecord h) (.pairFlag (.set h)))

theorem Keeps.requestSwap (h : Keeps w s₀ s) : Keeps w s₀ s.requestSwap := .ite h (.askSwap (.set h))

theorem Keeps.swapRoles (h : Keeps w s₀ s) : Keeps w s₀ s.swapRoles :=
  .pairFlag (.announceNow (.roleChanged (.ite (.endClean (.set (.updPair (.set (.updPair h))))) (.journalChanges (.sendRecord (.sendRecord
    (.ownSelection (.updPair (.set (.endClean (.set (.updPair h))))))))))))

theorem Keeps.sendSnapshot (h : Keeps w s₀ s) : Keeps w s₀ s.sendSnapshot := by
  unfold State.sendSnapshot
  exact (.updPair (.sendRecord (.foldl (.sendRecord h) fun _ _ h => .sendRecord h)))

theorem Keeps.applySnap {b} (h : Keeps w s₀ s) : Keeps w s₀ (s.applySnap b) :=
  .ite h (.ite (.updPair (.showGrants (.parts h))) (.ite h (.showUPair (.ite (.startSrv1 (.updPair h)) (.pairFlag (.set (.startSrv1
    (.updPair h))))))))

theorem Keeps.noteRetry (h : Keeps w s₀ s) : Keeps w s₀ s.noteRetry := .updPair h

theorem Keeps.applyUpdateRecord {b} (h : Keeps w s₀ s) : Keeps w s₀ (s.applyUpdateRecord b) :=
  .ite h (.ite (.joinPair h) (.setSrvState (.updSrv (.updPair (.ite (.noteRetry (.proposeSrv (.setI (.updSrv (.updPair h)))))
    (by split; exacts [(.updPair h), (.ite (.noteRetry (.proposeSrv (.showUpdate (.updSrv (.updPair h))))) (.noteRetry (.updSrv (.lawUpdate
    (.updPair h)))))]))))))

theorem Keeps.applyResult {b} (h : Keeps w s₀ s) : Keeps w s₀ (s.applyResult b) := .ite h (.updPair h)

theorem Keeps.applySelect {b} (h : Keeps w s₀ s) : Keeps w s₀ (s.applySelect b) := .ite h (.ite (.setSrvState (.updPair h)) (.updPair h))

theorem Keeps.applyLeap {b} (h : Keeps w s₀ s) : Keeps w s₀ (s.applyLeap b) := .ite h (.ite (.sets (.updPair h)) (.updPair h))

theorem Keeps.applyParam {b} (h : Keeps w s₀ s) : Keeps w s₀ (s.applyParam b) := .ite (.sets h) h

theorem Keeps.applySrvState {b} (h : Keeps w s₀ s) : Keeps w s₀ (s.applySrvState b) :=
  .ite (.ite (.startSrv1 (.updPair (.setSrvState (.updSrv h)))) (.setSrvState (.updSrv h))) h

theorem Keeps.applyGrant {b} (h : Keeps w s₀ s) : Keeps w s₀ (s.applyGrant b) := .ite (.updPair (.putGrant h)) h

theorem Keeps.applyNtsKey {b} (h : Keeps w s₀ s) : Keeps w s₀ (s.applyNtsKey b) := .ite (.applyKeys (.updPair (.ite (.enqueue h) h))) h

theorem Keeps.applyDigest {b} (h : Keeps w s₀ s) : Keeps w s₀ (s.applyDigest b) :=
  .ite h (.ite (.askSync (.updPair (.mismatch (.bumpSat h)))) (.mismatch (.bumpSat h)))

theorem Keeps.sendKeyx {kind b} (h : Keeps w s₀ s) : Keeps w s₀ (s.sendKeyx kind b) := .foldl h fun _ _ h => .sendRecord h

theorem Keeps.reviewKeys (h : Keeps w s₀ s) : Keeps w s₀ s.reviewKeys := .ite (.ite (.updPair h) h) (.ite h (.sendKeyx (.updPair h)))

theorem Keeps.applyKeyx {b} (h : Keeps w s₀ s) : Keeps w s₀ (s.applyKeyx b) :=
  .ite (.updPair h) (.ite (.showQueue (.enqueue (.updPair (.updPair h)))) (.ite (.showQueue (.enqueue (.updPair (.updPair h)))) (.updPair
    (.updPair h))))

theorem Keeps.followTwin (h : Keeps w s₀ s) : Keeps w s₀ s.followTwin :=
  .ite (.ite h (.backToSeek h)) (.ite (.joinPair h) (.ite (.ite (.pairFlag (.set h)) (.ite (.showUPair (.cancelSwap (.updPair
    (.sets h)))) h)) (.ite (.showUPair (.cancelSwap (.updPair (.sets h)))) h)))

theorem Keeps.applyHello {b} (h : Keeps w s₀ s) : Keeps w s₀ (s.applyHello b) := by
  unfold State.applyHello
  extract_lets _ a c d _ e f g
  have ha : Keeps w s₀ a := (.updPair (.sets h))
  have hc : Keeps w s₀ c := (.ite (.pairFlag ha) ha)
  have hd : Keeps w s₀ d := (.setBit hc)
  have he : Keeps w s₀ e := (.setBit hd)
  have hf : Keeps w s₀ f := (.ite (.joinPair he) he)
  have hg : Keeps w s₀ g := (by unfold g; split; exacts [(.useFree (.updRef hf)), hf])
  exact (.reviewClean (.reviewKeys (.followTwin hg)))

theorem Keeps.applyHealth {b} (h : Keeps w s₀ s) : Keeps w s₀ (s.applyHealth b) :=
  .showUPair (.reviewJoin (by split; exacts [(.set (.sets h)), (.sets h)]))

theorem Keeps.applySwap {b} (h : Keeps w s₀ s) : Keeps w s₀ (s.applySwap b) :=
  .ite (.ite (.scheduleSwap h) h) (.ite (.ite (.ackNow (.updPair h)) (.ackNow (.set h))) h)

theorem Keeps.retransmit {need} (h : Keeps w s₀ s) : Keeps w s₀ (s.retransmit need) := .foldl h fun _ _ h => .onLane h

theorem Keeps.applyAck {b} (h : Keeps w s₀ s) : Keeps w s₀ (s.applyAck b) :=
  .ite (.ite (.ite (.updPair h) (.ite (.cancelSwap h) h)) h) (.ite (.retransmit (.ite (.ite (.updPair h) (.ite (.cancelSwap h) h)) h))
    (.ite (.sendSnapshot (.ite (.ite (.updPair h) (.ite (.cancelSwap h) h)) h)) (.ite (.ite (.updPair h) (.ite (.cancelSwap h) h)) h)))

theorem Keeps.applyVreq {b} (h : Keeps w s₀ s) : Keeps w s₀ (s.applyVreq b) :=
  .ite h (by split; exacts [(.ite (.giveVerdict (.cancelSwap h)) (.cancelSwap h)), (.giveVerdict (.cancelSwap h))])

theorem Keeps.applyVerdict {b} (h : Keeps w s₀ s) : Keeps w s₀ (s.applyVerdict b) := by
  unfold State.applyVerdict
  dsimp only
  split; exacts [(.ite (.settleVerdicts (.set h)) (.set h)), (.set h)]

theorem Keeps.applyTake {b} (h : Keeps w s₀ s) : Keeps w s₀ (s.applyTake b) := .ite (.ite (.swapRoles h) (.yieldPair h)) h

theorem Keeps.applyRecord {type b} (h : Keeps w s₀ s) : Keeps w s₀ (s.applyRecord type b) := by
  unfold State.applyRecord
  extract_lets a
  have ha : Keeps w s₀ a := (.bump h)
  exact (by split; exacts [(.applyHello ha), (.tryX (.updPair ha)), (.applyHealth ha), (.showUPair (.updPair ha)), (.applyResult ha),
    (.applyUpdateRecord ha), (.applySelect ha), (.applyLeap ha), (.applyDigest ha), (.applyParam ha), (.applySrvState ha),
    (.applyGrant ha), (.applyNtsKey ha), (.applySnap ha), (.applyVreq ha), (.applyVerdict ha), (.applySwap ha), (.applyAck ha),
    (.applyTake ha), (.applyKeyx ha), h])

theorem Keeps.drainEarly {k} (h : Keeps w s₀ s) : Keeps w s₀ (s.drainEarly k) := by
  induction k generalizing s with
  | zero => exact h
  | succ k ih =>
    unfold State.drainEarly
    split
    · exact ih (.applyRecord (.updPair h))
    · exact h

theorem Keeps.openGap (h : Keeps w s₀ s) : Keeps w s₀ s.openGap := .ackNow (.updPair h)

theorem Keeps.receive {type bytes} (h : Keeps w s₀ s) : Keeps w s₀ (s.receive type bytes) :=
  .ite h (.ite (.openGap h) (.ite (.ite (.updPair (.drainEarly (.applyRecord (.updPair h)))) (.drainEarly (.applyRecord (.updPair h))))
    (.ite (.openGap (.updPair h)) h)))

theorem Keeps.gapLost (h : Keeps w s₀ s) : Keeps w s₀ s.gapLost :=
  .drainEarly (.ite (.joinPair (.pairFlag (.updPair h))) (.pairFlag (.updPair h)))

/-! TbOps. -/

theorem Keeps.updIsle {n f} (h : Keeps w s₀ s) : Keeps w s₀ (s.updIsle n f) := h.withTb (length_modAt _ _ _)

theorem Keeps.boundCross {old new} (h : Keeps w s₀ s) : Keeps w s₀ (s.boundCross old new) := .ite (.selFlag h) (.ite (.selFlag h) h)

theorem Keeps.launchToken (h : Keeps w s₀ s) : Keeps w s₀ s.launchToken :=
  .foldl (.reviewAcal (.boundCross (.parts (.showUPair (.set h))))) fun _ _ h => .emit h

theorem Keeps.goodToken {n edge b} (h : Keeps w s₀ s) : Keeps w s₀ (s.goodToken n edge b) :=
  .ite (.set (.updIsle (.updIsle h))) (.ite (.updIsle h) (.flag (.updIsle (.updIsle h))))

theorem Keeps.takeToken {n edge b} (h : Keeps w s₀ s) : Keeps w s₀ (s.takeToken n edge b) := .ite h (.ite (.bumpSat h) (.ite (.goodToken h) h))

theorem Keeps.setLatency {n l} (h : Keeps w s₀ s) : Keeps w s₀ (s.setLatency n l) := .sets h

theorem Keeps.queueCal {l} (h : Keeps w s₀ s) : Keeps w s₀ (s.queueCal l) := by
  unfold State.queueCal
  dsimp only
  split
  · exact .set (.withTb h rfl)
  · exact .withTb h rfl

theorem Keeps.endCal (h : Keeps w s₀ s) : Keeps w s₀ s.endCal := by
  unfold State.endCal
  split
  · exact h
  · exact .queueCal (.set (.withTb h rfl))

theorem Keeps.calGood {n m sum l} (h : Keeps w s₀ s) : Keeps w s₀ (s.calGood n m sum l) := .updIsle (.setLatency (.endCal h))

theorem Keeps.calBadRoute {n} (h : Keeps w s₀ s) : Keeps w s₀ (s.calBadRoute n) := .set (.endCal h)

theorem Keeps.loseReplica {n} (h : Keeps w s₀ s) : Keeps w s₀ (s.loseReplica n) := .queueCal (.updIsle (.sets (.withTb h rfl)))

theorem Keeps.roundTrip {n rt} (h : Keeps w s₀ s) : Keeps w s₀ (s.roundTrip n rt) := .ite h (.ite (.flag (.updIsle h)) (.updIsle h))

theorem Keeps.applyNudges (h : Keeps w s₀ s) : Keeps w s₀ s.applyNudges := .foldl h fun _ _ h => .ite h (.updIsle (.setLatency h))

/-! LoadOps. -/

theorem Keeps.loadRef {c fresh} (h : Keeps w s₀ s) : Keeps w s₀ (s.loadRef c fresh) :=
  .ite (.reviewOff (.evalClass (.sets h))) (.reviewOff (.ite (.gainPresence (.evalClass (.set (.updRef (.sets (.sets h)))))) (.evalClass
    (.set (.updRef (.sets (.sets h)))))))

theorem Keeps.loadTdc {n fresh} (h : Keeps w s₀ s) : Keeps w s₀ (s.loadTdc n fresh) := .ite (.updTdc (.sets h)) (.sets h)

theorem Keeps.loadGains (h : Keeps w s₀ s) : Keeps w s₀ s.loadGains := .foldl h fun _ _ h => .sets h

theorem Keeps.loadFeed (h : Keeps w s₀ s) : Keeps w s₀ s.loadFeed := .ite (.sets h) (.ite h (.set h))

theorem Keeps.reloadOut {n} (h : Keeps w s₀ s) : Keeps w s₀ (s.reloadOut n) :=
  .ite (.showOut (.updOut (.sets h))) (.ite (.regrid (.sets h)) (.writeEn (.regrid (.sets h))))

theorem Keeps.reloadUnit {u} (h : Keeps w s₀ s) : Keeps w s₀ (s.reloadUnit u) := .ite (.showUnit (.set h)) (.newFreq (.set h))

theorem Keeps.loadPort {n} (h : Keeps w s₀ s) : Keeps w s₀ (s.loadPort n) := .showUasym (.showTxdis (.sets h))

theorem Keeps.loadSyt (h : Keeps w s₀ s) : Keeps w s₀ s.loadSyt := .ite (.ite (.gatedRelock h) h) (.set h)

theorem Keeps.loadEngines {q} (h : Keeps w s₀ s) : Keeps w s₀ (s.loadEngines q) := .foldl h fun _ _ h => .sets h

theorem Keeps.runEngines {q} (h : Keeps w s₀ s) : Keeps w s₀ (s.runEngines q) := .foldl h fun _ _ h => .setBit h

theorem Keeps.loadClass (h : Keeps w s₀ s) : Keeps w s₀ s.loadClass := .sets (.parts h)

theorem Keeps.loadSvc (h : Keeps w s₀ s) : Keeps w s₀ s.loadSvc := .sets h

theorem Keeps.loadPair (h : Keeps w s₀ s) : Keeps w s₀ s.loadPair := .sets h

theorem Keeps.showDom {d st} (h : Keeps w s₀ s) : Keeps w s₀ (s.showDom d st) :=
  .ite (.set (.set (.set h))) (.ite (.showTxdis (.set (.set h))) (.set (.set h)))

theorem Keeps.startDom {d st} (h : Keeps w s₀ s) : Keeps w s₀ (s.startDom d st) :=
  .showDom (.updDom (.sets (.ite (.updDom (.bump h)) (.ite (.updDom h) h))))

theorem Keeps.loadDomains (h : Keeps w s₀ s) : Keeps w s₀ s.loadDomains := .foldl h fun _ _ h => .ite h (.startDom h)

theorem Keeps.loadLocks (h : Keeps w s₀ s) : Keeps w s₀ s.loadLocks := .parts h

theorem Keeps.loadReset (h : Keeps w s₀ s) : Keeps w s₀ s.loadReset :=
  .loadLocks (.loadDomains (.loadPair (.loadSvc (.loadClass (.foldl (.set (.foldl h fun _ _ h => .loadPort h)) fun _ _ h =>
    .loadEngines h)))))

theorem Keeps.loadAll (h : Keeps w s₀ s) : Keeps w s₀ s.loadAll :=
  .vaultStart (.loadSyt (.loadReset (.foldl (.foldl (.loadSynth (.refreshHset (.showAgeing (.showAgeing (.loadFeed (.loadGains (.foldl
    (.foldl h fun _ _ h => .loadRef h) fun _ _ h => .loadTdc h))))))) fun _ _ h => .set h) fun _ _ h => .set h)))

theorem Keeps.resetRegs {d} (h : Keeps w s₀ s) : Keeps w s₀ (s.resetRegs d) := h.withRegs (storeWfFrom_filter _)

theorem Keeps.resetPort {n} (h : Keeps w s₀ s) : Keeps w s₀ (s.resetPort n) := .updPort (.resetRegs (.portDown h))

theorem Keeps.resetShared (h : Keeps ⟨false, u, p⟩ s₀ s) : Keeps ⟨false, u, p⟩ s₀ s.resetShared :=
  .restorePositions (.resetMaster (.parts (.resetRegs (by split; exacts [(.losePresence (.set (.set h))), h]))))

theorem Keeps.resetGns (h : Keeps w s₀ s) : Keeps w s₀ s.resetGns := .parts (.sets (.resetRegs h))

theorem Keeps.resetSup (h : Keeps ⟨false, u, p⟩ s₀ s) : Keeps ⟨false, u, p⟩ s₀ s.resetSup := by
  unfold State.resetSup
  exact (.updSys (.foldl (.resetRegs h) fun _ _ h => .resetMaster h))

theorem Keeps.resetPairLink (h : Keeps w s₀ s) : Keeps w s₀ s.resetPairLink := .reviewTwin (.updPair (.resetRegs h))

theorem Keeps.resetDomain {d} (h : Keeps ⟨false, u, p⟩ s₀ s) : Keeps ⟨false, u, p⟩ s₀ (s.resetDomain d) := by
  unfold State.resetDomain
  extract_lets a
  have ha : Keeps ⟨false, u, p⟩ s₀ a := (.foldl h fun _ _ h => .loseReplica h)
  exact (.ite (.resetShared ha) (.ite (.resetRegs ha) (.ite (.resetSup ha) (.ite (.resetPort ha) (.ite (.resetGns ha) (.ite (.set (.set
    (.resetPci ha))) (.ite (.resetPairLink ha) ha)))))))

theorem Keeps.reloadDomain {d} (h : Keeps w s₀ s) : Keeps w s₀ (s.reloadDomain d) :=
  .ite (.runEngines (.loadSvc (.loadClass (.loadEngines (.set h))))) (.ite (.runEngines (.loadEngines h)) (.ite (.loadPort h) (.ite
    (.loadPair h) h)))

/-! PowerOps. -/

theorem Keeps.beginEntry {d target} (h : Keeps w s₀ s) : Keeps w s₀ (s.beginEntry d target) := .updDom (.sets h)

theorem Keeps.takeReq {d v} (h : Keeps w s₀ s) : Keeps w s₀ (s.takeReq d v) :=
  .ite (.set (.set h)) (.ite (.beginEntry (.set h)) (.updDom (.set (.set h))))

theorem Keeps.writeReq {req d v} (h : Keeps w s₀ s) : Keeps w s₀ (s.writeReq req d v) :=
  .ite (.accessError h) (.ite h (.ite (.ite (.ite (.updSys h) h) (.beginWake (.ite (.updSys h) h))) (.ite (.ite (.set (.ite (.updSys h) h))
    (.ite (.ite (.updSys h) h) (.beginWake (.ite (.updSys h) h)))) (.takeReq (.ite (.updSys h) h)))))

theorem Keeps.pwrFlag {f d} (h : Keeps w s₀ s) : Keeps w s₀ (s.pwrFlag f d) := .flag h

theorem Keeps.withdrawReq {d} (h : Keeps w s₀ s) : Keeps w s₀ (s.withdrawReq d) := .ite (.updSys (.pwrFlag (.sets h))) (.pwrFlag (.sets h))

theorem Keeps.endEntry {d} (h : Keeps ⟨false, u, p⟩ s₀ s) : Keeps ⟨false, u, p⟩ s₀ (s.endEntry d) := by
  unfold State.endEntry
  extract_lets _ a b c e
  have ha : Keeps ⟨false, u, p⟩ s₀ a := (.updDom (.bump (.set h)))
  have hb : Keeps ⟨false, u, p⟩ s₀ b := (.ite (.resetDomain ha) (.ite (.foldl ha fun _ _ h => .loseReplica h) ha))
  have hc : Keeps ⟨false, u, p⟩ s₀ c := (.ite (.resetMaster (.sets (.updPmu hb))) hb)
  have he : Keeps ⟨false, u, p⟩ s₀ e := (.showDom hc)
  exact (by split; exacts [(.recordWake he), he])

theorem Keeps.startLevel {d l} (h : Keeps w s₀ s) : Keeps w s₀ (s.startLevel d l) := .ite h (.updDom (.set h))

theorem Keeps.writePlvl {d l} (h : Keeps w s₀ s) : Keeps w s₀ (s.writePlvl d l) := .ite (.updDom (.set h)) (.startLevel (.set h))

theorem Keeps.applyHeld {d} (h : Keeps w s₀ s) : Keeps w s₀ (s.applyHeld d) := by
  unfold State.applyHeld
  split; exacts [(.startLevel (.updDom h)), h]

theorem Keeps.endLevel {d} (h : Keeps w s₀ s) : Keeps w s₀ (s.endLevel d) := .ite (.sets h) (.applyHeld (.sets h))

theorem Keeps.endStall {d} (h : Keeps ⟨false, u, p⟩ s₀ s) : Keeps ⟨false, u, p⟩ s₀ (s.endStall d) := by
  unfold State.endStall
  extract_lets _ _ a b c e f g
  have ha : Keeps ⟨false, u, p⟩ s₀ a := (.updDom (.showDom h))
  have hb : Keeps ⟨false, u, p⟩ s₀ b := (.ite (.set ha) (.ite (.reloadDomain ha) ha))
  have hc : Keeps ⟨false, u, p⟩ s₀ c := (.ite (.queueCal hb) hb)
  have he : Keeps ⟨false, u, p⟩ s₀ e := (.ite (.updSys hc) (.ite (.updSys hc) hc))
  have hf : Keeps ⟨false, u, p⟩ s₀ f := (.applyHeld he)
  have hg : Keeps ⟨false, u, p⟩ s₀ g := (.ite (.set hf) (.takeReq hf))
  exact (.ite (.foldl hg fun _ _ h => .drainFifo h) (.ite (.serveTargets hg) hg))

theorem Keeps.loseBank {d bank} (h : Keeps ⟨false, u, p⟩ s₀ s) : Keeps ⟨false, u, p⟩ s₀ (s.loseBank d bank) :=
  .ite (.ite (.foldl (.reloadDomain (.resetRegs h)) fun _ _ h => .showPos h) (.reloadDomain (.resetRegs h)))
    (.ite (.foldl (.updSys (.withSram h (memWfFrom_filter _))) fun _ _ h => .stopRing h)
      (.ite (.set h) (.ite (.gFlush h) (.ite (.parts h) (.useFree (.parts h))))))

theorem Keeps.endCheck {d bank ok} (h : Keeps ⟨false, u, p⟩ s₀ s) : Keeps ⟨false, u, p⟩ s₀ (s.endCheck d bank ok) :=
  .ite (.serveTargets (.ite (.setBit (.updDom h)) (.flagBit (.loseBank (.setBit (.updDom h)))))) (.ite (.setBit (.updDom h)) (.flagBit
    (.loseBank (.setBit (.updDom h)))))

/-! BootOps. -/

theorem Keeps.showAttempts (h : Keeps w s₀ s) : Keeps w s₀ s.showAttempts := .set h

theorem Keeps.supplyFail {stop zeroMs} (h : Keeps ⟨false, false, false⟩ s₀ s) : Keeps ⟨false, false, false⟩ s₀ (s.supplyFail stop zeroMs) :=
  .powerFail (.ite (.zeroise (.vaultPowerFail h)) (.vaultPowerFail h))

theorem Keeps.warmRestart {stop} (h : Keeps ⟨false, false, p⟩ s₀ s) : Keeps ⟨false, false, p⟩ s₀ (s.warmRestart stop) :=
  .sets (.foldl (.withSupply (.foldl (.updRecord (.updRecord (.abandonAction h))) fun _ _ h => .resetDomain h) rfl) fun _ _ h => .showOut h)

theorem Keeps.askWarm (h : Keeps ⟨false, false, p⟩ s₀ s) : Keeps ⟨false, false, p⟩ s₀ s.askWarm := .ite (.scheduleSwap (.updPair h)) (.warmRestart h)

theorem Keeps.resumeWarm (h : Keeps ⟨false, false, p⟩ s₀ s) : Keeps ⟨false, false, p⟩ s₀ s.resumeWarm := .ite (.warmRestart h) h

theorem Keeps.supervisorEnd {stop code} (h : Keeps ⟨false, false, false⟩ s₀ s) : Keeps ⟨false, false, false⟩ s₀ (s.supervisorEnd stop code) :=
  .ite (.failStart h) (.ite h (.ite (.warmRestart h) (.ite (.coldRestart (.showAttempts (.updRecord h))) (.warmRestart (.showAttempts
    (.updRecord h))))))

theorem Keeps.enterStarter {code detail} (h : Keeps w s₀ s) : Keeps w s₀ (s.enterStarter code detail) :=
  .queueCal (.sets (.foldl (.refreshHset (.showAgeing (.showAgeing (.loadGains (.loadTdc (.loadTdc (.loadRef (.parts (.updRecord
    (.sets h)))))))))) fun _ _ h => .startDom h))

theorem Keeps.loadStore (h : Keeps w s₀ s) : Keeps w s₀ s.loadStore := by
  unfold State.loadStore
  split; exacts [(.flag h), (.foldl (.parts h) fun _ _ h => .sets (.setSat (.setISat h)))]

theorem Keeps.firstPair (h : Keeps ⟨m, u, false⟩ s₀ s) : Keeps ⟨m, u, false⟩ s₀ s.firstPair := .set (.withHrt h rfl nofun)

theorem Keeps.bootStep1 (h : Keeps ⟨false, false, false⟩ s₀ s) : Keeps ⟨false, false, false⟩ s₀ s.bootStep1 :=
  .ite (.enterStarter (.updRecord (.sets h))) (.ite (.enterStarter (.updRecord (.sets h))) (.ite (.enterStarter (.updRecord (.sets h)))
    (.ite (.failStart (.updRecord (.sets h))) (.updRecord (.sets h)))))

theorem Keeps.powerUp {home fstartN bankSel} (hoff : s.supply.on = false) : Keeps ⟨false, false, false⟩ s (s.powerUp home fstartN bankSel) :=
  .bootStep1 (.loadStore (.vaultPowerOn (.firstPair (.sets
    ⟨rfl, fun hon => absurd (hoff.symm.trans hon) Bool.false_ne_true, fun h0 => ⟨rfl, rfl, h0.2.2⟩, fun _ => by constructor <;> rfl,
      List.prefix_refl _, nofun, nofun, nofun⟩))))

theorem Keeps.showFail {f} (h : Keeps w s₀ s) : Keeps w s₀ (s.showFail f) := .sets h

theorem Keeps.takeImage {r bank} (h : Keeps w s₀ s) : Keeps w s₀ (s.takeImage r bank) := .sets (.parts h)

theorem Keeps.applyStart {r bank} (h : Keeps w s₀ s) : Keeps w s₀ (s.applyStart r bank) :=
  .set (.loadAll (.updRecord (.showFail (.parts (.takeImage h)))))

theorem Keeps.startValidated (h : Keeps ⟨false, false, false⟩ s₀ s) : Keeps ⟨false, false, false⟩ s₀ s.startValidated := by
  obtain ⟨f, hf⟩ : ∃ f, f = State.startValidated := ⟨_, rfl⟩
  obtain ⟨v0, hv0⟩ : ∃ v, v = State.validate := ⟨_, rfl⟩
  rw [← hf]
  delta State.startValidated at hf
  rw [← hv0] at hf
  subst hf
  dsimp only
  split
  · exact .ite (.ite (.set (.loadReset (.showFail h))) (.coldRestart h)) (.applyStart h)
  · exact .ite (.coldRestart (.showFail h)) (.ite (.failStart (.showFail h)) (.ite (.set (.parts (.showFail h))) (.failStart
    (.showFail h))))

theorem Keeps.startCal {n m sum sumSq} (h : Keeps ⟨false, false, false⟩ s₀ s) : Keeps ⟨false, false, false⟩ s₀ (s.startCal n m sum sumSq) := by
  unfold State.startCal
  split; exacts [(.ite (.ite (.enterStage (.flag (.calBadRoute h))) (.flag (.calBadRoute h))) (.failStart (.calBadRoute h))), (.ite
    (.calGood h) (.ite (.enterStage (.calGood h)) (.set (.calGood h))))]

theorem Keeps.startFw (h : Keeps ⟨false, false, false⟩ s₀ s) : Keeps ⟨false, false, false⟩ s₀ s.startFw := by
  obtain ⟨f, hf⟩ : ∃ f, f = State.startFw := ⟨_, rfl⟩
  obtain ⟨v0, hv0⟩ : ∃ v, v = State.validateFw := ⟨_, rfl⟩
  rw [← hf]
  delta State.startFw at hf
  rw [← hv0] at hf
  subst hf
  dsimp only
  split
  · exact .updSys (.sets (.updRecord h))
  · exact .ite (.parts h) (.failStart h)

theorem Keeps.tryComplete (h : Keeps ⟨m, false, p⟩ s₀ s) : Keeps ⟨m, false, p⟩ s₀ s.tryComplete :=
  .ite h (.foldl (.pairStart (.enterStage (.foldl (.withSupply (.updRecord (.sets h)) rfl) fun _ _ h => .runEngines h))) fun _ _ h =>
    .showOut h)

theorem Keeps.ready (h : Keeps ⟨m, false, p⟩ s₀ s) : Keeps ⟨m, false, p⟩ s₀ s.ready := .ite (.tryComplete (.flag h)) h

theorem Keeps.rcpState {st} (h : Keeps w s₀ s) : Keeps w s₀ (s.rcpState st) := .ite (.occur (.set h)) (.set h)

theorem Keeps.endAction {x f} (h : Keeps w s₀ s) : Keeps w s₀ (s.endAction x f) :=
  .ite (.set (.set (.parts h))) (.rcpState (.showFail (.set (.parts h))))

theorem Keeps.refuseAction {x code} (h : Keeps w s₀ s) : Keeps w s₀ (s.refuseAction x code) :=
  .ite (.set h) (.ite (.set h) (.rcpState (.showFail h)))

theorem Keeps.askAction {x} (h : Keeps w s₀ s) : Keeps w s₀ (s.askAction x) :=
  .ite h (.ite (.refuseAction h) (.ite (.refuseAction h) (.ite (.set (.parts h)) (.rcpState (.set (.parts h))))))

theorem Keeps.writeRcpCtrl {req data} (h : Keeps w s₀ s) : Keeps w s₀ (s.writeRcpCtrl req data) :=
  .ite (.accessError h) (by split; exacts [(.set h), (.askAction (.set h)), (.askAction (.set h)), (.askAction (.set h)), (.askAction
    (.set h))])

theorem Keeps.writeBootCtrl {req data} (h : Keeps ⟨false, false, false⟩ s₀ s) : Keeps ⟨false, false, false⟩ s₀ (s.writeBootCtrl req data) :=
  .ite (.accessError h) (.ite (.accessError h) (by split; exacts [(.set h), (.askWarm (.set h)), (.coldRestart (.set h)), (.coldRestart
    (.updRecord (.set h))), (.showAttempts (.updRecord (.set h))), (.askAction (.set h)), (.askAction (.set h))]))

theorem Keeps.showWarm {diff} (h : Keeps w s₀ s) : Keeps w s₀ (s.showWarm diff) := .sets h

theorem Keeps.applyWarm {old diff} (h : Keeps w s₀ s) : Keeps w s₀ (s.applyWarm old diff) := by
  unfold State.applyWarm
  extract_lets _ _ a b c e e' f g i k _
  have ha : Keeps w s₀ a := .ite (.foldl h fun _ _ h => .loadRef h) h
  have hb : Keeps w s₀ b := .ite (.foldl ha fun _ _ h => .loadTdc h) ha
  have hc : Keeps w s₀ c := .ite (.loadFeed (.refreshHset hb)) (.refreshHset hb)
  have he : Keeps w s₀ e := .ite (.foldl hc fun _ _ h => .ite (.set (.updSrv h)) h) hc
  have he' : Keeps w s₀ e' := .ite (.showAgeing (.showAgeing he)) he
  have hf : Keeps w s₀ f := .ite (.foldl he' fun _ _ h => .reloadUnit h) he'
  have hg : Keeps w s₀ g := .ite (.foldl hf fun _ _ h => .reloadOut h) hf
  have hi : Keeps w s₀ i := .ite (.loadSyt (.foldl hg fun _ _ h => .loadPort h)) hg
  have hk : Keeps w s₀ k := .ite (.foldl (.showDrained (.set hi)) fun _ _ h => .runEngines (.loadEngines h)) hi
  exact .foldl hk fun _ _ h => .beginWake h

theorem Keeps.endReload {x f} (h : Keeps w s₀ s) : Keeps w s₀ (s.endReload x f) := .endAction (.ite (.leaveStopped (.parts h)) (.parts h))

theorem Keeps.reloadDone {bank} (h : Keeps w s₀ s) : Keeps w s₀ (s.reloadDone bank) := by
  obtain ⟨f, hf⟩ : ∃ f, f = State.reloadDone := ⟨_, rfl⟩
  obtain ⟨v0, hv0⟩ : ∃ v, v = State.validate := ⟨_, rfl⟩
  rw [← hf]
  delta State.reloadDone at hf
  rw [← hv0] at hf
  subst hf
  dsimp only
  split
  · exact .endReload (.parts (.takeImage h))
  · exact .endReload h

theorem Keeps.sendShadows {attempt secs} (h : Keeps w s₀ s) : Keeps w s₀ (s.sendShadows attempt secs) := .parts h

theorem Keeps.applyReload {r bank} (h : Keeps w s₀ s) : Keeps w s₀ (s.applyReload r bank) := by
  unfold State.applyReload
  extract_lets _ _ a _
  have ha : Keeps w s₀ a := (.showWarm h)
  exact (by split; exacts [(.endAction ha), (.ite (.endAction ha) (.ite (.reloadDone (.applyWarm (.ite (.ite (.withHrt (.rcpState
    (.parts ha)) rfl pairsKept) (.enterStopped (.rcpState (.parts ha)))) (.rcpState (.parts ha))))) (.sendShadows (.rcpState (.applyWarm (.ite (.ite
    (.withHrt (.rcpState (.parts ha)) rfl pairsKept) (.enterStopped (.rcpState (.parts ha)))) (.rcpState (.parts ha))))))))])

theorem Keeps.actionValidated {x} (h : Keeps w s₀ s) : Keeps w s₀ (s.actionValidated x) := by
  obtain ⟨f, hf⟩ : ∃ f, f = State.actionValidated := ⟨_, rfl⟩
  obtain ⟨v0, hv0⟩ : ∃ v, v = State.validate := ⟨_, rfl⟩
  obtain ⟨v1, hv1⟩ : ∃ v, v = State.validateFw := ⟨_, rfl⟩
  rw [← hf]
  delta State.actionValidated at hf
  rw [← hv0, ← hv1] at hf
  subst hf
  dsimp only
  split
  · split; exacts [.endAction h, .endAction (.showWarm h)]
  · split; exacts [.endAction h, .applyReload h]
  · split; exacts [.endAction h, .endAction (.updRecord h)]
  · split; exacts [.endAction h, .endAction (.updRecord h)]
  · exact h

theorem Keeps.progEnd {fw bank src len mismatch} (h : Keeps ⟨false, u, p⟩ s₀ s) : Keeps ⟨false, u, p⟩ s₀ (s.progEnd fw bank src len mismatch) :=
  .ite (.endAction (.parts (.partProgram h))) (.endAction (.parts (.flashProgram h)))

theorem Keeps.liveSwitch {v bank} (h : Keeps w s₀ s) : Keeps w s₀ (s.liveSwitch v bank) := by
  unfold State.liveSwitch
  extract_lets _ _ _ _ _ a b c _ _ _ _ e
  have ha : Keeps w s₀ a := .parts h
  have hb : Keeps w s₀ b := .ite (.journalChanges (.loadGains ha)) ha
  have hc : Keeps w s₀ c := .ite (.loadSvc hb) hb
  have he : Keeps w s₀ e := .ite (.sets (.parts hc)) hc
  exact .reloadDone (.bump he)

theorem Keeps.liveLate {v bank} (h : Keeps w s₀ s) : Keeps w s₀ (s.liveLate v bank) := .ite (.sendShadows h) (.endReload h)

/-! Boot. -/

theorem Keeps.bootWrite {req bit key bank} (h : Keeps ⟨false, false, false⟩ s₀ s) : Keeps ⟨false, false, false⟩ s₀
  (s.bootWrite req bit key bank) := .writeBootCtrl h

theorem Keeps.tftpImage {fw bank image} (h : Keeps ⟨false, u, p⟩ s₀ s) : Keeps ⟨false, u, p⟩ s₀ (s.tftpImage fw bank image) :=
  .ite (.emit h) (.ite (.emit h) (.ite (.emit (.showAttempts (.updRecord (.parts (.flashProgram (.sramStore h)))))) (.emit (.parts
    (.flashProgram (.sramStore h))))))

/-! Panel. -/

theorem Keeps.updKey {k f} (h : Keeps w s₀ s) : Keeps w s₀ (s.updKey k f) := .parts h

theorem Keeps.updTouch {t f} (h : Keeps w s₀ s) : Keeps w s₀ (s.updTouch t f) := .parts h

theorem Keeps.pnlBit {f i} (h : Keeps w s₀ s) : Keeps w s₀ (s.pnlBit f i) := .flagBit h

theorem Keeps.putBit {f i b} (h : Keeps w s₀ s) : Keeps w s₀ (s.putBit f i b) := .set h

theorem Keeps.sampleKey {k low} (h : Keeps w s₀ s) : Keeps w s₀ (s.sampleKey k low) :=
  .ite (.updKey h) (.ite (.updKey h) (.ite (.pnlBit (.updKey (.putBit h))) (.pnlBit (.updKey (.putBit h)))))

theorem Keeps.sampleZero {a b} (h : Keeps w s₀ s) : Keeps w s₀ (s.sampleZero a b) := .setBit (.setBit (.setBit (.parts h)))

theorem Keeps.endTouch {t} (h : Keeps w s₀ s) : Keeps w s₀ (s.endTouch t) := .pnlBit (.putBit h)

theorem Keeps.showTouch {t c} (h : Keeps w s₀ s) : Keeps w s₀ (s.showTouch t c) := .setSat (.setSat h)

theorem Keeps.sampleTouch {t c} (h : Keeps w s₀ s) : Keeps w s₀ (s.sampleTouch t c) := by
  unfold State.sampleTouch
  extract_lets _ _ _ _ _ _ _ _ _ _ a e f
  have ha : Keeps w s₀ a := (.showTouch (.updTouch h))
  have he : Keeps w s₀ e := (.ite (.pnlBit ha) ha)
  have hf : Keeps w s₀ f := (.ite (.pnlBit (.putBit he)) (.ite (.endTouch he) he))
  exact (.ite (.pnlBit hf) hf)

/-! Pmu. -/

theorem Keeps.writePmuCtl {req set j data} (h : Keeps w s₀ s) : Keeps w s₀ (s.writePmuCtl req set j data) :=
  .ite (.accessError h) (by split; exacts [(.sets h), (.sets h)])

theorem Keeps.writePmuCnt {req set j data} (h : Keeps w s₀ s) : Keeps w s₀ (s.writePmuCnt req set j data) := .ite (.accessError h) (.set h)

theorem Keeps.writePmuCtrl {req data} (h : Keeps w s₀ s) : Keeps w s₀ (s.writePmuCtrl req data) :=
  .ite (.accessError h) (.ite (.clrAll (.sets h)) (.sets h))

/-! Twin. -/

theorem Keeps.showPairLanes (h : Keeps w s₀ s) : Keeps w s₀ s.showPairLanes := .reviewClean (.reviewTwin (.setBit h))

theorem Keeps.writePairCtrl {req data} (h : Keeps w s₀ s) : Keeps w s₀ (s.writePairCtrl req data) :=
  .ite h (.ite (.accessError h) (.when (.when h (fun _ h => .requestSwap h)) (fun _ h => .askSync h)))

/-! Vault. -/

theorem Keeps.setKvtOp {q data} (h : Keeps w s₀ s) : Keeps w s₀ (s.setKvtOp q data) := .sets h

theorem Keeps.startUpdate {q} (h : Keeps w s₀ s) : Keeps w s₀ (s.startUpdate q) :=
  .ite (.opEnd h) (.ite (.opEnd h) (.showQueue (.enqueue (.set h))))

theorem Keeps.runExport {q} (h : Keeps ⟨false, u, p⟩ s₀ s) : Keeps ⟨false, u, p⟩ s₀ (s.runExport q) :=
  .ite (.opEnd h) (.ite (.opEnd h) (.ite (.opEnd h) (.ite (.opEnd h) (.ite (.opEnd h) (.ite (.opEnd h) (.opEnd (.useSlot (.useSlot
    (.sramStore h)))))))))

theorem Keeps.runSign {q} (h : Keeps ⟨false, u, p⟩ s₀ s) : Keeps ⟨false, u, p⟩ s₀ (s.runSign q) :=
  .ite (.opEnd h) (.opEnd (.useSlot (.sramStore (.useFree h))))

theorem Keeps.runPubkey {q} (h : Keeps ⟨false, u, p⟩ s₀ s) : Keeps ⟨false, u, p⟩ s₀ (s.runPubkey q) :=
  .ite (.opEnd h) (.opEnd (.useSlot (.sramStore h)))

theorem Keeps.kvtStart {req data code} (h : Keeps ⟨false, u, p⟩ s₀ s) : Keeps ⟨false, u, p⟩ s₀ (s.kvtStart req data code) :=
  .ite h (.ite (.startUpdate (.when (.setKvtOp h) (fun _ h => .touchSram h))) (.ite (.runExport (.when (.setKvtOp h) (fun _ h =>
    .touchSram h))) (.ite (.runSign (.when (.setKvtOp h) (fun _ h => .touchSram h))) (.runPubkey (.when (.setKvtOp h) (fun _ h =>
    .touchSram h))))))

theorem Keeps.writeKvtOp {req data} (h : Keeps ⟨false, u, p⟩ s₀ s) : Keeps ⟨false, u, p⟩ s₀ (s.writeKvtOp req data) :=
  .ite (.accessError h) (.ite (.kvtStart h) (.ite h (.setKvtOp h)))

theorem Keeps.writeKvtCtrl {req data} (h : Keeps w s₀ s) : Keeps w s₀ (s.writeKvtCtrl req data) := .ite h (.ite (.accessError h) (.zeroise h))

/-! RegRead. -/

theorem Keeps.present {req n i ch} (h : Keeps w s₀ s) : Keeps w s₀ (s.present req n i ch) := by
  unfold State.present
  split; exacts [(.set h), (.set h), (.set h), (.set h), (.sets h), (.set h), (.when h (fun _ h => .bump h)), (.when h (fun _ h =>
    .bump h)), (.set h), (.when h (fun _ h => .setSat h)), (.when h (fun _ h => .setSat h)), (.setBit (.setSat h)), (.setISat h),
    (.settleOuts h), (.settleOuts h), (.settleOuts h), (.settleOuts h), (.settleOuts h), (.set h), (.showUasym h), (.set h), (.setSat h),
    (.showKe h), (.showUPair h), (.set h), (.setBit (.set h)), h]

theorem Keeps.readValue {req r low n off} (h : Keeps w s₀ s) : Keeps w s₀ (s.readValue req r low n off).1 := by
  unfold State.readValue
  dsimp only
  split
  · exact .parts h
  · split <;> exact h

theorem Keeps.readReg {req off} (h : Keeps w s₀ s) : Keeps w s₀ (s.readReg req off) := by
  unfold State.readReg
  split; exacts [(.emit h), (.ite (.emit (.pmuFlag h)) (.ite (.emit h) (.ite (.xbrFail h) (.ite (.emit h) (.ite (.emit h) (.emit
    (.readValue h)))))))]

/-! Tdc. -/

theorem Keeps.writeTdcTb {req data} (h : Keeps w s₀ s) : Keeps w s₀ (s.writeTdcTb req data) :=
  .ite (.accessError h) (.ite (.set (.sets h)) (.sets h))

theorem Keeps.writeTdcGate {req n data} (h : Keeps w s₀ s) : Keeps w s₀ (s.writeTdcGate req n data) := .ite (.accessError h) (.set h)

/-! Select. -/

theorem Keeps.qualEvent {f c} (h : Keeps w s₀ s) : Keeps w s₀ (s.qualEvent f c) := .ite h (.selFlag (.set h))

theorem Keeps.driftMonitor {c y basis} (h : Keeps w s₀ s) : Keeps w s₀ (s.driftMonitor c y basis).1 := by
  unfold State.driftMonitor
  split
  · exact h
  · extract_lets _ _ _ _ _ a
    have ha : Keeps w s₀ a := .setISat (.updRef h)
    split
    · exact ha
    · exact .ite (.qualEvent (.set (.updRef ha))) (.ite (.qualEvent (.set (.updRef ha))) (.updRef ha))

theorem Keeps.showEvaluation {c y basis} (h : Keeps w s₀ s) : Keeps w s₀ (s.showEvaluation c y basis) := .setBit (.setI (.setI h))

theorem Keeps.collectAcal {c} (h : Keeps w s₀ s) : Keeps w s₀ (s.collectAcal c) :=
  .foldl h fun _ _ h => by split; exacts [h, .ite h (.withPort h (length_modAt _ _ _))]

theorem Keeps.evaluate {c} (h : Keeps w s₀ s) : Keeps w s₀ (s.evaluate c) := by
  unfold State.evaluate
  split
  · exact h
  extract_lets yT a ok y dm b width breach d softNow q e f g
  have ha : Keeps w s₀ a := .collectAcal (.updRef h)
  have hb : Keeps w s₀ b := .setBit (.showEvaluation (.driftMonitor ha))
  have hd : Keeps w s₀ d := .ite (.updRef hb) hb
  have he : Keeps w s₀ e := .updRef hd
  have hf : Keeps w s₀ f := .ite (.qualEvent (.updRef (.set he))) (.ite (.qualEvent (.set he)) he)
  have hg : Keeps w s₀ g := .ite (.disqualify (.qualEvent hf)) (.ite (.disqualify hf) hf)
  exact .reviewAcal (.recompute hg)

theorem Keeps.writeSelctl {data} (h : Keeps w s₀ s) : Keeps w s₀ (s.writeSelctl data) := .sets h

/-! System. -/

theorem Keeps.writeMbx {req data} (h : Keeps w s₀ s) : Keeps w s₀ (s.writeMbx req data) :=
  .ite (.accessError h) (.ite (.set (.ite (.set (.sets h)) (.sets h))) (.ite (.set (.sets h)) (.sets h)))

theorem Keeps.mbxAnswer {status payload} (h : Keeps w s₀ s) : Keeps w s₀ (s.mbxAnswer status payload) := by
  unfold State.mbxAnswer
  exact .updSys (.set h)

theorem Keeps.mbxServe {op n f} (h : Keeps w s₀ s) (hf : ∀ t, Keeps w s₀ t → ∀ l, Keeps w s₀ (f t l)) : Keeps w s₀ (s.mbxServe op n f) :=
  .when h fun t h => .ite (hf t h _) (.mbxAnswer h)

theorem Keeps.restartSurvey (h : Keeps w s₀ s) : Keeps w s₀ s.restartSurvey := .sets (.parts h)

theorem Keeps.setPosition {lat lon hgt} (h : Keeps w s₀ s) : Keeps w s₀ (s.setPosition lat lon hgt) := .sets (.parts h)

theorem Keeps.writeWdog {req data} (h : Keeps w s₀ s) : Keeps w s₀ (s.writeWdog req data) := .ite (.accessError h) (.updSys (.set h))

/-! RegOps. -/

theorem Keeps.writeUtcw {req data} (h : Keeps w s₀ s) : Keeps w s₀ (s.writeUtcw req data) :=
  .ite (.accessError h) (.ite (.utcwSetoff (.sets h)) (.ite (.utcwSched (.sets h)) (.ite (.takeReport (.sets h)) (.sets h))))

theorem Keeps.writeTdcCfg {req n data} (h : Keeps w s₀ s) : Keeps w s₀ (s.writeTdcCfg req n data) :=
  .ite (.accessError h) (.when (.sets h) (fun _ h => .clearAll h))

theorem Keeps.writeOutCal {n data} (h : Keeps w s₀ s) : Keeps w s₀ (s.writeOutCal n data) := .when h (fun _ h => .updOut h)

theorem Keeps.writePrtCtrl {req n data} (h : Keeps w s₀ s) : Keeps w s₀ (s.writePrtCtrl req n data) :=
  .ite (.accessError h) (.when (.when (.when (.when (.sets h) (fun _ h => .showTxdis (.portDown h))) (fun _ h => .showTxdis h)) (fun _ h =>
    .latcal h)) (fun _ h => .asymcal h))

theorem Keeps.writeMgCtrl {data} (h : Keeps w s₀ s) : Keeps w s₀ (s.writeMgCtrl data) := .ite (.sets h) (.mgLink (.sets h))

theorem Keeps.writeApdCtrl {n data} (h : Keeps w s₀ s) : Keeps w s₀ (s.writeApdCtrl n data) :=
  .when (.when h (fun _ h => .clearAll h)) (fun _ h => .set h)

theorem Keeps.writeClsCtrl {req data} (h : Keeps w s₀ s) : Keeps w s₀ (s.writeClsCtrl req data) :=
  .when (.when h (fun _ h => .clsWrite h)) (fun _ h => .clsRead h)

theorem Keeps.freePosted {n} (h : Keeps w s₀ s) : Keeps w s₀ (s.freePosted n).1 := by
  induction n generalizing s with
  | zero => exact h
  | succ n ih => exact ih h.useFree.useFree

theorem Keeps.writeRingProd {req r data} (h : Keeps w s₀ s) : Keeps w s₀ (s.writeRingProd req r data) :=
  .ite (.writeProd (.freePosted h)) (.writeProd h)

theorem Keeps.ntsOff (h : Keeps w s₀ s) : Keeps w s₀ s.ntsOff := .foldl h fun _ _ h => .abandon h

theorem Keeps.oneTx {n} (h : Keeps w s₀ s) : Keeps w s₀ (s.oneTx n) := .ite h (.foldl h fun _ _ h => .ite (.set h) h)

theorem Keeps.writeDomCtrl {req d data} (h : Keeps w s₀ s) : Keeps w s₀ (s.writeDomCtrl req d data) :=
  .ite (.accessError h) (.writeReq (.when h (fun _ h => .writePlvl h)))

theorem Keeps.writeTimer {req n data} (h : Keeps w s₀ s) : Keeps w s₀ (s.writeTimer req n data) :=
  .ite (.accessError h) (.ite (.armTimer (.sets h)) (.sets h))

theorem Keeps.getD_some (h : Keeps w s₀ t) : Keeps w s₀ ((some t).getD s) := h

/-- A write that acts keeps what has been kept. -/
theorem Keeps.actingWrite {req n i j ch data} (h : Keeps ⟨false, false, false⟩ s₀ s) : Keeps ⟨false, false, false⟩ s₀
  ((s.actingWrite req n i j ch data).getD s) := by
  unfold State.actingWrite
  split
  exacts [.getD_some (.writeBootCtrl h), .getD_some (.writeRcpCtrl h), .getD_some (.writeDomCtrl h), .getD_some (.writeDpCtrl h),
    .getD_some (.writeSrvCtrl h), .getD_some (.writeUtcw h), .getD_some (.writeTdcCfg h), .getD_some (.writeTdcGate h),
    .getD_some (.writeTdcTb h), .getD_some (.writeRefCfg h), .getD_some (.writeNomfreq h), .getD_some (.writeNomfreq h),
    .getD_some (.writeSelctl h), .getD_some (.writeOscCtrl h), .getD_some (.writeOutCfg h), .getD_some (.writeGrid h),
    .getD_some (.writeGrid h), .getD_some (.writeGrid h), .getD_some (.writeDelay h), .getD_some (.writeAlcfg h),
    .getD_some (.writeAloff h), .getD_some (.writeOutCal h), .getD_some (.writeSynFreq h), .getD_some (.writeSynFreq h),
    .getD_some (.writeSynCtrl h), .getD_some (.writePrtCtrl h), .getD_some (.writeMgCtrl h), .getD_some (.writeApdCtrl h),
    .getD_some (.writeDrain h), .getD_some (.writeClsCtrl h), .getD_some (.parts h), .getD_some (.when h (fun _ h => .clearAll h)),
    .getD_some (.writeRingCfg h), .getD_some (.writeRingProd h), .getD_some (.set h), .getD_some (.writeRotctrl h),
    .getD_some (.when h (fun _ h => .clearAll h)), .getD_some (.writeGctrl h), .getD_some (.when h (fun _ h => .clearAll h)),
    .getD_some (.writeKvtCtrl h), .getD_some (.writeKvtOp h), .getD_some (.writePairCtrl h), .getD_some (.writeHwin h),
    .getD_some (.swset h), .getD_some (.writeTimer h), .getD_some (.set h), .getD_some (.clearPending h), .getD_some (.writeEnables h),
    .getD_some (.writeQcons h), .getD_some (.writePmuCtrl h), .getD_some (.writePmuCtl h), .getD_some (.writePmuCtl h),
    .getD_some (.writePmuCnt h), .getD_some (.writePmuCnt h), .getD_some (.writeSrCons h), .getD_some (.writeWdog h),
    .getD_some (.writeMbx h), h]

theorem Keeps.storePiece {ch off data p} (h : Keeps w s₀ s) : Keeps w s₀ (s.storePiece ch off data p) := by
  unfold State.storePiece
  split; exacts [(.set h), (.set h), (.set h), (.set h), h, h, h]

theorem Keeps.afterStore {n i ch old data} (h : Keeps w s₀ s) : Keeps w s₀ (s.afterStore n i ch old data) := by
  unfold State.afterStore
  split; exacts [(.when h (fun _ h => .set h)), (.journalChanges h), (.journalChanges h), (.journalChanges h), (.journalChanges h),
    (.journalChanges h), (.journalChanges h), (.journalChanges h), (.evalClass h), (.evalClass h), (.when h (fun _ h => .set h)),
    (.showUasym h), (.showUasym h), (.showUasym h), (.when h (fun _ h => .set h)), (.ite (.clearAll h) h), (.ite h (.clearAll h)), (.when h
    (fun _ h => .ntsOff h)), (.oneTx h), (.updPair h), (.when h (fun _ h => .clearAll h)), (.when h (fun _ h => .clearAll h)), (.when h
    (fun _ h => .setUinPresence h)), h]

theorem Keeps.storeWrite {req r i ch off data} (h : Keeps w s₀ s) : Keeps w s₀ (s.storeWrite req r i ch off data) :=
  .ite (.accessError h) (.ite (.accessError (.afterStore (.foldl h fun _ _ h => .storePiece h))) (.afterStore (.foldl h fun _ _ h =>
    .storePiece h)))

theorem Keeps.writeReg {req off data be} (h : Keeps ⟨false, false, false⟩ s₀ s) : Keeps ⟨false, false, false⟩ s₀ (s.writeReg req off data be) := by
  unfold State.writeReg
  dsimp only
  split
  · exact .accessError h
  split
  · exact .accessError h
  refine .ite (.accessError h) (.ite (.xbrFail h) ?_)
  split
  next t hw => rw [← Option.getD_some (a := t) (b := s), ← hw]; exact h.actingWrite
  · exact .storeWrite h

theorem Keeps.serveReg {req off write} (h : Keeps ⟨false, false, false⟩ s₀ s) : Keeps ⟨false, false, false⟩ s₀ (s.serveReg req off write) := by
  unfold State.serveReg
  split; exacts [(.readReg h), (.writeReg h)]

theorem Keeps.regAccess {req off write} (h : Keeps ⟨false, false, false⟩ s₀ s) : Keeps ⟨false, false, false⟩ s₀ (s.regAccess req off write) :=
  .ite h (.ite (.readReg h) (.ite (.emit h) (.atFabric h (fun _ h => .ite (.serveReg h) (.stall h)))))

theorem Keeps.replay {d} (h : Keeps ⟨false, false, false⟩ s₀ s) : Keeps ⟨false, false, false⟩ s₀ (s.replay d) :=
  .ite h (.foldl (.updDom h) fun _ _ h => .regAccess h)

theorem Keeps.splitAccess {req off write} (h : Keeps ⟨false, false, false⟩ s₀ s) : Keeps ⟨false, false, false⟩ s₀ (s.splitAccess req off write) :=
  .ite (.regAccess h) (.regAccess (.regAccess h))

theorem Keeps.sramAccess {req addr write} (h : Keeps ⟨false, u, p⟩ s₀ s) : Keeps ⟨false, u, p⟩ s₀ (s.sramAccess req addr write) :=
  .ite h (.ite (.abortAccess h) (by split; exacts [(.ite (.ite (.emit h) h) (.xbrFail h)), (.ite (.ite (.emit h) h) (.ite (.closedBank h)
    (by split; exacts [(.askTarget h), (.askTarget h)])))]))

theorem Keeps.writeMsix {off data be} (h : Keeps w s₀ s) : Keeps w s₀ (s.writeMsix off data be) :=
  .ite h (.ite (.msix (.updSys (.updSys h))) (.updSys h))

theorem Keeps.bar4Access {off write} (h : Keeps w s₀ s) : Keeps w s₀ (s.bar4Access off write) :=
  .ite h (.ite (.abortAccess h) (by split; exacts [(.emit h), (.writeMsix h)]))

theorem Keeps.access {req space off write} (h : Keeps ⟨false, false, false⟩ s₀ s) : Keeps ⟨false, false, false⟩ s₀
  (s.access req space off write) := by
  unfold State.access
  split; exacts [(.splitAccess (.when h (fun _ h => .set h))), (.sramAccess (.when h (fun _ h => .set h))), (.bar4Access (.when h
    (fun _ h => .set h)))]

/-! Supply. -/

theorem Keeps.supplyFlag {f} (h : Keeps w s₀ s) : Keeps w s₀ (s.supplyFlag f) := .flag h

/-! TimeBus. -/

theorem Keeps.commitHere {p} (h : Keeps ⟨m, u, false⟩ s₀ s) : Keeps ⟨m, u, false⟩ s₀ (s.commitHere p) := by
  unfold State.commitHere
  extract_lets a b c
  have ha : Keeps ⟨m, u, false⟩ s₀ a := (.commitHearth h)
  have hb : Keeps ⟨m, u, false⟩ s₀ b := (.showLimit (.ite ha (.stepRelock ha)))
  have hc : Keeps ⟨m, u, false⟩ s₀ c := (.ite (.leaveStopped hb) hb)
  exact (.ite (.noteRetry (.proposeSrv hc)) hc)

/-! What the plan for a received PTP message keeps. -/

/-- The state a plan goes on from. -/
def PtpPlan.state : PtpPlan → State
  | .reply s _ => s
  | .done s => s
  | .stop s _ => s

theorem Keeps.ptpPlan {x auth l} (h : Keeps w s₀ s) : Keeps w s₀ (s.ptpPlan x auth l).state := by
  unfold State.ptpPlan
  have hup : ∀ n m (f : Nat → State), (∀ c, Keeps w s₀ (f c)) →
      Keeps w s₀ (match s.upChan n with
        | some c => if s.fromParent n m then PtpPlan.done (f c) else .done s
        | none => .done s).state := fun n m f hf => by
    split
    · split; exacts [hf _, h]
    · exact h
  dsimp only
  split
  · exact .peerMessage h
  split
  · exact hup _ _ _ fun _ => .rxSync h
  · split
    · exact h
    next hp => exact .planDelayReq h hp
  · split <;> exact h
  · exact .rxPdelayResp h
  · exact hup _ _ _ fun _ => .rxFollowUp h
  · exact hup _ _ _ fun _ => .rxDelayResp h
  · exact .rxPdelayFollow h
  · exact .rxAnnounce h
  · split <;> exact h
  · split
    · exact h
    · split <;> exact h

/-! The commands. -/

theorem pmuExists_eq_has (set : PmuSet) (j : Nat) : pmuExists set j = set.has j := by
  cases set with
  | engine k => rfl
  | cluster => exact Bool.and_true _

theorem Runs.ends (h : Keeps ⟨false, false, p⟩ s₀ s) : Runs ⟨false, false, p⟩ true s₀ s.ends := .next (.resumeWarm h)

theorem Runs.laneRecord {type lane bytes} (h : Keeps ⟨false, false, p⟩ s₀ s) : Runs ⟨false, false, p⟩ (decide (lane < 2)) s₀
  (s.laneRecord type lane bytes) :=
  .onUnit (.resumeWarm (.when h fun _ h => .receive h))

theorem Runs.tokenLaunch (h : Keeps w s₀ s) : Runs w (Instr.tokenLaunch).wf s₀ (exec (.tokenLaunch) s) :=
  .next (.when h (fun _ h => .launchToken (.applyNudges h)))

theorem Runs.tokenArrival {n bytes edge} (h : Keeps ⟨m, false, p⟩ s₀ s) : Runs ⟨m, false, p⟩ (Instr.tokenArrival n bytes edge).wf s₀ (exec
  (.tokenArrival n bytes edge) s) := .onUnit (.tryComplete (.takeToken h))

theorem Runs.tokenTimeout {n} (h : Keeps w s₀ s) : Runs w (Instr.tokenTimeout n).wf s₀ (exec (.tokenTimeout n) s) :=
  .onUnit (.when h (fun _ h => .updIsle h))

theorem Runs.pairCommit {n} (h : Keeps ⟨m, u, false⟩ s₀ s) : Runs ⟨m, u, false⟩ (Instr.pairCommit n).wf s₀ (exec (.pairCommit n) s) :=
  .onUnit (.ite (by split; exacts [(.when h (fun _ h => .commitHere h)), h]) (by split; exacts [(.when h (fun _ h => .updIsle h)), h]))

theorem Runs.routeCalibrationDone {n sum sumSq} (h : Keeps ⟨false, false, false⟩ s₀ s) : Runs ⟨false, false, false⟩
  (Instr.routeCalibrationDone n sum sumSq).wf s₀ (exec
  (.routeCalibrationDone n sum sumSq) s) := .onUnit (.when h (fun _ h => .startCal h))

theorem Runs.roundTripMeasured {n rt} (h : Keeps w s₀ s) : Runs w (Instr.roundTripMeasured n rt).wf s₀ (exec (.roundTripMeasured n rt) s) :=
  .onUnit (.roundTrip h)

theorem Runs.wakeCalibrationDone {n sum sumSq} (h : Keeps w s₀ s) : Runs w (Instr.wakeCalibrationDone n sum sumSq).wf s₀ (exec
  (.wakeCalibrationDone n sum sumSq) s) := .onUnit (.when h (fun _ h => (by split; exacts [(.calBadRoute h), (.calGood h)])))

theorem Runs.powerUp {home fstartN bankSel} : Runs ⟨false, false, false⟩ true s (exec (.powerUp home fstartN bankSel) s) :=
  .next (by
    cases hon : s.supply.on with
    | true => exact .refl s
    | false => exact .powerUp hon)

theorem Runs.holdupCharged (h : Keeps w s₀ s) : Runs w (Instr.holdupCharged).wf s₀ (exec (.holdupCharged) s) :=
  .next (.when h (fun _ h => .showQueue (.set h)))

theorem Runs.vinWarning (h : Keeps w s₀ s) : Runs w (Instr.vinWarning).wf s₀ (exec (.vinWarning) s) :=
  .next (.when h (fun _ h => .supplyFlag h))

theorem Runs.overvoltageWarning (h : Keeps w s₀ s) : Runs w (Instr.overvoltageWarning).wf s₀ (exec (.overvoltageWarning) s) :=
  .next (.when h (fun _ h => .supplyFlag h))

theorem Runs.powerFail {zeroMs} (h : Keeps ⟨false, false, false⟩ s₀ s) : Runs ⟨false, false, false⟩ (Instr.powerFail zeroMs).wf s₀ (exec
  (.powerFail zeroMs) s) :=
  .next (.when h (fun _ h => .supplyFail h))

theorem Runs.overvoltageShutdown {zeroMs} (h : Keeps ⟨false, false, false⟩ s₀ s) : Runs ⟨false, false, false⟩
  (Instr.overvoltageShutdown zeroMs).wf s₀ (exec
  (.overvoltageShutdown zeroMs) s) := .next (.when h (fun _ h => .supplyFail h))

theorem Runs.porstAssert (h : Keeps ⟨false, false, false⟩ s₀ s) : Runs ⟨false, false, false⟩ (Instr.porstAssert).wf s₀ (exec (.porstAssert) s) :=
  .next (.when h (fun _ h => .coldRestart (.vaultPowerFail h)))

theorem Runs.thermalWarning {celsius} (h : Keeps w s₀ s) : Runs w (Instr.thermalWarning celsius).wf s₀ (exec (.thermalWarning celsius) s) :=
  .next (.when h (fun _ h => .supplyFlag h))

theorem Runs.thermalShutdown {celsius zeroMs} (h : Keeps ⟨false, false, false⟩ s₀ s) : Runs ⟨false, false, false⟩
  (Instr.thermalShutdown celsius zeroMs).wf s₀ (exec
  (.thermalShutdown celsius zeroMs) s) := .next (.when h (fun _ h => .supplyFail h))

theorem Runs.supplyUpdate {vin hottest} (h : Keeps ⟨m, false, p⟩ s₀ s) : Runs ⟨m, false, p⟩ (Instr.supplyUpdate vin hottest).wf s₀ (exec
  (.supplyUpdate vin hottest) s) := by
  change Runs _ _ s₀ (execSupplyUpdate vin hottest s)
  unfold execSupplyUpdate
  refine .next (.when h fun t ht => ?_)
  extract_lets good uv ov hot _ a b c d
  have hb : Keeps ⟨m, false, p⟩ s₀ b := .setI (.set (.withSupply ht rfl))
  have hc : Keeps ⟨m, false, p⟩ s₀ c := .ite (.supplyFlag hb) hb
  have hd : Keeps ⟨m, false, p⟩ s₀ d := .ite (.supplyFlag hc) hc
  exact .ite (.supplyFlag hd) hd

theorem Runs.rcpCheck {req bank} (h : Keeps w s₀ s) : Runs w (Instr.rcpCheck req bank).wf s₀ (exec (.rcpCheck req bank) s) :=
  .onUnit (.atFabric h (fun _ h => .writeRcpCtrl h))

theorem Runs.rcpReload {req bank} (h : Keeps w s₀ s) : Runs w (Instr.rcpReload req bank).wf s₀ (exec (.rcpReload req bank) s) :=
  .onUnit (.atFabric h (fun _ h => .writeRcpCtrl h))

theorem Runs.rcpProg {req bank} (h : Keeps w s₀ s) : Runs w (Instr.rcpProg req bank).wf s₀ (exec (.rcpProg req bank) s) :=
  .onUnit (.atFabric h (fun _ h => .writeRcpCtrl h))

theorem Runs.rcpPrefer {req bank} (h : Keeps w s₀ s) : Runs w (Instr.rcpPrefer req bank).wf s₀ (exec (.rcpPrefer req bank) s) :=
  .onUnit (.atFabric h (fun _ h => .writeRcpCtrl h))

theorem Runs.recipeValidationDone (h : Keeps ⟨false, false, false⟩ s₀ s) : Runs ⟨false, false, false⟩ (Instr.recipeValidationDone).wf s₀
  (exec (.recipeValidationDone) s) :=
  .next (.when h (fun _ h => .ite (.startValidated h) (by split; exacts [(.ite h (.actionValidated h)), h])))

theorem Runs.liveShadowAck {island} (h : Keeps w s₀ s) : Runs w (Instr.liveShadowAck island).wf s₀ (exec (.liveShadowAck island) s) :=
  .onUnit (by split; exacts [(.parts h), h])

theorem Runs.liveAckDeadline (h : Keeps w s₀ s) : Runs w (Instr.liveAckDeadline).wf s₀ (exec (.liveAckDeadline) s) :=
  .next (by split; exacts [(.when h (fun _ h => .liveLate h)), h])

theorem Runs.recipeLiveSwitch (h : Keeps w s₀ s) : Runs w (Instr.recipeLiveSwitch).wf s₀ (exec (.recipeLiveSwitch) s) :=
  .next (by split; exacts [(.when h (fun _ h => .liveSwitch h)), h])

theorem Runs.progDone {mismatch} (h : Keeps ⟨false, u, p⟩ s₀ s) : Runs ⟨false, u, p⟩ (Instr.progDone mismatch).wf s₀ (exec (.progDone mismatch) s) :=
  .next (by split; exacts [(.progEnd h), h])

theorem Runs.domainsGood (h : Keeps w s₀ s) : Runs w (Instr.domainsGood).wf s₀ (exec (.domainsGood) s) :=
  .next (.when h (fun _ h => .queueCal (.set h)))

theorem Runs.regulatorTimeout {d} (h : Keeps ⟨false, false, false⟩ s₀ s) : Runs ⟨false, false, false⟩ (Instr.regulatorTimeout d).wf s₀
  (exec (.regulatorTimeout d) s) :=
  .onUnit (.when h (fun _ h => .failStart h))

theorem Runs.firmwareValidated (h : Keeps ⟨false, false, false⟩ s₀ s) : Runs ⟨false, false, false⟩ (Instr.firmwareValidated).wf s₀ (exec
  (.firmwareValidated) s) :=
  .next (.ite (.startFw h) (by split; exacts [(.actionValidated h), h]))

theorem Runs.supReady (h : Keeps ⟨m, false, p⟩ s₀ s) : Runs ⟨m, false, p⟩ (Instr.supReady).wf s₀ (exec (.supReady) s) := .next (.ready h)

theorem Runs.bootLimitExpiry (h : Keeps ⟨false, false, false⟩ s₀ s) : Runs ⟨false, false, false⟩ (Instr.bootLimitExpiry).wf s₀ (exec
  (.bootLimitExpiry) s) :=
  .next (.when h (fun _ h => .failStart h))

theorem Runs.stableTimer (h : Keeps w s₀ s) : Runs w (Instr.stableTimer).wf s₀ (exec (.stableTimer) s) :=
  .next (by split; exacts [h, (.when h (fun _ h => .occur (.set (.showAttempts (.updRecord h)))))])

theorem Runs.lastSecWrite (h : Keeps w s₀ s) : Runs w (Instr.lastSecWrite).wf s₀ (exec (.lastSecWrite) s) :=
  .next (.when h (fun _ h => .updRecord (.parts h)))

theorem Runs.bootWarm {req key} (h : Keeps ⟨false, false, false⟩ s₀ s) : Runs ⟨false, false, false⟩ (Instr.bootWarm req key).wf s₀ (exec
  (.bootWarm req key) s) :=
  .next (.atFabric h (fun _ h => .bootWrite h))

theorem Runs.bootCold {req key} (h : Keeps ⟨false, false, false⟩ s₀ s) : Runs ⟨false, false, false⟩ (Instr.bootCold req key).wf s₀ (exec
  (.bootCold req key) s) :=
  .next (.atFabric h (fun _ h => .bootWrite h))

theorem Runs.bootStarter {req key} (h : Keeps ⟨false, false, false⟩ s₀ s) : Runs ⟨false, false, false⟩ (Instr.bootStarter req key).wf s₀
  (exec (.bootStarter req key) s) :=
  .next (.atFabric h (fun _ h => .bootWrite h))

theorem Runs.bootClrfail {req key} (h : Keeps ⟨false, false, false⟩ s₀ s) : Runs ⟨false, false, false⟩ (Instr.bootClrfail req key).wf s₀
  (exec (.bootClrfail req key) s) :=
  .next (.atFabric h (fun _ h => .bootWrite h))

theorem Runs.bootFwprog {req key bank} (h : Keeps ⟨false, false, false⟩ s₀ s) : Runs ⟨false, false, false⟩
  (Instr.bootFwprog req key bank).wf s₀ (exec (.bootFwprog req key bank) s) :=
  .onUnit (.atFabric h (fun _ h => .bootWrite h))

theorem Runs.bootFwprefer {req key bank} (h : Keeps ⟨false, false, false⟩ s₀ s) : Runs ⟨false, false, false⟩
  (Instr.bootFwprefer req key bank).wf s₀ (exec
  (.bootFwprefer req key bank) s) := .onUnit (.atFabric h (fun _ h => .bootWrite h))

theorem Runs.tftpWriteImage {fw bank image} (h : Keeps ⟨false, u, p⟩ s₀ s) : Runs ⟨false, u, p⟩ (Instr.tftpWriteImage fw bank image).wf s₀ (exec
  (.tftpWriteImage fw bank image) s) := .onUnit (.when h (fun _ h => .tftpImage h))

theorem Runs.tftpWriteRestart (h : Keeps ⟨false, false, false⟩ s₀ s) : Runs ⟨false, false, false⟩ (Instr.tftpWriteRestart).wf s₀ (exec
  (.tftpWriteRestart) s) :=
  .next (.when h (fun _ h => .coldRestart (.emit h)))

theorem Runs.tftpReadStartrec (h : Keeps w s₀ s) : Runs w (Instr.tftpReadStartrec).wf s₀ (exec (.tftpReadStartrec) s) :=
  .next (.when h (fun _ h => .emit h))

theorem Runs.mg0RecoveryEcho {kind payload} (h : Keeps w s₀ s) : Runs w (Instr.mg0RecoveryEcho kind payload).wf s₀ (exec
  (.mg0RecoveryEcho kind payload) s) := .next (.when h (fun _ h => .emit h))

theorem Runs.pulseEdge {c} (h : Keeps w s₀ s) : Runs w (Instr.pulseEdge c).wf s₀ (exec (.pulseEdge c) s) :=
  .onUnit (.when h (fun _ h => .judgeOldest h))

theorem Runs.activityTimeout {c} (h : Keeps w s₀ s) : Runs w (Instr.activityTimeout c).wf s₀ (exec (.activityTimeout c) s) :=
  .onUnit (.when h (fun _ h => (by split; exacts [h, (.when h (fun _ h => .loseActivity (.updRef h)))])))

theorem Runs.freqActivityCount {c} (h : Keeps w s₀ s) : Runs w (Instr.freqActivityCount c).wf s₀ (exec (.freqActivityCount c) s) :=
  .onUnit (.when h (fun _ h => (by split; exacts [h, (.ite (.gainActivity (.updTdc h)) (.loseActivity (.updTdc h)))])))

theorem Runs.irigFrame {c code widths pr16} (h : Keeps w s₀ s) : Runs w (Instr.irigFrame c code widths pr16).wf s₀ (exec
  (.irigFrame c code widths pr16) s) := .onUnit (.when h (fun _ h => .ite (.irigFail (.updRef h)) (by split; exacts [(.irigFail
  (.updRef h)), (.ite (.updRef (.updRef h)) (.irigGood (.updRef h)))])))

theorem Runs.gnssEpochStrobe {half code kStop} (h : Keeps w s₀ s) : Runs w (Instr.gnssEpochStrobe half code kStop).wf s₀ (exec
  (.gnssEpochStrobe half code kStop) s) := .onUnit (by split; exacts [h, (.tdcEdge h)])

theorem Runs.gnssSolution {tsys corr ukind used dual moved validated pos sats} (h : Keeps w s₀ s) : Runs w
  (Instr.gnssSolution tsys corr ukind used dual moved validated pos sats).wf s₀ (exec
  (.gnssSolution tsys corr ukind used dual moved validated pos sats) s) := by
  change Runs _ _ s₀ (execGnssSolution tsys corr ukind used dual moved validated pos sats s)
  unfold execGnssSolution
  refine .next ?_
  split
  · exact h
  extract_lets fix hold left _ a b d e
  have he : Keeps w s₀ e := .foldl (.setI (.setI (.setI (.bump (.sets (.parts h)))))) fun _ _ h => .sets h
  refine .ite he ?_
  clear_value e
  dsimp only
  split
  · split
    · exact .gainActivity (.set (.updRef he))
    · exact .phaseResult (.gainActivity (.set (.updRef he)))
  · exact .gainActivity (.set (.updRef he))

theorem Runs.gnssSurveyComplete (h : Keeps w s₀ s) : Runs w (Instr.gnssSurveyComplete).wf s₀ (exec (.gnssSurveyComplete) s) :=
  .next (.when h (fun _ h => .sets (.parts h)))

theorem Runs.gnssNoFixTimeout (h : Keeps w s₀ s) : Runs w (Instr.gnssNoFixTimeout).wf s₀ (exec (.gnssNoFixTimeout) s) :=
  .next (by split; exacts [h, (.when h (fun _ h => .loseActivity (.sets h)))])

theorem Runs.antennaCurrentSample {mA} (h : Keeps w s₀ s) : Runs w (Instr.antennaCurrentSample mA).wf s₀ (exec (.antennaCurrentSample mA) s) :=
  .next (.antennaSample h)

theorem Runs.antennaShortCutoff (h : Keeps w s₀ s) : Runs w (Instr.antennaShortCutoff).wf s₀ (exec (.antennaShortCutoff) s) :=
  .next (by split; exacts [h, (.when h (fun _ h => .set (.parts h)))])

theorem Runs.antennaRetry {mA} (h : Keeps w s₀ s) : Runs w (Instr.antennaRetry mA).wf s₀ (exec (.antennaRetry mA) s) :=
  .next (.when h (fun _ h => .ite (.set (.parts h)) (.antennaSample (.sets h))))

theorem Runs.esmcPdu {c bytes} (h : Keeps w s₀ s) : Runs w (Instr.esmcPdu c bytes).wf s₀ (exec (.esmcPdu c bytes) s) :=
  .onUnit (.when h (fun _ h => (by split; exacts [h, (.updRef (.set h))])))

theorem Runs.esmcTimeout {c} (h : Keeps w s₀ s) : Runs w (Instr.esmcTimeout c).wf s₀ (exec (.esmcTimeout c) s) :=
  .onUnit (.when h (fun _ h => .updRef h))

theorem Runs.announceReceiptTimeout {c} (h : Keeps w s₀ s) : Runs w (Instr.announceReceiptTimeout c).wf s₀ (exec
  (.announceReceiptTimeout c) s) := .onUnit (.when h (fun _ h => .losePresence (.set h)))

theorem Runs.qclassEvaluation {c} (h : Keeps w s₀ s) : Runs w (Instr.qclassEvaluation c).wf s₀ (exec (.qclassEvaluation c) s) :=
  .onUnit (.evalClass h)

theorem Runs.uinSenseSample {k nV} (h : Keeps w s₀ s) : Runs w (Instr.uinSenseSample k nV).wf s₀ (exec (.uinSenseSample k nV) s) :=
  .onUnit (by split; exacts [h, (.setUinPresence (.setSat h))])

theorem Runs.plugHoldDone {c} (h : Keeps w s₀ s) : Runs w (Instr.plugHoldDone c).wf s₀ (exec (.plugHoldDone c) s) :=
  .onUnit (by split; exacts [h, (.when h (fun _ h => .tryQualify (.refFlag (.updRef h))))])

theorem Runs.heldStampRelease {c} (h : Keeps w s₀ s) : Runs w (Instr.heldStampRelease c).wf s₀ (exec (.heldStampRelease c) s) :=
  .onUnit (by split; exacts [(.when h (fun _ h => .releaseStamp (.updRef h))), h])

theorem Runs.refCfgWrite {req c data} (h : Keeps w s₀ s) : Runs w (Instr.refCfgWrite req c data).wf s₀ (exec (.refCfgWrite req c data) s) :=
  .onUnit (.atFabric h (fun _ h => .writeRefCfg h))

theorem Runs.refNomfreqWrite {req c high data} (h : Keeps w s₀ s) : Runs w (Instr.refNomfreqWrite req c high data).wf s₀ (exec
  (.refNomfreqWrite req c high data) s) := .onUnit (.atFabric h (fun _ h => .writeNomfreq h))

theorem Runs.tdcEdge {n half code kStop} (h : Keeps w s₀ s) : Runs w (Instr.tdcEdge n half code kStop).wf s₀ (exec
  (.tdcEdge n half code kStop) s) := .onUnit (.when h (fun _ h => .tdcEdge h))

theorem Runs.interpolatorCalibration {n half c1 c2} (h : Keeps w s₀ s) : Runs w (Instr.interpolatorCalibration n half c1 c2).wf s₀ (exec
  (.interpolatorCalibration n half c1 c2) s) := .onUnit (.when h (fun _ h => .calPair h))

theorem Runs.phaseResultMs {c} (h : Keeps w s₀ s) : Runs w (Instr.phaseResultMs c).wf s₀ (exec (.phaseResultMs c) s) :=
  .onUnit (.when h (fun _ h => (by split; exacts [h, (.phaseResult (.updRef h))])))

theorem Runs.intervalRecord {n} (h : Keeps w s₀ s) : Runs w (Instr.intervalRecord n).wf s₀ (exec (.intervalRecord n) s) := by
  change Runs _ _ s₀ (execIntervalRecord n s)
  unfold execIntervalRecord
  dsimp only
  exact .onUnit (by split; exacts [h, (.when h (fun _ h => (by split; exacts [(.set (.updTdc h)), (by split; exacts [(.updTdc h), (.record
    (.ite (.updTdc (.updTdc h)) (.updTdc h)))])])))])

theorem Runs.gateEnd {n} (h : Keeps w s₀ s) : Runs w (Instr.gateEnd n).wf s₀ (exec (.gateEnd n) s) := by
  change Runs _ _ s₀ (execGateEnd n s)
  unfold execGateEnd
  dsimp only
  exact .onUnit (by split; exacts [(.rollGate h), (.when (.rollGate h) (fun _ h => .closeGate h))])

theorem Runs.tdcClrcnt {req n} (h : Keeps w s₀ s) : Runs w (Instr.tdcClrcnt req n).wf s₀ (exec (.tdcClrcnt req n) s) :=
  .onUnit (.atFabric h (fun _ h => .ite (.accessError h) (.sets h)))

theorem Runs.tdcTbWrite {req data} (h : Keeps w s₀ s) : Runs w (Instr.tdcTbWrite req data).wf s₀ (exec (.tdcTbWrite req data) s) :=
  .next (.atFabric h (fun _ h => .writeTdcTb h))

theorem Runs.tdcGateWrite {req n data} (h : Keeps w s₀ s) : Runs w (Instr.tdcGateWrite req n data).wf s₀ (exec (.tdcGateWrite req n data) s) :=
  .onUnit (.atFabric h (fun _ h => .writeTdcGate h))

theorem Runs.cellHeatingDone (h : Keeps w s₀ s) : Runs w (Instr.cellHeatingDone).wf s₀ (exec (.cellHeatingDone) s) :=
  .next (.when h (fun _ h => .enterCell h))

theorem Runs.opticalSearchDone (h : Keeps w s₀ s) : Runs w (Instr.opticalSearchDone).wf s₀ (exec (.opticalSearchDone) s) :=
  .next (.when h (fun _ h => .enterCell h))

theorem Runs.microwaveLock (h : Keeps w s₀ s) : Runs w (Instr.microwaveLock).wf s₀ (exec (.microwaveLock) s) :=
  .next (.when h (fun _ h => .refreshHset (by split; exacts [(.gainPresence (.parts (.bumpSat (.set (.enterCell h))))), (.parts (.bumpSat
    (.set (.enterCell h))))])))

theorem Runs.cellSearchTimeout (h : Keeps w s₀ s) : Runs w (Instr.cellSearchTimeout).wf s₀ (exec (.cellSearchTimeout) s) :=
  .next (.when h (fun _ h => .enterCell h))

theorem Runs.cellFaultRetry (h : Keeps w s₀ s) : Runs w (Instr.cellFaultRetry).wf s₀ (exec (.cellFaultRetry) s) :=
  .next (.when h (fun _ h => .enterCell h))

theorem Runs.cellUnlock {inWindow} (h : Keeps w s₀ s) : Runs w (Instr.cellUnlock inWindow).wf s₀ (exec (.cellUnlock inWindow) s) :=
  .next (.when h (fun _ h => .cellUnlocked h))

theorem Runs.ovenProofClear (h : Keeps w s₀ s) : Runs w (Instr.ovenProofClear).wf s₀ (exec (.ovenProofClear) s) :=
  .next (by split; exacts [h, (.when h (fun _ h => .proofCleared h))])

theorem Runs.cellProofClear (h : Keeps w s₀ s) : Runs w (Instr.cellProofClear).wf s₀ (exec (.cellProofClear) s) :=
  .next (.when h (fun _ h => .proofCleared h))

theorem Runs.ovenDeviation (h : Keeps w s₀ s) : Runs w (Instr.ovenDeviation).wf s₀ (exec (.ovenDeviation) s) :=
  .next (by split; exacts [h, (.when h (fun _ h => .flag (.refreshHset (.set h))))])

theorem Runs.cellProofSet (h : Keeps w s₀ s) : Runs w (Instr.cellProofSet).wf s₀ (exec (.cellProofSet) s) :=
  .next (by split; exacts [h, (.when h (fun _ h => .refreshHset (.set h)))])

theorem Runs.heaterFault {cell} (h : Keeps w s₀ s) : Runs w (Instr.heaterFault cell).wf s₀ (exec (.heaterFault cell) s) :=
  .next (.when h (fun _ h => .ite (.enterCell (.flag h)) (.flag h)))

theorem Runs.sensorSample {temps oven cell ovenHeat cellHeat} (h : Keeps w s₀ s) : Runs w
  (Instr.sensorSample temps oven cell ovenHeat cellHeat).wf s₀ (exec (.sensorSample temps oven cell ovenHeat cellHeat) s) := .next (.ite
  (.useFree (.setI (.parts (.sets (.setISat (.setISat (.foldl h fun _ _ h => .sampleSensor h))))))) (.setI (.parts (.sets (.setISat
  (.setISat (.foldl h fun _ _ h => .sampleSensor h)))))))

theorem Runs.loadReport {q used} (h : Keeps w s₀ s) : Runs w (Instr.loadReport q used).wf s₀ (exec (.loadReport q used) s) :=
  .onUnit (.when h (fun _ h => .takeLoad (.setSat (.set h))))

theorem Runs.loadReportMissing {q} (h : Keeps w s₀ s) : Runs w (Instr.loadReportMissing q).wf s₀ (exec (.loadReportMissing q) s) :=
  .onUnit (.ite (.takeLoad (.set h)) (.takeLoad h))

theorem Runs.operatingPointUpdate (h : Keeps w s₀ s) : Runs w (Instr.operatingPointUpdate).wf s₀ (exec (.operatingPointUpdate) s) :=
  .next (.when h (fun _ h => .setSat (.setSat (.reviewUntrained (.reviewRate (.sets (.ite (.useFree (.parts (.chargeCarry h))) (.parts
    (.chargeCarry h)))))))))

theorem Runs.ageingDayEnd (h : Keeps w s₀ s) : Runs w (Instr.ageingDayEnd).wf s₀ (exec (.ageingDayEnd) s) :=
  .next (.showAgeing (.showAgeing (.parts h)))

theorem Runs.modelStoreWrite {ok} (h : Keeps w s₀ s) : Runs w (Instr.modelStoreWrite ok).wf s₀ (exec (.modelStoreWrite ok) s) :=
  .next (.when h (fun _ h => .writeStore h))

theorem Runs.oscClrC {req key} (h : Keeps w s₀ s) : Runs w (Instr.oscClrC req key).wf s₀ (exec (.oscClrC req key) s) :=
  .next (.atFabric h (fun _ h => .oscAction h (fun _ h => .clearSet h)))

theorem Runs.oscClrO {req key} (h : Keeps w s₀ s) : Runs w (Instr.oscClrO req key).wf s₀ (exec (.oscClrO req key) s) :=
  .next (.atFabric h (fun _ h => .oscAction h (fun _ h => .clearSet h)))

theorem Runs.oscRelock {req key} (h : Keeps w s₀ s) : Runs w (Instr.oscRelock req key).wf s₀ (exec (.oscRelock req key) s) :=
  .next (.atFabric h (fun _ h => .oscAction h (fun _ h => .relock h)))

theorem Runs.oscStore {req key ok} (h : Keeps w s₀ s) : Runs w (Instr.oscStore req key ok).wf s₀ (exec (.oscStore req key ok) s) :=
  .next (.atFabric h (fun _ h => .oscAction h (fun _ h => .writeStore h)))

theorem Runs.srvUpdate {n} (h : Keeps w s₀ s) : Runs w (Instr.srvUpdate n).wf s₀ (exec (.srvUpdate n) s) := by
  change Runs _ _ s₀ (execSrvUpdate n s)
  unfold execSrvUpdate
  refine .onUnit (.when h fun t ht => .ite (.updSrv (.characterise ht)) (.ite ht (.ite ht ?_)))
  extract_lets x since input v y
  have hx : Keeps w s₀ x := .ite (.set (.updSrv ht)) ht
  clear_value input
  have hv : Keeps w s₀ v := .ite (.mainUpdate hx) (by split; exacts [.set (.set (.coastSide hx)), .ite (.coastSide hx) (.sideUpdate hx)])
  exact .ite (.recompute (.updSrv hv)) (.updSrv hv)

theorem Runs.dpGo {req key} (h : Keeps w s₀ s) : Runs w (Instr.dpGo req key).wf s₀ (exec (.dpGo req key) s) :=
  .next (.atFabric h (fun _ h => .writeDpCtrl h))

theorem Runs.srvManWrite {req data} (h : Keeps w s₀ s) : Runs w (Instr.srvManWrite req data).wf s₀ (exec (.srvManWrite req data) s) :=
  .next (.atFabric h (fun _ h => .writeSrvCtrl h))

theorem Runs.srvClri {req n} (h : Keeps w s₀ s) : Runs w (Instr.srvClri req n).wf s₀ (exec (.srvClri req n) s) :=
  .onUnit (.atFabric h (fun _ h => .ite (.accessError h) (.set h)))

theorem Runs.utcSourceReport {src offset ann leapSec after} (h : Keeps w s₀ s) : Runs w
  (Instr.utcSourceReport src offset ann leapSec after).wf s₀ (exec (.utcSourceReport src offset ann leapSec after) s) := by
  have hwf : (Instr.utcSourceReport src offset ann leapSec after).wf = decide (2 ≤ src ∧ src ≤ 4) := (Bool.decide_and _ _).symm
  rw [hwf]
  exact .onUnit (.takeReport h)

theorem Runs.leapSecReached (h : Keeps w s₀ s) : Runs w (Instr.leapSecReached).wf s₀ (exec (.leapSecReached) s) :=
  .next (.when h (fun _ h => .journalChanges (.hrtFlag (.sets (.setBit (.setUtcOffset h))))))

theorem Runs.utcDisagreeTimeout (h : Keeps w s₀ s) : Runs w (Instr.utcDisagreeTimeout).wf s₀ (exec (.utcDisagreeTimeout) s) :=
  .next (by split; exacts [h, (by split; exacts [h, (.when h (fun _ h => .hrtFlag h))])])

theorem Runs.utcwSetoff {req offset} (h : Keeps w s₀ s) : Runs w (Instr.utcwSetoff req offset).wf s₀ (exec (.utcwSetoff req offset) s) :=
  .next (.atFabric h (fun _ h => .utcwSetoff h))

theorem Runs.setoffApply (h : Keeps w s₀ s) : Runs w (Instr.setoffApply).wf s₀ (exec (.setoffApply) s) :=
  .next (by split; exacts [h, (.when h (fun _ h => .journalChanges (.setUtcOffset (.withHrt h rfl pairsKept))))])

theorem Runs.utcwSched {req del} (h : Keeps w s₀ s) : Runs w (Instr.utcwSched req del).wf s₀ (exec (.utcwSched req del) s) :=
  .next (.atFabric h (fun _ h => .utcwSched h))

theorem Runs.utcwCancel {req} (h : Keeps w s₀ s) : Runs w (Instr.utcwCancel req).wf s₀ (exec (.utcwCancel req) s) :=
  .next (.atFabric h (fun _ h => .takeReport h))

theorem Runs.secondBoundary (h : Keeps w s₀ s) : Runs w (Instr.secondBoundary).wf s₀ (exec (.secondBoundary) s) :=
  .next (.when h (fun _ h => .ite (.emit (.markSecond h)) (.markSecond h)))

theorem Runs.refEvaluation {c} (h : Keeps w s₀ s) : Runs w (Instr.refEvaluation c).wf s₀ (exec (.refEvaluation c) s) :=
  .onUnit (.when h (fun _ h => .evaluate h))

theorem Runs.holdoffEnd {c} (h : Keeps w s₀ s) : Runs w (Instr.holdoffEnd c).wf s₀ (exec (.holdoffEnd c) s) := .onUnit (.tryQualify h)

theorem Runs.qtimeExpiry {c} (h : Keeps w s₀ s) : Runs w (Instr.qtimeExpiry c).wf s₀ (exec (.qtimeExpiry c) s) :=
  .onUnit (.when h (fun _ h => .reviewLead (.set h)))

theorem Runs.selectionEvaluation (h : Keeps w s₀ s) : Runs w (Instr.selectionEvaluation).wf s₀ (exec (.selectionEvaluation) s) :=
  .next (.evalSelection h)

theorem Runs.refSelctlWrite {req data} (h : Keeps w s₀ s) : Runs w (Instr.refSelctlWrite req data).wf s₀ (exec (.refSelctlWrite req data) s) :=
  .next (.atFabric h (fun _ h => .writeSelctl h))

theorem Runs.synFreqWrite {req u high data} (h : Keeps w s₀ s) : Runs w (Instr.synFreqWrite req u high data).wf s₀ (exec
  (.synFreqWrite req u high data) s) := .onUnit (.atFabric h (fun _ h => .writeSynFreq h))

theorem Runs.synLockDeclared {u} (h : Keeps w s₀ s) : Runs w (Instr.synLockDeclared u).wf s₀ (exec (.synLockDeclared u) s) :=
  .onUnit (.when h fun _ h => .ite (.showLimit (.withPort (.armReleases (.set h)) (List.length_map _)))
    (.showUnit (.unitFlag (.armReleases (.set h)))))

theorem Runs.outputRelease {n} (h : Keeps w s₀ s) : Runs w (Instr.outputRelease n).wf s₀ (exec (.outputRelease n) s) := .onUnit (.settleOut h)

theorem Runs.slewStep {u} (h : Keeps w s₀ s) : Runs w (Instr.slewStep u).wf s₀ (exec (.slewStep u) s) :=
  .onUnit (.when h (fun _ h => .slewStep h))

theorem Runs.synLossOfLock {u} (h : Keeps w s₀ s) : Runs w (Instr.synLossOfLock u).wf s₀ (exec (.synLossOfLock u) s) :=
  .onUnit (.when h (fun _ h => .unitFlag (.enterCoast (.settleOuts h))))

theorem Runs.synReferenceLoss {u} (h : Keeps w s₀ s) : Runs w (Instr.synReferenceLoss u).wf s₀ (exec (.synReferenceLoss u) s) :=
  .onUnit (.when h (fun _ h => .ite (.enterCoast (.settleOuts h)) (.unitFlag (.enterCoast (.settleOuts h)))))

theorem Runs.coastEnd {u} (h : Keeps w s₀ s) : Runs w (Instr.coastEnd u).wf s₀ (exec (.coastEnd u) s) :=
  .onUnit (.when h (fun _ h => .gatedRelock (.settleOuts (.updUnit h))))

theorem Runs.outEnWrite {req n data} (h : Keeps w s₀ s) : Runs w (Instr.outEnWrite req n data).wf s₀ (exec (.outEnWrite req n data) s) :=
  .onUnit (.atFabric h (fun _ h => .writeOutCfg h))

theorem Runs.outRegridWrite {req n which value} (h : Keeps w s₀ s) : Runs w (Instr.outRegridWrite req n which value).wf s₀ (exec
  (.outRegridWrite req n which value) s) := .onUnit (.atFabric h (fun _ h => .writeGrid h))

theorem Runs.outRealign {req u data} (h : Keeps w s₀ s) : Runs w (Instr.outRealign req u data).wf s₀ (exec (.outRealign req u data) s) :=
  .onUnit (.atFabric h (fun _ h => .writeSynCtrl h))

theorem Runs.outRecal {req n} (h : Keeps w s₀ s) : Runs w (Instr.outRecal req n).wf s₀ (exec (.outRecal req n) s) :=
  .onUnit (.atFabric h (fun _ h => .updOut h))

theorem Runs.loopbackDwellEnd {n began lams} (h : Keeps w s₀ s) : Runs w (Instr.loopbackDwellEnd n began lams).wf s₀ (exec
  (.loopbackDwellEnd n began lams) s) := by
  change Runs _ _ s₀ (execLoopbackDwellEnd n began lams s)
  unfold execLoopbackDwellEnd
  dsimp only
  exact .onUnit (.when h (fun _ h => (by split; exacts [(.settleOut h), (.ite (.ite (.bumpSat (.settleOut h)) (.tdcMark (.bumpSat
    (.settleOut h)))) (.dwellEnd (.ite (.bumpSat (.settleOut h)) (.tdcMark (.bumpSat (.settleOut h))))))])))

theorem Runs.lineStartEdge {n at16} (h : Keeps w s₀ s) : Runs w (Instr.lineStartEdge n at16).wf s₀ (exec (.lineStartEdge n at16) s) :=
  .onUnit (.when (.settleOut h) (fun _ h => .lineStart h))

theorem Runs.frameReceived {n edge b preempt bytes} (h : Keeps w s₀ s) : Runs w (Instr.frameReceived n edge b preempt bytes).wf s₀ (exec
  (.frameReceived n edge b preempt bytes) s) := .onUnit (.when h (fun _ h => .classify (.ite (.hearFrag h) (.bumpSat (.hearFrag h)))))

theorem Runs.frameTransmitted {n q edge b} (h : Keeps w s₀ s) : Runs w (Instr.frameTransmitted n q edge b).wf s₀ (exec
  (.frameTransmitted n q edge b) s) := .onUnit (by split; exacts [(by split; exacts [h, (.when h (fun _ h => .sentFrame (.emit
  (.updPort h))))]), (by split; exacts [h, (.when h (fun _ h => .sentFrame (.emit (.updPort h))))])])

theorem Runs.blockLock {n} (h : Keeps w s₀ s) : Runs w (Instr.blockLock n).wf s₀ (exec (.blockLock n) s) :=
  .onUnit (.when h (fun _ h => .foldl (.prtFlag (.updPort (.set (.set h)))) fun _ _ h => .ite (.gainPresence (.updRef h)) h))

theorem Runs.latencyMeasured {n rx tx} (h : Keeps w s₀ s) : Runs w (Instr.latencyMeasured n rx tx).wf s₀ (exec (.latencyMeasured n rx tx) s) :=
  .onUnit (.when h (fun _ h => .showUasym (.sets (.updPort h))))

theorem Runs.prtLatcal {req n} (h : Keeps w s₀ s) : Runs w (Instr.prtLatcal req n).wf s₀ (exec (.prtLatcal req n) s) :=
  .onUnit (.atDomain h (fun _ h => .latcal h))

theorem Runs.linkDown {n cut} (h : Keeps w s₀ s) : Runs w (Instr.linkDown n cut).wf s₀ (exec (.linkDown n cut) s) :=
  .onUnit (.when h (fun _ h => .portDown (by split; exacts [h, (by split; exacts [(.ite h (.sentFrame (.updPort h))), h]),
    (by split; exacts [(.sentFrame (.updPort h)), h])])))

theorem Runs.pauseFrame {n quanta} (h : Keeps w s₀ s) : Runs w (Instr.pauseFrame n quanta).wf s₀ (exec (.pauseFrame n quanta) s) :=
  .onUnit (.when h (fun _ h => .ite (.updPort h) (.foldl (.updPort h) fun _ _ h => .collapse h)))

theorem Runs.preemptVerifyDone {n ok} (h : Keeps w s₀ s) : Runs w (Instr.preemptVerifyDone n ok).wf s₀ (exec (.preemptVerifyDone n ok) s) :=
  .onUnit (.when h (fun _ h => .ite (.set h) (.foldl (.set h) fun _ _ h => .collapse h)))

theorem Runs.prtAsymcal {req n} (h : Keeps w s₀ s) : Runs w (Instr.prtAsymcal req n).wf s₀ (exec (.prtAsymcal req n) s) :=
  .onUnit (.atDomain h (fun _ h => .asymcal h))

theorem Runs.asymcalWindowEnd {n} (h : Keeps w s₀ s) : Runs w (Instr.asymcalWindowEnd n).wf s₀ (exec (.asymcalWindowEnd n) s) :=
  .onUnit (by split; exacts [h, (.when h (fun _ h => .acalEnd h))])

theorem Runs.esmcInfoSend {n event} (h : Keeps w s₀ s) : Runs w (Instr.esmcInfoSend n event).wf s₀ (exec (.esmcInfoSend n event) s) :=
  .onUnit (.when h (fun _ h => .sendOn (.updPort (.sets h))))

theorem Runs.mg0RxInterrupt (h : Keeps w s₀ s) : Runs w (Instr.mg0RxInterrupt).wf s₀ (exec (.mg0RxInterrupt) s) := .next (.parts h)

theorem Runs.sfpAbsChange {n abs} (h : Keeps w s₀ s) : Runs w (Instr.sfpAbsChange n abs).wf s₀ (exec (.sfpAbsChange n abs) s) :=
  .onUnit (.when h (fun _ h => .ite (.portDown (.flagBit (.showTxdis (.set h)))) (.flagBit (.showTxdis (.set h)))))

theorem Runs.sfpLos {n los} (h : Keeps w s₀ s) : Runs w (Instr.sfpLos n los).wf s₀ (exec (.sfpLos n los) s) :=
  .onUnit (.ite (.portDown (.set h)) (.set h))

theorem Runs.reservation {id starts} (h : Keeps w s₀ s) : Runs w (Instr.reservation id starts).wf s₀ (exec (.reservation id starts) s) :=
  .next (by split; exacts [h, (.when h (fun _ h => .reserve (.clusterEvent h)))])

theorem Runs.sealedMessageArrival {id} (h : Keeps w s₀ s) : Runs w (Instr.sealedMessageArrival id).wf s₀ (exec
  (.sealedMessageArrival id) s) := by
  change Runs _ _ s₀ (execSealedMessageArrival id s)
  unfold execSealedMessageArrival
  dsimp only
  exact .next (by split; exacts [h, (.when h (fun _ h => (by split; exacts [h, (.ite (.collapse (.ite (.setISat (.setISat h))
    (.setISat h))) (.updPort (.ite (.setISat (.setISat h)) (.setISat h))))])))])

theorem Runs.departureRelease {n} (h : Keeps w s₀ s) : Runs w (Instr.departureRelease n).wf s₀ (exec (.departureRelease n) s) :=
  .onUnit (by split; exacts [h, (.when h (fun _ h => .releaseOne h))])

theorem Runs.commitRecord {id} (h : Keeps w s₀ s) : Runs w (Instr.commitRecord id).wf s₀ (exec (.commitRecord id) s) :=
  .next (by split; exacts [h, (.when h (fun _ h => .commit (.engineEvent h)))])

theorem Runs.apdClrcnt {req n} (h : Keeps w s₀ s) : Runs w (Instr.apdClrcnt req n).wf s₀ (exec (.apdClrcnt req n) s) :=
  .onUnit (.atDomain h (fun _ h => .clearAll h))

theorem Runs.apdClrmarg {req n} (h : Keeps w s₀ s) : Runs w (Instr.apdClrmarg req n).wf s₀ (exec (.apdClrmarg req n) s) :=
  .onUnit (.atDomain h (fun _ h => .set h))

theorem Runs.pipelineDequeue {p st} (h : Keeps w s₀ s) : Runs w (Instr.pipelineDequeue p st).wf s₀ (exec (.pipelineDequeue p st) s) :=
  .onUnit (by split; exacts [h, (.ite (by split; exacts [h, (.ite (.bump (.newCtx (.choseEngine (.parts h)))) (.hostService (.choseEngine
    (.parts h))))]) (by split; exacts [h, (.showCtx (.showCtx (.choseEngine (.updCtx h))))]))])

theorem Runs.laneGrant {hmac} (h : Keeps w s₀ s) : Runs w (Instr.laneGrant hmac).wf s₀ (exec (.laneGrant hmac) s) :=
  .next (by split; exacts [(.ite (.clusterEvent (.showLanes (.parts h))) (.showLanes (.parts h))), h])

theorem Runs.laneResult {j bad} (h : Keeps w s₀ s) : Runs w (Instr.laneResult j bad).wf s₀ (exec (.laneResult j bad) s) := by
  change Runs _ _ s₀ (execLaneResult j bad s)
  unfold execLaneResult
  refine .onUnit ?_
  split
  · exact h
  refine .when h fun t ht => ?_
  extract_lets fault a l refused stale done _ b c d e
  have ha : Keeps w s₀ a := .ite (by split; exacts [.cellFault ht, ht]) ht
  have hb : Keeps w s₀ b := .showLanes (.parts ha)
  have hc : Keeps w s₀ c := by unfold c; split; exacts [.ite hb (.useSlot hb), hb]
  have hd : Keeps w s₀ d := .ite (by split; exacts [.kvtFlag hc, hc]) hc
  exact .laneBack (.ite (.flag (.bumpSat hd)) hd)

theorem Runs.ringProdWrite {req r prod posted} (h : Keeps w s₀ s) : Runs w (Instr.ringProdWrite req r prod posted).wf s₀ (exec
  (.ringProdWrite req r prod posted) s) := .onUnit (.atDomain h (fun _ h => .writeProd h))

theorem Runs.descriptorWriteback {r host} (h : Keeps ⟨false, u, p⟩ s₀ s) : Runs ⟨false, u, p⟩ (Instr.descriptorWriteback r host).wf s₀ (exec
  (.descriptorWriteback r host) s) := .onUnit (.ite (.stopOnEcc h) (.ite (by split; exacts [h, (.clusterEvent (.writeEngineBound
  (.parts h)))]) (by split; exacts [h, (.clusterEvent (.writeHostBound (.parts h)))])))

theorem Runs.ringEnWrite {req r data} (h : Keeps w s₀ s) : Runs w (Instr.ringEnWrite req r data).wf s₀ (exec (.ringEnWrite req r data) s) :=
  .onUnit (.atDomain h (fun _ h => .writeRingCfg h))

theorem Runs.ringCoalesceTimeout {r} (h : Keeps w s₀ s) : Runs w (Instr.ringCoalesceTimeout r).wf s₀ (exec (.ringCoalesceTimeout r) s) :=
  .onUnit (by split; exacts [h, (.when h (fun _ h => .ringSignal h))])

theorem Runs.pkeDrainWrite {req data} (h : Keeps w s₀ s) : Runs w (Instr.pkeDrainWrite req data).wf s₀ (exec (.pkeDrainWrite req data) s) :=
  .next (.atDomain h (fun _ h => .writeDrain h))

theorem Runs.drained (h : Keeps w s₀ s) : Runs w (Instr.drained).wf s₀ (exec (.drained) s) := .next (.showDrained h)

theorem Runs.engineFault {k reload} (h : Keeps w s₀ s) : Runs w (Instr.engineFault k reload).wf s₀ (exec (.engineFault k reload) s) :=
  .onUnit (.ite (.when h (fun _ h => .sets h)) (.when h (fun _ h => .ite (.sampleLost (.updPmu (.flag (.foldl (.sets h) fun _ _ h => .ite
    (.dropMsg h) (.abandon h))))) (.flag (.foldl (.sets h) fun _ _ h => .ite (.dropMsg h) (.abandon h))))))

theorem Runs.clsWrite {req} (h : Keeps w s₀ s) : Runs w (Instr.clsWrite req).wf s₀ (exec (.clsWrite req) s) :=
  .next (.atDomain h (fun _ h => .clsWrite h))

theorem Runs.clsRead {req} (h : Keeps w s₀ s) : Runs w (Instr.clsRead req).wf s₀ (exec (.clsRead req) s) :=
  .next (.atDomain h (fun _ h => .clsRead h))

theorem Runs.clsBankSwap (h : Keeps w s₀ s) : Runs w (Instr.clsBankSwap).wf s₀ (exec (.clsBankSwap) s) :=
  .next (by split; exacts [h, (.when h (fun _ h => .set (.set (.parts h))))])

theorem Runs.pcntClr {req p} (h : Keeps w s₀ s) : Runs w (Instr.pcntClr req p).wf s₀ (exec (.pcntClr req p) s) :=
  .onUnit (.atDomain h (fun _ h => .clearAll h))

theorem Runs.ntsRequest {id} (h : Keeps w s₀ s) : Runs w (Instr.ntsRequest id).wf s₀ (exec (.ntsRequest id) s) := by
  change Runs _ _ s₀ (execNtsRequest id s)
  unfold execNtsRequest
  dsimp only
  exact .next (by split; exacts [h, (.when h (fun _ h => (by split; exacts [(.abandon (.sketchChecked h)), (.ite (.abandon
    (.sketchChecked h)) (.ntsAsk (.parts (.updCtx (by split; exacts [(.makeCookies (.sketchChecked h)), (.sketchChecked h)])))))])))])

theorem Runs.keyRotation (h : Keeps w s₀ s) : Runs w (Instr.keyRotation).wf s₀ (exec (.keyRotation) s) :=
  .next (.when h (fun _ h => .startRotation h))

theorem Runs.ntsRotate {req key} (h : Keeps w s₀ s) : Runs w (Instr.ntsRotate req key).wf s₀ (exec (.ntsRotate req key) s) :=
  .next (.atDomain h (fun _ h => .writeRotctrl h))

theorem Runs.rotationSwitch (h : Keeps w s₀ s) : Runs w (Instr.rotationSwitch).wf s₀ (exec (.rotationSwitch) s) :=
  .next (by split; exacts [(.applyKeys h), (by split; exacts [(.applyKeys h), (.when (.applyKeys h) (fun _ h => .rotSwitch h))])])

theorem Runs.encslotRetire (h : Keeps w s₀ s) : Runs w (Instr.encslotRetire).wf s₀ (exec (.encslotRetire) s) :=
  .next (by split; exacts [h, (.when h (fun _ h => .parts h))])

theorem Runs.graceExpiry {p} (h : Keeps w s₀ s) : Runs w (Instr.graceExpiry p).wf s₀ (exec (.graceExpiry p) s) :=
  .onUnit (.when h (fun _ h => .storePositions (.setPos h)))

theorem Runs.sketchSweep (h : Keeps w s₀ s) : Runs w (Instr.sketchSweep).wf s₀ (exec (.sketchSweep) s) := .next (.when h (fun _ h => .parts h))

theorem Runs.ntsReseed {req key} (h : Keeps w s₀ s) : Runs w (Instr.ntsReseed req key).wf s₀ (exec (.ntsReseed req key) s) :=
  .next (.atDomain h (fun _ h => .writeRotctrl h))

theorem Runs.drbgReseed (h : Keeps w s₀ s) : Runs w (Instr.drbgReseed).wf s₀ (exec (.drbgReseed) s) :=
  .next (.when h (fun _ h => .useFree (.parts h)))

theorem Runs.ntsClrcnt {req} (h : Keeps w s₀ s) : Runs w (Instr.ntsClrcnt req).wf s₀ (exec (.ntsClrcnt req) s) :=
  .next (.atDomain h (fun _ h => .clearAll h))

theorem Runs.ntsKeConnection {c ev} (h : Keeps w s₀ s) : Runs w (Instr.ntsKeConnection c ev).wf s₀ (exec (.ntsKeConnection c ev) s) :=
  .next (by split; exacts [(.ite (.emit (.keEvent h)) (.showKe (.parts h))), h, (.keExchange h), (.keClose (.keEvent h)), h])

theorem Runs.ntsKeIdleTimeout {c} (h : Keeps w s₀ s) : Runs w (Instr.ntsKeIdleTimeout c).wf s₀ (exec (.ntsKeIdleTimeout c) s) :=
  .next (by split; exacts [h, (.when h (fun _ h => .keClose h))])

theorem Runs.mg0NtpRequest {frame} (h : Keeps w s₀ s) : Runs w (Instr.mg0NtpRequest frame).wf s₀ (exec (.mg0NtpRequest frame) s) := by
  change Runs _ _ s₀ (execMg0NtpRequest frame s)
  unfold execMg0NtpRequest
  dsimp only
  exact .next (.when h (fun _ h => (by split; exacts [(.bump h), (.mgReply h)])))

theorem Runs.ptpMessage {id} (h : Keeps w s₀ s) : Runs w (Instr.ptpMessage id).wf s₀ (exec (.ptpMessage id) s) := by
  change Runs _ _ s₀ (execPtpMessage id s)
  unfold execPtpMessage
  refine .next ?_
  split
  · exact h
  refine .when h fun t ht => ?_
  dsimp only
  split
  · exact .ptpAbandon ht
  split
  · exact .ptpAbandon ht
  split
  · exact .ptpAbandon ht
  have hplan : ∀ {c : Bool} {y a l p}, (if c = true then t.clusterEvent 9 0 else t).ptpPlan y a l = p → Keeps w s₀ p.state := fun hp =>
    hp ▸ .ptpPlan (.ite (.clusterEvent ht) ht)
  split
  · next hp => exact .ptpAbandon (hplan hp)
  · next hp => exact .bump (.freeCtx (hplan hp))
  · next t' z hp =>
    have ht' : Keeps w s₀ t' := hplan hp
    split
    · exact .askSeal (by split; exacts [.laneAsk (.updCtx ht'), .updCtx ht'])
    · split; exacts [.laneAsk (.updCtx ht'), .updCtx ht']

theorem Runs.streamBuild {uni n mt} (h : Keeps w s₀ s) : Runs w (Instr.streamBuild uni n mt).wf s₀ (exec (.streamBuild uni n mt) s) :=
  .onUnit (by split; exacts [(.when h (fun _ h => .buildStream h)), (by split; exacts [h, (.ite (.putGrant h) (.when h (fun _ h =>
    (by split; exacts [(.ptpFlag (.bump h)), (.buildStream h)]))))])])

theorem Runs.grantExpiry {slot} (h : Keeps w s₀ s) : Runs w (Instr.grantExpiry slot).wf s₀ (exec (.grantExpiry slot) s) :=
  .onUnit (by split; exacts [h, (.when h (fun _ h => .putGrant h))])

theorem Runs.bmcaEvaluation (h : Keeps w s₀ s) : Runs w (Instr.bmcaEvaluation).wf s₀ (exec (.bmcaEvaluation) s) := by
  change Runs _ _ s₀ (execBmcaEvaluation s)
  unfold execBmcaEvaluation
  refine .next ?_
  extract_lets _ a _ sts b
  have hb : Keeps w s₀ b := .reviewParent (.foldl (.parts (.showPtpQuality h)) fun _ _ h => .setPortState h)
  split
  · split; exacts [.showPtpUkind hb, hb]
  · exact hb

theorem Runs.ptpGread {req} (h : Keeps w s₀ s) : Runs w (Instr.ptpGread req).wf s₀ (exec (.ptpGread req) s) :=
  .next (.atDomain h (fun _ h => .writeGctrl h))

theorem Runs.ptpGinval {req key} (h : Keeps w s₀ s) : Runs w (Instr.ptpGinval req key).wf s₀ (exec (.ptpGinval req key) s) :=
  .next (.atDomain h (fun _ h => .writeGctrl h))

theorem Runs.ptpGflush {req key} (h : Keeps w s₀ s) : Runs w (Instr.ptpGflush req key).wf s₀ (exec (.ptpGflush req key) s) :=
  .next (.atDomain h (fun _ h => .writeGctrl h))

theorem Runs.kvtDerive {req data} (h : Keeps ⟨false, u, p⟩ s₀ s) : Runs ⟨false, u, p⟩ (Instr.kvtDerive req data).wf s₀ (exec
  (.kvtDerive req data) s) :=
  .next (.atFabric h (fun _ h => .kvtStart h))

theorem Runs.kvtInval {req data} (h : Keeps ⟨false, u, p⟩ s₀ s) : Runs ⟨false, u, p⟩ (Instr.kvtInval req data).wf s₀ (exec (.kvtInval req data) s) :=
  .next (.atFabric h (fun _ h => .kvtStart h))

theorem Runs.kvtImport {req data} (h : Keeps ⟨false, u, p⟩ s₀ s) : Runs ⟨false, u, p⟩ (Instr.kvtImport req data).wf s₀ (exec
  (.kvtImport req data) s) :=
  .next (.atFabric h (fun _ h => .kvtStart h))

theorem Runs.kvtExport {req data} (h : Keeps ⟨false, u, p⟩ s₀ s) : Runs ⟨false, u, p⟩ (Instr.kvtExport req data).wf s₀ (exec
  (.kvtExport req data) s) :=
  .next (.atFabric h (fun _ h => .kvtStart h))

theorem Runs.kvtAgree {req data} (h : Keeps ⟨false, u, p⟩ s₀ s) : Runs ⟨false, u, p⟩ (Instr.kvtAgree req data).wf s₀ (exec (.kvtAgree req data) s) :=
  .next (.atFabric h (fun _ h => .kvtStart h))

theorem Runs.kvtSign {req data} (h : Keeps ⟨false, u, p⟩ s₀ s) : Runs ⟨false, u, p⟩ (Instr.kvtSign req data).wf s₀ (exec (.kvtSign req data) s) :=
  .next (.atFabric h (fun _ h => .kvtStart h))

theorem Runs.kvtPubkey {req data} (h : Keeps ⟨false, u, p⟩ s₀ s) : Runs ⟨false, u, p⟩ (Instr.kvtPubkey req data).wf s₀ (exec
  (.kvtPubkey req data) s) :=
  .next (.atFabric h (fun _ h => .kvtStart h))

theorem Runs.vaultUpdate {phase2} (h : Keeps w s₀ s) : Runs w (Instr.vaultUpdate phase2).wf s₀ (exec (.vaultUpdate phase2) s) :=
  .next (.ite (.closeUpdate h) (.openUpdate h))

theorem Runs.shareRefresh {failed} (h : Keeps w s₀ s) : Runs w (Instr.shareRefresh failed).wf s₀ (exec (.shareRefresh failed) s) :=
  .next (.parts (.foldl h fun _ _ h => .cellFault h))

theorem Runs.holdupTest {projected} (h : Keeps w s₀ s) : Runs w (Instr.holdupTest projected).wf s₀ (exec (.holdupTest projected) s) :=
  .next (.ite (.kvtFlag (.parts h)) (.parts h))

theorem Runs.kvtZeroise {req key} (h : Keeps w s₀ s) : Runs w (Instr.kvtZeroise req key).wf s₀ (exec (.kvtZeroise req key) s) :=
  .next (.atFabric h (fun _ h => .writeKvtCtrl h))

theorem Runs.dbgEnSet (h : Keeps w s₀ s) : Runs w (Instr.dbgEnSet).wf s₀ (exec (.dbgEnSet) s) := .next (.enterDebug h)

theorem Runs.helloRecord {lane bytes} (h : Keeps ⟨false, false, p⟩ s₀ s) : Runs ⟨false, false, p⟩ (Instr.helloRecord lane bytes).wf s₀
  (exec (.helloRecord lane bytes) s) :=
  .laneRecord h

theorem Runs.ppsmRecord {lane bytes} (h : Keeps ⟨false, false, p⟩ s₀ s) : Runs ⟨false, false, p⟩ (Instr.ppsmRecord lane bytes).wf s₀ (exec
  (.ppsmRecord lane bytes) s) :=
  .laneRecord h

theorem Runs.healthRecord {lane bytes} (h : Keeps ⟨false, false, p⟩ s₀ s) : Runs ⟨false, false, p⟩ (Instr.healthRecord lane bytes).wf s₀
  (exec (.healthRecord lane bytes) s) :=
  .laneRecord h

theorem Runs.boundRecord {lane bytes} (h : Keeps ⟨false, false, p⟩ s₀ s) : Runs ⟨false, false, p⟩ (Instr.boundRecord lane bytes).wf s₀
  (exec (.boundRecord lane bytes) s) :=
  .laneRecord h

theorem Runs.resultJournalRecord {lane bytes} (h : Keeps ⟨false, false, p⟩ s₀ s) : Runs ⟨false, false, p⟩
  (Instr.resultJournalRecord lane bytes).wf s₀ (exec
  (.resultJournalRecord lane bytes) s) := .laneRecord h

theorem Runs.updateRecord {lane bytes} (h : Keeps ⟨false, false, p⟩ s₀ s) : Runs ⟨false, false, p⟩ (Instr.updateRecord lane bytes).wf s₀
  (exec (.updateRecord lane bytes) s) :=
  .laneRecord h

theorem Runs.selectRecord {lane bytes} (h : Keeps ⟨false, false, p⟩ s₀ s) : Runs ⟨false, false, p⟩ (Instr.selectRecord lane bytes).wf s₀
  (exec (.selectRecord lane bytes) s) :=
  .laneRecord h

theorem Runs.leapRecord {lane bytes} (h : Keeps ⟨false, false, p⟩ s₀ s) : Runs ⟨false, false, p⟩ (Instr.leapRecord lane bytes).wf s₀ (exec
  (.leapRecord lane bytes) s) :=
  .laneRecord h

theorem Runs.digestRecord {lane bytes} (h : Keeps ⟨false, false, p⟩ s₀ s) : Runs ⟨false, false, p⟩ (Instr.digestRecord lane bytes).wf s₀
  (exec (.digestRecord lane bytes) s) :=
  .laneRecord h

theorem Runs.paramRecord {lane bytes} (h : Keeps ⟨false, false, p⟩ s₀ s) : Runs ⟨false, false, p⟩ (Instr.paramRecord lane bytes).wf s₀
  (exec (.paramRecord lane bytes) s) :=
  .laneRecord h

theorem Runs.srvstateRecord {lane bytes} (h : Keeps ⟨false, false, p⟩ s₀ s) : Runs ⟨false, false, p⟩ (Instr.srvstateRecord lane bytes).wf s₀ (exec
  (.srvstateRecord lane bytes) s) := .laneRecord h

theorem Runs.grantRecord {lane bytes} (h : Keeps ⟨false, false, p⟩ s₀ s) : Runs ⟨false, false, p⟩ (Instr.grantRecord lane bytes).wf s₀
  (exec (.grantRecord lane bytes) s) :=
  .laneRecord h

theorem Runs.ntskeyRecord {lane bytes} (h : Keeps ⟨false, false, p⟩ s₀ s) : Runs ⟨false, false, p⟩ (Instr.ntskeyRecord lane bytes).wf s₀
  (exec (.ntskeyRecord lane bytes) s) :=
  .laneRecord h

theorem Runs.snapRecord {lane bytes} (h : Keeps ⟨false, false, p⟩ s₀ s) : Runs ⟨false, false, p⟩ (Instr.snapRecord lane bytes).wf s₀ (exec
  (.snapRecord lane bytes) s) :=
  .laneRecord h

theorem Runs.vreqRecord {lane bytes} (h : Keeps ⟨false, false, p⟩ s₀ s) : Runs ⟨false, false, p⟩ (Instr.vreqRecord lane bytes).wf s₀ (exec
  (.vreqRecord lane bytes) s) :=
  .laneRecord h

theorem Runs.verdictRecord {lane bytes} (h : Keeps ⟨false, false, p⟩ s₀ s) : Runs ⟨false, false, p⟩ (Instr.verdictRecord lane bytes).wf s₀ (exec
  (.verdictRecord lane bytes) s) := .laneRecord h

theorem Runs.swapRecord {lane bytes} (h : Keeps ⟨false, false, p⟩ s₀ s) : Runs ⟨false, false, p⟩ (Instr.swapRecord lane bytes).wf s₀ (exec
  (.swapRecord lane bytes) s) :=
  .laneRecord h

theorem Runs.ackRecord {lane bytes} (h : Keeps ⟨false, false, p⟩ s₀ s) : Runs ⟨false, false, p⟩ (Instr.ackRecord lane bytes).wf s₀ (exec
  (.ackRecord lane bytes) s) :=
  .laneRecord h

theorem Runs.takeRecord {lane bytes} (h : Keeps ⟨false, false, p⟩ s₀ s) : Runs ⟨false, false, p⟩ (Instr.takeRecord lane bytes).wf s₀ (exec
  (.takeRecord lane bytes) s) :=
  .laneRecord h

theorem Runs.keyxRecord {lane bytes} (h : Keeps ⟨false, false, p⟩ s₀ s) : Runs ⟨false, false, p⟩ (Instr.keyxRecord lane bytes).wf s₀ (exec
  (.keyxRecord lane bytes) s) :=
  .laneRecord h

theorem Runs.helloSend (h : Keeps ⟨false, false, p⟩ s₀ s) : Runs ⟨false, false, p⟩ (Instr.helloSend).wf s₀ (exec (.helloSend) s) :=
  .ends (.when h (fun _ h => .reviewKeys (.sendRecord (.reviewTwin h))))

theorem Runs.healthSend (h : Keeps ⟨false, false, p⟩ s₀ s) : Runs ⟨false, false, p⟩ (Instr.healthSend).wf s₀ (exec (.healthSend) s) :=
  .ends (.when h (fun _ h => .showUPair (.sendRecord h)))

theorem Runs.boundSend (h : Keeps ⟨false, false, p⟩ s₀ s) : Runs ⟨false, false, p⟩ (Instr.boundSend).wf s₀ (exec (.boundSend) s) :=
  .ends (.when h (fun _ h => .sendRecord h))

theorem Runs.digestSend (h : Keeps ⟨false, false, p⟩ s₀ s) : Runs ⟨false, false, p⟩ (Instr.digestSend).wf s₀ (exec (.digestSend) s) :=
  .ends (.when h (fun _ h => .sendRecord (.journalChanges h)))

theorem Runs.ackSend (h : Keeps ⟨false, false, p⟩ s₀ s) : Runs ⟨false, false, p⟩ (Instr.ackSend).wf s₀ (exec (.ackSend) s) :=
  .ends (.when h (fun _ h => .ite (.askSync h) (.ackNow h)))

theorem Runs.ppiEdge {half code kStop active} (h : Keeps ⟨false, false, p⟩ s₀ s) : Runs ⟨false, false, p⟩
  (Instr.ppiEdge half code kStop active).wf s₀ (exec
  (.ppiEdge half code kStop active) s) := by
  change Runs _ _ s₀ (execPpiEdge half code kStop active s)
  unfold execPpiEdge
  refine .onUnit (.resumeWarm (.when h fun t ht => ?_))
  extract_lets q a0 a b
  have h0 : Keeps ⟨false, false, p⟩ s₀ a0 := .updPair ht
  have ha : Keeps ⟨false, false, p⟩ s₀ a := by
    unfold a
    split
    · exact h0
    · dsimp only
      split
      · exact .tdcEdge h0
      · exact .ite (.tdcEdge h0) (.tryX (.sendRecord (.updPair (.tdcEdge h0))))
  have hb : Keeps ⟨false, false, p⟩ s₀ b := .reviewTwin ha
  exact .ite (.ite (.ite (.updPair hb) hb) (.ite hb (.backToSeek hb))) hb

theorem Runs.ppiStale (h : Keeps ⟨false, false, p⟩ s₀ s) : Runs ⟨false, false, p⟩ (Instr.ppiStale).wf s₀ (exec (.ppiStale) s) :=
  .ends (.when h (fun _ h => .showUPair (.reviewClean (.reviewTwin (.pairFlag h)))))

theorem Runs.seekEvaluation {alertLow} (h : Keeps ⟨false, false, p⟩ s₀ s) : Runs ⟨false, false, p⟩ (Instr.seekEvaluation alertLow).wf s₀
  (exec (.seekEvaluation alertLow) s) :=
  .ends (.when h (fun _ h => .seek h))

theorem Runs.homeRandomWait (h : Keeps ⟨false, false, p⟩ s₀ s) : Runs ⟨false, false, p⟩ (Instr.homeRandomWait).wf s₀ (exec (.homeRandomWait) s) :=
  .ends (by split; exacts [h, (.when h (fun _ h => .ite (.ite (.standbyPart h) (.becomeActive h)) (.ite (.backToSeek h) (.updPair h))))])

theorem Runs.journalGapTimeout (h : Keeps ⟨false, false, p⟩ s₀ s) : Runs ⟨false, false, p⟩ (Instr.journalGapTimeout).wf s₀ (exec
  (.journalGapTimeout) s) :=
  .ends (by split; exacts [h, (.when h (fun _ h => .gapLost h))])

theorem Runs.selfCheck (h : Keeps ⟨false, false, p⟩ s₀ s) : Runs ⟨false, false, p⟩ (Instr.selfCheck).wf s₀ (exec (.selfCheck) s) :=
  .ends (.when h (fun _ h => .reviewClean (.selfCheck h)))

theorem Runs.disputeExchange (h : Keeps ⟨false, false, p⟩ s₀ s) : Runs ⟨false, false, p⟩ (Instr.disputeExchange).wf s₀ (exec (.disputeExchange) s) :=
  .ends (.when h (fun _ h => .openExchange h))

theorem Runs.twinLost {alertLow} (h : Keeps ⟨false, false, p⟩ s₀ s) : Runs ⟨false, false, p⟩ (Instr.twinLost alertLow).wf s₀ (exec
  (.twinLost alertLow) s) :=
  .ends (.when h (fun _ h => .ite (.takeover h) (.ite h (.standbyPart h))))

theorem Runs.laneLockLoss {lane} (h : Keeps ⟨false, false, p⟩ s₀ s) : Runs ⟨false, false, p⟩ (Instr.laneLockLoss lane).wf s₀ (exec
  (.laneLockLoss lane) s) :=
  .onUnit (.resumeWarm (.when h (fun _ h => .showPairLanes (.ite (.pairFlag (.updPair h)) (.ite (.showUPair (.cancelSwap (.updPair (.sets
    (.updPair (.pairFlag (.updPair h))))))) (.updPair (.pairFlag (.updPair h))))))))

theorem Runs.wtrExpiry (h : Keeps ⟨false, false, p⟩ s₀ s) : Runs ⟨false, false, p⟩ (Instr.wtrExpiry).wf s₀ (exec (.wtrExpiry) s) :=
  .ends (by split; exacts [h, (.when h (fun _ h => .askSwap h))])

theorem Runs.swapBoundary (h : Keeps ⟨false, false, p⟩ s₀ s) : Runs ⟨false, false, p⟩ (Instr.swapBoundary).wf s₀ (exec (.swapBoundary) s) :=
  .ends (by split; exacts [h, (.when h (fun _ h => .ite (.swapRoles h) (.cancelSwap h)))])

theorem Runs.pairSwap {req key} (h : Keeps w s₀ s) : Runs w (Instr.pairSwap req key).wf s₀ (exec (.pairSwap req key) s) :=
  .next (.atDomain h (fun _ h => .writePairCtrl h))

theorem Runs.pairResync {req key} (h : Keeps w s₀ s) : Runs w (Instr.pairResync req key).wf s₀ (exec (.pairResync req key) s) :=
  .next (.atDomain h (fun _ h => .writePairCtrl h))

theorem Runs.ensembleUpdate (h : Keeps w s₀ s) : Runs w (Instr.ensembleUpdate).wf s₀ (exec (.ensembleUpdate) s) :=
  .next (.ensemble (.ensemble h))

theorem Runs.mbxDoorbell {req} (h : Keeps w s₀ s) : Runs w (Instr.mbxDoorbell req).wf s₀ (exec (.mbxDoorbell req) s) :=
  .next (.atDomain h (fun _ h => .writeMbx h))

theorem Runs.mbxPing (h : Keeps w s₀ s) : Runs w (Instr.mbxPing).wf s₀ (exec (.mbxPing) s) :=
  .next (.when h (fun _ h => .ite (.mbxAnswer h) (.mbxAnswer h)))

theorem Runs.mbxVersion (h : Keeps w s₀ s) : Runs w (Instr.mbxVersion).wf s₀ (exec (.mbxVersion) s) :=
  .next (.mbxServe h (fun _ h _ => .mbxAnswer h))

theorem Runs.mbxAddrSet (h : Keeps w s₀ s) : Runs w (Instr.mbxAddrSet).wf s₀ (exec (.mbxAddrSet) s) :=
  .next (.mbxServe h (fun _ h _ => (by split; exacts [(.mbxAnswer (.updSys h)), (.mbxAnswer h)])))

theorem Runs.mbxAddrGet (h : Keeps w s₀ s) : Runs w (Instr.mbxAddrGet).wf s₀ (exec (.mbxAddrGet) s) :=
  .next (.mbxServe h (fun _ h _ => .ite (.mbxAnswer h) (.mbxAnswer h)))

theorem Runs.mbxKeCert (h : Keeps w s₀ s) : Runs w (Instr.mbxKeCert).wf s₀ (exec (.mbxKeCert) s) :=
  .next (.mbxServe h (fun _ h _ => .ite (.mbxAnswer h) (.ite (.mbxAnswer (.updSys h)) (.mbxAnswer h))))

theorem Runs.mbxPtpDs (h : Keeps w s₀ s) : Runs w (Instr.mbxPtpDs).wf s₀ (exec (.mbxPtpDs) s) :=
  .next (.mbxServe h (fun _ h _ => .ite (.mbxAnswer h) (.mbxAnswer h)))

theorem Runs.mbxNav (h : Keeps w s₀ s) : Runs w (Instr.mbxNav).wf s₀ (exec (.mbxNav) s) :=
  .next (.when h (fun _ h => .ite (.mbxAnswer (.restartSurvey h)) (.ite (.ite (.mbxAnswer (.setPosition h)) (.mbxAnswer h)) (.ite
    (.mbxAnswer h) (.ite (.mbxAnswer h) (.mbxAnswer h))))))

theorem Runs.mbxLog (h : Keeps ⟨false, u, p⟩ s₀ s) : Runs ⟨false, u, p⟩ (Instr.mbxLog).wf s₀ (exec (.mbxLog) s) :=
  .next (.mbxServe h (fun _ h _ => .ite (.mbxAnswer h) (.mbxAnswer (.sramStore (.useFree h)))))

theorem Runs.mbxResponse (h : Keeps w s₀ s) : Runs w (Instr.mbxResponse).wf s₀ (exec (.mbxResponse) s) := by
  change Runs _ _ s₀ (execMbxResponse s)
  unfold execMbxResponse
  dsimp only
  exact .next (.when h (fun _ h => (by split; exacts [(.ite (.mbxAnswer h) h), (.ite (.msix (.set (.updSys (.sets (.ite
    (.mbxAnswer h) h))))) (.set (.updSys (.sets (.ite (.mbxAnswer h) h)))))])))

theorem Runs.wdogKick {req} (h : Keeps w s₀ s) : Runs w (Instr.wdogKick req).wf s₀ (exec (.wdogKick req) s) :=
  .next (.atDomain h (fun _ h => .writeWdog h))

theorem Runs.wdogExpiry (h : Keeps ⟨false, false, false⟩ s₀ s) : Runs ⟨false, false, false⟩ (Instr.wdogExpiry).wf s₀ (exec (.wdogExpiry) s) :=
  .next (.when h (fun _ h => .resumeWarm (.supervisorEnd h)))

theorem Runs.firmwareFatal {code} (h : Keeps ⟨false, false, false⟩ s₀ s) : Runs ⟨false, false, false⟩ (Instr.firmwareFatal code).wf s₀
  (exec (.firmwareFatal code) s) :=
  .next (.when h (fun _ h => .resumeWarm (.supervisorEnd h)))

theorem Runs.lockedSequence {m addr n write} (h : Keeps ⟨false, u, p⟩ s₀ s) : Runs ⟨false, u, p⟩ (Instr.lockedSequence m addr n write).wf s₀ (exec
  (.lockedSequence m addr n write) s) := .onUnit (.lockedAccess h)

theorem Runs.lockTimeout {t} (h : Keeps ⟨false, u, p⟩ s₀ s) : Runs ⟨false, u, p⟩ (Instr.lockTimeout t).wf s₀ (exec (.lockTimeout t) s) :=
  .onUnit (by split; exacts [(.when h (fun _ h => .lockExpires h)), h])

theorem Runs.masterReset {m inFlight} (h : Keeps ⟨false, u, p⟩ s₀ s) : Runs ⟨false, u, p⟩ (Instr.masterReset m inFlight).wf s₀ (exec
  (.masterReset m inFlight) s) :=
  .onUnit (.resetMaster h)

theorem Runs.sramScrub {found} (h : Keeps w s₀ s) : Runs w (Instr.sramScrub found).wf s₀ (exec (.sramScrub found) s) :=
  .next (.when h (fun _ h => .foldl h fun _ _ h => .scrubWord h))

theorem Runs.pcieLinkReset {k} (h : Keeps ⟨false, u, p⟩ s₀ s) : Runs ⟨false, u, p⟩ (Instr.pcieLinkReset k).wf s₀ (exec (.pcieLinkReset k) s) :=
  .next (.ite (.flag (.resetPci h)) (.flag (.set (.set (.resetPci h)))))

theorem Runs.pcieLinkUp {speed width} (h : Keeps w s₀ s) : Runs w (Instr.pcieLinkUp speed width).wf s₀ (exec (.pcieLinkUp speed width) s) :=
  .next (.when h (fun _ h => .linkReturnMessages (.sets h)))

theorem Runs.atomicOp {k space n addr a b late} (h : Keeps ⟨false, u, p⟩ s₀ s) : Runs ⟨false, u, p⟩
  (Instr.atomicOp k space n addr a b late).wf s₀ (exec
  (.atomicOp k space n addr a b late) s) := .next (.atomicOp h)

theorem Runs.xbrHwinWrite {req data} (h : Keeps w s₀ s) : Runs w (Instr.xbrHwinWrite req data).wf s₀ (exec (.xbrHwinWrite req data) s) :=
  .next (.atDomain h (fun _ h => .writeHwin h))

theorem Runs.pwrReqWrite {req d value} (h : Keeps w s₀ s) : Runs w (Instr.pwrReqWrite req d value).wf s₀ (exec (.pwrReqWrite req d value) s) :=
  .onUnit (.atFabric h (fun _ h => .writeReq h))

theorem Runs.sleepEntryBegin {d} (h : Keeps w s₀ s) : Runs w (Instr.sleepEntryBegin d).wf s₀ (exec (.sleepEntryBegin d) s) :=
  .onUnit (.when h (fun _ h => .beginEntry h))

theorem Runs.sleepRequestWithdrawn {d} (h : Keeps w s₀ s) : Runs w (Instr.sleepRequestWithdrawn d).wf s₀ (exec (.sleepRequestWithdrawn d) s) :=
  .onUnit (.when h (fun _ h => .withdrawReq h))

theorem Runs.sleepEntryComplete {d} (h : Keeps ⟨false, u, p⟩ s₀ s) : Runs ⟨false, u, p⟩ (Instr.sleepEntryComplete d).wf s₀ (exec
  (.sleepEntryComplete d) s) :=
  .onUnit (.when h (fun _ h => .endEntry h))

theorem Runs.domainWake {d src master} (h : Keeps w s₀ s) : Runs w (Instr.domainWake d src master).wf s₀ (exec (.domainWake d src master) s) :=
  .onUnit (.beginWake h)

theorem Runs.wakeStallEnd {d} (h : Keeps ⟨false, false, false⟩ s₀ s) : Runs ⟨false, false, false⟩ (Instr.wakeStallEnd d).wf s₀ (exec
  (.wakeStallEnd d) s) :=
  .onUnit (.when h (fun _ h => .replay (.endStall h)))

theorem Runs.retentionCheckDone {d bank ok} (h : Keeps ⟨false, false, false⟩ s₀ s) : Runs ⟨false, false, false⟩
  (Instr.retentionCheckDone d bank ok).wf s₀ (exec
  (.retentionCheckDone d bank ok) s) := .onUnit (.when h (fun _ h => .replay (.endCheck h)))

theorem Runs.plvlWrite {req d level} (h : Keeps w s₀ s) : Runs w (Instr.plvlWrite req d level).wf s₀ (exec (.plvlWrite req d level) s) :=
  .onUnit (.atFabric h (fun _ h => .ite (.writePlvl h) (.ite (.accessError h) h)))

theorem Runs.plvlChangeDone {d} (h : Keeps w s₀ s) : Runs w (Instr.plvlChangeDone d).wf s₀ (exec (.plvlChangeDone d) s) :=
  .onUnit (.when h (fun _ h => .endLevel h))

theorem Runs.pmuCounterOverflow {set j n} (h : Keeps w s₀ s) : Runs w (Instr.pmuCounterOverflow set j n).wf s₀ (exec
  (.pmuCounterOverflow set j n) s) := by
  have hwf : (Instr.pmuCounterOverflow set j n).wf = pmuExists set j := (pmuExists_eq_has set j).symm
  rw [hwf]
  refine .onUnit (.when h fun _ h => ?_)
  split
  · exact .engineCount h
  · exact .pmuAdd h

theorem Runs.pmuCounterWrite {req set j ctl data} (h : Keeps w s₀ s) : Runs w (Instr.pmuCounterWrite req set j ctl data).wf s₀ (exec
  (.pmuCounterWrite req set j ctl data) s) := by
  have hwf : (Instr.pmuCounterWrite req set j ctl data).wf = pmuExists set j := (pmuExists_eq_has set j).symm
  rw [hwf]
  exact .onUnit (.ite (.atDomain h fun _ h => .writePmuCtl h) (.atDomain h fun _ h => .writePmuCnt h))

theorem Runs.pmuFreezeWrite {req on} (h : Keeps w s₀ s) : Runs w (Instr.pmuFreezeWrite req on).wf s₀ (exec (.pmuFreezeWrite req on) s) :=
  .next (.atDomain h (fun _ h => .writePmuCtrl h))

theorem Runs.pmuClrall {req} (h : Keeps w s₀ s) : Runs w (Instr.pmuClrall req).wf s₀ (exec (.pmuClrall req) s) :=
  .next (.atDomain h (fun _ h => .writePmuCtrl h))

theorem Runs.preciseSampleTag {k} (h : Keeps w s₀ s) : Runs w (Instr.preciseSampleTag k).wf s₀ (exec (.preciseSampleTag k) s) :=
  .onUnit (.when h (fun _ h => .ite (.bumpSat h) (.updPmu h)))

theorem Runs.preciseSampleRecord {k pc insn thread lat flags ctx} (h : Keeps w s₀ s) : Runs w
  (Instr.preciseSampleRecord k pc insn thread lat flags ctx).wf s₀ (exec (.preciseSampleRecord k pc insn thread lat flags ctx) s) :=
  .onUnit (.when h (fun _ h => .pushSample (.updPmu h)))

theorem Runs.pmuSrConsWrite {req value} (h : Keeps w s₀ s) : Runs w (Instr.pmuSrConsWrite req value).wf s₀ (exec
  (.pmuSrConsWrite req value) s) := .next (.atDomain h (fun _ h => .ite (.accessError h) (.writeSrCons h)))

theorem Runs.keySample {low zeroA zeroB} (h : Keeps w s₀ s) : Runs w (Instr.keySample low zeroA zeroB).wf s₀ (exec
  (.keySample low zeroA zeroB) s) := .next (.when h (fun _ h => .sampleZero (.foldl h fun _ _ h => .sampleKey h)))

theorem Runs.keyHold {k} (h : Keeps w s₀ s) : Runs w (Instr.keyHold k).wf s₀ (exec (.keyHold k) s) :=
  .onUnit (.when h (fun _ h => .ite (.requestSwap (.pnlBit (.updKey h))) (.pnlBit (.updKey h))))

theorem Runs.touchSample {caps} (h : Keeps w s₀ s) : Runs w (Instr.touchSample caps).wf s₀ (exec (.touchSample caps) s) :=
  .next (.when h (fun _ h => .foldl h fun _ _ h => (by split; exacts [(.sampleTouch h), h])))

theorem Runs.touchTimeout {t} (h : Keeps w s₀ s) : Runs w (Instr.touchTimeout t).wf s₀ (exec (.touchTimeout t) s) :=
  .onUnit (.when h (fun _ h => .showTouch (.endTouch (.updTouch h))))

theorem Runs.ledUpdate (h : Keeps w s₀ s) : Runs w (Instr.ledUpdate).wf s₀ (exec (.ledUpdate) s) :=
  .next (.when h (fun _ h => .foldl h fun _ _ h => .setBit h))

theorem Runs.ledopen {n} (h : Keeps w s₀ s) : Runs w (Instr.ledopen n).wf s₀ (exec (.ledopen n) s) := .onUnit (.when h (fun _ h => .flag h))

theorem Runs.zeroiseCountComplete (h : Keeps w s₀ s) : Runs w (Instr.zeroiseCountComplete).wf s₀ (exec (.zeroiseCountComplete) s) :=
  .next (.when h (fun _ h => .zeroise (.flag (.set (.parts h)))))

theorem Runs.zfault (h : Keeps w s₀ s) : Runs w (Instr.zfault).wf s₀ (exec (.zfault) s) := .next (.when h (fun _ h => .flag (.parts h)))

theorem Runs.evtSwset {req bits} (h : Keeps w s₀ s) : Runs w (Instr.evtSwset req bits).wf s₀ (exec (.evtSwset req bits) s) :=
  .next (.atFabric h (fun _ h => .swset h))

theorem Runs.signalInstruction {engine k} (h : Keeps w s₀ s) : Runs w (Instr.signalInstruction engine k).wf s₀ (exec
  (.signalInstruction engine k) s) := .onUnit (.occur h)

theorem Runs.evtTimerArm {req n sec ns per} (h : Keeps w s₀ s) : Runs w (Instr.evtTimerArm req n sec ns per).wf s₀ (exec
  (.evtTimerArm req n sec ns per) s) := .onUnit (.atFabric h (fun _ h => .ite (.accessError h) (.armTimer (.sets h))))

theorem Runs.evtTimerExpiry {n} (h : Keeps w s₀ s) : Runs w (Instr.evtTimerExpiry n).wf s₀ (exec (.evtTimerExpiry n) s) :=
  .onUnit (.timerFire h)

theorem Runs.evtQconsWrite {req side value} (h : Keeps w s₀ s) : Runs w (Instr.evtQconsWrite req side value).wf s₀ (exec
  (.evtQconsWrite req side value) s) := .onUnit (.atFabric h (fun _ h => .writeQcons h))

theorem Runs.evtEnWrite {req side group value} (h : Keeps w s₀ s) : Runs w (Instr.evtEnWrite req side group value).wf s₀ (exec
  (.evtEnWrite req side group value) s) := .onUnit (.atFabric h (fun _ h => .writeEnables h))

theorem Runs.snapshotRead {req space off} (h : Keeps ⟨false, false, false⟩ s₀ s) : Runs ⟨false, false, false⟩
  (Instr.snapshotRead req space off).wf s₀ (exec
  (.snapshotRead req space off) s) := .onUnit (.access h)

theorem Runs.registerWrite {req space off data be} (h : Keeps ⟨false, false, false⟩ s₀ s) : Runs ⟨false, false, false⟩
  (Instr.registerWrite req space off data be).wf s₀ (exec
  (.registerWrite req space off data be) s) := .onUnit (.resumeWarm (.access h))

theorem Runs.pl0BlockLock {lane} (h : Keeps w s₀ s) : Runs w (Instr.pl0BlockLock lane).wf s₀ (exec (.pl0BlockLock lane) s) :=
  .onUnit (.when h (fun _ h => .showPairLanes (.updPair h)))

theorem Runs.mg0LinkChange {speed} (h : Keeps w s₀ s) : Runs w (Instr.mg0LinkChange speed).wf s₀ (exec (.mg0LinkChange speed) s) :=
  .onUnit (.when h (fun _ h => .mgLink h))

theorem Runs.pauseEnd {n} (h : Keeps w s₀ s) : Runs w (Instr.pauseEnd n).wf s₀ (exec (.pauseEnd n) s) :=
  .onUnit (by split; exacts [h, (.when h (fun _ h => .updPort h))])

theorem Runs.delayReqSend {peer} (h : Keeps w s₀ s) : Runs w (Instr.delayReqSend peer).wf s₀ (exec (.delayReqSend peer) s) := by
  change Runs _ _ s₀ (execDelayReqSend peer s)
  unfold execDelayReqSend
  exact by split; exacts [(.next (.sendDelayReq h)), (.onUnit (.sendPeerReq h))]

theorem Runs.grantRequestSend {k} (h : Keeps w s₀ s) : Runs w (Instr.grantRequestSend k).wf s₀ (exec (.grantRequestSend k) s) :=
  .onUnit (.when h (fun _ h => .tryRelease (.askSeal (.newCtx (.updPeer (.useFree h))))))

theorem Runs.peerReachTimeout {k} (h : Keeps w s₀ s) : Runs w (Instr.peerReachTimeout k).wf s₀ (exec (.peerReachTimeout k) s) :=
  .onUnit (.when h (fun _ h => .reviewEns (.losePeer h)))

theorem Runs.utcSourceExpiry {src} (h : Keeps w s₀ s) : Runs w (Instr.utcSourceExpiry src).wf s₀ (exec (.utcSourceExpiry src) s) := by
  have hwf : (Instr.utcSourceExpiry src).wf = decide (2 ≤ src ∧ src ≤ 4) := (Bool.decide_and _ _).symm
  rw [hwf]
  exact .onUnit (.when h fun _ h => .journalChanges (.reviewLead (.ite (.withHrt h rfl pairsKept) h)))

theorem Runs.pciLowPowerEntry (h : Keeps w s₀ s) : Runs w (Instr.pciLowPowerEntry).wf s₀ (exec (.pciLowPowerEntry) s) :=
  .next (.when h (fun _ h => .beginEntry (.updSys h)))

theorem Runs.ntsKeCertExpiry {seconds} (h : Keeps w s₀ s) : Runs w (Instr.ntsKeCertExpiry seconds).wf s₀ (exec (.ntsKeCertExpiry seconds) s) :=
  .next (.when h (fun _ h => .keEvent (.parts h)))

/-- A command that runs without touching the memories. -/
theorem Runs.memorySame {ok : Bool} (h : Runs ⟨true, u, p⟩ ok s (.next t)) : MemorySame s t := by
  obtain ⟨t', ht, hk⟩ := h
  cases ok with
  | true => cases ht; exact ⟨fun a => by rw [(hk.memory rfl).1], fun a => by rw [(hk.memory rfl).2]⟩
  | false => cases ht

theorem Keeps.memorySame (h : Keeps ⟨true, u, p⟩ s₀ s) : MemorySame s₀ s :=
  ⟨fun a => by rw [(h.memory rfl).1], fun a => by rw [(h.memory rfl).2]⟩

end

/-- Every command meets its row of WellFormed: it stops exactly on a unit that is missing, and else keeps what every command keeps. -/
theorem exec_runs (c : Instr) (s : State) : Runs ⟨false, false, false⟩ c.wf s (exec c s) := by
  cases c with
  | tokenLaunch => exact .tokenLaunch (.refl s)
  | tokenArrival _ _ _ => exact .tokenArrival (.refl s)
  | tokenTimeout _ => exact .tokenTimeout (.refl s)
  | pairCommit _ => exact .pairCommit (.refl s)
  | routeCalibrationDone _ _ _ => exact .routeCalibrationDone (.refl s)
  | roundTripMeasured _ _ => exact .roundTripMeasured (.refl s)
  | wakeCalibrationDone _ _ _ => exact .wakeCalibrationDone (.refl s)
  | powerUp _ _ _ => exact .powerUp
  | holdupCharged => exact .holdupCharged (.refl s)
  | vinWarning => exact .vinWarning (.refl s)
  | overvoltageWarning => exact .overvoltageWarning (.refl s)
  | powerFail _ => exact .powerFail (.refl s)
  | overvoltageShutdown _ => exact .overvoltageShutdown (.refl s)
  | porstAssert => exact .porstAssert (.refl s)
  | thermalWarning _ => exact .thermalWarning (.refl s)
  | thermalShutdown _ _ => exact .thermalShutdown (.refl s)
  | supplyUpdate _ _ => exact .supplyUpdate (.refl s)
  | rcpCheck _ _ => exact .rcpCheck (.refl s)
  | rcpReload _ _ => exact .rcpReload (.refl s)
  | rcpProg _ _ => exact .rcpProg (.refl s)
  | rcpPrefer _ _ => exact .rcpPrefer (.refl s)
  | recipeValidationDone => exact .recipeValidationDone (.refl s)
  | liveShadowAck _ => exact .liveShadowAck (.refl s)
  | liveAckDeadline => exact .liveAckDeadline (.refl s)
  | recipeLiveSwitch => exact .recipeLiveSwitch (.refl s)
  | progDone _ => exact .progDone (.refl s)
  | domainsGood => exact .domainsGood (.refl s)
  | regulatorTimeout _ => exact .regulatorTimeout (.refl s)
  | firmwareValidated => exact .firmwareValidated (.refl s)
  | supReady => exact .supReady (.refl s)
  | bootLimitExpiry => exact .bootLimitExpiry (.refl s)
  | stableTimer => exact .stableTimer (.refl s)
  | lastSecWrite => exact .lastSecWrite (.refl s)
  | bootWarm _ _ => exact .bootWarm (.refl s)
  | bootCold _ _ => exact .bootCold (.refl s)
  | bootStarter _ _ => exact .bootStarter (.refl s)
  | bootClrfail _ _ => exact .bootClrfail (.refl s)
  | bootFwprog _ _ _ => exact .bootFwprog (.refl s)
  | bootFwprefer _ _ _ => exact .bootFwprefer (.refl s)
  | tftpWriteImage _ _ _ => exact .tftpWriteImage (.refl s)
  | tftpWriteRestart => exact .tftpWriteRestart (.refl s)
  | tftpReadStartrec => exact .tftpReadStartrec (.refl s)
  | mg0RecoveryEcho _ _ => exact .mg0RecoveryEcho (.refl s)
  | pulseEdge _ => exact .pulseEdge (.refl s)
  | activityTimeout _ => exact .activityTimeout (.refl s)
  | freqActivityCount _ => exact .freqActivityCount (.refl s)
  | irigFrame _ _ _ _ => exact .irigFrame (.refl s)
  | gnssEpochStrobe _ _ _ => exact .gnssEpochStrobe (.refl s)
  | gnssSolution _ _ _ _ _ _ _ _ _ => exact .gnssSolution (.refl s)
  | gnssSurveyComplete => exact .gnssSurveyComplete (.refl s)
  | gnssNoFixTimeout => exact .gnssNoFixTimeout (.refl s)
  | antennaCurrentSample _ => exact .antennaCurrentSample (.refl s)
  | antennaShortCutoff => exact .antennaShortCutoff (.refl s)
  | antennaRetry _ => exact .antennaRetry (.refl s)
  | esmcPdu _ _ => exact .esmcPdu (.refl s)
  | esmcTimeout _ => exact .esmcTimeout (.refl s)
  | announceReceiptTimeout _ => exact .announceReceiptTimeout (.refl s)
  | qclassEvaluation _ => exact .qclassEvaluation (.refl s)
  | uinSenseSample _ _ => exact .uinSenseSample (.refl s)
  | plugHoldDone _ => exact .plugHoldDone (.refl s)
  | heldStampRelease _ => exact .heldStampRelease (.refl s)
  | refCfgWrite _ _ _ => exact .refCfgWrite (.refl s)
  | refNomfreqWrite _ _ _ _ => exact .refNomfreqWrite (.refl s)
  | tdcEdge _ _ _ _ => exact .tdcEdge (.refl s)
  | interpolatorCalibration _ _ _ _ => exact .interpolatorCalibration (.refl s)
  | phaseResultMs _ => exact .phaseResultMs (.refl s)
  | intervalRecord _ => exact .intervalRecord (.refl s)
  | gateEnd _ => exact .gateEnd (.refl s)
  | tdcClrcnt _ _ => exact .tdcClrcnt (.refl s)
  | tdcTbWrite _ _ => exact .tdcTbWrite (.refl s)
  | tdcGateWrite _ _ _ => exact .tdcGateWrite (.refl s)
  | cellHeatingDone => exact .cellHeatingDone (.refl s)
  | opticalSearchDone => exact .opticalSearchDone (.refl s)
  | microwaveLock => exact .microwaveLock (.refl s)
  | cellSearchTimeout => exact .cellSearchTimeout (.refl s)
  | cellFaultRetry => exact .cellFaultRetry (.refl s)
  | cellUnlock _ => exact .cellUnlock (.refl s)
  | ovenProofClear => exact .ovenProofClear (.refl s)
  | cellProofClear => exact .cellProofClear (.refl s)
  | ovenDeviation => exact .ovenDeviation (.refl s)
  | cellProofSet => exact .cellProofSet (.refl s)
  | heaterFault _ => exact .heaterFault (.refl s)
  | sensorSample _ _ _ _ _ => exact .sensorSample (.refl s)
  | loadReport _ _ => exact .loadReport (.refl s)
  | loadReportMissing _ => exact .loadReportMissing (.refl s)
  | operatingPointUpdate => exact .operatingPointUpdate (.refl s)
  | ageingDayEnd => exact .ageingDayEnd (.refl s)
  | modelStoreWrite _ => exact .modelStoreWrite (.refl s)
  | oscClrC _ _ => exact .oscClrC (.refl s)
  | oscClrO _ _ => exact .oscClrO (.refl s)
  | oscRelock _ _ => exact .oscRelock (.refl s)
  | oscStore _ _ _ => exact .oscStore (.refl s)
  | srvUpdate _ => exact .srvUpdate (.refl s)
  | dpGo _ _ => exact .dpGo (.refl s)
  | srvManWrite _ _ => exact .srvManWrite (.refl s)
  | srvClri _ _ => exact .srvClri (.refl s)
  | utcSourceReport _ _ _ _ _ => exact .utcSourceReport (.refl s)
  | leapSecReached => exact .leapSecReached (.refl s)
  | utcDisagreeTimeout => exact .utcDisagreeTimeout (.refl s)
  | utcwSetoff _ _ => exact .utcwSetoff (.refl s)
  | setoffApply => exact .setoffApply (.refl s)
  | utcwSched _ _ => exact .utcwSched (.refl s)
  | utcwCancel _ => exact .utcwCancel (.refl s)
  | secondBoundary => exact .secondBoundary (.refl s)
  | refEvaluation _ => exact .refEvaluation (.refl s)
  | holdoffEnd _ => exact .holdoffEnd (.refl s)
  | qtimeExpiry _ => exact .qtimeExpiry (.refl s)
  | selectionEvaluation => exact .selectionEvaluation (.refl s)
  | refSelctlWrite _ _ => exact .refSelctlWrite (.refl s)
  | synFreqWrite _ _ _ _ => exact .synFreqWrite (.refl s)
  | synLockDeclared _ => exact .synLockDeclared (.refl s)
  | outputRelease _ => exact .outputRelease (.refl s)
  | slewStep _ => exact .slewStep (.refl s)
  | synLossOfLock _ => exact .synLossOfLock (.refl s)
  | synReferenceLoss _ => exact .synReferenceLoss (.refl s)
  | coastEnd _ => exact .coastEnd (.refl s)
  | outEnWrite _ _ _ => exact .outEnWrite (.refl s)
  | outRegridWrite _ _ _ _ => exact .outRegridWrite (.refl s)
  | outRealign _ _ _ => exact .outRealign (.refl s)
  | outRecal _ _ => exact .outRecal (.refl s)
  | loopbackDwellEnd _ _ _ => exact .loopbackDwellEnd (.refl s)
  | lineStartEdge _ _ => exact .lineStartEdge (.refl s)
  | frameReceived _ _ _ _ _ => exact .frameReceived (.refl s)
  | frameTransmitted _ _ _ _ => exact .frameTransmitted (.refl s)
  | blockLock _ => exact .blockLock (.refl s)
  | latencyMeasured _ _ _ => exact .latencyMeasured (.refl s)
  | prtLatcal _ _ => exact .prtLatcal (.refl s)
  | linkDown _ _ => exact .linkDown (.refl s)
  | pauseFrame _ _ => exact .pauseFrame (.refl s)
  | preemptVerifyDone _ _ => exact .preemptVerifyDone (.refl s)
  | prtAsymcal _ _ => exact .prtAsymcal (.refl s)
  | asymcalWindowEnd _ => exact .asymcalWindowEnd (.refl s)
  | esmcInfoSend _ _ => exact .esmcInfoSend (.refl s)
  | mg0RxInterrupt => exact .mg0RxInterrupt (.refl s)
  | sfpAbsChange _ _ => exact .sfpAbsChange (.refl s)
  | sfpLos _ _ => exact .sfpLos (.refl s)
  | reservation _ _ => exact .reservation (.refl s)
  | sealedMessageArrival _ => exact .sealedMessageArrival (.refl s)
  | departureRelease _ => exact .departureRelease (.refl s)
  | commitRecord _ => exact .commitRecord (.refl s)
  | apdClrcnt _ _ => exact .apdClrcnt (.refl s)
  | apdClrmarg _ _ => exact .apdClrmarg (.refl s)
  | pipelineDequeue _ _ => exact .pipelineDequeue (.refl s)
  | laneGrant _ => exact .laneGrant (.refl s)
  | laneResult _ _ => exact .laneResult (.refl s)
  | ringProdWrite _ _ _ _ => exact .ringProdWrite (.refl s)
  | descriptorWriteback _ _ => exact .descriptorWriteback (.refl s)
  | ringEnWrite _ _ _ => exact .ringEnWrite (.refl s)
  | ringCoalesceTimeout _ => exact .ringCoalesceTimeout (.refl s)
  | pkeDrainWrite _ _ => exact .pkeDrainWrite (.refl s)
  | drained => exact .drained (.refl s)
  | engineFault _ _ => exact .engineFault (.refl s)
  | clsWrite _ => exact .clsWrite (.refl s)
  | clsRead _ => exact .clsRead (.refl s)
  | clsBankSwap => exact .clsBankSwap (.refl s)
  | pcntClr _ _ => exact .pcntClr (.refl s)
  | ntsRequest _ => exact .ntsRequest (.refl s)
  | keyRotation => exact .keyRotation (.refl s)
  | ntsRotate _ _ => exact .ntsRotate (.refl s)
  | rotationSwitch => exact .rotationSwitch (.refl s)
  | encslotRetire => exact .encslotRetire (.refl s)
  | graceExpiry _ => exact .graceExpiry (.refl s)
  | sketchSweep => exact .sketchSweep (.refl s)
  | ntsReseed _ _ => exact .ntsReseed (.refl s)
  | drbgReseed => exact .drbgReseed (.refl s)
  | ntsClrcnt _ => exact .ntsClrcnt (.refl s)
  | ntsKeConnection _ _ => exact .ntsKeConnection (.refl s)
  | ntsKeIdleTimeout _ => exact .ntsKeIdleTimeout (.refl s)
  | mg0NtpRequest _ => exact .mg0NtpRequest (.refl s)
  | ptpMessage _ => exact .ptpMessage (.refl s)
  | streamBuild _ _ _ => exact .streamBuild (.refl s)
  | grantExpiry _ => exact .grantExpiry (.refl s)
  | bmcaEvaluation => exact .bmcaEvaluation (.refl s)
  | ptpGread _ => exact .ptpGread (.refl s)
  | ptpGinval _ _ => exact .ptpGinval (.refl s)
  | ptpGflush _ _ => exact .ptpGflush (.refl s)
  | kvtDerive _ _ => exact .kvtDerive (.refl s)
  | kvtInval _ _ => exact .kvtInval (.refl s)
  | kvtImport _ _ => exact .kvtImport (.refl s)
  | kvtExport _ _ => exact .kvtExport (.refl s)
  | kvtAgree _ _ => exact .kvtAgree (.refl s)
  | kvtSign _ _ => exact .kvtSign (.refl s)
  | kvtPubkey _ _ => exact .kvtPubkey (.refl s)
  | vaultUpdate _ => exact .vaultUpdate (.refl s)
  | shareRefresh _ => exact .shareRefresh (.refl s)
  | holdupTest _ => exact .holdupTest (.refl s)
  | kvtZeroise _ _ => exact .kvtZeroise (.refl s)
  | dbgEnSet => exact .dbgEnSet (.refl s)
  | helloRecord _ _ => exact .helloRecord (.refl s)
  | ppsmRecord _ _ => exact .ppsmRecord (.refl s)
  | healthRecord _ _ => exact .healthRecord (.refl s)
  | boundRecord _ _ => exact .boundRecord (.refl s)
  | resultJournalRecord _ _ => exact .resultJournalRecord (.refl s)
  | updateRecord _ _ => exact .updateRecord (.refl s)
  | selectRecord _ _ => exact .selectRecord (.refl s)
  | leapRecord _ _ => exact .leapRecord (.refl s)
  | digestRecord _ _ => exact .digestRecord (.refl s)
  | paramRecord _ _ => exact .paramRecord (.refl s)
  | srvstateRecord _ _ => exact .srvstateRecord (.refl s)
  | grantRecord _ _ => exact .grantRecord (.refl s)
  | ntskeyRecord _ _ => exact .ntskeyRecord (.refl s)
  | snapRecord _ _ => exact .snapRecord (.refl s)
  | vreqRecord _ _ => exact .vreqRecord (.refl s)
  | verdictRecord _ _ => exact .verdictRecord (.refl s)
  | swapRecord _ _ => exact .swapRecord (.refl s)
  | ackRecord _ _ => exact .ackRecord (.refl s)
  | takeRecord _ _ => exact .takeRecord (.refl s)
  | keyxRecord _ _ => exact .keyxRecord (.refl s)
  | helloSend => exact .helloSend (.refl s)
  | healthSend => exact .healthSend (.refl s)
  | boundSend => exact .boundSend (.refl s)
  | digestSend => exact .digestSend (.refl s)
  | ackSend => exact .ackSend (.refl s)
  | ppiEdge _ _ _ _ => exact .ppiEdge (.refl s)
  | ppiStale => exact .ppiStale (.refl s)
  | seekEvaluation _ => exact .seekEvaluation (.refl s)
  | homeRandomWait => exact .homeRandomWait (.refl s)
  | journalGapTimeout => exact .journalGapTimeout (.refl s)
  | selfCheck => exact .selfCheck (.refl s)
  | disputeExchange => exact .disputeExchange (.refl s)
  | twinLost _ => exact .twinLost (.refl s)
  | laneLockLoss _ => exact .laneLockLoss (.refl s)
  | wtrExpiry => exact .wtrExpiry (.refl s)
  | swapBoundary => exact .swapBoundary (.refl s)
  | pairSwap _ _ => exact .pairSwap (.refl s)
  | pairResync _ _ => exact .pairResync (.refl s)
  | ensembleUpdate => exact .ensembleUpdate (.refl s)
  | mbxDoorbell _ => exact .mbxDoorbell (.refl s)
  | mbxPing => exact .mbxPing (.refl s)
  | mbxVersion => exact .mbxVersion (.refl s)
  | mbxAddrSet => exact .mbxAddrSet (.refl s)
  | mbxAddrGet => exact .mbxAddrGet (.refl s)
  | mbxKeCert => exact .mbxKeCert (.refl s)
  | mbxPtpDs => exact .mbxPtpDs (.refl s)
  | mbxNav => exact .mbxNav (.refl s)
  | mbxLog => exact .mbxLog (.refl s)
  | mbxResponse => exact .mbxResponse (.refl s)
  | wdogKick _ => exact .wdogKick (.refl s)
  | wdogExpiry => exact .wdogExpiry (.refl s)
  | firmwareFatal _ => exact .firmwareFatal (.refl s)
  | lockedSequence _ _ _ _ => exact .lockedSequence (.refl s)
  | lockTimeout _ => exact .lockTimeout (.refl s)
  | masterReset _ _ => exact .masterReset (.refl s)
  | sramScrub _ => exact .sramScrub (.refl s)
  | pcieLinkReset _ => exact .pcieLinkReset (.refl s)
  | pcieLinkUp _ _ => exact .pcieLinkUp (.refl s)
  | atomicOp _ _ _ _ _ _ _ => exact .atomicOp (.refl s)
  | xbrHwinWrite _ _ => exact .xbrHwinWrite (.refl s)
  | pwrReqWrite _ _ _ => exact .pwrReqWrite (.refl s)
  | sleepEntryBegin _ => exact .sleepEntryBegin (.refl s)
  | sleepRequestWithdrawn _ => exact .sleepRequestWithdrawn (.refl s)
  | sleepEntryComplete _ => exact .sleepEntryComplete (.refl s)
  | domainWake _ _ _ => exact .domainWake (.refl s)
  | wakeStallEnd _ => exact .wakeStallEnd (.refl s)
  | retentionCheckDone _ _ _ => exact .retentionCheckDone (.refl s)
  | plvlWrite _ _ _ => exact .plvlWrite (.refl s)
  | plvlChangeDone _ => exact .plvlChangeDone (.refl s)
  | pmuCounterOverflow _ _ _ => exact .pmuCounterOverflow (.refl s)
  | pmuCounterWrite _ _ _ _ _ => exact .pmuCounterWrite (.refl s)
  | pmuFreezeWrite _ _ => exact .pmuFreezeWrite (.refl s)
  | pmuClrall _ => exact .pmuClrall (.refl s)
  | preciseSampleTag _ => exact .preciseSampleTag (.refl s)
  | preciseSampleRecord _ _ _ _ _ _ _ => exact .preciseSampleRecord (.refl s)
  | pmuSrConsWrite _ _ => exact .pmuSrConsWrite (.refl s)
  | keySample _ _ _ => exact .keySample (.refl s)
  | keyHold _ => exact .keyHold (.refl s)
  | touchSample _ => exact .touchSample (.refl s)
  | touchTimeout _ => exact .touchTimeout (.refl s)
  | ledUpdate => exact .ledUpdate (.refl s)
  | ledopen _ => exact .ledopen (.refl s)
  | zeroiseCountComplete => exact .zeroiseCountComplete (.refl s)
  | zfault => exact .zfault (.refl s)
  | evtSwset _ _ => exact .evtSwset (.refl s)
  | signalInstruction _ _ => exact .signalInstruction (.refl s)
  | evtTimerArm _ _ _ _ _ => exact .evtTimerArm (.refl s)
  | evtTimerExpiry _ => exact .evtTimerExpiry (.refl s)
  | evtQconsWrite _ _ _ => exact .evtQconsWrite (.refl s)
  | evtEnWrite _ _ _ _ => exact .evtEnWrite (.refl s)
  | snapshotRead _ _ _ => exact .snapshotRead (.refl s)
  | registerWrite _ _ _ _ _ => exact .registerWrite (.refl s)
  | pl0BlockLock _ => exact .pl0BlockLock (.refl s)
  | mg0LinkChange _ => exact .mg0LinkChange (.refl s)
  | pauseEnd _ => exact .pauseEnd (.refl s)
  | delayReqSend _ => exact .delayReqSend (.refl s)
  | grantRequestSend _ => exact .grantRequestSend (.refl s)
  | peerReachTimeout _ => exact .peerReachTimeout (.refl s)
  | utcSourceExpiry _ => exact .utcSourceExpiry (.refl s)
  | pciLowPowerEntry => exact .pciLowPowerEntry (.refl s)
  | ntsKeCertExpiry _ => exact .ntsKeCertExpiry (.refl s)

theorem Keeps.of_exec {c : Instr} {s t : State} (h : exec c s = .next t) : Keeps ⟨false, false, false⟩ s t := by
  obtain ⟨u, hu, hk⟩ := exec_runs c s
  rw [h] at hu
  cases hwf : c.wf with
  | true => rw [hwf] at hu; cases hu; exact hk
  | false => rw [hwf] at hu; cases hu

theorem exec_of_wf {c : Instr} (h : WellFormed c) (s : State) : ∃ t, exec c s = .next t := by
  obtain ⟨u, hu, _⟩ := exec_runs c s
  exact ⟨u, by rw [hu, h]; rfl⟩

theorem exec_of_not_wf {c : Instr} (h : ¬ WellFormed c) (s : State) : exec c s = .fault .noSuchUnit := by
  obtain ⟨u, hu, _⟩ := exec_runs c s
  rw [hu, Bool.eq_false_iff.mpr h]; rfl

theorem tick_keeps_inv (s : State) : StateInv s → StateInv s.tick := by
  unfold State.tick
  split
  · exact fun ⟨hc, hs⟩ => ⟨hc, ⟨hs.1, hs.2, hs.3, hs.4, hs.5, hs.6, hs.7, hs.8⟩⟩
  · exact id

theorem step_of_idle {s : State} (hq : s.pending = []) : step s = .next s.tick := by
  unfold step
  rw [hq]

theorem inv_of_pending {s : State} (q : List Instr) (h : StateInv s) : StateInv { s with pending := q } :=
  ⟨h.1, ⟨h.2.1, h.2.2, h.2.3, h.2.4, h.2.5, h.2.6, h.2.7, h.2.8⟩⟩

theorem exec_powerUp_of_off {s : State} (hoff : s.supply.on = false) (home fstartN : Bool) (bankSel : Nat) :
    exec (.powerUp home fstartN bankSel) s = .next (s.powerUp home fstartN bankSel) := by
  change execPowerUp home fstartN bankSel s = _
  rw [execPowerUp, hoff]
  rfl

/-- The state that power-up builds has a raw counter of zero; the start may end at once, and AON then goes off with its counter at zero. -/
theorem raw_powerUp (s : State) (home fstartN : Bool) (bankSel : Nat) : (s.powerUp home fstartN bankSel).raw = 0 := by
  have h : Keeps ⟨false, false, false⟩ (State.sets { pending := s.pending, flash := s.flash, out := s.out, free := s.free, nv := s.nv, boot
    := { deadline :=
    74997500000 } }
      [(F.GLB_STRAP.HOME, if home then 1 else 0), (F.GLB_STRAP.FSTART_N, if fstartN then 1 else 0), (F.GLB_STRAP.BANK_SEL, bankSel)])
      (s.powerUp home fstartN bankSel) := .bootStep1 (.loadStore (.vaultPowerOn (.firstPair (.refl _))))
  obtain hraw | ⟨-, hraw⟩ := h.raw rfl
  · exact hraw
  · exact hraw

/-- Settles O4: the front command keeps the invariant of the state it starts from, and so does a tick. -/
theorem stepKeepsInvariant : Obligations.StepKeepsInvariant := by
  intro s t hinv hstep
  cases hq : s.pending with
  | nil =>
    rw [step_of_idle hq] at hstep
    cases hstep
    exact tick_keeps_inv s hinv
  | cons c rest =>
    rw [step, hq] at hstep
    exact ⟨(Keeps.of_exec hstep).canonical (inv_of_pending rest hinv).1, (Keeps.of_exec hstep).shape (inv_of_pending rest hinv).2⟩

/-- Settles O2: no command but power-up writes the raw counter while AON stays on, and power-up starts a fresh one. -/
theorem rawCounter : Obligations.RawCounter := by
  refine ⟨fun s home fstartN bankSel hoff => ?_, fun c s t h hs ht => ?_, fun s hq hon => ?_, fun s hq hoff => ?_⟩
  · exact ⟨_, exec_powerUp_of_off hoff home fstartN bankSel, raw_powerUp s home fstartN bankSel⟩
  · obtain hraw | ⟨hoff, -⟩ := (Keeps.of_exec h).raw hs
    · exact hraw
    · exact absurd (ht.symm.trans hoff) (by decide)
  · rw [step_of_idle hq, State.tick, if_pos hon]
  · rw [step_of_idle hq, State.tick, hoff]; rfl

/-- Settles O3. -/
theorem onlyMissingUnitsStop : Obligations.OnlyMissingUnitsStop :=
  fun _ s => ⟨fun h => exec_of_wf h s, fun h => exec_of_not_wf h s⟩

/-- Settles O6. -/
theorem commandsKeepTheQueue : Obligations.CommandsKeepTheQueue := fun _ _ _ h => (Keeps.of_exec h).queue

/-- Settles O1: it is the definition of a step. -/
theorem stepRunsFrontCommand : Obligations.StepRunsFrontCommand := fun _ _ _ => rfl

/-- Settles O5. -/
theorem resetHasInvariant : Obligations.ResetHasInvariant := ⟨⟨by decide, rfl, rfl⟩, by constructor <;> rfl⟩

end Sys2Proof.Machine

/-! PROOF. The layer the statements of units and links rest on: what an occurrence and an access error leave as they were, part by part; how
the frame relations of Safety.lean grow along a chain of updates; and the lists used as arrays. -/

namespace Sys2Proof.Machine

/-! Keys and blocks of fields given by their constructor: the two sides unfold to numerals and the field's index. -/

theorem Fld.key_ne {c o l w r c' o' l' w' r' : Nat} (h : (c * 0x4000000 + o) * 32 + l ≠ (c' * 0x4000000 + o') * 32 + l') :
    Fld.key ⟨c, o, l, w, r⟩ ≠ Fld.key ⟨c', o', l', w', r'⟩ := h

theorem Fld.blk_ne {c o l w r b : Nat} (h : ((c * 0x4000000 + o) * 32 + l) / 0x2000000 % 64 ≠ b) : Fld.blk ⟨c, o, l, w, r⟩ ≠ b := h

theorem Fld.blk_eq {c o l w r b : Nat} (h : ((c * 0x4000000 + o) * 32 + l) / 0x2000000 % 64 = b) : Fld.blk ⟨c, o, l, w, r⟩ = b := h

theorem Fld.blk_of_key {f g : Fld} (h : f.key = g.key) : f.blk = g.blk := by rw [Fld.blk, h, Fld.blk]

/-! An occurrence of an event and an access error change registers, records and messages alone. -/

theorem State.msix_parts (s : State) (vec : Nat) : EventsOnly s (s.msix vec) := (s.msix_keepsButEvents vec).parts

theorem State.message_parts (s : State) (side ev : Nat) : EventsOnly s (s.message side ev) := (s.message_keepsButEvents side ev).parts

theorem State.pendAndTell_parts (s : State) (side ev : Nat) : EventsOnly s (s.pendAndTell side ev) := by
  unfold State.pendAndTell
  dsimp only
  split
  · exact EventsOnly.trans (t := s.set _ _) rfl (State.message_parts _ _ _)
  · rfl

theorem State.pushRecord_parts (s : State) (side : Nat) (r : EvRec) : EventsOnly s (s.pushRecord side r) := by
  unfold State.pushRecord State.dropRecord
  dsimp only
  split
  · exact EventsOnly.trans (t := (s.set _ _).set _ _) rfl (State.pendAndTell_parts _ _ _)
  · split <;> rfl

theorem State.tellSide_parts (s : State) (side : Nat) (r : EvRec) : EventsOnly s (s.tellSide side r) := by
  unfold State.tellSide
  split
  · exact (State.pushRecord_parts s side r).trans (State.pendAndTell_parts _ _ _)
  · exact State.pendAndTell_parts s _ _

theorem State.occur_parts (s : State) (ev bit inst detail : Nat) : EventsOnly s (s.occur ev bit inst detail) :=
  (EventsOnly.trans (t := s.bump _) rfl (State.tellSide_parts _ _ _)).trans (State.tellSide_parts _ _ _)

theorem State.flag_parts (s : State) (f : Fld) (ev inst detail : Nat) : EventsOnly s (s.flag f ev inst detail) := by
  unfold State.flag
  split
  · rfl
  · exact EventsOnly.trans (t := s.set f 1) rfl (State.occur_parts _ _ _ _ _)

theorem State.flagBit_parts (s : State) (f : Fld) (i ev inst detail : Nat) : EventsOnly s (s.flagBit f i ev inst detail) := by
  unfold State.flagBit
  split
  · rfl
  · exact EventsOnly.trans (t := s.set f _) rfl (State.occur_parts _ _ _ _ _)

theorem State.accessError_parts (s : State) (req : Requester) (cause addr : Nat) : EventsOnly s (s.accessError req cause addr) :=
  s.accessError_eventsOnly req cause addr

/-! What stays where only registers, records and messages change. -/

theorem EventsOnly.pending {s t : State} (h : EventsOnly s t) : t.pending = s.pending := by rw [h]
theorem EventsOnly.raw {s t : State} (h : EventsOnly s t) : t.raw = s.raw := by rw [h]
theorem EventsOnly.supply {s t : State} (h : EventsOnly s t) : t.supply = s.supply := by rw [h]
theorem EventsOnly.nv {s t : State} (h : EventsOnly s t) : t.nv = s.nv := by rw [h]
theorem EventsOnly.flash {s t : State} (h : EventsOnly s t) : t.flash = s.flash := by rw [h]
theorem EventsOnly.sram {s t : State} (h : EventsOnly s t) : t.sram = s.sram := by rw [h]
theorem EventsOnly.boot {s t : State} (h : EventsOnly s t) : t.boot = s.boot := by rw [h]
theorem EventsOnly.rcp {s t : State} (h : EventsOnly s t) : t.rcp = s.rcp := by rw [h]
theorem EventsOnly.tb {s t : State} (h : EventsOnly s t) : t.tb = s.tb := by rw [h]
theorem EventsOnly.hrt {s t : State} (h : EventsOnly s t) : t.hrt = s.hrt := by rw [h]
theorem EventsOnly.ref {s t : State} (h : EventsOnly s t) : t.ref = s.ref := by rw [h]
theorem EventsOnly.sel {s t : State} (h : EventsOnly s t) : t.sel = s.sel := by rw [h]
theorem EventsOnly.bound {s t : State} (h : EventsOnly s t) : t.bound = s.bound := by rw [h]
theorem EventsOnly.tdc {s t : State} (h : EventsOnly s t) : t.tdc = s.tdc := by rw [h]
theorem EventsOnly.osc {s t : State} (h : EventsOnly s t) : t.osc = s.osc := by rw [h]
theorem EventsOnly.syn {s t : State} (h : EventsOnly s t) : t.syn = s.syn := by rw [h]
theorem EventsOnly.outp {s t : State} (h : EventsOnly s t) : t.outp = s.outp := by rw [h]
theorem EventsOnly.pwr {s t : State} (h : EventsOnly s t) : t.pwr = s.pwr := by rw [h]
theorem EventsOnly.pmu {s t : State} (h : EventsOnly s t) : t.pmu = s.pmu := by rw [h]
theorem EventsOnly.pke {s t : State} (h : EventsOnly s t) : t.pke = s.pke := by rw [h]
theorem EventsOnly.port {s t : State} (h : EventsOnly s t) : t.port = s.port := by rw [h]
theorem EventsOnly.nts {s t : State} (h : EventsOnly s t) : t.nts = s.nts := by rw [h]
theorem EventsOnly.ptp {s t : State} (h : EventsOnly s t) : t.ptp = s.ptp := by rw [h]
theorem EventsOnly.kvt {s t : State} (h : EventsOnly s t) : t.kvt = s.kvt := by rw [h]
theorem EventsOnly.snaps {s t : State} (h : EventsOnly s t) : t.snaps = s.snaps := by rw [h]
theorem EventsOnly.free {s t : State} (h : EventsOnly s t) : t.free = s.free := by rw [h]

/-! An occurrence, a source bit raised and an access error, part by part. -/

@[simp] theorem State.occur_pending (s : State) (ev bit inst detail : Nat) : (s.occur ev bit inst detail).pending = s.pending :=
  (s.occur_parts _ _ _ _).pending
@[simp] theorem State.occur_raw (s : State) (ev bit inst detail : Nat) : (s.occur ev bit inst detail).raw = s.raw :=
  (s.occur_parts _ _ _ _).raw
@[simp] theorem State.occur_supply (s : State) (ev bit inst detail : Nat) : (s.occur ev bit inst detail).supply = s.supply :=
  (s.occur_parts _ _ _ _).supply
@[simp] theorem State.occur_nv (s : State) (ev bit inst detail : Nat) : (s.occur ev bit inst detail).nv = s.nv := (s.occur_parts _ _ _ _).nv
@[simp] theorem State.occur_flash (s : State) (ev bit inst detail : Nat) : (s.occur ev bit inst detail).flash = s.flash :=
  (s.occur_parts _ _ _ _).flash
@[simp] theorem State.occur_sram (s : State) (ev bit inst detail : Nat) : (s.occur ev bit inst detail).sram = s.sram :=
  (s.occur_parts _ _ _ _).sram
@[simp] theorem State.occur_boot (s : State) (ev bit inst detail : Nat) : (s.occur ev bit inst detail).boot = s.boot :=
  (s.occur_parts _ _ _ _).boot
@[simp] theorem State.occur_rcp (s : State) (ev bit inst detail : Nat) : (s.occur ev bit inst detail).rcp = s.rcp :=
  (s.occur_parts _ _ _ _).rcp
@[simp] theorem State.occur_tb (s : State) (ev bit inst detail : Nat) : (s.occur ev bit inst detail).tb = s.tb := (s.occur_parts _ _ _ _).tb
@[simp] theorem State.occur_hrt (s : State) (ev bit inst detail : Nat) : (s.occur ev bit inst detail).hrt = s.hrt :=
  (s.occur_parts _ _ _ _).hrt
@[simp] theorem State.occur_ref (s : State) (ev bit inst detail : Nat) : (s.occur ev bit inst detail).ref = s.ref :=
  (s.occur_parts _ _ _ _).ref
@[simp] theorem State.occur_sel (s : State) (ev bit inst detail : Nat) : (s.occur ev bit inst detail).sel = s.sel :=
  (s.occur_parts _ _ _ _).sel
@[simp] theorem State.occur_bound (s : State) (ev bit inst detail : Nat) : (s.occur ev bit inst detail).bound = s.bound :=
  (s.occur_parts _ _ _ _).bound
@[simp] theorem State.occur_tdc (s : State) (ev bit inst detail : Nat) : (s.occur ev bit inst detail).tdc = s.tdc :=
  (s.occur_parts _ _ _ _).tdc
@[simp] theorem State.occur_osc (s : State) (ev bit inst detail : Nat) : (s.occur ev bit inst detail).osc = s.osc :=
  (s.occur_parts _ _ _ _).osc
@[simp] theorem State.occur_syn (s : State) (ev bit inst detail : Nat) : (s.occur ev bit inst detail).syn = s.syn :=
  (s.occur_parts _ _ _ _).syn
@[simp] theorem State.occur_outp (s : State) (ev bit inst detail : Nat) : (s.occur ev bit inst detail).outp = s.outp :=
  (s.occur_parts _ _ _ _).outp
@[simp] theorem State.occur_pwr (s : State) (ev bit inst detail : Nat) : (s.occur ev bit inst detail).pwr = s.pwr :=
  (s.occur_parts _ _ _ _).pwr
@[simp] theorem State.occur_pmu (s : State) (ev bit inst detail : Nat) : (s.occur ev bit inst detail).pmu = s.pmu :=
  (s.occur_parts _ _ _ _).pmu
@[simp] theorem State.occur_pnl (s : State) (ev bit inst detail : Nat) : (s.occur ev bit inst detail).pnl = s.pnl :=
  (s.occur_parts _ _ _ _).pnl
@[simp] theorem State.occur_pke (s : State) (ev bit inst detail : Nat) : (s.occur ev bit inst detail).pke = s.pke :=
  (s.occur_parts _ _ _ _).pke
@[simp] theorem State.occur_port (s : State) (ev bit inst detail : Nat) : (s.occur ev bit inst detail).port = s.port :=
  (s.occur_parts _ _ _ _).port
@[simp] theorem State.occur_nts (s : State) (ev bit inst detail : Nat) : (s.occur ev bit inst detail).nts = s.nts :=
  (s.occur_parts _ _ _ _).nts
@[simp] theorem State.occur_ptp (s : State) (ev bit inst detail : Nat) : (s.occur ev bit inst detail).ptp = s.ptp :=
  (s.occur_parts _ _ _ _).ptp
@[simp] theorem State.occur_kvt (s : State) (ev bit inst detail : Nat) : (s.occur ev bit inst detail).kvt = s.kvt :=
  (s.occur_parts _ _ _ _).kvt
@[simp] theorem State.occur_pair (s : State) (ev bit inst detail : Nat) : (s.occur ev bit inst detail).pair = s.pair :=
  (s.occur_parts _ _ _ _).pair
@[simp] theorem State.occur_snaps (s : State) (ev bit inst detail : Nat) : (s.occur ev bit inst detail).snaps = s.snaps :=
  (s.occur_parts _ _ _ _).snaps
@[simp] theorem State.occur_free (s : State) (ev bit inst detail : Nat) : (s.occur ev bit inst detail).free = s.free :=
  (s.occur_parts _ _ _ _).free

@[simp] theorem State.flag_pending (s : State) (f : Fld) (ev inst detail : Nat) : (s.flag f ev inst detail).pending = s.pending :=
  (s.flag_parts _ _ _ _).pending
@[simp] theorem State.flag_raw (s : State) (f : Fld) (ev inst detail : Nat) : (s.flag f ev inst detail).raw = s.raw :=
  (s.flag_parts _ _ _ _).raw
@[simp] theorem State.flag_supply (s : State) (f : Fld) (ev inst detail : Nat) : (s.flag f ev inst detail).supply = s.supply :=
  (s.flag_parts _ _ _ _).supply
@[simp] theorem State.flag_nv (s : State) (f : Fld) (ev inst detail : Nat) : (s.flag f ev inst detail).nv = s.nv :=
  (s.flag_parts _ _ _ _).nv
@[simp] theorem State.flag_flash (s : State) (f : Fld) (ev inst detail : Nat) : (s.flag f ev inst detail).flash = s.flash :=
  (s.flag_parts _ _ _ _).flash
@[simp] theorem State.flag_sram (s : State) (f : Fld) (ev inst detail : Nat) : (s.flag f ev inst detail).sram = s.sram :=
  (s.flag_parts _ _ _ _).sram
@[simp] theorem State.flag_boot (s : State) (f : Fld) (ev inst detail : Nat) : (s.flag f ev inst detail).boot = s.boot :=
  (s.flag_parts _ _ _ _).boot
@[simp] theorem State.flag_rcp (s : State) (f : Fld) (ev inst detail : Nat) : (s.flag f ev inst detail).rcp = s.rcp :=
  (s.flag_parts _ _ _ _).rcp
@[simp] theorem State.flag_tb (s : State) (f : Fld) (ev inst detail : Nat) : (s.flag f ev inst detail).tb = s.tb :=
  (s.flag_parts _ _ _ _).tb
@[simp] theorem State.flag_hrt (s : State) (f : Fld) (ev inst detail : Nat) : (s.flag f ev inst detail).hrt = s.hrt :=
  (s.flag_parts _ _ _ _).hrt
@[simp] theorem State.flag_ref (s : State) (f : Fld) (ev inst detail : Nat) : (s.flag f ev inst detail).ref = s.ref :=
  (s.flag_parts _ _ _ _).ref
@[simp] theorem State.flag_sel (s : State) (f : Fld) (ev inst detail : Nat) : (s.flag f ev inst detail).sel = s.sel :=
  (s.flag_parts _ _ _ _).sel
@[simp] theorem State.flag_bound (s : State) (f : Fld) (ev inst detail : Nat) : (s.flag f ev inst detail).bound = s.bound :=
  (s.flag_parts _ _ _ _).bound
@[simp] theorem State.flag_tdc (s : State) (f : Fld) (ev inst detail : Nat) : (s.flag f ev inst detail).tdc = s.tdc :=
  (s.flag_parts _ _ _ _).tdc
@[simp] theorem State.flag_osc (s : State) (f : Fld) (ev inst detail : Nat) : (s.flag f ev inst detail).osc = s.osc :=
  (s.flag_parts _ _ _ _).osc
@[simp] theorem State.flag_syn (s : State) (f : Fld) (ev inst detail : Nat) : (s.flag f ev inst detail).syn = s.syn :=
  (s.flag_parts _ _ _ _).syn
@[simp] theorem State.flag_outp (s : State) (f : Fld) (ev inst detail : Nat) : (s.flag f ev inst detail).outp = s.outp :=
  (s.flag_parts _ _ _ _).outp
@[simp] theorem State.flag_pwr (s : State) (f : Fld) (ev inst detail : Nat) : (s.flag f ev inst detail).pwr = s.pwr :=
  (s.flag_parts _ _ _ _).pwr
@[simp] theorem State.flag_pmu (s : State) (f : Fld) (ev inst detail : Nat) : (s.flag f ev inst detail).pmu = s.pmu :=
  (s.flag_parts _ _ _ _).pmu
@[simp] theorem State.flag_pnl (s : State) (f : Fld) (ev inst detail : Nat) : (s.flag f ev inst detail).pnl = s.pnl :=
  (s.flag_parts _ _ _ _).pnl
@[simp] theorem State.flag_pke (s : State) (f : Fld) (ev inst detail : Nat) : (s.flag f ev inst detail).pke = s.pke :=
  (s.flag_parts _ _ _ _).pke
@[simp] theorem State.flag_port (s : State) (f : Fld) (ev inst detail : Nat) : (s.flag f ev inst detail).port = s.port :=
  (s.flag_parts _ _ _ _).port
@[simp] theorem State.flag_nts (s : State) (f : Fld) (ev inst detail : Nat) : (s.flag f ev inst detail).nts = s.nts :=
  (s.flag_parts _ _ _ _).nts
@[simp] theorem State.flag_ptp (s : State) (f : Fld) (ev inst detail : Nat) : (s.flag f ev inst detail).ptp = s.ptp :=
  (s.flag_parts _ _ _ _).ptp
@[simp] theorem State.flag_kvt (s : State) (f : Fld) (ev inst detail : Nat) : (s.flag f ev inst detail).kvt = s.kvt :=
  (s.flag_parts _ _ _ _).kvt
@[simp] theorem State.flag_pair (s : State) (f : Fld) (ev inst detail : Nat) : (s.flag f ev inst detail).pair = s.pair :=
  (s.flag_parts _ _ _ _).pair
@[simp] theorem State.flag_snaps (s : State) (f : Fld) (ev inst detail : Nat) : (s.flag f ev inst detail).snaps = s.snaps :=
  (s.flag_parts _ _ _ _).snaps
@[simp] theorem State.flag_free (s : State) (f : Fld) (ev inst detail : Nat) : (s.flag f ev inst detail).free = s.free :=
  (s.flag_parts _ _ _ _).free

@[simp] theorem State.flagBit_pending (s : State) (f : Fld) (i ev inst detail : Nat) : (s.flagBit f i ev inst detail).pending = s.pending :=
  (s.flagBit_parts _ _ _ _ _).pending
@[simp] theorem State.flagBit_raw (s : State) (f : Fld) (i ev inst detail : Nat) : (s.flagBit f i ev inst detail).raw = s.raw :=
  (s.flagBit_parts _ _ _ _ _).raw
@[simp] theorem State.flagBit_supply (s : State) (f : Fld) (i ev inst detail : Nat) : (s.flagBit f i ev inst detail).supply = s.supply :=
  (s.flagBit_parts _ _ _ _ _).supply
@[simp] theorem State.flagBit_nv (s : State) (f : Fld) (i ev inst detail : Nat) : (s.flagBit f i ev inst detail).nv = s.nv :=
  (s.flagBit_parts _ _ _ _ _).nv
@[simp] theorem State.flagBit_flash (s : State) (f : Fld) (i ev inst detail : Nat) : (s.flagBit f i ev inst detail).flash = s.flash :=
  (s.flagBit_parts _ _ _ _ _).flash
@[simp] theorem State.flagBit_sram (s : State) (f : Fld) (i ev inst detail : Nat) : (s.flagBit f i ev inst detail).sram = s.sram :=
  (s.flagBit_parts _ _ _ _ _).sram
@[simp] theorem State.flagBit_boot (s : State) (f : Fld) (i ev inst detail : Nat) : (s.flagBit f i ev inst detail).boot = s.boot :=
  (s.flagBit_parts _ _ _ _ _).boot
@[simp] theorem State.flagBit_rcp (s : State) (f : Fld) (i ev inst detail : Nat) : (s.flagBit f i ev inst detail).rcp = s.rcp :=
  (s.flagBit_parts _ _ _ _ _).rcp
@[simp] theorem State.flagBit_tb (s : State) (f : Fld) (i ev inst detail : Nat) : (s.flagBit f i ev inst detail).tb = s.tb :=
  (s.flagBit_parts _ _ _ _ _).tb
@[simp] theorem State.flagBit_hrt (s : State) (f : Fld) (i ev inst detail : Nat) : (s.flagBit f i ev inst detail).hrt = s.hrt :=
  (s.flagBit_parts _ _ _ _ _).hrt
@[simp] theorem State.flagBit_ref (s : State) (f : Fld) (i ev inst detail : Nat) : (s.flagBit f i ev inst detail).ref = s.ref :=
  (s.flagBit_parts _ _ _ _ _).ref
@[simp] theorem State.flagBit_sel (s : State) (f : Fld) (i ev inst detail : Nat) : (s.flagBit f i ev inst detail).sel = s.sel :=
  (s.flagBit_parts _ _ _ _ _).sel
@[simp] theorem State.flagBit_bound (s : State) (f : Fld) (i ev inst detail : Nat) : (s.flagBit f i ev inst detail).bound = s.bound :=
  (s.flagBit_parts _ _ _ _ _).bound
@[simp] theorem State.flagBit_tdc (s : State) (f : Fld) (i ev inst detail : Nat) : (s.flagBit f i ev inst detail).tdc = s.tdc :=
  (s.flagBit_parts _ _ _ _ _).tdc
@[simp] theorem State.flagBit_osc (s : State) (f : Fld) (i ev inst detail : Nat) : (s.flagBit f i ev inst detail).osc = s.osc :=
  (s.flagBit_parts _ _ _ _ _).osc
@[simp] theorem State.flagBit_syn (s : State) (f : Fld) (i ev inst detail : Nat) : (s.flagBit f i ev inst detail).syn = s.syn :=
  (s.flagBit_parts _ _ _ _ _).syn
@[simp] theorem State.flagBit_outp (s : State) (f : Fld) (i ev inst detail : Nat) : (s.flagBit f i ev inst detail).outp = s.outp :=
  (s.flagBit_parts _ _ _ _ _).outp
@[simp] theorem State.flagBit_pwr (s : State) (f : Fld) (i ev inst detail : Nat) : (s.flagBit f i ev inst detail).pwr = s.pwr :=
  (s.flagBit_parts _ _ _ _ _).pwr
@[simp] theorem State.flagBit_pmu (s : State) (f : Fld) (i ev inst detail : Nat) : (s.flagBit f i ev inst detail).pmu = s.pmu :=
  (s.flagBit_parts _ _ _ _ _).pmu
@[simp] theorem State.flagBit_pnl (s : State) (f : Fld) (i ev inst detail : Nat) : (s.flagBit f i ev inst detail).pnl = s.pnl :=
  (s.flagBit_parts _ _ _ _ _).pnl
@[simp] theorem State.flagBit_pke (s : State) (f : Fld) (i ev inst detail : Nat) : (s.flagBit f i ev inst detail).pke = s.pke :=
  (s.flagBit_parts _ _ _ _ _).pke
@[simp] theorem State.flagBit_port (s : State) (f : Fld) (i ev inst detail : Nat) : (s.flagBit f i ev inst detail).port = s.port :=
  (s.flagBit_parts _ _ _ _ _).port
@[simp] theorem State.flagBit_nts (s : State) (f : Fld) (i ev inst detail : Nat) : (s.flagBit f i ev inst detail).nts = s.nts :=
  (s.flagBit_parts _ _ _ _ _).nts
@[simp] theorem State.flagBit_ptp (s : State) (f : Fld) (i ev inst detail : Nat) : (s.flagBit f i ev inst detail).ptp = s.ptp :=
  (s.flagBit_parts _ _ _ _ _).ptp
@[simp] theorem State.flagBit_kvt (s : State) (f : Fld) (i ev inst detail : Nat) : (s.flagBit f i ev inst detail).kvt = s.kvt :=
  (s.flagBit_parts _ _ _ _ _).kvt
@[simp] theorem State.flagBit_pair (s : State) (f : Fld) (i ev inst detail : Nat) : (s.flagBit f i ev inst detail).pair = s.pair :=
  (s.flagBit_parts _ _ _ _ _).pair
@[simp] theorem State.flagBit_snaps (s : State) (f : Fld) (i ev inst detail : Nat) : (s.flagBit f i ev inst detail).snaps = s.snaps :=
  (s.flagBit_parts _ _ _ _ _).snaps
@[simp] theorem State.flagBit_free (s : State) (f : Fld) (i ev inst detail : Nat) : (s.flagBit f i ev inst detail).free = s.free :=
  (s.flagBit_parts _ _ _ _ _).free

@[simp] theorem State.accessError_pending (s : State) (req : Requester) (cause addr : Nat) : (s.accessError req cause addr).pending = s.pending :=
  (s.accessError_parts _ _ _).pending
@[simp] theorem State.accessError_raw (s : State) (req : Requester) (cause addr : Nat) : (s.accessError req cause addr).raw = s.raw :=
  (s.accessError_parts _ _ _).raw
@[simp] theorem State.accessError_supply (s : State) (req : Requester) (cause addr : Nat) : (s.accessError req cause addr).supply = s.supply :=
  (s.accessError_parts _ _ _).supply
@[simp] theorem State.accessError_nv (s : State) (req : Requester) (cause addr : Nat) : (s.accessError req cause addr).nv = s.nv :=
  (s.accessError_parts _ _ _).nv
@[simp] theorem State.accessError_flash (s : State) (req : Requester) (cause addr : Nat) : (s.accessError req cause addr).flash = s.flash :=
  (s.accessError_parts _ _ _).flash
@[simp] theorem State.accessError_sram (s : State) (req : Requester) (cause addr : Nat) : (s.accessError req cause addr).sram = s.sram :=
  (s.accessError_parts _ _ _).sram
@[simp] theorem State.accessError_boot (s : State) (req : Requester) (cause addr : Nat) : (s.accessError req cause addr).boot = s.boot :=
  (s.accessError_parts _ _ _).boot
@[simp] theorem State.accessError_rcp (s : State) (req : Requester) (cause addr : Nat) : (s.accessError req cause addr).rcp = s.rcp :=
  (s.accessError_parts _ _ _).rcp
@[simp] theorem State.accessError_tb (s : State) (req : Requester) (cause addr : Nat) : (s.accessError req cause addr).tb = s.tb :=
  (s.accessError_parts _ _ _).tb
@[simp] theorem State.accessError_hrt (s : State) (req : Requester) (cause addr : Nat) : (s.accessError req cause addr).hrt = s.hrt :=
  (s.accessError_parts _ _ _).hrt
@[simp] theorem State.accessError_ref (s : State) (req : Requester) (cause addr : Nat) : (s.accessError req cause addr).ref = s.ref :=
  (s.accessError_parts _ _ _).ref
@[simp] theorem State.accessError_sel (s : State) (req : Requester) (cause addr : Nat) : (s.accessError req cause addr).sel = s.sel :=
  (s.accessError_parts _ _ _).sel
@[simp] theorem State.accessError_bound (s : State) (req : Requester) (cause addr : Nat) : (s.accessError req cause addr).bound = s.bound :=
  (s.accessError_parts _ _ _).bound
@[simp] theorem State.accessError_tdc (s : State) (req : Requester) (cause addr : Nat) : (s.accessError req cause addr).tdc = s.tdc :=
  (s.accessError_parts _ _ _).tdc
@[simp] theorem State.accessError_osc (s : State) (req : Requester) (cause addr : Nat) : (s.accessError req cause addr).osc = s.osc :=
  (s.accessError_parts _ _ _).osc
@[simp] theorem State.accessError_syn (s : State) (req : Requester) (cause addr : Nat) : (s.accessError req cause addr).syn = s.syn :=
  (s.accessError_parts _ _ _).syn
@[simp] theorem State.accessError_outp (s : State) (req : Requester) (cause addr : Nat) : (s.accessError req cause addr).outp = s.outp :=
  (s.accessError_parts _ _ _).outp
@[simp] theorem State.accessError_pwr (s : State) (req : Requester) (cause addr : Nat) : (s.accessError req cause addr).pwr = s.pwr :=
  (s.accessError_parts _ _ _).pwr
@[simp] theorem State.accessError_pmu (s : State) (req : Requester) (cause addr : Nat) : (s.accessError req cause addr).pmu = s.pmu :=
  (s.accessError_parts _ _ _).pmu
@[simp] theorem State.accessError_pnl (s : State) (req : Requester) (cause addr : Nat) : (s.accessError req cause addr).pnl = s.pnl :=
  (s.accessError_parts _ _ _).pnl
@[simp] theorem State.accessError_pke (s : State) (req : Requester) (cause addr : Nat) : (s.accessError req cause addr).pke = s.pke :=
  (s.accessError_parts _ _ _).pke
@[simp] theorem State.accessError_port (s : State) (req : Requester) (cause addr : Nat) : (s.accessError req cause addr).port = s.port :=
  (s.accessError_parts _ _ _).port
@[simp] theorem State.accessError_nts (s : State) (req : Requester) (cause addr : Nat) : (s.accessError req cause addr).nts = s.nts :=
  (s.accessError_parts _ _ _).nts
@[simp] theorem State.accessError_ptp (s : State) (req : Requester) (cause addr : Nat) : (s.accessError req cause addr).ptp = s.ptp :=
  (s.accessError_parts _ _ _).ptp
@[simp] theorem State.accessError_kvt (s : State) (req : Requester) (cause addr : Nat) : (s.accessError req cause addr).kvt = s.kvt :=
  (s.accessError_parts _ _ _).kvt
@[simp] theorem State.accessError_pair (s : State) (req : Requester) (cause addr : Nat) : (s.accessError req cause addr).pair = s.pair :=
  (s.accessError_parts _ _ _).pair
@[simp] theorem State.accessError_snaps (s : State) (req : Requester) (cause addr : Nat) : (s.accessError req cause addr).snaps = s.snaps :=
  (s.accessError_parts _ _ _).snaps
@[simp] theorem State.accessError_free (s : State) (req : Requester) (cause addr : Nat) : (s.accessError req cause addr).free = s.free :=
  (s.accessError_parts _ _ _).free
/-! Registers outside the event block. -/

theorem State.get_occur (s : State) {ev : Nat} {g : Fld} (bit inst detail : Nat) (he : ev < 128) (hg : g.blk ≠ 0x11) :
    (s.occur ev bit inst detail).get g = s.get g :=
  (State.occur_keepsButEvents s he bit inst detail).regs g hg

theorem State.get_flagBit_ne (s : State) {f g : Fld} {ev : Nat} (i inst detail : Nat) (he : ev < 128) (hg : g.blk ≠ 0x11) (hk : g.key ≠ f.key) :
    (s.flagBit f i ev inst detail).get g = s.get g := by
  unfold State.flagBit
  split
  · rfl
  · rw [State.get_occur _ _ _ _ he hg, State.get_set_ne s _ hk]

/-- The bit of a source field that is raised reads 1. -/
theorem State.get_flagBit_testBit (s : State) {f : Fld} {i ev : Nat} (inst detail : Nat) (he : ev < 128) (hi : i < f.w) (hb : f.blk ≠ 0x11) :
    ((s.flagBit f i ev inst detail).get f).testBit i = true := by
  unfold State.flagBit
  split
  · assumption
  · rw [State.get_occur _ _ _ _ he hb, State.get_set_self, Nat.testBit_mod_two_pow, setBitN]
    simp [hi, Nat.testBit_or, Nat.testBit_two_pow_self]

/-- A one-bit field that is written. -/
theorem State.bit_set (s : State) {f : Fld} (v : Nat) (hw : f.w = 1) : (s.set f v).bit f = decide (v % 2 = 1) := by
  rw [State.bit, State.get_set_self, hw]
  rcases Nat.mod_two_eq_zero_or_one v with h | h <;> simp [h]

theorem State.bit_set_ne (s : State) {f g : Fld} (v : Nat) (h : g.key ≠ f.key) : (s.set f v).bit g = s.bit g := by
  rw [State.bit, State.get_set_ne s v h, State.bit]

/-- A field that is written with a value of its width. -/
theorem State.get_set_of_lt (s : State) {f : Fld} {v : Nat} (h : v < 2 ^ f.w) : (s.set f v).get f = v := by
  rw [State.get_set_self, Nat.mod_eq_of_lt h]

theorem State.bit_eq_of_get {s t : State} {f : Fld} (h : t.get f = s.get f) : t.bit f = s.bit f := by rw [State.bit, h, State.bit]

/-! The frame relations along a chain of updates. -/

section
variable {s t u : State} {fs : List Fld} {blocks : List Nat}

theorem MemorySame.refl (s : State) : MemorySame s s := ⟨fun _ => rfl, fun _ => rfl⟩

theorem MemorySame.of_eq (hsram : t.sram = s.sram) (hflash : t.flash = s.flash) : MemorySame s t :=
  ⟨fun a => by rw [hsram], fun a => by rw [hflash]⟩

theorem RegsBut.refl (fs : List Fld) (s : State) : RegsBut fs s s := fun _ _ _ => rfl

/-- A step that keeps every field outside the event block but those of the list. -/
theorem RegsBut.step (h : RegsBut fs s t) (hu : ∀ f : Fld, f.blk ≠ 0x11 → (∀ g ∈ fs, f.key ≠ g.key) → u.get f = t.get f) :
    RegsBut fs s u :=
  fun f hb hf => (hu f hb hf).trans (h f hb hf)

theorem RegsBut.trans (h : RegsBut fs s t) (k : RegsBut fs t u) : RegsBut fs s u := h.step k

theorem RegsBut.mono {gs : List Fld} (h : RegsBut fs s t) (hsub : ∀ f ∈ fs, f ∈ gs) : RegsBut gs s t :=
  fun f hb hf => h f hb fun g hg => hf g (hsub g hg)

theorem RegsBut.of_regs (h : RegsBut fs s t) (hu : u.regs = t.regs) : RegsBut fs s u := h.step fun f _ _ => State.get_congr hu f

theorem RegsBut.set {f : Fld} {v : Nat} (h : RegsBut fs s t) (hf : f ∈ fs) : RegsBut fs s (t.set f v) :=
  h.step fun _ _ hne => State.get_set_ne t v (hne f hf)

theorem RegsBut.setBit {f : Fld} {b : Bool} (h : RegsBut fs s t) (hf : f ∈ fs) : RegsBut fs s (t.setBit f b) := h.set hf

theorem RegsBut.setI {f : Fld} {v : Int} (h : RegsBut fs s t) (hf : f ∈ fs) : RegsBut fs s (t.setI f v) := h.set hf

theorem RegsBut.occur {ev bit inst detail : Nat} (h : RegsBut fs s t) (he : ev < 128) : RegsBut fs s (t.occur ev bit inst detail) :=
  h.step fun _ hb _ => State.get_occur t _ _ _ he hb

theorem RegsBut.flag {f : Fld} {ev inst detail : Nat} (h : RegsBut fs s t) (he : ev < 128) (hf : f ∈ fs) :
    RegsBut fs s (t.flag f ev inst detail) :=
  h.step fun _ hb hne => State.flag_get_ne t _ _ he hb (hne f hf)

theorem RegsBut.flagBit {f : Fld} {i ev inst detail : Nat} (h : RegsBut fs s t) (he : ev < 128) (hf : f ∈ fs) :
    RegsBut fs s (t.flagBit f i ev inst detail) :=
  h.step fun _ hb hne => State.get_flagBit_ne t _ _ _ he hb (hne f hf)

theorem RegsBut.sets {l : List (Fld × Nat)} (h : RegsBut fs s t) (hl : ∀ p ∈ l, p.1 ∈ fs) : RegsBut fs s (t.sets l) :=
  h.step fun _ _ hne => State.get_sets_ne t l fun p hp => hne p.1 (hl p hp)

theorem RegsBut.emit {e : Emission} (h : RegsBut fs s t) : RegsBut fs s (t.emit e) := h.of_regs (State.emit_regs t e)

theorem RegsBut.ite {c : Prop} [Decidable c] (ht : RegsBut fs s t) (hu : RegsBut fs s u) : RegsBut fs s (if c then t else u) := by
  split <;> assumption

theorem RegsBut.when {c : Bool} {f : State → State} (h : RegsBut fs s t) (hf : ∀ u, RegsBut fs s u → RegsBut fs s (f u)) :
    RegsBut fs s (t.when c f) := .ite (hf t h) h

theorem RegsBut.foldl {α : Type} {f : State → α → State} {l : List α} (h : RegsBut fs s t)
    (hf : ∀ u, ∀ a ∈ l, RegsBut fs s u → RegsBut fs s (f u a)) : RegsBut fs s (l.foldl f t) := by
  induction l generalizing t with
  | nil => exact h
  | cons a l ih => exact ih (hf t a List.mem_cons_self h) fun u b hb => hf u b (List.mem_cons_of_mem _ hb)

theorem Fld.key_ne_of_blk {f g : Fld} (hf : f.blk ∈ blocks) (hg : g.blk ∉ blocks) : g.key ≠ f.key := fun hk =>
  hg (by rw [Fld.blk_of_key hk]; exact hf)

theorem Fld.blk_ne_of_notMem {g : Fld} {b : Nat} (hb : b ∈ blocks) (hg : g.blk ∉ blocks) : g.blk ≠ b := fun hk => hg (hk ▸ hb)

theorem RegsOutside.refl (blocks : List Nat) (s : State) : RegsOutside blocks s s := fun _ _ => rfl

theorem RegsOutside.step (h : RegsOutside blocks s t) (hu : ∀ f : Fld, f.blk ∉ blocks → u.get f = t.get f) : RegsOutside blocks s u :=
  fun f hf => (hu f hf).trans (h f hf)

theorem RegsOutside.trans (h : RegsOutside blocks s t) (k : RegsOutside blocks t u) : RegsOutside blocks s u := h.step k

theorem RegsOutside.of_regs (h : RegsOutside blocks s t) (hu : u.regs = t.regs) : RegsOutside blocks s u :=
  h.step fun f _ => State.get_congr hu f

theorem RegsOutside.set {f : Fld} {v : Nat} (h : RegsOutside blocks s t) (hf : f.blk ∈ blocks) : RegsOutside blocks s (t.set f v) :=
  h.step fun _ hg => State.get_set_ne t v (Fld.key_ne_of_blk hf hg)

theorem RegsOutside.occur {ev bit inst detail : Nat} (h : RegsOutside blocks s t) (he : ev < 128) (hm : 0x11 ∈ blocks) :
    RegsOutside blocks s (t.occur ev bit inst detail) :=
  h.step fun _ hb => State.get_occur t _ _ _ he (Fld.blk_ne_of_notMem hm hb)

theorem RegsOutside.flag {f : Fld} {ev inst detail : Nat} (h : RegsOutside blocks s t) (he : ev < 128) (hm : 0x11 ∈ blocks)
    (hf : f.blk ∈ blocks) : RegsOutside blocks s (t.flag f ev inst detail) :=
  h.step fun _ hb => State.flag_get_ne t _ _ he (Fld.blk_ne_of_notMem hm hb) (Fld.key_ne_of_blk hf hb)

theorem RegsOutside.flagBit {f : Fld} {i ev inst detail : Nat} (h : RegsOutside blocks s t) (he : ev < 128) (hm : 0x11 ∈ blocks)
    (hf : f.blk ∈ blocks) : RegsOutside blocks s (t.flagBit f i ev inst detail) :=
  h.step fun _ hb => State.get_flagBit_ne t _ _ _ he (Fld.blk_ne_of_notMem hm hb) (Fld.key_ne_of_blk hf hb)

theorem RegsOutside.sets {l : List (Fld × Nat)} (h : RegsOutside blocks s t) (hl : ∀ p ∈ l, p.1.blk ∈ blocks) :
    RegsOutside blocks s (t.sets l) :=
  h.step fun _ hg => State.get_sets_ne t l fun p hp => Fld.key_ne_of_blk (hl p hp) hg

theorem RegsOutside.emit {e : Emission} (h : RegsOutside blocks s t) : RegsOutside blocks s (t.emit e) := h.of_regs (State.emit_regs t e)

theorem RegsOutside.ite {c : Prop} [Decidable c] (ht : RegsOutside blocks s t) (hu : RegsOutside blocks s u) :
    RegsOutside blocks s (if c then t else u) := by split <;> assumption

theorem RegsOutside.when {c : Bool} {f : State → State} (h : RegsOutside blocks s t)
    (hf : ∀ u, RegsOutside blocks s u → RegsOutside blocks s (f u)) :
    RegsOutside blocks s (t.when c f) := .ite (hf t h) h

theorem RegsOutside.foldl {α : Type} {f : State → α → State} {l : List α} (h : RegsOutside blocks s t)
    (hf : ∀ u, ∀ a ∈ l, RegsOutside blocks s u → RegsOutside blocks s (f u a)) : RegsOutside blocks s (l.foldl f t) := by
  induction l generalizing t with
  | nil => exact h
  | cons a l ih => exact ih (hf t a List.mem_cons_self h) fun u b hb => hf u b (List.mem_cons_of_mem _ hb)

end

/-- What a repetition leaves alone. -/
theorem foldl_keeps {α β : Type} {f : State → α → State} (p : State → β) (hf : ∀ t a, p (f t a) = p t) (l : List α) (s : State) :
    p (l.foldl f s) = p s := by
  induction l generalizing s with
  | nil => rfl
  | cons a l ih => exact (ih (f s a)).trans (hf s a)

/-! Lists as arrays. -/

theorem getD_modAt_self {α : Type} {l : List α} {i : Nat} (f : α → α) (d : α) (h : i < l.length) :
    (modAt l i f).getD i d = f (l.getD i d) := by
  induction l generalizing i with
  | nil => simp at h
  | cons a l ih => cases i with
    | zero => rfl
    | succ k => simpa [modAt] using ih (by simpa using h)

theorem getD_modAt_ne {α : Type} (l : List α) {i j : Nat} (f : α → α) (d : α) (h : j ≠ i) : (modAt l i f).getD j d = l.getD j d := by
  induction l generalizing i j with
  | nil => rfl
  | cons a l ih => cases i with
    | zero => cases j with
      | zero => exact absurd rfl h
      | succ j => simp [modAt]
    | succ k => cases j with
      | zero => simp [modAt]
      | succ j => simpa [modAt] using ih (i := k) (j := j) (by omega)

theorem lookup_insertAt_self {α : Type} (k : Nat) (a : α) (l : List (Nat × α)) : lookup k (insertAt k a l) = some a := by
  induction l with
  | nil => simp [insertAt, lookup]
  | cons e l ih =>
    obtain ⟨q, b⟩ := e
    simp only [insertAt]
    split
    · simp [lookup]
    · split
      · simp [lookup]
      · rw [lookup, if_neg (by omega), ih]

end Sys2Proof.Machine

/-! PROOF. Byte strings: the length of a number's bytes, the number read back, and the bytes at a known place; the token of a launch. -/

namespace Sys2Proof.Machine

/-! Byte strings. -/

@[simp] theorem leBytes_length (n v : Nat) : (leBytes n v).length = n := by
  induction n generalizing v with
  | zero => rfl
  | succ k ih => simp [leBytes, ih]

theorem leNat_leBytes (n v : Nat) : leNat (leBytes n v) = v % 256 ^ n := by
  induction n generalizing v with
  | zero => simp [leBytes, leNat, Nat.mod_one]
  | succ k ih => 
    have hbyte : (BitVec.ofNat 8 v).toNat = v % 256 := BitVec.toNat_ofNat v 8
    rw [leBytes, leNat, hbyte, ih, pow_succ', Nat.mod_mul]

theorem leNat_leBytes_of_lt {n v : Nat} (h : v < 256 ^ n) : leNat (leBytes n v) = v := by
  rw [leNat_leBytes, Nat.mod_eq_of_lt h]

/-- The slice that stands after a part of known length. -/
theorem sliceB_mid {a b c : List Byte} {off n : Nat} (ha : a.length = off) (hb : b.length = n) : sliceB (a ++ (b ++ c)) off n = b := by
  subst ha hb
  simp [sliceB]

theorem leAt_mid {a b c : List Byte} {off n : Nat} (ha : a.length = off) (hb : b.length = n) : leAt (a ++ (b ++ c)) off n = leNat b := by
  rw [leAt, sliceB_mid ha hb]

/-- The slice from the first byte on. -/
theorem sliceB_zero {b c : List Byte} {n : Nat} (hb : b.length = n) : sliceB (b ++ c) 0 n = b := sliceB_mid (a := []) rfl hb

theorem leAt_zero {b c : List Byte} {n : Nat} (hb : b.length = n) : leAt (b ++ c) 0 n = leNat b := by rw [leAt, sliceB_zero hb]

/-- The slice up to the last byte. -/
theorem sliceB_last {a b : List Byte} {off n : Nat} (ha : a.length = off) (hb : b.length = n) : sliceB (a ++ b) off n = b := by
  simpa using sliceB_mid (c := []) ha hb

theorem leAt_last {a b : List Byte} {off n : Nat} (ha : a.length = off) (hb : b.length = n) : leAt (a ++ b) off n = leNat b := by
  rw [leAt, sliceB_last ha hb]

/-! The checksum of a token. -/

theorem crc16Bit_lt {c : Nat} (h : c < 2 ^ 16) : crc16Bit c < 2 ^ 16 := by
  unfold crc16Bit
  split
  · omega
  · exact Nat.xor_lt_two_pow (by omega) (by omega)

theorem repeat_crc16Bit_lt (k : Nat) {c : Nat} (h : c < 2 ^ 16) : Nat.repeat crc16Bit k c < 2 ^ 16 := by
  induction k with
  | zero => exact h
  | succ k ih => exact crc16Bit_lt ih

theorem crc16_lt (l : List Byte) : crc16 l < 2 ^ 16 := by
  have step (c : Nat) (hc : c < 2 ^ 16) : l.foldl (fun c b => Nat.repeat crc16Bit 8 (c ^^^ (b.toNat * 256))) c < 2 ^ 16 := by
    induction l generalizing c with
    | nil => exact hc
    | cons b l ih =>
      have hbyte : b.toNat * 256 < 2 ^ 16 := by have := b.isLt; omega
      rw [List.foldl_cons]
      exact ih _ (repeat_crc16Bit_lt 8 (Nat.xor_lt_two_pow hc hbyte))
  unfold crc16
  exact step 0xFFFF (by omega)

/-- A checksum's two bytes read back as the checksum. -/
theorem leNat_crc16 (l : List Byte) : leNat (leBytes 2 (crc16 l)) = crc16 l := leNat_leBytes_of_lt (crc16_lt l)

/-! The two blocks of a token (R42). -/

/-- The 14 bytes that the base token's checksum covers. -/
def baseBody (tick errb gen flags : Nat) : List Byte := leBytes 8 tick ++ (leBytes 4 errb ++ (leBytes 1 gen ++ leBytes 1 flags))

/-- The 39 bytes that the pair block's checksum covers. -/
def pairBody (p : Pair) : List Byte :=
  leBytes 1 p.gen ++ leBytes 6 (ofSigned 48 p.rate) ++ leBytes 8 p.anchor ++ dtimeBytes p.offset ++ leBytes 8 p.commit

theorem baseToken_eq (tick errb gen flags : Nat) :
    baseToken tick errb gen flags = baseBody tick errb gen flags ++ leBytes 2 (crc16 (baseBody tick errb gen flags)) := by
  simp only [baseToken, baseBody, List.append_assoc]

theorem pairBlock_eq (p : Pair) : pairBlock p = pairBody p ++ (leBytes 2 (crc16 (pairBody p)) ++ [0]) := by
  simp only [pairBlock, pairBody, List.append_assoc]

@[simp] theorem baseBody_length (tick errb gen flags : Nat) : (baseBody tick errb gen flags).length = 14 := by simp [baseBody]

@[simp] theorem baseToken_length (tick errb gen flags : Nat) : (baseToken tick errb gen flags).length = 16 := by simp [baseToken_eq]

@[simp] theorem pairBody_length (p : Pair) : (pairBody p).length = 39 := by simp [pairBody, dtimeBytes, dtimeWords]

@[simp] theorem pairBlock_length (p : Pair) : (pairBlock p).length = 42 := by simp [pairBlock_eq]

section
variable (tick errb gen flags : Nat) (tail : List Byte)

theorem leAt_baseToken_tick : leAt (baseToken tick errb gen flags ++ tail) 0 8 = tick % 256 ^ 8 := by
  rw [baseToken_eq, baseBody, List.append_assoc, List.append_assoc, leAt_zero (leBytes_length _ _), leNat_leBytes]

theorem leAt_baseToken_gen : leAt (baseToken tick errb gen flags ++ tail) 12 1 = gen % 256 := by
  have heq : baseToken tick errb gen flags ++ tail = (leBytes 8 tick ++ leBytes 4 errb) ++ (leBytes 1 gen ++
      (leBytes 1 flags ++ (leBytes 2 (crc16 (baseBody tick errb gen flags)) ++ tail))) := by
    simp only [baseToken_eq, baseBody, List.append_assoc]
  rw [heq, leAt_mid (by simp) (leBytes_length _ _), leNat_leBytes, pow_one]

theorem leAt_baseToken_flags : leAt (baseToken tick errb gen flags ++ tail) 13 1 = flags % 256 := by
  have heq : baseToken tick errb gen flags ++ tail = (leBytes 8 tick ++ (leBytes 4 errb ++ leBytes 1 gen)) ++ (leBytes 1 flags ++
      (leBytes 2 (crc16 (baseBody tick errb gen flags)) ++ tail)) := by
    simp only [baseToken_eq, baseBody, List.append_assoc]
  rw [heq, leAt_mid (by simp) (leBytes_length _ _), leNat_leBytes, pow_one]

/-- The base token's checksum is that of its first 14 bytes. -/
theorem baseToken_crc : leAt (sliceB (baseToken tick errb gen flags ++ tail) 0 16) 14 2 =
    crc16 ((sliceB (baseToken tick errb gen flags ++ tail) 0 16).take 14) := by
  rw [sliceB_zero (baseToken_length _ _ _ _), baseToken_eq, leAt_last (baseBody_length _ _ _ _) (leBytes_length _ _), leNat_crc16,
    List.take_left' (baseBody_length _ _ _ _)]

/-- The pair block's checksum is that of its first 39 bytes. -/
theorem pairBlock_crc (p : Pair) : leAt (sliceB (baseToken tick errb gen flags ++ pairBlock p) 16 42) 39 2 =
    crc16 ((sliceB (baseToken tick errb gen flags ++ pairBlock p) 16 42).take 39) := by
  rw [sliceB_last (baseToken_length _ _ _ _) (pairBlock_length p), pairBlock_eq, leAt_mid (pairBody_length p) (leBytes_length _ _), leNat_crc16,
    List.take_left' (pairBody_length p)]

/-- A token with a pair block is well formed where its flags say that the block stands there. -/
theorem tokenOk_with_block (p : Pair) (h : (flags % 256).testBit 0 = true) : tokenOk (baseToken tick errb gen flags ++ pairBlock p) = true := by
  simp only [tokenOk, leAt_baseToken_flags, h, baseToken_crc, pairBlock_crc]
  simp

/-- A token of the base block alone is well formed where its flags say that no pair block follows. -/
theorem tokenOk_base (h : (flags % 256).testBit 0 = false) : tokenOk (baseToken tick errb gen flags) = true := by
  have hflags := leAt_baseToken_flags tick errb gen flags []
  have hcrc := baseToken_crc tick errb gen flags []
  rw [List.append_nil] at hflags hcrc
  simp only [tokenOk, hflags, h, hcrc]
  simp

end

/-! The token of a launch (R41). -/

/-- The flag bits of HOLD and of a pending leap second lie above bit 0. -/
theorem even_hold_add_leap (c d : Prop) [Decidable c] [Decidable d] : ∃ k, k < 8 ∧ (if c then 4 else 0) + (if d then 8 else 0) = 2 * k := by
  by_cases hc : c <;> by_cases hd : d
  · exact ⟨6, by omega, by simp [hc, hd]⟩
  · exact ⟨2, by omega, by simp [hc, hd]⟩
  · exact ⟨4, by omega, by simp [hc, hd]⟩
  · exact ⟨0, by omega, by simp [hc, hd]⟩

/-- What a launch puts on a route: the base token, and behind it the pair block exactly where the flags' bit 0 says so. -/
theorem State.tokenBytes_eq (s : State) (e : Nat) : ∃ flags tail, s.tokenBytes e = baseToken s.raw e s.hrt.cur.gen flags ++ tail ∧
    (((flags % 256).testBit 0 = true ∧ ∃ p, tail = pairBlock p) ∨ ((flags % 256).testBit 0 = false ∧ tail = [])) := by
  obtain ⟨k, hk, hkeq⟩ := even_hold_add_leap (s.srvState = 3) (s.bit F.HRT_UTC.LEAPPEND = true)
  unfold State.tokenBytes
  dsimp only
  split
  next p pend _ =>
    obtain ⟨m, hm, hflags⟩ : ∃ m, m < 16 ∧ 1 + (if pend = true then 2 else 0) + (if s.srvState = 3 then 4 else 0) +
        (if s.bit F.HRT_UTC.LEAPPEND = true then 8 else 0) = 2 * m + 1 := by
      cases pend
      · exact ⟨k, by omega, by simp; omega⟩
      · exact ⟨k + 1, by omega, by simp; omega⟩
    exact ⟨_, pairBlock p, rfl, .inl ⟨by rw [hflags, Nat.testBit_zero]; simp, p, rfl⟩⟩
  next =>
    exact ⟨_, [], (List.append_nil _).symm, .inr ⟨by rw [hkeq, Nat.testBit_zero]; simp, rfl⟩⟩

/-- A launch at a tick of the counter's 64 bits. -/
theorem State.tokenBytes_wf {s : State} (hraw : s.raw < 2 ^ 64) (e : Nat) :
    tokenOk (s.tokenBytes e) = true ∧ leAt (s.tokenBytes e) 0 8 = s.raw ∧ leAt (s.tokenBytes e) 12 1 = s.hrt.cur.gen % 256 ∧
      (s.tokenBytes e).length = if (leAt (s.tokenBytes e) 13 1).testBit 0 then 58 else 16 := by
  obtain ⟨flags, tail, heq, hblock⟩ := s.tokenBytes_eq e
  rw [heq, leAt_baseToken_tick, leAt_baseToken_gen, leAt_baseToken_flags]
  refine ⟨?_, Nat.mod_eq_of_lt (by omega), rfl, ?_⟩
  · rcases hblock with ⟨hbit, p, rfl⟩ | ⟨hbit, rfl⟩
    · exact tokenOk_with_block _ _ _ _ p hbit
    · rw [List.append_nil]; exact tokenOk_base _ _ _ _ hbit
  · rcases hblock with ⟨hbit, p, rfl⟩ | ⟨hbit, rfl⟩
    · simp [hbit]
    · simp [hbit]

/-! What stands unchanged when a launch begins. -/

/-- What a launch reads of the state: power, the counter, the time scale and the routes that are enabled. -/
def LaunchSame (s t : State) : Prop := t.supply = s.supply ∧ t.raw = s.raw ∧ t.hrt = s.hrt ∧ t.enRoutes = s.enRoutes

theorem LaunchSame.refl (s : State) : LaunchSame s s := ⟨rfl, rfl, rfl, rfl⟩

theorem LaunchSame.trans {s t u : State} (h : LaunchSame s t) (k : LaunchSame t u) : LaunchSame s u :=
  ⟨k.1.trans h.1, k.2.1.trans h.2.1, k.2.2.1.trans h.2.2.1, k.2.2.2.trans h.2.2.2⟩

theorem State.enRoutes_congr {s t : State} (h : ∀ n < 14, t.get (F.HRT_TB_ROUTE.EN n) = s.get (F.HRT_TB_ROUTE.EN n)) : t.enRoutes = s.enRoutes :=
  List.filter_congr fun n hn => by rw [State.bit_eq_of_get (h n (List.mem_range.mp hn))]

theorem State.applyNudges_launchSame (s : State) : LaunchSame s s.applyNudges := by
  unfold State.applyNudges
  have hstep (t : State) (n : Nat) (hn : n ∈ s.enRoutes) (h : LaunchSame s t) :
      LaunchSame s (let d := (t.isle n).nudge
        if d = 0 then t else (t.setLatency n ((t.latency n : Int) + d).toNat).updIsle n (fun r => { r with nudge := 0 })) := by
    have hn14 : n < 14 := List.mem_range.mp (List.mem_filter.mp hn).1
    dsimp only
    split
    · exact h
    · refine h.trans ⟨rfl, rfl, rfl, State.enRoutes_congr fun m hm => ?_⟩
      exact State.get_sets_ne t _ (by
        simp only [List.mem_cons, List.not_mem_nil, or_false, forall_eq_or_imp, forall_eq]
        exact ⟨Fld.key_ne (by omega), Fld.key_ne (by omega)⟩)
  exact List.foldlRecOn s.enRoutes _ (LaunchSame.refl s) fun t ht n hn => hstep t n hn ht

/-- Flags of the selection's block leave what a launch reads. -/
theorem State.boundCross_launchSame (s : State) (old new : Nat) : LaunchSame s (s.boundCross old new) := by
  have hflag (f : Fld) (hf : f.off = 0x600104) (hch : f.ch = 0) (hlo : f.lo < 32) : LaunchSame s (s.selFlag f 0 new) :=
    ⟨State.flag_supply _ _ _ _ _, State.flag_raw _ _ _ _ _, State.flag_hrt _ _ _ _ _, State.enRoutes_congr fun n hn =>
      State.flag_get_ne s _ _ (by omega) (Fld.blk_ne (by omega)) (by
        rw [Fld.key, Fld.key, hf, hch]; simp only [F.HRT_TB_ROUTE.EN]; omega)⟩
  unfold State.boundCross
  dsimp only
  split
  · exact hflag _ rfl rfl (by decide)
  · split
    · exact hflag _ rfl rfl (by decide)
    · exact LaunchSame.refl s

@[simp] theorem State.acalFail_supply (s : State) (n why : Nat) : (s.acalFail n why).supply = s.supply := State.flag_supply _ _ _ _ _

@[simp] theorem State.reviewAcal_supply (s : State) : s.reviewAcal.supply = s.supply :=
  foldl_keeps State.supply (fun t n => by split <;> [rfl; (split <;> [rfl; exact State.acalFail_supply _ _ _])]) _ s

/-- Everything sent of a list stands in the output. -/
theorem mem_out_foldl_emit {α : Type} (e : α → Emission) (l : List α) {s : State} (hon : s.supply.on = true) {x : α} (hx : x ∈ l) :
    e x ∈ (l.foldl (fun t a => t.emit (e a)) s).out := by
  have hkeep (l : List α) (s : State) (y : Emission) (hy : y ∈ s.out) : y ∈ (l.foldl (fun t a => t.emit (e a)) s).out := by
    refine List.foldlRecOn (motive := fun t : State => y ∈ t.out) l _ hy fun t ht a _ => ?_
    rw [State.emit_eq]
    dsimp only
    split
    · exact List.mem_append_left _ ht
    · exact ht
  induction l generalizing s with
  | nil => simp at hx
  | cons a l ih =>
    rcases List.mem_cons.mp hx with rfl | hmem
    · exact hkeep l _ _ (by simp [State.emit_eq, hon])
    · exact ih (s := s.emit (e a)) (by simpa using hon) hmem

/-- The state in which a launch sends: the bound is shown and its crossings are told. -/
def State.launching (s : State) (e : Nat) : State :=
  ({ (s.set F.REF_ERRB.ERRB e).showUPair with
      bound := { ((s.set F.REF_ERRB.ERRB e).showUPair).bound with tokenErrb := e, record := s.breakdown e } } : State).boundCross s.bound.tokenErrb e

theorem State.launchToken_eq (s : State) : s.launchToken =
    (s.launching s.tokenBound).enRoutes.foldl (fun t n => t.emit (.token n (s.tokenBytes s.tokenBound))) (s.launching s.tokenBound).reviewAcal := rfl

theorem State.launching_launchSame (s : State) (e : Nat) : LaunchSame s (s.launching e) := by
  refine LaunchSame.trans (t := { (s.set F.REF_ERRB.ERRB e).showUPair with bound := _ }) ⟨rfl, rfl, rfl, State.enRoutes_congr fun n hn => ?_⟩
    (State.boundCross_launchSame _ _ _)
  exact (State.get_set_ne _ _ (by apply Fld.key_ne; omega)).trans (State.get_set_ne _ _ (by apply Fld.key_ne; omega))

/-- A launch sends its token on every enabled route. -/
theorem State.mem_out_launchToken {s : State} (hon : s.supply.on = true) {n : Nat} (hn : n ∈ s.enRoutes) :
    Emission.token n (s.tokenBytes s.tokenBound) ∈ s.launchToken.out := by
  obtain ⟨hsupply, -, -, hroutes⟩ := s.launching_launchSame s.tokenBound
  rw [State.launchToken_eq]
  refine mem_out_foldl_emit (fun m => Emission.token m (s.tokenBytes s.tokenBound)) _ ?_ (hroutes ▸ hn)
  rw [State.reviewAcal_supply, hsupply, hon]

/-- Settles O8: a launch's token is well formed by the shape of its two blocks, and goes out on each enabled route. -/
theorem launchedTokensAreGood : Obligations.LaunchedTokensAreGood := by
  unfold Obligations.LaunchedTokensAreGood
  intro s hon hlaunch hraw
  obtain ⟨hsupply, hraw', hhrt, hroutes⟩ := s.applyNudges_launchSame
  refine ⟨s.applyNudges.launchToken, ?_, fun n hn => ⟨_, State.mem_out_launchToken (by rw [hsupply, hon]) (hroutes ▸ hn), ?_⟩⟩
  · show Host.Outcome.next _ = _
    rw [hon, hlaunch]; rfl
  · obtain ⟨hok, htick, hgen, hlen⟩ := State.tokenBytes_wf (s := s.applyNudges) (by rw [hraw']; exact hraw) s.applyNudges.tokenBound
    exact ⟨hok, htick.trans hraw', hgen.trans (by rw [hhrt]), hlen⟩

end Sys2Proof.Machine

/-! PROOF. Programming a bank of flash (R125): the bank's cells are erased, the bytes of SRAM written, and the end of an action touches
neither memory. -/

namespace Sys2Proof.Machine

/-! A memory without some of its cells. -/

theorem memGet_filter (d : Byte) (l : List Host.Cell) (p : Nat → Bool) (a : Nat) :
    memGet d (l.filter (fun c => p c.1)) a = if p a then memGet d l a else d := by
  induction l with
  | nil => simp [memGet]
  | cons e l ih =>
    obtain ⟨k, v⟩ := e
    rw [List.filter_cons]
    by_cases hak : a = k
    · subst hak
      split <;> simp_all [memGet]
    · split <;> simp_all [memGet]

@[simp] theorem memGets_length (d : Byte) (l : List Host.Cell) (a n : Nat) : (memGets d l a n).length = n := by simp [memGets]

theorem memGets_getElem (d : Byte) (l : List Host.Cell) (a n i : Nat) (h : i < (memGets d l a n).length) :
    (memGets d l a n)[i] = memGet d l (a + i) := by simp [memGets]

/-! A bank programmed. -/

section
variable (s : State) (base size : Nat) (b : List Byte)

theorem State.flashProgram_inside (i : Nat) (h : i < b.length) :
    memGet flashDefault (s.flashProgram base size b).flash (base + i) = b[i] := memGet_memSets_inside _ _ _ _ _ h

theorem State.flashProgram_erased (i : Nat) (h : b.length ≤ i) (hi : i < size) :
    memGet flashDefault (s.flashProgram base size b).flash (base + i) = flashDefault := by
  refine (memGet_memSets_outside _ _ _ _ _ (by omega)).trans ?_
  rw [memGet_filter flashDefault s.flash (fun k => !(decide (base ≤ k) && decide (k < base + size)))]
  simp [hi]

theorem State.flashProgram_outside (hb : b.length ≤ size) (a : Nat) (h : a < base ∨ base + size ≤ a) :
    memGet flashDefault (s.flashProgram base size b).flash a = memGet flashDefault s.flash a := by
  refine (memGet_memSets_outside _ _ _ _ _ (by omega)).trans ?_
  rw [memGet_filter flashDefault s.flash (fun k => !(decide (base ≤ k) && decide (k < base + size)))]
  have hout : (!(decide (base ≤ a) && decide (a < base + size))) = true := by simp; omega
  rw [if_pos hout]

end

/-! The end of an action of RCP_CTRL or BOOT_CTRL. -/

theorem State.rcpState_parts (s : State) (st : Nat) : EventsOnly s (s.rcpState st) := by
  unfold State.rcpState
  dsimp only
  split
  · exact EventsOnly.trans (t := s.set _ _) rfl (State.occur_parts _ _ _ _ _)
  · rfl

theorem State.endAction_memory (s : State) (x : BankAction) (f : CheckFail) :
    (s.endAction x f).rcp.action = none ∧ (s.endAction x f).flash = s.flash ∧ (s.endAction x f).sram = s.sram := by
  unfold State.endAction
  dsimp only
  split
  · exact ⟨rfl, rfl, rfl⟩
  · exact ⟨congrArg RcpSt.action (State.rcpState_parts _ _).rcp, (State.rcpState_parts _ _).flash, (State.rcpState_parts _ _).sram⟩

/-- Settles O12: the bank is erased and written from its first byte on, and the action's end changes registers alone. -/
theorem programmingWritesTheBank : Obligations.ProgrammingWritesTheBank := by
  unfold Obligations.ProgrammingWritesTheBank
  intro s fw bank src len haction hlen
  have hlength : (s.sramRead src len).length = len := memGets_length _ _ _ _
  refine ⟨s.progEnd fw bank src len false, ?_, ?_⟩
  · show Host.Outcome.next _ = _
    rw [haction]
  · obtain ⟨haction', hflash, hsram⟩ := State.endAction_memory
      { s.flashProgram (bankBase fw bank) (bankSize fw) (s.sramRead src len) with
        rcp := { s.rcp with unusable := s.rcp.unusable.filter (· != (BankAction.prog fw bank src len).bank) } }
      (.prog fw bank src len) { code := 0 }
    refine ⟨haction', fun i hi => ?_, fun i hi hsize => ?_, fun a ha => ?_, fun a => ?_⟩
    · have hget := s.flashProgram_inside (bankBase fw bank) (bankSize fw) (s.sramRead src len) i (by rw [hlength]; exact hi)
      exact (congrArg (memGet flashDefault · _) hflash).trans (hget.trans (memGets_getElem _ _ _ _ _ _))
    · exact (congrArg (memGet flashDefault · _) hflash).trans (s.flashProgram_erased _ _ _ i (by rw [hlength]; exact hi) hsize)
    · exact (congrArg (memGet flashDefault · _) hflash).trans (s.flashProgram_outside _ _ _ (by rw [hlength]; exact hlen) a ha)
    · exact congrArg (memGet sramDefault · a) hsram

end Sys2Proof.Machine

/-! PROOF. The start record (R132, R135): what a write of it leaves, and what an end of the run leaves of the state. -/

namespace Sys2Proof.Machine

/-- The record read back is the one written, under a sequence number of its own. -/
theorem NvSt.record_writeRecord (n : NvSt) (r : StartRec) : ∃ q, (n.writeRecord r).record = { r with seq := q } := by
  obtain ⟨recA, recB⟩ := n
  cases recA with
  | none => cases recB with
    | none => exact ⟨1, by simp [NvSt.writeRecord, NvSt.record]⟩
    | some b => exact ⟨b.seq + 1, by simp [NvSt.writeRecord, NvSt.record]⟩
  | some a => cases recB with
    | none => exact ⟨a.seq + 1, by simp [NvSt.writeRecord, NvSt.record]⟩
    | some b =>
      by_cases h : a.seq ≤ b.seq
      · exact ⟨b.seq + 1, by simp [NvSt.writeRecord, NvSt.record, h]⟩
      · exact ⟨a.seq + 1, by simp [NvSt.writeRecord, NvSt.record, h]⟩

theorem State.updRecord_record {s : State} (hon : s.supply.on = true) (f : StartRec → StartRec) :
    ∃ q, (s.updRecord f).nv.record = { f s.nv.record with seq := q } := by
  rw [State.updRecord, if_pos hon]
  exact NvSt.record_writeRecord _ _

@[simp] theorem State.updRecord_supply (s : State) (f : StartRec → StartRec) : (s.updRecord f).supply = s.supply := by
  unfold State.updRecord; split <;> rfl

@[simp] theorem State.updRecord_pending (s : State) (f : StartRec → StartRec) : (s.updRecord f).pending = s.pending := by
  unfold State.updRecord; split <;> rfl

/-- An action that is abandoned touches neither the record nor the queue. -/
theorem State.abandonAction_nv (s : State) : s.abandonAction.nv = s.nv := by
  unfold State.abandonAction
  split <;> rfl

theorem State.abandonAction_pending (s : State) : s.abandonAction.pending = s.pending := by
  unfold State.abandonAction
  split <;> rfl

@[simp] theorem State.powerOff_nv (s : State) : s.powerOff.nv = s.nv := s.abandonAction_nv

@[simp] theorem State.powerOff_pending (s : State) : s.powerOff.pending = s.pending := s.abandonAction_pending

/-- A cold restart writes STOP and nothing else of the record. -/
theorem State.coldRestart_record {s : State} (hon : s.supply.on = true) (stop : Nat) :
    ∃ q, (s.coldRestart stop).nv.record = { s.nv.record with stop := stop, seq := q } := by
  rw [State.coldRestart, State.powerOff_nv]
  exact State.updRecord_record hon _

/-- A failed start attempt: its code heads the history, it is counted, and AON goes off with STOP 9. -/
theorem State.failStart_record {s : State} (hon : s.supply.on = true) (code detail : Nat) :
    (s.failStart code detail).supply.on = false ∧ (s.failStart code detail).nv.record.why.head? = some code ∧
      (s.failStart code detail).nv.record.detail = detail % 256 ∧ (s.failStart code detail).nv.record.stop = 9 ∧
      (s.failStart code detail).nv.record.attempts = min 255 (s.nv.record.attempts + 1) := by
  obtain ⟨q, hq⟩ := State.updRecord_record (s := s.sets [(F.BOOT_WHY.CODE, code), (F.BOOT_WHY.DETAIL, detail)]) hon
    (fun r => { r.push code detail with attempts := min 255 (r.attempts + 1), inStart := false })
  obtain ⟨q', hq'⟩ := State.coldRestart_record (s := (s.sets [(F.BOOT_WHY.CODE, code), (F.BOOT_WHY.DETAIL, detail)]).updRecord
    (fun r => { r.push code detail with attempts := min 255 (r.attempts + 1), inStart := false })) (by rw [State.updRecord_supply]; exact hon) 9
  rw [hq] at hq'
  refine ⟨rfl, ?_⟩
  rw [State.failStart, hq']
  exact ⟨rfl, rfl, rfl, rfl⟩

end Sys2Proof.Machine

/-! PROOF. The islands of the time bus: what a token brings, what a calibration's end applies, and which pair comes into force (R48 to R55). -/

namespace Sys2Proof.Machine

/-! An island's inner state. -/

theorem State.isle_updIsle_self {s : State} {n : Nat} (hs : StateShape s) (hn : n < 14) (f : Route → Route) :
    (s.updIsle n f).isle n = f (s.isle n) := getD_modAt_self f _ (by rw [hs.routes]; exact hn)

theorem State.isle_updIsle_ne (s : State) {n m : Nat} (f : Route → Route) (h : m ≠ n) : (s.updIsle n f).isle m = s.isle m :=
  getD_modAt_ne _ f _ h

@[simp] theorem State.get_updIsle (s : State) (n : Nat) (f : Route → Route) (g : Fld) : (s.updIsle n f).get g = s.get g := rfl

theorem State.isle_congr {s t : State} (h : t.tb = s.tb) (n : Nat) : t.isle n = s.isle n := by rw [State.isle, h, State.isle]

@[simp] theorem State.isle_flag (s : State) (f : Fld) (ev inst detail n : Nat) : (s.flag f ev inst detail).isle n = s.isle n :=
  State.isle_congr (State.flag_tb _ _ _ _ _) n

@[simp] theorem State.isle_occur (s : State) (ev bit inst detail n : Nat) : (s.occur ev bit inst detail).isle n = s.isle n :=
  State.isle_congr (State.occur_tb _ _ _ _ _) n

theorem State.updIsle_shape {s : State} (hs : StateShape s) (n : Nat) (f : Route → Route) : StateShape (s.updIsle n f) :=
  { hs with routes := (length_modAt _ _ _).trans hs.routes }

/-- The commands of one route go on where the route exists. -/
theorem onUnit_route {n : Nat} (h1 : 1 ≤ n) (hn : n < 14) (t : State) : onUnit (decide (1 ≤ n) && decide (n < 14)) t = .next t := by
  simp [h1, hn]

/-! Tokens. -/

theorem State.tryComplete_of_stage {s : State} (h : s.stage ≠ 5) : s.tryComplete = s := by
  unfold State.tryComplete
  rw [if_pos (.inl h)]

theorem execTokenArrival_of_stage {s : State} {n edge : Nat} {b : List Byte} (h1 : 1 ≤ n) (hn : n < 14)
    (hstage : (s.takeToken n edge b).stage ≠ 5) : exec (.tokenArrival n b edge) s = .next (s.takeToken n edge b) := by
  change onUnit _ _ = _
  rw [onUnit_route h1 hn, State.tryComplete_of_stage hstage]

/-- A pair that a token brings or that comes into force leaves the replica's distance from the forwarded count. -/
theorem Route.takePair_repOff (r : Route) (tick gen flags : Nat) (blk : List Byte) : (r.takePair tick gen flags blk).repOff = r.repOff := by
  unfold Route.takePair
  extract_lets a b
  have ha : a.repOff = r.repOff := by
    unfold a
    split
    · split
      · rfl
      · split <;> rfl
    · rfl
  have hb : b.repOff = r.repOff := by
    unfold b
    split
    · split <;> exact ha
    · exact ha
  split
  · exact hb
  · split <;> exact hb

theorem State.takeToken_of_bad {s : State} {n : Nat} (edge : Nat) {b : List Byte} (hen : s.bit (F.HRT_TB_ROUTE.EN n) = true)
    (hdom : s.domLost (routeDom n) = false) (hbad : tokenOk b = false) : s.takeToken n edge b = s.bumpSat (F.HRT_TB_ROUTE.CRCERR n) := by
  simp [State.takeToken, hen, hdom, hbad]

theorem State.takeToken_of_good {s : State} {n : Nat} (edge : Nat) {b : List Byte} (hen : s.bit (F.HRT_TB_ROUTE.EN n) = true)
    (hdom : s.domLost (routeDom n) = false) (hok : tokenOk b = true) (hvalid : s.bit (F.HRT_TB_ROUTE.VALID n) = true) :
    s.takeToken n edge b = s.goodToken n edge b := by
  simp [State.takeToken, hen, hdom, hok, hvalid]

/-- What a good token's bytes leave in the island, the replica's distance aside. -/
def Route.heard (r : Route) (b : List Byte) : Route :=
  { r.takePair (leAt b 0 8) (leAt b 12 1) (leAt b 13 1) (sliceB b 16 42) with
    lastTick := leAt b 0 8, errb := leAt b 8 4, lost := false, hold := (leAt b 13 1).testBit 2, leap := (leAt b 13 1).testBit 3 }

theorem State.goodToken_of_running {s : State} {n : Nat} (edge : Nat) (b : List Byte) (hrun : (s.isle n).awaitLoad = false) :
    s.goodToken n edge b = if (edge : Int) + (s.isle n).repOff = leAt b 0 8 then s.updIsle n (·.heard b)
      else ((s.updIsle n (·.heard b)).updIsle n (fun r => { r with repOff := (leAt b 0 8 : Int) - edge })).flag (F.HRT_TB_ROUTE.FAULT n) 21 n
        (s.isle n).lastTick := by
  simp only [State.goodToken, hrun, Bool.false_eq_true, if_false]
  rfl

/-- A token that confirms the replica changes the island alone. -/
theorem State.goodToken_of_agrees {s : State} {n edge : Nat} {b : List Byte} (hrun : (s.isle n).awaitLoad = false)
    (h : (edge : Int) + (s.isle n).repOff = leAt b 0 8) : s.goodToken n edge b = s.updIsle n (·.heard b) := by
  rw [State.goodToken_of_running edge b hrun, if_pos h]

/-- A token that shows the replica to differ reloads it and sets FAULT. -/
theorem State.goodToken_of_differs {s : State} {n edge : Nat} {b : List Byte} (hrun : (s.isle n).awaitLoad = false)
    (h : (edge : Int) + (s.isle n).repOff ≠ leAt b 0 8) :
    s.goodToken n edge b = ((s.updIsle n (·.heard b)).updIsle n (fun r => { r with repOff := (leAt b 0 8 : Int) - edge })).flag
      (F.HRT_TB_ROUTE.FAULT n) 21 n (s.isle n).lastTick := by
  rw [State.goodToken_of_running edge b hrun, if_neg h]

/-- A token that fails a CRC is discarded whole and counted. -/
theorem tokenArrival_discarded {s : State} {n edge : Nat} {b : List Byte} (h1 : 1 ≤ n) (hn : n < 14) (hstage : s.stage ≠ 5)
    (hen : s.bit (F.HRT_TB_ROUTE.EN n) = true) (hdom : s.domLost (routeDom n) = false) (hbad : tokenOk b = false) :
    exec (.tokenArrival n b edge) s = .next (s.bumpSat (F.HRT_TB_ROUTE.CRCERR n)) := by
  have htake := State.takeToken_of_bad edge hen hdom hbad
  have hstage' : (s.bumpSat (F.HRT_TB_ROUTE.CRCERR n)).stage ≠ 5 := by
    rw [State.stage, State.get_bumpSat_ne s 1 (by apply Fld.key_ne; omega)]; exact hstage
  rw [execTokenArrival_of_stage h1 hn (by rw [htake]; exact hstage'), htake]

/-- A good token gives its tick and bound; a replica that differs is reloaded, with FAULT. -/
theorem tokenArrival_taken {s : State} {n edge : Nat} {b : List Byte} (hs : StateShape s) (h1 : 1 ≤ n) (hn : n < 14) (hstage : s.stage ≠ 5)
    (hen : s.bit (F.HRT_TB_ROUTE.EN n) = true) (hdom : s.domLost (routeDom n) = false) (hok : tokenOk b = true)
    (hvalid : s.bit (F.HRT_TB_ROUTE.VALID n) = true) (hrun : (s.isle n).awaitLoad = false) :
    ∃ t, exec (.tokenArrival n b edge) s = .next t ∧
      (t.isle n).lastTick = leAt b 0 8 ∧ (t.isle n).errb = leAt b 8 4 ∧ (t.isle n).lost = false ∧
      (edge : Int) + (t.isle n).repOff = leAt b 0 8 ∧
      ((edge : Int) + (s.isle n).repOff ≠ leAt b 0 8 → t.bit (F.HRT_TB_ROUTE.FAULT n) = true) ∧
      ((edge : Int) + (s.isle n).repOff = leAt b 0 8 → RegsOutside [] s t) := by
  have htake := State.takeToken_of_good edge hen hdom hok hvalid
  by_cases hagree : (edge : Int) + (s.isle n).repOff = leAt b 0 8
  · rw [State.goodToken_of_agrees hrun hagree] at htake
    refine ⟨_, execTokenArrival_of_stage h1 hn (by rw [htake]; exact hstage), ?_⟩
    rw [htake, State.isle_updIsle_self hs hn]
    refine ⟨rfl, rfl, rfl, ?_, fun h => absurd hagree h, fun _ => RegsOutside.refl _ s⟩
    exact (congrArg ((edge : Int) + ·) (Route.takePair_repOff _ _ _ _ _)).trans hagree
  · rw [State.goodToken_of_differs hrun hagree] at htake
    have hstage' : (s.takeToken n edge b).stage ≠ 5 := by
      rw [htake, State.stage, State.flag_get_ne _ _ _ (by omega) (by apply Fld.blk_ne; omega) (by apply Fld.key_ne; omega)]
      exact hstage
    refine ⟨_, execTokenArrival_of_stage h1 hn hstage', ?_⟩
    rw [htake, State.isle_flag, State.isle_updIsle_self (State.updIsle_shape hs _ _) hn, State.isle_updIsle_self hs hn]
    refine ⟨rfl, rfl, rfl, ?_, fun _ => ?_, fun h => absurd h hagree⟩
    · show (edge : Int) + ((leAt b 0 8 : Int) - edge) = _
      omega
    · exact State.flag_get _ _ _ (by omega) rfl (by apply Fld.blk_ne; omega)

/-- A route without a good token for 1,250 ticks. -/
theorem tokenTimeout_lost {s : State} {n : Nat} (hs : StateShape s) (h1 : 1 ≤ n) (hn : n < 14) (hvalid : s.bit (F.HRT_TB_ROUTE.VALID n) = true)
    (hlate : (s.isle n).lastTick + 1250 ≤ s.raw) :
    ∃ t, exec (.tokenTimeout n) s = .next t ∧ (t.isle n).lost = true ∧ RegsOutside [] s t ∧ MemorySame s t := by
  refine ⟨s.updIsle n (fun r => { r with lost := true }), ?_, ?_, RegsOutside.refl _ s, MemorySame.refl s⟩
  · change onUnit _ _ = _
    rw [onUnit_route h1 hn, hvalid]
    simp [hlate]
  · rw [State.isle_updIsle_self hs hn]

/-! Calibration of the crossing. -/

theorem State.calLatency_eq_some {s : State} {n m sum sumSq l : Nat} (h : s.calLatency n m sum sumSq = some l) :
    (l : Int) = roundAway ((sum : Rat) / (2 * m)) + s.skew n ∧ l / 512 ≤ 32 := by
  unfold State.calLatency at h
  dsimp only at h
  split at h
  next hc =>
    obtain ⟨hpos, hle, -⟩ := hc
    cases h
    have heq := Int.toNat_of_nonneg hpos
    exact ⟨heq, by omega⟩
  next => cases h

/-- The calibration that runs and those that wait touch the queue and the CAL bits alone. -/
theorem State.endCal_eq {s : State} {n : Nat} (hq : s.tb.calQ.head? = some n) :
    ∃ r, s.endCal = { s with tb := { s.tb with calQ := s.tb.calQ.tail }, regs := r } := by
  unfold State.endCal
  cases hcal : s.tb.calQ with
  | nil => rw [hcal] at hq; cases hq
  | cons a rest =>
    cases hrest : rest with
    | nil => exact ⟨_, rfl⟩
    | cons b rest' => exact ⟨_, rfl⟩

theorem State.latency_setLatency (s : State) (n : Nat) {l : Nat} (h : l / 512 ≤ 32) : (s.setLatency n l).latency n = l := by
  have hlc : (s.setLatency n l).get (F.HRT_TB_ROUTE.LC n) = l % 512 := State.get_set_of_lt _ (show l % 512 < 2 ^ 9 by omega)
  have hlt : (s.setLatency n l).get (F.HRT_TB_ROUTE.LT n) = l / 512 :=
    (State.get_set_ne _ _ (by apply Fld.key_ne; omega)).trans (State.get_set_of_lt _ (show l / 512 < 2 ^ 6 by omega))
  rw [State.latency, hlc, hlt]
  omega

theorem State.latency_congr {s t : State} {n : Nat} (hlt : t.get (F.HRT_TB_ROUTE.LT n) = s.get (F.HRT_TB_ROUTE.LT n))
    (hlc : t.get (F.HRT_TB_ROUTE.LC n) = s.get (F.HRT_TB_ROUTE.LC n)) : t.latency n = s.latency n := by
  rw [State.latency, hlt, hlc, State.latency]

/-- A calibration that ended in its limits: the latency is applied, the replica waits for a token, and the queue moves on. -/
theorem State.calGood_applies {s : State} {n : Nat} (hs : StateShape s) (hn : n < 14) (hq : s.tb.calQ.head? = some n) (m sum : Nat) {l : Nat}
    (hl : l / 512 ≤ 32) :
    (s.calGood n m sum l).latency n = l ∧ ((s.calGood n m sum l).isle n).awaitLoad = true ∧ (s.calGood n m sum l).tb.calQ = s.tb.calQ.tail := by
  obtain ⟨r, hend⟩ := State.endCal_eq hq
  refine ⟨State.latency_setLatency _ n hl, ?_, ?_⟩
  · rw [State.calGood, State.isle_updIsle_self (s := s.endCal.setLatency n l) (by rw [hend]; exact { hs with }) hn]
  · show s.endCal.tb.calQ = _
    rw [hend]

/-- A start's calibration in its limits: besides what it applies, the start may go on to its next stage. -/
theorem State.startCal_applies {s : State} {n sum sumSq l : Nat} (m : Nat) (hs : StateShape s) (hn : n < 14) (hq : s.tb.calQ.head? = some n)
    (hlat : s.calLatency n m sum sumSq = some l) :
    (s.startCal n m sum sumSq).latency n = l ∧ ((s.startCal n m sum sumSq).isle n).awaitLoad = true := by
  obtain ⟨hgood, hawait, -⟩ := State.calGood_applies hs hn hq m sum (State.calLatency_eq_some hlat).2
  unfold State.startCal
  rw [hlat]
  dsimp only
  split
  · exact ⟨hgood, hawait⟩
  · split
    · unfold State.enterStage
      dsimp only
      split
      · refine ⟨(State.latency_congr ?_ ?_).trans hgood, (congrArg Route.awaitLoad (State.isle_occur _ _ _ _ _ n)).trans hawait⟩ <;>
          rw [State.get_occur _ _ _ _ (by omega) (by apply Fld.blk_ne; omega), State.get_set_ne _ _ (by apply Fld.key_ne; omega)]
      · refine ⟨(State.latency_congr ?_ ?_).trans hgood, hawait⟩ <;> exact State.get_set_ne _ _ (by apply Fld.key_ne; omega)
    · refine ⟨(State.latency_congr ?_ ?_).trans hgood, hawait⟩ <;> exact State.get_set_ne _ _ (by apply Fld.key_ne; omega)

/-- A start whose route fails its limits ends with code 0x20 and the route. -/
theorem State.startCal_fails {s : State} {n m sum sumSq : Nat} (hon : s.supply.on = true) (hstarter : s.boot.starter = false) (hn : n < 14)
    (hlat : s.calLatency n m sum sumSq = none) :
    (s.startCal n m sum sumSq).supply.on = false ∧ (s.startCal n m sum sumSq).nv.record.why.head? = some 0x20 ∧
      (s.startCal n m sum sumSq).nv.record.detail = n := by
  have hfail : s.startCal n m sum sumSq = (s.calBadRoute n).failStart 0x20 n := by
    unfold State.startCal
    rw [hlat, hstarter]
    rfl
  have hon' : (s.calBadRoute n).supply.on = true := by
    rw [(Keeps.calBadRoute (.refl s) : Keeps .all s (s.calBadRoute n)).supply rfl, hon]
  obtain ⟨hoff, hwhy, hdetail, -, -⟩ := State.failStart_record hon' 0x20 n
  rw [hfail]
  exact ⟨hoff, hwhy, hdetail.trans (Nat.mod_eq_of_lt (by omega))⟩

theorem routeCalibrationDone_of_start {s : State} {n : Nat} (h1 : 1 ≤ n) (hn : n < 14) (hstage : s.stage = 3) (hq : s.tb.calQ.head? = some n)
    (sum sumSq : Nat) : exec (.routeCalibrationDone n sum sumSq) s = .next (s.startCal n s.calMarkers sum sumSq) := by
  change onUnit _ _ = _
  rw [onUnit_route h1 hn, hq, hstage]
  simp

theorem wakeCalibrationDone_of_good {s : State} {n sum sumSq l : Nat} (h1 : 1 ≤ n) (hn : n < 14) (hstage : s.stage = 6 ∨ s.stage = 7)
    (hq : s.tb.calQ.head? = some n) (hlat : s.calLatency n 256 sum sumSq = some l) :
    exec (.wakeCalibrationDone n sum sumSq) s = .next (s.calGood n 256 sum l) := by
  have hcond : (s.tb.calQ.head? == some n && (s.stage == 6 || s.stage == 7)) = true := by
    rw [hq]
    rcases hstage with h | h <;> simp [h]
  change onUnit _ _ = _
  rw [onUnit_route h1 hn, hcond, State.when_true, hlat]

/-- An in-service round trip moves the route's filter 1/64 of the way. -/
theorem State.roundTrip_moves {s : State} {n : Nat} (rt : Nat) (hs : StateShape s) (hn : n < 14) (hen : s.bit (F.HRT_TB_ROUTE.EN n) = true)
    (hvalid : s.bit (F.HRT_TB_ROUTE.VALID n) = true) (hq : s.tb.calQ = []) (hdom : s.domLost (routeDom n) = false) :
    ((s.roundTrip n rt).isle n).filter = (s.isle n).filter + ((rt : Rat) - (s.isle n).filter) / 64 ∧
      RegsBut [F.HRT_TB_ROUTE.FAULT n] s (s.roundTrip n rt) := by
  simp only [State.roundTrip, hen, hvalid, hq, hdom, Bool.not_true, List.isEmpty_nil, Bool.or_self, Bool.false_eq_true, if_false]
  split
  · refine ⟨?_, .flag (.of_regs (.refl _ s) rfl) (by omega) (by simp)⟩
    rw [State.isle_flag, State.isle_updIsle_self hs hn]
  · exact ⟨by rw [State.isle_updIsle_self hs hn], .of_regs (.refl _ s) rfl⟩

/-! Pairs in force. -/

/-- An island's pending pair comes into force there, and no other island's. -/
theorem pairCommit_island {s : State} {n : Nat} {p : Pair} (hs : StateShape s) (h1 : 1 ≤ n) (hn : n < 14) (hpend : (s.isle n).pend = some p)
    (hdue : p.commit * 512 ≤ s.replica n) :
    ∃ t, exec (.pairCommit n) s = .next t ∧ (t.isle n).cur = some p ∧ (t.isle n).pend = none ∧
      (∀ m, m ≠ n → t.isle m = s.isle m) ∧ t.hrt = s.hrt ∧ RegsOutside [] s t := by
  refine ⟨s.updIsle n (fun r => { r with cur := some p, pend := none }), ?_, ?_, ?_, fun m hm => State.isle_updIsle_ne s _ hm, rfl, .refl _ s⟩
  · change onUnit _ _ = _
    rw [decide_eq_true hn, onUnit_true, if_neg (by omega), hpend]
    simp [hdue]
  · rw [State.isle_updIsle_self hs hn]
  · rw [State.isle_updIsle_self hs hn]

/-- The pair and the history that a state's time scale holds. -/
def PairsSame (s t : State) : Prop := t.hrt.cur = s.hrt.cur ∧ t.hrt.history = s.hrt.history

theorem Keeps.pairsSame {s t : State} {m u : Bool} (h : Keeps ⟨m, u, true⟩ s t) : PairsSame s t := h.pairs rfl

/-- The time scale in which a pending pair has come into force: it heads the history. -/
def HrtSt.withPair (h : HrtSt) (p : Pair) : HrtSt := { h with cur := p, pend := none, history := (p :: h.history).take 16 }

/-- What the Hearth does beside leaves the pair that comes into force there. -/
theorem State.commitHearth_keeps {s : State} {p : Pair} {host : Bool} (hpend : s.hrt.pend = some (p, host)) :
    Keeps .all { s with hrt := s.hrt.withPair p } s.commitHearth := by
  unfold State.commitHearth
  split
  next hnone => rw [hpend] at hnone; cases hnone
  next q qhost hsome =>
    cases hsome.symm.trans hpend
    extract_lets h _ a b c x y z second d e f
    have ha : Keeps .all { s with hrt := s.hrt.withPair p } a := .refl _
    have hb : Keeps .all { s with hrt := s.hrt.withPair p } b := .ite (.set ha) ha
    have hc : Keeps .all { s with hrt := s.hrt.withPair p } c := .ite hb (.updSrv hb)
    have hz : Keeps .all { s with hrt := s.hrt.withPair p } z := .ite (.hrtFlag (.setI (.set (.set hc)))) (.set (.hrtFlag (.setI (.set (.set hc)))))
    have hd : Keeps .all { s with hrt := s.hrt.withPair p } d := .ite hc (.ite (.foldl (.markSecond hz) fun _ _ h => .timerFire h) (.markSecond hz))
    have he : Keeps .all { s with hrt := s.hrt.withPair p } e := .ite (.enterManual hd) hd
    have hf : Keeps .all { s with hrt := s.hrt.withPair p } f := .ite (.leaveManual he) he
    exact .ite (.enterStopped hf) hf

theorem State.commitHearth_pairs {s : State} {p : Pair} {host : Bool} (hpend : s.hrt.pend = some (p, host)) :
    s.commitHearth.hrt.cur = p ∧ s.commitHearth.hrt.history = (p :: s.hrt.history).take 16 := (State.commitHearth_keeps hpend).pairs rfl

/-- What follows the pair that comes into force leaves it there. -/
theorem State.commitHere_pairs {s : State} {p : Pair} {host : Bool} (hpend : s.hrt.pend = some (p, host)) :
    (s.commitHere p).hrt.cur = p ∧ (s.commitHere p).hrt.history = (p :: s.hrt.history).take 16 := by
  obtain ⟨hcur, hhist⟩ := State.commitHearth_pairs hpend
  have hkeep : PairsSame s.commitHearth (s.commitHere p) := by
    unfold State.commitHere
    extract_lets a b c
    have hb : Keeps .all a b := .showLimit (.ite (.refl a) (.stepRelock (.refl a)))
    have hc : Keeps .all a c := .ite (.leaveStopped hb) hb
    exact (Keeps.ite (.noteRetry (.proposeSrv hc)) hc : Keeps .all a _).pairsSame
  exact ⟨hkeep.1.trans hcur, hkeep.2.trans hhist⟩

theorem pairCommit_hearth {s : State} {p : Pair} {host : Bool} (hpend : s.hrt.pend = some (p, host)) (hdue : p.commit ≤ s.raw) :
    ∃ t, exec (.pairCommit 0) s = .next t ∧ t.hrt.cur = p ∧ t.hrt.history = (p :: s.hrt.history).take 16 := by
  refine ⟨s.commitHere p, ?_, State.commitHere_pairs hpend⟩
  change execPairCommit 0 s = _
  rw [execPairCommit, decide_eq_true (by omega), onUnit_true, if_pos rfl, hpend]
  simp [hdue]

/-- Settles O9, clause by clause. -/
theorem timeBusIslands : Obligations.TimeBusIslands := by
  refine ⟨⟨fun s n edge b h1 hn hstage hen hdom hbad => ?_, fun s n edge b hs h1 hn hstage hen hdom hok hvalid hrun => ?_,
    fun s n hs h1 hn hvalid hlate => ?_⟩, ⟨fun s n sum sumSq l hs h1 hn hstage hq hlat => ?_, fun s n sum sumSq h1 hn hon hstage hstarter hq hlat => ?_,
    fun s n sum sumSq l hs h1 hn hstage hq hlat => ?_, fun s n rt hs h1 hn hen hvalid hq hdom => ?_⟩,
    fun s n p hs h1 hn hpend hdue => ?_, fun s p host hpend hdue => ?_⟩
  · exact ⟨_, tokenArrival_discarded h1 hn hstage hen hdom hbad, rfl, State.get_bumpSat_self _ _ _, (RegsBut.refl _ s).set (by simp), rfl⟩
  · exact tokenArrival_taken hs h1 hn hstage hen hdom hok hvalid hrun
  · exact tokenTimeout_lost hs h1 hn hvalid hlate
  · obtain ⟨hlatency, hawait⟩ := State.startCal_applies _ hs hn hq hlat
    exact ⟨_, routeCalibrationDone_of_start h1 hn hstage hq sum sumSq, hlatency, (State.calLatency_eq_some hlat).1, hawait⟩
  · exact ⟨_, routeCalibrationDone_of_start h1 hn hstage hq sum sumSq, State.startCal_fails hon hstarter hn hlat⟩
  · exact ⟨_, wakeCalibrationDone_of_good h1 hn hstage hq hlat, State.calGood_applies hs hn hq 256 sum (State.calLatency_eq_some hlat).2⟩
  · obtain ⟨hfilter, hregs⟩ := State.roundTrip_moves rt hs hn hen hvalid hq hdom
    exact ⟨_, onUnit_route h1 hn _, hfilter, hregs, (Keeps.roundTrip (.refl s) : Keeps .all s _).memorySame⟩
  · exact pairCommit_island hs h1 hn hpend hdue
  · exact pairCommit_hearth hpend hdue

end Sys2Proof.Machine

/-! PROOF. The identity block (block 0: straps, serial number, supply) through a start: no state function of the way to starter mode writes a
field below 0x100000. -/

namespace Sys2Proof.Machine

theorem Fld.le_key {c o l w r k : Nat} (h : k ≤ (c * 0x4000000 + o) * 32 + l) : k ≤ Fld.key ⟨c, o, l, w, r⟩ := h

/-- Every field below 0x100000 reads as before. -/
def GlbSame (s₀ s : State) : Prop := ∀ f : Fld, f.key < 0x2000000 → s.get f = s₀.get f

section
variable {s₀ s t : State}

theorem GlbSame.refl (s : State) : GlbSame s s := fun _ _ => rfl

/-- A change of parts other than the register store. -/
theorem GlbSame.parts {supply nv flash sram boot rcp tb hrt ref sel bound tdc osc syn outp pwr evt sys pmu pnl pke port nts ptp kvt pair
  snaps free out}
    (h : GlbSame s₀ s) : GlbSame s₀
      { s with
        supply := supply, nv := nv, flash := flash, sram := sram, boot := boot, rcp := rcp, tb := tb, hrt := hrt, ref := ref, sel := sel
        bound := bound, tdc := tdc, osc := osc, syn := syn, outp := outp, pwr := pwr, evt := evt, sys := sys, pmu := pmu, pnl := pnl, pke := pke
        port := port, nts := nts, ptp := ptp, kvt := kvt, pair := pair, snaps := snaps, out := out, free := free } :=
  h

theorem GlbSame.ite {c : Prop} [Decidable c] (ht : GlbSame s₀ s) (he : GlbSame s₀ t) : GlbSame s₀ (if c then s else t) := by
  split <;> assumption

theorem GlbSame.foldl {α : Type} {f : State → α → State} {l : List α} (h : GlbSame s₀ s) (hf : ∀ t a, GlbSame s₀ t → GlbSame s₀ (f t a)) :
    GlbSame s₀ (l.foldl f s) := List.foldlRecOn l f h fun t ht a _ => hf t a ht

/-- A write of a field from 0x100000 on. -/
theorem GlbSame.set {f v} (h : GlbSame s₀ s) (hf : 0x2000000 ≤ f.key) : GlbSame s₀ (State.set s f v) :=
  fun g hg => (State.get_set_ne s v (by omega)).trans (h g hg)

theorem GlbSame.setBit {f b} (h : GlbSame s₀ s)
    (hf : 0x2000000 ≤ f.key) : GlbSame s₀ (s.setBit f b) := .set h hf

theorem GlbSame.setI {f v} (h : GlbSame s₀ s)
    (hf : 0x2000000 ≤ f.key) : GlbSame s₀ (s.setI f v) := .set h hf

theorem GlbSame.sets {l : List (Fld × Nat)} (h : GlbSame s₀ s)
    (hl : l.Forall (fun q => 0x2000000 ≤ q.1.key)) : GlbSame s₀ (s.sets l) :=
  fun g hg => (State.get_sets_ne s l fun q hq => by have := List.forall_iff_forall_mem.mp hl q hq; omega).trans (h g hg)

theorem GlbSame.bump {f n} (h : GlbSame s₀ s)
    (hf : 0x2000000 ≤ f.key) : GlbSame s₀ (s.bump f n) := .set h hf

theorem GlbSame.bumpSat {f n} (h : GlbSame s₀ s)
    (hf : 0x2000000 ≤ f.key) : GlbSame s₀ (s.bumpSat f n) := .set h hf

theorem GlbSame.setISat {f v} (h : GlbSame s₀ s)
    (hf : 0x2000000 ≤ f.key) : GlbSame s₀ (s.setISat f v) := .setI h hf

theorem GlbSame.setSat {f v} (h : GlbSame s₀ s)
    (hf : 0x2000000 ≤ f.key) : GlbSame s₀ (s.setSat f v) := .set h hf

theorem GlbSame.emit {e} (h : GlbSame s₀ s) : GlbSame s₀ (s.emit e) := .ite (.parts h) h

theorem GlbSame.msix {vec} (h : GlbSame s₀ s) : GlbSame s₀ (s.msix vec) := .ite h (.ite (.parts h) (.emit h))

theorem GlbSame.message {side ev} (h : GlbSame s₀ s) : GlbSame s₀ (s.message side ev) := .ite (.msix h) (.emit h)

theorem GlbSame.pendAndTell {side ev} (h : GlbSame s₀ s) : GlbSame s₀ (s.pendAndTell side ev) :=
  .ite (.message (.set h (Fld.le_key (by omega)))) (.set h (Fld.le_key (by omega)))

theorem GlbSame.dropRecord {side} (h : GlbSame s₀ s) : GlbSame s₀ (s.dropRecord side) :=
  .pendAndTell (.bump (.bumpSat h (Fld.le_key (by omega))) (Fld.le_key (by omega)))

theorem GlbSame.pushRecord {side r} (h : GlbSame s₀ s) : GlbSame s₀ (s.pushRecord side r) :=
  .ite (.dropRecord h) (.ite (.parts (.set h (Fld.le_key (by omega)))) (.parts (.set h (Fld.le_key (by omega)))))

theorem GlbSame.tellSide {side r} (h : GlbSame s₀ s) : GlbSame s₀ (s.tellSide side r) := .pendAndTell (.ite (.pushRecord h) h)

theorem GlbSame.occurAt {ev bit inst detail crumbs} (h : GlbSame s₀ s) : GlbSame s₀ (s.occurAt ev bit inst detail crumbs) :=
  .tellSide (.tellSide (.bump h (Fld.le_key (by omega))))

theorem GlbSame.occur {ev bit inst detail} (h : GlbSame s₀ s) : GlbSame s₀ (s.occur ev bit inst detail) := .occurAt h

theorem GlbSame.flag {f ev inst detail} (h : GlbSame s₀ s)
    (hf : 0x2000000 ≤ f.key) : GlbSame s₀ (s.flag f ev inst detail) := .ite h (.occur (.set h hf))

theorem GlbSame.updRecord {f} (h : GlbSame s₀ s) : GlbSame s₀ (s.updRecord f) := .ite (.parts h) h

theorem GlbSame.updDom {d f} (h : GlbSame s₀ s) : GlbSame s₀ (s.updDom d f) := .parts h

theorem GlbSame.updPair {f} (h : GlbSame s₀ s) : GlbSame s₀ (s.updPair f) := .parts h

theorem GlbSame.onLane {b} (h : GlbSame s₀ s) : GlbSame s₀ (s.onLane b) := by
  unfold State.onLane
  exact (.updPair (.emit h))

theorem GlbSame.sendRecord {type payload} (h : GlbSame s₀ s) : GlbSame s₀ (s.sendRecord type payload) :=
  .ite h (.bump (.updPair (.onLane h)) (Fld.le_key (by omega)))

theorem GlbSame.journalChanges (h : GlbSame s₀ s) : GlbSame s₀ s.journalChanges :=
  .ite h (.ite (.ite (.ite h (.updPair (.sendRecord h))) (.updPair (.sendRecord (.ite h (.updPair (.sendRecord h)))))) (.updPair
    (.sendRecord (.ite (.ite h (.updPair (.sendRecord h))) (.updPair (.sendRecord (.ite h (.updPair (.sendRecord h)))))))))

theorem le_key_ageU (n : Nat) : 0x2000000 ≤ (F.OSC_AGE_U.U n).key := by
  unfold F.OSC_AGE_U.U
  split <;> (apply Fld.le_key; omega)

theorem GlbSame.showAgeing {n} (h : GlbSame s₀ s) : GlbSame s₀ (s.showAgeing n) :=
  .sets (.setSat (.setISat h (Fld.le_key (by omega))) (le_key_ageU _)) (by (repeat' apply And.intro) <;> exact Fld.le_key (by omega))

theorem GlbSame.updRef {c f} (h : GlbSame s₀ s) : GlbSame s₀ (s.updRef c f) := .parts h

theorem GlbSame.updTdc {n f} (h : GlbSame s₀ s) : GlbSame s₀ (s.updTdc n f) := .parts h

theorem GlbSame.updSrv {n f} (h : GlbSame s₀ s) : GlbSame s₀ (s.updSrv n f) := .parts h

theorem GlbSame.refFlag {f c} (h : GlbSame s₀ s)
    (hf : 0x2000000 ≤ f.key) : GlbSame s₀ (s.refFlag f c) := .flag h hf

theorem GlbSame.selFlag {f inst detail} (h : GlbSame s₀ s)
    (hf : 0x2000000 ≤ f.key) : GlbSame s₀ (s.selFlag f inst detail) := .flag h hf

theorem GlbSame.hrtFlag {f detail} (h : GlbSame s₀ s)
    (hf : 0x2000000 ≤ f.key) : GlbSame s₀ (s.hrtFlag f detail) := .flag h hf

theorem GlbSame.cancelLeap (h : GlbSame s₀ s) : GlbSame s₀ s.cancelLeap :=
  .ite (.hrtFlag (.sets h (by (repeat' apply And.intro) <;> exact Fld.le_key (by omega))) (Fld.le_key (by omega))) h

theorem GlbSame.reviewLead {silent} (h : GlbSame s₀ s) : GlbSame s₀ (s.reviewLead silent) :=
  .ite h (.ite (.set h (Fld.le_key (by omega))) (by split; exacts [(.ite (.set h (Fld.le_key (by omega))) (.cancelLeap (.set h (Fld.le_key
    (by omega))))), (.cancelLeap (.set h (Fld.le_key (by omega))))]))

theorem GlbSame.acalFail {n why} (h : GlbSame s₀ s) : GlbSame s₀ (s.acalFail n why) :=
  .flag (.set (.set (.parts h) (Fld.le_key (by omega))) (Fld.le_key (by omega))) (Fld.le_key (by omega))

theorem GlbSame.reviewAcal (h : GlbSame s₀ s) : GlbSame s₀ s.reviewAcal := .foldl h fun _ _ h => (by split; exacts [h, (.ite h (.acalFail h))])

theorem GlbSame.freezeYat (h : GlbSame s₀ s) : GlbSame s₀ s.freezeYat := .ite (.parts h) h

theorem GlbSame.setSrvState {n} (h : GlbSame s₀ s) : GlbSame s₀ (s.setSrvState n) :=
  .ite h (.reviewAcal (.hrtFlag (.set (.parts (.freezeYat h)) (Fld.le_key (by omega))) (Fld.le_key (by omega))))

theorem GlbSame.openCarry {errb freq sy0 hset} (h : GlbSame s₀ s) : GlbSame s₀ (s.openCarry errb freq sy0 hset) :=
  .setBit (.parts h) (Fld.le_key (by omega))

theorem GlbSame.startSegment {first errb} (h : GlbSame s₀ s) : GlbSame s₀ (s.startSegment first errb) := .parts (.openCarry h)

theorem GlbSame.enterHoldover {errb} (h : GlbSame s₀ s) : GlbSame s₀ (s.enterHoldover errb) :=
  .selFlag (.startSegment (.setSrvState (.parts h))) (Fld.le_key (by omega))

theorem GlbSame.setHset {n} (h : GlbSame s₀ s) : GlbSame s₀ (s.setHset n) :=
  .ite h (.ite (.parts (.setBit (.parts (.set h (Fld.le_key (by omega)))) (Fld.le_key (by omega)))) (.set h (Fld.le_key (by omega))))

theorem GlbSame.refreshHset (h : GlbSame s₀ s) : GlbSame s₀ s.refreshHset := .setHset (.setBit h (Fld.le_key (by omega)))

theorem GlbSame.freshChannel {c} (h : GlbSame s₀ s) : GlbSame s₀ (s.freshChannel c) := by
  unfold State.freshChannel
  split; exacts [(.updRef h), (.set (.updTdc (.updRef h)) (Fld.le_key (by omega)))]

theorem GlbSame.enterQualifying {c} (h : GlbSame s₀ s) : GlbSame s₀ (s.enterQualifying c) :=
  .updRef (.set (.freshChannel h) (Fld.le_key (by omega)))

theorem GlbSame.tryQualify {c} (h : GlbSame s₀ s) : GlbSame s₀ (s.tryQualify c) := .ite (.enterQualifying h) h

theorem GlbSame.timeBaseLoss (h : GlbSame s₀ s) : GlbSame s₀ s.timeBaseLoss :=
  .flag (.set (.parts h) (Fld.le_key (by omega))) (Fld.le_key (by omega))

theorem GlbSame.reviewJudged {inst} (h : GlbSame s₀ s) : GlbSame s₀ (s.reviewJudged inst) := .parts h

theorem GlbSame.settle {inst} (h : GlbSame s₀ s) : GlbSame s₀ (s.settle inst) :=
  .foldl (.reviewJudged h) fun _ _ h => .ite (by split; exacts [(.ite (.selFlag (.parts h) (Fld.le_key (by omega))) (.parts h)), h]) h

theorem GlbSame.reviewDisagree (h : GlbSame s₀ s) : GlbSame s₀ s.reviewDisagree :=
  .ite (.ite (.set h (Fld.le_key (by omega))) h) (.ite (.parts (by split; exacts [h, (.set h (Fld.le_key (by omega)))])) (.selFlag (.set
    (.parts (by split; exacts [h, (.set h (Fld.le_key (by omega)))])) (Fld.le_key (by omega))) (Fld.le_key (by omega))))

theorem GlbSame.showCandidates (h : GlbSame s₀ s) : GlbSame s₀ s.showCandidates :=
  .foldl h fun _ _ h => .setBit (.setBit h (Fld.le_key (by omega))) (Fld.le_key (by omega))

theorem GlbSame.showSel {n} (h : GlbSame s₀ s) : GlbSame s₀ (s.showSel n) := by
  unfold State.showSel
  split; exacts [(.set (.set h (Fld.le_key (by omega))) (Fld.le_key (by omega))), (.set (.set h (Fld.le_key (by omega))) (Fld.le_key
    (by omega)))]

theorem GlbSame.carryFor {c errb} (h : GlbSame s₀ s) : GlbSame s₀ (s.carryFor c errb) := .ite (.openCarry h) (.openCarry h)

theorem GlbSame.changeSel {old new} (h : GlbSame s₀ s) : GlbSame s₀ (s.changeSel old new) := by
  unfold State.changeSel
  extract_lets _ _ _ t
  have ht : GlbSame s₀ t := .showSel (.parts h)
  split
  · exact ht
  · split
    · split
      · exact .enterHoldover ht
      · exact .ite (.setSrvState (.parts (.ite ht (.selFlag ht (Fld.le_key (by omega)))))) (.ite ht (.selFlag ht (Fld.le_key (by omega))))
    · extract_lets u
      have hu : GlbSame s₀ u := .carryFor ht
      exact .ite (.selFlag (.parts (.updSrv (.setSrvState hu))) (Fld.le_key (by omega))) (.ite (.selFlag (.parts (.updSrv
        (.setSrvState hu))) (Fld.le_key (by omega)))
        (.selFlag hu (Fld.le_key (by omega))))

theorem GlbSame.evalSelection (h : GlbSame s₀ s) : GlbSame s₀ s.evalSelection :=
  .journalChanges (.reviewAcal (.ite (.parts (.settle (.setBit (.showCandidates (.reviewDisagree (.ite (.setBit (.settle (.setBit h
    (Fld.le_key (by omega)))) (Fld.le_key (by omega)))
    (.changeSel (.setBit (.settle (.setBit h (Fld.le_key (by omega)))) (Fld.le_key (by omega))))))) (Fld.le_key (by omega))))) (.setBit
      (.showCandidates (.reviewDisagree (.ite (.setBit (.settle (.setBit h (Fld.le_key (by omega)))) (Fld.le_key (by omega)))
    (.changeSel (.setBit (.settle (.setBit h (Fld.le_key (by omega)))) (Fld.le_key (by omega))))))) (Fld.le_key (by omega)))))

theorem GlbSame.disqualify {c why} (h : GlbSame s₀ s) : GlbSame s₀ (s.disqualify c why) :=
  .ite (.ite (.set h (Fld.le_key (by omega))) h) (.evalSelection (.reviewLead (.ite (.timeBaseLoss (by split; exacts [(.updRef (.sets h (by
    (repeat' apply And.intro) <;> exact Fld.le_key (by omega)))), (.set (.updTdc (.updRef
    (.sets h (by (repeat' apply And.intro) <;> exact Fld.le_key (by omega))))) (Fld.le_key (by omega)))])) (by split; exacts [(.updRef
      (.sets h (by (repeat' apply And.intro) <;> exact Fld.le_key (by omega)))), (.set (.updTdc (.updRef (.sets h (by
      (repeat' apply And.intro) <;> exact Fld.le_key (by omega))))) (Fld.le_key (by omega)))]))))

theorem GlbSame.gainPresence {c} (h : GlbSame s₀ s) : GlbSame s₀ (s.gainPresence c) := .ite h (.updRef (.set h (Fld.le_key (by omega))))

theorem GlbSame.leaveOff {c} (h : GlbSame s₀ s) : GlbSame s₀ (s.leaveOff c) := .ite (.tryQualify (.updRef (.set h (Fld.le_key (by omega))))) h

theorem GlbSame.reviewOff {c} (h : GlbSame s₀ s) : GlbSame s₀ (s.reviewOff c) := .ite (.disqualify h) (.leaveOff h)

theorem GlbSame.updSlot {n f} (h : GlbSame s₀ s) : GlbSame s₀ (s.updSlot n f) := .parts h

theorem GlbSame.kvtFlag {f inst} (h : GlbSame s₀ s)
    (hf : 0x2000000 ≤ f.key) : GlbSame s₀ (s.kvtFlag f inst) := .flag h hf

theorem GlbSame.rootSlots (h : GlbSame s₀ s) : GlbSame s₀ s.rootSlots := .updSlot (.updSlot h)

theorem GlbSame.vaultPowerOn (h : GlbSame s₀ s) : GlbSame s₀ s.vaultPowerOn :=
  .ite (.kvtFlag (.rootSlots (.setBit (.set (.parts h) (Fld.le_key (by omega))) (Fld.le_key (by omega)))) (Fld.le_key (by omega)))
    (.rootSlots (.setBit (.set (.parts h) (Fld.le_key (by omega))) (Fld.le_key (by omega))))

theorem GlbSame.showTxdis {n} (h : GlbSame s₀ s) : GlbSame s₀ (s.showTxdis n) := .set h (Fld.le_key (by omega))

theorem GlbSame.evalClass {c} (h : GlbSame s₀ s) : GlbSame s₀ (s.evalClass c) :=
  .ite (.ite h (.setSat h (Fld.le_key (by omega)))) (.ite (.disqualify (.refFlag (.set (.ite h (.setSat h (Fld.le_key (by omega))))
    (Fld.le_key (by omega))) (Fld.le_key (by omega)))) (.tryQualify (.refFlag (.set (.ite h (.setSat h (Fld.le_key (by omega))))
    (Fld.le_key (by omega))) (Fld.le_key (by omega)))))

theorem GlbSame.queueCal {l} (h : GlbSame s₀ s) : GlbSame s₀ (s.queueCal l) := by
  unfold State.queueCal
  dsimp only
  split
  · exact .set (.parts h) (Fld.le_key (by omega))
  · exact .parts h

theorem GlbSame.loadRef {c fresh} (h : GlbSame s₀ s) : GlbSame s₀ (s.loadRef c fresh) :=
  .ite (.reviewOff (.evalClass (.sets h (by (repeat' apply And.intro) <;> exact Fld.le_key (by omega))))) (.reviewOff (.ite (.gainPresence
    (.evalClass (.set (.updRef (.sets (.sets h (by (repeat' apply And.intro) <;> exact Fld.le_key (by omega))) (by
    (repeat' apply And.intro) <;> exact Fld.le_key (by omega)))) (Fld.le_key (by omega))))) (.evalClass
    (.set (.updRef (.sets (.sets h (by (repeat' apply And.intro) <;> exact Fld.le_key (by omega))) (by
      (repeat' apply And.intro) <;> exact Fld.le_key (by omega)))) (Fld.le_key (by omega))))))

theorem GlbSame.loadTdc {n fresh} (h : GlbSame s₀ s) : GlbSame s₀ (s.loadTdc n fresh) :=
  .ite (.updTdc (.sets h (by (repeat' apply And.intro) <;> exact Fld.le_key (by omega)))) (.sets h (by
    (repeat' apply And.intro) <;> exact Fld.le_key (by omega)))

theorem GlbSame.loadGains (h : GlbSame s₀ s) : GlbSame s₀ s.loadGains :=
  .foldl h fun _ _ h => .sets h (by (repeat' apply And.intro) <;> exact Fld.le_key (by omega))

theorem GlbSame.showDom {d st} (h : GlbSame s₀ s) : GlbSame s₀ (s.showDom d st) :=
  .ite (.set (.set (.set h (Fld.le_key (by omega))) (Fld.le_key (by omega))) (Fld.le_key (by omega))) (.ite (.showTxdis (.set (.set h
    (Fld.le_key (by omega))) (Fld.le_key (by omega)))) (.set (.set h (Fld.le_key (by omega))) (Fld.le_key (by omega))))

theorem GlbSame.startDom {d st} (h : GlbSame s₀ s) : GlbSame s₀ (s.startDom d st) :=
  .showDom (.updDom (.sets (.ite (.updDom (.bump h (Fld.le_key (by omega)))) (.ite (.updDom h) h)) (by
    (repeat' apply And.intro) <;> exact Fld.le_key (by omega))))

theorem GlbSame.enterStarter {code detail} (h : GlbSame s₀ s) : GlbSame s₀ (s.enterStarter code detail) :=
  .queueCal (.sets (.foldl (.refreshHset (.showAgeing (.showAgeing (.loadGains (.loadTdc (.loadTdc (.loadRef (.parts (.updRecord
    (.sets h (by (repeat' apply And.intro) <;> exact Fld.le_key (by omega)))))))))))) fun _ _ h => .startDom h) (by
      (repeat' apply And.intro) <;> exact Fld.le_key (by omega)))

theorem GlbSame.loadStore (h : GlbSame s₀ s) : GlbSame s₀ s.loadStore := by
  unfold State.loadStore
  split; exacts [(.flag h (Fld.le_key (by omega))), (.foldl (.parts h) fun _ _ h => .sets (.setSat (.setISat h (Fld.le_key (by omega)))
    (le_key_ageU _)) (by (repeat' apply And.intro) <;> exact Fld.le_key (by omega)))]

theorem GlbSame.firstPair (h : GlbSame s₀ s) : GlbSame s₀ s.firstPair := .set (.parts h) (Fld.le_key (by omega))

end

end Sys2Proof.Machine

/-! PROOF. The supply: what a warning and the millisecond update show (R69, R88), what the ends of a run leave (R71 to R73), and what a module
without power comes up with (R70, R139). -/

namespace Sys2Proof.Machine

/-- A command whose condition holds. -/
theorem next_when {s : State} {c : Bool} (h : c = true) (f : State → State) : (Host.Outcome.next (s.when c f) : Result) = .next (f s) := by
  rw [h]; rfl

/-! Warnings. -/

theorem State.bit_flag_ne (s : State) {f g : Fld} {ev : Nat} (inst detail : Nat) (he : ev < 128) (hg : g.blk ≠ 0x11) (hk : g.key ≠ f.key) :
    (s.flag f ev inst detail).bit g = s.bit g := State.bit_eq_of_get (State.flag_get_ne s inst detail he hg hk)

/-- A warning where its condition holds. -/
def State.warnIf (s : State) (c : Bool) (f : Fld) : State := if c then s.supplyFlag f else s

theorem State.get_warnIf_ne (s : State) (c : Bool) {f g : Fld} (hg : g.blk ≠ 0x11) (hk : g.key ≠ f.key) : (s.warnIf c f).get g = s.get g := by
  unfold State.warnIf
  split
  · exact State.flag_get_ne s _ _ (by omega) hg hk
  · rfl

theorem State.bit_warnIf (s : State) {c : Bool} {f : Fld} (hc : c = true) (hw : f.w = 1) (hb : f.blk ≠ 0x11) : (s.warnIf c f).bit f = true := by
  rw [State.warnIf, if_pos hc]
  exact State.flag_get s _ _ (by omega) hw hb

theorem State.warnIf_parts (s : State) (c : Bool) (f : Fld) : EventsOnly s (s.warnIf c f) := by
  unfold State.warnIf
  split
  · exact State.flag_parts _ _ _ _ _
  · rfl

theorem RegsBut.warnIf {fs : List Fld} {s t : State} {c : Bool} {f : Fld} (h : RegsBut fs s t) (hf : f ∈ fs) : RegsBut fs s (t.warnIf c f) :=
  .ite (.flag h (by omega) hf) h

/-- A warning sets its bit and no other register but those of the event block. -/
theorem State.supplyFlag_warns (s : State) {f : Fld} (hw : f.w = 1) (hb : f.blk ≠ 0x11) :
    (s.supplyFlag f).bit f = true ∧ RegsBut [f] s (s.supplyFlag f) ∧ MemorySame s (s.supplyFlag f) :=
  ⟨State.flag_get s _ _ (by omega) hw hb, .flag (.refl _ s) (by omega) List.mem_cons_self, (State.flag_parts s _ _ _ _).memorySame⟩

/-! The millisecond update. -/

theorem ofSigned_lt (w : Nat) (v : Int) : ofSigned w v < 2 ^ w := by
  have h := Int.emod_lt_of_pos v (show (0 : Int) < 2 ^ w by positivity)
  have h0 := Int.emod_nonneg v (show (2 : Int) ^ w ≠ 0 by positivity)
  unfold ofSigned
  zify
  omega

/-- A signed value in range reads back from its bits. -/
theorem toSigned_ofSigned {w : Nat} {v : Int} (hw : 0 < w) (hlo : -(2 ^ (w - 1) : Int) ≤ v) (hhi : v < 2 ^ (w - 1)) :
    toSigned w (ofSigned w v) = v := by
  obtain ⟨k, rfl⟩ : ∃ k, w = k + 1 := ⟨w - 1, by omega⟩
  have hpow : (2 : Int) ^ (k + 1) = 2 * 2 ^ k := by ring
  have hlt := ofSigned_lt (k + 1) v
  have hpos : (0 : Int) < 2 ^ k := by positivity
  have hcast : ((ofSigned (k + 1) v : Nat) : Int) = v % (2 * 2 ^ k) := by
    rw [ofSigned, hpow]
    exact Int.toNat_of_nonneg (Int.emod_nonneg v (by omega))
  simp only [Nat.add_sub_cancel] at hlo hhi
  unfold toSigned
  rw [Nat.mod_eq_of_lt hlt, Nat.add_sub_cancel, hpow]
  dsimp only
  by_cases hv : 0 ≤ v
  · rw [Int.emod_eq_of_lt hv (by omega)] at hcast
    rw [if_pos (by zify; omega), hcast]
  · have hmod : v % (2 * 2 ^ k) = v + 2 * 2 ^ k := by
      rw [← Int.add_emod_right]
      exact Int.emod_eq_of_lt (by omega) (by omega)
    rw [hmod] at hcast
    rw [if_neg (by zify; omega), hcast]
    omega

theorem State.getI_setI (s : State) {f : Fld} {v : Int} (hw : 0 < f.w) (hlo : -(2 ^ (f.w - 1) : Int) ≤ v) (hhi : v < 2 ^ (f.w - 1)) :
    (s.setI f v).getI f = v := by
  rw [State.getI, State.setI, State.get_set_of_lt s (ofSigned_lt _ _), toSigned_ofSigned hw hlo hhi]

/-- The state in which the millisecond update shows VIN and the hottest sensor. -/
def State.supplyShown (s : State) (vin : Nat) (hottest : Int) : State :=
  let good := s.supply.pgood || decide (2500000 ≤ s.raw)
  (({ s with supply := { s.supply with pgood := good } } : State).set F.GLB_SUPPLY.VIN (if good then min 2047 vin else 0)).setI F.GLB_SUPPLY.TMAX
    (max (-128) (min 127 hottest))

/-- The state after the millisecond update. -/
def State.supplyUpdated (s : State) (vin : Nat) (hottest : Int) : State :=
  (((s.supplyShown vin hottest).warnIf (decide (vin < 1120)) F.GLB_SUPPLY.UVW).warnIf (decide (1300 < vin)) F.GLB_SUPPLY.OVW).warnIf
    (decide (100 ≤ hottest)) F.GLB_SUPPLY.HOTW

theorem exec_supplyUpdate {s : State} (hon : s.supply.on = true) (vin : Nat) (hottest : Int) :
    exec (.supplyUpdate vin hottest) s = .next (s.supplyUpdated vin hottest) := by
  change execSupplyUpdate vin hottest s = _
  rw [execSupplyUpdate, hon, State.when_true]
  rfl

/-- No warning writes VIN or TMAX. -/
theorem State.get_supplyUpdated (s : State) (vin : Nat) (hottest : Int) {g : Fld} (hb : g.blk ≠ 0x11) (hu : g.key ≠ F.GLB_SUPPLY.UVW.key)
    (ho : g.key ≠ F.GLB_SUPPLY.OVW.key) (hh : g.key ≠ F.GLB_SUPPLY.HOTW.key) :
    (s.supplyUpdated vin hottest).get g = (s.supplyShown vin hottest).get g := by
  rw [State.supplyUpdated, State.get_warnIf_ne _ _ hb hh, State.get_warnIf_ne _ _ hb ho, State.get_warnIf_ne _ _ hb hu]

theorem State.supplyUpdated_shows (s : State) (vin : Nat) (hottest : Int) :
    (s.supplyUpdated vin hottest).get F.GLB_SUPPLY.VIN = (if s.supply.pgood = true ∨ 2500000 ≤ s.raw then min 2047 vin else 0) ∧
      (s.supplyUpdated vin hottest).getI F.GLB_SUPPLY.TMAX = max (-128) (min 127 hottest) := by
  constructor
  · rw [State.get_supplyUpdated s vin hottest (by decide) (by decide) (by decide) (by decide), State.supplyShown, State.setI,
      State.get_set_ne _ _ (by decide), State.get_set_of_lt]
    · simp
    · show _ < 2 ^ 11
      split <;> omega
  · rw [State.getI, State.get_supplyUpdated s vin hottest (by decide) (by decide) (by decide) (by decide)]
    exact State.getI_setI _ (show 0 < 8 by omega) (show -(2 ^ 7 : Int) ≤ _ by omega) (show _ < (2 ^ 7 : Int) by omega)

/-- A condition that still holds sets its bit again. -/
theorem State.supplyUpdated_warns (s : State) (vin : Nat) (hottest : Int) :
    (vin < 1120 → (s.supplyUpdated vin hottest).bit F.GLB_SUPPLY.UVW = true) ∧
      (1300 < vin → (s.supplyUpdated vin hottest).bit F.GLB_SUPPLY.OVW = true) ∧
      (100 ≤ hottest → (s.supplyUpdated vin hottest).bit F.GLB_SUPPLY.HOTW = true) := by
  refine ⟨fun h => ?_, fun h => ?_, fun h => State.bit_warnIf _ (decide_eq_true h) rfl (by decide)⟩
  · rw [State.supplyUpdated, State.bit, State.get_warnIf_ne _ _ (by decide) (by decide), State.get_warnIf_ne _ _ (by decide) (by decide)]
    exact State.bit_warnIf _ (decide_eq_true h) rfl (by decide)
  · rw [State.supplyUpdated, State.bit, State.get_warnIf_ne _ _ (by decide) (by decide)]
    exact State.bit_warnIf _ (decide_eq_true h) rfl (by decide)

theorem State.supplyUpdated_regs (s : State) (vin : Nat) (hottest : Int) :
    RegsBut [F.GLB_SUPPLY.VIN, F.GLB_SUPPLY.TMAX, F.GLB_SUPPLY.UVW, F.GLB_SUPPLY.OVW, F.GLB_SUPPLY.HOTW] s (s.supplyUpdated vin hottest) := by
  unfold State.supplyUpdated State.supplyShown
  exact .warnIf (.warnIf (.warnIf (.setI (.set (.of_regs (.refl _ s) rfl) (by simp)) (by simp)) (by simp)) (by simp)) (by simp)

theorem State.supplyUpdated_memory (s : State) (vin : Nat) (hottest : Int) : MemorySame s (s.supplyUpdated vin hottest) := by
  have hsame : MemorySame (s.supplyShown vin hottest) (s.supplyUpdated vin hottest) := by
    unfold State.supplyUpdated
    exact (((State.warnIf_parts _ _ _).trans (State.warnIf_parts _ _ _)).trans (State.warnIf_parts _ _ _)).memorySame
  exact ⟨hsame.1, hsame.2⟩

/-! The ends of a run. -/

/-- What is left of the state when AON goes off: the record's STOP, ALERT#, nothing that drives. -/
theorem State.powerOff_ends (s : State) :
    s.powerOff.supply.on = false ∧ s.powerOff.supply.alert = true ∧ s.powerOff.supply.quiet = true ∧ s.powerOff.raw = 0 ∧ s.powerOff.regs = [] :=
  ⟨rfl, rfl, rfl, rfl, rfl⟩

theorem Keeps.raw_of_on {w : Watch} {s t : State} (h : Keeps w s t) (hs : s.supply.on = true) (ht : t.supply.on = true) : t.raw = s.raw := by
  obtain hraw | ⟨hoff, -⟩ := h.raw hs
  · exact hraw
  · rw [ht] at hoff; cases hoff

/-- What keeps the pair in force keeps the disciplined second. -/
theorem Keeps.dsec {m : Bool} {s t : State} (h : Keeps ⟨m, true, true⟩ s t) (hon : s.supply.on = true) : t.dsec = s.dsec := by
  rw [State.dsec, State.dnow, State.now, (h.pairs rfl).1, h.raw_of_on hon (by rw [h.supply rfl, hon]), State.dsec, State.dnow, State.now]

/-- What the vault ends of its own before the power-fail sequence. -/
theorem State.supplyFail_eq (s : State) (stop zeroMs : Nat) : ∃ a, Keeps .all s a ∧ s.supplyFail stop zeroMs = a.powerFail stop := by
  unfold State.supplyFail
  extract_lets a done
  exact ⟨_, .ite (.zeroise (.vaultPowerFail (.refl s))) (.vaultPowerFail (.refl s)), rfl⟩

/-- The power-fail sequence: STOP and the second are recorded. -/
theorem State.supplyFail_record {s : State} (hon : s.supply.on = true) (stop zeroMs : Nat) :
    (s.supplyFail stop zeroMs).nv.record.stop = stop ∧ (s.supplyFail stop zeroMs).nv.record.lastSec = s.dsec := by
  obtain ⟨a, hkeeps, heq⟩ := s.supplyFail_eq stop zeroMs
  have hona : a.supply.on = true := by rw [hkeeps.supply rfl, hon]
  obtain ⟨q, hq⟩ := State.updRecord_record hona (fun r => { r with stop := stop, lastSec := a.dsec })
  rw [heq, State.powerFail, State.powerOff_nv, hq]
  exact ⟨rfl, hkeeps.dsec hon⟩

theorem State.supplyFail_ends (s : State) (stop zeroMs : Nat) :
    (s.supplyFail stop zeroMs).supply.on = false ∧ (s.supplyFail stop zeroMs).supply.alert = true ∧ (s.supplyFail stop zeroMs).supply.quiet = true ∧
      (s.supplyFail stop zeroMs).raw = 0 ∧ (s.supplyFail stop zeroMs).regs = [] := State.powerOff_ends _

theorem State.coldRestart_ends (s : State) (stop : Nat) :
    (s.coldRestart stop).supply.on = false ∧ (s.coldRestart stop).supply.alert = true ∧ (s.coldRestart stop).supply.quiet = true ∧
      (s.coldRestart stop).raw = 0 ∧ (s.coldRestart stop).regs = [] := State.powerOff_ends _

/-! Powering up. -/

/-- The strap register as read. -/
def State.strapped (s : State) (home fstartN : Bool) (bankSel : Nat) : State :=
  State.sets { pending := s.pending, flash := s.flash, out := s.out, free := s.free, nv := s.nv, boot := { deadline := 74997500000 } }
    [(F.GLB_STRAP.HOME, if home then 1 else 0), (F.GLB_STRAP.FSTART_N, if fstartN then 1 else 0), (F.GLB_STRAP.BANK_SEL, bankSel)]

theorem State.powerUp_eq (s : State) (home fstartN : Bool) (bankSel : Nat) :
    s.powerUp home fstartN bankSel = (s.strapped home fstartN bankSel).firstPair.vaultPowerOn.loadStore.bootStep1 := rfl

section
variable (s : State) (home fstartN : Bool) (bankSel : Nat)

theorem State.strapped_fstart : (s.strapped home fstartN bankSel).get F.GLB_STRAP.FSTART_N = if fstartN then 1 else 0 := by
  simp only [State.strapped, State.sets_cons, State.sets_nil]
  rw [State.get_set_ne _ _ (by decide), State.get_set_of_lt]
  show _ < 2 ^ 1
  split <;> omega

theorem State.strapped_home : (s.strapped home fstartN bankSel).bit F.GLB_STRAP.HOME = home := by
  simp only [State.strapped, State.sets_cons, State.sets_nil]
  rw [State.bit_set_ne _ _ (by decide), State.bit_set_ne _ _ (by decide), State.bit_set _ _ rfl]
  cases home <;> rfl

theorem State.strapped_bankSel (h : bankSel < 4) : (s.strapped home fstartN bankSel).get F.GLB_STRAP.BANK_SEL = bankSel := by
  simp only [State.strapped, State.sets_cons, State.sets_nil]
  exact State.get_set_of_lt _ (show bankSel < 2 ^ 2 by omega)

end

theorem State.vaultPowerOn_record (s : State) : s.vaultPowerOn.nv.record = s.nv.record := by
  unfold State.vaultPowerOn
  dsimp only
  split
  · exact (congrArg NvSt.record (State.flag_nv _ _ _ _ _)).trans rfl
  · rfl

theorem State.loadStore_nv (s : State) : s.loadStore.nv = s.nv := by
  unfold State.loadStore
  split
  · exact State.flag_nv _ _ _ _ _
  · extract_lets _ a
    refine (foldl_keeps State.nv ?_ _ a).trans rfl
    exact fun _ _ => rfl

/-- What a start has of the straps, the record and the supply when it reaches its first step. -/
theorem State.beforeBootStep1 (s : State) : GlbSame s s.firstPair.vaultPowerOn.loadStore ∧
    s.firstPair.vaultPowerOn.loadStore.nv.record = s.nv.record ∧ s.firstPair.vaultPowerOn.loadStore.supply = s.supply := by
  refine ⟨.loadStore (.vaultPowerOn (.firstPair (.refl s))), ?_, ?_⟩
  · rw [State.loadStore_nv, State.vaultPowerOn_record]
    rfl
  · exact (.loadStore (.vaultPowerOn (.firstPair (.refl s))) : Keeps ⟨true, true, false⟩ s _).supply rfl

/-- A first step that does not count a failed start leaves the straps and the supply. -/
theorem State.bootStep1_goesOn {s : State} (h : s.nv.record.inStart = false ∨ s.nv.record.stop ≠ 0 ∨ s.get F.GLB_STRAP.FSTART_N = 0 ∨
    3 ≤ s.nv.record.attempts ∨ s.nv.record.starterReq = true) : GlbSame s s.bootStep1 ∧ s.bootStep1.supply = s.supply := by
  have hsets : GlbSame s (s.sets [(F.BOOT_WHY.STOP, s.nv.record.stop), (F.BOOT_STATUS.ATTEMPTS, s.nv.record.attempts)]) :=
    .sets (.refl s) (by (repeat' apply And.intro) <;> exact Fld.le_key (by omega))
  have hkeep : Keeps .all s (s.sets [(F.BOOT_WHY.STOP, s.nv.record.stop), (F.BOOT_STATUS.ATTEMPTS, s.nv.record.attempts)]) := .sets (.refl s)
  unfold State.bootStep1
  extract_lets r a r1 b
  split
  · exact ⟨.enterStarter (.updRecord hsets), (.enterStarter (.updRecord hkeep) : Keeps .all s _).supply rfl⟩
  · split
    · exact ⟨.enterStarter (.updRecord hsets), (.enterStarter (.updRecord hkeep) : Keeps .all s _).supply rfl⟩
    · split
      · exact ⟨.enterStarter (.updRecord hsets), (.enterStarter (.updRecord hkeep) : Keeps .all s _).supply rfl⟩
      · rw [if_neg]
        · exact ⟨.updRecord hsets, (.updRecord hkeep : Keeps .all s _).supply rfl⟩
        · rintro ⟨hin, hstop⟩
          simp_all [r]

/-- A first step towards service though the last start neither completed nor stopped. -/
theorem State.bootStep1_fails {s : State} (hon : s.supply.on = true) (hin : s.nv.record.inStart = true) (hstop : s.nv.record.stop = 0)
    (hatt : s.nv.record.attempts < 3) (hreq : s.nv.record.starterReq = false) (hstrap : s.get F.GLB_STRAP.FSTART_N ≠ 0) :
    s.bootStep1.supply.on = false ∧ s.bootStep1.nv.record.why.head? = some 0x2B ∧
      s.bootStep1.nv.record.attempts = min 255 (s.nv.record.attempts + 1) := by
  unfold State.bootStep1
  extract_lets r a r1 b
  rw [if_neg hstrap, if_neg (Nat.not_le.mpr hatt), if_neg (by simp [r, hreq]), if_pos ⟨hin, hstop⟩]
  have hona : a.supply.on = true := hon
  obtain ⟨q, hq⟩ := State.updRecord_record hona (fun _ => { r1 with inStart := true, starts := min 0xFFFFFFFF (r.starts + 1) })
  have honb : b.supply.on = true := by rw [State.updRecord_supply]; exact hona
  obtain ⟨hoff, hwhy, -, -, hattempts⟩ := State.failStart_record honb 0x2B 0
  refine ⟨hoff, hwhy, hattempts.trans ?_⟩
  rw [hq]

theorem State.get_showQueue_holdok (s : State) : s.showQueue.get F.KVT_STAT.HOLDOK = s.get F.KVT_STAT.HOLDOK := by
  rw [State.showQueue]
  rw [State.get_setBit_ne _ _ (by decide)]
  refine foldl_keeps (fun t => t.get F.KVT_STAT.HOLDOK) (fun t p => ?_) _ s
  split
  · rw [State.get_setBit_ne _ _ (by apply Fld.key_ne; omega), State.get_set_ne _ _ (by apply Fld.key_ne; omega)]
  · rfl

/-- Settles O10, clause by clause. -/
theorem supplyAndPowerUp : Obligations.SupplyAndPowerUp := by
  have hqueue {c : Instr} {s t : State} (h : exec c s = .next t) : t.pending = s.pending := (Keeps.of_exec h).queue
  refine ⟨⟨fun s hon => ?_, fun s hon => ?_, fun s celsius hon hhot => ?_, fun s vin hottest hon => ?_⟩,
    ⟨fun s z hon => ?_, fun s z hon => ?_, fun s z c hon hhot => ?_, fun s hon => ?_, fun s hstage hon => ?_⟩,
    fun s home fstartN bankSel hoff hbank hcond => ?_, fun s home bankSel hoff hin hstop hatt hreq => ?_, fun s hon => ?_⟩
  · exact ⟨_, next_when hon _, State.supplyFlag_warns s rfl (by decide)⟩
  · exact ⟨_, next_when hon _, State.supplyFlag_warns s rfl (by decide)⟩
  · exact ⟨_, next_when (by rw [hon, decide_eq_true hhot]; rfl) _, State.supplyFlag_warns s rfl (by decide)⟩
  · obtain ⟨hvin, htmax⟩ := s.supplyUpdated_shows vin hottest
    obtain ⟨huv, hov, hhot⟩ := s.supplyUpdated_warns vin hottest
    exact ⟨_, exec_supplyUpdate hon vin hottest, hvin, htmax, huv, hov, hhot, s.supplyUpdated_regs vin hottest, s.supplyUpdated_memory vin hottest⟩
  · have hexec : exec (.powerFail z) s = .next (s.supplyFail 4 z) := next_when hon _
    obtain ⟨hoff, halert, hquiet, hraw, hregs⟩ := s.supplyFail_ends 4 z
    obtain ⟨hstop, hsec⟩ := State.supplyFail_record hon 4 z
    exact ⟨_, hexec, ⟨hoff, halert, hquiet, hstop, hraw, hregs, hqueue hexec⟩, hsec⟩
  · have hexec : exec (.overvoltageShutdown z) s = .next (s.supplyFail 5 z) := next_when hon _
    obtain ⟨hoff, halert, hquiet, hraw, hregs⟩ := s.supplyFail_ends 5 z
    exact ⟨_, hexec, hoff, halert, hquiet, (State.supplyFail_record hon 5 z).1, hraw, hregs, hqueue hexec⟩
  · have hexec : exec (.thermalShutdown c z) s = .next (s.supplyFail 6 z) := next_when (by rw [hon, decide_eq_true hhot]; rfl) _
    obtain ⟨hoff, halert, hquiet, hraw, hregs⟩ := s.supplyFail_ends 6 z
    exact ⟨_, hexec, hoff, halert, hquiet, (State.supplyFail_record hon 6 z).1, hraw, hregs, hqueue hexec⟩
  · have hexec : exec .porstAssert s = .next (s.vaultPowerFail.coldRestart 3) := next_when hon _
    have honv : s.vaultPowerFail.supply.on = true := by rw [(Keeps.vaultPowerFail (.refl s) : Keeps .all s _).supply rfl, hon]
    obtain ⟨hoff, halert, hquiet, hraw, hregs⟩ := s.vaultPowerFail.coldRestart_ends 3
    obtain ⟨q, hq⟩ := State.coldRestart_record honv 3
    exact ⟨_, hexec, hoff, halert, hquiet, by rw [hq], hraw, hregs, hqueue hexec⟩
  · have hexec : exec .tftpWriteRestart s = .next ((s.emit (.mg0Reply 0 (tftpAck 0))).coldRestart 1) := next_when (by rw [hstage]; rfl) _
    obtain ⟨hoff, halert, hquiet, hraw, hregs⟩ := (s.emit (.mg0Reply 0 (tftpAck 0))).coldRestart_ends 1
    obtain ⟨q, hq⟩ := State.coldRestart_record (s := s.emit (.mg0Reply 0 (tftpAck 0))) (by rw [State.emit_supply, hon]) 1
    exact ⟨_, hexec, hoff, halert, hquiet, by rw [hq], hraw, hregs, hqueue hexec⟩
  · have hexec := exec_powerUp_of_off hoff home fstartN bankSel
    obtain ⟨hglb, hrec, hsup⟩ := (s.strapped home fstartN bankSel).beforeBootStep1
    have hfstart := (hglb F.GLB_STRAP.FSTART_N (by decide)).trans (s.strapped_fstart home fstartN bankSel)
    have hnv : (s.strapped home fstartN bankSel).nv = s.nv := rfl
    obtain ⟨hglb', hsup'⟩ := State.bootStep1_goesOn (s := (s.strapped home fstartN bankSel).firstPair.vaultPowerOn.loadStore) (by
      rw [hrec, hfstart, hnv]
      cases fstartN <;> simp_all)
    have hget {f : Fld} (hf : f.key < 0x2000000) : (s.powerUp home fstartN bankSel).get f = (s.strapped home fstartN bankSel).get f :=
      (hglb' f hf).trans (hglb f hf)
    refine ⟨_, hexec, ?_, raw_powerUp s home fstartN bankSel, hqueue hexec, ?_, ?_, ?_⟩
    · rw [State.powerUp_eq, hsup', hsup]; rfl
    · rw [State.bit_eq_of_get (hget (by decide)), State.strapped_home]
    · rw [State.bit, hget (by decide), State.strapped_fstart]
      cases fstartN <;> rfl
    · rw [hget (by decide), State.strapped_bankSel _ _ _ _ hbank]
  · obtain ⟨hglb, hrec, hsup⟩ := (s.strapped home true bankSel).beforeBootStep1
    have hfstart := (hglb F.GLB_STRAP.FSTART_N (by decide)).trans (s.strapped_fstart home true bankSel)
    have hnv : (s.strapped home true bankSel).nv = s.nv := rfl
    rw [hnv] at hrec
    have hfail := State.bootStep1_fails (s := (s.strapped home true bankSel).firstPair.vaultPowerOn.loadStore) (by rw [hsup]; rfl)
      (by rw [hrec, hin]) (by rw [hrec, hstop]) (by rw [hrec]; exact hatt) (by rw [hrec, hreq]) (by rw [hfstart]; decide)
    rw [hrec] at hfail
    exact ⟨_, exec_powerUp_of_off hoff home true bankSel, hfail⟩
  · refine ⟨(s.set F.KVT_STAT.HOLDOK 1).showQueue, next_when hon _, ?_, ?_⟩
    · rw [State.bit, State.get_showQueue_holdok, State.get_set_self]; rfl
    · exact (Keeps.showQueue (.set (.refl s)) : Keeps .all s _).memorySame

end Sys2Proof.Machine

/-! PROOF. What qualification and selection leave alone: the channel's configuration and indications (REF_CFG to REF_PMARG), the fields from
block 0x12 on, and the edges and frames that the channel has seen (R143 to R166, R244 to R257). -/

namespace Sys2Proof.Machine

/-- The watched fields, by register and bit: a reference channel's configuration and indications, a TDC channel's apart from its gate and its
rejections, the oscillator's apart from PROOFING and the set in use, and those of the blocks from 0x12 on. -/
def RefBits (m : Nat) : Prop :=
    (0xA000080 ≤ m ∧ m < 0xA000101) ∨ (0xA000108 ≤ m ∧ m < 0xA000109) ∨ (0xA00010A ≤ m ∧ m < 0xA00010D) ∨
    (0xA000180 ≤ m ∧ m < 0xA000410) ∨ (0xC000000 ≤ m ∧ m < 0xC000880) ∨ (0xE000000 ≤ m ∧ m < 0xE000002) ∨
    (0xE000003 ≤ m ∧ m < 0xE000007) ∨ (0xE000010 ≤ m ∧ m < 0xE001000) ∨ 0x24000000 ≤ m

/-- The watched fields of each copy; with `q`, also a channel's QSTATE and DQWHY. -/
def RefKey (q : Bool) (k : Nat) : Prop :=
  RefBits (k % 0x80000000) ∨ (q = true ∧ (k % 0x80000000 = 0xC000880 ∨ k % 0x80000000 = 0xC000888))

theorem Fld.refKey {q : Bool} {c o l w r m : Nat} (hm : m = ((c * 0x4000000 + o) * 32 + l) % 0x80000000) (h :
    (0xA000080 ≤ m ∧ m < 0xA000101) ∨ (0xA000108 ≤ m ∧ m < 0xA000109) ∨ (0xA00010A ≤ m ∧ m < 0xA00010D) ∨
    (0xA000180 ≤ m ∧ m < 0xA000410) ∨ (0xC000000 ≤ m ∧ m < 0xC000880) ∨ (0xE000000 ≤ m ∧ m < 0xE000002) ∨
    (0xE000003 ≤ m ∧ m < 0xE000007) ∨ (0xE000010 ≤ m ∧ m < 0xE001000) ∨ 0x24000000 ≤ m) : RefKey q (Fld.key ⟨c, o, l, w, r⟩) := by
  subst hm
  exact .inl h

theorem refKey_qstate (c : Nat) : RefKey true (F.REF_QSTAT.QSTATE c).key := by
  show RefKey true ((c * 0x4000000 + 0x600044) * 32 + 0)
  have : ((c * 0x4000000 + 0x600044) * 32 + 0) % 0x80000000 = 0xC000880 := by omega
  exact .inr ⟨rfl, .inl this⟩

/-- The fields between those ranges. -/
theorem Fld.not_refKey {q : Bool} {c o l w r m : Nat} (hm : m = ((c * 0x4000000 + o) * 32 + l) % 0x80000000) (h :
    m < 0xA000080 ∨ 0xA000101 ≤ m ∧ m < 0xA000108 ∨ 0xA000109 ≤ m ∧ m < 0xA00010A ∨ 0xA00010D ≤ m ∧ m < 0xA000180 ∨
    0xA000410 ≤ m ∧ m < 0xC000000 ∨ 0xC000880 < m ∧ m < 0xC000888 ∨ 0xC000888 < m ∧ m < 0xE000000 ∨
    0xE000002 ≤ m ∧ m < 0xE000003 ∨ 0xE000007 ≤ m ∧ m < 0xE000010 ∨ 0xE001000 ≤ m ∧ m < 0x24000000) : ¬ RefKey q (Fld.key ⟨c, o, l, w, r⟩) := by
  unfold RefKey RefBits Fld.key
  dsimp only
  rw [← hm]
  rintro (hk | ⟨-, hk⟩) <;> omega

/-- QSTATE and DQWHY are not watched without `q`. -/
theorem Fld.not_refKey_qual {c o l w r : Nat} (h : ((c * 0x4000000 + o) * 32 + l) % 0x80000000 = 0xC000880 ∨
    ((c * 0x4000000 + o) * 32 + l) % 0x80000000 = 0xC000888) : ¬ RefKey false (Fld.key ⟨c, o, l, w, r⟩) := by
  unfold RefKey RefBits Fld.key
  simp only [Bool.false_eq_true, false_and, or_false]
  omega

theorem RefKey.blk_ne {q : Bool} {g : Fld} (h : RefKey q g.key) : g.blk ≠ 0x11 := by
  unfold RefKey RefBits at h
  unfold Fld.blk
  omega

/-- What a channel has seen at its input, as against how it is judged. -/
def RefSt.seen (r : RefSt) : Option Nat × Option Nat × List Nat × List Held × Nat × Nat × Nat × Option Bool × Bool × Bool × Nat :=
  (r.presAt, r.lastEdge, r.prs, r.held, r.good, r.failed, r.lastTime, r.announced, r.extended, r.qlOk, r.heardAt)

/-- What a TDC channel has marked: its halves' calibration pairs, the edges counted and the stamps. -/
def TdcSt.marks (d : TdcSt) : Half × Half × Nat × List (Nat × Nat) := (d.h0, d.h1, d.edges, d.stamps)

/-- The fields of `RefKey`, what the channels have seen and what the TDC has marked are as before. -/
structure RefSame (q : Bool) (s₀ s : State) : Prop where
  regs : ∀ g : Fld, RefKey q g.key → s.get g = s₀.get g
  seen : ∀ c, (s.rf c).seen = (s₀.rf c).seen
  marks : ∀ n, (s.td n).marks = (s₀.td n).marks

/-- A projection that a change of each element keeps is kept by the change of one. -/
theorem proj_getD_modAt {α β : Type} (p : α → β) {f : α → α} (hf : ∀ a, p (f a) = p a) (l : List α) (i j : Nat) (d : α) :
    p ((modAt l i f).getD j d) = p (l.getD j d) := by
  by_cases hj : j = i
  · subst hj
    by_cases hl : j < l.length
    · rw [getD_modAt_self f d hl, hf]
    · rw [List.getD_eq_default _ _ (by rw [length_modAt]; omega), List.getD_eq_default _ _ (by omega)]
  · rw [getD_modAt_ne l f d hj]

theorem TdcSt.loseExt_marks (d : TdcSt) : d.loseExt.marks = d.marks := rfl

/-- The same for a change of every element. -/
theorem proj_getD_map {α β : Type} (p : α → β) {f : α → α} (hf : ∀ a, p (f a) = p a) (l : List α) (j : Nat) (d : α) :
    p ((l.map f).getD j d) = p (l.getD j d) := by
  rw [List.getD_eq_getElem?_getD, List.getElem?_map, List.getD_eq_getElem?_getD]
  cases l[j]? with
  | none => rfl
  | some a => exact hf a

section
variable {q : Bool} {s₀ s t : State}

theorem RefSame.refl (s : State) : RefSame q s s := ⟨fun _ _ => rfl, fun _ => rfl, fun _ => rfl⟩

theorem RefSame.trans (h : RefSame q s₀ s) (k : RefSame q s t) : RefSame q s₀ t :=
  ⟨fun g hg => (k.regs g hg).trans (h.regs g hg), fun c => (k.seen c).trans (h.seen c), fun n => (k.marks n).trans (h.marks n)⟩

/-- A change of parts other than the register store, the channels and the TDC. -/
theorem RefSame.parts {raw pending supply nv flash sram boot rcp tb hrt sel bound osc syn outp pwr evt sys pmu pnl pke port nts ptp kvt pair snaps free out}
    (h : RefSame q s₀ s) : RefSame q s₀
      { s with
        raw := raw, pending := pending, supply := supply, nv := nv, flash := flash, sram := sram, boot := boot, rcp := rcp, tb := tb, hrt := hrt
        sel := sel, bound := bound, osc := osc, syn := syn, outp := outp, pwr := pwr, evt := evt, sys := sys, pmu := pmu, pnl := pnl, pke := pke
        port := port, nts := nts, ptp := ptp, kvt := kvt, pair := pair, snaps := snaps, out := out, free := free } :=
  ⟨h.regs, h.seen, h.marks⟩

theorem RefSame.ite {c : Prop} [Decidable c] (ht : RefSame q s₀ s) (he : RefSame q s₀ t) : RefSame q s₀ (if c then s else t) := by
  split <;> assumption

theorem RefSame.foldl {α : Type} {f : State → α → State} {l : List α} (h : RefSame q s₀ s) (hf : ∀ t a, RefSame q s₀ t → RefSame q s₀ (f t a)) :
    RefSame q s₀ (l.foldl f s) := List.foldlRecOn l f h fun t ht a _ => hf t a ht

/-- A write of another field. -/
theorem RefSame.set {f v} (h : RefSame q s₀ s) (hf : ¬ RefKey q f.key) : RefSame q s₀ (State.set s f v) :=
  ⟨fun g hg => (State.get_set_ne s v fun hk => hf (hk ▸ hg)).trans (h.regs g hg), h.seen, h.marks⟩

theorem RefSame.occur {ev bit inst detail} (h : RefSame q s₀ s) (he : ev < 128) : RefSame q s₀ (s.occur ev bit inst detail) :=
  ⟨fun g hg => (State.get_occur s bit inst detail he hg.blk_ne).trans (h.regs g hg), fun c => by
    rw [State.rf, (State.occur_parts s ev bit inst detail).ref]; exact h.seen c, fun n => by
    rw [State.td, (State.occur_parts s ev bit inst detail).tdc]; exact h.marks n⟩

theorem RefSame.flag {f ev inst detail} (h : RefSame q s₀ s) (hf : ¬ RefKey q f.key)
    (he : ev < 128) : RefSame q s₀ (s.flag f ev inst detail) := .ite h (.occur (.set h hf) he)

theorem RefSame.updRef {c f} (h : RefSame q s₀ s) (hf : ∀ r, (f r).seen = r.seen) : RefSame q s₀ (s.updRef c f) :=
  ⟨h.regs, fun j => (proj_getD_modAt RefSt.seen hf s.ref c j {}).trans (h.seen j), h.marks⟩

theorem RefSame.updTdc {n f} (h : RefSame q s₀ s) (hf : ∀ d, (f d).marks = d.marks) : RefSame q s₀ (s.updTdc n f) :=
  ⟨h.regs, h.seen, fun j => (proj_getD_modAt TdcSt.marks hf s.tdc n j {}).trans (h.marks j)⟩

theorem RefSame.setBit {f b} (h : RefSame q s₀ s)
    (hf : ¬ RefKey q f.key) : RefSame q s₀ (s.setBit f b) := .set h hf

theorem RefSame.bump {f n} (h : RefSame q s₀ s)
    (hf : ¬ RefKey q f.key) : RefSame q s₀ (s.bump f n) := .set h hf

theorem RefSame.sets {l : List (Fld × Nat)} (h : RefSame q s₀ s) (hl : l.Forall (fun p => ¬ RefKey q p.1.key)) : RefSame q s₀ (s.sets l) := by
  refine ⟨fun g hg => (State.get_sets_ne s l fun p hp hk => List.forall_iff_forall_mem.mp hl p hp (hk ▸ hg)).trans (h.regs g hg), ?_, ?_⟩
  all_goals obtain ⟨r, hr⟩ := State.sets_eq s l
  · intro c; rw [hr]; exact h.seen c
  · intro n; rw [hr]; exact h.marks n

theorem RefSame.bumpSat {f n} (h : RefSame q s₀ s)
    (hf : ¬ RefKey q f.key) : RefSame q s₀ (s.bumpSat f n) := .set h hf

theorem RefSame.emit {e} (h : RefSame q s₀ s) : RefSame q s₀ (s.emit e) := .ite (.parts h) h

theorem RefSame.updPair {f} (h : RefSame q s₀ s) : RefSame q s₀ (s.updPair f) := .parts h

theorem RefSame.onLane {b} (h : RefSame q s₀ s) : RefSame q s₀ (s.onLane b) := by
  unfold State.onLane
  exact (.updPair (.emit h))

theorem RefSame.sendRecord {type payload} (h : RefSame q s₀ s) : RefSame q s₀ (s.sendRecord type payload) :=
  .ite h (.bump (.updPair (.onLane h)) (Fld.not_refKey rfl (by omega)))

theorem RefSame.journalChanges (h : RefSame q s₀ s) : RefSame q s₀ s.journalChanges :=
  .ite h (.ite (.ite (.ite h (.updPair (.sendRecord h))) (.updPair (.sendRecord (.ite h (.updPair (.sendRecord h)))))) (.updPair
    (.sendRecord (.ite (.ite h (.updPair (.sendRecord h))) (.updPair (.sendRecord (.ite h (.updPair (.sendRecord h)))))))))

theorem RefSame.journalResult {c isFreq v stamp gen count sigma} (h : RefSame q s₀ s) : RefSame q s₀
  (s.journalResult c isFreq v stamp gen count sigma) := .ite (.sendRecord h) h

theorem RefSame.updSrv {n f} (h : RefSame q s₀ s) : RefSame q s₀ (s.updSrv n f) := .parts h

theorem RefSame.selFlag {f inst detail} (h : RefSame q s₀ s)
    (hf : ¬ RefKey q f.key) : RefSame q s₀ (s.selFlag f inst detail) := .flag h hf (by omega)

theorem RefSame.hrtFlag {f detail} (h : RefSame q s₀ s)
    (hf : ¬ RefKey q f.key) : RefSame q s₀ (s.hrtFlag f detail) := .flag h hf (by omega)

theorem RefSame.cancelLeap (h : RefSame q s₀ s) : RefSame q s₀ s.cancelLeap :=
  .ite (.hrtFlag (.sets h (by (repeat' apply And.intro) <;> exact Fld.not_refKey rfl (by omega))) (Fld.not_refKey rfl (by omega))) h

theorem RefSame.reviewLead {silent} (h : RefSame q s₀ s) : RefSame q s₀ (s.reviewLead silent) :=
  .ite h (.ite (.set h (Fld.not_refKey rfl (by omega))) (by split; exacts [(.ite (.set h (Fld.not_refKey rfl (by omega))) (.cancelLeap
    (.set h (Fld.not_refKey rfl (by omega))))), (.cancelLeap (.set h (Fld.not_refKey rfl (by omega))))]))

theorem RefSame.acalFail {n why} (h : RefSame q s₀ s) (hn : n < 4) : RefSame q s₀ (s.acalFail n why) :=
  .flag (.set (.set (.parts h) (Fld.not_refKey rfl (by omega))) (Fld.not_refKey rfl (by omega))) (Fld.not_refKey rfl (by omega)) (by omega)

theorem RefSame.reviewAcal (h : RefSame q s₀ s) : RefSame q s₀ s.reviewAcal :=
  List.foldlRecOn (motive := fun t : State => RefSame q s₀ t) _ _ h fun t ht n hn => by
    have hlt : n < 4 := List.mem_range.mp hn
    split; exacts [ht, .ite ht (.acalFail ht hlt)]

theorem RefSame.freezeYat (h : RefSame q s₀ s) : RefSame q s₀ s.freezeYat := .ite (.parts h) h

theorem RefSame.setSrvState {n} (h : RefSame q s₀ s) : RefSame q s₀ (s.setSrvState n) :=
  .ite h (.reviewAcal (.hrtFlag (.set (.parts (.freezeYat h)) (Fld.not_refKey rfl (by omega))) (Fld.not_refKey rfl (by omega))))

theorem RefSame.openCarry {errb freq sy0 hset} (h : RefSame q s₀ s) : RefSame q s₀ (s.openCarry errb freq sy0 hset) :=
  .setBit (.parts h) (Fld.not_refKey rfl (by omega))

theorem RefSame.startSegment {first errb} (h : RefSame q s₀ s) : RefSame q s₀ (s.startSegment first errb) := .parts (.openCarry h)

theorem RefSame.enterHoldover {errb} (h : RefSame q s₀ s) : RefSame q s₀ (s.enterHoldover errb) :=
  .selFlag (.startSegment (.setSrvState (.parts h))) (Fld.not_refKey rfl (by omega))

theorem RefSame.freshChannel {c} (h : RefSame q s₀ s) : RefSame q s₀ (s.freshChannel c) := by
  unfold State.freshChannel
  split; exacts [(.updRef h (fun _ => rfl)), (.set (.updTdc (.updRef h (fun _ => rfl)) (fun _ => rfl)) (Fld.not_refKey rfl (by omega)))]

theorem RefSame.enterQualifying {c} (h : RefSame false s₀ s) : RefSame false s₀ (s.enterQualifying c) :=
  .updRef (.set (.freshChannel h) (Fld.not_refKey_qual (by omega))) (fun _ => rfl)

theorem RefSame.tryQualify {c} (h : RefSame false s₀ s) : RefSame false s₀ (s.tryQualify c) := .ite (.enterQualifying h) h

theorem RefSame.timeBaseLoss (h : RefSame q s₀ s) : RefSame q s₀ s.timeBaseLoss :=
  .flag (.set ⟨h.regs, h.seen, fun n => (proj_getD_map TdcSt.marks TdcSt.loseExt_marks s.tdc n {}).trans (h.marks n)⟩
    (Fld.not_refKey rfl (by omega))) (Fld.not_refKey rfl (by omega)) (by omega)

theorem RefSame.reviewJudged {inst} (h : RefSame q s₀ s) : RefSame q s₀ (s.reviewJudged inst) := .parts h

theorem RefSame.settle {inst} (h : RefSame q s₀ s) : RefSame q s₀ (s.settle inst) :=
  .foldl (.reviewJudged h) fun _ _ h => .ite (by split; exacts [(.ite (.selFlag (.parts h) (Fld.not_refKey rfl (by omega))) (.parts h)), h]) h

theorem RefSame.reviewDisagree (h : RefSame q s₀ s) : RefSame q s₀ s.reviewDisagree :=
  .ite (.ite (.set h (Fld.not_refKey rfl (by omega))) h) (.ite (.parts (by split; exacts [h, (.set h (Fld.not_refKey rfl (by omega)))]))
    (.selFlag (.set (.parts (by split; exacts [h, (.set h (Fld.not_refKey rfl (by omega)))])) (Fld.not_refKey rfl (by omega)))
    (Fld.not_refKey rfl (by omega))))

theorem RefSame.showCandidates (h : RefSame q s₀ s) : RefSame q s₀ s.showCandidates :=
  .foldl h fun _ _ h => .setBit (.setBit h (Fld.not_refKey rfl (by omega))) (Fld.not_refKey rfl (by omega))

theorem RefSame.showSel {n} (h : RefSame q s₀ s) : RefSame q s₀ (s.showSel n) := by
  unfold State.showSel
  split; exacts [(.set (.set h (Fld.not_refKey rfl (by omega))) (Fld.not_refKey rfl (by omega))), (.set (.set h (Fld.not_refKey rfl
    (by omega))) (Fld.not_refKey rfl (by omega)))]

theorem RefSame.carryFor {c errb} (h : RefSame q s₀ s) : RefSame q s₀ (s.carryFor c errb) := .ite (.openCarry h) (.openCarry h)

theorem RefSame.changeSel {old new} (h : RefSame q s₀ s) : RefSame q s₀ (s.changeSel old new) := by
  unfold State.changeSel
  extract_lets _ _ _ t
  have ht : RefSame q s₀ t := .showSel (.parts h)
  split
  · exact ht
  · split
    · split
      · exact .enterHoldover ht
      · exact .ite (.setSrvState (.parts (.ite ht (.selFlag ht (Fld.not_refKey rfl (by omega)))))) (.ite ht (.selFlag ht
        (Fld.not_refKey rfl (by omega))))
    · extract_lets u
      have hu : RefSame q s₀ u := .carryFor ht
      exact .ite (.selFlag (.parts (.updSrv (.setSrvState hu))) (Fld.not_refKey rfl (by omega))) (.ite (.selFlag (.parts (.updSrv
        (.setSrvState hu))) (Fld.not_refKey rfl (by omega)))
        (.selFlag hu (Fld.not_refKey rfl (by omega))))

theorem RefSame.evalSelection (h : RefSame q s₀ s) : RefSame q s₀ s.evalSelection :=
  .journalChanges (.reviewAcal (.ite (.parts (.settle (.setBit (.showCandidates (.reviewDisagree (.ite (.setBit (.settle (.setBit h
    (Fld.not_refKey rfl (by omega)))) (Fld.not_refKey rfl (by omega)))
    (.changeSel (.setBit (.settle (.setBit h (Fld.not_refKey rfl (by omega)))) (Fld.not_refKey rfl (by omega))))))) (Fld.not_refKey rfl
      (by omega))))) (.setBit (.showCandidates (.reviewDisagree (.ite (.setBit (.settle (.setBit h (Fld.not_refKey rfl (by omega))))
      (Fld.not_refKey rfl (by omega)))
    (.changeSel (.setBit (.settle (.setBit h (Fld.not_refKey rfl (by omega)))) (Fld.not_refKey rfl (by omega))))))) (Fld.not_refKey rfl
      (by omega)))))

theorem RefSame.disqualify {c why} (h : RefSame false s₀ s) : RefSame false s₀ (s.disqualify c why) :=
  .ite (.ite (.set h (Fld.not_refKey_qual (by omega))) h) (.evalSelection (.reviewLead (.ite (.timeBaseLoss (by split; exacts [(.updRef
    (.sets h (by (repeat' apply And.intro) <;> exact Fld.not_refKey_qual (by omega))) (fun _ => rfl)), (.set (.updTdc (.updRef
    (.sets h (by (repeat' apply And.intro) <;> exact Fld.not_refKey_qual (by omega))) (fun _ => rfl)) (fun _ => rfl)) (Fld.not_refKey rfl
      (by omega)))])) (by split; exacts [(.updRef (.sets h (by (repeat' apply And.intro) <;> exact Fld.not_refKey_qual (by omega)))
      (fun _ => rfl)), (.set (.updTdc (.updRef (.sets h (by (repeat' apply And.intro) <;> exact Fld.not_refKey_qual (by omega)))
      (fun _ => rfl)) (fun _ => rfl)) (Fld.not_refKey rfl (by omega)))]))))

theorem RefSame.deliver {c v stamp isFreq count sigma} (h : RefSame q s₀ s) : RefSame q s₀ (s.deliver c v stamp isFreq count sigma) :=
  .journalResult (.updRef h (fun _ => rfl))

theorem RefSame.ringDrop {r} (h : RefSame q s₀ s) (hr : r < 64) : RefSame q s₀ (s.ringDrop r) :=
  .flag (.bumpSat h (Fld.not_refKey rfl (by omega))) (Fld.not_refKey rfl (by omega)) (by omega)

theorem RefSame.deliverRing {i} (h : RefSame q s₀ s) (hi : i.ring < 64) : RefSame q s₀ (s.deliverRing i) := .ite (.parts h) (.ringDrop h hi)

theorem RefSame.record {n type tb flags stamp value count resid} (h : RefSame q s₀ s) : RefSame q s₀
  (s.record n type tb flags stamp value count resid) := .ite (.deliverRing (.updTdc h (fun _ => rfl)) (show 63 < 64 by omega)) (.updTdc h
    (fun _ => rfl))

theorem RefSame.tdcMark {f n} (h : RefSame q s₀ s)
    (hf : ¬ RefKey q f.key) : RefSame q s₀ (s.tdcMark f n) := .ite (.flag h hf (by omega)) (.set h hf)

theorem RefSame.phaseResult {n c d stamp count} (h : RefSame q s₀ s) : RefSame q s₀ (s.phaseResult n c d stamp count) :=
  .ite (.tdcMark (.bumpSat h (Fld.not_refKey rfl (by omega))) (Fld.not_refKey rfl (by omega))) (.ite (.deliver (.record h)) (.record h))

end

end Sys2Proof.Machine

/-! The projections of what a channel has seen. -/

namespace Sys2Proof.Machine

section
variable {q : Bool} {s t : State}

theorem RefSame.lastEdge (h : RefSame q s t) (c : Nat) : (t.rf c).lastEdge = (s.rf c).lastEdge := congrArg (·.2.1) (h.seen c)
theorem RefSame.held (h : RefSame q s t) (c : Nat) : (t.rf c).held = (s.rf c).held := congrArg (·.2.2.2.1) (h.seen c)
theorem RefSame.good (h : RefSame q s t) (c : Nat) : (t.rf c).good = (s.rf c).good := congrArg (·.2.2.2.2.1) (h.seen c)
theorem RefSame.failed (h : RefSame q s t) (c : Nat) : (t.rf c).failed = (s.rf c).failed := congrArg (·.2.2.2.2.2.1) (h.seen c)
theorem RefSame.lastTime (h : RefSame q s t) (c : Nat) : (t.rf c).lastTime = (s.rf c).lastTime := congrArg (·.2.2.2.2.2.2.1) (h.seen c)
theorem RefSame.presAt (h : RefSame q s t) (c : Nat) : (t.rf c).presAt = (s.rf c).presAt := congrArg (·.1) (h.seen c)

theorem RefSame.bit {f : Fld} (h : RefSame q s t) (hf : RefKey q f.key) : t.bit f = s.bit f := State.bit_eq_of_get (h.regs f hf)

end

/-! Reading a field after a list of writes. -/

theorem State.get_sets_off (s : State) {g : Fld} {l : List (Fld × Nat)} (h : l.Forall (fun q => g.key ≠ q.1.key)) :
    (s.sets l).get g = s.get g := State.get_sets_ne s l (List.forall_iff_forall_mem.mp h)

theorem State.get_sets_at (s : State) {f : Fld} {v : Nat} (pre post : List (Fld × Nat)) (h : post.Forall (fun q => f.key ≠ q.1.key)) :
    (s.sets (pre ++ (f, v) :: post)).get f = v % 2 ^ f.w := by
  rw [State.sets, List.foldl_append, List.foldl_cons]
  exact (State.get_sets_off _ h).trans (State.get_set_self _ f v)

/-! A channel's inner state. -/

theorem State.rf_updRef_self {s : State} {c : Nat} (hs : StateShape s) (hc : c < 16) (f : RefSt → RefSt) : (s.updRef c f).rf c = f (s.rf c) :=
  getD_modAt_self f _ (by rw [hs.refs]; exact hc)

@[simp] theorem State.get_updRef (s : State) (c : Nat) (f : RefSt → RefSt) (g : Fld) : (s.updRef c f).get g = s.get g := rfl

@[simp] theorem State.bit_updRef (s : State) (c : Nat) (f : RefSt → RefSt) (g : Fld) : (s.updRef c f).bit g = s.bit g := rfl

theorem State.updRef_shape {s : State} (hs : StateShape s) (c : Nat) (f : RefSt → RefSt) : StateShape (s.updRef c f) :=
  { hs with refs := (length_modAt _ _ _).trans hs.refs }

/-- The commands of one unit go on where the unit exists. -/
theorem onUnit_lt {n m : Nat} (h : n < m) (t : State) : onUnit (decide (n < m)) t = .next t := by rw [decide_eq_true h]; rfl

/-! Activity. -/

/-- Clearing a bit that is clear changes no field. -/
theorem State.get_set_of_clear {s : State} {f : Fld} (h : s.bit f = false) (g : Fld) : (s.set f 0).get g = s.get g := by
  by_cases hk : g.key = f.key
  · have h0 : s.get f = 0 := by simpa [State.bit] using h
    have hst : storeGet s.regs f.key = f.rst := Nat.xor_eq_zero_iff.mp h0
    rw [State.get, State.get, hk]
    show storeGet (storeSet s.regs f.key ((0 % 2 ^ f.w) ^^^ f.rst)) f.key ^^^ g.rst = storeGet s.regs f.key ^^^ g.rst
    rw [storeGet_storeSet_self, hst, Nat.zero_mod, Nat.zero_xor]
  · exact State.get_set_ne s 0 hk

theorem RefSame.of_clear {q : Bool} {s : State} {f : Fld} (h : s.bit f = false) : RefSame q (s.set f 0) s :=
  ⟨fun g _ => (State.get_set_of_clear h g).symm, fun _ => rfl, fun _ => rfl⟩

/-- Losing activity clears ACTIVITY and, apart from the judgement of the channel, nothing else. -/
theorem State.loseActivity_same (s : State) (c : Nat) : RefSame false (s.set (F.REF_STAT.ACTIVITY c) 0) (s.loseActivity c) := by
  unfold State.loseActivity
  split
  · next h => exact .of_clear (by simpa using h)
  · exact .ite (.timeBaseLoss (.disqualify (.refl _))) (.disqualify (.refl _))

theorem State.gainActivity_same (s : State) (c : Nat) : RefSame false (s.set (F.REF_STAT.ACTIVITY c) 1) (s.gainActivity c) := .tryQualify (.refl _)

theorem State.bit_loseActivity (s : State) (c : Nat) : (s.loseActivity c).bit (F.REF_STAT.ACTIVITY c) = false := by
  rw [(s.loseActivity_same c).bit (by apply Fld.refKey rfl; omega), State.bit_set _ _ rfl]
  rfl

theorem State.bit_gainActivity (s : State) (c : Nat) : (s.gainActivity c).bit (F.REF_STAT.ACTIVITY c) = true := by
  rw [(s.gainActivity_same c).bit (by apply Fld.refKey rfl; omega), State.bit_set _ _ rfl]
  rfl

theorem State.get_loseActivity_ne (s : State) (c : Nat) {g : Fld} (hg : RefKey false g.key) (h : g.key ≠ (F.REF_STAT.ACTIVITY c).key) :
    (s.loseActivity c).get g = s.get g := ((s.loseActivity_same c).regs g hg).trans (State.get_set_ne s 0 h)

theorem State.get_gainActivity_ne (s : State) (c : Nat) {g : Fld} (hg : RefKey false g.key) (h : g.key ≠ (F.REF_STAT.ACTIVITY c).key) :
    (s.gainActivity c).get g = s.get g := ((s.gainActivity_same c).regs g hg).trans (State.get_set_ne s 1 h)

end Sys2Proof.Machine

/-! Presence, and stamps on their way to a channel. -/

namespace Sys2Proof.Machine

theorem Fld.lo_ne {c o l w r : Nat} (h : ((c * 0x4000000 + o) * 32 + l) % 32 ≠ 0) : Fld.key ⟨c, o, l, w, r⟩ % 32 ≠ 0 := h

/-- A field outside the event block that no event can reach, whatever its number: one that does not stand at bit 0, or one below the block. -/
structure OffEvents (g : Fld) : Prop where
  blk : g.blk ≠ 0x11
  key : g.key % 32 ≠ 0 ∨ g.key < 0x22000000

section
variable {g : Fld} (hg : OffEvents g) (s : State)
include hg

theorem OffEvents.get_set_evt {f : Fld} (hlo : f.lo = 0) (hoff : 0x1100000 ≤ f.off) (v : Nat) : (s.set f v).get g = s.get g := by
  refine State.get_set_ne s v fun hk => ?_
  have hkey := hg.key
  rw [hk] at hkey
  unfold Fld.key at hkey
  omega

theorem OffEvents.get_pendAndTell (side ev : Nat) : (s.pendAndTell side ev).get g = s.get g := by
  unfold State.pendAndTell
  dsimp only
  split
  · rw [(State.message_keepsButEvents _ side ev).regs g hg.blk]
    exact hg.get_set_evt s rfl (show 0x1100000 ≤ 0x1101000 + _ + _ by omega) _
  · exact hg.get_set_evt s rfl (show 0x1100000 ≤ 0x1101000 + _ + _ by omega) _

theorem OffEvents.get_tellSide {side : Nat} (hside : side < 2) (r : EvRec) : (s.tellSide side r).get g = s.get g := by
  unfold State.tellSide
  rw [hg.get_pendAndTell]
  split
  · exact (State.pushRecord_keepsButEvents s hside r).regs g hg.blk
  · rfl

/-- Whatever its number, an event leaves such a field. -/
theorem OffEvents.get_occur (ev bit inst detail : Nat) : (s.occur ev bit inst detail).get g = s.get g := by
  unfold State.occur State.occurAt
  dsimp only
  rw [hg.get_tellSide _ (by omega), hg.get_tellSide _ (by omega)]
  exact hg.get_set_evt s rfl (show 0x1100000 ≤ 0x1100300 + _ by omega) _

theorem OffEvents.get_flag {f : Fld} (hk : g.key ≠ f.key) (ev inst detail : Nat) : (s.flag f ev inst detail).get g = s.get g := by
  unfold State.flag
  split
  · rfl
  · rw [hg.get_occur, State.get_set_ne s 1 hk]

theorem OffEvents.get_alignLoss (c : Nat) (hk : ∀ n, g.key ≠ (F.OUT_STAT.ALLOSS n).key) : (s.alignLoss c).get g = s.get g :=
  foldl_keeps (·.get g) (fun t n => by
    split
    · exact hg.get_flag t (hk n) _ _ _
    · rfl) _ s

end

/-- Losing presence changes a channel's indications only. -/
theorem State.get_losePresence_ne (s : State) (c : Nat) {g : Fld} (hc : c < 128) (hg : RefKey false g.key) (ho : OffEvents g)
    (ha : ∀ n, g.key ≠ (F.OUT_STAT.ALLOSS n).key) (hp : g.key ≠ (F.REF_STAT.PRESENT c).key)
    (hl : g.key ≠ (F.REF_STAT.LABELLED c).key) (hu : g.key ≠ (F.REF_STAT.UNPLUG c).key) : (s.losePresence c).get g = s.get g := by
  unfold State.losePresence
  split
  · rfl
  · extract_lets a b d e
    have hd : d.get g = s.get g := by
      have ha : a.get g = s.get g := (RefSame.disqualify (.refl s)).regs g hg
      unfold d
      split <;> exact ha
    have he : e.get g = s.get g := by
      refine Eq.trans ?_ hd
      unfold e
      split
      · exact (RefSame.timeBaseLoss (.refl d)).regs g hg
      · rfl
    rw [ho.get_alignLoss _ c ha, State.refFlag, State.flag_get_ne _ _ _ hc ho.blk hu]
    exact (State.get_sets_off e (l := [(F.REF_STAT.PRESENT c, 0), (F.REF_STAT.LABELLED c, 0)]) ⟨hp, hl⟩).trans he

/-- A channel that loses presence is neither present nor labelled. -/
theorem State.losePresence_shows (s : State) (c : Nat) (hc : c < 128) (hlab : s.bit (F.REF_STAT.LABELLED c) = false) :
    (s.losePresence c).bit (F.REF_STAT.PRESENT c) = false ∧ (s.losePresence c).bit (F.REF_STAT.LABELLED c) = false := by
  unfold State.losePresence
  split
  · next h => exact ⟨by simpa using h, hlab⟩
  · extract_lets a b d e
    refine ⟨?_, ?_⟩
    all_goals
      rw [State.bit, OffEvents.get_alignLoss ⟨by apply Fld.blk_ne; omega, by left; apply Fld.lo_ne; omega⟩ _ c
          (fun n => by apply Fld.key_ne; omega), State.refFlag,
        State.flag_get_ne _ _ _ hc (by apply Fld.blk_ne; omega) (by apply Fld.key_ne; omega)]
    · exact bne_eq_false_iff_eq.mpr (State.get_sets_at e [] [(F.REF_STAT.LABELLED c, 0)] (by apply Fld.key_ne; omega))
    · exact bne_eq_false_iff_eq.mpr (State.get_sets_at e [(F.REF_STAT.PRESENT c, 0)] [] trivial)

theorem State.get_gainPresence_ne (s : State) (c : Nat) {g : Fld} (hp : g.key ≠ (F.REF_STAT.PRESENT c).key) :
    (s.gainPresence c).get g = s.get g := by
  unfold State.gainPresence
  split
  · rfl
  · exact State.get_set_ne s 1 hp

/-- The held stamps and the marks of the TDC are as before. -/
structure Heard (s₀ s : State) : Prop where
  held : ∀ c, (s.rf c).held = (s₀.rf c).held
  marks : ∀ n, (s.td n).marks = (s₀.td n).marks

theorem RefSame.heard {q : Bool} {s t : State} (h : RefSame q s t) : Heard s t := ⟨h.held, h.marks⟩

section
variable {q : Bool} {s₀ s t : State}

theorem Heard.refl (s : State) : Heard s s := ⟨fun _ => rfl, fun _ => rfl⟩

theorem Heard.then (h : Heard s₀ s) (k : RefSame q s t) : Heard s₀ t :=
  ⟨fun c => (k.held c).trans (h.held c), fun n => (k.marks n).trans (h.marks n)⟩

theorem Heard.ite {c : Prop} [Decidable c] (ht : Heard s₀ s) (he : Heard s₀ t) : Heard s₀ (if c then s else t) := by split <;> assumption

theorem Heard.of_parts (h : Heard s₀ s) (href : t.ref = s.ref) (htdc : t.tdc = s.tdc) : Heard s₀ t :=
  ⟨fun c => by rw [State.rf, href]; exact h.held c, fun n => by rw [State.td, htdc]; exact h.marks n⟩

theorem Heard.set {f v} (h : Heard s₀ s) : Heard s₀ (State.set s f v) := ⟨h.held, h.marks⟩

theorem Heard.updRef {c f} (h : Heard s₀ s) (hf : ∀ r, (f r).held = r.held) : Heard s₀ (s.updRef c f) :=
  ⟨fun j => (proj_getD_modAt RefSt.held hf s.ref c j {}).trans (h.held j), h.marks⟩

theorem Heard.updTdc {n f} (h : Heard s₀ s) (hf : ∀ d, (f d).marks = d.marks) : Heard s₀ (s.updTdc n f) :=
  ⟨h.held, fun j => (proj_getD_modAt TdcSt.marks hf s.tdc n j {}).trans (h.marks j)⟩

theorem Heard.flag {f ev inst detail} (h : Heard s₀ s) : Heard s₀ (s.flag f ev inst detail) :=
  h.of_parts (State.flag_ref _ _ _ _ _) (State.flag_tdc _ _ _ _ _)

theorem Heard.tdcMark {f n} (h : Heard s₀ s) : Heard s₀ (s.tdcMark f n) := .ite (.flag h) (.of_parts h rfl rfl)

theorem Heard.gainActivity {c} (h : Heard s₀ s) : Heard s₀ (s.gainActivity c) :=
  .then (s := s.set (F.REF_STAT.ACTIVITY c) 1) (.of_parts h rfl rfl) (s.gainActivity_same c)

theorem Heard.judgePulse {c g} (h : Heard s₀ s) : Heard s₀ (s.judgePulse c g).1 := by
  unfold State.judgePulse
  extract_lets f per
  split
  · exact .gainActivity (.updRef h fun _ => rfl)
  · extract_lets d
    split
    · exact .flag h
    · split
      · exact .gainActivity (.updRef h fun _ => rfl)
      · exact .gainActivity (.updRef h fun _ => rfl)

theorem Heard.gateStamp {n g edge stamp} (h : Heard s₀ s) : Heard s₀ (s.gateStamp n g edge stamp).1 := by
  unfold State.gateStamp
  dsimp only
  split
  · exact h
  · split
    · exact h
    · exact .of_parts h rfl rfl

theorem Heard.freqStamp {n c g} (h : Heard s₀ s) : Heard s₀ (s.freqStamp n c g) := by
  unfold State.freqStamp
  extract_lets _ a b _ _
  have ha : Heard s₀ a := by
    unfold a
    split
    · exact .ite (.updTdc (.gateStamp h) fun _ => rfl) h
    · exact h
  have hb : Heard s₀ b := by
    unfold b
    split
    · exact .ite (.updTdc (.gateStamp ha) fun _ => rfl) ha
    · exact ha
  refine ⟨hb.held, fun n => Eq.trans ?_ (hb.marks n)⟩
  refine proj_getD_map (f := fun d : TdcSt => { d with gate := _, closing := _ }) TdcSt.marks (fun _ => ?_) b.tdc n {}
  rfl

/-- A released stamp changes neither the stamps still held nor what the TDC has marked. -/
theorem Heard.releaseStamp {n c g} (h : Heard s₀ s) : Heard s₀ (s.releaseStamp n c g) := by
  unfold State.releaseStamp
  extract_lets s' k
  have hs : Heard s₀ s' := .ite (.updTdc h fun _ => rfl) h
  have hj : Heard s₀ (if g.cls = 0 then s'.judgePulse c g else (s', some g)).1 := by split; exacts [.judgePulse hs, hs]
  refine .ite (.of_parts hs rfl rfl) (.ite ?_ (.ite (.updRef hs fun _ => rfl) (.ite (.freqStamp hs) hs)))
  dsimp only
  split
  · exact hj
  · exact .ite (.ite (.tdcMark (.of_parts hj rfl rfl)) (.updRef hj fun _ => rfl)) (.then (q := false) hj (.phaseResult (.refl _)))

end

/-! Edges at a TDC channel. -/

theorem State.td_updTdc_self {s : State} {n : Nat} (hs : StateShape s) (hn : n < 24) (f : TdcSt → TdcSt) : (s.updTdc n f).td n = f (s.td n) :=
  getD_modAt_self f _ (by rw [hs.tdcs]; exact hn)

theorem Heard.openGate {s₀ s : State} {n c tick : Nat} {free : Bool} (h : Heard s₀ s) : Heard s₀ (s.openGate n c tick free) :=
  .set (.set (.updTdc h fun _ => rfl))

theorem Heard.rollGate {s₀ s : State} {n : Nat} (h : Heard s₀ s) : Heard s₀ (s.rollGate n) :=
  .ite (by split; exacts [.ite (.openGate h) h, .ite (.openGate (.updTdc h fun _ => rfl)) h]) h

/-- A stamp taken at a channel keeps what the TDC has marked but for the stamp itself. -/
theorem State.stampTaken_marks {s : State} {n : Nat} (hs : StateShape s) (hn : n < 24) (at16 edge : Nat) (calErr : Bool) :
    ((s.stampTaken n at16 edge calErr).td n).marks = ((s.td n).h0, (s.td n).h1, (s.td n).edges,
      (at16, s.raw) :: (s.td n).stamps.filter (fun p => decide (s.raw < p.2 + 2200000000))) := by
  unfold State.stampTaken
  extract_lets a st b h c
  have ha : (a.td n).marks = ((s.td n).h0, (s.td n).h1, (s.td n).edges,
      (at16, s.raw) :: (s.td n).stamps.filter (fun p => decide (s.raw < p.2 + 2200000000))) := by
    rw [State.td_updTdc_self hs hn]; rfl
  have hb : Heard a b := .ite (.refl a) (.updTdc (.refl a) fun _ => rfl)
  refine Eq.trans ?_ ((hb.marks n).trans ha)
  have hrel : Heard b (b.releaseStamp n c h) := .releaseStamp (.refl b)
  have hrec : RefSame false b ((if calErr then b.updTdc n (fun d => { d with calErr := true }) else b).record n 1 2 0 (crumbOf at16) edge 0 0) :=
    .record (.ite (.updTdc (.refl b) fun _ => rfl) (.refl b))
  split
  · split
    · rfl
    · split
      · exact hrel.marks n
      · rfl
  · exact hrec.marks n

theorem State.rollGate_same (s : State) (n : Nat) : Heard s (s.rollGate n) := .rollGate (.refl s)

/-- Rolling a gate writes only its decimation and its bit. -/
theorem State.get_rollGate_ne (s : State) (n : Nat) {g : Fld} (hd : g.key ≠ (F.TDC_DEC.D n).key) (hg : g.key ≠ (F.TDC_STAT.GATE n).key) :
    (s.rollGate n).get g = s.get g := by
  have hopen : ∀ (u : State) (c tick : Nat) (free : Bool), (u.openGate n c tick free).get g = u.get g := fun u c tick free =>
    (State.get_set_ne _ _ hg).trans (State.get_set_ne _ _ hd)
  unfold State.rollGate
  dsimp only
  split
  · split
    · split
      · exact hopen s _ _ _
      · rfl
    · split
      · exact hopen _ _ _ _
      · rfl
  · rfl

theorem State.rollGate_raw (s : State) (n : Nat) : (s.rollGate n).raw = s.raw := by
  unfold State.rollGate
  dsimp only
  split
  · split <;> split <;> rfl
  · rfl

/-- One half of a channel's interpolator. -/
def TdcSt.half (d : TdcSt) (k : Nat) : Half := if k = 0 then d.h0 else d.h1

/-- A channel whose half has lost its calibration pair. -/
def TdcSt.disarm (d : TdcSt) (k : Nat) : TdcSt := if k = 0 then { d with h0 := { d.h0 with pair := none } } else { d with h1 := { d.h1 with pair := none } }

theorem TdcSt.marks_half {d e : TdcSt} (h : d.marks = e.marks) (k : Nat) : d.half k = e.half k := by
  unfold TdcSt.marks at h
  simp only [Prod.mk.injEq] at h
  unfold TdcSt.half
  rw [h.1, h.2.1]

/-- The state in which an edge is counted. -/
def State.counted (s : State) (n : Nat) : State := (s.rollGate n).updTdc n (fun d => { d with edges := d.edges + 1 })

theorem State.counted_marks {s : State} {n : Nat} (hs : StateShape s) (hn : n < 24) :
    ((s.counted n).td n).marks = ((s.td n).h0, (s.td n).h1, (s.td n).edges + 1, (s.td n).stamps) := by
  have hroll := (s.rollGate_same n).marks n
  have hshape : StateShape (s.rollGate n) := (Keeps.rollGate (.refl s) : Keeps .all s _).shape hs
  unfold TdcSt.marks at hroll
  simp only [Prod.mk.injEq] at hroll
  obtain ⟨h0, h1, hedges, hstamps⟩ := hroll
  rw [State.counted, State.td_updTdc_self hshape hn, ← h0, ← h1, ← hedges, ← hstamps]
  rfl

theorem State.counted_half {s : State} {n : Nat} (hs : StateShape s) (hn : n < 24) (k : Nat) : ((s.counted n).td n).half k = (s.td n).half k := by
  have h := State.counted_marks hs hn
  unfold TdcSt.marks at h
  simp only [Prod.mk.injEq] at h
  unfold TdcSt.half
  rw [h.1, h.2.1]

/-- An edge without a time is counted as missed. -/
theorem State.tdcEdge_missed {s : State} {n half code kStop : Nat} (hs : StateShape s) (hn : n < 24)
    (hm : ((s.td n).half half).pair.bind (fun p => eventTime p.1 p.2.1 code kStop) = none) :
    s.tdcEdge n half code kStop =
      (((s.counted n).bumpSat (F.TDC_CNT.MISS n)).set (F.TDC_STAT.MISSED n) 1).updTdc n (fun d => { d with missed := true }) := by
  unfold State.tdcEdge
  extract_lets r a h
  have hh : h = (s.td n).half half := State.counted_half hs hn half
  rw [hh, hm]
  rfl

/-- An edge with a time is stamped, and its half disarmed. -/
theorem State.tdcEdge_taken {s : State} {n half code kStop t : Nat} (hs : StateShape s) (hn : n < 24)
    (hm : ((s.td n).half half).pair.bind (fun p => eventTime p.1 p.2.1 code kStop) = some t) :
    s.tdcEdge n half code kStop = (((s.counted n).updTdc n (·.disarm half)).showArmed n).stampTaken n t ((s.rollGate n).td n).edges
      ((s.td n).half half).bad := by
  unfold State.tdcEdge
  extract_lets r a h
  have hh : h = (s.td n).half half := State.counted_half hs hn half
  rw [hh, hm]
  rfl

/-- What the TDC has marked after an edge with a time. -/
theorem State.tdcEdge_taken_marks {s : State} {n half code kStop t : Nat} (hs : StateShape s) (hn : n < 24)
    (hm : ((s.td n).half half).pair.bind (fun p => eventTime p.1 p.2.1 code kStop) = some t) : ∃ l,
    ((s.tdcEdge n half code kStop).td n).marks =
      (((s.td n).disarm half).h0, ((s.td n).disarm half).h1, (s.td n).edges + 1, (t, s.raw) :: l) := by
  have hkeep : Keeps .all s (s.counted n) := .updTdc (.rollGate (.refl s))
  have hmarks := State.counted_marks hs hn
  unfold TdcSt.marks at hmarks
  simp only [Prod.mk.injEq] at hmarks
  obtain ⟨h0, h1, hedges, -⟩ := hmarks
  let b := ((s.counted n).updTdc n (·.disarm half)).showArmed n
  have hb : b.td n = ((s.counted n).td n).disarm half := State.td_updTdc_self (hkeep.shape hs) hn _
  have hshape : StateShape b := (Keeps.showArmed (.updTdc hkeep) : Keeps .all s b).shape hs
  refine ⟨(b.td n).stamps.filter (fun p => decide (b.raw < p.2 + 2200000000)), ?_⟩
  rw [State.tdcEdge_taken hs hn hm, State.stampTaken_marks hshape hn]
  have hbraw : b.raw = s.raw := s.rollGate_raw n
  show ((b.td n).h0, (b.td n).h1, (b.td n).edges, (t, b.raw) :: _) = _
  rw [hb, hbraw]
  unfold TdcSt.disarm
  split <;> simp only [h0, h1, hedges]

/-- An edge is counted, whether its half is armed or not. -/
theorem State.tdcEdge_edges {s : State} {n : Nat} (hs : StateShape s) (hn : n < 24) (half code kStop : Nat) :
    ((s.tdcEdge n half code kStop).td n).edges = (s.td n).edges + 1 := by
  cases hm : ((s.td n).half half).pair.bind (fun p => eventTime p.1 p.2.1 code kStop) with
  | none =>
    have hkeep : Keeps .all s (((s.counted n).bumpSat (F.TDC_CNT.MISS n)).set (F.TDC_STAT.MISSED n) 1) :=
      .set (.bumpSat (.updTdc (.rollGate (.refl s))))
    rw [State.tdcEdge_missed hs hn hm, State.td_updTdc_self (hkeep.shape hs) hn]
    exact congrArg (·.2.2.1) (State.counted_marks hs hn)
  | some t =>
    obtain ⟨l, hl⟩ := State.tdcEdge_taken_marks hs hn hm
    exact congrArg (·.2.2.1) hl

end Sys2Proof.Machine

/-! PROOF. Pulse edges, activity and IRIG-B frames (R144, R145, R147). -/

namespace Sys2Proof.Machine

/-! Judging a stamp. -/

/-- The nominal period of a pulse channel in sixteenths of a crumb. -/
def State.period16 (s : State) (c : Nat) : Rat := 320000000000 * 16 * 65536 / s.get (F.REF_NOMFREQ.FREQ c)

/-- A stamp that follows the last accepted edge too soon is spurious. -/
theorem State.judgePulse_spurious {s : State} {c l : Nat} {h : Held} (hl : (s.rf c).lastEdge = some l) (hf : 0 < s.get (F.REF_NOMFREQ.FREQ c))
    (hd : (h.at16 : Rat) - l < 9 / 10 * s.period16 c) : s.judgePulse c h = (s.refFlag (F.REF_STAT.SPUR c) c, none) := by
  unfold State.judgePulse
  dsimp only
  rw [if_neg (by omega)]
  split
  · next hn => rw [hl] at hn; cases hn
  · next l' hl' => cases hl.symm.trans hl'; exact if_pos hd

/-- A stamp about one period after the last accepted edge is accepted. -/
theorem State.judgePulse_accepted {s : State} {c l : Nat} {h : Held} (hl : (s.rf c).lastEdge = some l) (hf : 0 < s.get (F.REF_NOMFREQ.FREQ c))
    (hlo : 9 / 10 * s.period16 c ≤ (h.at16 : Rat) - l) (hhi : (h.at16 : Rat) - l ≤ 11 / 10 * s.period16 c) :
    s.judgePulse c h = ((s.updRef c (fun r => { r with lastEdge := some h.at16 })).gainActivity c, some { h with cls := 1 }) := by
  unfold State.judgePulse
  dsimp only
  rw [if_neg (by omega)]
  split
  · next hn => rw [hl] at hn; cases hn
  · next l' hl' => cases hl.symm.trans hl'; exact (if_neg (not_lt.mpr hlo)).trans (if_pos hhi)

theorem execPulseEdge_of_kind {s : State} {c : Nat} (hc : c < 16) (hk : s.kind c = 2) : exec (.pulseEdge c) s = .next (s.judgeOldest c) := by
  change onUnit _ _ = _
  rw [onUnit_lt hc, hk]
  rfl

/-- What becomes of the list of held stamps when the first one that is not judged yet is judged. -/
def heldAfter (l : List Held) (i : Nat) : Option Held → List Held
  | none => l.eraseIdx i
  | some g => l.set i g

theorem State.judgeOldest_of_some {s : State} {c : Nat} {h : Held} {j : State × Option Held} (hh : (s.rf c).held.find? (fun h => h.cls == 0) = some h)
    (hj : s.judgePulse c h = j) : s.judgeOldest c =
      j.1.updRef c (fun r => { r with held := heldAfter r.held ((s.rf c).held.findIdx (fun h => h.cls == 0)) j.2 }) := by
  unfold State.judgeOldest
  split
  · next hn => rw [hh] at hn; cases hn
  · next h' hh' =>
    cases hh.symm.trans hh'
    dsimp only
    rw [hj]
    rcases j with ⟨t, _ | g⟩ <;> rfl

/-- The stamp to be judged stands in the list. -/
theorem findIdx_lt_of_find? {l : List Held} {h : Held} {p : Held → Bool} (hh : l.find? p = some h) : l.findIdx p < l.length :=
  List.findIdx_lt_length_of_exists ⟨h, List.mem_of_find?_eq_some hh, List.find?_some hh⟩

theorem State.pulseEdge_spurious {s : State} {c l : Nat} {h : Held} (hs : StateShape s) (hc : c < 16) (hk : s.kind c = 2)
    (hh : (s.rf c).held.find? (fun h => h.cls == 0) = some h) (hl : (s.rf c).lastEdge = some l) (hf : 0 < s.get (F.REF_NOMFREQ.FREQ c))
    (hd : (h.at16 : Rat) - l < 9 / 10 * s.period16 c) : ∃ t, exec (.pulseEdge c) s = .next t ∧ t.bit (F.REF_STAT.SPUR c) = true ∧
      (t.rf c).lastEdge = some l ∧ (t.rf c).held.length + 1 = (s.rf c).held.length ∧ RegsBut [F.REF_STAT.SPUR c] s t ∧ MemorySame s t := by
  have hkeep : Keeps .all s (s.refFlag (F.REF_STAT.SPUR c) c) := .refFlag (.refl s)
  have hrf : (s.refFlag (F.REF_STAT.SPUR c) c).rf c = s.rf c := by rw [State.rf, State.refFlag, State.flag_ref, State.rf]
  refine ⟨_, execPulseEdge_of_kind hc hk, ?_⟩
  rw [State.judgeOldest_of_some hh (State.judgePulse_spurious hl hf hd), State.rf_updRef_self (hkeep.shape hs) hc, hrf]
  refine ⟨State.flag_get s _ _ (by omega) rfl (by apply Fld.blk_ne; omega), hl, ?_, .of_regs (.flag (.refl _ s) (by omega) (by simp)) rfl, ?_⟩
  · have hi := findIdx_lt_of_find? hh
    show ((s.rf c).held.eraseIdx _).length + 1 = _
    rw [List.length_eraseIdx_of_lt hi]
    omega
  · exact (Keeps.updRef hkeep : Keeps .all s _).memorySame

theorem State.pulseEdge_accepted {s : State} {c l : Nat} {h : Held} (hs : StateShape s) (hc : c < 16) (hk : s.kind c = 2)
    (hh : (s.rf c).held.find? (fun h => h.cls == 0) = some h) (hl : (s.rf c).lastEdge = some l) (hf : 0 < s.get (F.REF_NOMFREQ.FREQ c))
    (hlo : 9 / 10 * s.period16 c ≤ (h.at16 : Rat) - l) (hhi : (h.at16 : Rat) - l ≤ 11 / 10 * s.period16 c) :
    ∃ t, exec (.pulseEdge c) s = .next t ∧ t.bit (F.REF_STAT.ACTIVITY c) = true ∧ (t.rf c).lastEdge = some h.at16 ∧
      (t.rf c).held.length = (s.rf c).held.length ∧ MemorySame s t := by
  let u := s.updRef c (fun r => { r with lastEdge := some h.at16 })
  have hself : u.rf c = { s.rf c with lastEdge := some h.at16 } := State.rf_updRef_self hs hc _
  have hkeep : Keeps .all s (u.gainActivity c) := .gainActivity (.updRef (.refl s))
  have hsame := u.gainActivity_same c
  have hedge : ((u.gainActivity c).rf c).lastEdge = some h.at16 := (hsame.lastEdge c).trans (congrArg RefSt.lastEdge hself)
  have hheld : ((u.gainActivity c).rf c).held = (s.rf c).held := (hsame.held c).trans (show (u.rf c).held = _ by rw [hself])
  refine ⟨_, execPulseEdge_of_kind hc hk, ?_⟩
  rw [State.judgeOldest_of_some hh (State.judgePulse_accepted hl hf hlo hhi), State.rf_updRef_self (hkeep.shape hs) hc]
  refine ⟨State.bit_gainActivity u c, hedge, ?_, (Keeps.updRef hkeep : Keeps .all s _).memorySame⟩
  show (((u.gainActivity c).rf c).held.set _ _).length = _
  rw [List.length_set, hheld]

/-! The end of activity. -/

theorem State.activityTimeout_ends {s : State} {c l : Nat} (hc : c < 16) (hk : s.kind c = 2) (hl : (s.rf c).lastEdge = some l)
    (hf : 0 < s.get (F.REF_NOMFREQ.FREQ c)) (hd : (l : Rat) + 5 / 2 * s.period16 c ≤ (s.now * 16 : Nat)) :
    ∃ t, exec (.activityTimeout c) s = .next t ∧ t.bit (F.REF_STAT.ACTIVITY c) = false := by
  refine ⟨(s.updRef c (fun r => { r with lastEdge := none })).loseActivity c, ?_, State.bit_loseActivity _ c⟩
  change onUnit _ _ = _
  rw [onUnit_lt hc, hk]
  show Host.Outcome.next (match (s.rf c).lastEdge with | none => s | some l => _) = _
  rw [hl]
  dsimp only
  unfold State.period16 at hd
  rw [if_neg (by omega), decide_eq_true hd]
  rfl

theorem State.freqActivity_shows {s : State} {c n : Nat} (hc : c < 16) (hk : freqOnly (s.kind c) = true) (hm : s.raw % 625000 = 0)
    (hn : s.tdcOf c = some n) : ∃ t, exec (.freqActivityCount c) s = .next t ∧
      t.bit (F.REF_STAT.ACTIVITY c) = decide (s.get (F.REF_NOMFREQ.FREQ c) ≤ 2 * ((s.td n).edges - (s.td n).countAt) * 65536000 *
          2 ^ (if s.bit (F.TDC_CFG.PRESCALE n) then s.get (F.TDC_CFG.PSK n) + 1 else 0)) := by
  let u := s.updTdc n (fun d => { d with countAt := d.edges })
  let p := s.get (F.REF_NOMFREQ.FREQ c) ≤ 2 * ((s.td n).edges - (s.td n).countAt) * 65536000 *
    2 ^ (if s.bit (F.TDC_CFG.PRESCALE n) then s.get (F.TDC_CFG.PSK n) + 1 else 0)
  refine ⟨if p then u.gainActivity c else u.loseActivity c, ?_, ?_⟩
  · change onUnit _ _ = _
    rw [onUnit_lt hc, hk, hm]
    show Host.Outcome.next (match s.tdcOf c with | none => s | some n => _) = _
    rw [hn]
  · by_cases h : p
    · rw [if_pos h, State.bit_gainActivity]
      exact (decide_eq_true h).symm
    · rw [if_neg h, State.bit_loseActivity]
      exact (decide_eq_false h).symm

/-! IRIG-B frames. -/

theorem State.irigFail_shows {s : State} {c : Nat} (hs : StateShape s) (hc : c < 16) :
    (s.irigFail c).bit (F.REF_STAT.LABELERR c) = true ∧ ((s.irigFail c).rf c).failed = (s.rf c).failed + 1 ∧ ((s.irigFail c).rf c).good = 0 := by
  have hkeep : Keeps .all s (s.refFlag (F.REF_STAT.LABELERR c) c) := .refFlag (.refl s)
  have hrf : (s.refFlag (F.REF_STAT.LABELERR c) c).rf c = s.rf c := by rw [State.rf, State.refFlag, State.flag_ref, State.rf]
  have herr : (s.refFlag (F.REF_STAT.LABELERR c) c).bit (F.REF_STAT.LABELERR c) = true :=
    State.flag_get s _ _ (by omega) rfl (by apply Fld.blk_ne; omega)
  unfold State.irigFail
  extract_lets a
  have ha : a.rf c = { s.rf c with failed := (s.rf c).failed + 1, good := 0 } := by
    rw [← hrf]
    exact State.rf_updRef_self (hkeep.shape hs) hc _
  split
  · have hsame := (a.set (F.REF_STAT.LABELLED c) 0).loseActivity_same c
    refine ⟨?_, (hsame.failed c).trans (congrArg RefSt.failed ha), (hsame.good c).trans (congrArg RefSt.good ha)⟩
    rw [State.bit_eq_of_get (State.get_loseActivity_ne _ c (by apply Fld.refKey rfl; omega) (by apply Fld.key_ne; omega)),
      State.bit_set_ne _ _ (by apply Fld.key_ne; omega)]
    exact herr
  · exact ⟨herr, congrArg RefSt.failed ha, congrArg RefSt.good ha⟩

/-- The channel after a frame that decodes, before its Pr edge gives a phase result. -/
theorem State.irigGood_same (s : State) (c : Nat) (f : List Nat) (v pr16 : Nat) : ∃ (b : State) (g : RefSt → RefSt),
    RefSame false ((b.gainActivity c)) (s.irigGood c f v pr16) ∧ b.rf c = (s.updRef c g).rf c ∧ (∀ r, (g r).lastTime = v ∧ (g r).failed = 0) := by
  unfold State.irigGood
  extract_lets ts r leap follows a q uk b d e tai
  refine ⟨d, fun q => { q with good := if follows then 2 else 1, failed := 0, lastTime := v, announced := some leap, heardAt := s.raw },
    ?_, rfl, fun r => ⟨rfl, rfl⟩⟩
  split
  · exact .refl _
  · exact .ite (.refl _) (.phaseResult (.refl _))

theorem State.irigGood_shows {s : State} {c : Nat} (hs : StateShape s) (hc : c < 16) (f : List Nat) (v pr16 : Nat) :
    ((s.irigGood c f v pr16).rf c).lastTime = v ∧ ((s.irigGood c f v pr16).rf c).failed = 0 ∧
      (s.irigGood c f v pr16).bit (F.REF_STAT.ACTIVITY c) = true := by
  obtain ⟨b, g, hsame, hb, hg⟩ := s.irigGood_same c f v pr16
  have hall := (b.gainActivity_same c).trans hsame
  have hbc : b.rf c = g (s.rf c) := hb.trans (State.rf_updRef_self hs hc g)
  refine ⟨(hall.lastTime c).trans ?_, (hall.failed c).trans ?_, ?_⟩
  · exact (congrArg RefSt.lastTime hbc).trans (hg _).1
  · exact (congrArg RefSt.failed hbc).trans (hg _).2
  · rw [hsame.bit (by apply Fld.refKey rfl; omega)]
    exact State.bit_gainActivity b c

/-- The Pr stamps of a channel after a frame with the stamp at `pr16`. -/
def State.framed (s : State) (c pr16 : Nat) : State := s.updRef c (fun r => { r with prs := r.prs.filter (fun p => decide (pr16 < p)) })

theorem execIrigFrame_of_pr {s : State} {c code pr16 : Nat} (widths : List Nat) (hc : c < 16) (hcode : code < 8) (hk : s.kind c = 4)
    (hpr : pr16 ∈ (s.rf c).prs) : exec (.irigFrame c code widths pr16) s = .next (
      if (widths.map irigClass).any (·.isNone) then (s.framed c pr16).irigFail c
      else match (s.framed c pr16).irigSecond code ((widths.map irigClass).map (fun o => o.getD 3)) (s.get (F.REF_CFG.TSCALE c) == 1) with
        | none => (s.framed c pr16).irigFail c
        | some t =>
          if code < 4 ∧ !(s.framed c pr16).timeKnown then (s.framed c pr16).updRef c (fun r => { r with failed := 0 })
          else (s.framed c pr16).irigGood c ((widths.map irigClass).map (fun o => o.getD 3)) t pr16) := by
  change onUnit _ _ = _
  rw [decide_eq_true hc, decide_eq_true hcode, hk, show (s.rf c).prs.any (· == pr16) = true from List.any_eq_true.mpr ⟨_, hpr, beq_self_eq_true _⟩]
  rfl

theorem State.irigFrame_fails {s : State} {c code pr16 : Nat} {widths : List Nat} (hs : StateShape s) (hc : c < 16) (hcode : code < 8)
    (hk : s.kind c = 4) (hpr : pr16 ∈ (s.rf c).prs) (hw : ∃ w ∈ widths, irigClass w = none) :
    ∃ t, exec (.irigFrame c code widths pr16) s = .next t ∧ t.bit (F.REF_STAT.LABELERR c) = true ∧ (t.rf c).failed = (s.rf c).failed + 1 ∧
      (t.rf c).good = 0 := by
  have hany : (widths.map irigClass).any (·.isNone) = true := by simpa using hw
  have hrf : (s.framed c pr16).rf c = _ := State.rf_updRef_self hs hc _
  obtain ⟨herr, hfail, hgood⟩ := State.irigFail_shows (s := s.framed c pr16) (State.updRef_shape hs c _) hc
  refine ⟨_, execIrigFrame_of_pr widths hc hcode hk hpr, ?_⟩
  rw [if_pos hany]
  exact ⟨herr, hfail.trans (congrArg (·.failed + 1) hrf), hgood⟩

theorem State.irigFrame_decodes {s : State} {c code pr16 v : Nat} {widths : List Nat} (hs : StateShape s) (hc : c < 16) (hcode : code < 8)
    (hk : s.kind c = 4) (hpr : pr16 ∈ (s.rf c).prs) (hw : ∀ w ∈ widths, irigClass w ≠ none)
    (hv : s.irigSecond code (widths.map (fun w => (irigClass w).getD 3)) (s.get (F.REF_CFG.TSCALE c) == 1) = some v)
    (hyear : 4 ≤ code ∨ s.timeKnown = true) : ∃ t, exec (.irigFrame c code widths pr16) s = .next t ∧ (t.rf c).lastTime = v ∧ (t.rf c).failed = 0 ∧
        t.bit (F.REF_STAT.ACTIVITY c) = true := by
  have hany : ¬ (widths.map irigClass).any (·.isNone) = true := by simpa using hw
  have hsec : (s.framed c pr16).irigSecond code ((widths.map irigClass).map (fun o => o.getD 3)) (s.get (F.REF_CFG.TSCALE c) == 1) = some v := by
    rw [List.map_map]
    exact hv
  have hknown : ¬ (code < 4 ∧ (!(s.framed c pr16).timeKnown) = true) := by
    rintro ⟨hlt, hk⟩
    obtain hge | ht := hyear
    · omega
    · rw [show (s.framed c pr16).timeKnown = s.timeKnown from rfl, ht] at hk
      cases hk
  refine ⟨_, execIrigFrame_of_pr widths hc hcode hk hpr, ?_⟩
  rw [if_neg hany, hsec]
  dsimp only
  rw [if_neg hknown]
  exact State.irigGood_shows (State.updRef_shape hs c _) hc _ v pr16

/-- Settles O14, from what judging a stamp, losing activity and decoding a frame leave. -/
theorem pulsesAndIrig : Obligations.PulsesAndIrig :=
  ⟨⟨fun _ _ _ _ hs hc hk hh hl hf hd => State.pulseEdge_spurious hs hc hk hh hl hf hd,
      fun _ _ _ _ hs hc hk hh hl hf hlo hhi => State.pulseEdge_accepted hs hc hk hh hl hf hlo hhi,
      fun _ _ _ hc hk hl hf hd => State.activityTimeout_ends hc hk hl hf hd,
      fun _ _ _ hc hk hm hn => State.freqActivity_shows hc hk hm hn⟩,
    fun _ _ _ _ _ hs hc hcode hk hpr hw => State.irigFrame_fails hs hc hcode hk hpr hw,
    fun _ _ _ _ _ _ hs hc hcode hk hpr hw hv hyear => State.irigFrame_decodes hs hc hcode hk hpr hw hv hyear⟩

end Sys2Proof.Machine

/-! PROOF. The GNSS reference (R149, R565) and its antenna feed (R151). -/

namespace Sys2Proof.Machine

/-! A solution. -/

/-- What a solution shows. -/
def ShowsSolution (s : State) (c fix used : Nat) (t : State) : Prop :=
  t.get F.GNS_STAT.FIX = fix ∧ t.get F.GNS_STAT.USED = min 255 used ∧ t.get F.GNS_SOLN.SOLN = (s.get F.GNS_SOLN.SOLN + 1) % 2 ^ 32 ∧
    t.get (F.REF_QUAL.RAW c) = fix

/-- Labelling the channel and what follows it show nothing else. -/
theorem ShowsSolution.same {s t u : State} {c fix used : Nat} (h : ShowsSolution s c fix used t)
    (hu : ∀ g : Fld, RefKey false g.key → g.key ≠ (F.REF_STAT.ACTIVITY c).key → g.key ≠ (F.REF_STAT.LABELLED c).key → u.get g = t.get g) :
    ShowsSolution s c fix used u := by
  obtain ⟨hfix, hused, hsoln, hraw⟩ := h
  refine ⟨(hu _ ?_ ?_ ?_).trans hfix, (hu _ ?_ ?_ ?_).trans hused, (hu _ ?_ ?_ ?_).trans hsoln, (hu _ ?_ ?_ ?_).trans hraw⟩
  all_goals first
    | (apply Fld.refKey rfl; omega)
    | (apply Fld.key_ne; omega)

/-- The fields a solution sets before its position. -/
theorem ShowsSolution.sets {s b : State} (hb : b.regs = s.regs) {c fix used : Nat} (hfix : fix < 4)
    (aux ukind hold survey moved left age : Nat) : ShowsSolution s c fix used ((b.sets [(F.REF_QUAL.RAW c, fix), (F.REF_QUAL.AUX c, aux), (F.REF_UKIND.UKIND c, ukind), (F.GNS_STAT.FIX, fix),
      (F.GNS_STAT.HOLD, hold), (F.GNS_STAT.SURVEY, survey), (F.GNS_STAT.MOVED, moved), (F.GNS_STAT.USED, min 255 used), (F.GNS_SURVEY.LEFT, left),
      (F.GNS_AGE.AGE, age)]).bump F.GNS_SOLN.SOLN) := by
  refine ⟨?_, ?_, ?_, ?_⟩
  · rw [State.get_bump_ne _ _ (by decide)]
    exact (State.get_sets_at b [_, _, _] _ (by (repeat' apply And.intro) <;> (apply Fld.key_ne; omega))).trans (Nat.mod_eq_of_lt hfix)
  · rw [State.get_bump_ne _ _ (by decide)]
    exact (State.get_sets_at b [_, _, _, _, _, _, _] _ (by (repeat' apply And.intro) <;> (apply Fld.key_ne; omega))).trans (Nat.mod_eq_of_lt (show min 255 used < 2 ^ 8 by omega))
  · rw [State.get_bump_self, State.get_sets_off b (by (repeat' apply And.intro) <;> (apply Fld.key_ne; omega)),
      State.get_congr hb]
    rfl
  · rw [State.get_bump_ne _ _ (by apply Fld.key_ne; omega)]
    exact (State.get_sets_at b [] _ (by (repeat' apply And.intro) <;> (apply Fld.key_ne; omega))).trans
      (Nat.mod_eq_of_lt (show fix < 2 ^ 8 by omega))

/-- One entry of the table of satellites shows nothing else. -/
theorem ShowsSolution.satellite {s t : State} {c fix used k : Nat} (h : ShowsSolution s c fix used t) (hk : k < 64) (sys prn b1 b2 us cn el : Nat) :
    ShowsSolution s c fix used (t.sets [(F.GNS_SAT.SYS k, sys), (F.GNS_SAT.PRN k, prn), (F.GNS_SAT.BAND1 k, b1), (F.GNS_SAT.BAND2 k, b2),
      (F.GNS_SAT.USED k, us), (F.GNS_SAT.CN0 k, cn), (F.GNS_SAT.ELEV k, el)]) := by
  obtain ⟨hfix, hused, hsoln, hraw⟩ := h
  refine ⟨(State.get_sets_off t ?_).trans hfix, (State.get_sets_off t ?_).trans hused, (State.get_sets_off t ?_).trans hsoln,
    (State.get_sets_off t ?_).trans hraw⟩
  all_goals (repeat' apply And.intro) <;> (apply Fld.key_ne; omega)

theorem ShowsSolution.position {s t : State} {c fix used : Nat} (h : ShowsSolution s c fix used t) (lat lon hgt : Int) :
    ShowsSolution s c fix used (((t.setI F.GNS_LAT.LAT lat).setI F.GNS_LON.LON lon).setI F.GNS_HGT.HGT hgt) := by
  have hset : ∀ {u : State} {f : Fld} {v : Int}, f ∈ [F.GNS_LAT.LAT, F.GNS_LON.LON, F.GNS_HGT.HGT] → ShowsSolution s c fix used u →
      ShowsSolution s c fix used (u.setI f v) := by
    rintro u f v hf ⟨hfix, hused, hsoln, hraw⟩
    simp only [List.mem_cons, List.not_mem_nil, or_false] at hf
    refine ⟨(State.get_set_ne _ _ ?_).trans hfix, (State.get_set_ne _ _ ?_).trans hused, (State.get_set_ne _ _ ?_).trans hsoln,
      (State.get_set_ne _ _ ?_).trans hraw⟩
    all_goals obtain rfl | rfl | rfl := hf <;> (apply Fld.key_ne; omega)
  exact hset (by simp) (hset (by simp) (hset (by simp) h))

theorem State.fixOf_lt (s : State) (c used dual : Nat) (moved validated : Bool) : s.fixOf c used dual moved validated < 4 := by
  unfold State.fixOf
  dsimp only
  repeat' split
  all_goals omega

theorem State.gnssSolution_shows {s : State} {c : Nat} (tsys ukind used dual : Nat) (corr : Int) (moved validated : Bool) (pos : List Int)
    (sats : List Nat) (hc : s.channelOfKind 1 = some c) : ∃ t, exec (.gnssSolution tsys corr ukind used dual moved validated pos sats) s = .next t ∧
      ShowsSolution s c (s.fixOf c used dual moved validated) used t := by
  refine ⟨_, rfl, ?_⟩
  show ShowsSolution s c _ _ (match s.channelOfKind 1 with | none => s | some c => _)
  split
  · next h => rw [hc] at h; cases h
  · next c' h =>
    cases hc.symm.trans h
    extract_lets fix hold left _ a b d e g
    have hfix : fix < 4 := s.fixOf_lt c used dual moved validated
    have hb : ShowsSolution s c fix used (b.bump F.GNS_SOLN.SOLN) := .sets (b := a) rfl hfix _ _ _ _ _ _ _
    have hd : ShowsSolution s c fix used (d.setI F.GNS_HGT.HGT (pos.getD 2 0)) := hb.position _ _ _
    have he : ShowsSolution s c fix used e :=
      List.foldlRecOn (motive := fun t : State => ShowsSolution s c fix used t) _ _ hd
        fun t ht k hk => ht.satellite (List.mem_range.mp hk) _ _ _ _ _ _ _
    split
    · exact he
    · have hg : ShowsSolution s c fix used g := he.same fun f hf hact hlab => by
        rw [State.get_gainActivity_ne _ c hf hact, State.get_set_ne _ _ hlab, State.get_updRef]
      split
      · next at16 _ =>
        extract_lets
        split
        · exact hg
        · exact hg.same fun f hf _ _ => (RefSame.phaseResult (.refl _)).regs f hf
      · exact hg

theorem State.surveyComplete_holds {s : State} (hh : s.sel.posHeld = false) (hl : s.sel.surveyLeft = 0) :
    ∃ t, exec .gnssSurveyComplete s = .next t ∧ t.sel.posHeld = true ∧ t.bit F.GNS_STAT.HOLD = true ∧ t.bit F.GNS_STAT.SURVEY = false ∧
      RegsBut [F.GNS_STAT.HOLD, F.GNS_STAT.SURVEY, F.GNS_SURVEY.LEFT] s t ∧ MemorySame s t := by
  refine ⟨_, next_when (by rw [hh, hl]; rfl) _, rfl, ?_, ?_, .sets (.of_regs (.refl _ s) rfl) (by simp), .of_eq rfl rfl⟩
  · exact bne_iff_ne.mpr (ne_of_eq_of_ne (State.get_sets_at _ [] [_, _] ⟨by decide, by decide⟩) (by decide))
  · exact bne_eq_false_iff_eq.mpr (State.get_sets_at _ [_] [_] (by decide))

/-- A channel of a kind is one of the sixteen. -/
theorem State.lt_of_channelOfKind {s : State} {k c : Nat} (h : s.channelOfKind k = some c) : c < 16 :=
  List.mem_range.mp (List.mem_of_find?_eq_some h)

theorem State.noFixTimeout_ends {s : State} {c : Nat} (hc : s.channelOfKind 1 = some c) (ht : s.sel.lastFix + 5 * 625000000 ≤ s.raw) :
    ∃ t, exec .gnssNoFixTimeout s = .next t ∧ t.bit (F.REF_STAT.LABELLED c) = false ∧ t.bit (F.REF_STAT.ACTIVITY c) = false ∧
      t.get (F.REF_UKIND.UKIND c) = 0xFFFFFFFF := by
  let u := s.sets [(F.REF_STAT.LABELLED c, 0), (F.REF_QUAL.RAW c, 0), (F.REF_UKIND.UKIND c, unbounded)]
  refine ⟨u.loseActivity c, ?_, ?_, State.bit_loseActivity u c, ?_⟩
  · show Host.Outcome.next (match s.channelOfKind 1 with | none => s | some c => _) = _
    rw [hc]
    exact next_when (decide_eq_true ht) _
  · rw [State.bit, State.get_loseActivity_ne u c (by apply Fld.refKey rfl; omega) (by apply Fld.key_ne; omega)]
    exact bne_eq_false_iff_eq.mpr (State.get_sets_at s [] _ ⟨by apply Fld.key_ne; omega, by apply Fld.key_ne; omega⟩)
  · rw [State.get_loseActivity_ne u c (by apply Fld.refKey rfl; omega) (by apply Fld.key_ne; omega)]
    exact State.get_sets_at s [_, _] [] trivial

theorem State.lt_of_tdcOf {s : State} {c n : Nat} (h : s.tdcOf c = some n) : n < 24 := List.mem_range.mp (List.mem_of_find?_eq_some h)

theorem State.epochStrobe_counts {s : State} {n half : Nat} (code kStop : Nat) (hs : StateShape s) (hh : half < 2)
    (hn : (s.channelOfKind 1).bind s.tdcOf = some n) :
    ∃ t, exec (.gnssEpochStrobe half code kStop) s = .next t ∧ (t.td n).edges = (s.td n).edges + 1 := by
  obtain ⟨c, -, hc⟩ := Option.bind_eq_some_iff.mp hn
  refine ⟨_, ?_, State.tdcEdge_edges hs (State.lt_of_tdcOf hc) half code kStop⟩
  change onUnit _ _ = _
  rw [onUnit_lt hh, hn]

/-! The antenna. -/

/-- What the antenna's registers show: the current, an antenna, a short, an open feed, and the feed. -/
def AntShows (current : Nat) (ant short open_ feed : Bool) (t : State) : Prop :=
  t.get F.REF_ANT.CURRENT = current ∧ t.bit F.REF_PRES.ANT = ant ∧ t.bit F.REF_ANT.SHORT = short ∧ t.bit F.REF_ANT.OPEN = open_ ∧
    t.bit F.REF_ANT.FEEDON = feed

/-- The fields of `AntShows`. -/
def antFields : List Fld := [F.REF_ANT.CURRENT, F.REF_PRES.ANT, F.REF_ANT.SHORT, F.REF_ANT.OPEN, F.REF_ANT.FEEDON]

theorem antFields_ne {g : Fld} (hg : g ∈ antFields) {c o l w r : Nat} {k : Nat} (hk : k = (c * 0x4000000 + o) * 32 + l)
    (h : k % 0x80000000 < 0xC000500 ∨ 0xC000586 < k % 0x80000000) : g.key ≠ Fld.key ⟨c, o, l, w, r⟩ := by
  intro he
  have hr : ∀ g ∈ antFields, 0xC000500 ≤ g.key ∧ g.key ≤ 0xC000586 := by decide
  have hg' := hr g hg
  rw [he] at hg'
  unfold Fld.key at hg'
  dsimp only at hg'
  omega

section
variable {current : Nat} {ant short open_ feed : Bool} {t u : State}

theorem AntShows.keep (h : AntShows current ant short open_ feed t) (hu : ∀ g ∈ antFields, u.get g = t.get g) :
    AntShows current ant short open_ feed u := by
  obtain ⟨hcur, hant, hshort, hopen, hfeed⟩ := h
  exact ⟨(hu _ (by decide)).trans hcur, (State.bit_eq_of_get (hu _ (by decide))).trans hant, (State.bit_eq_of_get (hu _ (by decide))).trans hshort,
    (State.bit_eq_of_get (hu _ (by decide))).trans hopen, (State.bit_eq_of_get (hu _ (by decide))).trans hfeed⟩

theorem AntShows.setShort (h : AntShows current ant short open_ feed t) (b : Bool) : AntShows current ant b open_ feed (t.setBit F.REF_ANT.SHORT b) := by
  obtain ⟨hcur, hant, -, hopen, hfeed⟩ := h
  exact ⟨(State.get_set_ne t _ (by decide)).trans hcur, (State.bit_set_ne t _ (by decide)).trans hant, State.bit_setBit_self t _ b rfl,
    (State.bit_set_ne t _ (by decide)).trans hopen, (State.bit_set_ne t _ (by decide)).trans hfeed⟩

theorem AntShows.setOpen (h : AntShows current ant short open_ feed t) (b : Bool) : AntShows current ant short b feed (t.setBit F.REF_ANT.OPEN b) := by
  obtain ⟨hcur, hant, hshort, -, hfeed⟩ := h
  exact ⟨(State.get_set_ne t _ (by decide)).trans hcur, (State.bit_set_ne t _ (by decide)).trans hant, (State.bit_set_ne t _ (by decide)).trans hshort,
    State.bit_setBit_self t _ b rfl, (State.bit_set_ne t _ (by decide)).trans hfeed⟩

theorem AntShows.flag (h : AntShows current ant short open_ feed t) {f : Fld} (hf : ∀ g ∈ antFields, g.key ≠ f.key) (detail : Nat) :
    AntShows current ant short open_ feed (t.flag f 16 0 detail) :=
  h.keep fun g hg => State.flag_get_ne t 0 detail (by omega) (by revert g; decide) (hf g hg)

/-- The channel's presence, lost or gained, shows at none of them. -/
theorem AntShows.lose (h : AntShows current ant short open_ feed t) {c : Nat} (hc : c < 16) : AntShows current ant short open_ feed (t.losePresence c) := by
  refine h.keep fun g hg => ?_
  have hkey : RefKey false g.key ∧ g.blk ≠ 0x11 ∧ g.key < 0x22000000 := by
    unfold RefKey RefBits
    revert g
    decide
  obtain ⟨href, hblk, hlt⟩ := hkey
  refine State.get_losePresence_ne t c (by omega) href ⟨hblk, .inr hlt⟩ (fun n => ?_) ?_ ?_ ?_
  all_goals exact antFields_ne hg rfl (by omega)

theorem AntShows.gain (h : AntShows current ant short open_ feed t) (c : Nat) : AntShows current ant short open_ feed (t.gainPresence c) :=
  h.keep fun _ hg => State.get_gainPresence_ne t c (antFields_ne hg rfl (by omega))

end

/-- A sample on a feed that is not cut off. -/
theorem State.antennaSample_shows {s : State} {mA : Nat} (hf : ¬ (s.bit F.REF_ANT.SHORT = true ∧ s.bit F.REF_ANT.FEEDON = false)) :
    AntShows (min 100 mA) (decide (3 ≤ mA ∧ mA ≤ 80)) (decide (80 < mA)) (decide (mA < 3)) (s.bit F.REF_ANT.FEEDON) (s.antennaSample mA) := by
  unfold State.antennaSample
  extract_lets a ch lose gain open_ clear noShort b _ d b' ok
  have ha : AntShows (min 100 mA) (decide (3 ≤ mA) && decide (mA ≤ 80)) (s.bit F.REF_ANT.SHORT) (s.bit F.REF_ANT.OPEN) (s.bit F.REF_ANT.FEEDON) a :=
    ⟨(State.get_setBit_ne _ _ (by decide)).trans (State.get_set_of_lt s (show min 100 mA < 2 ^ 7 by omega)), State.bit_setBit_self _ _ _ rfl,
      (State.bit_set_ne _ _ (by decide)).trans (State.bit_set_ne s _ (by decide)),
      (State.bit_set_ne _ _ (by decide)).trans (State.bit_set_ne s _ (by decide)),
      (State.bit_set_ne _ _ (by decide)).trans (State.bit_set_ne s _ (by decide))⟩
  have hlose : ∀ {cur ant sh op fd t}, AntShows cur ant sh op fd t → AntShows cur ant sh op fd (lose t) := by
    intro cur ant sh op fd t h
    unfold lose ch
    cases hc : s.channelOfKind 1 with
    | some c => exact h.lose (State.lt_of_channelOfKind hc)
    | none => exact h
  have hgain : ∀ {cur ant sh op fd t}, AntShows cur ant sh op fd t → AntShows cur ant sh op fd (gain t) := by
    intro cur ant sh op fd t h
    unfold gain ch
    cases s.channelOfKind 1 with
    | some c => exact h.gain c
    | none => exact h
  rw [if_neg (by simpa using hf)]
  split
  · next hhigh =>
    have hb : AntShows (min 100 mA) (decide (3 ≤ mA) && decide (mA ≤ 80)) true (s.bit F.REF_ANT.OPEN) (s.bit F.REF_ANT.FEEDON) b := by
      unfold b
      split
      · next hsh => exact hsh ▸ (ha.2.2.1 ▸ ha)
      · exact (ha.setShort true).flag (by decide) mA
    have := hlose ((show AntShows _ _ _ _ _ d from hb).setOpen false)
    rw [Bool.decide_and, decide_eq_true hhigh, decide_eq_false (show ¬ mA < 3 by omega)]
    exact this
  · next hhigh =>
    split
    · next hlow =>
      have hb : AntShows (min 100 mA) (decide (3 ≤ mA) && decide (mA ≤ 80)) false true (s.bit F.REF_ANT.FEEDON) b' := by
        show AntShows _ _ _ _ _ (open_ (a.setBit F.REF_ANT.SHORT false))
        unfold open_
        split
        · next hop => exact hop ▸ ((ha.setShort false).2.2.2.1 ▸ ha.setShort false)
        · exact ((ha.setShort false).setOpen true).flag (by decide) mA
      have hres : AntShows (min 100 mA) (decide (3 ≤ mA) && decide (mA ≤ 80)) false true (s.bit F.REF_ANT.FEEDON)
        (if s.bit F.REF_ANT.FEEDON && !ok then lose b' else gain b') := by
        split
        · exact hlose hb
        · exact hgain hb
      rw [Bool.decide_and, decide_eq_false hhigh, decide_eq_true hlow]
      exact hres
    · next hlow =>
      have := hgain (t := noShort (clear a)) (((ha.setOpen false).setShort false).setShort false)
      rw [Bool.decide_and, decide_eq_false hhigh, decide_eq_false hlow]
      exact this

theorem State.currentSample_shows {s : State} {mA : Nat} (hf : ¬ (s.bit F.REF_ANT.SHORT = true ∧ s.bit F.REF_ANT.FEEDON = false)) :
    ∃ t, exec (.antennaCurrentSample mA) s = .next t ∧ t.get F.REF_ANT.CURRENT = min 100 mA ∧
      t.bit F.REF_PRES.ANT = decide (3 ≤ mA ∧ mA ≤ 80) ∧ t.bit F.REF_ANT.SHORT = decide (80 < mA) ∧ t.bit F.REF_ANT.OPEN = decide (mA < 3) := by
  obtain ⟨hcur, hant, hshort, hopen, -⟩ := State.antennaSample_shows (mA := mA) hf
  exact ⟨_, rfl, hcur, hant, hshort, hopen⟩

theorem State.shortCutoff_cuts {s : State} {t0 : Nat} (h0 : s.sel.shortSince = some t0) (hs : s.bit F.REF_ANT.SHORT = true)
    (hf : s.bit F.REF_ANT.FEEDON = true) (ht : t0 + 625000 ≤ s.raw) :
    ∃ t, exec .antennaShortCutoff s = .next t ∧ t.bit F.REF_ANT.FEEDON = false ∧ t.sel.retryAt = s.raw + 10 * 625000000 ∧
      RegsBut [F.REF_ANT.FEEDON] s t ∧ MemorySame s t := by
  refine ⟨({ s with sel := { s.sel with shortSince := none, retryAt := s.raw + 10 * 625000000 } } : State).set F.REF_ANT.FEEDON 0, ?_,
    State.bit_set _ 0 rfl, rfl, .set (.of_regs (.refl _ s) rfl) (by simp), .of_eq rfl rfl⟩
  show Host.Outcome.next (match s.sel.shortSince with | none => s | some t => _) = _
  rw [h0]
  exact next_when (by rw [hs, hf, decide_eq_true ht]; rfl) _

theorem State.antennaRetry_decides {s : State} {mA : Nat} (hs : s.bit F.REF_ANT.SHORT = true) (hf : s.bit F.REF_ANT.FEEDON = false)
    (ht : s.sel.retryAt ≤ s.raw) : ∃ t, exec (.antennaRetry mA) s = .next t ∧ t.bit F.REF_ANT.SHORT = decide (80 < mA) ∧
      t.bit F.REF_ANT.FEEDON = decide (mA ≤ 80) ∧ (80 < mA → t.sel.retryAt = s.raw + 10 * 625000000) := by
  refine ⟨_, next_when (by rw [hs, hf, decide_eq_true ht]; rfl) _, ?_⟩
  split
  · next hhigh =>
    have hle : ¬ mA ≤ 80 := by omega
    rw [decide_eq_true hhigh, decide_eq_false hle]
    exact ⟨(State.bit_set_ne _ _ (by decide)).trans hs, (State.bit_set_ne _ _ (by decide)).trans hf, fun _ => rfl⟩
  · next hlow =>
    let u := s.sets [(F.REF_ANT.SHORT, 0), (F.REF_ANT.FEEDON, 1)]
    have hshort : u.bit F.REF_ANT.SHORT = false := (State.bit_set_ne _ _ (by decide)).trans (State.bit_set s 0 rfl)
    have hfeed : u.bit F.REF_ANT.FEEDON = true := State.bit_set _ 1 rfl
    obtain ⟨-, -, hsh, -, hfd⟩ := State.antennaSample_shows (s := u) (mA := mA) (by rw [hshort]; simp)
    exact ⟨hsh, hfd.trans (hfeed.trans (decide_eq_true (by omega)).symm), fun h => absurd h hlow⟩

/-- Settles O15, from what a solution shows, what losing activity leaves, and a sample of the feed current. -/
theorem gnssAndAntenna : Obligations.GnssAndAntenna :=
  ⟨⟨fun _ _ tsys ukind used dual corr moved validated pos sats hc => State.gnssSolution_shows tsys ukind used dual corr moved validated pos sats hc,
      fun _ hh hl => State.surveyComplete_holds hh hl, fun _ _ hc ht => State.noFixTimeout_ends hc ht,
      fun _ _ _ code kStop hs hh hn => State.epochStrobe_counts code kStop hs hh hn⟩,
    fun _ _ hf => State.currentSample_shows hf, fun _ _ h0 hs hf ht => State.shortCutoff_cuts h0 hs hf ht,
    fun _ _ hs hf ht => State.antennaRetry_decides hs hf ht⟩

end Sys2Proof.Machine

/-! PROOF. Quality indications (R153, R154, R159), presence (R163, R165, R546) and the configuration of reference channels (R144, R145, R164). -/

namespace Sys2Proof.Machine

/-! Quality. -/

theorem State.esmcPdu_sets {s : State} {c code : Nat} {e : Bool} {bytes : List Byte} (hs : StateShape s) (hc : c < 16) (hk : s.kind c = 5)
    (hp : esmcCode bytes (s.bit (F.REF_CFG.EXTQL c)) = some (code, e)) (hlt : code < 256) :
    ∃ t, exec (.esmcPdu c bytes) s = .next t ∧ t.get (F.REF_QUAL.RAW c) = code ∧ (t.rf c).qlOk = true ∧ (t.rf c).extended = e ∧
      (t.rf c).heardAt = s.raw ∧ RegsBut [F.REF_QUAL.RAW c] s t ∧ MemorySame s t := by
  have hself : ∀ f, ((s.set (F.REF_QUAL.RAW c) code).updRef c f).rf c = f (s.rf c) := fun f =>
    State.rf_updRef_self (s := s.set (F.REF_QUAL.RAW c) code) ((Keeps.set (.refl s) : Keeps .all s _).shape hs) hc f
  refine ⟨(s.set (F.REF_QUAL.RAW c) code).updRef c (fun r => { r with extended := e, qlOk := true, heardAt := s.raw }), ?_,
    State.get_set_of_lt s hlt, ?_, ?_, ?_, .of_regs (.set (.refl _ s) (by simp)) rfl, .of_eq rfl rfl⟩
  · change onUnit _ _ = _
    rw [onUnit_lt hc, hk]
    show Host.Outcome.next (match esmcCode bytes (s.bit (F.REF_CFG.EXTQL c)) with | none => s | some (code, e) => _) = _
    rw [hp]
  all_goals rw [hself]

theorem State.esmcTimeout_fails {s : State} {c : Nat} (hs : StateShape s) (hc : c < 16) (hk : s.kind c = 5)
    (ht : (s.rf c).heardAt + 5 * 625000000 ≤ s.raw) :
    ∃ t, exec (.esmcTimeout c) s = .next t ∧ (t.rf c).qlOk = false ∧ RegsOutside [] s t ∧ MemorySame s t := by
  refine ⟨s.updRef c (fun r => { r with qlOk := false }), ?_, by rw [State.rf_updRef_self hs hc], .of_regs (.refl _ s) rfl, .of_eq rfl rfl⟩
  change onUnit _ _ = _
  rw [onUnit_lt hc, hk, decide_eq_true ht]
  rfl

theorem State.announceTimeout_ends {s : State} {c : Nat} (hc : c < 16) (hk : s.kind c = 6) : ∃ t, exec (.announceReceiptTimeout c) s = .next t ∧
    t.bit (F.REF_STAT.LABELLED c) = false ∧ t.bit (F.REF_STAT.PRESENT c) = false := by
  obtain ⟨hpres, hlab⟩ := (s.set (F.REF_STAT.LABELLED c) 0).losePresence_shows c (by omega) (State.bit_set s 0 rfl)
  refine ⟨_, ?_, hlab, hpres⟩
  change onUnit _ _ = _
  rw [onUnit_lt hc, hk]
  rfl

/-- An evaluation leaves the effective class at the channel. -/
theorem State.evalClass_shows {s : State} {c : Nat} (hc : c < 16) (hlt : s.effectiveClass c < 16) :
    (s.evalClass c).get (F.REF_STAT.QCLASS c) = s.effectiveClass c ∧
      (s.get (F.REF_STAT.QCLASS c) ≠ s.effectiveClass c → (s.evalClass c).bit (F.REF_STAT.QCHG c) = true) := by
  unfold State.evalClass
  extract_lets q r a b
  have ha : a.get (F.REF_STAT.QCLASS c) = s.get (F.REF_STAT.QCLASS c) := by
    unfold a
    split
    · rfl
    · exact State.get_set_ne s _ (by apply Fld.key_ne; omega)
  split
  · next h => exact ⟨ha.trans h, fun hne => absurd h hne⟩
  · have hb : b.get (F.REF_STAT.QCLASS c) = q ∧ b.bit (F.REF_STAT.QCHG c) = true :=
      ⟨(State.flag_get_ne _ _ _ (by omega) (by apply Fld.blk_ne; omega) (by apply Fld.key_ne; omega)).trans (State.get_set_of_lt a hlt),
        State.flag_get _ _ _ (by omega) rfl (by apply Fld.blk_ne; omega)⟩
    have hsame : RefSame false b (if q = 15 then b.disqualify c 3 else b.tryQualify c) := .ite (.disqualify (.refl b)) (.tryQualify (.refl b))
    exact ⟨(hsame.regs _ (by apply Fld.refKey rfl; omega)).trans hb.1, fun _ => (hsame.bit (by apply Fld.refKey rfl; omega)).trans hb.2⟩

/-! Presence. -/

theorem State.setUinPresence_shows (s : State) {k : Nat} (hk : k < 6) (p : Bool) : (s.setUinPresence k p).bit (F.PNL_SENSE.PRES k) = p := by
  unfold State.setUinPresence
  extract_lets a
  have ha : a.bit (F.PNL_SENSE.PRES k) = p :=
    (State.bit_set_ne _ _ (by apply Fld.key_ne; omega)).trans (State.bit_setBit_self s _ p rfl)
  split
  · exact ha
  · next c hc =>
    have hlt : c < 16 := List.mem_range.mp (List.mem_of_find?_eq_some hc)
    split
    · exact (State.bit_eq_of_get (State.get_gainPresence_ne a c (by apply Fld.key_ne; omega))).trans ha
    · refine (State.bit_eq_of_get (State.get_losePresence_ne a c (by omega) (by apply Fld.refKey rfl; omega)
        ⟨by apply Fld.blk_ne; omega, .inl (by apply Fld.lo_ne; omega)⟩ (fun n => ?_) ?_ ?_ ?_)).trans ha
      all_goals (apply Fld.key_ne; omega)

theorem State.senseSample_decides (s : State) {k : Nat} (v : Nat) (hk : k < 6) : ∃ t, exec (.uinSenseSample k (some v)) s = .next t ∧
    t.bit (F.PNL_SENSE.PRES k) = (s.bit (F.PNL_SENSE.SENSEOFF k) || decide (v ≤ Config.uinBias k *
      (if leAt (s.sec 0x12) (8 * k) 1 = 2 then 30000
       else if (leAt (s.sec 0x12) (8 * k) 1 = 1 ∨ leAt (s.sec 0x12) (8 * k) 1 = 3) ∧ leAt (s.sec 0x12) (8 * k + 1) 1 = 0 then 40
       else 5000))) := by
  rw [Nat.mul_comm]
  exact ⟨_, onUnit_lt hk _, State.setUinPresence_shows _ hk _⟩

theorem State.rf_tryQualify_xs {s : State} {c : Nat} (hs : StateShape s) (hc : c < 16) (h : (s.rf c).xs = []) : ((s.tryQualify c).rf c).xs = [] := by
  unfold State.tryQualify
  dsimp only
  split
  · have hfresh : StateShape ((s.freshChannel c).set (F.REF_QSTAT.QSTATE c) 2) := (Keeps.set (.freshChannel (.refl s)) : Keeps .all s _).shape hs
    rw [State.enterQualifying, State.rf_updRef_self hfresh hc]
    show ((s.freshChannel c).rf c).xs = []
    have hno : (s.updRef c RefSt.noHistory).rf c = (s.rf c).noHistory := State.rf_updRef_self hs hc _
    unfold State.freshChannel
    dsimp only
    split <;> exact (congrArg RefSt.xs hno).trans rfl
  · exact h

theorem State.plugHoldDone_plugs {s : State} {c t0 : Nat} (hs : StateShape s) (hc : c < 16) (h0 : (s.rf c).presAt = some t0)
    (ht : t0 + 62500000 ≤ s.raw) : ∃ t, exec (.plugHoldDone c) s = .next t ∧ t.bit (F.REF_STAT.PLUG c) = true ∧ (t.rf c).presAt = none ∧
      (t.rf c).xs = [] ∧ MemorySame s t := by
  let g : RefSt → RefSt := fun r => { r.noHistory with presAt := none, holdUntil := if r.holdUntil ≤ s.raw then s.raw else r.holdUntil }
  let a := (s.updRef c g).refFlag (F.REF_STAT.PLUG c) c
  have hkeep : Keeps .all s a := .refFlag (.updRef (.refl s))
  have ha : a.rf c = g (s.rf c) := (congrArg (·.getD c {}) (State.flag_ref _ _ _ _ _)).trans (State.rf_updRef_self hs hc g)
  have hsame : RefSame false a (a.tryQualify c) := .tryQualify (.refl a)
  refine ⟨a.tryQualify c, ?_, ?_, (hsame.presAt c).trans (by rw [ha]), State.rf_tryQualify_xs (hkeep.shape hs) hc (by rw [ha]; rfl),
    (Keeps.tryQualify hkeep : Keeps .all s _).memorySame⟩
  · change onUnit _ _ = _
    rw [onUnit_lt hc]
    show Host.Outcome.next (match (s.rf c).presAt with | none => s | some t => _) = _
    rw [h0]
    exact next_when (decide_eq_true ht) _
  · rw [hsame.bit (by apply Fld.refKey rfl; omega)]
    exact State.flag_get _ _ _ (by omega) rfl (by apply Fld.blk_ne; omega)

theorem State.heldStamp_released {s : State} {c n : Nat} {h : Held} {rest : List Held} (hs : StateShape s) (hc : c < 16)
    (hh : (s.rf c).held = h :: rest) (hn : s.tdcOf c = some n) (ht : h.taken + 20000 ≤ s.raw) :
    ∃ t, exec (.heldStampRelease c) s = .next t ∧ (t.rf c).held = rest := by
  let a := s.updRef c (fun r => { r with held := rest })
  have ha : (a.rf c).held = rest := by rw [State.rf_updRef_self hs hc]
  have hheard : Heard a (a.releaseStamp n c h) := .releaseStamp (.refl a)
  refine ⟨a.releaseStamp n c h, ?_, (hheard.held c).trans ha⟩
  change onUnit _ _ = _
  rw [onUnit_lt hc]
  show Host.Outcome.next (match (s.rf c).held, s.tdcOf c with | h :: rest, some n => _ | _, _ => s) = _
  rw [hh, hn]
  exact next_when (decide_eq_true ht) _

/-! The configuration. -/

/-- The value a write gives a field of a register. -/
def written (data : Nat) (x : Fld) : Nat := bitsOf data x.lo x.w

/-- The fields of REF_CFG that EN protects. -/
def cfgFixed (c : Nat) : List Fld :=
  [F.REF_CFG.ANTOPEN_OK c, F.REF_CFG.SINGLE c, F.REF_CFG.CONST c, F.REF_CFG.GSYS c, F.REF_CFG.PORT c, F.REF_CFG.EXTQL c, F.REF_CFG.TSCALE c]

/-- All fields of REF_CFG that a write sets, in the order of the write. -/
def cfgFields (c : Nat) : List Fld := cfgFixed c ++ [F.REF_CFG.EN c, F.REF_CFG.FORCE_DQ c, F.REF_CFG.QOVR_EN c, F.REF_CFG.QOVR c]

theorem bitsOf_lt (data lo w : Nat) : bitsOf data lo w < 2 ^ w := Nat.mod_lt _ (Nat.two_pow_pos w)

/-- Each field reads back what was written, and other writes leave it. -/
theorem State.get_sets_written (s : State) (data : Nat) {l : List Fld} (hl : l.Pairwise (fun x y => x.key ≠ y.key)) {x : Fld} (hx : x ∈ l) :
    (s.sets (l.map (fun x => (x, written data x)))).get x = written data x := by
  induction l generalizing s with
  | nil => cases hx
  | cons y l ih =>
    obtain ⟨hy, hl⟩ := List.pairwise_cons.mp hl
    rw [List.map_cons, State.sets_cons]
    rcases List.mem_cons.mp hx with rfl | hx
    · refine (State.get_sets_ne _ _ fun p hp => ?_).trans (State.get_set_of_lt s (bitsOf_lt _ _ _))
      obtain ⟨z, hz, rfl⟩ := List.mem_map.mp hp
      exact hy z hz
    · exact ih _ hl hx

theorem cfgFields_reg {c : Nat} : ∀ x ∈ cfgFields c, x.ch = c ∧ x.off = 0x600004 ∧ x.lo < 32 := by
  simp only [cfgFields, cfgFixed, List.cons_append, List.nil_append, List.forall_mem_cons]
  refine ⟨?_, ?_, ?_, ?_, ?_, ?_, ?_, ?_, ?_, ?_, ?_, nofun⟩
  all_goals exact ⟨rfl, rfl, Nat.le_of_ble_eq_true rfl⟩

/-- The fields of one register stand at different bits. -/
theorem cfgFields_pairwise (c : Nat) : (cfgFields c).Pairwise (fun x y => x.key ≠ y.key) := by
  have hlo : (cfgFields c).Pairwise (fun x y => x.lo ≠ y.lo) :=
    List.pairwise_map.mp (show [8, 9, 10, 13, 16, 18, 19, 0, 1, 2, 4].Pairwise (· ≠ ·) by decide)
  refine hlo.imp_of_mem fun {x y} hx hy hne hk => hne ?_
  obtain ⟨hcx, hox, -⟩ := cfgFields_reg x hx
  obtain ⟨hcy, hoy, -⟩ := cfgFields_reg y hy
  unfold Fld.key at hk
  rw [hcx, hcy, hox, hoy] at hk
  omega

/-- A field of REF_CFG is no field of another register. -/
theorem cfgFields_key_ne {c : Nat} {x : Fld} (hx : x ∈ cfgFields c) {o l w r : Nat} (ho : o ≠ 0x600004) (hl : l < 32) :
    x.key ≠ Fld.key ⟨c, o, l, w, r⟩ := by
  obtain ⟨hcx, hox, hlo⟩ := cfgFields_reg x hx
  unfold Fld.key
  rw [hcx, hox]
  dsimp only
  omega

theorem cfgFields_refKey {c : Nat} {x : Fld} (hx : x ∈ cfgFields c) : RefKey false x.key := by
  obtain ⟨hcx, hox, hlo⟩ := cfgFields_reg x hx
  unfold RefKey RefBits Fld.key
  rw [hcx, hox]
  omega

/-- An evaluation writes the class, its flag and its age only. -/
theorem State.get_evalClass_ne (s : State) {c : Nat} (hc : c < 16) {g : Fld} (hg : RefKey false g.key) (ha : g.key ≠ (F.REF_QUAL.AGE c).key)
    (hq : g.key ≠ (F.REF_STAT.QCLASS c).key) (hf : g.key ≠ (F.REF_STAT.QCHG c).key) : (s.evalClass c).get g = s.get g := by
  unfold State.evalClass
  extract_lets q r a b
  have hage : a.get g = s.get g := by
    unfold a
    split
    · rfl
    · exact State.get_set_ne s _ ha
  split
  · exact hage
  · have hb : b.get g = s.get g :=
      ((State.flag_get_ne _ _ _ (by omega) hg.blk_ne hf).trans (State.get_set_ne a _ hq)).trans hage
    have hsame : RefSame false b (if q = 15 then b.disqualify c 3 else b.tryQualify c) := .ite (.disqualify (.refl b)) (.tryQualify (.refl b))
    exact (hsame.regs g hg).trans hb

theorem RefSame.reviewOff (s : State) (c : Nat) : RefSame false s (s.reviewOff c) :=
  .ite (.disqualify (.refl s)) (.ite (.tryQualify (.updRef (.set (.refl s) (Fld.not_refKey_qual (by omega))) fun _ => rfl)) (.refl s))

/-- Taking a channel off ends its qualification. -/
theorem State.qstate_disqualify_off (s : State) (c : Nat) : (s.disqualify c 4).qstate c = 0 := by
  unfold State.disqualify
  extract_lets level hold a b d
  split
  · rw [if_pos rfl]
    exact State.get_set_self s _ 0
  · have ha : a.qstate c = 0 := State.get_sets_at s [] [(F.REF_QSTAT.DQWHY c, 4)] (by apply Fld.key_ne; omega)
    have hb : b.qstate c = 0 := by
      refine Eq.trans ?_ ha
      unfold b
      split
      · rfl
      · exact State.get_set_ne _ 0 (by apply Fld.key_ne; omega)
    have hd : RefSame true b d := .ite (.timeBaseLoss (.refl b)) (.refl b)
    exact ((RefSame.evalSelection (.reviewLead hd)).regs _ (refKey_qstate c)).trans hb

theorem State.reviewOff_off {s : State} {c : Nat} (h : s.get (F.REF_CFG.EN c) = 0) : (s.reviewOff c).qstate c = 0 := by
  unfold State.reviewOff
  rw [if_pos]
  · exact s.qstate_disqualify_off c
  · unfold State.offNow
    rw [State.bit, h]
    rfl

/-- A write of REF_CFG that keeps to its rules takes effect on every field. -/
theorem State.writeRefCfg_takes {s : State} {req : Requester} {c data : Nat} (hc : c < 16)
    (hfix : s.bit (F.REF_CFG.EN c) = true → ∀ x ∈ cfgFixed c, written data x = s.get x)
    (hq : 1 ≤ written data (F.REF_CFG.QOVR c) ∧ (written data (F.REF_CFG.QOVR c) ≤ 7 ∨ written data (F.REF_CFG.QOVR c) = 15))
    (hcon : written data (F.REF_CFG.CONST c) ≠ 0) (hg : written data (F.REF_CFG.GSYS c) ≠ 3)
    (hin : (written data (F.REF_CFG.CONST c)).testBit (written data (F.REF_CFG.GSYS c)) = true) (ht : written data (F.REF_CFG.TSCALE c) ≠ 3)
    (hheld : s.isHeld (0x100 + c) = false) :
    (∀ x ∈ cfgFields c, (s.writeRefCfg req c data).get x = written data x) ∧
      (written data (F.REF_CFG.EN c) = 0 → (s.writeRefCfg req c data).qstate c = 0) := by
  unfold State.writeRefCfg
  extract_lets f en fixedFields changed qovr gsys bad a b
  have hbad : bad = false := by
    have hch : (s.bit (F.REF_CFG.EN c) && changed) = false := by
      by_cases hen : s.bit (F.REF_CFG.EN c) = true
      · rw [Bool.and_eq_false_iff, List.any_eq_false]
        exact .inr fun x hx => by rw [show f x = s.get x from hfix hen x hx]; simp
      · simp [hen]
    have hov : (qovr == 0) = false ∧ (decide (8 ≤ qovr) && qovr != 15) = false := by
      change (written data (F.REF_CFG.QOVR c) == 0) = false ∧ (decide (8 ≤ written data (F.REF_CFG.QOVR c)) && written data (F.REF_CFG.QOVR c) != 15) = false
      obtain ⟨hlo, hhi⟩ := hq
      generalize written data (F.REF_CFG.QOVR c) = v at hlo hhi ⊢
      simp only [beq_eq_false_iff_ne, Bool.and_eq_false_iff, decide_eq_false_iff_not, bne_eq_false_iff_eq]
      omega
    have hconst : (f (F.REF_CFG.CONST c) == 0) = false := beq_eq_false_iff_ne.mpr hcon
    have hgsys : (gsys == 3) = false := beq_eq_false_iff_ne.mpr hg
    have hts : (f (F.REF_CFG.TSCALE c) == 3) = false := beq_eq_false_iff_ne.mpr ht
    have htest : (f (F.REF_CFG.CONST c)).testBit gsys = true := hin
    unfold bad
    rw [hch, hov.1, hov.2, hconst, hgsys, hts, htest, hheld]
    simp
  rw [if_neg (by simp [hbad])]
  have hkept : ∀ x ∈ cfgFields c, ((b.evalClass c).reviewOff c).get x = written data x ∧ (b.evalClass c).get x = written data x := by
    intro x hx
    have href := cfgFields_refKey hx
    have ha : a.get x = written data x := s.get_sets_written data (cfgFields_pairwise c) hx
    have hb : b.get x = written data x := by
      refine Eq.trans ?_ ha
      unfold b
      split
      · exact State.get_set_ne _ _ (cfgFields_key_ne hx (by omega) (by omega))
      · rfl
    have he : (b.evalClass c).get x = written data x := (State.get_evalClass_ne b hc href (cfgFields_key_ne hx (by omega) (by omega))
      (cfgFields_key_ne hx (by omega) (by omega)) (cfgFields_key_ne hx (by omega) (by omega))).trans hb
    exact ⟨((RefSame.reviewOff _ c).regs x href).trans he, he⟩
  refine ⟨fun x hx => (hkept x hx).1, fun h0 => State.reviewOff_off ((hkept _ ?_).2.trans h0)⟩
  simp [cfgFields]

theorem State.refCfgWrite_takes {s : State} {req : Requester} {c data : Nat} (hr : s.Reaches req 0x600004) (hc : c < 16)
    (hfix : s.bit (F.REF_CFG.EN c) = true → ∀ x ∈ cfgFixed c, written data x = s.get x)
    (hq : 1 ≤ written data (F.REF_CFG.QOVR c) ∧ (written data (F.REF_CFG.QOVR c) ≤ 7 ∨ written data (F.REF_CFG.QOVR c) = 15))
    (hcon : written data (F.REF_CFG.CONST c) ≠ 0) (hg : written data (F.REF_CFG.GSYS c) ≠ 3)
    (hin : (written data (F.REF_CFG.CONST c)).testBit (written data (F.REF_CFG.GSYS c)) = true) (ht : written data (F.REF_CFG.TSCALE c) ≠ 3)
    (hheld : s.isHeld (0x100 + c) = false) : ∃ t, exec (.refCfgWrite req c data) s = .next t ∧
      (∀ x ∈ cfgFields c, t.get x = written data x) ∧ (written data (F.REF_CFG.EN c) = 0 → t.qstate c = 0) := by
  have hown : ∀ x ∈ cfgFields c, (s.set (F.XBR_TSTAT.OWNER 6) req.master).get x = s.get x := fun x hx =>
    State.get_set_ne s _ fun hk => by
      have href := cfgFields_refKey hx
      rw [hk] at href
      exact Fld.not_refKey rfl (by omega) href
  refine ⟨(s.set (F.XBR_TSTAT.OWNER 6) req.master).writeRefCfg req c data, ?_, State.writeRefCfg_takes hc (fun hen x hx => ?_) hq hcon hg hin ht hheld⟩
  · change onUnit _ _ = _
    rw [onUnit_lt hc, State.atFabric_of_reaches hr]
  · have hx' : x ∈ cfgFields c := List.mem_append_left _ hx
    rw [hown x hx']
    exact hfix (by rw [← State.bit_eq_of_get (hown _ (by simp [cfgFields]))]; exact hen) x hx

/-! The nominal frequency. -/

theorem State.nomfreqLow_waits {s : State} {req : Requester} {c data : Nat} (hr : s.Reaches req 0x600020) (hc : c < 16)
    (hk : s.kind c = 2 ∨ s.kind c = 3) (hen : s.bit (F.REF_CFG.EN c) = false) :
    ∃ t, exec (.refNomfreqWrite req c false data) s = .next t ∧ lookup c t.sel.nomLow = some (data % 2 ^ 32) ∧
      t.get (F.REF_NOMFREQ.FREQ c) = s.get (F.REF_NOMFREQ.FREQ c) ∧ RegsBut [F.XBR_TSTAT.OWNER 6] s t ∧ MemorySame s t := by
  let u := s.set (F.XBR_TSTAT.OWNER 6) req.master
  have hku : u.kind c = s.kind c := State.get_set_ne s _ (by apply Fld.key_ne; omega)
  have henu : u.bit (F.REF_CFG.EN c) = false := (State.bit_set_ne s _ (by apply Fld.key_ne; omega)).trans hen
  refine ⟨{ u with sel := { u.sel with nomLow := insertAt c (data % 2 ^ 32) u.sel.nomLow } }, ?_, lookup_insertAt_self _ _ _,
    State.get_set_ne s _ (by apply Fld.key_ne; omega), .of_regs (.set (.refl _ s) (by simp)) rfl, .of_eq rfl rfl⟩
  change onUnit _ _ = _
  rw [onUnit_lt hc, if_neg (by decide), State.atFabric_of_reaches hr, State.writeNomfreq]
  dsimp only
  rw [if_neg (by rw [hku, henu]; simp; omega), if_pos (by rfl)]

theorem State.nomfreqHigh_takes {s : State} {req : Requester} {c data low : Nat} (hr : s.Reaches req 0x600024) (hc : c < 16) (hk : s.kind c = 2)
    (hen : s.bit (F.REF_CFG.EN c) = false) (hlow : lookup c s.sel.nomLow = some low) (hlo : 65536 ≤ low + data % 65536 * 2 ^ 32)
    (hhi : low + data % 65536 * 2 ^ 32 ≤ 10000000 * 65536) : ∃ t, exec (.refNomfreqWrite req c true data) s = .next t ∧
      t.get (F.REF_NOMFREQ.FREQ c) = low + data % 65536 * 2 ^ 32 ∧ MemorySame s t := by
  let u := s.set (F.XBR_TSTAT.OWNER 6) req.master
  have hku : u.kind c = 2 := (State.get_set_ne s _ (by apply Fld.key_ne; omega)).trans hk
  have henu : u.bit (F.REF_CFG.EN c) = false := (State.bit_set_ne s _ (by apply Fld.key_ne; omega)).trans hen
  have hexec : exec (.refNomfreqWrite req c true data) s = .next (u.writeNomfreq req c true data) := by
    change onUnit _ _ = _
    rw [onUnit_lt hc, if_pos rfl, State.atFabric_of_reaches hr]
  have hset : ∀ t : State, (t.set (F.REF_NOMFREQ.FREQ c) (low + data % 65536 * 2 ^ 32)).get (F.REF_NOMFREQ.FREQ c) =
      low + data % 65536 * 2 ^ 32 := fun t => State.get_set_of_lt t (show _ < 2 ^ 48 by omega)
  have hval : (lookup c u.sel.nomLow).getD (u.get (F.REF_NOMFREQ.FREQ c) % 2 ^ 32) = low := by
    rw [show u.sel.nomLow = s.sel.nomLow from rfl, hlow]
    rfl
  refine ⟨_, hexec, ?_, (Keeps.writeNomfreq (.set (.refl s)) : Keeps .all s _).memorySame⟩
  unfold State.writeNomfreq
  dsimp only
  rw [if_neg (by rw [hku, henu]; simp), if_neg (by simp), hval, if_neg (by simp [hku]; omega)]
  cases u.tdcOf c with
  | none => exact hset _
  | some n =>
    dsimp only
    split
    · exact (State.get_set_ne _ _ (by apply Fld.key_ne; omega)).trans (hset _)
    · exact hset _

theorem State.qclassEvaluation_shows {s : State} {c : Nat} (hc : c < 16) (hlt : s.effectiveClass c < 16) : ∃ t,
    exec (.qclassEvaluation c) s = .next t ∧ t.get (F.REF_STAT.QCLASS c) = s.effectiveClass c ∧
      (s.get (F.REF_STAT.QCLASS c) ≠ s.effectiveClass c → t.bit (F.REF_STAT.QCHG c) = true) :=
  ⟨s.evalClass c, onUnit_lt hc _, State.evalClass_shows hc hlt⟩

theorem execUinSenseSample_none {s : State} {k : Nat} (hk : k < 6) : exec (.uinSenseSample k none) s = .next s := by
  change onUnit _ _ = _
  rw [onUnit_lt hk]

/-- Settles O16, from what an evaluation, a sense sample and a write of the configuration leave. -/
theorem referenceChannels : Obligations.ReferenceChannels := by
  refine ⟨⟨?_, ?_, ?_, ?_⟩, ⟨?_, ?_, ?_, ?_⟩, ?_, ?_, ?_⟩
  · exact fun _ _ _ _ _ hs hc hk hp hlt => State.esmcPdu_sets hs hc hk hp hlt
  · exact fun _ _ hs hc hk ht => State.esmcTimeout_fails hs hc hk ht
  · exact fun _ _ hc hk => State.announceTimeout_ends hc hk
  · exact fun _ _ hc hlt => State.qclassEvaluation_shows hc hlt
  · exact fun s _ v hk => s.senseSample_decides v hk
  · exact fun _ _ hk => execUinSenseSample_none hk
  · exact fun _ _ _ hs hc h0 ht => State.plugHoldDone_plugs hs hc h0 ht
  · exact fun _ _ _ _ _ hs hc hh hn ht => State.heldStamp_released hs hc hh hn ht
  · intro s req c data hr hc f hfix hq hcon hg hin ht hheld
    obtain ⟨t, hexec, hset, hoff⟩ := State.refCfgWrite_takes hr hc hfix hq hcon hg hin ht hheld
    have hsub : [F.REF_CFG.EN c, F.REF_CFG.FORCE_DQ c, F.REF_CFG.QOVR_EN c, F.REF_CFG.QOVR c, F.REF_CFG.TSCALE c, F.REF_CFG.GSYS c] ⊆ cfgFields c := by
      simp [cfgFields, cfgFixed]
    exact ⟨t, hexec, fun x hx => hset x (hsub hx), hoff⟩
  · exact fun _ _ _ _ hr hc hk hen => State.nomfreqLow_waits hr hc hk hen
  · exact fun _ _ _ _ _ hr hc hk hen hlow hlo hhi => State.nomfreqHigh_takes hr hc hk hen hlow hlo hhi

end Sys2Proof.Machine

/-! PROOF. Edges at the TDC's channels (R169) and the calibration of their interpolators (R171). -/

namespace Sys2Proof.Machine

theorem execTdcEdge_of_used {s : State} {n half : Nat} (code kStop : Nat) (hn : n < 24) (hh : half < 2) (hu : s.tdcUse n ≠ 0) :
    exec (.tdcEdge n half code kStop) s = .next (s.tdcEdge n half code kStop) := by
  change onUnit _ _ = _
  rw [decide_eq_true hn, decide_eq_true hh, show (s.tdcUse n != 0) = true from bne_iff_ne.mpr hu]
  rfl

/-- A half that is disarmed has no pair. -/
theorem TdcSt.half_disarm (d : TdcSt) (k : Nat) : ((d.disarm k).half k).pair = none := by
  unfold TdcSt.disarm TdcSt.half
  split <;> rfl

theorem State.tdcEdge_stamps {s : State} {n half code kStop c1 c2 tk at16 : Nat} (hs : StateShape s) (hn : n < 24) (hh : half < 2)
    (hu : s.tdcUse n ≠ 0) (hp : ((s.td n).half half).pair = some (c1, c2, tk)) (ht : eventTime c1 c2 code kStop = some at16) :
    ∃ t, exec (.tdcEdge n half code kStop) s = .next t ∧ (t.td n).edges = (s.td n).edges + 1 ∧
      (t.td n).stamps.head? = some (at16, s.raw) ∧ ((t.td n).half half).pair = none := by
  obtain ⟨l, hl⟩ := State.tdcEdge_taken_marks (half := half) (code := code) (kStop := kStop) hs hn (by rw [hp]; exact ht)
  have hmarks : ((s.tdcEdge n half code kStop).td n).half half = ((s.td n).disarm half).half half := by
    unfold TdcSt.marks at hl
    simp only [Prod.mk.injEq] at hl
    unfold TdcSt.half
    rw [hl.1, hl.2.1]
  exact ⟨_, execTdcEdge_of_used code kStop hn hh hu, congrArg (·.2.2.1) hl, congrArg (·.2.2.2.head?) hl,
    by rw [hmarks, TdcSt.half_disarm]⟩

theorem State.tdcEdge_misses {s : State} {n half : Nat} (code kStop : Nat) (hs : StateShape s) (hn : n < 24) (hh : half < 2) (hu : s.tdcUse n ≠ 0)
    (hp : ((s.td n).half half).pair = none) : ∃ t, exec (.tdcEdge n half code kStop) s = .next t ∧ (t.td n).edges = (s.td n).edges + 1 ∧
      t.bit (F.TDC_STAT.MISSED n) = true ∧
      t.get (F.TDC_CNT.MISS n) = min (2 ^ (F.TDC_CNT.MISS n).w - 1) (s.get (F.TDC_CNT.MISS n) + 1) ∧ (t.td n).stamps = (s.td n).stamps := by
  have hkeep : Keeps .all s (((s.counted n).bumpSat (F.TDC_CNT.MISS n)).set (F.TDC_STAT.MISSED n) 1) :=
    .set (.bumpSat (.updTdc (.rollGate (.refl s))))
  have hroll : (s.counted n).get (F.TDC_CNT.MISS n) = s.get (F.TDC_CNT.MISS n) :=
    State.get_rollGate_ne s n (by apply Fld.key_ne; omega) (by apply Fld.key_ne; omega)
  have hmarks := State.counted_marks hs hn
  refine ⟨_, execTdcEdge_of_used code kStop hn hh hu, ?_⟩
  rw [State.tdcEdge_missed hs hn (by rw [hp]; rfl), State.td_updTdc_self (hkeep.shape hs) hn]
  refine ⟨congrArg (·.2.2.1) hmarks, State.bit_set _ 1 rfl, ?_, congrArg (·.2.2.2) hmarks⟩
  show (((s.counted n).bumpSat (F.TDC_CNT.MISS n)).set (F.TDC_STAT.MISSED n) 1).get (F.TDC_CNT.MISS n) = _
  rw [State.get_set_ne _ _ (by apply Fld.key_ne; omega), State.get_bumpSat_self, hroll]

/-! Calibration pairs. -/

theorem execInterpolatorCalibration_of_used {s : State} {n half : Nat} (c1 c2 : Nat) (hn : n < 24) (hh : half < 2) (hu : s.tdcUse n ≠ 0)
    (hp : ((s.td n).half half).pair = none) : exec (.interpolatorCalibration n half c1 c2) s = .next (s.calPair n half c1 c2) := by
  change onUnit _ _ = _
  rw [decide_eq_true hn, decide_eq_true hh]
  show Host.Outcome.next (s.when (s.tdcUse n != 0 && (match ((s.td n).half half).pair with | none => true | some p => _)) _) = _
  rw [hp, show (s.tdcUse n != 0) = true from bne_iff_ne.mpr hu]
  rfl

/-- The half a calibration pair gives a channel. -/
def TdcSt.calibrated (d : TdcSt) (k : Nat) (h : Half) (ok : Bool) : TdcSt :=
  { d with
    h0 := if k = 0 then h else d.h0, h1 := if k = 0 then d.h1 else h, fails := if ok then 0 else d.fails + 1, passes := if ok then d.passes + 1 else 0 }

theorem TdcSt.half_calibrated (d : TdcSt) (k : Nat) (h : Half) (ok : Bool) : (d.calibrated k h ok).half k = h := by
  unfold TdcSt.half TdcSt.calibrated
  split <;> rfl

theorem TdcSt.armed_calibrated {d : TdcSt} {k : Nat} {h : Half} {ok : Bool} (hp : h.pair.isSome = true) :
    ((d.calibrated k h ok).h0.pair.isSome || (d.calibrated k h ok).h1.pair.isSome) = true := by
  unfold TdcSt.calibrated
  dsimp only
  split <;> simp [hp]

/-- The state in which a channel has a new calibration pair. -/
def State.calPaired (s : State) (n half : Nat) (span : Int) (h : Half) (ok : Bool) : State :=
  ((s.set (F.TDC_CAL.SPAN n) (ofSigned 16 span)).updTdc n (·.calibrated half h ok)).showArmed n

theorem State.calPaired_td {s : State} {n : Nat} (hs : StateShape s) (hn : n < 24) (half : Nat) (span : Int) (h : Half) (ok : Bool) :
    (s.calPaired n half span h ok).td n = (s.td n).calibrated half h ok :=
  State.td_updTdc_self (s := s.set (F.TDC_CAL.SPAN n) _) ((Keeps.set (.refl s) : Keeps .all s _).shape hs) hn _

theorem State.calPaired_armed {s : State} {n : Nat} (hs : StateShape s) (hn : n < 24) (half : Nat) (span : Int) {h : Half} (ok : Bool)
    (hp : h.pair.isSome = true) : (s.calPaired n half span h ok).bit (F.TDC_STAT.ARMED n) = true := by
  have htd : ((s.set (F.TDC_CAL.SPAN n) (ofSigned 16 span)).updTdc n (·.calibrated half h ok)).td n = (s.td n).calibrated half h ok :=
    State.td_updTdc_self (s := s.set (F.TDC_CAL.SPAN n) _) ((Keeps.set (.refl s) : Keeps .all s _).shape hs) hn _
  rw [State.calPaired, State.showArmed, State.bit_setBit_self _ _ _ rfl, htd]
  exact TdcSt.armed_calibrated hp

theorem State.calPair_passes {s : State} {n half c1 c2 : Nat} (hs : StateShape s) (hn : n < 24)
    (hok : ((((c2 : Int) - c1 - s.get (F.TDC_CAL.NOM n)).natAbs : Int) * 100 ≤ 12 * s.get (F.TDC_CAL.NOM n))) :
    (((s.calPair n half c1 c2).td n).half half).pair = some (c1, c2, s.raw) ∧ (s.calPair n half c1 c2).bit (F.TDC_STAT.ARMED n) = true := by
  unfold State.calPair
  extract_lets span nom ok h p h' a b c serves d e
  have hk : ok = true := decide_eq_true hok
  have hp : h'.pair = some (c1, c2, s.raw) := by
    unfold h' p
    rw [if_pos hk]
  have htd : b.td n = (s.td n).calibrated half h' ok := State.calPaired_td hs hn half span h' ok
  have harm : b.bit (F.TDC_STAT.ARMED n) = true := State.calPaired_armed hs hn half span ok (by rw [hp]; rfl)
  have hsame : RefSame false b (if serves then b.tryQualify c else b) := .ite (.tryQualify (.refl b)) (.refl b)
  rw [if_pos hk]
  refine ⟨?_, (hsame.bit (by apply Fld.refKey rfl; omega)).trans harm⟩
  rw [TdcSt.marks_half (hsame.marks n), htd, TdcSt.half_calibrated, hp]

theorem State.calPair_fails {s : State} {n half c1 c2 : Nat} (hs : StateShape s) (hn : n < 24)
    (hok : 12 * (s.get (F.TDC_CAL.NOM n) : Int) < (((c2 : Int) - c1 - s.get (F.TDC_CAL.NOM n)).natAbs : Int) * 100) :
    (s.calPair n half c1 c2).bit (F.TDC_STAT.CALERR n) = true ∧ (((s.calPair n half c1 c2).td n).half half).bad = true := by
  unfold State.calPair
  extract_lets span nom ok h p h' a b c serves d e
  have hk : ok = false := decide_eq_false (not_le.mpr hok)
  have htd : b.td n = (s.td n).calibrated half h' ok := State.calPaired_td hs hn half span h' ok
  have hd : d.bit (F.TDC_STAT.CALERR n) = true ∧ d.td n = b.td n := by
    have hmark : d = b.set (F.TDC_STAT.CALERR n) 1 := if_neg (show ¬ (10 = 9 ∨ 10 = 11) by decide)
    rw [hmark]
    exact ⟨State.bit_set _ 1 rfl, rfl⟩
  have he : e.bit (F.TDC_STAT.CALERR n) = true ∧ e.td n = b.td n := by
    have hmark : e = d.flag (F.TDC_STAT.CALFAULT n) 17 n := if_pos (.inr rfl)
    rw [hmark]
    exact ⟨(State.bit_flag_ne _ _ _ (by omega) (by apply Fld.blk_ne; omega) (by apply Fld.key_ne; omega)).trans hd.1,
      (congrArg (·.getD n {}) (State.flag_tdc _ _ _ _ _)).trans hd.2⟩
  have hbad : ((b.td n).half half).bad = true := by
    rw [htd, TdcSt.half_calibrated]
    show (!ok) = true
    rw [hk]
    rfl
  have hsame : RefSame false e (if serves then e.disqualify c 7 else e) := .ite (.disqualify (.refl e)) (.refl e)
  rw [if_neg (by simp [hk])]
  split
  · refine ⟨(hsame.bit (by apply Fld.refKey rfl; omega)).trans he.1, ?_⟩
    rw [TdcSt.marks_half (hsame.marks n), he.2, hbad]
  · exact ⟨hd.1, by rw [hd.2, hbad]⟩

/-- Settles O17, from what an edge marks and what a calibration pair gives a half. -/
theorem edgesAndInterpolators : Obligations.EdgesAndInterpolators := by
  refine ⟨⟨?_, ?_⟩, fun s n half c1 c2 hs hn hh hu hp => ⟨fun hok => ?_, fun hok => ?_⟩⟩
  · exact fun s n half code kStop c1 c2 tk at16 hs hn hh hu hp ht => State.tdcEdge_stamps hs hn hh hu hp ht
  · exact fun s n half code kStop hs hn hh hu hp => State.tdcEdge_misses code kStop hs hn hh hu hp
  · obtain ⟨hpair, harm⟩ := State.calPair_passes (half := half) hs hn hok
    exact ⟨_, execInterpolatorCalibration_of_used c1 c2 hn hh hu hp, hpair, harm⟩
  · obtain ⟨herr, hbad⟩ := State.calPair_fails (half := half) hs hn hok
    exact ⟨_, execInterpolatorCalibration_of_used c1 c2 hn hh hu hp, herr, hbad⟩

end Sys2Proof.Machine

/-! PROOF. The atomic standard's states (R196, R197) and the proofing bits (R198, R199, R201). -/

namespace Sys2Proof.Machine

/-! The set in use and PROOFING. -/

theorem State.get_setHset_ne (s : State) (n : Nat) {g : Fld} (hh : g.key ≠ F.OSC_STAT.HSET.key) (hc : g.key ≠ F.REF_SELSTAT.CARRIED.key) :
    (s.setHset n).get g = s.get g := by
  unfold State.setHset
  split
  · rfl
  · dsimp only
    split
    · exact (State.get_setBit_ne _ true hc).trans (State.get_set_ne s n hh)
    · exact State.get_set_ne s n hh

theorem State.setHset_osc (s : State) (n : Nat) : (s.setHset n).osc = s.osc := by
  unfold State.setHset
  split
  · rfl
  · dsimp only
    split <;> rfl

theorem State.get_refreshHset_ne (s : State) {g : Fld} (hp : g.key ≠ F.OSC_STAT.PROOFING.key) (hh : g.key ≠ F.OSC_STAT.HSET.key)
    (hc : g.key ≠ F.REF_SELSTAT.CARRIED.key) : s.refreshHset.get g = s.get g :=
  (State.get_setHset_ne _ _ hh hc).trans (State.get_setBit_ne s _ hp)

theorem State.bit_refreshHset_ne (s : State) {g : Fld} (hp : g.key ≠ F.OSC_STAT.PROOFING.key) (hh : g.key ≠ F.OSC_STAT.HSET.key)
    (hc : g.key ≠ F.REF_SELSTAT.CARRIED.key) : s.refreshHset.bit g = s.bit g := State.bit_eq_of_get (s.get_refreshHset_ne hp hh hc)

/-- PROOFING is OVEN_PROOF or CELL_PROOF. -/
theorem State.bit_refreshHset_proofing (s : State) :
    s.refreshHset.bit F.OSC_STAT.PROOFING = (s.bit F.OSC_STAT.OVEN_PROOF || s.bit F.OSC_STAT.CELL_PROOF) :=
  (State.bit_eq_of_get (State.get_setHset_ne _ _ (by decide) (by decide))).trans (State.bit_setBit_self s _ _ rfl)

theorem State.refreshHset_osc (s : State) : s.refreshHset.osc = s.osc := State.setHset_osc _ _

/-! States of the standard. -/

theorem State.get_enterCell_ne (s : State) (n : Nat) {g : Fld} (hs : g.key ≠ F.OSC_STAT.CELL_STATE.key) (hcp : g.key ≠ F.OSC_STAT.CELL_PROOF.key)
    (hp : g.key ≠ F.OSC_STAT.PROOFING.key) (hh : g.key ≠ F.OSC_STAT.HSET.key) (hc : g.key ≠ F.REF_SELSTAT.CARRIED.key) :
    (s.enterCell n).get g = s.get g := by
  unfold State.enterCell
  dsimp only
  split
  · exact (State.get_refreshHset_ne _ hp hh hc).trans ((State.get_set_ne _ 1 hcp).trans (State.get_set_ne _ n hs))
  · exact State.get_set_ne _ n hs

theorem State.enterCell_state (s : State) {n : Nat} (hn : n < 8) : (s.enterCell n).cellState = n ∧ (s.enterCell n).osc.stateAt = s.raw := by
  unfold State.enterCell
  dsimp only
  split
  · refine ⟨?_, by rw [State.refreshHset_osc]; rfl⟩
    rw [State.cellState, State.get_refreshHset_ne _ (by decide) (by decide) (by decide), State.get_set_ne _ 1 (by decide)]
    exact State.get_set_of_lt _ hn
  · exact ⟨State.get_set_of_lt _ hn, rfl⟩

theorem State.enterCell_gates (s : State) (n : Nat) : (s.enterCell n).osc.gates = s.osc.gates := by
  unfold State.enterCell
  dsimp only
  split
  · rw [State.refreshHset_osc]; rfl
  · rfl

/-- A state other than heating only shows itself. -/
theorem State.enterCell_only (s : State) {n : Nat} (hn : n ≠ 0) :
    RegsBut [F.OSC_STAT.CELL_STATE] s (s.enterCell n) ∧ MemorySame s (s.enterCell n) := by
  unfold State.enterCell
  dsimp only
  rw [if_neg hn]
  exact ⟨.set (.of_regs (.refl _ s) rfl) (by simp), .of_eq rfl rfl⟩

theorem State.cellWaited_of_le {s : State} {sec : Nat} (h : s.osc.stateAt + sec * 625000000 ≤ s.raw) : s.cellWaited sec = true := decide_eq_true h

theorem State.microwaveLock_locks {s : State} (hs : s.cellState = 2) (ht : s.osc.stateAt + 10 * 625000000 ≤ s.raw) :
    ∃ t, exec .microwaveLock s = .next t ∧ t.cellState = 3 ∧ t.bit F.OSC_STAT.CELL_LOCK = true ∧
      t.get F.OSC_CELL.LOCKS = min 255 (s.get F.OSC_CELL.LOCKS + 1) ∧ t.osc.lockAt = s.raw := by
  let a := ((s.enterCell 3).set F.OSC_STAT.CELL_LOCK 1).bumpSat F.OSC_CELL.LOCKS
  let b : State := { a with osc := { a.osc with lockAt := s.raw, leftLock := none } }
  let c := match b.channelOfKind 8 with | some c => b.gainPresence c | none => b
  have hstate : a.cellState = 3 := ((State.get_set_ne _ _ (by decide)).trans (State.get_set_ne _ 1 (by decide))).trans
    (State.enterCell_state s (by omega)).1
  have hlock : a.bit F.OSC_STAT.CELL_LOCK = true := (State.bit_set_ne _ _ (by decide)).trans (State.bit_set _ 1 rfl)
  have hcount : a.get F.OSC_CELL.LOCKS = min 255 (s.get F.OSC_CELL.LOCKS + 1) := by
    rw [State.get_bumpSat_self, State.get_set_ne _ 1 (by decide),
      State.get_enterCell_ne s 3 (by decide) (by decide) (by decide) (by decide) (by decide)]
    rfl
  have hc : ∀ g : Fld, g.off = 0x700000 ∨ g = F.OSC_CELL.LOCKS → g.ch = 0 → g.lo < 32 → c.get g = a.get g := by
    intro g hoff hch hlo
    unfold c
    split
    · next c' _ =>
      refine State.get_gainPresence_ne b c' fun hk => ?_
      obtain ho | rfl := hoff
      · unfold Fld.key at hk
        rw [ho, hch] at hk
        change _ = (c' * 0x4000000 + 0x600008) * 32 + 12 at hk
        omega
      · exact absurd hk (by apply Fld.key_ne; omega)
    · rfl
  have hosc : c.osc = b.osc := by
    unfold c
    split
    · unfold State.gainPresence; split <;> rfl
    · rfl
  refine ⟨c.refreshHset, next_when (by rw [hs, State.cellWaited_of_le ht]; rfl) _, ?_, ?_, ?_, by rw [State.refreshHset_osc, hosc]⟩
  · rw [State.cellState, State.get_refreshHset_ne c (by decide) (by decide) (by decide), hc _ (.inl rfl) rfl (by decide)]
    exact hstate
  · rw [State.bit, State.get_refreshHset_ne c (by decide) (by decide) (by decide), hc _ (.inl rfl) rfl (by decide)]
    exact hlock
  · rw [State.get_refreshHset_ne c (by decide) (by decide) (by decide), hc _ (.inr rfl) rfl (by decide), hcount]

theorem State.cellSearch_ends {s : State} {k limit : Nat} (hk : (k, limit) ∈ [(0, 600), (1, 20), (2, 10)]) (hs : s.cellState = k)
    (ht : s.osc.stateAt + limit * 625000000 ≤ s.raw) : ∃ t, exec .cellSearchTimeout s = .next t ∧ t.cellState = 4 ∧
      RegsBut [F.OSC_STAT.CELL_STATE] s t ∧ MemorySame s t := by
  refine ⟨s.enterCell 4, next_when ?_ _, (s.enterCell_state (by omega)).1, (s.enterCell_only (by omega)).1, (s.enterCell_only (by omega)).2⟩
  have hw := State.cellWaited_of_le ht
  simp only [List.mem_cons, Prod.mk.injEq, List.not_mem_nil, or_false] at hk
  obtain ⟨rfl, rfl⟩ | ⟨rfl, rfl⟩ | ⟨rfl, rfl⟩ := hk <;> simp [hs, hw]

theorem State.cellFault_retries {s : State} (hs : s.cellState = 4) (ht : s.osc.stateAt + 60 * 625000000 ≤ s.raw) :
    ∃ t, exec .cellFaultRetry s = .next t ∧ t.cellState = 0 ∧ t.bit F.OSC_STAT.CELL_PROOF = true ∧ t.osc.stateAt = s.raw := by
  refine ⟨s.enterCell 0, next_when (by rw [hs, State.cellWaited_of_le ht]; rfl) _, (s.enterCell_state (by omega)).1, ?_,
    (s.enterCell_state (by omega)).2⟩
  unfold State.enterCell
  rw [if_pos rfl, State.bit_refreshHset_ne _ (by decide) (by decide) (by decide)]
  exact State.bit_set _ 1 rfl

theorem State.cellUnlocked_shows (s : State) (inWindow : Bool) : (s.cellUnlocked inWindow).cellState = (if inWindow then 1 else 0) ∧
    (s.cellUnlocked inWindow).bit F.OSC_STAT.CELL_LOCK = false ∧ (s.cellUnlocked inWindow).bit F.OSC_STAT.UNLOCK = true ∧
      (s.cellUnlocked inWindow).osc.gates = [] := by
  unfold State.cellUnlocked
  extract_lets a b c _ d
  have hb : b.bit F.OSC_STAT.CELL_LOCK = false := by
    have ha : a.bit F.OSC_STAT.CELL_LOCK = false := State.bit_set _ 0 rfl
    refine Eq.trans ?_ ha
    unfold b
    split
    · next c' hc' =>
      refine State.bit_eq_of_get (State.get_losePresence_ne a c' (by have := State.lt_of_channelOfKind hc'; omega) (by apply Fld.refKey rfl; omega)
        ⟨by decide, .inr (by decide)⟩ (fun n => ?_) ?_ ?_ ?_)
      all_goals (apply Fld.key_ne; omega)
    · rfl
  have hlock : c.bit F.OSC_STAT.CELL_LOCK = false := (State.bit_flag_ne b 0 0 (by omega) (by decide) (by decide)).trans hb
  have hun : c.bit F.OSC_STAT.UNLOCK = true := State.flag_get b 0 0 (by omega) rfl (by decide)
  have hlast : ∀ g : Fld, g ∈ [F.OSC_STAT.CELL_LOCK, F.OSC_STAT.UNLOCK] →
      ((d.set F.OSC_YAT_U.U 10000000).enterCell (if inWindow then 1 else 0)).refreshHset.get g = c.get g := by
    intro g hg
    have hne : g.key ≠ F.OSC_STAT.CELL_STATE.key ∧ g.key ≠ F.OSC_STAT.CELL_PROOF.key ∧ g.key ≠ F.OSC_STAT.PROOFING.key ∧
        g.key ≠ F.OSC_STAT.HSET.key ∧ g.key ≠ F.REF_SELSTAT.CARRIED.key ∧ g.key ≠ F.OSC_YAT_U.U.key := by
      revert g; decide
    obtain ⟨hst, hcp, hp, hh, hc, hu⟩ := hne
    rw [State.get_refreshHset_ne _ hp hh hc, State.get_enterCell_ne _ _ hst hcp hp hh hc, State.get_set_ne _ _ hu]
    rfl
  refine ⟨?_, (State.bit_eq_of_get (hlast _ (by simp))).trans hlock, (State.bit_eq_of_get (hlast _ (by simp))).trans hun, ?_⟩
  · rw [State.cellState, State.get_refreshHset_ne _ (by decide) (by decide) (by decide)]
    exact (State.enterCell_state _ (by split <;> omega)).1
  · rw [State.refreshHset_osc, State.enterCell_gates]
    rfl

/-! Proofing. -/

theorem State.ovenProof_clears {s : State} {t0 : Nat} (h0 : s.osc.ovenIn = some t0) (hp : s.bit F.OSC_STAT.OVEN_PROOF = true)
    (ht : t0 + 300 * 625000000 ≤ s.raw) : ∃ t, exec .ovenProofClear s = .next t ∧ t.bit F.OSC_STAT.OVEN_PROOF = false ∧
      t.bit F.OSC_STAT.PROOFING = t.bit F.OSC_STAT.CELL_PROOF := by
  let a := s.set F.OSC_STAT.OVEN_PROOF 0
  have hocc : ∀ g : Fld, g.blk ≠ 0x11 → (a.refreshHset.occur 18 2 0 0).bit g = a.refreshHset.bit g := fun g hg =>
    State.bit_eq_of_get (State.get_occur _ 2 0 0 (by omega) hg)
  have hoven : a.bit F.OSC_STAT.OVEN_PROOF = false := State.bit_set s 0 rfl
  refine ⟨a.refreshHset.occur 18 2 0 0, ?_, ?_, ?_⟩
  · show Host.Outcome.next (match s.osc.ovenIn with | none => s | some t => _) = _
    rw [h0]
    exact next_when (by rw [hp, decide_eq_true ht]; rfl) _
  · rw [hocc _ (by decide), State.bit_refreshHset_ne _ (by decide) (by decide) (by decide), hoven]
  · rw [hocc _ (by decide), hocc _ (by decide), State.bit_refreshHset_proofing, hoven, Bool.false_or,
      State.bit_refreshHset_ne _ (by decide) (by decide) (by decide)]

theorem State.cellProof_clears {s : State} (hp : s.bit F.OSC_STAT.CELL_PROOF = true) (hl : s.bit F.OSC_STAT.CELL_LOCK = true)
    (ht : s.osc.lockAt + s.get F.OSC_SETTLE.CELL * 625000000 ≤ s.raw) : ∃ t, exec .cellProofClear s = .next t ∧
      t.bit F.OSC_STAT.CELL_PROOF = false ∧ t.bit F.OSC_STAT.PROOFING = t.bit F.OSC_STAT.OVEN_PROOF := by
  let a := s.set F.OSC_STAT.CELL_PROOF 0
  have hocc : ∀ g : Fld, g.blk ≠ 0x11 → (a.refreshHset.occur 18 2 0 0).bit g = a.refreshHset.bit g := fun g hg =>
    State.bit_eq_of_get (State.get_occur _ 2 0 0 (by omega) hg)
  have hcell : a.bit F.OSC_STAT.CELL_PROOF = false := State.bit_set s 0 rfl
  refine ⟨a.refreshHset.occur 18 2 0 0, next_when (by rw [hp, hl, decide_eq_true ht]; rfl) _, ?_, ?_⟩
  · rw [hocc _ (by decide), State.bit_refreshHset_ne _ (by decide) (by decide) (by decide), hcell]
  · rw [hocc _ (by decide), hocc _ (by decide), State.bit_refreshHset_proofing, hcell, Bool.or_false,
      State.bit_refreshHset_ne _ (by decide) (by decide) (by decide)]

theorem State.oven_deviates {s : State} {t0 : Nat} (h0 : s.osc.ovenOut = some t0) (hp : s.bit F.OSC_STAT.OVEN_PROOF = false)
    (ht : t0 + 625000000 ≤ s.raw) : ∃ t, exec .ovenDeviation s = .next t ∧ t.bit F.OSC_STAT.OVEN_PROOF = true ∧
      t.bit F.OSC_STAT.OVENDEV = true ∧ t.bit F.OSC_STAT.PROOFING = true := by
  let a := s.set F.OSC_STAT.OVEN_PROOF 1
  have hoven : a.bit F.OSC_STAT.OVEN_PROOF = true := State.bit_set s 1 rfl
  refine ⟨a.refreshHset.flag F.OSC_STAT.OVENDEV 18 0, ?_, ?_, State.flag_get _ _ _ (by omega) rfl (by decide), ?_⟩
  · show Host.Outcome.next (match s.osc.ovenOut with | none => s | some t => _) = _
    rw [h0]
    exact next_when (by rw [hp, decide_eq_true ht]; rfl) _
  · rw [State.bit_flag_ne _ _ _ (by omega) (by decide) (by decide), State.bit_refreshHset_ne _ (by decide) (by decide) (by decide), hoven]
  · rw [State.bit_flag_ne _ _ _ (by omega) (by decide) (by decide), State.bit_refreshHset_proofing, hoven, Bool.true_or]

theorem State.cellProof_sets {s : State} {t0 : Nat} (h0 : s.osc.leftLock = some t0) (hl : s.bit F.OSC_STAT.CELL_LOCK = false)
    (hp : s.bit F.OSC_STAT.CELL_PROOF = false) (ht : t0 + 60 * 625000000 ≤ s.raw) :
    ∃ t, exec .cellProofSet s = .next t ∧ t.bit F.OSC_STAT.CELL_PROOF = true ∧ t.bit F.OSC_STAT.PROOFING = true := by
  let a := s.set F.OSC_STAT.CELL_PROOF 1
  have hcell : a.bit F.OSC_STAT.CELL_PROOF = true := State.bit_set s 1 rfl
  refine ⟨a.refreshHset, ?_, ?_, ?_⟩
  · show Host.Outcome.next (match s.osc.leftLock with | none => s | some t => _) = _
    rw [h0]
    exact next_when (by rw [hl, hp, decide_eq_true ht]; rfl) _
  · rw [State.bit_refreshHset_ne _ (by decide) (by decide) (by decide), hcell]
  · rw [State.bit_refreshHset_proofing, hcell, Bool.or_true]

/-- A heater that has not reached its window shows HEATFLT; the cell then is in Fault. -/
theorem State.heater_fails {s : State} (ht : 374997500000 ≤ s.raw) :
    (s.osc.ovenReached = false → ∃ t, exec (.heaterFault false) s = .next t ∧ t.bit F.OSC_STAT.HEATFLT = true ∧ RegsBut [F.OSC_STAT.HEATFLT] s t) ∧
    (s.cellState = 0 → s.osc.heatAt = none → ∃ t, exec (.heaterFault true) s = .next t ∧ t.bit F.OSC_STAT.HEATFLT = true ∧ t.cellState = 4) := by
  have hflag : (s.flag F.OSC_STAT.HEATFLT 18 0).bit F.OSC_STAT.HEATFLT = true := State.flag_get s 0 0 (by omega) rfl (by decide)
  refine ⟨fun ho => ⟨_, next_when (by simp [ht, ho]) _, hflag, .flag (.refl _ s) (by omega) (by simp)⟩, fun hc ha => ?_⟩
  let a := s.flag F.OSC_STAT.HEATFLT 18 0
  refine ⟨a.enterCell 4, next_when (by simp [ht, hc, ha]) _, ?_, (a.enterCell_state (by omega)).1⟩
  rw [State.bit, State.get_enterCell_ne a 4 (by decide) (by decide) (by decide) (by decide) (by decide)]
  exact hflag

/-- Settles O19, from what entering a state of the standard, losing its lock and refreshing PROOFING leave. -/
theorem atomicStandard : Obligations.AtomicStandard := by
  refine ⟨⟨fun s hs => ?_, fun s hs => ?_, ?_, ?_, ?_, ?_⟩, ?_, ?_, ?_, ?_, ?_, ?_⟩
  · exact ⟨s.enterCell 1, next_when (by rw [hs]; rfl) _, (s.enterCell_state (by omega)).1, (s.enterCell_state (by omega)).2,
      (s.enterCell_only (by omega)).1, (s.enterCell_only (by omega)).2⟩
  · exact ⟨s.enterCell 2, next_when (by rw [hs]; rfl) _, (s.enterCell_state (by omega)).1, (s.enterCell_state (by omega)).2,
      (s.enterCell_only (by omega)).1, (s.enterCell_only (by omega)).2⟩
  · exact fun s hs ht => State.microwaveLock_locks hs ht
  · exact fun s k limit hk hs ht => State.cellSearch_ends hk hs ht
  · exact fun s hs ht => State.cellFault_retries hs ht
  · exact fun s w hs => ⟨s.cellUnlocked w, next_when (by rw [hs]; rfl) _, s.cellUnlocked_shows w⟩
  · exact fun s t0 h0 hp ht => State.ovenProof_clears h0 hp ht
  · exact fun s hp hl ht => State.cellProof_clears hp hl ht
  · exact fun s t0 h0 hp ht => State.oven_deviates h0 hp ht
  · exact fun s t0 h0 hl hp ht => State.cellProof_sets h0 hl hp ht
  · exact fun s ht ho => (State.heater_fails ht).1 ho
  · exact fun s ht hc ha => (State.heater_fails ht).2 hc ha

end Sys2Proof.Machine

/-! PROOF. What the thermal model takes in (R200, R204, R205) and the model sets (R206, R213, R214). -/

namespace Sys2Proof.Machine

/-! Sensors. -/

theorem State.get_sampleSensor_ne (s : State) (temps : List Int) (i : Nat) {g : Fld} (hb : g.blk ≠ 0x11) (ht : g.key ≠ (F.OSC_TS.TEMP i).key)
    (hf : g.key ≠ (F.OSC_TS.FAIL i).key) (hs : g.key ≠ F.OSC_STAT.SENSFAIL.key) : (s.sampleSensor temps i).get g = s.get g := by
  unfold State.sampleSensor
  extract_lets bad a n good _ t b
  have hbg : b.get g = s.get g := State.get_set_ne s _ ht
  split
  · rw [State.flag_get_ne _ _ _ (by omega) hb hs, State.get_set_ne b _ hf, hbg]
  · split
    · rw [State.get_set_ne b _ hf, hbg]
    · exact hbg

/-- What a sensor's sample leaves of the oscillators' state: the load and the state of the load's lag. -/
theorem State.sampleSensor_lag (s : State) (temps : List Int) (i : Nat) :
    ((s.sampleSensor temps i).osc.h, (s.sampleSensor temps i).osc.quarters) = (s.osc.h, s.osc.quarters) := by
  unfold State.sampleSensor
  extract_lets bad a n good _ t b
  split
  · rw [State.flag_osc]
    rfl
  · split <;> rfl

/-- Every sensor shows its reading, whatever it showed before. -/
theorem State.getI_sampleSensor (s : State) {temps : List Int} {i : Nat} (hi : i < 8) (ht : -32768 ≤ temps.getD i 0 ∧ temps.getD i 0 < 32768) :
    (s.sampleSensor temps i).getI (F.OSC_TS.TEMP i) = temps.getD i 0 := by
  have hset : (s.setI (F.OSC_TS.TEMP i) (temps.getD i 0)).getI (F.OSC_TS.TEMP i) = temps.getD i 0 :=
    State.getI_setI s (Nat.zero_lt_succ 15) ht.1 ht.2
  have hfail : (F.OSC_TS.TEMP i).key ≠ (F.OSC_TS.FAIL i).key := by apply Fld.key_ne; omega
  unfold State.sampleSensor
  extract_lets bad a n good _ t b
  have hb : b.get (F.OSC_TS.TEMP i) = (s.setI (F.OSC_TS.TEMP i) (temps.getD i 0)).get (F.OSC_TS.TEMP i) := rfl
  refine Eq.trans (congrArg (toSigned _) ?_) hset
  split
  · rw [State.flag_get_ne _ _ _ (by omega) (by apply Fld.blk_ne; omega) (by apply Fld.key_ne; omega), State.get_set_ne b _ hfail, hb]
  · split
    · rw [State.get_set_ne b _ hfail, hb]
    · exact hb

/-- The sensors of a list, sampled one after another. -/
def State.sampleSensors (s : State) (temps : List Int) (l : List Nat) : State := l.foldl (fun t i => t.sampleSensor temps i) s

theorem State.getI_sampleSensors {temps : List Int} (ht : ∀ i, -32768 ≤ temps.getD i 0 ∧ temps.getD i 0 < 32768) {l : List Nat} {j : Nat} (hj : j
    < 8) (s : State)
    (h : j ∈ l ∨ s.getI (F.OSC_TS.TEMP j) = temps.getD j 0) : (s.sampleSensors temps l).getI (F.OSC_TS.TEMP j) = temps.getD j 0 := by
  induction l generalizing s with
  | nil => exact h.resolve_left (by simp)
  | cons i l ih =>
    refine ih (s.sampleSensor temps i) ?_
    rcases eq_or_ne j i with rfl | hne
    · exact .inr (State.getI_sampleSensor s hj (ht j))
    · refine h.imp (fun hm => (List.mem_cons.mp hm).resolve_left hne) fun hj => Eq.trans (congrArg (toSigned _) ?_) hj
      exact State.get_sampleSensor_ne s temps i (by apply Fld.blk_ne; omega) (by apply Fld.key_ne; omega) (by apply Fld.key_ne; omega)
        (by apply Fld.key_ne; omega)

theorem State.sampleSensors_lag (s : State) (temps : List Int) (l : List Nat) :
    ((s.sampleSensors temps l).osc.h, (s.sampleSensors temps l).osc.quarters) = (s.osc.h, s.osc.quarters) :=
  foldl_keeps (fun t : State => (t.osc.h, t.osc.quarters)) (fun t i => t.sampleSensor_lag temps i) l s

/-- The state after a sample but for the hottest sensor. -/
def State.thermalSample (s : State) (temps : List Int) (oven cell : Int) (ovenHeat cellHeat : Nat) : State :=
  let b := (((s.sampleSensors temps (List.range 8)).setISat F.OSC_OVEN.TERR oven).setISat F.OSC_CELL.TERR cell).sets
    [(F.OSC_OVEN.HEAT, min 255 ovenHeat), (F.OSC_CELL.HEAT, min 255 cellHeat)]
  let inW := decide (oven.natAbs ≤ 100)
  let o := b.osc
  { b with osc := { o with
    temps := (o.temps.set 8 oven).set 9 cell
    ovenIn := since inW o.ovenIn s.raw
    ovenOut := since (decide (500 < oven.natAbs)) o.ovenOut s.raw
    ovenReached := o.ovenReached || inW
    h := o.h + (o.load - o.h) / 45000 } }

theorem State.sensorSample_ends (s : State) (temps : List Int) (oven cell : Int) (oh ch : Nat) :
    ∃ t, exec (.sensorSample temps oven cell oh ch) s = .next t ∧ t.osc = (s.thermalSample temps oven cell oh ch).osc ∧
      ∀ g : Fld, g.key ≠ F.GLB_SUPPLY.TMAX.key → t.get g = (s.thermalSample temps oven cell oh ch).get g := by
  change ∃ t, Host.Outcome.next (if (s.thermalSample temps oven cell oh ch).goodSensors.isEmpty then _ else _) = _ ∧ _
  split
  · exact ⟨_, rfl, rfl, fun g hg => State.get_set_ne (s.thermalSample temps oven cell oh ch) _ hg⟩
  · exact ⟨_, rfl, rfl, fun g hg => State.get_set_ne (s.thermalSample temps oven cell oh ch) _ hg⟩

theorem State.getI_setISat (s : State) {f : Fld} {v : Int} (hw : f.w = 16) : (s.setISat f v).getI f = max (-32768) (min 32767 v) := by
  rw [State.setISat, State.getI_setI s (by omega) (by rw [hw]; omega) (by rw [hw]; omega), hw]
  rfl

theorem State.thermalSample_osc (s : State) (temps : List Int) (oven cell : Int) (oh ch : Nat) :
    (s.thermalSample temps oven cell oh ch).osc.h = s.osc.h + (s.osc.load - s.osc.h) / 45000 := by
  obtain ⟨hh, hq⟩ := Prod.mk.inj (s.sampleSensors_lag temps (List.range 8))
  change (s.sampleSensors temps (List.range 8)).osc.h + ((s.sampleSensors temps (List.range 8)).osc.load -
    (s.sampleSensors temps (List.range 8)).osc.h) / 45000 = _
  rw [OscSt.load, hh, hq, OscSt.load]

theorem State.thermalSample_get (s : State) (temps : List Int) (oven cell : Int) (oh ch : Nat) :
    (s.thermalSample temps oven cell oh ch).getI F.OSC_OVEN.TERR = max (-32768) (min 32767 oven) ∧
      (s.thermalSample temps oven cell oh ch).getI F.OSC_CELL.TERR = max (-32768) (min 32767 cell) ∧
      (s.thermalSample temps oven cell oh ch).get F.OSC_OVEN.HEAT = min 255 oh ∧
      (s.thermalSample temps oven cell oh ch).get F.OSC_CELL.HEAT = min 255 ch := by
  let a := (s.sampleSensors temps (List.range 8)).setISat F.OSC_OVEN.TERR oven
  have hheat : ∀ g : Fld, g.key ≠ F.OSC_OVEN.HEAT.key → g.key ≠ F.OSC_CELL.HEAT.key →
      (s.thermalSample temps oven cell oh ch).get g = (a.setISat F.OSC_CELL.TERR cell).get g := fun g ho hc =>
    (State.get_set_ne _ _ hc).trans (State.get_set_ne _ _ ho)
  refine ⟨?_, ?_, (State.get_set_ne _ _ (show F.OSC_OVEN.HEAT.key ≠ F.OSC_CELL.HEAT.key by decide)).trans (State.get_set_of_lt _ (show _ < 2 ^ 8
    by omega)),
    State.get_set_of_lt _ (show _ < 2 ^ 8 by omega)⟩
  · rw [State.getI, hheat _ (by decide) (by decide), State.setISat, State.setI, State.get_set_ne _ _ (by decide)]
    exact State.getI_setISat _ rfl
  · rw [State.getI, hheat _ (by decide) (by decide)]
    exact State.getI_setISat a rfl

theorem State.thermalSample_temp (s : State) {temps : List Int} (oven cell : Int) (oh ch : Nat) (ht : ∀ x ∈ temps, -32768 ≤ x ∧ x < 32768) {i : Nat}
    (hi : i < 8) : (s.thermalSample temps oven cell oh ch).getI (F.OSC_TS.TEMP i) = temps.getD i 0 := by
  have hr : ∀ i, -32768 ≤ temps.getD i 0 ∧ temps.getD i 0 < 32768 := fun i => by
    rw [List.getD_eq_getElem?_getD]
    cases hx : temps[i]? with
    | none => simp
    | some x => exact ht x (List.mem_of_getElem? hx)
  refine Eq.trans (congrArg (toSigned _) ?_) (State.getI_sampleSensors hr hi s (.inl (List.mem_range.mpr hi)))
  exact (State.get_set_ne _ _ (by apply Fld.key_ne; omega)).trans ((State.get_set_ne _ _ (by apply Fld.key_ne; omega)).trans
    ((State.get_set_ne _ _ (by apply Fld.key_ne; omega)).trans (State.get_set_ne _ _ (by apply Fld.key_ne; omega))))

/-! Load reports. -/

theorem State.loadReport_adds {s : State} {q : Nat} (used : Nat) (hq : q < 4) (hs : s.get (F.PWR_DOM_STAT.STATE (q + 1)) = 0) :
    ∃ t, exec (.loadReport q used) s = .next t ∧
        t.osc.loadSum = s.osc.loadSum + min 1 ((used : Rat) / (4 * levelMHz (s.get (F.PWR_DOM_STAT.PLVL (q + 1))))) *
          levelWeight (s.get (F.PWR_DOM_STAT.PLVL (q + 1))) ∧
        t.bit (F.PKE_QSTAT.MISSING q) = false ∧ RegsBut [F.PKE_QSTAT.MISSING q, F.PKE_QSTAT.USED q] s t ∧ MemorySame s t := by
  let p := s.get (F.PWR_DOM_STAT.PLVL (q + 1))
  let a := s.set (F.PKE_QSTAT.MISSING q) 0
  have hregs : RegsBut [F.PKE_QSTAT.MISSING q, F.PKE_QSTAT.USED q] s a := .set (.refl _ s) (by simp)
  refine ⟨(a.setSat (F.PKE_QSTAT.USED q) used).takeLoad q (min 1 ((used : Rat) / (4 * levelMHz p)) * levelWeight p), ?_, rfl, ?_,
    .of_regs (.set hregs (by simp)) rfl, .of_eq rfl rfl⟩
  · change onUnit _ _ = _
    rw [onUnit_lt hq, hs]
    rfl
  · exact (State.bit_set_ne a _ (by apply Fld.key_ne; omega)).trans (State.bit_set s 0 rfl)

theorem State.loadReport_missing {s : State} {q : Nat} (hq : q < 4) (hs : s.get (F.PWR_DOM_STAT.STATE (q + 1)) = 0) :
    ∃ t, exec (.loadReportMissing q) s = .next t ∧ t.osc.loadSum = s.osc.loadSum + 1 ∧ t.bit (F.PKE_QSTAT.MISSING q) = true ∧
        RegsBut [F.PKE_QSTAT.MISSING q] s t ∧ MemorySame s t := by
  refine ⟨(s.set (F.PKE_QSTAT.MISSING q) 1).takeLoad q 1, ?_, rfl, State.bit_set s 1 rfl,
    .of_regs (.set (.refl _ s) (by simp)) rfl, .of_eq rfl rfl⟩
  change onUnit _ _ = _
  rw [onUnit_lt hq, if_pos hs]

theorem State.loadReport_asleep {s : State} {q : Nat} (hq : q < 4) (hs : s.get (F.PWR_DOM_STAT.STATE (q + 1)) ≠ 0) :
    ∃ t, exec (.loadReportMissing q) s = .next t ∧ t.osc.loadSum = s.osc.loadSum ∧ RegsOutside [] s t ∧ MemorySame s t := by
  refine ⟨s.takeLoad q 0, ?_, add_zero s.osc.loadSum, .of_regs (.refl _ s) rfl, .of_eq rfl rfl⟩
  change onUnit _ _ = _
  rw [onUnit_lt hq, if_neg hs]

/-! The second's operating point. -/

/-- What the review of the rate leaves: the mean load, the sum and every register. (`change60` is made a variable before the body is
opened: the kernel would otherwise evaluate it on its literal numbers of ticks.) -/
theorem State.reviewRate_load (s : State) :
    (s.reviewRate.osc.lbar, s.reviewRate.osc.loadSum) = (s.osc.lbar, s.osc.loadSum) ∧ s.reviewRate.regs = s.regs := by
  obtain ⟨f, hf⟩ : ∃ f, f = State.reviewRate := ⟨_, rfl⟩
  obtain ⟨v, hv⟩ : ∃ v, v = State.change60 := ⟨_, rfl⟩
  rw [← hf]
  delta State.reviewRate at hf
  rw [← hv] at hf
  subst hf
  dsimp only
  split
  · exact ⟨rfl, rfl⟩
  · split <;> split <;> exact ⟨rfl, rfl⟩

theorem State.reviewUntrained_osc (s : State) : s.reviewUntrained.osc = s.osc := by
  unfold State.reviewUntrained
  split
  · rfl
  · split
    · rfl
    · rw [State.flag_osc]
      rfl

theorem State.get_reviewUntrained_ne (s : State) {g : Fld} (hb : g.blk ≠ 0x11) (hl : g.key ≠ F.OSC_STAT.LOAD_UNTRAINED.key)
    (hu : g.key ≠ F.OSC_STAT.UNTR.key) : s.reviewUntrained.get g = s.get g := by
  unfold State.reviewUntrained
  split
  · exact State.get_set_ne s _ hl
  · split
    · rfl
    · rw [State.flag_get_ne _ _ _ (by omega) hb hu, State.get_set_ne s _ hl]

/-- The state in which the second's mean load stands and nothing is shown yet. -/
def State.meanLoad (s : State) : State :=
  let a := s.chargeCarry
  let b := { a with osc := { a.osc with lbar := min 1 (s.osc.loadSum / 4000000), loadSum := 0 } }
  if b.goodSensors.isEmpty then b.useFree else b

theorem State.meanLoad_osc (s : State) : s.meanLoad.osc.lbar = min 1 (s.osc.loadSum / 4000000) ∧ s.meanLoad.osc.loadSum = 0 := by
  unfold State.meanLoad
  extract_lets a b
  split <;> exact ⟨rfl, rfl⟩

/-- The reviews of the second and what they show of the sets. -/
def State.secondReviewed (s : State) : State :=
  let d := s.reviewRate.reviewUntrained
  (d.setSat (F.OSC_TL.SIG 0) (d.sigTL 0)).setSat (F.OSC_TL.SIG 1) (d.sigTL 1)

theorem State.secondReviewed_load (s : State) :
    (s.secondReviewed.osc.lbar, s.secondReviewed.osc.loadSum) = (s.osc.lbar, s.osc.loadSum) ∧ s.secondReviewed.get F.OSC_OP.LOAD = s.get
      F.OSC_OP.LOAD := by
  obtain ⟨hload, hregs⟩ := s.reviewRate_load
  have hosc : s.secondReviewed.osc = s.reviewRate.osc := by
    rw [State.secondReviewed, State.setSat, State.setSat, State.set_osc, State.set_osc, State.reviewUntrained_osc]
  refine ⟨by rw [hosc, hload], ?_⟩
  rw [State.secondReviewed, State.setSat, State.get_set_ne _ _ (by decide), State.setSat, State.get_set_ne _ _ (by decide),
    State.get_reviewUntrained_ne _ (by decide) (by decide) (by decide), State.get_congr hregs]

/-- The state in which the second's operating point shows. -/
def State.operatingPoint (s : State) : State :=
  let l : Rat := min 1 (s.osc.loadSum / 4000000)
  let a := s.chargeCarry
  let tb := max 0 (min 25 ((({ a with osc := { a.osc with lbar := l, loadSum := 0 } } : State).tbar + 20) / 5).floor)
  s.meanLoad.sets [(F.OSC_OP.TBIN, tb.toNat), (F.OSC_OP.LBIN, (min 7 (8 * l).floor).toNat), (F.OSC_OP.LOAD, (roundAway (256 * l)).toNat)]

theorem exec_operatingPointUpdate {s : State} (hr : s.raw % 625000000 = 0) :
    exec .operatingPointUpdate s = .next s.operatingPoint.secondReviewed := by
  change execOperatingPointUpdate s = _
  rw [execOperatingPointUpdate, hr]
  rfl

theorem State.operatingPoint_shows {s : State} (hr : s.raw % 625000000 = 0) :
    ∃ t, exec .operatingPointUpdate s = .next t ∧ t.osc.lbar = min 1 (s.osc.loadSum / 4000000) ∧ t.osc.loadSum = 0 ∧
        t.get F.OSC_OP.LOAD = (roundAway (256 * min 1 (s.osc.loadSum / 4000000))).toNat % 512 := by
  obtain ⟨hload, hget⟩ := s.operatingPoint.secondReviewed_load
  obtain ⟨hl, hs⟩ := Prod.mk.inj hload
  obtain ⟨hlbar, hsum⟩ := s.meanLoad_osc
  have hosc : s.operatingPoint.osc = s.meanLoad.osc := by
    simp only [State.operatingPoint, State.sets_cons, State.sets_nil, State.set_osc]
  refine ⟨_, exec_operatingPointUpdate hr, by rw [hl, hosc, hlbar], by rw [hs, hosc, hsum], hget.trans ?_⟩
  simp only [State.operatingPoint, State.sets_cons, State.sets_nil]
  rw [State.get_set_self]
  rfl

/-! The model sets and the store. -/

theorem State.showAgeing_only (s : State) (n : Nat) :
    RegsBut [F.OSC_AGE_D.D n, F.OSC_AGE_U.U n, F.OSC_LEARN.DAYS n, F.OSC_LEARN.LEARNT n] s (s.showAgeing n) :=
  .sets (.set (.setI (.refl _ s) (by simp)) (by simp)) (by simp)

theorem State.get_showAgeing_days (s : State) (n : Nat) : (s.showAgeing n).get (F.OSC_LEARN.DAYS n) = min 255 (s.mset n).days.length :=
  (State.get_set_ne _ _ (by apply Fld.key_ne; omega)).trans (State.get_set_of_lt _ (show _ < 2 ^ 8 by omega))

theorem State.showAgeing_mset (s : State) (n m : Nat) : (s.showAgeing n).mset m = s.mset m := rfl

theorem State.ageingDay_ends (s : State) :
    ∃ t, exec .ageingDayEnd s = .next t ∧ t.osc.sets = s.osc.sets.map (fun (m : ModelSet) => m.endDay (s.dsec / 86400)) ∧
        t.get (F.OSC_LEARN.DAYS 0) = min 255 (t.mset 0).days.length ∧ t.get (F.OSC_LEARN.DAYS 1) = min 255 (t.mset 1).days.length ∧
        RegsBut [F.OSC_AGE_D.D 0, F.OSC_AGE_D.D 1, F.OSC_AGE_U.U 0, F.OSC_AGE_U.U 1, F.OSC_LEARN.DAYS 0, F.OSC_LEARN.DAYS 1, F.OSC_LEARN.LEARNT 0,
          F.OSC_LEARN.LEARNT 1] s t ∧ MemorySame s t := by
  let a : State := { s with osc := { s.osc with sets := s.osc.sets.map (fun (m : ModelSet) => m.endDay (s.dsec / 86400)) } }
  have hone := State.get_showAgeing_days (a.showAgeing 0) 1
  refine ⟨(a.showAgeing 0).showAgeing 1, rfl, rfl, ?_, by rw [State.showAgeing_mset, hone],
    ((((RegsBut.refl _ s).of_regs (u := a) rfl).trans ((a.showAgeing_only 0).mono (by simp))).trans
      (((a.showAgeing 0).showAgeing_only 1).mono (by simp))), .of_eq rfl rfl⟩
  rw [(a.showAgeing 0).showAgeing_only 1 (F.OSC_LEARN.DAYS 0) (by decide) (by decide)]
  rw [State.showAgeing_mset, State.showAgeing_mset]
  exact State.get_showAgeing_days a 0

/-- The copy written has a sequence number above the other's. -/
theorem State.writeStore_newest {s : State} (hon : s.supply.on = true) :
    ((s.writeStore true).nv.newestStore.map (·.sets)) = some s.osc.sets ∧ (s.writeStore true).regs = s.regs := by
  simp only [State.writeStore, hon, Bool.not_true, Bool.false_eq_true, if_false, if_true]
  refine ⟨?_, trivial⟩
  cases ha : s.nv.storeA with
  | none =>
    cases hb : s.nv.storeB with
    | none => simp [NvSt.newestStore, State.storeCopy]
    | some b => simp [NvSt.newestStore, State.storeCopy]
  | some a =>
    cases hb : s.nv.storeB with
    | none => simp [NvSt.newestStore, State.storeCopy]
    | some b =>
      by_cases hab : a.seq ≤ b.seq
      · simp [NvSt.newestStore, State.storeCopy, hab]
      · simp [NvSt.newestStore, State.storeCopy, hab]

theorem State.writeStore_fails {s : State} (hon : s.supply.on = true) : (s.writeStore false).bit F.OSC_STAT.STOREERR = true := by
  simp only [State.writeStore, hon, Bool.not_true, Bool.false_eq_true, if_false]
  exact State.flag_get _ _ _ (by omega) rfl (by decide)

/-- The check of the key of an action on the oscillators. -/
theorem State.oscAction_keyed (s : State) (req : Requester) (f : State → State) : s.oscAction req 0x9612 f = f s := if_neg (by decide)

theorem getD_set_ne {α : Type} (l : List α) (d v : α) {i j : Nat} (h : i ≠ j) : (l.set i v).getD j d = l.getD j d := by
  rw [List.getD_eq_getElem?_getD, List.getElem?_set_ne h, List.getD_eq_getElem?_getD]

theorem State.clearSet_clears {s : State} (req : Requester) {n : Nat} (h : ¬ (s.get F.OSC_STAT.HSET = n ∧ s.srvState = 3)) :
    (s.clearSet req n).mset n = {} ∧ (s.clearSet req n).get (F.OSC_LEARN.DAYS n) = 0 ∧ ∀ m, n ≠ m → (s.clearSet req n).mset m = s.mset m := by
  have hempty : (s.osc.sets.set n {}).getD n {} = {} := by
    rw [List.getD_eq_getElem?_getD, List.getElem?_set_self']
    cases s.osc.sets[n]? <;> rfl
  rw [State.clearSet, if_neg h]
  refine ⟨hempty, (State.get_showAgeing_days _ n).trans ?_, fun m hm => getD_set_ne _ _ _ hm⟩
  rw [State.mset, hempty]
  rfl

/-- An action on the oscillators with another key is an access error and nothing else. -/
theorem State.oscAction_unkeyed {s : State} {req : Requester} {key : Nat} (hk : key % 65536 ≠ 0x9612) (hclear : s.bit F.XBR_AERR.AERR = false)
    (f : State → State) : (s.oscAction req key f).osc = s.osc ∧ (s.oscAction req key f).nv = s.nv ∧ (s.oscAction req key f).get F.XBR_AERR.CAUSE = 6 ∧
      RegsBut [F.XBR_AERR.AERR, F.XBR_AERR.REQ, F.XBR_AERR.CAUSE, F.XBR_AERRADDR.ADDR] s (s.oscAction req key f) := by
  rw [State.oscAction, if_pos hk]
  refine ⟨by simp, by simp, State.accessError_cause hclear req 6 0x700004 (by decide), fun f hb hf => ?_⟩
  rw [State.get_accessError_of_clear hclear _ _ _ hb]
  simp only [List.forall_mem_cons] at hf ⊢
  obtain ⟨ha, hr, hc, hd, -⟩ := hf
  exact State.get_aerrRecorded_ne s _ _ _ (by simp [ha, hr, hc, hd])

/-- A command of OSC_CTRL whose requester reaches the block. -/
theorem State.atOscCtrl {s : State} {req : Requester} (hr : s.Reaches req 0x700004) (f : State → State) :
    (Host.Outcome.next (s.atFabric req 0x700004 f) : Result) = .next (f (s.set (F.XBR_TSTAT.OWNER 6) req.master)) :=
  congrArg _ (State.atFabric_of_reaches hr f)

/-- Settles O20, from what a sample, a load report, the second's mean load and the writes of the model store leave. -/
theorem ovenAndModels : Obligations.OvenAndModels := by
  refine ⟨⟨fun s temps oven cell oh ch ht => ?_, fun s q used hq hs => State.loadReport_adds used hq hs,
    fun s q hq hs => State.loadReport_missing hq hs, fun s q hq hs => State.loadReport_asleep hq hs, fun s hr => State.operatingPoint_shows hr⟩,
    fun s => s.ageingDay_ends, fun s hon hr hw => ?_, fun s hon hr hw => ?_, fun s req hr => ?_, fun s req hr hh => ?_, fun s req hr hh => ?_,
    fun s req hr hc => ?_, fun s req key hr hk hclear c hc => ?_⟩
  · obtain ⟨t, hexec, hosc, hget⟩ := s.sensorSample_ends temps oven cell oh ch
    obtain ⟨hoven, hcell, hoh, hch⟩ := s.thermalSample_get temps oven cell oh ch
    refine ⟨t, hexec, fun i hi => ?_, (congrArg (toSigned _) (hget _ (by decide))).trans hoven, (congrArg (toSigned _) (hget _ (by
      decide))).trans hcell,
      (hget _ (by decide)).trans hoh, (hget _ (by decide)).trans hch, ?_⟩
    · exact (congrArg (toSigned _) (hget _ (by apply Fld.key_ne; omega))).trans (s.thermalSample_temp oven cell oh ch ht hi)
    · rw [hosc, s.thermalSample_osc]
  · obtain ⟨hnew, hregs⟩ := State.writeStore_newest hon
    exact ⟨s.writeStore true, next_when (by simp [hr, hw]) _, hnew, .of_regs (.refl _ s) hregs, (Keeps.writeStore (.refl s) : Keeps .all s
      _).memorySame⟩
  · exact ⟨s.writeStore false, next_when (by simp [hr, hw]) _, State.writeStore_fails hon⟩
  · let a := s.set (F.XBR_TSTAT.OWNER 6) req.master
    refine ⟨a.writeStore true, (State.atOscCtrl hr _).trans (congrArg _ (a.oscAction_keyed req _)), (State.writeStore_newest (s := a) hr.1).1,
      (Keeps.writeStore (.set (.refl s)) : Keeps .all s _).memorySame⟩
  · let a := s.set (F.XBR_TSTAT.OWNER 6) req.master
    have ha : ¬ (a.get F.OSC_STAT.HSET = 0 ∧ a.srvState = 3) := by
      rwa [State.srvState, State.get_set_ne s _ (by decide), State.get_set_ne s _ (by decide)]
    obtain ⟨hset, hdays, hother⟩ := State.clearSet_clears req ha
    exact ⟨a.clearSet req 0, (State.atOscCtrl hr _).trans (congrArg _ (a.oscAction_keyed req _)), hset, hdays, hother 1 (by decide)⟩
  · let a := s.set (F.XBR_TSTAT.OWNER 6) req.master
    have ha : ¬ (a.get F.OSC_STAT.HSET = 1 ∧ a.srvState = 3) := by
      rwa [State.srvState, State.get_set_ne s _ (by decide), State.get_set_ne s _ (by decide)]
    obtain ⟨hset, hdays, hother⟩ := State.clearSet_clears req ha
    exact ⟨a.clearSet req 1, (State.atOscCtrl hr _).trans (congrArg _ (a.oscAction_keyed req _)), hset, hdays, hother 0 (by decide)⟩
  · let a := s.set (F.XBR_TSTAT.OWNER 6) req.master
    have ha : a.cellState = 3 := by rwa [State.cellState, State.get_set_ne s _ (by decide)]
    obtain ⟨-, hlock, hun, -⟩ := a.cellUnlocked_shows (decide ((a.getI F.OSC_CELL.TERR).natAbs ≤ 200))
    refine ⟨a.cellUnlocked (decide ((a.getI F.OSC_CELL.TERR).natAbs ≤ 200)), (State.atOscCtrl hr _).trans (congrArg _ ((a.oscAction_keyed req
      _).trans ?_)), hlock, hun⟩
    rw [State.relock, ha]
    rfl
  · let a := s.set (F.XBR_TSTAT.OWNER 6) req.master
    have hunkeyed : ∀ f, exec c s = .next (a.oscAction req key f) → ∃ t, exec c s = .next t ∧ t.osc = s.osc ∧ t.nv = s.nv ∧
        t.get F.XBR_AERR.CAUSE = 6 ∧
          RegsBut [F.XBR_TSTAT.OWNER 6, F.XBR_AERR.AERR, F.XBR_AERR.REQ, F.XBR_AERR.CAUSE, F.XBR_AERRADDR.ADDR] s t := fun f hexec => by
      have haclear : a.bit F.XBR_AERR.AERR = false := (State.bit_set_ne s _ (by decide)).trans hclear
      obtain ⟨hosc, hnv, hcause, hregs⟩ := State.oscAction_unkeyed (req := req) hk haclear f
      exact ⟨_, hexec, hosc, hnv, hcause, (RegsBut.set (.refl _ s) (by simp)).trans (hregs.mono (by simp))⟩
    simp only [List.mem_cons, List.not_mem_nil, or_false] at hc
    rcases hc with rfl | rfl | rfl | rfl
    · exact hunkeyed _ (State.atOscCtrl hr _)
    · exact hunkeyed _ (State.atOscCtrl hr _)
    · exact hunkeyed _ (State.atOscCtrl hr _)
    · exact hunkeyed _ (State.atOscCtrl hr _)

end Sys2Proof.Machine

/-! PROOF. The host's proposals of a pair (R233 to R235). -/

namespace Sys2Proof.Machine

/-- A proposal's checks read MAN of SRV0's control and nothing else of the registers. -/
theorem State.checkPair_set (s : State) {f : Fld} (v : Nat) (hf : (F.HRT_SRV_CTRL.MAN 0).key ≠ f.key) (host : Bool) (rate : Int) (offset : Option Nat)
    (anchor commit : Nat) : (s.set f v).checkPair host rate offset anchor commit = s.checkPair host rate offset anchor commit := by
  rw [State.checkPair, State.bit_set_ne s v hf]
  rfl

/-- A proposal that passes pends, a generation above the pair in force. -/
theorem State.propose_passes {s : State} {host : Bool} {rate : Int} {offset : Option Nat} {anchor commit : Nat}
    (h : s.checkPair host rate offset anchor commit = 1) :
    (∃ p, (s.propose host rate offset anchor commit).hrt.pend = some (p, host) ∧ p.gen = (s.hrt.cur.gen + 1) % 256 ∧ p.rate = rate ∧
        p.anchor = anchor ∧ p.commit = commit) ∧
      (s.propose host rate offset anchor commit).get F.HRT_DP_STAT.RESULT = 1 ∧ (s.propose host rate offset anchor commit).hrt.cur = s.hrt.cur := by
  rw [State.propose, h, if_pos rfl]
  refine ⟨⟨_, rfl, rfl, rfl, rfl, rfl⟩, ?_, rfl⟩
  exact (State.get_set_ne _ _ (by decide)).trans ((State.get_bump_ne _ _ (by decide)).trans ((State.get_setBit_ne _ _ (by decide)).trans
    (State.get_set_of_lt s (by decide))))

theorem State.propose_fails {s : State} {host : Bool} {rate : Int} {offset : Option Nat} {anchor commit : Nat}
    (h : s.checkPair host rate offset anchor commit ≠ 1) :
    (s.propose host rate offset anchor commit).hrt = s.hrt ∧ (s.propose host rate offset anchor commit).bit F.HRT_STAT.DPREF = true := by
  rw [State.propose, if_neg h]
  exact ⟨State.flag_hrt _ _ _ _ _, State.flag_get _ _ _ (by omega) rfl (by decide)⟩

/-- The keyed write of HRT_DP_CTRL proposes the staged pair. -/
theorem exec_dpGo {s : State} {req : Requester} (hr : s.Reaches req 0x4000A8) :
    exec (.dpGo req 0x9612) s = .next ((s.set (F.XBR_TSTAT.OWNER 6) req.master).propose true (s.getI F.HRT_DPW_RATE.RATE)
      (dtimeOf (leBytes 16 (s.get F.HRT_DPW_OFFSET.OFFSET))) (s.get F.HRT_DPW_ANCHOR.ANCHOR) (s.get F.HRT_DP_COMMIT.COMMIT)) := by
  have hkey : bitsOf (1 + 0x9612 % 65536 * 65536) 16 16 = 0x9612 := by decide
  refine congrArg Host.Outcome.next ((State.atFabric_of_reaches hr _).trans ?_)
  rw [State.writeDpCtrl, if_neg (by decide), if_neg (not_not.mpr hkey), State.getI, State.get_set_ne s _ (by decide),
    State.get_set_ne s _ (by decide), State.get_set_ne s _ (by decide), State.get_set_ne s _ (by decide)]
  rfl

/-- Settles O21, by the two outcomes of a proposal's checks. -/
theorem hostPairProposals : Obligations.HostPairProposals := by
  intro s req hr v
  have hcheck := s.checkPair_set (f := F.XBR_TSTAT.OWNER 6) req.master (by decide) true (s.getI F.HRT_DPW_RATE.RATE)
    (dtimeOf (leBytes 16 (s.get F.HRT_DPW_OFFSET.OFFSET))) (s.get F.HRT_DPW_ANCHOR.ANCHOR) (s.get F.HRT_DP_COMMIT.COMMIT)
  refine ⟨fun hv => ?_, fun hv => ?_⟩
  · obtain ⟨⟨p, hp, hgen, hrate, hanchor, hcommit⟩, hresult, hcur⟩ := State.propose_passes (hcheck.trans hv)
    exact ⟨_, p, exec_dpGo hr, hp, hgen, hrate, hanchor, hcommit, hresult, hcur⟩
  · obtain ⟨hhrt, hbit⟩ := State.propose_fails (hcheck.trans_ne hv)
    exact ⟨_, exec_dpGo hr, hhrt, hbit⟩

end Sys2Proof.Machine

/-! PROOF. Reports of the UTC offset, the offset that the host sets, leap seconds and the second (R236 to R241). -/

namespace Sys2Proof.Machine

/-! What the journal sends: records to the twin. -/

/-- Records are sent and nothing else changes: the pair's state, what leaves the module and PAIR_JTX.TX. -/
structure SendsOnly (s t : State) : Prop where
  parts : t = { s with regs := t.regs, pair := t.pair, out := t.out }
  regs : ∀ g : Fld, g.key ≠ F.PAIR_JTX.TX.key → t.get g = s.get g

section
variable {s t u : State}

theorem SendsOnly.refl (s : State) : SendsOnly s s := ⟨rfl, fun _ _ => rfl⟩

theorem SendsOnly.trans (h : SendsOnly s t) (k : SendsOnly t u) : SendsOnly s u := by
  refine ⟨?_, fun g hg => (k.regs g hg).trans (h.regs g hg)⟩
  have hu := k.parts
  rw [h.parts] at hu
  exact hu

theorem SendsOnly.ite {c : Prop} [Decidable c] (ht : SendsOnly s t) (hu : SendsOnly s u) : SendsOnly s (if c then t else u) := by
  split <;> assumption

theorem SendsOnly.updPair (h : SendsOnly s t) (f : PairSt → PairSt) : SendsOnly s (t.updPair f) := h.trans ⟨rfl, fun _ _ => rfl⟩

theorem SendsOnly.emit (h : SendsOnly s t) (e : Emission) : SendsOnly s (t.emit e) :=
  h.trans ⟨by unfold State.emit; split <;> rfl, fun g _ => State.get_emit t e g⟩

theorem SendsOnly.sendRecord (h : SendsOnly s t) (type : Nat) (payload : List Byte) : SendsOnly s (t.sendRecord type payload) := by
  refine .ite h (((h.emit _).updPair _).updPair _ |>.trans ⟨rfl, fun g hg => State.get_bump_ne _ _ hg⟩)

theorem SendsOnly.journalChanges (h : SendsOnly s t) : SendsOnly s t.journalChanges := by
  refine .ite h ?_
  have ha := SendsOnly.ite (c := t.pair.select = t.selectPayload) h ((h.sendRecord 0x12 t.selectPayload).updPair
    (fun p => { p with select := t.selectPayload }))
  have hb := SendsOnly.ite (c := (if t.pair.select = t.selectPayload then t else (t.sendRecord 0x12 t.selectPayload).updPair
    (fun p => { p with select := t.selectPayload })).pair.leap = t.leapPayload) ha ((ha.sendRecord 0x13 t.leapPayload).updPair
    (fun p => { p with leap := t.leapPayload }))
  exact .ite hb ((hb.sendRecord _ _).updPair _)

theorem SendsOnly.hrt (h : SendsOnly s t) : t.hrt = s.hrt := by rw [h.parts]
theorem SendsOnly.sram (h : SendsOnly s t) : t.sram = s.sram := by rw [h.parts]
theorem SendsOnly.flash (h : SendsOnly s t) : t.flash = s.flash := by rw [h.parts]
theorem SendsOnly.bit (h : SendsOnly s t) {g : Fld} (hg : g.key ≠ F.PAIR_JTX.TX.key) : t.bit g = s.bit g := State.bit_eq_of_get (h.regs g hg)

end

/-! What following a source leaves. -/

/-- The fields that following a source's leap second may write. -/
def LeapFlds : List Fld := [F.HRT_UTC.SRC, F.HRT_UTC.LEAPPEND, F.HRT_UTC.DIR, F.HRT_LEAP.SEC, F.HRT_STAT.LEAPSCHED, F.HRT_STAT.UTCERR]

/-- The HRT's state is as before and, outside the event block, the registers but those fields. -/
structure FollowsOnly (s t : State) : Prop where
  hrt : t.hrt = s.hrt
  regs : RegsBut LeapFlds s t

theorem FollowsOnly.trans {s t u : State} (h : FollowsOnly s t) (k : FollowsOnly t u) : FollowsOnly s u :=
  ⟨k.hrt.trans h.hrt, h.regs.trans k.regs⟩

theorem FollowsOnly.cancelLeap (s : State) : FollowsOnly s s.cancelLeap := by
  unfold State.cancelLeap
  split
  · exact ⟨State.flag_hrt _ _ _ _ _, .flag (.sets (.refl _ s) (by simp [LeapFlds])) (by omega) (by simp [LeapFlds])⟩
  · exact ⟨rfl, .refl _ s⟩

theorem FollowsOnly.schedLeap (s : State) (leap : Nat) (del : Bool) : FollowsOnly s (s.schedLeap leap del) :=
  ⟨State.flag_hrt _ _ _ _ _, .flag (.set (.setBit (.set (.refl _ s) (by simp [LeapFlds])) (by simp [LeapFlds])) (by simp [LeapFlds])) (by omega)
    (by simp [LeapFlds])⟩

theorem FollowsOnly.followChange (s : State) (change : Option (Nat × Bool × Int × Int)) : FollowsOnly s (s.followChange change) := by
  unfold State.followChange
  rcases change with _ | ⟨leap, del, before, after⟩
  · exact .cancelLeap s
  · dsimp only
    split
    · exact ⟨rfl, .refl _ s⟩
    · split
      · exact ⟨rfl, .refl _ s⟩
      · split
        · exact (FollowsOnly.cancelLeap s).trans (.schedLeap _ leap del)
        · exact (FollowsOnly.cancelLeap s).trans ⟨State.flag_hrt _ _ _ _ _, .flag (.refl _ _) (by omega) (by simp [LeapFlds])⟩

theorem FollowsOnly.reviewLead (s : State) (silent : Bool) : FollowsOnly s (s.reviewLead silent) := by
  unfold State.reviewLead
  extract_lets lead b
  have hb : FollowsOnly s b := ⟨rfl, .set (.refl _ s) (by simp [LeapFlds])⟩
  split
  · exact ⟨rfl, .refl _ s⟩
  · split
    · exact hb
    · split
      · split
        · exact hb
        · exact hb.trans (.cancelLeap b)
      · exact hb.trans (.cancelLeap b)

/-- A report that is taken stands in the table as it is. -/
theorem State.takeReport_hrt (s : State) (src : Nat) (offset : Int) (change : Option (Nat × Bool × Int × Int)) :
    ∃ diff, (s.takeReport src offset change).hrt = { s.hrt with
      reports := insertAt src { offset := offset, change := change.map (fun c => (c.1, c.2.1)), at_ := s.raw, differs := diff } s.hrt.reports } := by
  unfold State.takeReport
  extract_lets old matching diff r _ a lead b d
  refine ⟨diff, ?_⟩
  change _ = a.hrt
  split
  · rfl
  · split
    · exact (SendsOnly.refl _).journalChanges.hrt.trans (FollowsOnly.reviewLead a false).hrt
    · refine (SendsOnly.refl _).journalChanges.hrt.trans ((FollowsOnly.followChange d change).hrt.trans ?_)
      unfold d
      split <;> rfl

theorem State.lookup_takeReport (s : State) (src : Nat) (offset : Int) (change : Option (Nat × Bool × Int × Int)) :
    ∃ r, lookup src (s.takeReport src offset change).hrt.reports = some r ∧ r.offset = offset ∧ r.at_ = s.raw ∧
      r.change = change.map (fun c => (c.1, c.2.1)) := by
  obtain ⟨diff, hhrt⟩ := s.takeReport_hrt src offset change
  exact ⟨_, by rw [hhrt]; exact lookup_insertAt_self src _ _, rfl, rfl, rfl⟩

/-- An entry that is dropped is no more. -/
theorem lookup_dropKey_self {α : Type} (k : Nat) (l : List (Nat × α)) : lookup k (dropKey k l) = none := by
  induction l with
  | nil => rfl
  | cons p l ih =>
    by_cases hp : p.1 = k
    · rw [dropKey, List.filter_cons_of_neg (by simp [hp])]
      exact ih
    · rw [dropKey, List.filter_cons_of_pos (by simp [hp]), lookup, if_neg hp]
      exact ih

/-! Reports, the host's offset and disagreement. -/

theorem exec_utcSourceReport {src : Nat} (offset : Int) (ann leapSec : Nat) (after : Int) (s : State) (hlo : 2 ≤ src) (hhi : src ≤ 4) :
    ∃ change : Option (Nat × Bool × Int × Int), exec (.utcSourceReport src offset ann leapSec after) s = .next (s.takeReport src offset change) ∧
      (ann = 0 → change = none) ∧ (ann ≠ 0 → change.map (fun c => c.2.1) = some (ann == 2)) := by
  change ∃ change, onUnit _ _ = _ ∧ _
  rw [decide_eq_true ⟨hlo, hhi⟩, onUnit_true]
  refine ⟨_, rfl, fun h0 => if_pos h0, fun h0 => ?_⟩
  rw [if_neg h0]
  split <;> rfl

theorem State.utcSource_expires {s : State} {src : Nat} (hlo : 2 ≤ src) (hhi : src ≤ 4) (hc : s.sourceCounts src = false) :
    ∃ t, exec (.utcSourceExpiry src) s = .next t ∧ t.utcOffset = s.utcOffset ∧
          ∀ r ∈ lookup src t.hrt.reports, s.raw ≤ r.at_ + 86400 * 625000000 := by
  let old := match lookup src s.hrt.reports with | none => true | some r => decide (r.at_ + 86400 * 625000000 < s.raw)
  let a : State := if old then { s with hrt := { s.hrt with reports := dropKey src s.hrt.reports } } else s
  have ha : a.regs = s.regs ∧ ∀ r ∈ lookup src a.hrt.reports, s.raw ≤ r.at_ + 86400 * 625000000 := by
    unfold a
    cases hold : old
    · refine ⟨rfl, fun r hr => ?_⟩
      have hl : lookup src s.hrt.reports = some r := hr
      unfold old at hold
      rw [hl] at hold
      exact not_lt.mp (of_decide_eq_false hold)
    · refine ⟨rfl, fun r hr => ?_⟩
      cases (lookup_dropKey_self src s.hrt.reports).symm.trans (Option.mem_def.mp hr)
  have hsend : SendsOnly (a.reviewLead true) (a.reviewLead true).journalChanges := (SendsOnly.refl _).journalChanges
  have hfollow := FollowsOnly.reviewLead a true
  refine ⟨(a.reviewLead true).journalChanges, ?_, congrArg (toSigned _) ?_, ?_⟩
  · change onUnit _ _ = _
    rw [decide_eq_true ⟨hlo, hhi⟩, onUnit_true, hc]
    rfl
  · rw [hsend.regs _ (by decide), hfollow.regs _ (by decide) (by unfold LeapFlds; decide), State.get_congr ha.1]
  · rw [hsend.hrt, hfollow.hrt]
    exact ha.2

/-- The host's offset is to hold from the second two to three seconds on. -/
theorem State.utcwSetoff_waits {s : State} {req : Requester} {offset : Int} (hr : s.Reaches req 0x400314) (hlo : -32768 ≤ offset) (hhi : offset <
    32768) :
    ∃ t sec, exec (.utcwSetoff req offset) s = .next t ∧ t.hrt.setoff = some (sec, offset) ∧ s.dsec + 2 ≤ sec ∧ sec ≤ s.dsec + 3 := by
  let a := s.set (F.XBR_TSTAT.OWNER 6) req.master
  have hexec : exec (.utcwSetoff req offset) s = .next (a.utcwSetoff offset) := congrArg _ (State.atFabric_of_reaches hr _)
  let d := s.dnow.getD 0
  have hsec : s.dsec = d / fracPerSec := rfl
  have hfrac : 0 < fracPerSec := by decide
  refine ⟨_, (d + 2 * fracPerSec + fracPerSec - 1) / fracPerSec, hexec, ?_, ?_, ?_⟩
  · unfold State.utcwSetoff
    extract_lets d' sec a' _ b
    obtain ⟨diff, hhrt⟩ := b.takeReport_hrt 1 offset (((lookup 1 b.hrt.reports).bind (·.change)).bind (fun c =>
      if a.dsec < c.1 then some (c.1, c.2, a.utcOffset, a.utcOffset + (if c.2 then -1 else 1)) else none))
    refine (congrArg (·.setoff) hhrt).trans ?_
    show some (sec, toSigned 16 (ofSigned 16 offset)) = _
    rw [toSigned_ofSigned (by decide) hlo hhi]
    rfl
  · rw [hsec, Nat.le_div_iff_mul_le hfrac, Nat.add_mul]
    have := Nat.div_mul_le_self d fracPerSec
    omega
  · rw [hsec, ← Nat.lt_succ_iff, Nat.div_lt_iff_lt_mul hfrac,
      show (d / fracPerSec + 3).succ * fracPerSec = d / fracPerSec * fracPerSec + 4 * fracPerSec by rw [← Nat.add_mul]]
    have := Nat.lt_div_mul_add (a := d) hfrac
    omega

/-- The offset that is put in force shows, valid, with the second from which it holds and the offset before. -/
theorem State.setUtcOffset_shows (s : State) {o : Int} (sec : Nat) (hlo : -32768 ≤ o) (hhi : o < 32768) :
    (s.setUtcOffset o sec).utcOffset = o ∧ (s.setUtcOffset o sec).bit F.HRT_UTC.VALID = true ∧
      (s.setUtcOffset o sec).getI F.HRT_UTCPREV_HI.PREV = toSigned 16 (ofSigned 16 s.utcOffset) ∧
      (s.setUtcOffset o sec).get F.HRT_UTCPREV.SEC = sec % 2 ^ 48 := by
  refine ⟨Eq.trans (congrArg (toSigned 16) ?_) (State.getI_setI s (f := F.HRT_UTC.OFFSET) (by decide) hlo hhi), ?_, ?_, ?_⟩
  · exact (State.get_set_ne _ _ (by decide)).trans ((State.get_set_ne _ _ (by decide)).trans (State.get_set_ne _ _ (by decide)))
  · exact (State.bit_set_ne _ _ (by decide)).trans ((State.bit_set_ne _ _ (by decide)).trans (State.bit_set _ 1 rfl))
  · exact congrArg (toSigned 16) (State.get_set_of_lt _ (ofSigned_lt 16 _))
  · exact (State.get_set_ne _ _ (by decide)).trans (State.get_set_self _ (f := F.HRT_UTCPREV.SEC) _)

theorem State.setoff_applies {s : State} {sec : Nat} {o : Int} (hs : s.hrt.setoff = some (sec, o)) (hlo : -32768 ≤ o) (hhi : o < 32768)
    (hsec : sec ≤ s.dsec) (hin : s.inStep = false) :
    ∃ t, exec .setoffApply s = .next t ∧ t.utcOffset = o ∧ t.bit F.HRT_UTC.VALID = true ∧ t.hrt.setoff = none := by
  let a : State := { s with hrt := { s.hrt with setoff := none } }
  obtain ⟨hoff, hvalid, -⟩ := a.setUtcOffset_shows sec hlo hhi
  have hsend := (SendsOnly.refl (a.setUtcOffset o sec)).journalChanges
  refine ⟨_, ?_, (congrArg (toSigned _) (hsend.regs _ (by decide))).trans hoff, (hsend.bit (by decide)).trans hvalid,
    congrArg (·.setoff) hsend.hrt⟩
  show Host.Outcome.next (match s.hrt.setoff with | none => s | some (sec, o) => _) = _
  rw [hs]
  exact next_when (by rw [decide_eq_true hsec, hin]; rfl) _

theorem State.utcDisagree_shows {s : State} {r : UtcReport} {t0 : Nat} (hl : lookup s.followedSource s.hrt.reports = some r)
    (hd : r.differs = some t0) (hv : s.bit F.HRT_UTC.VALID = true) (ho : r.offset ≠ s.utcOffset) (ht : t0 + 60 * 625000000 ≤ s.raw) :
    ∃ t, exec .utcDisagreeTimeout s = .next t ∧ t.bit F.HRT_STAT.UTCERR = true ∧ RegsBut [F.HRT_STAT.UTCERR] s t ∧ MemorySame s t := by
  refine ⟨s.hrtFlag F.HRT_STAT.UTCERR, ?_, State.flag_get s _ _ (by omega) rfl (by decide), .flag (.refl _ s) (by omega) (by simp),
    (State.flag_parts s _ _ _ _).memorySame⟩
  show Host.Outcome.next (match lookup s.followedSource s.hrt.reports with | none => s | some r => _) = _
  rw [hl]
  show Host.Outcome.next (match r.differs with | none => s | some t => _) = _
  rw [hd]
  exact next_when (by rw [hv, decide_eq_true ht, bne_iff_ne.mpr ho]; rfl) _

/-! Leap seconds and the second. -/

theorem State.leapSec_passes {s : State} (hp : s.bit F.HRT_UTC.LEAPPEND = true) (hsec : s.get F.HRT_LEAP.SEC ≤ s.dsec) (hlo : -32767 ≤ s.utcOffset)
    (hhi : s.utcOffset < 32767) :
    ∃ t, exec .leapSecReached s = .next t ∧ t.utcOffset = s.utcOffset + (if s.bit F.HRT_UTC.DIR then -1 else 1) ∧
        t.bit F.HRT_UTC.LEAPPEND = false ∧ t.bit F.HRT_STAT.LEAPDONE = true ∧ t.getI F.HRT_UTCPREV_HI.PREV = s.utcOffset ∧
        t.get F.HRT_UTCPREV.SEC = s.get F.HRT_LEAP.SEC % 2 ^ 48 := by
  let o := s.utcOffset + (if s.bit F.HRT_UTC.DIR then -1 else 1)
  have ho : -32768 ≤ o ∧ o < 32768 := by unfold o; split <;> omega
  obtain ⟨hoff, -, hprev, hps⟩ := s.setUtcOffset_shows (s.get F.HRT_LEAP.SEC) ho.1 ho.2
  let a := s.setUtcOffset o (s.get F.HRT_LEAP.SEC)
  let c := (a.setBit F.HRT_UTC.VALID (s.bit F.HRT_UTC.VALID)).sets [(F.HRT_UTC.LEAPPEND, 0), (F.HRT_UTC.DIR, 0), (F.HRT_LEAP.SEC, 0)]
  let d := c.hrtFlag F.HRT_STAT.LEAPDONE
  have hsend := (SendsOnly.refl d).journalChanges
  have hd : RegsBut [F.HRT_UTC.VALID, F.HRT_UTC.LEAPPEND, F.HRT_UTC.DIR, F.HRT_LEAP.SEC, F.HRT_STAT.LEAPDONE] a d :=
    .flag (.sets (.setBit (.refl _ a) (by simp)) (by simp)) (by omega) (by simp)
  have hkeep : ∀ g : Fld, g.key ≠ F.PAIR_JTX.TX.key → g.blk ≠ 0x11 →
      (∀ f ∈ [F.HRT_UTC.VALID, F.HRT_UTC.LEAPPEND, F.HRT_UTC.DIR, F.HRT_LEAP.SEC, F.HRT_STAT.LEAPDONE], g.key ≠ f.key) → d.journalChanges.get g =
        a.get g :=
    fun g hj hb hg => (hsend.regs g hj).trans (hd g hb hg)
  refine ⟨d.journalChanges, next_when (by rw [hp, decide_eq_true hsec]; rfl) _,
    (congrArg (toSigned _) (hkeep _ (by decide) (by decide) (by decide))).trans hoff, ?_,
    (hsend.bit (by decide)).trans (State.flag_get _ _ _ (by omega) rfl (by decide)),
    ((congrArg (toSigned _) (hkeep _ (by decide) (by decide) (by decide))).trans hprev).trans (toSigned_ofSigned (by decide) (by omega) (by omega)),
    (hkeep _ (by decide) (by decide) (by decide)).trans hps⟩
  refine (hsend.bit (by decide)).trans ((State.bit_flag_ne c _ _ (by omega) (by decide) (by decide)).trans ?_)
  exact (State.bit_set_ne _ _ (by decide)).trans ((State.bit_set_ne _ _ (by decide)).trans (State.bit_set _ 0 rfl))

theorem State.second_shows {s : State} (hsec : s.get F.HRT_EPOCH_SEC.SEC < s.dsec) (hlt : s.dsec < 2 ^ 48) :
    ∃ t, exec .secondBoundary s = .next t ∧ t.get F.HRT_EPOCH_SEC.SEC = s.dsec ∧ RegsBut [F.HRT_EPOCH_SEC.SEC] s t ∧ MemorySame s t := by
  let t := if s.markSecond.paired then s.markSecond.emit (.ppo (if s.markSecond.role = 1 then 300 else 100)) else s.markSecond
  have hregs : t.regs = s.markSecond.regs := by
    unfold t
    split
    · exact State.emit_regs _ _
    · rfl
  have hmark : RegsBut [F.HRT_EPOCH_SEC.SEC] s s.markSecond := .occur (.set (.refl _ s) (by simp)) (by omega)
  refine ⟨t, next_when (decide_eq_true hsec) _, ?_, hmark.of_regs hregs,
    (Keeps.ite (.emit (.occur (.set (.refl s)))) (.occur (.set (.refl s))) : Keeps .all s t).memorySame⟩
  rw [State.get_congr hregs, State.markSecond, State.get_occur _ _ _ _ (by omega) (by decide)]
  exact State.get_set_of_lt s hlt

/-- Settles O23, from what the table of reports holds after a report and what the journal and the followed source leave. -/
theorem utcAndLeaps : Obligations.UtcAndLeaps := by
  refine ⟨⟨fun s src ann leapSec offset after hlo hhi => ?_, fun s src hlo hhi hc => State.utcSource_expires hlo hhi hc,
    fun s req offset hr hlo hhi => State.utcwSetoff_waits hr hlo hhi, fun s sec o hs hlo hhi hsec hin => State.setoff_applies hs hlo hhi hsec hin,
    fun s r t0 hl hd hv ho ht => State.utcDisagree_shows hl hd hv ho ht⟩, fun s req del hr => ?_, fun s req hr => ?_,
    fun s hp hsec hlo hhi => State.leapSec_passes hp hsec hlo hhi, fun s hsec hlt => State.second_shows hsec hlt⟩
  · obtain ⟨change, hexec, hnone, hsome⟩ := exec_utcSourceReport offset ann leapSec after s hlo hhi
    obtain ⟨r, hr, hoff, hat, hchange⟩ := s.lookup_takeReport src offset change
    have hdel : ann ≠ 0 → r.change.map (·.2) = some (ann == 2) := fun h => by
      rw [hchange, Option.map_map]
      exact hsome h
    refine ⟨_, r, hexec, hr, hoff, hat, fun h0 => by rw [hchange, hnone h0]; rfl, fun h1 => ?_, fun h2 => ?_⟩
    · rw [hdel (by omega), h1]
      rfl
    · rw [hdel (by omega), h2]
      rfl
  · let a := (s.set (F.XBR_TSTAT.OWNER 6) req.master).setBit F.HRT_UTCW.DIR del
    have hget : a.get F.HRT_UTCW_SEC.SEC = s.get F.HRT_UTCW_SEC.SEC := (State.get_setBit_ne _ _ (by decide)).trans (State.get_set_ne s _ (by decide))
    obtain ⟨r, hl, -, -, hchange⟩ := a.lookup_takeReport 1 (((lookup 1 a.hrt.reports).map (·.offset)).getD
      (s.set (F.XBR_TSTAT.OWNER 6) req.master).utcOffset) (some (a.get F.HRT_UTCW_SEC.SEC, del, (s.set (F.XBR_TSTAT.OWNER 6) req.master).utcOffset,
        (s.set (F.XBR_TSTAT.OWNER 6) req.master).utcOffset + (if del then -1 else 1)))
    exact ⟨_, r, congrArg Host.Outcome.next (State.atFabric_of_reaches hr _), hl, by rw [hchange, ← hget]; rfl⟩
  · let a := s.set (F.XBR_TSTAT.OWNER 6) req.master
    obtain ⟨r, hl, -, -, hchange⟩ := a.lookup_takeReport 1 (((lookup 1 a.hrt.reports).map (·.offset)).getD a.utcOffset) none
    exact ⟨_, r, congrArg Host.Outcome.next (State.atFabric_of_reaches hr _), hl, hchange⟩

end Sys2Proof.Machine

/-! PROOF. A channel that qualifies may become the UTC source that is followed (R237, R239, R246). -/

namespace Sys2Proof.Machine

/-- Channel 0 is the GNSS receiver in QUALIFYING, whose report of the UTC offset is in the table; no source is followed yet. -/
def qualifyingSource : State :=
  let s := (State.reset.set (F.REF_STAT.KIND 0) 1).set (F.REF_QSTAT.QSTATE 0) 2
  { s with raw := 60 * 625000000, hrt := { s.hrt with reports := [(2, {})] } }

/-- Once it is qualified its report counts, and HRT_UTC.SRC names it. -/
theorem qualifyingSource_leads : exec (.qtimeExpiry 0) qualifyingSource = .next ((qualifyingSource.set (F.REF_QSTAT.QSTATE 0) 3).reviewLead false) ∧
    qualifyingSource.get F.HRT_UTC.SRC = 0 ∧ ((qualifyingSource.set (F.REF_QSTAT.QSTATE 0) 3).reviewLead false).get F.HRT_UTC.SRC = 2 :=
  ⟨next_when (by decide) _, by decide, by decide⟩

/-- Refutes O24: its clause for the end of QTIME keeps every register but QSTATE, where the qualified channel is the GNSS receiver with a
report of the UTC offset, which HRT_UTC.SRC then names. -/
theorem not_qualificationAndSelection : ¬ Obligations.QualificationAndSelection := by
  rintro ⟨⟨-, hqtime, -, -⟩, -⟩
  obtain ⟨t, hexec, -, hregs, -⟩ := hqtime qualifyingSource 0 (by decide) (by decide) (by decide)
  obtain ⟨hleads, hbefore, hafter⟩ := qualifyingSource_leads
  cases hexec.symm.trans hleads
  have hsame := hregs F.HRT_UTC.SRC (by decide) (by decide)
  rw [hbefore, hafter] at hsame
  exact absurd hsame (by decide)

end Sys2Proof.Machine

/-! PROOF. An output whose high phase still runs is not released (R280, R284). -/

namespace Sys2Proof.Machine

/-- While the high phase runs that an output was stopped in, bringing the output up to the present only shows its bits. -/
theorem State.settleOut_of_running {s : State} {n : Nat} (hoff : (s.ou n).offAt = none) (hhigh : (s.ou n).highDone s.now = false)
    (hgrid : (s.ou n).regrid = none) (htarget : (s.ou n).target = none) : s.settleOut n = s.showOut n := by
  unfold State.settleOut
  rw [hoff]
  extract_lets u p a b c
  have hb : b = s := by
    change (match (s.ou n).relFrom with | some q => _ | none => s) = s
    split
    · exact if_neg fun h => Bool.false_ne_true (hhigh.symm.trans h.2.1)
    · rfl
  have hc : c = s := by
    unfold c
    rw [hb, hgrid]
  rw [hc, State.settleTarget, htarget]

/-- Output 0 of the LOCKED unit 0 was enabled again while its high phase ran, which ends at crumb 1,000; it may be released from here on. -/
def runningHigh : State :=
  let s := (State.reset.set (F.OUT_SYN_STAT.STATE 0) 2).set (F.OUT_CFG.EN 0) 1
  { s with outp := { relFrom := some 0, highTo := some 1000 } :: List.replicate 11 {} }

theorem runningHigh_shape : StateShape runningHigh := ⟨rfl, rfl, rfl, rfl, rfl, rfl, rfl, rfl⟩

/-- Its first period boundary is here. -/
theorem runningHigh_boundary : (runningHigh.un (runningHigh.get (F.OUT_CFG.SYN 0))).boundary (runningHigh.get (F.OUT_DIV.DIV 0))
    (runningHigh.getI (F.OUT_PHASE.PHASE 0)) 0 ≤ runningHigh.psNow := by
  have hsyn : runningHigh.get (F.OUT_CFG.SYN 0) = 0 := by decide
  have hphase : runningHigh.getI (F.OUT_PHASE.PHASE 0) = 0 := by decide
  have hunit : runningHigh.un 0 = {} := rfl
  have hpair : runningHigh.hrt.cur = {} := rfl
  have hraw : runningHigh.raw = 0 := rfl
  rw [hsyn, hphase, hunit, State.psNow, hpair, State.now, hraw]
  simp [UnitSt.boundary, UnitSt.instantOf, phasePs, Pair.ps]

/-- Refutes O26: its clause for the release asks nothing of the high phase that ran when the output was stopped, and an output whose high
phase runs on past its first period boundary is not released there. -/
theorem not_outputControl : ¬ Obligations.OutputControl := by
  rintro ⟨hrelease, -⟩
  obtain ⟨t, hexec, hreleased, -⟩ := hrelease runningHigh 0 0 runningHigh_shape (by decide) rfl rfl (by decide) runningHigh_boundary
  have hruns : exec (.outputRelease 0) runningHigh = .next (runningHigh.showOut 0) := by
    change execOutputRelease 0 runningHigh = _
    rw [execOutputRelease, onUnit_lt (by decide), State.settleOut_of_running rfl (by decide) rfl rfl]
  cases hexec.symm.trans hruns
  exact absurd hreleased (by decide)

end Sys2Proof.Machine

/-! PROOF. A launch too late for its output is an event of the output's unit, whatever the register says that names the unit (R295). -/

namespace Sys2Proof.Machine

/-- The occurrence that the late launch counts: its number is 22 and the value of OUT_CFG.SYN, which no statement bounds. -/
def straySyn : Nat := 0x3FF2A

/-- Output 0, aligned to channel 0 and not released, has a target that is due; the stored SYN is wider than its field. -/
def strayUnit : State :=
  let s := ((State.reset.set (F.OUT_CFG.EN 0) 1).set (F.OUT_ALCFG.MODE 0) 1).set (F.REF_STAT.PRESENT 0) 1
  { s with regs := storePut s.regs (F.OUT_CFG.SYN 0).key straySyn, rcp := { s.rcp with sections := [(0x11, [1, 0])] },
           tdc := { stamps := [(0, 0)] } :: List.replicate 23 {}, outp := { target := some (0, 0) } :: List.replicate 11 {} }

theorem strayUnit_shape : StateShape strayUnit := ⟨rfl, rfl, rfl, rfl, rfl, rfl, rfl, rfl⟩

/-- Bringing the output up to the present shows LATE, and counts the occurrence in block 0x12. -/
theorem strayUnit_settled : (strayUnit.settleOut 0).bit (F.OUT_STAT.LATE 0) = true ∧ ((strayUnit.settleOut 0).ou 0).released = false ∧
    ((strayUnit.settleOut 0).ou 0).lastSet = none ∧ strayUnit.get (F.EVT_COUNT.COUNT (22 + straySyn)) = 0 ∧
    (strayUnit.settleOut 0).get (F.EVT_COUNT.COUNT (22 + straySyn)) = 1 := by
  decide

/-- A line start of an output that is not released shows LATE only. -/
theorem State.lineStart_of_late {s : State} {n c at16 d : Nat} {stamp : Int} (hst : (crumbOf at16 : Int) - s.boardDelay c - s.getI (F.REF_DLY.DLY
    c) = stamp)
    (hd : (s.pairAt stamp.toNat).dtime stamp.toNat = some d) (hset : (s.ou n).lastSet = none) (hrel : (s.ou n).released = false)
    (hlate : s.bit (F.OUT_STAT.LATE n) = true) : s.lineStart n c at16 = s := by
  unfold State.lineStart
  extract_lets stamp'
  have hs : stamp' = stamp := hst
  rw [hs, hd, hset]
  dsimp only
  rw [if_neg Bool.false_ne_true, if_pos (.inr (.inl hrel)), State.outFlag, State.flag, if_pos hlate]

theorem exec_lineStartEdge_of_served {s b : State} {n at16 k : Nat} (hn : n < 12) (hb : s.settleOut n = b)
    (hmode : (b.get (F.OUT_ALCFG.MODE n) != 0 && b.bit (F.OUT_CFG.EN n) && b.bit (F.REF_STAT.PRESENT (b.get (F.OUT_ALCFG.CH n)))) = true)
    (hk : b.tdcOf (b.get (F.OUT_ALCFG.CH n)) = some k)
    (hst : (b.td k).stamps.any (fun p => p.1 == at16 && decide (p.2 + (if b.bit (F.OUT_ALCFG.HELD n) then 20000 else 0) ≤ b.raw)) = true) :
    exec (.lineStartEdge n at16) s = .next (b.lineStart n (b.get (F.OUT_ALCFG.CH n)) at16) := by
  change onUnit _ _ = _
  rw [onUnit_lt hn, hb]
  refine next_when ?_ _
  rw [hmode, hk]
  exact hst

/-- A line start is then too late again, which LATE already shows. -/
theorem strayUnit_ends : exec (.lineStartEdge 0 0) strayUnit = .next (strayUnit.settleOut 0) := by
  obtain ⟨hlate, hreleased, hset, -⟩ := strayUnit_settled
  refine (exec_lineStartEdge_of_served (k := 0) (by decide) rfl (by decide) (by decide) (by decide)).trans (congrArg _ ?_)
  exact State.lineStart_of_late (stamp := 0) (d := 0) (by decide) (by decide) hset hreleased hlate

/-- Refutes O27: its clause for a line start keeps every register outside the outputs' and the events' blocks, but no hypothesis keeps
OUT_CFG.SYN within its two bits, and the event of the late launch, numbered 22 and SYN, is counted wherever that number leads. -/
theorem not_outputCalibrationAndAlignment : ¬ Obligations.OutputCalibrationAndAlignment := by
  rintro ⟨-, -, hline⟩
  obtain ⟨-, -, hset, hbefore, hafter⟩ := strayUnit_settled
  obtain ⟨t, hexec, hregs, -⟩ := hline strayUnit 0 0 0 0 strayUnit_shape (by decide) (by decide) (by decide) (by decide) (by decide)
    ⟨(0, 0), by decide⟩ (by decide) hset
  cases hexec.symm.trans strayUnit_ends
  have hsame := hregs (F.EVT_COUNT.COUNT (22 + straySyn)) (by decide)
  rw [hbefore, hafter] at hsame
  exact absurd hsame (by decide)

end Sys2Proof.Machine

/-! PROOF. The cause that a context recorded for a collapse names a counter, and no statement bounds it (R331). -/

namespace Sys2Proof.Machine

/-- The frame of context 0, which wants a stamp. -/
def syncFrame : TxFrame := { src := .ctx 0, bytes := [], stamp := true }

/-- It is on the wire, appointed. -/
def syncWire (complete : Bool) : Wire := { frame := syncFrame, appointed := true, start := 0, stop := 0, complete := complete }

/-- Port 1 is sending an appointed two-step Sync whose context records a collapse of cause 119; its port 0 cannot send the Follow_Up. -/
def strayCause : State :=
  let s := (((State.reset.set (F.PRT_STAT.LINK 1) 1).set (F.PRT_CTRL.ADMIN 1) 1).set (F.PRT_STAT.LATOK 1) 1).set (F.HRT_TB_ROUTE.VALID 2) 1
  { s with
    supply := { s.supply with on := true }
    tb := { s.tb with routes := modAt s.tb.routes 2 (fun r => { r with cur := some {} }) }
    port := modAt s.port 1 (fun p => { p with wire := some (syncWire false) })
    pke := { s.pke with ctxs := [{ id := 0, kind := 9, committed := true, held := [.coll 119] }] } }

theorem strayCause_shape : StateShape strayCause := ⟨rfl, rfl, rfl, rfl, rfl, rfl, rfl, rfl⟩

/-- The state after the frame but for its effects: it is complete and on the wire. -/
def strayCause.sent : State :=
  (strayCause.updPort 1 (fun p => { p with wire := some (syncWire true) })).emit (.frame 1 [])

/-- Dropping the Follow_Up counts a collapse of that cause, in the place of APD_SENT of port 1. -/
theorem strayCause_counts : strayCause.get (F.APD_SENT.SENT 1) = 0 ∧
    (strayCause.sent.sentFrame 1 syncFrame true 0 0 false).get (F.APD_SENT.SENT 1) = 2 := by
  decide

theorem strayCause_ends : exec (.frameTransmitted 1 none 0 0) strayCause =
    .next (strayCause.sent.sentFrame 1 syncFrame true 0 0 false) := by
  change execFrameTransmitted 1 none 0 0 strayCause = _
  rw [execFrameTransmitted, onUnit_lt (by decide)]
  exact next_when (by decide) _

/-- Refutes O28: its clause for an appointed frame has APD_SENT count it alone, but no hypothesis bounds the causes that a context records,
and the counter of cause 119 of port 0 is the register of port 1's APD_SENT. -/
theorem not_framesAndLinks : ¬ Obligations.FramesAndLinks := by
  rintro ⟨⟨-, -, hsent, -⟩, -⟩
  obtain ⟨t, hexec, -, hcount⟩ := hsent strayCause 1 0 0 (syncWire false) strayCause_shape (by decide) rfl rfl (by decide) rfl
  cases hexec.symm.trans strayCause_ends
  obtain ⟨hbefore, hafter⟩ := strayCause_counts
  have hone := hcount rfl
  rw [hbefore, hafter] at hone
  exact absurd hone (by decide)

end Sys2Proof.Machine

/-! PROOF. The counter of a collapse's cause, once more (R331): a link's end drops the waiting frames, and their contexts' records count. -/

namespace Sys2Proof.Machine

/-- Port 0's link is up, and a frame waits whose context records a collapse of a cause that is none. -/
def strayDrop : State :=
  let s := State.reset.set (F.PRT_STAT.LINK 0) 1
  { s with
    port := modAt s.port 0 (fun p => { p with waiting := [syncFrame] })
    pke := { s.pke with ctxs := [{ id := 0, held := [.coll 4718535] }] } }

/-- The state in which the transceiver is shown absent and the link is still up. -/
def strayDrop.absent : State := ((strayDrop.set F.PNL_SFP.ABS 1).showTxdis 0).flagBit F.PNL_SFP.ABSCHG 0 86 0

theorem strayDrop_ends : exec (.sfpAbsChange 0 true) strayDrop = .next (strayDrop.absent.portDown 0) := by
  have habs : setBitN (strayDrop.get F.PNL_SFP.ABS) 0 = 1 := by decide
  change execSfpAbsChange 0 true strayDrop = _
  rw [execSfpAbsChange, onUnit_lt (by decide)]
  refine (next_when (by decide) _).trans ?_
  dsimp only
  rw [if_pos rfl, if_pos rfl, habs]
  rfl

/-- The dropped frame's context counts in the place of PNL_SFP. -/
theorem strayDrop_clears : ((strayDrop.absent.portDown 0).get F.PNL_SFP.ABS).testBit 0 = false := by
  decide

/-- Refutes O29: its clause for a transceiver's absence shows ABS, but no hypothesis bounds the causes that the contexts of the frames dropped
with the link record, and the counter of one of them is PNL_SFP. -/
theorem not_pausesAndTransceivers : ¬ Obligations.PausesAndTransceivers := by
  rintro ⟨-, -, -, -, habsent, -⟩
  obtain ⟨t, hexec, hshown, -⟩ := habsent strayDrop 0 true (by decide) (by decide)
  cases hexec.symm.trans strayDrop_ends
  exact absurd (strayDrop_clears.symm.trans hshown) (by decide)

end Sys2Proof.Machine

/-! PROOF. What counting an occurrence of an event of the engines or the cluster leaves alone (R523 to R534): everything but the performance
counters, the events, the sample ring and the free values. -/

namespace Sys2Proof.Machine

/-- An update by the counters. -/
structure CountsOnly (s t : State) : Prop where
  parts : t = { s with regs := t.regs, evt := t.evt, sys := t.sys, pmu := t.pmu, out := t.out, free := t.free }
  regs : RegsOutside [0x11, 0x12] s t

namespace CountsOnly

variable {s t u : State}

theorem refl (s : State) : CountsOnly s s := ⟨rfl, .refl _ s⟩

theorem trans (h : CountsOnly s t) (k : CountsOnly t u) : CountsOnly s u := by
  refine ⟨?_, h.regs.trans k.regs⟩
  have hu := k.parts
  rw [h.parts] at hu
  exact hu

theorem ite {c : Prop} [Decidable c] (ht : CountsOnly s t) (hu : CountsOnly s u) : CountsOnly s (if c then t else u) := by
  split <;> assumption

theorem foldl {α : Type} {f : State → α → State} {l : List α} (h : CountsOnly s t) (hf : ∀ u, ∀ a ∈ l, CountsOnly s u → CountsOnly s (f u a)) :
    CountsOnly s (l.foldl f t) :=
  List.foldlRecOn (motive := fun u : State => CountsOnly s u) l f h fun u hu a ha => hf u a ha hu

theorem set {f : Fld} {v : Nat} (h : CountsOnly s t) (hf : f.blk = 0x12) : CountsOnly s (t.set f v) :=
  h.trans ⟨rfl, .set (.refl _ t) (by simp [hf])⟩

theorem occur {ev bit inst detail : Nat} (h : CountsOnly s t) (he : ev < 128) : CountsOnly s (t.occur ev bit inst detail) :=
  h.trans ⟨by
    rw [State.occur_pmu, State.occur_free]
    exact State.occur_parts t ev bit inst detail, .occur (.refl _ t) he (by simp)⟩

theorem flag {f : Fld} {ev inst detail : Nat} (h : CountsOnly s t) (he : ev < 128) (hf : f.blk = 0x12) : CountsOnly s (t.flag f ev inst detail) :=
  .ite h (.occur (.set h hf) he)

theorem updPmu {f : PmuSt → PmuSt} (h : CountsOnly s t) : CountsOnly s (t.updPmu f) := h.trans ⟨rfl, .of_regs (.refl _ t) rfl⟩

theorem useFree (h : CountsOnly s t) : CountsOnly s t.useFree := h.trans ⟨rfl, .of_regs (.refl _ t) rfl⟩

end CountsOnly

/-- A set of counters that the hardware has. -/
def RealSet : PmuSet → Prop
  | .engine k => k < 16
  | .cluster => True

theorem pmuCnt_blk {set : PmuSet} (h : RealSet set) {j : Nat} (hj : j < 16) : (pmuCnt set j).blk = 0x12 := by
  cases set with
  | engine k => have hk : k < 16 := h; apply Fld.blk_eq; omega
  | cluster => apply Fld.blk_eq; omega

theorem pmuOvf_blk {set : PmuSet} (h : RealSet set) : (pmuOvf set).blk = 0x12 := by
  cases set with
  | engine k => have hk : k < 16 := h; apply Fld.blk_eq; omega
  | cluster => rfl

theorem pmuCount_le (set : PmuSet) : pmuCount set ≤ 16 := by
  cases set with
  | engine k => exact (by decide : 8 ≤ 16)
  | cluster => exact le_refl 16

section
variable {s t : State}

theorem CountsOnly.pmuReport {set : PmuSet} {j : Nat} (h : CountsOnly s t) (hset : RealSet set) : CountsOnly s (t.pmuReport set j) :=
  have ha := h.set (pmuOvf_blk hset)
  have hb := CountsOnly.ite (ha.occur (by omega)) ha
  .ite (hb.set rfl) hb

theorem CountsOnly.pmuAdd {set : PmuSet} {fuel j n : Nat} (h : CountsOnly s t) (hset : RealSet set) (hj : j < pmuCount set) :
    CountsOnly s (t.pmuAdd set fuel j n).1 := by
  induction fuel generalizing t j n with
  | zero => exact h
  | succ fuel ih =>
    unfold State.pmuAdd
    extract_lets c a
    have ha : CountsOnly s a := h.set (pmuCnt_blk hset (lt_of_lt_of_le hj (pmuCount_le set)))
    split
    · exact ha
    · split
      · next hchain =>
        have hnext : j + 1 < pmuCount set := of_decide_eq_true (Bool.and_eq_true_iff.mp hchain).1
        split
        · exact ih ha hnext
        · exact ha
      · exact ha.pmuReport hset

theorem CountsOnly.clusterEvent {ev filt : Nat} (h : CountsOnly s t) : CountsOnly s (t.clusterEvent ev filt) :=
  .foldl h fun _ _ hj hu => .ite (hu.pmuAdd trivial (List.mem_range.mp hj)) hu

theorem CountsOnly.sampleLost (h : CountsOnly s t) : CountsOnly s t.sampleLost :=
  .clusterEvent (.flag (.set h rfl) (by omega) rfl)

theorem CountsOnly.pushSample {b : List Byte} (h : CountsOnly s t) : CountsOnly s (t.pushSample b) :=
  have hcons := CountsOnly.ite (c := decide (4096 ≤ t.pmu.ring.length) = true) (h.updPmu.set rfl) h.updPmu
  .ite h.sampleLost (.clusterEvent (.ite (.flag (.set hcons rfl) (by omega) rfl) (.set hcons rfl)))

theorem CountsOnly.engineCount {k j n : Nat} (h : CountsOnly s t) (hk : k < 16) (hj : j < 8) : CountsOnly s (t.engineCount k j n) := by
  have hadd : CountsOnly s (t.pmuAdd (.engine k) 8 j n).1 := h.pmuAdd (set := .engine k) hk hj
  unfold State.engineCount
  extract_lets r
  split
  · exact .ite hadd.useFree.pushSample hadd
  · exact hadd

theorem CountsOnly.engineEvent {k ev : Nat} (h : CountsOnly s t) : CountsOnly s (t.engineEvent k ev) := by
  unfold State.engineEvent
  split
  · exact h
  · next hk => exact .foldl h fun _ _ hj hu => .ite (hu.engineCount (by omega) (List.mem_range.mp hj)) hu

theorem CountsOnly.pke (h : CountsOnly s t) : t.pke = s.pke := by rw [h.parts]
theorem CountsOnly.port (h : CountsOnly s t) : t.port = s.port := by rw [h.parts]
theorem CountsOnly.nts (h : CountsOnly s t) : t.nts = s.nts := by rw [h.parts]
theorem CountsOnly.ptp (h : CountsOnly s t) : t.ptp = s.ptp := by rw [h.parts]
theorem CountsOnly.raw (h : CountsOnly s t) : t.raw = s.raw := by rw [h.parts]
theorem CountsOnly.sram (h : CountsOnly s t) : t.sram = s.sram := by rw [h.parts]
theorem CountsOnly.flash (h : CountsOnly s t) : t.flash = s.flash := by rw [h.parts]

theorem CountsOnly.get (h : CountsOnly s t) {g : Fld} (he : g.blk ≠ 0x11) (hp : g.blk ≠ 0x12) : t.get g = s.get g := h.regs g (by simp [he, hp])

theorem CountsOnly.bit (h : CountsOnly s t) {g : Fld} (he : g.blk ≠ 0x11) (hp : g.blk ≠ 0x12) : t.bit g = s.bit g :=
  State.bit_eq_of_get (h.get he hp)

end

end Sys2Proof.Machine

/-! PROOF. The contexts of the packet engines (R343 to R348): what taking one, changing one and ending one leave. -/

namespace Sys2Proof.Machine

/-! What the work on packets changes at all. -/

/-- Beside registers, events, counters and free values, only the engines' and the ports' states have changed. -/
def PacketOnly (s t : State) : Prop :=
  t = { s with regs := t.regs, evt := t.evt, sys := t.sys, pmu := t.pmu, out := t.out, free := t.free, pke := t.pke, port := t.port }

namespace PacketOnly

variable {s t u : State}

theorem refl (s : State) : PacketOnly s s := rfl

theorem trans (h : PacketOnly s t) (k : PacketOnly t u) : PacketOnly s u := by
  have hu := k
  unfold PacketOnly at hu
  rw [h] at hu
  exact hu

theorem ite {c : Prop} [Decidable c] (ht : PacketOnly s t) (hu : PacketOnly s u) : PacketOnly s (if c then t else u) := by
  split <;> assumption

theorem foldl {α : Type} {f : State → α → State} {l : List α} (h : PacketOnly s t) (hf : ∀ u a, PacketOnly s u → PacketOnly s (f u a)) :
    PacketOnly s (l.foldl f t) :=
  List.foldlRecOn (motive := fun u : State => PacketOnly s u) l f h fun u hu a _ => hf u a hu

theorem set {f : Fld} {v : Nat} (h : PacketOnly s t) : PacketOnly s (t.set f v) := h.trans rfl

theorem counts (h : PacketOnly s t) (k : CountsOnly t u) : PacketOnly s u := by
  refine h.trans ?_
  unfold PacketOnly
  rw [k.pke, k.port]
  exact k.parts

theorem events (h : PacketOnly s t) (k : EventsOnly t u) : PacketOnly s u := by
  refine h.trans ?_
  unfold PacketOnly
  rw [k.pmu, k.free, k.pke, k.port]
  exact k

theorem flag {f : Fld} {ev inst detail : Nat} (h : PacketOnly s t) : PacketOnly s (t.flag f ev inst detail) := h.events (State.flag_parts t f ev
    inst detail)

theorem showDrained (h : PacketOnly s t) : PacketOnly s t.showDrained := h.set

theorem updPort {n : Nat} {f : PortSt → PortSt} (h : PacketOnly s t) : PacketOnly s (t.updPort n f) := h.trans rfl

theorem updCtx {id : Nat} {f : Ctx → Ctx} (h : PacketOnly s t) : PacketOnly s (t.updCtx id f) := h.trans rfl

theorem freeCtx {id : Nat} (h : PacketOnly s t) : PacketOnly s (t.freeCtx id) := by
  refine h.trans ?_
  unfold State.freeCtx
  split
  · rfl
  · extract_lets _ a b
    exact .showDrained (.ite rfl rfl)

theorem newCtx {f : Nat → Ctx} (h : PacketOnly s t) : PacketOnly s (t.newCtx f) := by
  refine h.trans ?_
  unfold State.newCtx
  extract_lets x _ a b
  have hb : PacketOnly t b := .ite rfl rfl
  exact .showDrained (hb.counts (.engineEvent (.refl b)))

theorem cancelResv {id : Nat} (h : PacketOnly s t) : PacketOnly s (t.cancelResv id) := h.foldl fun _ _ hu => .set (.set (.updPort hu))

theorem abandon {id : Nat} {ctr : Option Fld} (h : PacketOnly s t) : PacketOnly s (t.abandon id ctr) := by
  unfold State.abandon
  extract_lets eng own b a
  have hb : PacketOnly s b := h.cancelResv.freeCtx.counts (.engineEvent (.refl _))
  have ha : PacketOnly s a := .ite hb hb.set
  cases ctr with
  | none => exact ha
  | some f => exact ha.set

theorem gateInc {n : Nat} {g : GateCount} (h : PacketOnly s t) : PacketOnly s (t.gateInc n g) := by
  cases g <;> exact h.set

theorem dropMsg {x : Ctx} {cause : Nat} (h : PacketOnly s t) : PacketOnly s (t.dropMsg x cause) :=
  have hheld : PacketOnly s (t.gateHeld x) := h.foldl fun _ _ hu => hu.gateInc
  have hfree := (PacketOnly.flag (ev := 38 + x.port) (hheld.set (f := F.APD_DROP.DROP x.port)).set).cancelResv.freeCtx
  .ite hfree hfree.set

theorem nts (h : PacketOnly s t) : t.nts = s.nts := by rw [h]
theorem ptp (h : PacketOnly s t) : t.ptp = s.ptp := by rw [h]
theorem raw (h : PacketOnly s t) : t.raw = s.raw := by rw [h]
theorem memorySame (h : PacketOnly s t) : MemorySame s t := .of_eq (by rw [h]) (by rw [h])

end PacketOnly

/-! The table of contexts. -/

theorem RegsOutside.mono {bs cs : List Nat} {s t : State} (h : RegsOutside bs s t) (hsub : ∀ b ∈ bs, b ∈ cs) : RegsOutside cs s t :=
  fun f hf => h f fun hb => hf (hsub _ hb)

theorem State.freeCtx_pke (s : State) (id : Nat) : ∃ q, (s.freeCtx id).pke =
    { s.pke with ctxs := s.pke.ctxs.filter (fun y => y.id != id), laneQ := q } := by
  unfold State.freeCtx
  cases hx : s.ctx? id with
  | none =>
    have hall : s.pke.ctxs.filter (fun y => y.id != id) = s.pke.ctxs := List.filter_eq_self.mpr fun y hy => by
      have := List.find?_eq_none.mp hx y hy
      simpa using this
    exact ⟨s.pke.laneQ, by rw [hall]⟩
  | some x =>
    refine ⟨s.pke.laneQ.filter (fun o => o.ctx != id), ?_⟩
    dsimp only
    split <;> rfl

theorem State.freeCtx_ctxs (s : State) (id : Nat) : (s.freeCtx id).pke.ctxs = s.pke.ctxs.filter (fun y => y.id != id) := by
  obtain ⟨q, hq⟩ := s.freeCtx_pke id
  rw [hq]

theorem State.freeCtx_regs (s : State) (id : Nat) : RegsOutside [0xB] s (s.freeCtx id) := by
  unfold State.freeCtx
  split
  · exact .refl _ s
  · next x _ =>
    extract_lets _ a b
    have ha : RegsOutside [0xB] s a := .of_regs (.refl _ s) rfl
    refine .set ?_ (by decide)
    unfold b
    split
    · exact .set ha (List.mem_singleton.mpr (by apply Fld.blk_eq; omega))
    · exact ha

theorem State.cancelResv_pke (s : State) (id : Nat) : (s.cancelResv id).pke = s.pke :=
  foldl_keeps (fun t : State => t.pke) (fun t n => show ((t.updPort n _).showCal n).pke = t.pke from rfl) _ s

theorem State.cancelResv_regs (s : State) (id : Nat) : RegsOutside [0xA] s (s.cancelResv id) := by
  refine List.foldlRecOn (motive := fun t : State => RegsOutside [0xA] s t) _ _ (.refl _ s) fun t ht n hn => ?_
  have hlt : n < 4 := List.mem_range.mp hn
  exact .set (.set (ht.of_regs rfl) (List.mem_singleton.mpr (by apply Fld.blk_eq; omega))) (List.mem_singleton.mpr (by apply Fld.blk_eq; omega))

/-- The state of an abandoned context, but for the counter of the reason. -/
theorem State.abandon_none (s : State) (id : Nat) : (∃ q, (s.abandon id none).pke =
    { s.pke with ctxs := s.pke.ctxs.filter (fun y => y.id != id), laneQ := q }) ∧ RegsOutside [0xA, 0xB, 0x11, 0x12] s (s.abandon id none) := by
  let eng := match s.ctx? id with | some x => x.engine | none => 16
  let b := ((s.cancelResv id).freeCtx id).engineEvent eng 0xB
  have hcount : CountsOnly ((s.cancelResv id).freeCtx id) b := .engineEvent (.refl _)
  have hb : RegsOutside [0xA, 0xB, 0x11, 0x12] s b :=
    ((s.cancelResv_regs id).mono (by simp)).trans (((s.cancelResv id).freeCtx_regs id).mono (by simp) |>.trans (hcount.regs.mono (by simp)))
  obtain ⟨q, hq⟩ := (s.cancelResv id).freeCtx_pke id
  have hpke : (s.abandon id none).pke = b.pke ∧ RegsOutside [0xA, 0xB, 0x11, 0x12] b (s.abandon id none) := by
    change (if decide (16 ≤ eng) = true then b else b.bump F.APD_SPEC_ABORT.ABORT).pke = _ ∧
      RegsOutside _ b (if decide (16 ≤ eng) = true then b else b.bump F.APD_SPEC_ABORT.ABORT)
    split
    · exact ⟨rfl, .refl _ b⟩
    · exact ⟨rfl, .set (.refl _ b) (by decide)⟩
  exact ⟨⟨q, by rw [hpke.1, hcount.pke, hq, State.cancelResv_pke]⟩, hb.trans hpke.2⟩

theorem State.abandon_some (s : State) (id : Nat) (f : Fld) : s.abandon id (some f) = (s.abandon id none).bump f := rfl

theorem State.newCtx_pke (s : State) (f : Nat → Ctx) : (s.newCtx f).pke =
    { s.pke with ctxs := s.pke.ctxs ++ [f s.pke.nextCtx], nextCtx := s.pke.nextCtx + 1 } := by
  unfold State.newCtx
  extract_lets x _ a b
  have hb : b.pke = a.pke := by
    unfold b
    split <;> rfl
  have hcount : CountsOnly b (b.engineEvent x.engine 0xA) := .engineEvent (.refl b)
  exact hcount.pke.trans hb

theorem State.newCtx_regs (s : State) (f : Nat → Ctx) : RegsOutside [0xB, 0x11, 0x12] s (s.newCtx f) := by
  unfold State.newCtx
  extract_lets x _ a b
  have hb : RegsOutside [0xB, 0x11, 0x12] s b := by
    have ha : RegsOutside [0xB, 0x11, 0x12] s a := .of_regs (.refl _ s) rfl
    unfold b
    split
    · exact .set ha (List.mem_cons.mpr (.inl (by apply Fld.blk_eq; omega)))
    · exact ha
  have hcount : CountsOnly b (b.engineEvent x.engine 0xA) := .engineEvent (.refl b)
  exact .set (hb.trans (hcount.regs.mono (by simp))) (by decide)

theorem State.ctx?_updCtx_self {s : State} {id : Nat} {x : Ctx} {f : Ctx → Ctx} (hx : s.ctx? id = some x) (hf : ∀ y, y.id = id → (f y).id = id) :
    (s.updCtx id f).ctx? id = some (f x) := by
  have hid : x.id = id := by simpa using List.find?_some hx
  have hfun : ((fun y : Ctx => y.id == id) ∘ fun y : Ctx => if y.id = id then f y else y) = fun y : Ctx => y.id == id := by
    funext y
    by_cases hy : y.id = id
    · simp [hy, hf y hy]
    · simp [hy]
  show ((s.pke.ctxs.map fun y => if y.id = id then f y else y).find? fun y => y.id == id) = _
  rw [List.find?_map, hfun]
  change Option.map _ (s.ctx? id) = _
  rw [hx, Option.map_some, if_pos hid]

theorem State.ctx?_freeCtx (s : State) (id : Nat) : (s.freeCtx id).ctx? id = none := by
  rw [State.ctx?, State.freeCtx_ctxs]
  exact List.find?_eq_none.mpr fun y hy => by simpa using (List.mem_filter.mp hy).2

theorem State.ctx?_abandon (s : State) (id : Nat) : (s.abandon id none).ctx? id = none := by
  obtain ⟨⟨q, hq⟩, -⟩ := s.abandon_none id
  rw [State.ctx?, hq]
  exact List.find?_eq_none.mpr fun y hy => by simpa using (List.mem_filter.mp hy).2

/-! A message that is dropped. -/

theorem State.gateInc_pke (s : State) (n : Nat) (g : GateCount) : (s.gateInc n g).pke = s.pke := by cases g <;> rfl

theorem State.dropMsg_ctxs (s : State) (x : Ctx) (cause : Nat) :
    (s.dropMsg x cause).pke.ctxs = s.pke.ctxs.filter (fun y => y.id != x.id) := by
  have hheld : (s.gateHeld x).pke = s.pke := foldl_keeps (fun t : State => t.pke) (fun t g => t.gateInc_pke x.port g) _ s
  unfold State.dropMsg
  extract_lets n a b
  have ha : a.pke = s.pke := (State.flag_pke _ _ _ _ _).trans hheld
  have hb : b.pke.ctxs = s.pke.ctxs.filter (fun y => y.id != x.id) := by
    unfold b
    rw [State.freeCtx_ctxs, State.cancelResv_pke, ha]
  split
  · exact hb
  · exact hb

/-- A field at bit 14 or 15 of its register: none of the counters of departures stands there. -/
def MidBit (g : Fld) : Prop := (g.key % 32 = 14 ∨ g.key % 32 = 15) ∧ g.blk ≠ 0x11 ∧ g.blk ≠ 0x12

theorem MidBit.offEvents {g : Fld} (h : MidBit g) : OffEvents g := ⟨h.2.1, .inl (by have := h.1; omega)⟩

theorem MidBit.get_set {g f : Fld} (h : MidBit g) (s : State) (v : Nat) (hlo : f.lo < 14 ∨ 16 ≤ f.lo ∧ f.lo < 32) : (s.set f v).get g = s.get g := by
  refine State.get_set_ne s v fun hk => ?_
  have hbit := h.1
  rw [hk] at hbit
  unfold Fld.key at hbit
  omega

theorem MidBit.get_gateInc {g : Fld} (h : MidBit g) (s : State) (n : Nat) (c : GateCount) : (s.gateInc n c).get g = s.get g := by
  cases c with
  | appt => exact h.get_set s _ (.inl (by decide : 0 < 14))
  | coll cause =>
    show (s.bumpSat (if cause % 2 = 1 then _ else _)).get g = _
    split
    · exact h.get_set s _ (.inl (by decide : 0 < 14))
    · exact h.get_set s _ (.inr ⟨le_refl 16, (by decide : 16 < 32)⟩)
  | reseal => exact h.get_set s _ (.inl (by decide : 0 < 14))
  | twoStep => exact h.get_set s _ (.inl (by decide : 0 < 14))
  | freeRel => exact h.get_set s _ (.inr ⟨le_refl 16, (by decide : 16 < 32)⟩)

theorem MidBit.get_cancelResv {g : Fld} (h : MidBit g) (s : State) (id : Nat) : (s.cancelResv id).get g = s.get g :=
  foldl_keeps (fun t : State => t.get g) (fun t n => (h.get_set _ _ (.inl (by decide : 7 < 14))).trans
    (h.get_set (t.updPort n fun p => { p with cal := p.cal.filter (fun r => r.ctx != id) }) _ (.inl (by decide : 0 < 14)))) _ s

theorem MidBit.get_freeCtx {g : Fld} (h : MidBit g) (s : State) (id : Nat) : (s.freeCtx id).get g = s.get g := by
  unfold State.freeCtx
  split
  · rfl
  · extract_lets _ a b
    refine (h.get_set b _ (.inl (by decide : 0 < 14))).trans ?_
    unfold b
    split
    · exact h.get_set a _ (.inr ⟨le_refl 16, (by decide : 16 < 32)⟩)
    · rfl

theorem MidBit.get_dropMsg {g : Fld} (h : MidBit g) (s : State) (x : Ctx) (cause : Nat) : (s.dropMsg x cause).get g = s.get g := by
  have hheld : (s.gateHeld x).get g = s.get g := foldl_keeps (fun t : State => t.get g) (fun t c => h.get_gateInc t x.port c) _ s
  unfold State.dropMsg
  extract_lets n a b
  have ha : a.get g = s.get g := by
    have hk : g.key ≠ (F.APD_PSTAT.DROP n).key := fun hk => by
      have hbit := h.1
      rw [hk] at hbit
      have hmod : (F.APD_PSTAT.DROP n).key % 32 = 18 := by
        show ((0 * 67108864 + (0xA00100 + 0x100 * n)) * 32 + 18) % 32 = 18
        omega
      omega
    exact (h.offEvents.get_flag _ hk _ _ _).trans ((h.get_set _ _ (.inl (by decide : 8 < 14))).trans
      ((h.get_set _ _ (.inl (by decide : 0 < 14))).trans hheld))
  have hb : b.get g = s.get g := by
    unfold b
    rw [h.get_freeCtx, h.get_cancelResv, ha]
  split
  · exact hb
  · exact (h.get_set b _ (.inl (by decide : 0 < 14))).trans hb

theorem MidBit.get_abandon {g : Fld} (h : MidBit g) (s : State) (id : Nat) : (s.abandon id none).get g = s.get g := by
  unfold State.abandon
  extract_lets eng own b a
  have hb : b.get g = s.get g := by
    unfold b
    rw [(CountsOnly.engineEvent (.refl ((s.cancelResv id).freeCtx id))).get h.2.1 h.2.2, h.get_freeCtx, h.get_cancelResv]
  change a.get g = _
  unfold a
  split
  · exact hb
  · exact (h.get_set b _ (.inl (by decide : 0 < 14))).trans hb

end Sys2Proof.Machine

/-! PROOF. Engines, their stages and the shared lanes (R345, R355, R356, R370). -/

namespace Sys2Proof.Machine

/-! The pipelines. -/

/-- The state in which the first frame has left the pipeline's queue. -/
def State.frameTaken (s : State) (p k : Nat) (rest : List InFrame) : State :=
  ({ s with pke := { s.pke with pipes := modAt s.pke.pipes p (fun _ => rest) } } : State).choseEngine p 0 k

/-- The context that takes a frame. -/
def State.frameCtx (s : State) (p k : Nat) (i : InFrame) (id : Nat) : Ctx :=
  { id := id, engine := k, pipe := p, service := s.pipeSvc p, frame := i.frame, recd := i.recd, label := i.label,
    off := if s.pipeSvc p = 1 then i.off else i.ptpOff, retry := i.retry, port := i.recd.port, born := i.recd.raw }

theorem State.dequeue_first {s : State} {p k : Nat} {i : InFrame} {rest : List InFrame} (hp : p < 8) (hk : s.nextEngine p 0 = some k)
    (hq : s.pke.pipes.getD p [] = i :: rest) (hsvc : s.pipeSvc p = 1 ∨ s.pipeSvc p = 2) :
    ∃ t, exec (.pipelineDequeue p 0) s = .next t ∧ t.pke.pipes.getD p [] = rest ∧
      (∃ x ∈ t.pke.ctxs, x.engine = k ∧ x.pipe = p ∧ x.service = s.pipeSvc p ∧ x.frame = i.frame ∧ x.recd = i.recd) ∧
      t.get F.APD_SPEC_IN.IN = (s.get F.APD_SPEC_IN.IN + 1) % 2 ^ 64 := by
  let a := s.frameTaken p k rest
  let x := s.frameCtx p k i
  have hlen : p < s.pke.pipes.length := by
    by_contra hge
    rw [List.getD_eq_default _ _ (by omega)] at hq
    cases hq
  have hpke := a.newCtx_pke x
  refine ⟨(a.newCtx x).bump F.APD_SPEC_IN.IN, ?_, ?_, ⟨x a.pke.nextCtx, ?_, rfl, rfl, rfl, rfl, rfl⟩, ?_⟩
  · change onUnit (decide (p < 8) && decide (0 < 4)) (match s.nextEngine p 0 with | none => s | some k => _) = _
    rw [decide_eq_true hp, hk]
    change Host.Outcome.next (match s.pke.pipes.getD p [] with | [] => s | i :: rest => _) = _
    rw [hq]
    change Host.Outcome.next (if s.pipeSvc p = 1 ∨ s.pipeSvc p = 2 then _ else _) = _
    rw [if_pos hsvc]
    rfl
  · change (a.newCtx x).pke.pipes.getD p [] = rest
    rw [hpke]
    exact getD_modAt_self (l := s.pke.pipes) _ _ hlen
  · change _ ∈ (a.newCtx x).pke.ctxs
    rw [hpke]
    exact List.mem_append_right _ (List.mem_singleton_self _)
  · rw [State.get_bump_self, a.newCtx_regs x F.APD_SPEC_IN.IN (by decide)]
    rfl

theorem State.dequeue_stage {s : State} {p st k : Nat} {x : Ctx} (hp : p < 8) (hlo : 1 ≤ st) (hst : st < 4) (hk : s.nextEngine p st = some k)
    (hx : s.pke.ctxs.find? (fun x => x.pipe == p && x.stage + 1 == st && decide (x.engine < 16)) = some x) :
    ∃ t, exec (.pipelineDequeue p st) s = .next t ∧ (∃ y ∈ t.pke.ctxs, y.id = x.id ∧ y.engine = k ∧ y.stage = st ∧ y.frame = x.frame) ∧
      t.pke.pipes = s.pke.pipes ∧ MemorySame s t := by
  let a := (s.updCtx x.id (fun y => { y with engine := k, stage := st })).choseEngine p st k
  have hshow : ∀ (u : State) (j : Nat), (u.showCtx j).pke = u.pke ∧ PacketOnly u (u.showCtx j) := fun u j => by
    unfold State.showCtx
    split <;> exact ⟨rfl, rfl⟩
  have hpke : ((a.showCtx x.engine).showCtx k).pke = a.pke := (hshow _ k).1.trans (hshow a x.engine).1
  refine ⟨(a.showCtx x.engine).showCtx k, ?_, ⟨{ x with engine := k, stage := st }, ?_, rfl, rfl, rfl, rfl⟩, ?_, ?_⟩
  · change onUnit (decide (p < 8) && decide (st < 4)) (match s.nextEngine p st with | none => s | some k => _) = _
    rw [decide_eq_true hp, decide_eq_true hst, hk]
    change Host.Outcome.next (if st = 0 then _ else match s.pke.ctxs.find? _ with | none => s | some x => _) = _
    rw [if_neg (by omega), hx]
  · rw [hpke]
    exact List.mem_map.mpr ⟨x, List.mem_of_find?_eq_some hx, if_pos rfl⟩
  · rw [hpke]
    rfl
  · exact (PacketOnly.trans (show PacketOnly s a from rfl) ((hshow a x.engine).2.trans (hshow _ k).2)).memorySame

/-! A faulted engine. -/

/-- One context of a faulted engine ends: it is dropped or abandoned. -/
def State.faultCtx (s : State) (x : Ctx) : State := if x.committed then s.dropMsg x 14 else s.abandon x.id none

theorem State.faultCtx_ctxs (s : State) (x : Ctx) : (s.faultCtx x).pke.ctxs = s.pke.ctxs.filter (fun y => y.id != x.id) := by
  unfold State.faultCtx
  split
  · exact s.dropMsg_ctxs x 14
  · obtain ⟨⟨q, hq⟩, -⟩ := s.abandon_none x.id
    rw [hq]

theorem MidBit.get_faultCtx {g : Fld} (h : MidBit g) (s : State) (x : Ctx) : (s.faultCtx x).get g = s.get g := by
  unfold State.faultCtx
  split
  · exact h.get_dropMsg s x 14
  · exact h.get_abandon s x.id

/-- Of the contexts of a list none is left, and no context is new. -/
theorem State.faultCtxs_ctxs (l : List Ctx) (s : State) : ∀ y ∈ (l.foldl State.faultCtx s).pke.ctxs, y ∈ s.pke.ctxs ∧ y ∉ l := by
  induction l generalizing s with
  | nil => exact fun y hy => ⟨hy, List.not_mem_nil⟩
  | cons x l ih =>
    intro y hy
    obtain ⟨hmem, hl⟩ := ih (s.faultCtx x) y hy
    rw [State.faultCtx_ctxs] at hmem
    obtain ⟨hs, hid⟩ := List.mem_filter.mp hmem
    refine ⟨hs, fun hmem' => (List.mem_cons.mp hmem').elim (fun hyx => ?_) hl⟩
    rw [hyx] at hid
    simp at hid

theorem midBit_eng {k : Nat} (hk : k < 16) : MidBit (F.PKE_ENG.RUN k) ∧ MidBit (F.PKE_ENG.FAULT k) := by
  have hmod : ∀ lo, ((0 * 0x4000000 + (0xB00020 + 0x4 * k)) * 32 + lo) % 32 = lo % 32 := fun lo => by omega
  refine ⟨⟨.inl (hmod 14), ?_, ?_⟩, ⟨.inr (hmod 15), ?_, ?_⟩⟩ <;> (apply Fld.blk_ne; omega)

theorem State.engine_faults {s : State} {k : Nat} (hk : k < 16) (hrun : s.bit (F.PKE_ENG.RUN k) = true) :
    ∃ t, exec (.engineFault k false) s = .next t ∧ t.bit (F.PKE_ENG.FAULT k) = true ∧ t.bit (F.PKE_ENG.RUN k) = false ∧
      t.bit F.PKE_STAT.ENGFLT = true ∧ ∀ y ∈ t.pke.ctxs, y.engine ≠ k := by
  let a := s.sets [(F.PKE_ENG.FAULT k, 1), (F.PKE_ENG.RUN k, 0)]
  let l := s.pke.ctxs.filter (fun x => x.engine == k)
  let b := l.foldl State.faultCtx a
  let c := b.flag F.PKE_STAT.ENGFLT 42 k
  let t := if c.pmu.tags.contains k then (c.updPmu (fun p => { p with tags := p.tags.filter (· != k) })).sampleLost else c
  have ht : CountsOnly c t := .ite (CountsOnly.updPmu (.refl c)).sampleLost (.refl c)
  have hmid := midBit_eng hk
  have hkeep : ∀ g : Fld, MidBit g → t.bit g = a.bit g := fun g hg => by
    have hgs : g.key ≠ F.PKE_STAT.ENGFLT.key := fun hgk => by
      have := hg.1
      rw [hgk] at this
      exact absurd this (by decide)
    rw [ht.bit hg.2.1 hg.2.2, State.bit_flag_ne b _ _ (by omega) hg.2.1 hgs]
    exact State.bit_eq_of_get (foldl_keeps (fun u : State => u.get g) (fun u x => hg.get_faultCtx u x) l a)
  have hctxs : t.pke.ctxs = b.pke.ctxs := by
    rw [ht.pke]
    exact congrArg _ (State.flag_pke b _ _ _ _)
  refine ⟨t, ?_, ?_, ?_, ?_, fun y hy hyk => ?_⟩
  · change onUnit _ _ = _
    rw [onUnit_lt hk, if_neg Bool.false_ne_true]
    exact next_when hrun _
  · rw [hkeep _ hmid.2]
    exact (State.bit_set_ne _ _ (by apply Fld.key_ne; omega)).trans (State.bit_set s 1 rfl)
  · rw [hkeep _ hmid.1]
    exact State.bit_set _ 0 rfl
  · rw [ht.bit (by decide) (by decide)]
    exact State.flag_get b _ _ (by omega) rfl (by decide)
  · rw [hctxs] at hy
    obtain ⟨hmem, hl⟩ := State.faultCtxs_ctxs l a y hy
    exact hl (List.mem_filter.mpr ⟨hmem, beq_iff_eq.mpr hyk⟩)

theorem State.engine_reloads {s : State} {k : Nat} (hk : k < 16) (hf : s.bit (F.PKE_ENG.FAULT k) = true) :
    ∃ t, exec (.engineFault k true) s = .next t ∧ t.bit (F.PKE_ENG.FAULT k) = false ∧ t.bit (F.PKE_ENG.RUN k) = true ∧
      RegsBut [F.PKE_ENG.FAULT k, F.PKE_ENG.RUN k] s t ∧ RegsOnly s t := by
  refine ⟨s.sets [(F.PKE_ENG.FAULT k, 0), (F.PKE_ENG.RUN k, 1)], ?_, (State.bit_set_ne _ _ (by apply Fld.key_ne; omega)).trans (State.bit_set s 0
    rfl),
    State.bit_set _ 1 rfl, .sets (.refl _ s) (by simp), rfl⟩
  change onUnit _ _ = _
  rw [onUnit_lt hk, if_pos rfl]
  exact next_when (by rw [hf]; rfl) _

/-! The lanes. -/

/-- The state in which a lane has an operation. -/
def State.laneTaken (s : State) (o : LaneOp) (j : Nat) (bad : Bool) : State :=
  { s with pke := { s.pke with
      laneQ := s.pke.laneQ.erase o
      lanes := modAt s.pke.lanes j (fun l => { l with op := some (o, s.raw), stale := false, refused := bad }) } }

theorem State.lane_grants {s : State} {hmac : Bool} {o : LaneOp} {j : Nat} (ho : nextOp hmac s.pke.laneQ = some o) (hlen : j < s.pke.lanes.length)
    (hj : (if hmac then [8, 9, 10, 11] else List.range 8).find? (fun j => (s.pke.lanes.getD j {}).op.isNone) = some j) :
    ∃ t, exec (.laneGrant hmac) s = .next t ∧ (t.pke.lanes.getD j {}).op = some (o, s.raw) ∧ t.pke.laneQ = s.pke.laneQ.erase o ∧
      (t.pke.lanes.getD j {}).refused = (match o.slot with | none => false | some n => s.slotRefuses n [o.use] != 0) ∧ MemorySame s t := by
  let bad := match o.slot with | none => false | some n => s.slotRefuses n [o.use] != 0
  let a := s.laneTaken o j bad
  let t := if o.isSeal && o.deadline.isSome then a.showLanes.clusterEvent 6 0 else a.showLanes
  have ht : CountsOnly a.showLanes t := .ite (.clusterEvent (.refl _)) (.refl _)
  have hlane : t.pke.lanes.getD j {} = { s.pke.lanes.getD j {} with op := some (o, s.raw), stale := false, refused := bad } := by
    rw [ht.pke]
    exact getD_modAt_self (l := s.pke.lanes) _ _ hlen
  refine ⟨t, ?_, by rw [hlane], by rw [ht.pke]; rfl, by rw [hlane], (PacketOnly.counts (show PacketOnly s a.showLanes from rfl) ht).memorySame⟩
  change Host.Outcome.next (match nextOp hmac s.pke.laneQ,
    (if hmac then [8, 9, 10, 11] else List.range 8).find? (fun j => (s.pke.lanes.getD j {}).op.isNone) with | some o, some j => _ | _, _ => s) = _
  rw [ho, hj]
  rfl

/-- Every context of a number is sealed. -/
def SealedCtx (s : State) (id : Nat) : Prop := ∀ y ∈ s.pke.ctxs, y.id = id → y.sealed_ = true

theorem State.dropMsg_lanes (s : State) (x : Ctx) (cause : Nat) : (s.dropMsg x cause).pke.lanes = s.pke.lanes := by
  have hheld : (s.gateHeld x).pke = s.pke := foldl_keeps (fun t : State => t.pke) (fun t g => t.gateInc_pke x.port g) _ s
  unfold State.dropMsg
  extract_lets n a b
  have ha : a.pke = s.pke := (State.flag_pke _ _ _ _ _).trans hheld
  have hb : b.pke.lanes = s.pke.lanes := by
    obtain ⟨q, hq⟩ := (a.cancelResv x.id).freeCtx_pke x.id
    unfold b
    rw [hq, State.cancelResv_pke, ha]
  split
  · exact hb
  · exact hb

theorem State.sendOn_pke (s : State) (n : Nat) (f : TxFrame) : (s.sendOn n f).pke = s.pke := by
  unfold State.sendOn
  split
  · unfold State.emit
    split <;> rfl
  · rfl

/-- What a release leaves: the lanes, and whether a context is sealed. -/
theorem State.tryRelease_keeps (s : State) (id : Nat) : (s.tryRelease id).pke.lanes = s.pke.lanes ∧
    ∀ j, SealedCtx s j → SealedCtx (s.tryRelease id) j := by
  unfold State.tryRelease
  split
  · exact ⟨rfl, fun _ h => h⟩
  · next x _ =>
    split
    · split
      · refine ⟨s.dropMsg_lanes x 11, fun j h y hy => ?_⟩
        rw [State.dropMsg_ctxs] at hy
        exact h y (List.mem_filter.mp hy).1
      · refine ⟨by rw [State.sendOn_pke]; rfl, fun j h y hy hid => ?_⟩
        rw [State.sendOn_pke] at hy
        obtain ⟨z, hz, rfl⟩ := List.mem_map.mp hy
        split at hid
        · next hzid => simpa [hzid] using h z hz hid
        · next hzid => simpa [hzid] using h z hz hid
    · exact ⟨rfl, fun _ h => h⟩

/-- A sealed payload reaches every context of the number. -/
theorem State.updCtx_sealed (s : State) (id : Nat) {f : Ctx → Ctx} (hf : ∀ y, (f y).sealed_ = true) : SealedCtx (s.updCtx id f) id := by
  intro y hy hid
  obtain ⟨z, -, rfl⟩ := List.mem_map.mp hy
  split at hid
  · next hz => rw [if_pos hz]; exact hf z
  · next hz => exact absurd hid hz

theorem State.sealCtx_seals (s : State) (id : Nat) : (s.sealCtx id).pke.lanes = s.pke.lanes ∧ SealedCtx (s.sealCtx id) id := by
  unfold State.sealCtx
  split
  · next hx => exact ⟨rfl, fun y hy hid => absurd (by simpa using hid) (List.find?_eq_none.mp hx y hy)⟩
  · next x _ =>
    split
    · exact ⟨rfl, State.updCtx_sealed _ id fun _ => rfl⟩
    · split
      · exact ⟨rfl, State.updCtx_sealed s id fun _ => rfl⟩
      · exact ⟨rfl, State.updCtx_sealed s id fun _ => rfl⟩

/-- A result that is not refused reaches its context. -/
theorem State.laneBack_keeps (s : State) (o : LaneOp) (stale : Bool) : (s.laneBack o stale false).pke.lanes = s.pke.lanes ∧
    (o.isSeal = true → SealedCtx (s.laneBack o stale false) o.ctx) := by
  unfold State.laneBack
  split
  · next hx => exact ⟨rfl, fun _ y hy hid => absurd (by simpa using hid) (List.find?_eq_none.mp hx y hy)⟩
  · extract_lets a
    split
    · next hx => exact ⟨rfl, fun _ y hy hid => absurd (by simpa using hid) (List.find?_eq_none.mp hx y hy)⟩
    · rw [if_neg Bool.false_ne_true]
      obtain ⟨hlanes, hseals⟩ := a.sealCtx_seals o.ctx
      obtain ⟨hlanes', hkeeps⟩ := (a.sealCtx o.ctx).tryRelease_keeps o.ctx
      split
      · exact ⟨hlanes'.trans hlanes, fun _ => hkeeps _ hseals⟩
      · next hno => exact ⟨rfl, fun h => absurd h hno⟩

/-- The state in which a lane is free again. -/
def State.laneFreed (s : State) (j : Nat) : State :=
  ({ s with pke := { s.pke with lanes := modAt s.pke.lanes j (fun _ => { cache := (s.pke.lanes.getD j {}).cache }) } } : State).showLanes

theorem State.lane_ends {s : State} {j t0 : Nat} {bad : Bool} {o : LaneOp} (hj : j < 12) (hop : (s.pke.lanes.getD j {}).op = some (o, t0))
    (hslot : o.slot = none) (href : (s.pke.lanes.getD j {}).refused = false) (ht : laneTime o true ≤ (s.raw - t0) * 16) :
    exec (.laneResult j bad) s = .next ((s.laneFreed j).laneBack o (s.pke.lanes.getD j {}).stale false) := by
  change onUnit _ (match (s.pke.lanes.getD j {}).op with | none => s | some (o, t) => _) = _
  rw [onUnit_lt hj, hop]
  dsimp only
  rw [hslot]
  refine (next_when (decide_eq_true ht) _).trans ?_
  simp [-List.getD_eq_getElem?_getD, href, State.laneFreed]

theorem State.lane_result {s : State} {j t0 : Nat} {bad : Bool} {o : LaneOp} (hj : j < 12) (hop : (s.pke.lanes.getD j {}).op = some (o, t0))
    (hslot : o.slot = none) (href : (s.pke.lanes.getD j {}).refused = false) (ht : laneTime o true ≤ (s.raw - t0) * 16) :
    ∃ t, exec (.laneResult j bad) s = .next t ∧ (t.pke.lanes.getD j {}).op = none ∧
      (o.isSeal = true → ∀ y, t.ctx? o.ctx = some y → y.sealed_ = true) := by
  obtain ⟨hlanes, hsealed⟩ := (s.laneFreed j).laneBack_keeps o (s.pke.lanes.getD j {}).stale
  have hlen : j < s.pke.lanes.length := by
    by_contra hge
    rw [List.getD_eq_default _ _ (by omega)] at hop
    cases hop
  refine ⟨_, State.lane_ends hj hop hslot href ht, ?_, fun hs y hy => ?_⟩
  · rw [hlanes]
    exact congrArg Lane.op (getD_modAt_self (l := s.pke.lanes) _ _ hlen)
  · exact hsealed hs y (List.mem_of_find?_eq_some hy) (by simpa using List.find?_some hy)

/-- Settles O33, from what taking and ending contexts and a lane's grant and result leave. -/
theorem enginesAndLanes : Obligations.EnginesAndLanes :=
  ⟨fun _ _ _ _ _ hp hk hq hsvc => State.dequeue_first hp hk hq hsvc, fun _ _ _ _ _ hp hlo hst hk hx => State.dequeue_stage hp hlo hst hk hx,
    fun _ _ hk hrun => State.engine_faults hk hrun, fun _ _ hk hf => State.engine_reloads hk hf,
    fun _ _ _ _ ho hlen hj => State.lane_grants ho hlen hj, fun _ _ _ _ _ hj hop hslot href ht => State.lane_result hj hop hslot href ht⟩

end Sys2Proof.Machine

/-! PROOF. Draining (R368), a pipeline's counters (R346) and the classifier's single entry (R352, R353). -/

namespace Sys2Proof.Machine

/-! Little-endian values and lists of writes. -/

theorem leNat_lt (l : List Byte) : leNat l < 256 ^ l.length := by
  induction l with
  | nil => exact Nat.one_pos
  | cons b l ih =>
    have hb : b.toNat < 256 := b.isLt
    rw [leNat, List.length_cons, Nat.pow_succ]
    omega

theorem leAt_lt (l : List Byte) (off n : Nat) : leAt l off n < 256 ^ n := by
  have hlen : (sliceB l off n).length = n := by
    unfold sliceB
    simp only [List.length_append, List.length_replicate, List.length_take, List.length_drop]
    omega
  have hlt := leNat_lt (sliceB l off n)
  rwa [hlen] at hlt

/-- A field of a family that is written with its value, each of the family once. -/
theorem State.get_sets_map {α : Type} (s : State) (F : α → Fld) (v : α → Nat) {l : List α} (hinj : ∀ a ∈ l, ∀ b ∈ l, (F a).key = (F b).key → a = b)
    {a : α} (ha : a ∈ l) : (s.sets (l.map fun b => (F b, v b))).get (F a) = v a % 2 ^ (F a).w := by
  induction l generalizing s with
  | nil => cases ha
  | cons b l ih =>
    by_cases hmem : a ∈ l
    · exact ih (s.set (F b) (v b)) (fun x hx y hy => hinj x (List.mem_cons_of_mem b hx) y (List.mem_cons_of_mem b hy)) hmem
    · have hab : a = b := (List.mem_cons.mp ha).resolve_right hmem
      subst hab
      refine (State.get_sets_ne (s.set (F a) (v a)) _ fun p hp => ?_).trans (State.get_set_self s (F a) (v a))
      obtain ⟨c, hc, rfl⟩ := List.mem_map.mp hp
      intro hk
      exact hmem (hinj a List.mem_cons_self c (List.mem_cons_of_mem a hc) hk ▸ hc)

theorem State.sets_regsOnly (s : State) (l : List (Fld × Nat)) : RegsOnly s (s.sets l) := by
  obtain ⟨r, hr⟩ := s.sets_eq l
  rw [RegsOnly, hr]

theorem State.clearAll_eq (s : State) (l : List Fld) : s.clearAll l = s.sets (l.map fun f => (f, 0)) := by
  rw [State.clearAll, State.sets, List.foldl_map]

/-- Fields that are cleared read 0, and nothing else is written. -/
theorem State.clearAll_clears (s : State) {l : List Fld} (hinj : ∀ f ∈ l, ∀ g ∈ l, f.key = g.key → f = g) :
    (∀ f ∈ l, (s.clearAll l).get f = 0) ∧ RegsBut l s (s.clearAll l) ∧ RegsOnly s (s.clearAll l) := by
  rw [State.clearAll_eq]
  refine ⟨fun f hf => (s.get_sets_map id (fun _ => 0) hinj hf).trans (Nat.zero_mod _), .sets (.refl l s) fun p hp => ?_, ?_⟩
  · obtain ⟨f, hf, rfl⟩ := List.mem_map.mp hp
    exact hf
  · exact s.sets_regsOnly _

/-! Draining. -/

/-- A context that is abandoned changes no other field of the engines' block than the count of contexts and DRAINED. -/
theorem State.get_freeCtx_ne (s : State) (id : Nat) {g : Fld} (hd : g.key ≠ F.PKE_STAT.DRAINED.key) (hc : ∀ k < 16, g.key ≠ (F.PKE_ENG.CTX k).key) :
    (s.freeCtx id).get g = s.get g := by
  unfold State.freeCtx
  split
  · rfl
  · extract_lets _ a b
    refine (State.get_setBit_ne b _ hd).trans ?_
    unfold b
    split
    · next hk => exact State.get_set_ne a _ (hc _ hk)
    · rfl

theorem State.get_drain_abandon (s : State) (id : Nat) : (s.abandon id none).get F.PKE_CTRL.DRAIN = s.get F.PKE_CTRL.DRAIN := by
  unfold State.abandon
  extract_lets eng own b a
  have hb : b.get F.PKE_CTRL.DRAIN = s.get F.PKE_CTRL.DRAIN := by
    unfold b
    rw [(CountsOnly.engineEvent (.refl ((s.cancelResv id).freeCtx id))).get (by decide) (by decide),
      State.get_freeCtx_ne _ _ (by decide) fun k hk => by apply Fld.key_ne; omega]
    exact s.cancelResv_regs id _ (by decide)
  change a.get _ = _
  unfold a
  split
  · exact hb
  · exact (State.get_set_ne b _ (by decide)).trans hb

/-- After the uncommitted contexts of a list are abandoned, a context that is left was there and is not of the list. -/
theorem State.abandonAll_ctxs (l : List Ctx) (s : State) : ∀ y ∈ (l.foldl (fun t x => t.abandon x.id none) s).pke.ctxs, y ∈ s.pke.ctxs ∧ y ∉ l := by
  induction l generalizing s with
  | nil => exact fun y hy => ⟨hy, List.not_mem_nil⟩
  | cons x l ih =>
    intro y hy
    obtain ⟨hmem, hl⟩ := ih (s.abandon x.id none) y hy
    obtain ⟨⟨q, hq⟩, -⟩ := s.abandon_none x.id
    rw [hq] at hmem
    obtain ⟨hs, hid⟩ := List.mem_filter.mp hmem
    refine ⟨hs, fun hmem' => (List.mem_cons.mp hmem').elim (fun hyx => ?_) hl⟩
    rw [hyx] at hid
    simp at hid

theorem State.drain_begins {s : State} {req : Requester} {data : Nat} (hr : s.Serves req 0xB00000) (hd : data.testBit 0 = true)
    (hoff : s.bit F.PKE_CTRL.DRAIN = false) :
    ∃ t, exec (.pkeDrainWrite req data) s = .next t ∧ t.bit F.PKE_CTRL.DRAIN = true ∧ (∀ x ∈ t.pke.ctxs, x.committed = true) ∧
        t.bit F.PKE_STAT.DRAINED = t.pke.ctxs.isEmpty := by
  let a := (s.set (F.XBR_TSTAT.OWNER 6) req.master).set F.PKE_CTRL.DRAIN 1
  let b : State := { a with pke := { a.pke with pipes := a.pke.pipes.zipIdx.map (fun q => if a.pipeSvc q.2 = 3 then q.1 else []) } }
  let c := (b.pke.ctxs.filter (fun x => !x.committed)).foldl (fun t x => t.abandon x.id none) b
  have hdrain : c.bit F.PKE_CTRL.DRAIN = true := by
    have hc : c.get F.PKE_CTRL.DRAIN = b.get F.PKE_CTRL.DRAIN :=
      foldl_keeps (fun u : State => u.get F.PKE_CTRL.DRAIN) (fun u (x : Ctx) => u.get_drain_abandon x.id) _ b
    have ha : a.bit F.PKE_CTRL.DRAIN = true := State.bit_set _ 1 rfl
    exact (State.bit_eq_of_get hc).trans ha
  refine ⟨c.showDrained, ?_, (State.bit_set_ne c _ (by decide)).trans hdrain, fun x hx => ?_, ?_⟩
  · refine congrArg Host.Outcome.next ((State.atDomain_of_serves hr _ _).trans ?_)
    have ha : (s.set (F.XBR_TSTAT.OWNER 6) req.master).bit F.PKE_CTRL.DRAIN = false := (State.bit_set_ne s _ (by decide)).trans hoff
    rw [State.writeDrain, hd, ha]
    rfl
  · obtain ⟨hmem, hno⟩ := State.abandonAll_ctxs _ b x hx
    by_contra hcom
    exact hno (List.mem_filter.mpr ⟨hmem, by simp [hcom]⟩)
  · rw [State.showDrained, State.bit_setBit_self _ _ _ rfl, hdrain]
    rfl

theorem State.drain_ends {s : State} {req : Requester} {data : Nat} (hr : s.Serves req 0xB00000) (hd : data.testBit 0 = false)
    (hheld : s.isHeld 0x500 = false) :
    ∃ t, exec (.pkeDrainWrite req data) s = .next t ∧ t.bit F.PKE_CTRL.DRAIN = false ∧ t.bit F.PKE_STAT.DRAINED = false ∧
        RegsBut [F.XBR_TSTAT.OWNER 6, F.PKE_CTRL.DRAIN, F.PKE_STAT.DRAINED] s t ∧ RegsOnly s t := by
  let a := (s.set (F.XBR_TSTAT.OWNER 6) req.master).set F.PKE_CTRL.DRAIN 0
  have hdrain : a.bit F.PKE_CTRL.DRAIN = false := State.bit_set _ 0 rfl
  refine ⟨a.showDrained, ?_, (State.bit_set_ne a _ (by decide)).trans hdrain, ?_, .setBit (.set (.set (.refl _ s) (by simp)) (by simp)) (by simp), rfl⟩
  · refine congrArg Host.Outcome.next ((State.atDomain_of_serves hr _ _).trans ?_)
    have ha : (s.set (F.XBR_TSTAT.OWNER 6) req.master).isHeld 0x500 = false := hheld
    rw [State.writeDrain, hd, ha]
    rfl
  · rw [State.showDrained, State.bit_setBit_self _ _ _ rfl, hdrain]
    rfl

theorem State.counters_clear {s : State} {req : Requester} {p : Nat} (hp : p < 8) (hr : s.Serves req (0xB0020C + 0x10 * p)) :
    ∃ t, exec (.pcntClr req p) s = .next t ∧ (∀ f ∈ pcntFields p, t.get f = 0) ∧
        RegsBut (F.XBR_TSTAT.OWNER 6 :: pcntFields p) s t ∧ RegsOnly s t := by
  let a := s.set (F.XBR_TSTAT.OWNER 6) req.master
  have hinj : ∀ p < 8, ∀ f ∈ pcntFields p, ∀ g ∈ pcntFields p, f.key = g.key → f = g := by decide
  obtain ⟨hzero, hbut, honly⟩ := a.clearAll_clears (hinj p hp)
  refine ⟨a.clearAll (pcntFields p), ?_, hzero, ?_, ?_⟩
  · change onUnit _ _ = _
    rw [onUnit_lt hp, State.atDomain_of_serves hr]
  · exact (RegsBut.set (.refl _ s) (by simp)).trans (hbut.mono fun f hf => List.mem_cons_of_mem _ hf)
  · rw [RegsOnly, honly]
    rfl

/-! The classifier. -/

/-- Showing the requester at the fabric leaves a window as it is. -/
theorem State.clsWindow_owner (s : State) (q m : Nat) : (s.set (F.XBR_TSTAT.OWNER 6) m).clsWindow q = s.clsWindow q := by
  refine List.flatMap_congr fun w hw => ?_
  have hlt := List.mem_range.mp hw
  rw [State.get_set_ne s _ (by apply Fld.key_ne; omega)]

/-- The state in which an entry stands in the shadow bank and the swap's tick is chosen. -/
def State.entryWritten (s : State) (idx : Nat) (e : List Byte) : State :=
  let b := s.get F.PKE_CLS_STAT.BANK
  let n := insertAt idx e s.clsBank
  let k := { s.pke with swap := some (s.raw + s.get F.RCP_LEAD.LEAD, 1 - b) }
  { s with pke := if b = 0 then { k with bankB := n } else { k with bankA := n } }.set F.PKE_CLS_CTRL.WRITE 1

theorem State.entryWritten_banks (s : State) (idx : Nat) (e : List Byte) :
    (s.entryWritten idx e).clsBank = s.clsBank ∧ lookup idx ((s.entryWritten idx e).pke.bank (1 - s.get F.PKE_CLS_STAT.BANK)) = some e ∧
      (s.entryWritten idx e).pke.swap = some (s.raw + s.get F.RCP_LEAD.LEAD, 1 - s.get F.PKE_CLS_STAT.BANK) := by
  have hbank : (s.entryWritten idx e).get F.PKE_CLS_STAT.BANK = s.get F.PKE_CLS_STAT.BANK := State.get_set_ne _ _ (by decide)
  rw [State.clsBank, hbank]
  by_cases hb : s.get F.PKE_CLS_STAT.BANK = 0
  · have hpke : (s.entryWritten idx e).pke = { s.pke with
        swap := some (s.raw + s.get F.RCP_LEAD.LEAD, 1 - s.get F.PKE_CLS_STAT.BANK)
        bankB := insertAt idx e s.clsBank } := if_pos hb
    rw [hpke, hb]
    exact ⟨(congrArg s.pke.bank hb).symm, lookup_insertAt_self idx e _, rfl⟩
  · have hpke : (s.entryWritten idx e).pke = { s.pke with
        swap := some (s.raw + s.get F.RCP_LEAD.LEAD, 1 - s.get F.PKE_CLS_STAT.BANK)
        bankA := insertAt idx e s.clsBank } := if_neg hb
    have hone : 1 - s.get F.PKE_CLS_STAT.BANK = 0 := by omega
    rw [hpke]
    refine ⟨?_, ?_, rfl⟩
    · rw [State.clsBank, PkeSt.bank, PkeSt.bank, if_neg hb, if_neg hb]
    · rw [hone]
      exact lookup_insertAt_self idx e _

theorem State.cls_writes {s : State} {req : Requester} (hr : s.Serves req 0xB00100) (hw : s.bit F.PKE_CLS_CTRL.WRITE = false)
    (hrel : s.reloading = false) (hok : s.entryOk (s.clsWindow req.idx) = true) :
    ∃ t, exec (.clsWrite req) s = .next t ∧ t.bit F.PKE_CLS_CTRL.WRITE = true ∧ t.clsBank = s.clsBank ∧
        t.pke.swap = some (s.raw + s.get F.RCP_LEAD.LEAD, 1 - s.get F.PKE_CLS_STAT.BANK) ∧
        lookup (s.get (F.PKE_CLS_SEL.IDX req.idx)) (t.pke.bank (1 - s.get F.PKE_CLS_STAT.BANK)) = some (s.clsWindow req.idx) ∧
        RegsBut [F.XBR_TSTAT.OWNER 6, F.PKE_CLS_CTRL.WRITE] s t ∧ MemorySame s t := by
  let a := s.set (F.XBR_TSTAT.OWNER 6) req.master
  let idx := a.get (F.PKE_CLS_SEL.IDX req.idx)
  let e := a.clsWindow req.idx
  have he : e = s.clsWindow req.idx := s.clsWindow_owner _ _
  have hidx : idx = s.get (F.PKE_CLS_SEL.IDX req.idx) := State.get_set_ne s _ (by apply Fld.key_ne; omega)
  have hbank : a.get F.PKE_CLS_STAT.BANK = s.get F.PKE_CLS_STAT.BANK := State.get_set_ne s _ (by decide)
  have hlead : a.get F.RCP_LEAD.LEAD = s.get F.RCP_LEAD.LEAD := State.get_set_ne s _ (by decide)
  obtain ⟨hcls, hlook, hswap⟩ := a.entryWritten_banks idx e
  rw [hbank, hlead] at hswap
  rw [hbank, hidx, he] at hlook
  refine ⟨a.entryWritten idx e, ?_, State.bit_set _ 1 rfl, hcls.trans ?_, hswap, ?_, .set (.of_regs (.set (.refl _ s) (by simp)) rfl) (by simp), .of_eq rfl rfl⟩
  · refine congrArg Host.Outcome.next ((State.atDomain_of_serves hr _ _).trans ?_)
    have hwa : a.bit F.PKE_CLS_CTRL.WRITE = false := (State.bit_set_ne s _ (by decide)).trans hw
    have hrela : a.reloading = false := hrel
    have hoka : a.entryOk e = true := he ▸ hok
    change (if a.bit F.PKE_CLS_CTRL.WRITE = true then a else if a.reloading = true then _ else if (!a.entryOk e) = true then _ else _) = _
    rw [hwa, hrela, hoka]
    rfl
  · exact congrArg s.pke.bank hbank
  · rw [hidx, he]
    exact hlook

theorem State.cls_reads {s : State} {req : Requester} (hr : s.Serves req 0xB00100) :
    ∃ t, exec (.clsRead req) s = .next t ∧ (∀ w < 18, t.get (F.PKE_CLS_WIN.WORD req.idx w) =
        leAt ((lookup (s.get (F.PKE_CLS_SEL.IDX req.idx)) s.clsBank).getD (List.replicate 72 0)) (4 * w) 4) ∧
        RegsBut (F.XBR_TSTAT.OWNER 6 :: (List.range 18).map (F.PKE_CLS_WIN.WORD req.idx)) s t ∧ RegsOnly s t := by
  let a := s.set (F.XBR_TSTAT.OWNER 6) req.master
  let e := (lookup (a.get (F.PKE_CLS_SEL.IDX req.idx)) a.clsBank).getD (List.replicate 72 0)
  have he : e = (lookup (s.get (F.PKE_CLS_SEL.IDX req.idx)) s.clsBank).getD (List.replicate 72 0) := by
    have hidx : a.get (F.PKE_CLS_SEL.IDX req.idx) = s.get (F.PKE_CLS_SEL.IDX req.idx) := State.get_set_ne s _ (by apply Fld.key_ne; omega)
    have hbank : a.clsBank = s.clsBank := congrArg s.pke.bank (State.get_set_ne s _ (by decide))
    unfold e
    rw [hidx, hbank]
  refine ⟨a.sets ((List.range 18).map fun w => (F.PKE_CLS_WIN.WORD req.idx w, leAt e (4 * w) 4)),
    congrArg Host.Outcome.next (State.atDomain_of_serves hr _ _), fun w hw => ?_, .sets (.set (.refl _ s) (by simp)) fun p hp => ?_, ?_⟩
  · rw [State.get_sets_map a (F.PKE_CLS_WIN.WORD req.idx) (fun w => leAt e (4 * w) 4) (fun i _ j _ hk => ?_) (List.mem_range.mpr hw), he]
    · exact Nat.mod_eq_of_lt (leAt_lt _ _ 4)
    · have hkey : (req.idx * 0x4000000 + (0xB00110 + 0x4 * i)) * 32 + 0 = (req.idx * 0x4000000 + (0xB00110 + 0x4 * j)) * 32 + 0 := hk
      omega
  · obtain ⟨w, hw, rfl⟩ := List.mem_map.mp hp
    exact List.mem_cons_of_mem _ (List.mem_map_of_mem hw)
  · rw [RegsOnly, a.sets_regsOnly]
    rfl

theorem State.cls_swaps {s : State} {t0 b : Nat} (hs : s.pke.swap = some (t0, b)) (ht : t0 ≤ s.raw) :
    ∃ t, exec .clsBankSwap s = .next t ∧ t.get F.PKE_CLS_STAT.BANK = b % 2 ∧ t.pke.swap = none ∧ t.pke.swapAt = t0 ∧
        t.bit F.PKE_CLS_CTRL.WRITE = false ∧ RegsBut [F.PKE_CLS_STAT.BANK, F.PKE_CLS_CTRL.WRITE] s t ∧ MemorySame s t := by
  let a : State := { s with pke := { s.pke with swap := none, swapAt := t0, oldDefault := s.get F.PKE_CLS_STAT.DEFAULT } }
  refine ⟨(a.set F.PKE_CLS_STAT.BANK b).set F.PKE_CLS_CTRL.WRITE 0, ?_, (State.get_set_ne _ _ (by decide)).trans (State.get_set_self a _ b), rfl, rfl,
    State.bit_set _ 0 rfl, .set (.set (.of_regs (.refl _ s) rfl) (by simp)) (by simp), .of_eq rfl rfl⟩
  change Host.Outcome.next (match s.pke.swap with | none => s | some (t, b) => _) = _
  rw [hs]
  exact next_when (decide_eq_true ht) _

/-- Settles O34, from what abandoning a context leaves and where a classifier entry is written. -/
theorem drainingAndClassifier : Obligations.DrainingAndClassifier := by
  refine ⟨⟨fun s req data hr hd hoff => State.drain_begins hr hd hoff, fun s req data hr hd hheld => State.drain_ends hr hd hheld, fun s => ?_,
    fun s req p hp hr => State.counters_clear hp hr⟩, fun s req hr hw hrel hok => State.cls_writes hr hw hrel hok, fun s req hr => State.cls_reads hr,
    fun s t0 b hs ht => State.cls_swaps hs ht⟩
  exact ⟨s.showDrained, rfl, State.bit_setBit_self s _ _ rfl, .setBit (.refl _ s) (by simp), rfl⟩

end Sys2Proof.Machine

/-! PROOF. What becomes of an NTS or NTP request (R372 to R378, R387, R397). -/

namespace Sys2Proof.Machine

/-! The plan of a request. -/

/-- A plan keeps the context's number, or names one of the reasons of R387. -/
def PlanOf (x : Ctx) : Except Nat Ctx → Prop
  | .ok y => y.id = x.id
  | .error r => r < 16

theorem State.plainPlan_of (s : State) (x : Ctx) : PlanOf x (s.plainPlan x) := by
  unfold State.plainPlan
  dsimp only
  split
  · rfl
  · split
    · rfl
    · exact (by decide : 8 < 16)

theorem State.ntsPlan_of (s : State) (x : Ctx) (l : List ExtFld) : PlanOf x (s.ntsPlan x l) := by
  unfold State.ntsPlan
  extract_lets p a prof ck ui au passes kid q st known n base nak dec
  have hnak : ∀ c, PlanOf x (nak c) := fun c => by
    unfold nak
    split
    · rfl
    · exact (by decide : 8 < 16)
  split
  · exact hnak 2
  · split
    · rfl
    · split
      · exact hnak 3
      · split
        · exact (by decide : 7 < 16)
        · split
          · exact (by decide : 13 < 16)
          · split
            · rfl
            · split
              · rfl
              · exact (by decide : 8 < 16)

theorem PlanOf.ite {x : Ctx} {c : Prop} [Decidable c] {a b : Except Nat Ctx} (ha : PlanOf x a) (hb : PlanOf x b) : PlanOf x (if c then a else b) := by
  split <;> assumption

theorem State.requestPlan_of (s : State) (x : Ctx) : PlanOf x (s.requestPlan x) := by
  have herr : ∀ {r : Nat}, r < 16 → PlanOf x (.error r) := id
  have h := s.plainPlan_of x
  exact .ite (herr (by omega)) (.ite (herr (by omega)) (.ite (herr (by omega)) (.ite (herr (by omega)) (.ite (.ite (herr (by omega)) (.ite h
    (herr (by omega)))) (.ite (herr (by omega)) (.ite (herr (by omega)) (.ite (.ite (s.ntsPlan_of x _) (herr (by omega))) (.ite (herr (by omega))
      (.ite h (herr (by omega)))))))))))

/-! What the lanes are asked. -/

/-- The lanes are asked for operations of a context, which alone changes in it how many it waits for. -/
structure AsksOnly (id : Nat) (s t : State) : Prop where
  packet : PacketOnly s t
  ctx : ∀ z, s.ctx? id = some z → ∃ k, t.ctx? id = some { z with ops := k }

section
variable {id : Nat} {s t u : State}

theorem AsksOnly.refl (s : State) : AsksOnly id s s := ⟨.refl s, fun z hz => ⟨z.ops, hz⟩⟩

theorem AsksOnly.trans (h : AsksOnly id s t) (k : AsksOnly id t u) : AsksOnly id s u := by
  refine ⟨h.packet.trans k.packet, fun z hz => ?_⟩
  obtain ⟨i, hi⟩ := h.ctx z hz
  exact k.ctx { z with ops := i } hi

theorem AsksOnly.laneAsk {o : LaneOp} (h : AsksOnly id s t) (ho : o.ctx = id) : AsksOnly id s (t.laneAsk o) := by
  refine h.trans ?_
  unfold State.laneAsk
  extract_lets a _
  have ha : CountsOnly t a := by
    unfold a
    split
    · exact .engineEvent (.refl t)
    · exact .refl t
  refine ⟨.updCtx (((PacketOnly.refl t).counts ha).trans rfl), fun z hz => ⟨z.ops + 1, ?_⟩⟩
  have haz : ({ a with pke := { a.pke with laneQ := a.pke.laneQ ++ [o] } } : State).ctx? o.ctx = some z := by
    rw [ho]
    change a.ctx? id = _
    rw [State.ctx?, ha.pke]
    exact hz
  rw [← ho]
  exact State.ctx?_updCtx_self haz fun _ hy => hy

theorem AsksOnly.ntsAsk {x : Ctx} (h : AsksOnly id s t) (hx : x.id = id) : AsksOnly id s (t.ntsAsk x) := by
  have hone : ∀ {c : Prop} [Decidable c] {u : State} {o : LaneOp}, AsksOnly id s u → o.ctx = id → AsksOnly id s (if c then u.laneAsk o else u) :=
    fun {c} _ {u o} hu ho => by
      split
      · exact hu.laneAsk ho
      · exact hu
  refine List.foldlRecOn (motive := fun u : State => AsksOnly id s u) _ _ (hone (hone h hx) hx) fun u hu _ _ => hu.laneAsk hx

end

/-- Cookies take free values only. -/
theorem State.makeCookies_eq (s : State) (p : Nat) (keys : List Byte) (n : Nat) : ∃ k, (s.makeCookies p keys n).1 = { s with free := k } := by
  induction n generalizing s with
  | zero => exact ⟨s.free, rfl⟩
  | succ n ih => exact ih s.useFree

/-- What the instants of a request are judged by is no register of the counters. -/
theorem CountsOnly.leapSpan {s t : State} (h : CountsOnly s t) (r : StampRec) (off : Nat) : t.leapSpan r off = s.leapSpan r off := by
  have hhrt : t.hrt = s.hrt := by rw [h.parts]
  unfold State.leapSpan State.recTime State.pairOf
  rw [h.get (by decide) (by decide), h.bit (by decide) (by decide), hhrt]

theorem State.sketchChecked_counts (s : State) (x : Ctx) (plan : Except Nat Ctx) : CountsOnly s (s.sketchChecked x plan) := by
  cases plan with
  | ok y => exact .ite (.refl s) (.clusterEvent (.refl s))
  | error r => exact .ite (.clusterEvent (.refl s)) (.refl s)

/-! Requests. -/

/-- The context with the request that its frame carries. -/
def Ctx.asRequest (x : Ctx) : Ctx := { x with req := payloadOf x.frame, dest := replyHead x.frame (portMac x.port) }

/-- The state in which a request's cookies are made and its context waits for its reservation. -/
def State.requestPlanned (s : State) (id : Nat) (y : Ctx) : State :=
  let f := if y.kind = 1 ∨ y.kind = 3 then s.makeCookies y.pos y.key y.cookies else (s, [])
  let z := { y with fresh := f.2, t0 := y.recd.raw + y.off * nsCrumbs, len := y.frame.length + 4 }
  let a := f.1.updCtx id (fun _ => z)
  ({ a with nts := { a.nts with drbg := a.nts.drbg + 1 } } : State).ntsAsk z

/-- What becomes of a request under a plan. -/
def State.byPlan (s : State) (id : Nat) (plan : Except Nat Ctx) : State :=
  match plan with
  | .error r => s.abandon id (some (F.NTS_SPEC.CNT r))
  | .ok y => if s.leapSpan y.recd y.off then s.abandon id (some (F.NTS_SPEC.CNT 10)) else s.requestPlanned id y

theorem exec_ntsRequest {s : State} {id : Nat} {x : Ctx} (hx : s.ctx? id = some x) (hsvc : x.service = 1) (hkind : x.kind = 0) :
    exec (.ntsRequest id) s =
      .next ((s.sketchChecked x.asRequest (s.requestPlan x.asRequest)).byPlan id (s.requestPlan x.asRequest)) := by
  change Host.Outcome.next (match s.ctx? id with | none => s | some x => _) = _
  rw [hx]
  exact next_when (by rw [hsvc, hkind]; rfl) _

/-- A planned request waits with its target instant, length and effects. -/
theorem State.requestPlanned_waits {s : State} {id : Nat} {y x : Ctx} (hx : s.ctx? id = some x) (hy : y.id = id) :
    ∃ z, (s.requestPlanned id y).ctx? id = some z ∧ z.kind = y.kind ∧ z.t0 = y.recd.raw + y.off * nsCrumbs ∧ z.len = y.frame.length + 4 ∧
      z.effs = y.effs ∧ z.port = y.port ∧ (s.requestPlanned id y).nts.drbg = s.nts.drbg + 1 := by
  let f := if y.kind = 1 ∨ y.kind = 3 then s.makeCookies y.pos y.key y.cookies else (s, [])
  have hf : ∃ k, f.1 = { s with free := k } := by
    unfold f
    split
    · exact s.makeCookies_eq _ _ _
    · exact ⟨s.free, rfl⟩
  let z := { y with fresh := f.2, t0 := y.recd.raw + y.off * nsCrumbs, len := y.frame.length + 4 }
  let a := f.1.updCtx id (fun _ => z)
  let b : State := { a with nts := { a.nts with drbg := a.nts.drbg + 1 } }
  obtain ⟨k, hk⟩ := hf
  have hctx : f.1.ctx? id = some x := by rw [hk]; exact hx
  have hdrbg : b.nts.drbg = s.nts.drbg + 1 := by
    show f.1.nts.drbg + 1 = _
    rw [hk]
  have hb : b.ctx? id = some z := State.ctx?_updCtx_self (f := fun _ => z) hctx fun _ _ => hy
  have hasks : AsksOnly id b (b.ntsAsk z) := (AsksOnly.refl b).ntsAsk hy
  obtain ⟨j, hj⟩ := hasks.ctx z hb
  refine ⟨{ z with ops := j }, hj, rfl, rfl, rfl, rfl, rfl, ?_⟩
  change (b.ntsAsk z).nts.drbg = _
  rw [hasks.packet.nts, hdrbg]

theorem State.request_abandoned {s : State} {id r : Nat} {x : Ctx} (hx : s.ctx? id = some x) (hsvc : x.service = 1) (hkind : x.kind = 0)
    (hplan : s.requestPlan x.asRequest = .error r) :
    ∃ t, exec (.ntsRequest id) s = .next t ∧ t.ctx? id = none ∧ t.get (F.NTS_SPEC.CNT r) = (s.get (F.NTS_SPEC.CNT r) + 1) % 2 ^ 32 ∧
      t.nts = s.nts ∧ MemorySame s t := by
  let a := s.sketchChecked x.asRequest (.error r)
  have ha : CountsOnly s a := s.sketchChecked_counts _ _
  have hr : r < 16 := by
    have hof := s.requestPlan_of x.asRequest
    rwa [hplan] at hof
  have hpacket : PacketOnly s (a.abandon id (some (F.NTS_SPEC.CNT r))) := ((PacketOnly.refl s).counts ha).abandon
  have hblk : (F.NTS_SPEC.CNT r).blk = 0xC := by apply Fld.blk_eq; omega
  refine ⟨a.abandon id (some (F.NTS_SPEC.CNT r)), ?_, a.ctx?_abandon id, ?_, hpacket.nts, hpacket.memorySame⟩
  · rw [exec_ntsRequest hx hsvc hkind, hplan]
    rfl
  · rw [State.abandon_some, State.get_bump_self, (a.abandon_none id).2 _ (by rw [hblk]; decide), ha.get (by rw [hblk]; decide) (by rw [hblk]; decide)]
    rfl

theorem State.request_waits {s : State} {id : Nat} {x y : Ctx} (hx : s.ctx? id = some x) (hsvc : x.service = 1) (hkind : x.kind = 0)
    (hplan : s.requestPlan x.asRequest = .ok y) (hleap : s.leapSpan y.recd y.off = false) :
    ∃ t z, exec (.ntsRequest id) s = .next t ∧ t.ctx? id = some z ∧ z.kind = y.kind ∧ z.t0 = y.recd.raw + y.off * nsCrumbs ∧
      z.len = y.frame.length + 4 ∧ z.effs = y.effs ∧ z.port = y.port ∧ t.nts.drbg = s.nts.drbg + 1 ∧ MemorySame s t := by
  let a := s.sketchChecked x.asRequest (.ok y)
  have ha : CountsOnly s a := s.sketchChecked_counts _ _
  have hid : x.id = id := by simpa using List.find?_some hx
  have hy : y.id = id := by
    have hof := s.requestPlan_of x.asRequest
    rw [hplan] at hof
    exact Eq.trans hof hid
  have hctx : a.ctx? id = some x := by
    rw [State.ctx?, ha.pke]
    exact hx
  have hexec : exec (.ntsRequest id) s = .next (a.requestPlanned id y) := by
    rw [exec_ntsRequest hx hsvc hkind, hplan]
    change Host.Outcome.next (if a.leapSpan y.recd y.off = true then _ else _) = _
    rw [ha.leapSpan, hleap, if_neg (show ¬ false = true by decide)]
  obtain ⟨z, hz, hk, ht, hl, he, hp, hd⟩ := State.requestPlanned_waits hctx hy
  refine ⟨_, z, hexec, hz, hk, ht, hl, he, hp, by rw [hd, ha.nts], ?_⟩
  have hruns := Runs.ntsRequest (w := .all) (id := id) (Keeps.refl s)
  rw [hexec] at hruns
  exact hruns.memorySame

/-! MG0. -/

/-- The context of a request on MG0. -/
def State.mgCtx (s : State) (frame : List Byte) : Ctx :=
  { id := 0, service := 1, frame := frame, recd := s.pke.mgRec, req := payloadOf frame, dest := replyHead frame (portMac 4), port := 4 }

theorem exec_mg0NtpRequest {s : State} (frame : List Byte) (hn : s.bit F.PRT_MG_CTRL.NTP = true) (hc : s.canSend 4 = true) :
    exec (.mg0NtpRequest frame) s =
      .next (match s.requestPlan (s.mgCtx frame) with | .error r => s.bump (F.NTS_SPEC.CNT r) | .ok y => s.mgReply y) :=
  next_when (by rw [hn, hc]; rfl) _

/-- A plain request is answered at once, once its effects are applied. -/
theorem State.mgReply_plain {s : State} {y : Ctx} (hkind : y.kind = 4) (heff : y.effs.all s.effOk = true) {e t3 : Nat}
    (he : e = errbSum [if (s.isle 5).lost then unbounded else (s.isle 5).errb, 5000000])
    (ht : t3 = ((s.islePair 5 (s.replica 5)).bind (fun p => p.dtime (s.replica 5))).getD 0) (hu : s.bit F.NTS_CFG.UNSYNC = true ∨ s.leapInd e t3
      ≠ 3) :
    s.mgReply y = (y.effs.foldl State.applyEff s).emit
      (.frame 4 (sealFrame y.dest ((y.effs.foldl State.applyEff s).ntpBody { y with fresh := [] } e t3))) := by
  have hplain : ¬ (y.kind = 1 ∨ y.kind = 3) := by omega
  subst he ht
  unfold State.mgReply
  extract_lets e now t3 spec f a z body r
  rw [if_neg (fun h => hu.elim (fun hu => Bool.false_ne_true (h.1.symm.trans hu)) fun hl => hl h.2), if_neg (fun h => by omega), heff,
    if_neg (show ¬ (!true) = true by decide)]
  have hf : f = (s, []) := if_neg hplain
  have hr : r = (a, body) := if_neg hplain
  have ha : a = y.effs.foldl State.applyEff s := by unfold a; rw [hf]
  have hz : z = { y with fresh := [] } := by unfold z; rw [hf]
  have hb : body = (y.effs.foldl State.applyEff s).ntpBody { y with fresh := [] } e t3 := by unfold body; rw [ha, hz]
  rw [hr, ha, hb, State.sendOn, if_pos rfl]

/-- Settles O36, from the plan of a request and what the lanes are asked. -/
theorem ntsService : Obligations.NtsService := by
  refine ⟨fun s id x y hx hsvc hkind hplan hleap => State.request_waits hx hsvc hkind hplan hleap,
    fun s id r x hx hsvc hkind hplan => State.request_abandoned hx hsvc hkind hplan, ?_, fun s frame r hn hc hplan => ?_⟩
  · intro s frame y hon hn hc e t3 hplan hkind hu heff
    have hexec := exec_mg0NtpRequest frame hn hc
    have hplan' : s.requestPlan (s.mgCtx frame) = .ok y := hplan
    rw [hplan'] at hexec
    replace hexec : exec (.mg0NtpRequest frame) s = .next (s.mgReply y) := hexec
    rw [State.mgReply_plain hkind heff rfl rfl hu] at hexec
    have happly : Keeps .all s (y.effs.foldl State.applyEff s) := .foldl (.refl s) fun _ _ h => .applyEff h
    have hsupply : (y.effs.foldl State.applyEff s).supply.on = true := by
      rw [happly.supply rfl]
      exact hon
    refine ⟨_, hexec, ?_, (Keeps.emit happly).memorySame⟩
    unfold State.emit
    rw [if_pos hsupply]
    exact List.mem_append_right _ (List.mem_singleton_self _)
  · have hplan' : s.requestPlan (s.mgCtx frame) = .error r := hplan
    refine ⟨s.bump (F.NTS_SPEC.CNT r), ?_, State.get_bump_self s _ _, .set (.refl _ s) (by simp), rfl⟩
    rw [exec_mg0NtpRequest frame hn hc, hplan']

end Sys2Proof.Machine

/-! PROOF. The switch of a rotation, and where a position shows its state (R380, R381). -/

namespace Sys2Proof.Machine

/-- A position that enters the state of the one in force shows it. -/
theorem State.get_setPosQuiet_current {s : State} {p : Nat} (gen : Nat) (hp : p < s.nts.pos.length)
    (hcur : (F.NTS_KPOS.STATE p).key ≠ F.NTS_STAT.CUR.key) : (s.setPosQuiet p 1 gen).get (F.NTS_KPOS.STATE p) = 1 := by
  let t : State := { s with nts := { s.nts with pos := modAt s.nts.pos p (fun _ => ⟨1, gen, s.dsec⟩) } }
  have hstate : (t.npos p).state = 1 := congrArg PosRec.state (getD_modAt_self (l := s.nts.pos) _ _ hp)
  have hgen : (F.NTS_KPOS.STATE p).key ≠ (F.NTS_KPOS.GEN p).key := by apply Fld.key_ne; omega
  change ((t.showPos p).set F.NTS_STAT.CUR p).get (F.NTS_KPOS.STATE p) = 1
  rw [State.get_set_ne _ _ hcur, State.showPos, State.get_set_ne _ _ hgen, State.get_set_self, hstate]
  rfl

/-- The switch of a rotation shows the new position, wherever its number puts its registers. -/
theorem State.get_rotSwitch {s : State} {r : Rotation} (t : Nat) (hnone : s.currentPos = none) (hp : r.pos < s.nts.pos.length)
    (hblk : (F.NTS_KPOS.STATE r.pos).blk ∉ [0xC, 0x11]) : (s.rotSwitch r t).get (F.NTS_KPOS.STATE r.pos) = 1 := by
  have hkey : ∀ f : Fld, f.blk = 0xC → (F.NTS_KPOS.STATE r.pos).key ≠ f.key := fun f hf hk =>
    hblk (by rw [Fld.blk_of_key hk, hf]; decide)
  let b := s.setPosQuiet r.pos 1 r.gen
  let c : State := { b with nts := { b.nts with rot := none, retire := none } }
  have hswitch : s.rotSwitch r t = ((c.set F.NTS_STAT.ROTBUSY 0).set F.NTS_ROTCTRL.ROTATE 0).storePositions.ntsFlag F.NTS_STAT.ROTATED r.pos := by
    unfold State.rotSwitch
    rw [hnone]
    rfl
  calc (s.rotSwitch r t).get (F.NTS_KPOS.STATE r.pos)
      = ((c.set F.NTS_STAT.ROTBUSY 0).set F.NTS_ROTCTRL.ROTATE 0).get (F.NTS_KPOS.STATE r.pos) := by
        rw [hswitch]
        exact State.flag_get_ne _ _ _ (by decide) (fun hb => hblk (by rw [hb]; decide)) (hkey _ rfl)
    _ = (c.set F.NTS_STAT.ROTBUSY 0).get (F.NTS_KPOS.STATE r.pos) := State.get_set_ne _ 0 (hkey F.NTS_ROTCTRL.ROTATE rfl)
    _ = c.get (F.NTS_KPOS.STATE r.pos) := State.get_set_ne c 0 (hkey F.NTS_STAT.ROTBUSY rfl)
    _ = 1 := State.get_setPosQuiet_current r.gen hp (hkey _ rfl)

theorem exec_rotationSwitch {s : State} {r : Rotation} {t0 : Nat} (hrot : s.nts.rot = some r) (hs : r.switch = some t0) (ht : t0 ≤ s.raw)
    (hkeys : s.pair.keys = []) : exec .rotationSwitch s = .next (s.rotSwitch r t0) := by
  have happly : s.applyKeys = s := by
    unfold State.applyKeys
    rw [hkeys]
    rfl
  change Host.Outcome.next (match s.nts.rot with | none => s.applyKeys | some r => match r.switch with
    | none => s.applyKeys | some t => s.applyKeys.when (decide (t ≤ s.raw)) (·.rotSwitch r t)) = _
  rw [hrot]
  dsimp only
  rw [hs, happly]
  exact next_when (decide_eq_true ht) _

/-- A rotation to a position far beyond the four. -/
def farPosition : Rotation := { pos := 262136, gen := 1, switch := some 0 }

/-- A state whose list of positions is longer than four, with a rotation to one beyond them. -/
def farRotation : State := { State.reset with nts := { State.reset.nts with pos := List.replicate 262144 {}, rot := some farPosition } }

theorem farRotation_npos (p : Nat) : farRotation.npos p = {} := by
  change (List.replicate 262144 ({} : PosRec)).getD p {} = {}
  rw [List.getD_eq_getElem?_getD, List.getElem?_replicate]
  split <;> rfl

theorem farRotation_currentPos : farRotation.currentPos = none := by
  refine List.find?_eq_none.mpr fun p _ => ?_
  rw [farRotation_npos]
  decide

/-- Refutes O37: the switch takes the position's number from the list of positions, which nothing in the statement holds to four; the registers of
position 262,136 lie in another block than the NTS service's, and the switch shows the position there. -/
theorem not_ntsKeysAndKe : ¬ Obligations.NtsKeysAndKe := by
  intro h
  obtain ⟨⟨-, -, -, -, hswitch, -⟩, -⟩ := h
  have hlen : farPosition.pos < farRotation.nts.pos.length := by
    rw [show farRotation.nts.pos = List.replicate 262144 {} from rfl, List.length_replicate]
    decide
  have hblk : (F.NTS_KPOS.STATE farPosition.pos).blk ∉ [0xC, 0x11] := by decide
  have hnone : farRotation.currentPos ≠ some farPosition.pos := by
    rw [farRotation_currentPos]
    exact Option.some_ne_none _ ∘ Eq.symm
  have hkeys : farRotation.pair.keys = [] := rfl
  obtain ⟨t, hexec, -, -, -, -, -, -, -, -, hregs, -⟩ :=
    hswitch farRotation farPosition 0 rfl rfl (Nat.zero_le _) hlen hnone (by rw [hkeys]; exact fun k hk => absurd hk List.not_mem_nil)
  have hrun := exec_rotationSwitch (s := farRotation) (r := farPosition) (t0 := 0) rfl rfl (Nat.zero_le _) hkeys
  have ht := Host.Outcome.next.inj (hrun.symm.trans hexec)
  have hzero : farRotation.get (F.NTS_KPOS.STATE farPosition.pos) = 0 := by decide
  have hone := State.get_rotSwitch 0 farRotation_currentPos hlen hblk
  rw [ht, hregs _ hblk, hzero] at hone
  exact Nat.zero_ne_one hone

end Sys2Proof.Machine

/-! PROOF. What a request for grants draws from the free values (R408, R527): one for its durations, and one more where the vault's operation is
counted against an engine that samples. -/

namespace Sys2Proof.Machine

/-- Peer 0 is on at port 0 under an association, and engine 0 samples the next operation of the vault's lanes that it asks for. -/
def samplingPeer : State :=
  let s := State.reset.sets [(F.PEER_CFG.EN 0, 1), (F.PEER_CFG.SPP 0, 1), (F.PTP_PCFG.EN 0, 1), (F.PRT_STAT.LINK 0, 1), (F.PRT_CTRL.ADMIN 0, 1),
    (F.PTP_SA_0.VALID 0, 1), (F.PTP_SA_0.TX 0, 1), (F.PTP_SA_0.SPP 0, 1), (F.PMU_ECTL.EVT 0 0, 8), (F.PMU_ECTL.EN 0 0, 1),
    (F.PMU_ECTL.SMP 0 0, 1), (F.PMU_ECNT.COUNT 0 0, 0xFFFFFFFF)]
  { s with pke := { s.pke with ctxs := [{ id := 0, engine := 0 }] } }

/-- The state in which the request for grants has been built. -/
def samplingPeer.asked : State := match execGrantRequestSend 0 samplingPeer with | .next t => t | _ => samplingPeer

theorem samplingPeer_draws : samplingPeer.free = 0 ∧ samplingPeer.asked.free = 2 := by decide

theorem samplingPeer_asks : exec (.grantRequestSend 0) samplingPeer = .next samplingPeer.asked := rfl

/-- Refutes O38: its last clause has a request for grants draw one free value, but where the number that its context takes is already held by one
    of an
engine that samples its lane operations, the sample draws another. -/
theorem not_ptpMessages : ¬ Obligations.PtpMessages := by
  rintro ⟨-, -, -, -, -, -, -, hgrant⟩
  obtain ⟨t, hexec, -, -, hfree, -⟩ := hgrant samplingPeer 0 (by decide) (by decide) (by decide)
  have ht := Host.Outcome.next.inj (samplingPeer_asks.symm.trans hexec)
  rw [← ht] at hfree
  obtain ⟨hbefore, hafter⟩ := samplingPeer_draws
  rw [hbefore, hafter] at hfree
  exact absurd hfree (by decide)

end Sys2Proof.Machine

/-! PROOF. A peer out of reach may end the presence of its ensemble's channel, which is an event of each output aligned to the channel, whatever the
register says that names the output's unit (R157, R479). -/

namespace Sys2Proof.Machine

/-- The register of OUT_CFG.SYN of output 0, read past the field's two bits. -/
def wideSyn : Fld := ⟨0, 0x800004, 2, 32, 0⟩

/-- Peer 1 is reachable and long silent; channel 0 is its ensemble's and present, and output 0 is aligned to it. The occurrence that the loss of
alignment counts is numbered 22 and the value of OUT_CFG.SYN: its counter lies in the place of PEER_STAT of peer 1. -/
def silentPeer : State :=
  let l := [(F.PEER_STAT.REACH 1, 1), (F.REF_STAT.KIND 0, 9), (F.REF_STAT.PRESENT 0, 1), (F.OUT_ALCFG.MODE 0, 1), (wideSyn, 0xF7FF72)]
  ({ State.reset with raw := 10000000000 } : State).sets l

/-- No peer is enabled. -/
theorem silentPeer_reachable (g : Nat) : (silentPeer.losePeer 1).reachable g = [] := by
  have hoff (k : Nat) : silentPeer.get (F.PEER_CFG.EN k) = 0 := by
    refine (State.get_sets_ne _ _ ?_).trans ?_
    · refine List.forall_iff_forall_mem.mp ⟨?_, ?_, ?_, ?_, ?_⟩ <;> (apply Fld.key_ne; omega)
    · simp only [State.get, State.reset, storeGet, Fld.key, F.PEER_CFG.EN, F.GLB_STRAP.HOME, F.GLB_STRAP.FSTART_N, F.GLB_STRAP.BANK_SEL]
      rw [if_neg (by omega), if_neg (by omega), if_neg (by omega)]
      rfl
  refine List.filter_eq_nil_iff.mpr fun k _ => ?_
  have hlost : (silentPeer.losePeer 1).get (F.PEER_CFG.EN k) = 0 := by
    have hset : (silentPeer.set (F.PEER_STAT.REACH 1) 0).get (F.PEER_CFG.EN k) = 0 := (State.get_set_ne _ _ (by apply Fld.key_ne; omega)).trans
      (hoff k)
    unfold State.losePeer
    split
    · exact (State.flag_get_ne _ _ _ (by decide) (by apply Fld.blk_ne; omega) (by apply Fld.key_ne; omega)).trans hset
    · exact hoff k
  rw [State.bit, hlost]
  exact Bool.false_ne_true

/-- The state in which the peer has been lost, and the ensemble's channel with it. -/
def silentPeer.lost : State := ((silentPeer.losePeer 1).set (F.REF_STAT.LABELLED 0) 0).losePresence 0

theorem silentPeer_reach : silentPeer.lost.bit (F.PEER_STAT.REACH 1) = true := by decide +kernel

theorem silentPeer_times_out : exec (.peerReachTimeout 1) silentPeer = .next silentPeer.lost := by
  change execPeerReachTimeout 1 silentPeer = _
  rw [execPeerReachTimeout, onUnit_lt (by decide)]
  refine (next_when (by decide) _).trans (congrArg Host.Outcome.next ?_)
  have hch : (silentPeer.losePeer 1).ensChannel (silentPeer.get (F.PEER_CFG.GROUP 1)) = some 0 := by decide
  unfold State.reviewEns
  rw [hch, silentPeer_reachable]
  rfl

/-- Refutes O39: its clause for a peer out of reach has REACH cleared, but no hypothesis keeps OUT_CFG.SYN within its two bits, and the event of the
alignment lost with the ensemble's channel, numbered 22 and SYN, is counted wherever that number leads. -/
theorem not_ptpClockGrantsAndPeers : ¬ Obligations.PtpClockGrantsAndPeers := by
  rintro ⟨-, -, -, -, -, -, hreach, -⟩
  obtain ⟨t, hexec, hclear, -⟩ := hreach silentPeer 1 (by decide) (by decide) (by decide)
  have ht := Host.Outcome.next.inj (silentPeer_times_out.symm.trans hexec)
  rw [← ht, silentPeer_reach] at hclear
  exact absurd hclear (by decide)

end Sys2Proof.Machine

/-! PROOF. The operations of the key vault (R427 to R434, R441, R445, R451). -/

namespace Sys2Proof.Machine

/-! What waking the SRAM leaves. -/

/-- Only the power domains and their registers have changed. -/
structure PowerOnly (s t : State) : Prop where
  parts : t = { s with regs := t.regs, pwr := t.pwr }
  regs : RegsOutside [3] s t

section
variable {s t u : State}

theorem PowerOnly.refl (s : State) : PowerOnly s s := ⟨rfl, .refl _ s⟩

theorem PowerOnly.trans (h : PowerOnly s t) (k : PowerOnly t u) : PowerOnly s u := by
  refine ⟨?_, h.regs.trans k.regs⟩
  have hu := k.parts
  rw [h.parts] at hu
  exact hu

theorem PowerOnly.ite {c : Prop} [Decidable c] (ht : PowerOnly s t) (hu : PowerOnly s u) : PowerOnly s (if c then t else u) := by
  split <;> assumption

theorem PowerOnly.set {f : Fld} {v : Nat} (h : PowerOnly s t) (hf : f.blk = 3) : PowerOnly s (t.set f v) :=
  h.trans ⟨rfl, .set (.refl _ t) (by simp [hf])⟩

theorem PowerOnly.updDom {d : Nat} {f : DomSt → DomSt} (h : PowerOnly s t) : PowerOnly s (t.updDom d f) := h.trans ⟨rfl, .of_regs (.refl _ t) rfl⟩

theorem PowerOnly.sets {l : List (Fld × Nat)} (h : PowerOnly s t) (hl : ∀ p ∈ l, p.1.blk = 3) : PowerOnly s (t.sets l) := by
  refine h.trans ⟨?_, .sets (.refl _ t) fun p hp => by simp [hl p hp]⟩
  obtain ⟨r, hr⟩ := State.sets_eq t l
  rw [hr]

theorem PowerOnly.recordWake {d src master : Nat} {during : Bool} (h : PowerOnly s t) (hd : d < 6) : PowerOnly s (t.recordWake d src master
    during) := by
  have hwake : ∀ p ∈ [(F.PWR_WAKE.WSRC d, src), (F.PWR_WAKE.WREQ d, master), (F.PWR_WAKE.DURING d, if during then 1 else 0),
      (F.PWR_WAKE.FROM d, t.get (F.PWR_DOM_STAT.STATE d)), (F.PWR_WAKET.TICK d, t.raw)], p.1.blk = 3 := by
    simp only [List.forall_mem_cons]
    refine ⟨?_, ?_, ?_, ?_, ?_, nofun⟩ <;> (apply Fld.blk_eq; omega)
  exact .updDom (.set (h.sets hwake) (by apply Fld.blk_eq; omega))

theorem PowerOnly.beginWake {d src master req : Nat} (h : PowerOnly s t) (hd : d < 6) : PowerOnly s (t.beginWake d src master req) := by
  have ha : PowerOnly s (t.set (F.PWR_DOM_CTRL.REQ d) req) := h.set (by apply Fld.blk_eq; omega)
  exact .ite (.updDom ha) (.ite (.ite ha (.recordWake ha hd)) h)

theorem PowerOnly.touchSram {m : Nat} (h : PowerOnly s t) : PowerOnly s (t.touchSram m) := .ite h (.beginWake h (by omega))

end

/-! A write of KVT_OP. -/

theorem putBits_low (d c : Nat) : putBits d 0 4 c = d / 16 * 16 + c % 16 := by
  unfold putBits bitsOf
  omega

/-- The fields of KVT_OP that a write sets. -/
def opFields (q : Nat) : List Fld :=
  [F.KVT_OP.CODE q, F.KVT_OP.TREE q, F.KVT_OP.CURVE q, F.KVT_OP.RAWPEER q, F.KVT_OP.SLOT q, F.KVT_OP.WSLOT q]

theorem opFields_reg {q : Nat} : ∀ x ∈ opFields q, x.ch = q ∧ x.off = 0xE00010 ∧ x.lo < 32 := by
  simp only [opFields, List.forall_mem_cons]
  refine ⟨?_, ?_, ?_, ?_, ?_, ?_, nofun⟩
  all_goals exact ⟨rfl, rfl, Nat.le_of_ble_eq_true rfl⟩

/-- The fields of the register stand at different bits. -/
theorem opFields_pairwise (q : Nat) : (opFields q).Pairwise (fun x y => x.key ≠ y.key) := by
  have hlo : (opFields q).Pairwise (fun x y => x.lo ≠ y.lo) := List.pairwise_map.mp (show [0, 4, 5, 6, 8, 16].Pairwise (· ≠ ·) by decide)
  refine hlo.imp_of_mem fun {x y} hx hy hne hk => hne ?_
  obtain ⟨hcx, hox, -⟩ := opFields_reg x hx
  obtain ⟨hcy, hoy, -⟩ := opFields_reg y hy
  unfold Fld.key at hk
  rw [hcx, hcy, hox, hoy] at hk
  omega

theorem opFields_blk {q : Nat} {x : Fld} (hx : x ∈ opFields q) : x.blk = 0xE := by
  obtain ⟨hch, hoff, hlo⟩ := opFields_reg x hx
  unfold Fld.blk Fld.key
  rw [hch, hoff]
  omega

/-- The state in which a write of KVT_OP starts an operation. -/
def State.opPrepared (s : State) (q data code : Nat) : State := (s.setKvtOp q (putBits data 0 4 code)).when (decide (2 < code)) (·.touchSram 9)

/-- What the operation finds. -/
structure OpBegun (s t : State) (q data code : Nat) : Prop where
  parts : t = { s with regs := t.regs, pwr := t.pwr }
  code : t.get (F.KVT_OP.CODE q) = code
  tree : t.bit (F.KVT_OP.TREE q) = data.testBit 4
  curve : t.get (F.KVT_OP.CURVE q) = bitsOf data 5 1
  slot : t.get (F.KVT_OP.SLOT q) = bitsOf data 8 8
  wslot : t.get (F.KVT_OP.WSLOT q) = bitsOf data 16 8
  same : ∀ f : Fld, f.blk = 0xE → (∀ g ∈ opFields q, f.key ≠ g.key) → t.get f = s.get f

theorem State.opBegun_of (s : State) (m q data : Nat) {code : Nat} (hc : code < 16) :
    OpBegun s ((s.set (F.XBR_TSTAT.OWNER 6) m).opPrepared q data code) q data code := by
  let a := s.set (F.XBR_TSTAT.OWNER 6) m
  have hwrite : a.setKvtOp q (putBits data 0 4 code) = a.sets ((opFields q).map fun x => (x, written (putBits data 0 4 code) x)) := rfl
  have htouch : PowerOnly (a.setKvtOp q (putBits data 0 4 code)) (a.opPrepared q data code) := .ite (.touchSram (.refl _)) (.refl _)
  have hget : ∀ x ∈ opFields q, (a.opPrepared q data code).get x = written (putBits data 0 4 code) x := fun x hx => by
    rw [htouch.regs x (by simp [opFields_blk hx]), hwrite]
    exact State.get_sets_written a _ (opFields_pairwise q) hx
  have hlow := putBits_low data code
  refine ⟨?_, ?_, ?_, ?_, ?_, ?_, fun f hf hne => ?_⟩
  · obtain ⟨r, hr⟩ := State.sets_eq a ((opFields q).map fun x => (x, written (putBits data 0 4 code) x))
    have hparts := htouch.parts
    rw [hwrite, hr] at hparts
    exact hparts
  · refine (hget (F.KVT_OP.CODE q) (by simp [opFields])).trans (show putBits data 0 4 code / 2 ^ 0 % 2 ^ 4 = code from ?_)
    omega
  · have htree : (a.opPrepared q data code).get (F.KVT_OP.TREE q) = putBits data 0 4 code / 2 ^ 4 % 2 ^ 1 := hget (F.KVT_OP.TREE q) (by simp
    [opFields])
    rw [State.bit, htree, Nat.testBit_eq_decide_div_mod_eq, show putBits data 0 4 code / 2 ^ 4 % 2 ^ 1 = data / 2 ^ 4 % 2 by omega]
    rcases Nat.mod_two_eq_zero_or_one (data / 2 ^ 4) with h | h <;> rw [h] <;> rfl
  · refine (hget (F.KVT_OP.CURVE q) (by simp [opFields])).trans (show putBits data 0 4 code / 2 ^ 5 % 2 ^ 1 = data / 2 ^ 5 % 2 ^ 1 from ?_)
    omega
  · refine (hget (F.KVT_OP.SLOT q) (by simp [opFields])).trans (show putBits data 0 4 code / 2 ^ 8 % 2 ^ 8 = data / 2 ^ 8 % 2 ^ 8 from ?_)
    omega
  · refine (hget (F.KVT_OP.WSLOT q) (by simp [opFields])).trans (show putBits data 0 4 code / 2 ^ 16 % 2 ^ 8 = data / 2 ^ 16 % 2 ^ 8 from ?_)
    omega
  · rw [htouch.regs f (by simp [hf]), hwrite]
    refine (State.get_sets_ne a _ fun p hp => ?_).trans (State.get_set_ne s m fun hk => ?_)
    · obtain ⟨x, hx, rfl⟩ := List.mem_map.mp hp
      exact hne x hx
    · exact absurd (hf.symm.trans (Fld.blk_of_key hk)) (by decide)

/-- A register of the block that a write of KVT_OP does not set is as before. -/
theorem OpBegun.get {s t : State} {q data code : Nat} (h : OpBegun s t q data code) {c o l w r : Nat} (ho : o ≠ 0xE00010) (hl : l < 32)
    (hblk : o / 0x100000 = 0xE) : t.get ⟨c, o, l, w, r⟩ = s.get ⟨c, o, l, w, r⟩ := by
  refine h.same _ (by apply Fld.blk_eq; omega) fun g hg => ?_
  obtain ⟨hch, hoff, hlo⟩ := opFields_reg g hg
  unfold Fld.key
  rw [hch, hoff]
  dsimp only
  omega

section
variable {s t : State} {q data code : Nat} (h : OpBegun s t q data code)
include h

theorem OpBegun.pfail : t.bit F.KVT_STAT.PFAIL = s.bit F.KVT_STAT.PFAIL :=
  State.bit_eq_of_get (h.get (o := 0xE00000) (by decide) (by decide) (by decide))

theorem OpBegun.dbg : t.bit F.KVT_STAT.DBG = s.bit F.KVT_STAT.DBG :=
  State.bit_eq_of_get (h.get (o := 0xE00000) (by decide) (by decide) (by decide))

theorem OpBegun.addr : t.get (F.KVT_OPADDR.ADDR q) = s.get (F.KVT_OPADDR.ADDR q) := h.get (by omega) (by omega) (by omega)

theorem OpBegun.kvt : t.kvt = s.kvt := by rw [h.parts]
theorem OpBegun.nv : t.nv = s.nv := by rw [h.parts]
theorem OpBegun.sram : t.sram = s.sram := by rw [h.parts]
theorem OpBegun.flash : t.flash = s.flash := by rw [h.parts]
theorem OpBegun.free : t.free = s.free := by rw [h.parts]

end

/-- The 12-byte context is as before. -/
theorem OpBegun.opCtx {s t : State} {q data code : Nat} (h : OpBegun s t q data code) : t.opCtx q = s.opCtx q := by
  refine List.flatMap_congr fun n hn => congrArg (leBytes 4) ?_
  have hlt : n < 3 := by
    simp only [List.mem_cons, List.not_mem_nil, or_false] at hn
    omega
  exact h.get (by omega) (by omega) (by omega)

/-! The operations. -/

theorem State.kvtStart_of {s : State} {req : Requester} (hr : s.Reaches req 0xE00010) (hstart : s.bit (F.KVT_OP.START req.idx) = false)
    (data code : Nat) :
    s.atFabric req 0xE00010 (fun s => s.kvtStart req data code) =
      (let t := (s.set (F.XBR_TSTAT.OWNER 6) req.master).opPrepared req.idx data code
       if code = 1 ∨ code = 2 ∨ code = 3 ∨ code = 5 then t.startUpdate req.idx
       else if code = 4 then t.runExport req.idx else if code = 6 then t.runSign req.idx else t.runPubkey req.idx) := by
  rw [State.atFabric_of_reaches hr, State.kvtStart, State.bit_set_ne s _ (by apply Fld.key_ne; omega), hstart]
  exact if_neg Bool.false_ne_true

theorem RegsOnly.set {s t : State} {f : Fld} {v : Nat} (h : RegsOnly s t) : RegsOnly s (t.set f v) := by
  unfold RegsOnly at h ⊢
  rw [h]
  rfl

/-- Showing the queue changes registers only, and no requester's START. -/
theorem State.showQueue_regsOnly (s : State) : RegsOnly s s.showQueue := by
  unfold State.showQueue
  refine RegsOnly.set (List.foldlRecOn (motive := fun u : State => RegsOnly s u) _ _ rfl fun u hu p _ => ?_)
  split
  · exact .set (.set hu)
  · exact hu

theorem State.get_start_showQueue (s : State) (q : Nat) : s.showQueue.get (F.KVT_OP.START q) = s.get (F.KVT_OP.START q) := by
  unfold State.showQueue
  extract_lets hold
  refine (State.get_set_ne _ _ (by apply Fld.key_ne; omega)).trans
    (foldl_keeps (fun u : State => u.get (F.KVT_OP.START q)) (fun u p => ?_) _ s)
  split
  · exact (State.get_set_ne _ _ (by apply Fld.key_ne; omega)).trans (State.get_set_ne _ _ (by apply Fld.key_ne; omega))
  · rfl

/-- An operation ends with its result. -/
theorem State.opEnd_shows (s : State) (q : Nat) {r : Nat} (hr : r < 16) :
    (s.opEnd q r false).get (F.KVT_OPSTAT.RESULT q) = r ∧ (s.opEnd q r false).bit (F.KVT_OP.START q) = false ∧ RegsOnly s (s.opEnd q r false) := by
  let a := (s.set (F.KVT_OPSTAT.RESULT q) r).setBit (F.KVT_OPSTAT.STALE q) false
  have hend : s.opEnd q r false = ((a.set (F.KVT_OP.START q) 0).set (F.KVT_OPSTAT.WAIT q) 0).set (F.KVT_OPSTAT.QUEUE q) 0 := rfl
  refine ⟨?_, ?_, rfl⟩
  · rw [hend, State.get_set_ne _ _ (by apply Fld.key_ne; omega), State.get_set_ne _ _ (by apply Fld.key_ne; omega),
      State.get_set_ne _ _ (by apply Fld.key_ne; omega)]
    exact (State.get_set_ne _ _ (by apply Fld.key_ne; omega)).trans (State.get_set_of_lt s hr)
  · rw [hend, State.bit_set_ne _ _ (by apply Fld.key_ne; omega), State.bit_set_ne _ _ (by apply Fld.key_ne; omega)]
    exact State.bit_set a 0 rfl

/-- Bytes just stored in SRAM read back. -/
theorem State.sramRead_sramStore (s : State) (a : Nat) (b : List Byte) : (s.sramStore a b).sramRead a b.length = b := by
  refine List.ext_getElem (by simp [State.sramRead]) fun i hi _ => ?_
  have hlt : i < b.length := by simpa [State.sramRead] using hi
  simp only [State.sramRead, memGets_getElem]
  exact memGet_memSets_inside _ _ a i b hlt

theorem sliceB_length (l : List Byte) (off n : Nat) : (sliceB l off n).length = n := by
  simp only [sliceB, List.length_append, List.length_replicate, List.length_take]
  omega

theorem State.useSlot_sram (s : State) (n : Nat) : (s.useSlot n).sram = s.sram := rfl

/-- An operation that refuses its slot ends with the reason. -/
theorem State.op_refuses {s b : State} {q data code e : Nat} (hb : OpBegun s b q data code) (he : e < 16) {c : Instr}
    (hexec : exec c s = .next (b.opEnd q e false)) :
    ∃ t, exec c s = .next t ∧ t.get (F.KVT_OPSTAT.RESULT q) = e ∧ t.kvt = s.kvt ∧ MemorySame s t := by
  obtain ⟨hresult, -, honly⟩ := b.opEnd_shows q he
  exact ⟨_, hexec, hresult, (congrArg State.kvt honly).trans hb.kvt,
    .of_eq ((congrArg State.sram honly).trans hb.sram) ((congrArg State.flash honly).trans hb.flash)⟩

/-- An operation that stores bytes in SRAM ends with result 0. -/
theorem State.op_stores {s v u : State} {q a n : Nat} {bytes : List Byte} (hn : bytes.length = n) (hsram : u.sram = (v.sramStore a bytes).sram)
    {c : Instr}
    (hexec : exec c s = .next (u.opEnd q 0 false)) :
    ∃ t, exec c s = .next t ∧ t.get (F.KVT_OPSTAT.RESULT q) = 0 ∧ t.bit (F.KVT_OP.START q) = false ∧
      t.sramRead a n = bytes ∧ t.free = u.free ∧ t.nv = u.nv := by
  obtain ⟨hresult, hdone, honly⟩ := u.opEnd_shows q (r := 0) (by decide)
  refine ⟨_, hexec, hresult, hdone, ?_, by rw [honly], by rw [honly]⟩
  subst hn
  have hu : (u.opEnd q 0 false).sram = (v.sramStore a bytes).sram := (congrArg State.sram honly).trans hsram
  rw [State.sramRead, hu]
  exact v.sramRead_sramStore a bytes

section
variable {s : State} {req : Requester} {data : Nat} (hr : s.Reaches req 0xE00010) (hstart : s.bit (F.KVT_OP.START req.idx) = false)
include hr hstart

theorem State.update_waits (hpfail : s.bit F.KVT_STAT.PFAIL = false) (hlen : s.kvt.queue.length < 8) {c : Instr} {code : Nat} (hc : code < 16)
    (hcode : code = 1 ∨ code = 2 ∨ code = 3 ∨ code = 5) (hexec : exec c s = .next (s.atFabric req 0xE00010 (fun s => s.kvtStart req data code))) :
    ∃ t r, exec c s = .next t ∧ t.kvt.queue = s.kvt.queue ++ [r] ∧ r.by_ = req.idx ∧ r.code = code ∧ r.slot = bitsOf data 8 8 ∧
        r.wslot = bitsOf data 16 8 ∧ r.tree = data.testBit 4 ∧ r.ctx = s.opCtx req.idx ∧ t.bit (F.KVT_OP.START req.idx) = true ∧
        t.nv = s.nv ∧ t.kvt.slots = s.kvt.slots ∧ MemorySame s t := by
  let b := (s.set (F.XBR_TSTAT.OWNER 6) req.master).opPrepared req.idx data code
  have hb : OpBegun s b req.idx data code := s.opBegun_of req.master req.idx data hc
  let e := (b.set (F.KVT_OP.START req.idx) 1).enqueue (b.opReq req.idx)
  have hkvt : e.kvt = { s.kvt with queue := s.kvt.queue ++ [b.opReq req.idx] } := by
    change { b.kvt with queue := b.kvt.queue ++ [b.opReq req.idx] } = _
    rw [hb.kvt]
  have hrun : b.startUpdate req.idx = e.showQueue := by
    rw [State.startUpdate, hb.pfail, hpfail, hb.kvt, if_neg Bool.false_ne_true,
      if_neg (by omega)]
  have hshow := e.showQueue_regsOnly
  refine ⟨e.showQueue, b.opReq req.idx, ?_, ?_, rfl, hb.code, hb.slot, hb.wslot, hb.tree, hb.opCtx, ?_,
    (congrArg State.nv hshow).trans hb.nv, ?_, .of_eq ((congrArg State.sram hshow).trans hb.sram) ((congrArg State.flash hshow).trans hb.flash)⟩
  · rw [hexec, State.kvtStart_of hr hstart]
    exact congrArg Host.Outcome.next ((if_pos hcode).trans hrun)
  · rw [hshow, hkvt]
  · rw [State.bit, State.get_start_showQueue]
    exact State.bit_set b 1 rfl
  · rw [hshow, hkvt]

theorem State.update_refused (hfull : s.bit F.KVT_STAT.PFAIL = true ∨ 8 ≤ s.kvt.queue.length) :
    ∃ t, exec (.kvtDerive req data) s = .next t ∧ t.kvt = s.kvt ∧ t.bit (F.KVT_OP.START req.idx) = false ∧
      t.get (F.KVT_OPSTAT.RESULT req.idx) = (if s.bit F.KVT_STAT.PFAIL then 9 else 1) := by
  let b := (s.set (F.XBR_TSTAT.OWNER 6) req.master).opPrepared req.idx data 1
  have hb : OpBegun s b req.idx data 1 := s.opBegun_of req.master req.idx data (by decide)
  have hrun : b.startUpdate req.idx = b.opEnd req.idx (if s.bit F.KVT_STAT.PFAIL then 9 else 1) false := by
    rw [State.startUpdate, hb.pfail, hb.kvt]
    split
    · rfl
    · next hp => exact if_pos (hfull.resolve_left hp)
  obtain ⟨hresult, hdone, honly⟩ := b.opEnd_shows req.idx (r := if s.bit F.KVT_STAT.PFAIL then 9 else 1) (by split <;> decide)
  refine ⟨_, ?_, (congrArg State.kvt honly).trans hb.kvt, hdone, hresult⟩
  refine congrArg Host.Outcome.next ((State.kvtStart_of hr hstart data 1).trans ?_)
  exact hrun

end

/-- The reasons that a slot refuses for. -/
theorem State.slotRefuses_lt (s : State) (n : Nat) (uses : List Nat) : s.slotRefuses n uses < 16 := by
  unfold State.slotRefuses
  extract_lets x
  split
  · omega
  · split
    · omega
    · split
      · omega
      · split <;> omega

section
variable {s b : State} {q data : Nat} {c : Instr}

theorem State.exports (hb : OpBegun s b q data 4) (hexec' : exec c s = .next (b.runExport q)) (hdbg : s.bit F.KVT_STAT.DBG = false) (hslot : 2 ≤
    bitsOf data 8 8) (hready : s.slotRefuses (bitsOf data 8 8) [0, 1, 3] = 0)
    (huse : (s.slot (bitsOf data 16 8)).use = 2) (hstate : (s.slot (bitsOf data 16 8)).state = 2) (hcert : (s.slot (bitsOf data 16 8)).cert = true) :
    ∃ t, exec c s = .next t ∧ t.get (F.KVT_OPSTAT.RESULT q) = 0 ∧ t.bit (F.KVT_OP.START q) = false ∧
      t.sramRead (s.get (F.KVT_OPADDR.ADDR q) * 64) 72 =
        sliceB (Config.keyWrap ((s.slot (bitsOf data 16 8)).key.take 32) (s.slot (bitsOf data 8 8)).key) 0 72 ∧ t.nv = s.nv := by
  let bytes := sliceB (Config.keyWrap ((s.slot (bitsOf data 16 8)).key.take 32) (s.slot (bitsOf data 8 8)).key) 0 72
  let a := s.get (F.KVT_OPADDR.ADDR q) * 64
  have hslots : ∀ n, b.slot n = s.slot n := fun n => by rw [State.slot, hb.kvt, State.slot]
  have hdef : (s.slot (bitsOf data 8 8)).state ≠ 0 := fun h0 => by
    rw [State.slotRefuses, h0] at hready
    exact absurd hready (Nat.succ_ne_zero 1)
  have hrefuses : b.slotRefuses (bitsOf data 8 8) [0, 1, 3] = 0 := by rw [State.slotRefuses, hslots, ← State.slotRefuses, hready]
  have hrun : b.runExport q = (((b.sramStore a bytes).useSlot (bitsOf data 8 8)).useSlot (bitsOf data 16 8)).opEnd q 0 false := by
    unfold State.runExport
    extract_lets r x w e
    have hrslot : r.slot = bitsOf data 8 8 := hb.slot
    have hrwslot : r.wslot = bitsOf data 16 8 := hb.wslot
    have haddr : r.addr = a := congrArg (· * 64) hb.addr
    have hx : x = s.slot (bitsOf data 8 8) := (congrArg b.slot hrslot).trans (hslots _)
    have hw : w = s.slot (bitsOf data 16 8) := (congrArg b.slot hrwslot).trans (hslots _)
    have he : e = 0 := (congrArg (b.slotRefuses · [0, 1, 3]) hrslot).trans hrefuses
    rw [hb.dbg, hdbg, he, hx, hw, hrslot, hrwslot, haddr, huse, hstate, hcert, if_neg Bool.false_ne_true, if_neg hdef, if_neg (by omega)]
    rfl
  rw [hrun] at hexec'
  obtain ⟨t, hexec, hresult, hdone, hread, -, hnv⟩ := State.op_stores (v := b) (a := a) (sliceB_length _ 0 72 : bytes.length = 72)
    ((State.useSlot_sram _ _).trans (State.useSlot_sram _ _)) hexec'
  exact ⟨t, hexec, hresult, hdone, hread, hnv.trans hb.nv⟩

theorem State.signs (hb : OpBegun s b q data 6) (hexec' : exec c s = .next (b.runSign q)) (hready : s.slotRefuses (bitsOf data 8 8) [0] = 0) :
    let n := if bitsOf data 5 1 = 0 then 32 else 48
    let a := s.get (F.KVT_OPADDR.ADDR q) * 64
    ∃ t, exec c s = .next t ∧ t.get (F.KVT_OPSTAT.RESULT q) = 0 ∧ t.bit (F.KVT_OP.START q) = false ∧
      t.sramRead (a + 64) (2 * n) =
        sliceB (Config.ecdsaSign (bitsOf data 5 1) (scalarOf (bitsOf data 5 1) (s.slot (bitsOf data 8 8)).key) (s.sramRead a n) s.freeVal) 0 (2 * n) ∧
      t.free = s.free + 1 ∧ t.nv = s.nv := by
  intro n a
  let bytes := sliceB (Config.ecdsaSign (bitsOf data 5 1) (scalarOf (bitsOf data 5 1) (s.slot (bitsOf data 8 8)).key) (s.sramRead a n) s.freeVal)
    0 (2 * n)
  have hslots : ∀ n, b.slot n = s.slot n := fun n => by rw [State.slot, hb.kvt, State.slot]
  have hrefuses : b.slotRefuses (bitsOf data 8 8) [0] = 0 := by rw [State.slotRefuses, hslots, ← State.slotRefuses, hready]
  have hrun : b.runSign q = ((b.useFree.sramStore (a + 64) bytes).useSlot (bitsOf data 8 8)).opEnd q 0 false := by
    unfold State.runSign
    extract_lets r e curve m sig
    have hrslot : r.slot = bitsOf data 8 8 := hb.slot
    have haddr : r.addr = a := congrArg (· * 64) hb.addr
    have he : e = 0 := (congrArg (b.slotRefuses · [0]) hrslot).trans hrefuses
    have hcurve : curve = bitsOf data 5 1 := hb.curve
    have hm : m = n := by unfold m; rw [hcurve]
    have hread : b.sramRead a n = s.sramRead a n := by rw [State.sramRead, hb.sram, State.sramRead]
    have hsig : sliceB sig 0 (2 * m) = bytes := by
      unfold sig
      rw [hrslot, haddr, hcurve, hm, hread, hslots, State.freeVal, hb.free, ← State.freeVal]
    rw [he, hsig, haddr, hrslot]
    rfl
  rw [hrun] at hexec'
  obtain ⟨t, hexec, hresult, hdone, hread, hfree, hnv⟩ := State.op_stores (v := b.useFree) (a := a + 64) (sliceB_length _ 0 (2 * n) :
    bytes.length = 2 * n) (State.useSlot_sram _ _) hexec'
  exact ⟨t, hexec, hresult, hdone, hread, hfree.trans (congrArg (· + 1) hb.free), hnv.trans hb.nv⟩

theorem State.shows_pubkey (hb : OpBegun s b q data 7) (hexec' : exec c s = .next (b.runPubkey q)) (hready : s.slotRefuses (bitsOf data 8 8) [0]
    = 0) :
    let n := if bitsOf data 5 1 = 0 then 32 else 48
    let a := s.get (F.KVT_OPADDR.ADDR q) * 64
    ∃ t, exec c s = .next t ∧ t.get (F.KVT_OPSTAT.RESULT q) = 0 ∧ t.bit (F.KVT_OP.START q) = false ∧
      t.sramRead a (2 * n) =
        sliceB (Config.publicPoint (bitsOf data 5 1) (scalarOf (bitsOf data 5 1) (s.slot (bitsOf data 8 8)).key)) 0 (2 * n) ∧ t.nv = s.nv := by
  intro n a
  let bytes := sliceB (Config.publicPoint (bitsOf data 5 1) (scalarOf (bitsOf data 5 1) (s.slot (bitsOf data 8 8)).key)) 0 (2 * n)
  have hslots : ∀ n, b.slot n = s.slot n := fun n => by rw [State.slot, hb.kvt, State.slot]
  have hrefuses : b.slotRefuses (bitsOf data 8 8) [0] = 0 := by rw [State.slotRefuses, hslots, ← State.slotRefuses, hready]
  have hrun : b.runPubkey q = ((b.sramStore a bytes).useSlot (bitsOf data 8 8)).opEnd q 0 false := by
    unfold State.runPubkey
    extract_lets r e curve m
    have hrslot : r.slot = bitsOf data 8 8 := hb.slot
    have haddr : r.addr = a := congrArg (· * 64) hb.addr
    have he : e = 0 := (congrArg (b.slotRefuses · [0]) hrslot).trans hrefuses
    have hcurve : curve = bitsOf data 5 1 := hb.curve
    have hm : m = n := by unfold m; rw [hcurve]
    rw [he, haddr, hrslot, hslots, hm, hcurve]
    rfl
  rw [hrun] at hexec'
  obtain ⟨t, hexec, hresult, hdone, hread, -, hnv⟩ := State.op_stores (v := b) (a := a) (sliceB_length _ 0 (2 * n) : bytes.length = 2 * n)
    (State.useSlot_sram _ _) hexec'
  exact ⟨t, hexec, hresult, hdone, hread, hnv.trans hb.nv⟩

/-- A slot refuses after the operation has begun as before. -/
theorem OpBegun.slotRefuses {code : Nat} (hb : OpBegun s b q data code) (uses : List Nat) :
    b.slotRefuses (b.opReq q).slot uses = s.slotRefuses (bitsOf data 8 8) uses := by
  have hslot : (b.opReq q).slot = bitsOf data 8 8 := hb.slot
  rw [hslot, State.slotRefuses, State.slot, hb.kvt, State.slotRefuses, State.slot]

theorem State.sign_refused (hb : OpBegun s b q data 6) (hexec : exec c s = .next (b.runSign q)) (hrefuses : s.slotRefuses (bitsOf data 8 8) [0] ≠ 0) :
    ∃ t, exec c s = .next t ∧ t.get (F.KVT_OPSTAT.RESULT q) = s.slotRefuses (bitsOf data 8 8) [0] ∧ t.kvt = s.kvt ∧ MemorySame s t := by
  refine State.op_refuses hb (s.slotRefuses_lt _ _) (hexec.trans (congrArg Host.Outcome.next ?_))
  rw [State.runSign, hb.slotRefuses]
  exact if_pos hrefuses

theorem State.pubkey_refused (hb : OpBegun s b q data 7) (hexec : exec c s = .next (b.runPubkey q)) (hrefuses : s.slotRefuses (bitsOf data 8 8)
    [0] ≠ 0) :
    ∃ t, exec c s = .next t ∧ t.get (F.KVT_OPSTAT.RESULT q) = s.slotRefuses (bitsOf data 8 8) [0] ∧ t.kvt = s.kvt ∧ MemorySame s t := by
  refine State.op_refuses hb (s.slotRefuses_lt _ _) (hexec.trans (congrArg Host.Outcome.next ?_))
  rw [State.runPubkey, hb.slotRefuses]
  exact if_pos hrefuses

end

/-- Settles O40, from what each operation finds when it begins. -/
theorem vaultOperations : Obligations.VaultOperations := by
  have hexport : ∀ {s : State} {req : Requester} {data : Nat}, s.Reaches req 0xE00010 → s.bit (F.KVT_OP.START req.idx) = false →
      exec (.kvtExport req data) s = .next (((s.set (F.XBR_TSTAT.OWNER 6) req.master).opPrepared req.idx data 4).runExport req.idx) :=
    fun hr hstart => congrArg Host.Outcome.next ((State.kvtStart_of hr hstart _ 4).trans ((if_neg (by decide)).trans (if_pos rfl)))
  have hsign : ∀ {s : State} {req : Requester} {data : Nat}, s.Reaches req 0xE00010 → s.bit (F.KVT_OP.START req.idx) = false →
      exec (.kvtSign req data) s = .next (((s.set (F.XBR_TSTAT.OWNER 6) req.master).opPrepared req.idx data 6).runSign req.idx) :=
    fun hr hstart => congrArg Host.Outcome.next
      ((State.kvtStart_of hr hstart _ 6).trans ((if_neg (by decide)).trans ((if_neg (by decide)).trans (if_pos rfl))))
  have hpubkey : ∀ {s : State} {req : Requester} {data : Nat}, s.Reaches req 0xE00010 → s.bit (F.KVT_OP.START req.idx) = false →
      exec (.kvtPubkey req data) s = .next (((s.set (F.XBR_TSTAT.OWNER 6) req.master).opPrepared req.idx data 7).runPubkey req.idx) :=
    fun hr hstart => congrArg Host.Outcome.next
      ((State.kvtStart_of hr hstart _ 7).trans ((if_neg (by decide)).trans ((if_neg (by decide)).trans (if_neg (by decide)))))
  have hbegun : ∀ (s : State) (req : Requester) (data code : Nat), code < 16 →
      OpBegun s ((s.set (F.XBR_TSTAT.OWNER 6) req.master).opPrepared req.idx data code) req.idx data code :=
    fun s req data _ hc => s.opBegun_of req.master req.idx data hc
  refine ⟨fun s req data hr hstart hpfail hlen p hp => ?_, fun s req data hr hstart hfull => State.update_refused hr hstart hfull,
    fun s req data hr hstart => State.exports (hbegun s req data 4 (by decide)) (hexport hr hstart),
    fun s req data hr hstart hready => ⟨State.signs (hbegun s req data 6 (by decide)) (hsign hr hstart) hready,
      State.shows_pubkey (hbegun s req data 7 (by decide)) (hpubkey hr hstart) hready⟩, fun s req data hr hstart hrefuses c hc => ?_⟩
  · simp only [List.mem_cons, List.not_mem_nil, or_false] at hp
    rcases hp with rfl | rfl | rfl | rfl
    · exact State.update_waits hr hstart hpfail hlen (code := 1) (by decide) (by decide) rfl
    · exact State.update_waits hr hstart hpfail hlen (code := 2) (by decide) (by decide) rfl
    · exact State.update_waits hr hstart hpfail hlen (code := 3) (by decide) (by decide) rfl
    · exact State.update_waits hr hstart hpfail hlen (code := 5) (by decide) (by decide) rfl
  · rcases List.mem_pair.mp hc with rfl | rfl
    · exact State.sign_refused (hbegun s req data 6 (by decide)) (hsign hr hstart) hrefuses
    · exact State.pubkey_refused (hbegun s req data 7 (by decide)) (hpubkey hr hstart) hrefuses

end Sys2Proof.Machine

/-! PROOF. The vault's own work: updates in two phases, share refresh, the hold test, zeroise and the root keys (R423 to R448). -/

namespace Sys2Proof.Machine

/-! What the positions of the NTS keys leave of the slots. -/

theorem SendsOnly.kvt {s t : State} (h : SendsOnly s t) : t.kvt = s.kvt := by rw [h.parts]

theorem State.setPos_kvt (s : State) (p state gen : Nat) : (s.setPos p state gen).kvt = s.kvt := by
  have hquiet : (s.setPosQuiet p state gen).kvt = s.kvt := by
    unfold State.setPosQuiet
    extract_lets t u
    split <;> rfl
  refine Eq.trans ?_ hquiet
  exact (SendsOnly.ite ((SendsOnly.refl (s.setPosQuiet p state gen)).sendRecord _ _) (.refl _)).kvt

theorem State.updStore_eq (s : State) (f : KvtStore → KvtStore) : ∃ v, s.updStore f = { s with nv := v } := by
  unfold State.updStore
  split
  · exact ⟨s.nv, rfl⟩
  · split <;> exact ⟨_, rfl⟩

theorem State.updStore_kvt (s : State) (f : KvtStore → KvtStore) : (s.updStore f).kvt = s.kvt := by
  obtain ⟨v, hv⟩ := s.updStore_eq f
  rw [hv]

theorem State.ntsFlag_slots (s : State) (f : Fld) (inst : Nat) : (s.ntsFlag f inst).kvt.slots = s.kvt.slots :=
  congrArg KvtSt.slots (State.flag_parts s f 43 inst 0).kvt

/-- A position that empties, is stored and tells so. -/
theorem State.emptyPos_slots (s : State) (p gen : Nat) (f : Fld) : (((s.setPos p 0 gen).storePositions).ntsFlag f p).kvt.slots = s.kvt.slots :=
  (State.ntsFlag_slots _ _ _).trans (show (s.setPos p 0 gen).kvt.slots = _ from congrArg KvtSt.slots (s.setPos_kvt p 0 gen))

theorem State.startRotation_slots (s : State) : s.startRotation.kvt.slots = s.kvt.slots := by
  unfold State.startRotation
  split
  · rfl
  · extract_lets g empty oldest pick gen per
    clear_value pick
    cases pick with
    | none => exact State.ntsFlag_slots _ _ _
    | some q =>
      obtain ⟨p, early⟩ := q
      dsimp only
      generalize ha : (if early = true then (s.setPos p 0 (s.npos p).gen).storePositions.ntsFlag F.NTS_STAT.EARLYEXP p else s) = a
      have hslots : a.kvt.slots = s.kvt.slots := by
        rw [← ha]
        split
        · exact s.emptyPos_slots p _ _
        · rfl
      split
      · exact (congrArg KvtSt.slots (State.updStore_kvt _ _)).trans hslots
      · exact (State.ntsFlag_slots _ _ _).trans hslots

theorem State.losePositions_slots (s : State) (n : Nat) : (s.losePositions n).kvt.slots = s.kvt.slots := by
  refine foldl_keeps (fun u : State => u.kvt.slots) (fun u p => ?_) _ s
  dsimp only
  split
  · split
    · exact (State.startRotation_slots _).trans (u.emptyPos_slots p _ _)
    · exact u.emptyPos_slots p _ _
  · rfl

/-! A slot's states. -/

/-- What a slot that leaves READY reads as. -/
def Slot.left (x : Slot) (state cause : Nat) : Slot := { x with state := state, cause := cause, key := if state = 4 then [] else x.key }

theorem State.slot_lt {s : State} {n : Nat} (h : (s.slot n).state ≠ 0) : n < s.kvt.slots.length := by
  by_contra hlt
  refine h ?_
  rw [State.slot, List.getD_eq_default _ _ (by omega)]

theorem State.slot_slotLeaves_ne (s : State) {n x : Nat} (state cause : Nat) (hx : x ≠ n) : (s.slotLeaves n state cause).slot x = s.slot x := by
  unfold State.slotLeaves
  split
  · rfl
  · extract_lets a b
    rw [State.slot, State.losePositions_slots]
    exact getD_modAt_ne s.kvt.slots _ _ hx

theorem State.slot_slotLeaves_self {s : State} {n : Nat} (state cause : Nat) (hn : (s.slot n).state = 2) :
    (s.slotLeaves n state cause).slot n = (s.slot n).left state cause := by
  unfold State.slotLeaves
  rw [if_neg (fun h => h hn)]
  extract_lets a b
  rw [State.slot, State.losePositions_slots]
  exact getD_modAt_self (l := s.kvt.slots) _ _ (State.slot_lt (by omega))

/-- A slot that is not READY stays as it is. -/
theorem State.slotLeaves_of_not_ready {s : State} {n : Nat} (state cause : Nat) (hn : (s.slot n).state ≠ 2) : s.slotLeaves n state cause = s :=
    if_pos hn

theorem State.slotLeaves_length (s : State) (n state cause : Nat) : (s.slotLeaves n state cause).kvt.slots.length = s.kvt.slots.length := by
  unfold State.slotLeaves
  split
  · rfl
  · extract_lets a b
    rw [State.losePositions_slots]
    exact length_modAt _ _ _

/-- A slot that leaves READY is not READY. -/
theorem State.slotLeaves_not_ready (s : State) (n : Nat) {state : Nat} (cause : Nat) (hs : state ≠ 2) : ((s.slotLeaves n state cause).slot
    n).state ≠ 2 := by
  by_cases hn : (s.slot n).state = 2
  · rw [State.slot_slotLeaves_self state cause hn]
    exact hs
  · rw [State.slotLeaves_of_not_ready state cause hn]
    exact hn

/-- Slots that become STALE leave the others as they are. -/
theorem State.slot_staleAll_ne {l : List Nat} {n : Nat} (s : State) (hn : n ∉ l) : (l.foldl (fun t x => t.slotLeaves x 3 0) s).slot n = s.slot n := by
  induction l generalizing s with
  | nil => rfl
  | cons x l ih =>
    obtain ⟨hx, hl⟩ := not_or.mp (mt List.mem_cons.mpr hn)
    exact (ih _ hl).trans (s.slot_slotLeaves_ne 3 0 hx)

/-- Slots that become STALE are not READY any more. -/
theorem State.slot_staleAll {l : List Nat} {n : Nat} (s : State) (hn : n ∈ l) : ((l.foldl (fun t x => t.slotLeaves x 3 0) s).slot n).state ≠ 2 := by
  have hstay : ∀ (l : List Nat) (s : State), (s.slot n).state ≠ 2 → ((l.foldl (fun t x => t.slotLeaves x 3 0) s).slot n).state ≠ 2 := fun l s hs =>
    List.foldlRecOn (motive := fun u : State => (u.slot n).state ≠ 2) l _ hs fun u hu x _ => by
      by_cases hx : n = x
      · subst hx
        exact u.slotLeaves_not_ready n 0 (by decide)
      · rw [u.slot_slotLeaves_ne 3 0 hx]
        exact hu
  induction l generalizing s with
  | nil => cases hn
  | cons x l ih =>
    rcases List.mem_cons.mp hn with rfl | hl
    · exact hstay l _ (s.slotLeaves_not_ready n 0 (by decide))
    · exact ih _ hl

/-! Descendants. -/

theorem descends_congr {slots slots' : List Slot} {n : Nat} (h : ∀ x, x ≠ n → slots'.getD x {} = slots.getD x {}) (k x : Nat) (hx : x ≠ n) :
    descends slots' n k x = descends slots n k x := by
  induction k generalizing x with
  | zero => rfl
  | succ k ih =>
    unfold descends
    rw [h x hx]
    by_cases hp : (slots.getD x {}).parent = n
    · rw [hp, beq_self_eq_true, Bool.true_or, Bool.true_or]
    · rw [ih _ hp]

/-- A slot's own record does not bear on which slots descend from it. -/
theorem State.descendants_congr {s t : State} {n : Nat} (h : ∀ x, x ≠ n → t.slot x = s.slot x) : t.descendants n = s.descendants n := by
  have hd : (List.range 256).filter (fun x => x != n && descends t.kvt.slots n 4 x) = (List.range 256).filter (fun x => x != n && descends
    s.kvt.slots n 4 x) := by
    refine List.filter_congr fun x _ => ?_
    by_cases hx : x = n
    · rw [hx, bne_self_eq_false, Bool.false_and, Bool.false_and]
    · rw [descends_congr (fun y hy => h y hy) 4 x hx]
  have hne : ∀ x ∈ (List.range 256).filter (fun x => x != n && descends s.kvt.slots n 4 x), x ≠ n := fun x hx => by
    have hbne := (Bool.and_eq_true_iff.mp (List.mem_filter.mp hx).2).1
    simpa using hbne
  unfold State.descendants
  rw [hd]
  extract_lets d
  have hdepth : ∀ dep, d.filter (fun x => (t.slot x).depth == dep) = d.filter (fun x => (s.slot x).depth == dep) := fun dep =>
    List.filter_congr fun x hx => by rw [h x (hne x hx)]
  have hlow : d.filter (fun x => decide ((t.slot x).depth < 2)) = d.filter (fun x => decide ((s.slot x).depth < 2)) :=
    List.filter_congr fun x hx => by rw [h x (hne x hx)]
  rw [hlow]
  exact congrArg (· ++ _) (List.flatMap_congr fun dep _ => hdepth dep)

theorem State.notMem_descendants (s : State) (n : Nat) : n ∉ s.descendants n := by
  unfold State.descendants
  extract_lets d
  have hd : n ∉ d := fun h => by
    have hbne := (Bool.and_eq_true_iff.mp (List.mem_filter.mp h).2).1
    simp at hbne
  intro h
  rcases List.mem_append.mp h with h | h
  · obtain ⟨dep, -, hdep⟩ := List.mem_flatMap.mp h
    exact hd (List.mem_filter.mp hdep).1
  · exact hd (List.mem_filter.mp h).1

/-! The front update. -/

/-- Showing the queue leaves a field that does not show it. -/
theorem State.get_showQueue_ne (s : State) {g : Fld} (hqueue : ∀ q, g.key ≠ (F.KVT_OPSTAT.QUEUE q).key) (hwait : ∀ q, g.key ≠ (F.KVT_OPSTAT.WAIT
    q).key)
    (hbusy : g.key ≠ F.KVT_STAT.BUSY.key) : s.showQueue.get g = s.get g := by
  unfold State.showQueue
  extract_lets hold
  refine (State.get_set_ne _ _ hbusy).trans (foldl_keeps (fun u : State => u.get g) (fun u p => ?_) _ s)
  split
  · exact (State.get_set_ne _ _ (hwait _)).trans (State.get_set_ne _ _ (hqueue _))
  · rfl

theorem State.showQueue_busy (s : State) : s.showQueue.bit F.KVT_STAT.BUSY = s.kvt.opened.isSome := State.bit_setBit_self _ _ _ rfl

/-- The store in use after a change of it. -/
theorem State.kstore_updStore {s : State} (hon : s.supply.on = true) (f : KvtStore → KvtStore) : (s.updStore f).kstore = f s.kstore := by
  have hoff : ¬ (!s.supply.on) = true := by rw [hon]; decide
  unfold State.updStore State.kstore
  rw [if_neg hoff]
  by_cases hd : s.bit F.KVT_STAT.DBG = true
  · rw [if_pos hd]
    exact (if_pos hd).trans (congrArg f (if_pos hd).symm)
  · rw [if_neg hd]
    exact (if_neg hd).trans (congrArg f (if_neg hd).symm)

/-- The state in which an update's phase 1 has been written. -/
def State.phaseOne (s : State) (r : VaultReq) (k : List Byte × Bool) : State :=
  let a := s.updStore (fun st => { st with seq := st.seq + 1, undo := some ((s.updateSlots r).map (fun n => (n, s.kstore.rec? n)), st.pos, st.seq
    + 1) })
  { a with kvt := { a.kvt with opened := some k, stale := false } }

theorem State.update_opens {s : State} {r : VaultReq} {k : List Byte × Bool} (hon : s.supply.on = true) (hr : s.kvt.queue.head? = some r)
    (hopen : s.kvt.opened = none) (hhold : s.bit F.KVT_STAT.HOLDOK = true) (hk : s.computeUpdate r = .ok k) :
    ∃ t, exec (.vaultUpdate false) s = .next t ∧ t.kvt.opened = some k ∧ t.kvt.slots = s.kvt.slots ∧ t.kvt.queue = s.kvt.queue ∧
      t.bit F.KVT_STAT.BUSY = true ∧ (t.kstore.undo.map (·.1)) = some ((s.updateSlots r).map (fun n => (n, s.kstore.rec? n))) ∧ MemorySame s t := by
  let b := s.phaseOne r k
  have hexec : exec (.vaultUpdate false) s = .next b.showQueue := by
    change Host.Outcome.next s.openUpdate = _
    unfold State.openUpdate
    rw [hr, hopen, hhold]
    dsimp only
    rw [hk, if_neg (by decide)]
    rfl
  have hruns := Runs.vaultUpdate (w := .all) (phase2 := false) (Keeps.refl s)
  rw [hexec] at hruns
  have honly := b.showQueue_regsOnly
  have hkvt : b.kvt = { s.kvt with opened := some k, stale := false } := by
    obtain ⟨v, hv⟩ := s.updStore_eq (fun st =>
      { st with seq := st.seq + 1, undo := some ((s.updateSlots r).map (fun n => (n, s.kstore.rec? n)), st.pos, st.seq + 1) })
    unfold b State.phaseOne
    rw [hv]
  have hstore : b.showQueue.kstore = b.kstore := by
    have hdbg : b.showQueue.bit F.KVT_STAT.DBG = b.bit F.KVT_STAT.DBG := State.bit_eq_of_get (b.get_showQueue_ne
      (fun q => by apply Fld.key_ne; omega) (fun q => by apply Fld.key_ne; omega) (by decide))
    unfold State.kstore
    rw [hdbg, honly]
  refine ⟨b.showQueue, hexec, ?_, ?_, ?_, ?_, ?_, hruns.memorySame⟩
  · rw [honly, hkvt]
  · rw [honly, hkvt]
  · rw [honly, hkvt]
  · rw [State.showQueue_busy, hkvt]
    rfl
  · rw [hstore]
    exact congrArg (fun st : KvtStore => st.undo.map (·.1)) (State.kstore_updStore hon _)

/-- Taking the front update off the queue shows its result. -/
theorem State.popUpdate_shows (s : State) {r : VaultReq} {e : Nat} (hby : r.by_ < 9) (he : e < 16) :
    (s.popUpdate r e false).kvt = { s.kvt with queue := s.kvt.queue.drop 1, opened := none, stale := false } ∧
      (s.popUpdate r e false).get (F.KVT_OPSTAT.RESULT r.by_) = e ∧ (s.popUpdate r e false).bit (F.KVT_OP.START r.by_) = false ∧
      (s.popUpdate r e false).nv = s.nv := by
  let a : State := { s with kvt := { s.kvt with queue := s.kvt.queue.drop 1, opened := none, stale := false } }
  have hpop : s.popUpdate r e false = (a.opEnd r.by_ e false).showQueue :=
    congrArg State.showQueue (if_pos hby)
  obtain ⟨hresult, hstart, hend⟩ := a.opEnd_shows r.by_ he
  have hshow := (a.opEnd r.by_ e false).showQueue_regsOnly
  rw [hpop]
  refine ⟨?_, ?_, ?_, ?_⟩
  · rw [hshow, hend]
  · rw [State.get_showQueue_ne _ (fun q => by apply Fld.key_ne; omega) (fun q => by apply Fld.key_ne; omega) (by apply Fld.key_ne; omega)]
    exact hresult
  · rw [State.bit, State.get_showQueue_ne _ (fun q => by apply Fld.key_ne; omega) (fun q => by apply Fld.key_ne; omega) (by apply Fld.key_ne; omega)]
    exact hstart
  · rw [hshow, hend]

theorem State.update_fails {s : State} {r : VaultReq} {e : Nat} (hr : s.kvt.queue.head? = some r) (hopen : s.kvt.opened = none)
    (hhold : s.bit F.KVT_STAT.HOLDOK = true) (hby : r.by_ < 9) (hk : s.computeUpdate r = .error e) (he : e < 16) :
    ∃ t, exec (.vaultUpdate false) s = .next t ∧ t.kvt.queue = s.kvt.queue.drop 1 ∧ t.kvt.slots = s.kvt.slots ∧
      t.get (F.KVT_OPSTAT.RESULT r.by_) = e ∧ t.bit (F.KVT_OP.START r.by_) = false ∧ t.nv = s.nv := by
  obtain ⟨hkvt, hresult, hstart, hnv⟩ := s.popUpdate_shows hby he
  refine ⟨s.popUpdate r e false, ?_, ?_, ?_, hresult, hstart, hnv⟩
  · change Host.Outcome.next s.openUpdate = _
    unfold State.openUpdate
    rw [hr, hopen, hhold]
    dsimp only
    rw [hk, if_neg (by decide)]
  · rw [hkvt]
  · rw [hkvt]

/-! The end of phase 2. -/

theorem State.update_loads {s : State} {r : VaultReq} {key : List Byte} {cert : Bool} (hr : s.kvt.queue.head? = some r)
    (hopen : s.kvt.opened = some (key, cert)) (hby : r.by_ < 9) (hcode : r.code = 1) (htree : r.tree = false) (hslot : r.slot < s.kvt.slots.length) :
    ∃ t, exec (.vaultUpdate true) s = .next t ∧ t.kvt.opened = none ∧ (t.slot r.slot).key = key ∧ (t.slot r.slot).state = 2 ∧
      (t.slot r.slot).ctx = r.ctx ∧ (t.slot r.slot).origin = 1 ∧ t.get (F.KVT_OPSTAT.RESULT r.by_) = 0 ∧ t.bit (F.KVT_OP.START r.by_) = false ∧
      (∀ x ∈ s.descendants r.slot, (t.slot x).state ≠ 2) ∧ MemorySame s t := by
  let a := s.loadKey r.slot key r.ctx 1 false
  let b := a.staleDescendants r.slot
  have happly : s.applyUpdate r key cert = b := by
    unfold State.applyUpdate State.afterLoad
    rw [if_pos hcode, htree]
    rfl
  obtain ⟨v, hv⟩ : ∃ v, s.closeUpdate = ({ b with nv := v } : State).popUpdate r 0 false := by
    have hstale : decide (r.code = 3 ∧ (s.slot r.wslot).state ≠ 2) = false := by simp [hcode]
    obtain ⟨w, hw⟩ := b.updStore_eq (fun k => (b.updateSlots r).foldl (fun k n => k.put n (some (b.recordOf n))) k)
    obtain ⟨v, hv⟩ := (b.storeSlots (b.updateSlots r)).updStore_eq (fun st => { st with undo := none, pos := if r.code = 9 then s.nts.pos else
      st.pos })
    refine ⟨v, ?_⟩
    have hstore : b.storeSlots (b.updateSlots r) = { b with nv := w } := hw
    unfold State.closeUpdate
    rw [hr, hopen]
    dsimp only
    rw [happly, hv, hstore, hstale]
  have hexec : exec (.vaultUpdate true) s = .next (({ b with nv := v } : State).popUpdate r 0 false) := congrArg Host.Outcome.next hv
  have hruns := Runs.vaultUpdate (w := .all) (phase2 := true) (Keeps.refl s)
  rw [hexec] at hruns
  obtain ⟨hkvt, hresult, hstart, -⟩ := ({ b with nv := v } : State).popUpdate_shows (r := r) (e := 0) hby (by decide)
  have hslots : ∀ x, (({ b with nv := v } : State).popUpdate r 0 false).slot x = b.slot x := fun x => by
    rw [State.slot, hkvt]
    rfl
  have hself : b.slot r.slot = ((s.slotLeaves r.slot 3 0).slot r.slot).load key r.ctx 1 (s.bit F.KVT_STAT.DBG) false := by
    refine (State.slot_staleAll_ne a (a.notMem_descendants r.slot)).trans (getD_modAt_self (l := (s.slotLeaves r.slot 3 0).kvt.slots) _ _ ?_)
    rw [State.slotLeaves_length]
    exact hslot
  have hother : ∀ x, x ≠ r.slot → a.slot x = s.slot x := fun x hx =>
    (getD_modAt_ne (s.slotLeaves r.slot 3 0).kvt.slots _ _ hx).trans (s.slot_slotLeaves_ne 3 0 hx)
  refine ⟨_, hexec, ?_, ?_, ?_, ?_, ?_, hresult, hstart, fun x hx => ?_, hruns.memorySame⟩
  · rw [hkvt]
  · rw [hslots, hself]
    rfl
  · rw [hslots, hself]
    rfl
  · rw [hslots, hself]
    rfl
  · rw [hslots, hself]
    rfl
  · rw [hslots]
    exact State.slot_staleAll a (by rw [State.descendants_congr hother]; exact hx)

/-! Cells and the hold test. -/

/-- A slot with fresh shares: one without a key stays as it is. -/
def Slot.refreshed (x : Slot) (mask : Nat) : Slot := if x.key.isEmpty then x else { x with mask := mask }

theorem Slot.refreshed_same (x : Slot) (mask : Nat) :
    (x.refreshed mask).key = x.key ∧ (x.refreshed mask).state = x.state ∧ (x.refreshed mask).cause = x.cause := by
  unfold Slot.refreshed
  split <;> exact ⟨rfl, rfl, rfl⟩

/-- The state in which every stored key has fresh shares. -/
def State.sharesRefreshed (a : State) : State :=
  { a with kvt := { a.kvt with slots := a.kvt.slots.map (·.refreshed a.free) }, free := a.free + 1 }

theorem State.slot_sharesRefreshed (a : State) (n : Nat) : a.sharesRefreshed.slot n = (a.slot n).refreshed a.free :=
  List.getD_map (l := a.kvt.slots) (d := {}) (n := n) (·.refreshed a.free)

theorem State.cell_faults {s : State} {n : Nat} (hn : (s.slot n).state = 2) :
    ∃ t, exec (.shareRefresh [n]) s = .next t ∧ (t.slot n).state = 4 ∧ (t.slot n).cause = 2 ∧ (t.slot n).key = [] ∧
      t.bit F.KVT_STAT.CELLFLT = true ∧ MemorySame s t := by
  let a := ((s.slotLeaves n 4 2).staleDescendants n).kvtFlag F.KVT_STAT.CELLFLT n
  have hexec : exec (.shareRefresh [n]) s = .next a.sharesRefreshed := by
    have hfault : s.cellFault n = a := if_pos hn
    change Host.Outcome.next (s.cellFault n).sharesRefreshed = _
    rw [hfault]
  have hruns := Runs.shareRefresh (w := .all) (failed := [n]) (Keeps.refl s)
  rw [hexec] at hruns
  have hslot : a.slot n = (s.slot n).left 4 2 := by
    have hkvt : a.kvt = ((s.slotLeaves n 4 2).staleDescendants n).kvt := (State.flag_parts _ F.KVT_STAT.CELLFLT 68 n 0).kvt
    rw [State.slot, hkvt]
    exact (State.slot_staleAll_ne _ (State.notMem_descendants _ n)).trans (State.slot_slotLeaves_self 4 2 hn)
  obtain ⟨hkey, hstate, hcause⟩ := (a.slot n).refreshed_same a.free
  refine ⟨a.sharesRefreshed, hexec, ?_, ?_, ?_, State.flag_get _ n 0 (by decide) rfl (by decide), hruns.memorySame⟩
  · rw [State.slot_sharesRefreshed, hstate, hslot]
    rfl
  · rw [State.slot_sharesRefreshed, hcause, hslot]
    rfl
  · rw [State.slot_sharesRefreshed, hkey, hslot]
    rfl

theorem State.shares_refresh (s : State) : ∃ t, exec (.shareRefresh []) s = .next t ∧
    (∀ n, (t.slot n).key = (s.slot n).key ∧ (t.slot n).state = (s.slot n).state) ∧ t.free = s.free + 1 ∧ RegsOutside [] s t ∧ MemorySame s t := by
  refine ⟨s.sharesRefreshed, rfl, fun n => ?_, rfl, .of_regs (.refl _ s) rfl, .of_eq rfl rfl⟩
  obtain ⟨hkey, hstate, -⟩ := (s.slot n).refreshed_same s.free
  rw [State.slot_sharesRefreshed]
  exact ⟨hkey, hstate⟩

theorem State.hold_tests (s : State) (us : Nat) : ∃ t, exec (.holdupTest us) s = .next t ∧ t.kvt.holdTest = s.raw ∧
    (us < 20000 → t.bit F.KVT_STAT.HOLDFLT = true) ∧ RegsBut [F.KVT_STAT.HOLDFLT] s t ∧ MemorySame s t := by
  let a : State := { s with kvt := { s.kvt with holdTest := s.raw } }
  have hruns := Runs.holdupTest (w := .all) (projected := us) (Keeps.refl s)
  have hregs : RegsBut [F.KVT_STAT.HOLDFLT] s a := .of_regs (.refl _ s) rfl
  refine ⟨_, rfl, ?_, fun hus => ?_, .ite (.flag hregs (by decide) (by simp)) hregs, hruns.memorySame⟩
  · split
    · exact congrArg KvtSt.holdTest (State.flag_parts a F.KVT_STAT.HOLDFLT 68 0 0).kvt
    · rfl
  · rw [if_pos hus]
    exact State.flag_get _ 0 0 (by decide) rfl (by decide)

/-! Zeroise and the roots. -/

theorem RegsOnly.trans {s t u : State} (h : RegsOnly s t) (k : RegsOnly t u) : RegsOnly s u := by
  unfold RegsOnly at h k ⊢
  rw [h] at k
  exact k

theorem RegsOnly.foldl {α : Type} {f : State → α → State} {l : List α} {s t : State} (h : RegsOnly s t)
    (hf : ∀ u a, RegsOnly s u → RegsOnly s (f u a)) : RegsOnly s (l.foldl f t) :=
  List.foldlRecOn (motive := fun u : State => RegsOnly s u) l f h fun u hu a _ => hf u a hu

/-- Only slots of the vault have changed. -/
def SlotsOnly (s t : State) : Prop := t = { s with kvt := { s.kvt with slots := t.kvt.slots } }

section
variable {s t u : State}

theorem SlotsOnly.refl (s : State) : SlotsOnly s s := rfl

theorem SlotsOnly.trans (h : SlotsOnly s t) (k : SlotsOnly t u) : SlotsOnly s u := by
  unfold SlotsOnly at h k ⊢
  rw [h] at k
  exact k

theorem SlotsOnly.ite {c : Prop} [Decidable c] (ht : SlotsOnly s t) (hu : SlotsOnly s u) : SlotsOnly s (if c then t else u) := by
  split <;> assumption

theorem SlotsOnly.updSlot {n : Nat} {f : Slot → Slot} (h : SlotsOnly s t) : SlotsOnly s (t.updSlot n f) := h.trans rfl

theorem SlotsOnly.foldl {α : Type} {f : State → α → State} {l : List α} (h : SlotsOnly s t)
    (hf : ∀ u a, SlotsOnly s u → SlotsOnly s (f u a)) : SlotsOnly s (l.foldl f t) :=
  List.foldlRecOn (motive := fun u : State => SlotsOnly s u) l f h fun u hu a _ => hf u a hu

theorem SlotsOnly.rootSlots (h : SlotsOnly s t) : SlotsOnly s t.rootSlots := h.updSlot.updSlot

theorem SlotsOnly.defineSlots (h : SlotsOnly s t) : SlotsOnly s t.defineSlots := .foldl h fun _ _ hu => hu.updSlot

theorem SlotsOnly.startSlot {n : Nat} (h : SlotsOnly s t) : SlotsOnly s (t.startSlot n) := by
  unfold State.startSlot
  extract_lets x r d
  clear_value r
  cases r with
  | some r => exact .ite h.updSlot (.ite (by split <;> exact h.updSlot) (.ite h.updSlot h.updSlot))
  | none => exact .ite h.updSlot h.updSlot

theorem SlotsOnly.regs (h : SlotsOnly s t) : t.regs = s.regs := by rw [h]

end

/-- The new zeroise epoch, and whether it has reached its limit. -/
def State.nextEpoch (s : State) : Nat × Bool := if s.nv.zepoch < 32 then (s.nv.zepoch + 1, false) else (32, true)

/-- The state in which zeroise has emptied the store, the queue and the positions. -/
def State.emptied (s : State) : State :=
  { s with
    pke := { s.pke with lanes := s.pke.lanes.map Lane.erase }
    nv := { s.nv with kvt := {}, zepoch := s.nextEpoch.1, zepMax := s.nextEpoch.2 }
    nts := { s.nts with pos := List.replicate 4 {}, rot := none, retire := none }
    kvt := { s.kvt with slots := List.replicate 256 {}, opened := none, queue := [] } }

/-- A register of one block that is written. -/
theorem RegsOutside.setIn {blocks : List Nat} {b : Nat} (hb : b ∈ blocks) {s t : State} {c o l w r v : Nat} (ho : o / 0x100000 = b) (h64 : b < 64)
    (hl : l < 32) (h : RegsOutside blocks s t) : RegsOutside blocks s (t.set ⟨c, o, l, w, r⟩ v) :=
  h.set (by rw [Fld.blk_eq (b := b) (by omega)]; exact hb)

/-- An operation of the vault that ends writes registers of the vault. -/
theorem RegsOutside.opEnd {blocks : List Nat} (hv : 0xE ∈ blocks) {s t : State} {q : Nat} (h : RegsOutside blocks s t) (result : Nat) :
    RegsOutside blocks s (t.opEnd q result false) := by
  unfold State.opEnd
  rw [if_neg Bool.false_ne_true]
  have hset := @RegsOutside.setIn blocks 0xE hv s
  exact hset (by decide) (by decide) (by decide) (hset (by decide) (by decide) (by decide) (hset (by decide) (by decide) (by decide)
    (hset (by decide) (by decide) (by decide) (hset (by decide) (by decide) (by decide) h))))

/-- A position of the master keys that is shown writes registers of NTS. -/
theorem RegsOutside.showPos {blocks : List Nat} (hn : 0xC ∈ blocks) {s t : State} {p : Nat} (h : RegsOutside blocks s t) (hp : p < 4) :
    RegsOutside blocks s (t.showPos p) :=
  have hset := @RegsOutside.setIn blocks 0xC hn s
  hset (by omega) (by decide) (by decide) (hset (by omega) (by decide) (by decide) h)

/-- Zeroise empties the vault, and then only shows it and defines the slots anew. -/
theorem State.zeroise_of {s : State} (hon : s.supply.on = true) : ∃ c f, RegsOnly s.emptied c ∧ RegsOutside [0x11, 0xC, 0xE] s c ∧ SlotsOnly c f ∧
    s.zeroise = (f.set F.KVT_CTRL.ZEROISE 0).showQueue.kvtFlag F.KVT_STAT.ZEROISED 0 := by
  have hoff : ¬ (!s.supply.on) = true := by rw [hon]; decide
  let ended := s.kvt.queue.foldl (fun t (r : VaultReq) => if r.by_ < 9 then t.opEnd r.by_ 4 false else t) s.emptied
  let l := [(F.NTS_STAT.ROTBUSY, 0), (F.NTS_ROTCTRL.ROTATE, 0), (F.KVT_STAT.ZEPOCH, s.nextEpoch.1)]
  let c := (((List.range 4).foldl State.showPos ended).sets l).setBit F.KVT_STAT.ZEPMAX s.nextEpoch.2
  let lost := (List.range 256).filter (fun n => s.loadedPath 4 n)
  let d := c.rootSlots.defineSlots
  let f := d.slotsByDepth.foldl (fun t n => if lost.contains n then t.updSlot n (fun x => { x with state := 1, cause := 3 }) else t.startSlot n) d
  have hended : RegsOnly s.emptied ended := .foldl rfl fun u r hu => by
    split
    · exact hu.trans rfl
    · exact hu
  have hendedRegs : RegsOutside [0x11, 0xC, 0xE] s ended := .foldl (.of_regs (.refl _ s) rfl) fun u r _ hu => .ite (hu.opEnd (by decide) 4) hu
  have hshown : RegsOnly s.emptied ((List.range 4).foldl State.showPos ended) := .foldl hended fun u p hu => hu.trans rfl
  have hshownRegs : RegsOutside [0x11, 0xC, 0xE] s ((List.range 4).foldl State.showPos ended) := .foldl hendedRegs fun u p hp hu =>
    hu.showPos (by decide) (List.mem_range.mp hp)
  have hc : RegsOnly s.emptied c := RegsOnly.set (hshown.trans (State.sets_regsOnly _ l))
  have hcRegs : RegsOutside [0x11, 0xC, 0xE] s c := (hshownRegs.sets (by simp only [l, List.forall_mem_cons]; decide)).set (by decide)
  have hd : SlotsOnly c d := (SlotsOnly.refl c).rootSlots.defineSlots
  refine ⟨c, f, hc, hcRegs, .foldl hd fun u n hu => .ite hu.updSlot hu.startSlot, ?_⟩
  unfold State.zeroise
  rw [if_neg hoff]
  rfl

theorem State.zeroises {s : State} {req : Requester} (hr : s.Reaches req 0xE00004) :
    ∃ t, exec (.kvtZeroise req 0x9612) s = .next t ∧ t.nv.zepoch = (if s.nv.zepoch < 32 then s.nv.zepoch + 1 else 32) ∧
      t.bit F.KVT_STAT.ZEROISED = true ∧ t.kvt.queue = [] ∧ t.kvt.opened = none ∧ t.nts.rot = none ∧ (∀ p, (t.npos p).state = 0) ∧ MemorySame s t
        := by
  let a := s.set (F.XBR_TSTAT.OWNER 6) req.master
  have hexec : exec (.kvtZeroise req 0x9612) s = .next a.zeroise := congrArg Host.Outcome.next (State.atFabric_of_reaches hr _)
  have hruns := Runs.kvtZeroise (w := .all) (req := req) (key := 0x9612) (Keeps.refl s)
  rw [hexec] at hruns
  obtain ⟨c, f, hc, -, hf, hz⟩ := a.zeroise_of hr.1
  have hshow := (f.set F.KVT_CTRL.ZEROISE 0).showQueue_regsOnly
  have hflag := State.flag_parts (f.set F.KVT_CTRL.ZEROISE 0).showQueue F.KVT_STAT.ZEROISED 68 0 0
  have hparts : a.zeroise.nv = a.emptied.nv ∧ a.zeroise.nts = a.emptied.nts ∧ a.zeroise.kvt.queue = [] ∧ a.zeroise.kvt.opened = none := by
    rw [hz, State.kvtFlag, hflag, hshow]
    change f.nv = _ ∧ f.nts = _ ∧ f.kvt.queue = _ ∧ f.kvt.opened = _
    rw [hf, hc]
    exact ⟨rfl, rfl, rfl, rfl⟩
  obtain ⟨hnv, hnts, hqueue, hopened⟩ := hparts
  refine ⟨a.zeroise, hexec, ?_, ?_, hqueue, hopened, ?_, fun p => ?_, hruns.memorySame⟩
  · rw [hnv]
    change (if s.nv.zepoch < 32 then (s.nv.zepoch + 1, false) else (32, true)).1 = _
    split <;> rfl
  · rw [hz]
    exact State.flag_get _ 0 0 (by decide) rfl (by decide)
  · rw [hnts]
    rfl
  · rw [State.npos, hnts]
    change ((List.replicate 4 ({} : PosRec)).getD p {}).state = 0
    rw [List.getD_eq_getElem?_getD, List.getElem?_replicate]
    split <;> rfl

theorem State.zeroise_refused {s : State} {req : Requester} {key : Nat} (hr : s.Reaches req 0xE00004) (hk : key % 65536 ≠ 0x9612)
    (hclear : s.bit F.XBR_AERR.AERR = false) :
    ∃ t, exec (.kvtZeroise req key) s = .next t ∧ t.kvt = s.kvt ∧ t.nv = s.nv ∧ t.get F.XBR_AERR.CAUSE = 6 := by
  let a := s.set (F.XBR_TSTAT.OWNER 6) req.master
  have haclear : a.bit F.XBR_AERR.AERR = false := (State.bit_set_ne s _ (by decide)).trans hclear
  have hwrite : a.writeKvtCtrl req (1 + key % 65536 * 65536) = a.accessError req 6 0xE00004 := by
    have hbit : (1 + key % 65536 * 65536).testBit 0 = true := by
      rw [Nat.testBit_zero]
      exact decide_eq_true (by omega)
    have hkey : bitsOf (1 + key % 65536 * 65536) 16 16 ≠ 0x9612 := fun h => hk (by
      have hbits : (1 + key % 65536 * 65536) / 2 ^ 16 % 2 ^ 16 = 0x9612 := h
      omega)
    unfold State.writeKvtCtrl
    rw [hbit, if_neg (by decide), if_pos hkey]
  have hexec : exec (.kvtZeroise req key) s = .next (a.accessError req 6 0xE00004) :=
    congrArg Host.Outcome.next ((State.atFabric_of_reaches hr _).trans hwrite)
  have hparts := State.accessError_parts a req 6 0xE00004
  exact ⟨_, hexec, hparts.kvt, hparts.nv, State.accessError_cause haclear req 6 _ (by decide)⟩

/-- The vault's start leaves a field that shows neither a position nor the restored records. -/
theorem State.get_vaultStart_ne (s : State) {g : Fld} (hblk : g.blk ≠ 0x11) (hrestore : g.key ≠ F.KVT_STAT.RESTORE.key)
    (hcur : g.key ≠ F.NTS_STAT.CUR.key) (hpos : ∀ p, g.key ≠ (F.NTS_KPOS.STATE p).key ∧ g.key ≠ (F.NTS_KPOS.GEN p).key) :
    s.vaultStart.get g = s.get g := by
  let a := s.defineSlots.pruneRecords
  let b := a.slotsByDepth.foldl State.startSlot a
  have hdefine : s.defineSlots.get g = s.get g := State.get_congr (SlotsOnly.refl s).defineSlots.regs g
  have ha : a.get g = s.get g := by
    refine Eq.trans ?_ hdefine
    unfold a State.pruneRecords
    extract_lets bad
    split
    · rfl
    · refine (State.flag_get_ne _ _ _ (by decide) hblk hrestore).trans ?_
      obtain ⟨v, hv⟩ := s.defineSlots.updStore_eq (fun k => bad.foldl (fun k r => k.put r.slot none) k)
      rw [hv]
      rfl
  have hb : b.get g = s.get g := (State.get_congr (SlotsOnly.foldl (.refl a) fun _ _ hu => hu.startSlot).regs g).trans ha
  refine Eq.trans ?_ hb
  have hu : ((List.range 4).foldl State.showPos { b with nts := { b.nts with pos := b.kstore.pos } }).get g = b.get g :=
    foldl_keeps (fun u : State => u.get g) (fun u p => (State.get_set_ne _ _ (hpos p).2).trans (State.get_set_ne _ _ (hpos p).1)) _ _
  change b.restorePositions.get g = _
  unfold State.restorePositions
  extract_lets t u
  split
  · exact (State.get_set_ne _ _ hcur).trans hu
  · exact hu

theorem State.debug_enters {s : State} (hdbg : s.bit F.KVT_STAT.DBG = false) : ∃ t, exec .dbgEnSet s = .next t ∧ t.bit F.KVT_STAT.DBG = true ∧
    t.bit F.NTS_STAT.TESTKEY = true ∧ t.bit F.GLB_DBG.DBG_EN = true ∧ MemorySame s t := by
  let a := if s.kvt.opened.isSome then s.closeUpdate else s
  let b := (List.range 256).foldl (fun t n => t.slotLeaves n 3 0) a
  let c : State := { b with kvt := { b.kvt with slots := List.replicate 256 {} } }
  let l := [(F.KVT_STAT.DBG, 1), (F.NTS_STAT.TESTKEY, 1), (F.GLB_DBG.DBG_EN, 1), (F.GLB_DBG.TAPACT, 1)]
  have hexec : exec .dbgEnSet s = .next (c.sets l).rootSlots.vaultStart := by
    change Host.Outcome.next s.enterDebug = _
    unfold State.enterDebug
    rw [hdbg, if_neg Bool.false_ne_true]
  have hruns := Runs.dbgEnSet (w := .all) (Keeps.refl s)
  rw [hexec] at hruns
  have hroot : ∀ g : Fld, (c.sets l).rootSlots.get g = (c.sets l).get g := fun g => State.get_congr (SlotsOnly.refl _).rootSlots.regs g
  have hset : ∀ (g : Fld), g.blk ≠ 0x11 → g.key ≠ F.KVT_STAT.RESTORE.key → g.key ≠ F.NTS_STAT.CUR.key →
      (∀ p, g.key ≠ (F.NTS_KPOS.STATE p).key ∧ g.key ≠ (F.NTS_KPOS.GEN p).key) → (c.sets l).get g = 1 →
      (c.sets l).rootSlots.vaultStart.bit g = true := fun g hblk hrestore hcur hpos hone => by
    rw [State.bit, State.get_vaultStart_ne _ hblk hrestore hcur hpos, hroot, hone]
    rfl
  refine ⟨_, hexec, ?_, ?_, ?_, hruns.memorySame⟩
  · exact hset _ (by decide) (by decide) (by decide) (fun p => ⟨by apply Fld.key_ne; omega, by apply Fld.key_ne; omega⟩)
      (State.get_sets_at c [] _ (by decide))
  · exact hset _ (by decide) (by decide) (by decide) (fun p => ⟨by apply Fld.key_ne; omega, by apply Fld.key_ne; omega⟩)
      (State.get_sets_at c [(F.KVT_STAT.DBG, 1)] _ (by decide))
  · exact hset _ (by decide) (by decide) (by decide) (fun p => ⟨by apply Fld.key_ne; omega, by apply Fld.key_ne; omega⟩)
      (State.get_sets_at c [(F.KVT_STAT.DBG, 1), (F.NTS_STAT.TESTKEY, 1)] _ (by decide))

/-- Settles O41, from what a slot that leaves READY and a vault emptied leave behind. -/
theorem vaultStoreAndRoots : Obligations.VaultStoreAndRoots :=
  ⟨fun _ _ _ hon hr hopen hhold hk => State.update_opens hon hr hopen hhold hk,
    fun _ _ _ hr hopen hhold hby hk he => State.update_fails hr hopen hhold hby hk he,
    fun _ _ _ _ hr hopen hby hcode htree hslot => State.update_loads hr hopen hby hcode htree hslot,
    fun _ _ hn => State.cell_faults hn, fun s => s.shares_refresh, fun s us => s.hold_tests us, fun _ _ hr => State.zeroises hr,
    fun _ _ _ hr hk hclear => State.zeroise_refused hr hk hclear, fun _ hdbg => State.debug_enters hdbg⟩

end Sys2Proof.Machine

/-! PROOF. Requests for a sleep state (R512, R513, R519). -/

namespace Sys2Proof.Machine

section
variable {s : State} {req : Requester} {d v : Nat}

/-- A write of REQ reaches the power controller. -/
theorem State.pwrReqWrite_of_reaches (hr : s.Reaches req (0x300100 + 0x20 * d)) (hd : d < 13) :
    exec (.pwrReqWrite req d v) s = .next ((s.set (F.XBR_TSTAT.OWNER 6) req.master).writeReq req d (v % 4)) := by
  change onUnit (decide (d < 13)) _ = _
  rw [decide_eq_true hd, onUnit_true, State.atFabric_of_reaches hr]

theorem reqAllowed_of_ne (h0 : d ≠ 0) (h5 : d ≠ 5) (h11 : d ≠ 11) : reqAllowed req d v = true := by
  simp [reqAllowed, h0, h5, h11]

/-- What becomes of a request in a domain whose REQ anyone may write and that does not enter a sleep state. -/
theorem State.writeReq_of_ne (h0 : d ≠ 0) (h5 : d ≠ 5) (h11 : d ≠ 11) (hent : s.bit (F.PWR_DOM_STAT.ENTERING d) = false) :
    s.writeReq req d v = if s.asleep d then
      (if (s.dm d).wakeStart.isSome then s.set (F.PWR_DOM_CTRL.REQ d) v
       else if v = s.get (F.PWR_DOM_STAT.STATE d) then s else s.beginWake d 1 0xF v)
      else s.takeReq d v := by
  simp [State.writeReq, reqAllowed_of_ne h0 h5 h11, h5, h11, hent]

/-- A request that the requester may not make. -/
theorem State.writeReq_of_not_allowed (h : reqAllowed req d v = false) : s.writeReq req d v = s.accessError req 7 (0x300100 + 0x20 * d) := by
  simp [State.writeReq, h]

/-- The fabric's owner does not bear on the power controller's registers. -/
theorem State.get_pwr_owner (s : State) (m : Nat) {off l w r : Nat} (hoff : off < 0x300400) (hl : l < 32) :
    (s.set (F.XBR_TSTAT.OWNER 6) m).get ⟨0, off, l, w, r⟩ = s.get ⟨0, off, l, w, r⟩ :=
  State.get_set_ne _ _ (by apply Fld.key_ne; omega)

theorem State.dm_updDom (s : State) (f : DomSt → DomSt) (hd : d < s.pwr.length) : (s.updDom d f).dm d = f (s.dm d) :=
  getD_modAt_self f {} hd

end

/-! A request in an awake domain. -/

/-- What the request of a state shows. -/
structure Requested (s t : State) (d v : Nat) : Prop where
  req : t.get (F.PWR_DOM_CTRL.REQ d) = v
  none : v = 0 → t.bit (F.PWR_DOM_STAT.WAITING d) = false
  one : v = 1 → t.bit (F.PWR_DOM_STAT.ENTERING d) = true ∧ t.bit (F.PWR_DOM_STAT.WAITING d) = false ∧ (t.dm d).target = 1
  waits : 2 ≤ v → t.bit (F.PWR_DOM_STAT.WAITING d) = true ∧ (s.bit (F.PWR_DOM_STAT.WAITING d) = false → (t.dm d).waitSince = s.raw)
  regs : RegsBut [F.PWR_DOM_CTRL.REQ d, F.PWR_DOM_STAT.WAITING d, F.PWR_DOM_STAT.ENTERING d] s t

section
variable (s : State) {d v : Nat}

theorem State.beginEntry_regs (t : Nat) : RegsBut [F.PWR_DOM_STAT.WAITING d, F.PWR_DOM_STAT.ENTERING d] s (s.beginEntry d t) :=
  .of_regs (.set (.set (.refl _ s) (by simp)) (by simp)) rfl

theorem State.beginEntry_shows (t : Nat) (hd : d < s.pwr.length) :
    (s.beginEntry d t).bit (F.PWR_DOM_STAT.WAITING d) = false ∧ (s.beginEntry d t).bit (F.PWR_DOM_STAT.ENTERING d) = true ∧
      ((s.beginEntry d t).dm d).target = t := by
  let a := s.set (F.PWR_DOM_STAT.WAITING d) 0
  refine ⟨?_, State.bit_set a 1 rfl, congrArg DomSt.target (State.dm_updDom (a.set (F.PWR_DOM_STAT.ENTERING d) 1) _ hd)⟩
  exact (State.bit_set_ne a 1 (by apply Fld.key_ne; omega)).trans (State.bit_set s 0 rfl)

theorem State.takeReq_shows (hv : v < 4) (hd : d < s.pwr.length) : Requested s (s.takeReq d v) d v := by
  let a := s.set (F.PWR_DOM_CTRL.REQ d) v
  have hreq : a.get (F.PWR_DOM_CTRL.REQ d) = v := State.get_set_of_lt s hv
  have ha : RegsBut [F.PWR_DOM_CTRL.REQ d, F.PWR_DOM_STAT.WAITING d, F.PWR_DOM_STAT.ENTERING d] s a := .set (.refl _ s) (by simp)
  have hstat : ∀ {l w r : Nat}, l < 32 → (F.PWR_DOM_CTRL.REQ d).key ≠ Fld.key ⟨0, 0x300104 + 0x20 * d, l, w, r⟩ := fun hl => by
    apply Fld.key_ne; omega
  unfold State.takeReq
  obtain rfl | rfl | h2 : v = 0 ∨ v = 1 ∨ 2 ≤ v := by omega
  · refine ⟨?_, fun _ => State.bit_set a 0 rfl, nofun, nofun, ha.set (by simp)⟩
    exact (State.get_set_ne a 0 (hstat (by omega))).trans hreq
  · obtain ⟨hwait, hent, htarget⟩ := a.beginEntry_shows 1 (d := d) hd
    refine ⟨?_, nofun, fun _ => ⟨hent, hwait, htarget⟩, by omega, ha.trans ((a.beginEntry_regs 1).mono (by simp))⟩
    refine ((State.get_set_ne _ 1 (hstat (by omega))).trans (State.get_set_ne a 0 (hstat (by omega)))).trans hreq
  · rw [if_neg (by omega), if_neg (by omega)]
    refine ⟨?_, by omega, by omega, fun _ => ⟨State.bit_set a 1 rfl, fun hw => ?_⟩, (ha.set (by simp)).of_regs rfl⟩
    · exact (State.get_set_ne a 1 (hstat (by omega))).trans hreq
    · refine (congrArg DomSt.waitSince (State.dm_updDom (a.set (F.PWR_DOM_STAT.WAITING d) 1) _ hd)).trans ?_
      simp [hw]

@[simp] theorem State.get_updDom (n : Nat) (f : DomSt → DomSt) (g : Fld) : (s.updDom n f).get g = s.get g := rfl

/-! A request in a domain that sleeps, and the wake it begins. -/

/-- What the record of a wake shows. -/
structure WakeShown (s t : State) (d src master req : Nat) : Prop where
  start : (t.dm d).wakeStart = some s.raw
  src : t.get (F.PWR_WAKE.WSRC d) = src
  master : t.get (F.PWR_WAKE.WREQ d) = master
  during : t.bit (F.PWR_WAKE.DURING d) = false
  tick : t.get (F.PWR_WAKET.TICK d) = s.raw % 2 ^ 64
  acc : t.get (F.PWR_SLEEP_ACC.TICKS d) = (s.get (F.PWR_SLEEP_ACC.TICKS d) + (s.raw - (s.dm d).sleepStart)) % 2 ^ 64
  req : t.get (F.PWR_DOM_CTRL.REQ d) = req

theorem State.beginWake_shows {src master req : Nat} (hd : d < s.pwr.length) (hsrc : src < 16) (hmaster : master < 16) (hreq : req < 4)
    (hent : s.bit (F.PWR_DOM_STAT.ENTERING d) = false) (hasleep : s.asleep d = true) (hstart : (s.dm d).wakeStart = none) :
    WakeShown s (s.beginWake d src master req) d src master req := by
  have hwake : s.beginWake d src master req = (s.set (F.PWR_DOM_CTRL.REQ d) req).recordWake d src master false := by
    simp [State.beginWake, hent, hasleep, hstart]
  rw [hwake]
  let a := s.set (F.PWR_DOM_CTRL.REQ d) req
  have hget : ∀ {o l w r : Nat}, o * 32 + l ≠ (0x300114 + 0x20 * d) * 32 → (a.recordWake d src master false).get ⟨0, o, l, w, r⟩ = (a.sets
      [(F.PWR_WAKE.WSRC d, src), (F.PWR_WAKE.WREQ d, master), (F.PWR_WAKE.DURING d, 0), (F.PWR_WAKE.FROM d, a.get (F.PWR_DOM_STAT.STATE d)),
        (F.PWR_WAKET.TICK d, s.raw)]).get ⟨0, o, l, w, r⟩ := fun hk => State.get_set_ne _ _ (by apply Fld.key_ne; omega)
  have hkeep : ∀ {o l w r : Nat}, o = 0x300114 + 0x20 * d ∨ o = 0x300100 + 0x20 * d → l = 0 → (a.sets
      [(F.PWR_WAKE.WSRC d, src), (F.PWR_WAKE.WREQ d, master), (F.PWR_WAKE.DURING d, 0), (F.PWR_WAKE.FROM d, a.get (F.PWR_DOM_STAT.STATE d)),
        (F.PWR_WAKET.TICK d, s.raw)]).get ⟨0, o, l, w, r⟩ = a.get ⟨0, o, l, w, r⟩ := fun ho hl =>
    State.get_sets_off a (by (repeat' apply And.intro) <;> (apply Fld.key_ne; omega))
  refine ⟨congrArg DomSt.wakeStart (State.dm_updDom (s := (a.sets _).bump (F.PWR_SLEEP_ACC.TICKS d) _) _ hd), ?_, ?_, ?_, ?_, ?_, ?_⟩
  · exact ((hget (by omega)).trans (State.get_sets_at a [] _ (by (repeat' apply And.intro) <;> (apply Fld.key_ne; omega)))).trans
      (Nat.mod_eq_of_lt hsrc)
  · exact ((hget (by omega)).trans (State.get_sets_at a [_] _ (by (repeat' apply And.intro) <;> (apply Fld.key_ne; omega)))).trans
      (Nat.mod_eq_of_lt hmaster)
  · exact bne_eq_false_iff_eq.mpr ((hget (by omega)).trans (State.get_sets_at a [_, _] _
      (by (repeat' apply And.intro) <;> (apply Fld.key_ne; omega))))
  · exact (hget (by omega)).trans (State.get_sets_at a [_, _, _, _] [] trivial)
  · refine (State.get_set_self _ _ _).trans (congrArg (fun x => (x + _) % 2 ^ 64) ((hkeep (.inl rfl) rfl).trans ?_))
    exact State.get_set_ne _ _ (by apply Fld.key_ne; omega)
  · exact ((hget (by omega)).trans (hkeep (.inr rfl) rfl)).trans (State.get_set_of_lt s hreq)

end

/-! A request that is withdrawn. -/

section
variable (s : State) {d : Nat} (hd : d < 13)
include hd

theorem State.sleepRequestWithdrawn_of (hw : s.bit (F.PWR_DOM_STAT.WAITING d) = true) (hlong : (s.dm d).waitSince + 6250000 ≤ s.raw) :
    exec (.sleepRequestWithdrawn d) s = .next (s.withdrawReq d) := by
  change onUnit (decide (d < 13)) _ = _
  rw [decide_eq_true hd, onUnit_true]
  exact next_when (by simp [hw, hlong]) _

theorem State.withdrawReq_shows : (s.withdrawReq d).get (F.PWR_DOM_CTRL.REQ d) = 0 ∧ (s.withdrawReq d).bit (F.PWR_DOM_STAT.WAITING d) = false ∧
    (s.withdrawReq d).bit (F.PWR_DOM_STAT.REFUSED d) = true ∧
    RegsBut [F.PWR_DOM_CTRL.REQ d, F.PWR_DOM_STAT.WAITING d, F.PWR_DOM_STAT.REFUSED d] s (s.withdrawReq d) := by
  let a := s.sets [(F.PWR_DOM_CTRL.REQ d, 0), (F.PWR_DOM_STAT.WAITING d, 0)]
  let b := a.pwrFlag (F.PWR_DOM_STAT.REFUSED d) d
  have hregs : (s.withdrawReq d).regs = b.regs := by
    unfold State.withdrawReq
    dsimp only
    split <;> rfl
  have hget : ∀ f, (s.withdrawReq d).get f = b.get f := State.get_congr hregs
  have hflag : ∀ {o l w r : Nat}, ((o * 32 + l) / 0x2000000 % 64 ≠ 0x11) → o * 32 + l ≠ (0x300104 + 0x20 * d) * 32 + 24 →
      b.get ⟨0, o, l, w, r⟩ = a.get ⟨0, o, l, w, r⟩ := fun hb hk =>
    State.flag_get_ne a d _ (by omega) (by apply Fld.blk_ne; omega) (by apply Fld.key_ne; omega)
  refine ⟨?_, ?_, ?_, ?_⟩
  · refine (hget _).trans ((hflag (by omega) (by omega)).trans ?_)
    exact (State.get_set_ne _ _ (by apply Fld.key_ne; omega)).trans (State.get_set_self s _ 0)
  · refine (State.bit_eq_of_get ((hget _).trans (hflag (by omega) (by omega)))).trans ?_
    exact State.bit_set _ 0 rfl
  · exact (State.bit_eq_of_get (hget _)).trans (State.flag_get a d _ (by omega) rfl (by apply Fld.blk_ne; omega))
  · refine .of_regs (.flag (.sets (.refl _ s) ?_) (by omega) (by simp)) hregs
    simp

end

/-- Settles O51, by what a request does in an awake and in a sleeping domain. -/
theorem sleepRequests : Obligations.SleepRequests := by
  refine ⟨fun s req d v hr h1 hd h5 h11 hv hp hent => ?_, fun s req v hr hclear => ?_, fun s req v hr hsup hclear => ?_, fun s d hd hp hw => ?_,
    fun s hp hst hent => ?_⟩
  · have hexec := State.pwrReqWrite_of_reaches (v := v) hr hd
    let a := s.set (F.XBR_TSTAT.OWNER 6) req.master
    have hget : ∀ {off l w r : Nat}, off < 0x300400 → l < 32 → a.get ⟨0, off, l, w, r⟩ = s.get ⟨0, off, l, w, r⟩ := s.get_pwr_owner req.master
    have hent' : a.bit (F.PWR_DOM_STAT.ENTERING d) = false := (State.bit_eq_of_get (hget (by omega) (by omega))).trans hent
    have hstate : a.get (F.PWR_DOM_STAT.STATE d) = s.get (F.PWR_DOM_STAT.STATE d) := hget (by omega) (by omega)
    have hasleep' : a.asleep d = s.asleep d := by rw [State.asleep, hstate, State.asleep]
    rw [Nat.mod_eq_of_lt hv, State.writeReq_of_ne (by omega) h5 h11 hent', hasleep'] at hexec
    refine ⟨fun hawake => ?_, fun hasleep hstart hne => ?_⟩
    · rw [hawake] at hexec
      obtain ⟨hreq, hnone, hone, hwaits, hregs⟩ := a.takeReq_shows (d := d) hv (by simpa [a] using hp ▸ hd)
      refine ⟨_, hexec, hreq, hnone, hone, fun h2 => ⟨(hwaits h2).1, fun hw => (hwaits h2).2 ?_⟩, ?_⟩
      · exact (State.bit_eq_of_get (hget (by omega) (by omega))).trans hw
      · exact RegsBut.trans (.set (.refl _ s) (by simp)) (hregs.mono (by simp))
    · have hnone : (a.dm d).wakeStart.isSome = false := by rw [show a.dm d = s.dm d from rfl, hstart]; rfl
      rw [hasleep, if_pos rfl, if_neg (by simp [hnone]), hstate, if_neg hne] at hexec
      have hshown := a.beginWake_shows (d := d) (src := 1) (master := 0xF) (by simpa [a] using hp ▸ hd) (by decide) (by decide) hv hent'
        (hasleep'.trans hasleep) hstart
      exact ⟨_, hexec, hshown.req, hshown.start, hshown.src, hshown.master⟩
  · have hexec := State.pwrReqWrite_of_reaches (d := 0) (v := v) hr (by decide)
    rw [State.writeReq_of_not_allowed rfl] at hexec
    exact ⟨_, hexec, State.accessError_cause ((State.bit_set_ne s _ (by decide)).trans hclear) req 7 _ (by decide), (State.accessError_parts _ _
      _ _).pwr⟩
  · have hexec := State.pwrReqWrite_of_reaches (d := 5) (v := v) hr (by decide)
    rw [State.writeReq_of_not_allowed (by simp [reqAllowed, hsup])] at hexec
    exact ⟨_, hexec, State.accessError_cause ((State.bit_set_ne s _ (by decide)).trans hclear) req 7 _ (by decide), (State.accessError_parts _ _
      _ _).pwr⟩
  · have hbegin : exec (.sleepEntryBegin d) s = .next (s.when (s.bit (F.PWR_DOM_STAT.WAITING d) && s.mayEnter d)
        (fun s => s.beginEntry d (s.get (F.PWR_DOM_CTRL.REQ d)))) := by
      change onUnit (decide (d < 13)) _ = _
      rw [decide_eq_true hd, onUnit_true]
    refine ⟨fun hmay => ?_, fun hmay => ?_, fun hlong => ?_⟩
    · rw [hw, hmay] at hbegin
      obtain ⟨hwait, hent, htarget⟩ := s.beginEntry_shows (s.get (F.PWR_DOM_CTRL.REQ d)) (hp ▸ hd)
      exact ⟨_, hbegin, hwait, hent, htarget, s.beginEntry_regs _⟩
    · rw [hbegin, hmay, Bool.and_false]; rfl
    · exact ⟨_, s.sleepRequestWithdrawn_of hd hw hlong, s.withdrawReq_shows hd⟩
  · refine ⟨_, next_when (by simp [hst, hent]) _, ?_⟩
    let a := s.updSys (fun y => { y with lowPower := true })
    obtain ⟨-, hent, htarget⟩ := a.beginEntry_shows 1 (d := 11) (by simp [a, State.updSys, hp])
    exact ⟨hent, htarget, rfl, (a.beginEntry_regs 1)⟩

end Sys2Proof.Machine

/-! PROOF. Timers, event queues and enables (R555, R556, R559). -/

namespace Sys2Proof.Machine

/-! What an occurrence leaves of the event block's own registers. -/

/-- The registers below the counts, the timers' among them. -/
theorem State.get_occur_below (s : State) {ev : Nat} {f : Fld} (bit inst detail : Nat) (he : ev < 128) (hf : f.key < 0x1100300 * 32) :
    (s.occur ev bit inst detail).get f = s.get f := by
  have htell : ∀ (t : State) (r : EvRec) {side : Nat}, side < 2 → r.ev < 128 → (t.tellSide side r).get f = t.get f := fun t r _ hs hr => by
    refine State.get_tellSide_ne t r ?_ ?_ ?_ (fun w hw => ?_) hr <;>
      simp only [Fld.key, F.EVT_COUNT.COUNT, F.EVT_QSTAT.PROD, F.EVT_QSTAT.LOST, F.EVT_PEND.PEND] at hf ⊢ <;> omega
  unfold State.occur State.occurAt
  rw [htell _ _ (by decide) he, htell _ _ (by decide) he]
  exact State.get_bump_ne s 1 (by simp only [Fld.key, F.EVT_COUNT.COUNT] at hf ⊢; omega)

/-- What an occurrence does not write of a side's queue. -/
theorem State.get_occur_cons (s : State) {ev side : Nat} (bit inst detail : Nat) (he : ev < 128) :
    (s.occur ev bit inst detail).get (F.EVT_QCONS.CONS side) = s.get (F.EVT_QCONS.CONS side) := by
  have htell : ∀ (t : State) (r : EvRec) {side' : Nat}, side' < 2 → r.ev < 128 → (t.tellSide side' r).get (F.EVT_QCONS.CONS side) =
      t.get (F.EVT_QCONS.CONS side) := fun t r _ hs' hr => by
    refine State.get_tellSide_ne t r ?_ ?_ ?_ (fun w hw => ?_) hr <;>
      (apply Fld.key_ne; omega)
  unfold State.occur State.occurAt
  rw [htell _ _ (by decide) he, htell _ _ (by decide) he]
  exact State.get_bump_ne s 1 (by apply Fld.key_ne; omega)

/-! A record that finds its queue full. -/

/-- What a dropped record shows. -/
structure Dropped (s t : State) (side : Nat) : Prop where
  prod : t.get (F.EVT_QSTAT.PROD side) = s.get (F.EVT_QSTAT.PROD side)
  lost : t.get (F.EVT_QSTAT.LOST side) = min 255 (s.get (F.EVT_QSTAT.LOST side) + 1)
  queue : t.evt.queue side = s.evt.queue side
  told : t.evPending side 87 = true

section
variable {s : State} {side ev : Nat}

theorem State.tellSide_drops (r : EvRec) (he : r.ev < 128) (hen : s.evEnabled side r.ev = true)
    (hfull : 32 ≤ (s.get (F.EVT_QSTAT.PROD side) + 256 - s.get (F.EVT_QCONS.CONS side)) % 256) : Dropped s (s.tellSide side r) side := by
  have hpush : s.pushRecord side r = s.dropRecord side := if_pos hfull
  have htell : s.tellSide side r = (s.dropRecord side).pendAndTell side r.ev := by rw [State.tellSide, if_pos hen, hpush]
  have hget : ∀ {l w i : Nat}, l < 32 → (s.tellSide side r).get ⟨0, 0x1101020 + 0x1000 * side, l, w, i⟩ =
      (s.bumpSat (F.EVT_QSTAT.LOST side)).get ⟨0, 0x1101020 + 0x1000 * side, l, w, i⟩ := fun hl => by
    rw [htell, State.get_pendAndTell_ne _ (by apply Fld.key_ne; omega), State.dropRecord, State.get_pendAndTell_ne _ (by apply Fld.key_ne; omega),
      State.get_bump_ne _ _ (by apply Fld.key_ne; omega)]
  refine ⟨?_, ?_, ?_, ?_⟩
  · exact (hget (by omega)).trans (State.get_bumpSat_ne s 1 (by apply Fld.key_ne; omega))
  · exact (hget (by omega)).trans (State.get_bumpSat_self s _ 1)
  · rw [htell, State.pendAndTell_evt, State.dropRecord, State.pendAndTell_evt]
    rfl
  · rw [htell]
    exact State.evPending_pendAndTell_of_pending (State.evPending_pendAndTell _ _ 87) _ _

/-- An occurrence of an event of no island that side 0 records, but whose queue is full. -/
theorem State.occur_drops (bit inst detail : Nat) (he : ev < 128) (hisland : evIsland ev = none) (hen : s.evEnabled 0 ev = true)
    (hfull : 32 ≤ (s.get (F.EVT_QSTAT.PROD 0) + 256 - s.get (F.EVT_QCONS.CONS 0)) % 256) : Dropped s (s.occur ev bit inst detail) 0 := by
  let a := s.bump (F.EVT_COUNT.COUNT ev)
  let r := s.recordNow ev bit inst detail
  have hget : ∀ {o l w i : Nat}, 0x1101000 ≤ o → a.get ⟨0, o, l, w, i⟩ = s.get ⟨0, o, l, w, i⟩ := fun ho =>
    State.get_bump_ne s 1 (by apply Fld.key_ne; omega)
  have hfirst : Dropped a (a.tellSide 0 r) 0 := by
    refine State.tellSide_drops r he ?_ ?_
    · rw [State.evEnabled, show a.get (F.EVT_EN.EN 0 (r.ev / 32)) = s.get (F.EVT_EN.EN 0 (r.ev / 32)) from hget (by omega)]
      exact hen
    · rw [show a.get (F.EVT_QSTAT.PROD 0) = s.get (F.EVT_QSTAT.PROD 0) from hget (by omega),
        show a.get (F.EVT_QCONS.CONS 0) = s.get (F.EVT_QCONS.CONS 0) from hget (by omega)]
      exact hfull
  have hsecond := (a.tellSide 0 r).tellSide_queueSame_of_ne (side := 0) (other := 1) (r := r) (by decide) (by decide) (by decide) he
  have hlost : ((a.tellSide 0 r).tellSide 1 r).get (F.EVT_QSTAT.LOST 0) = (a.tellSide 0 r).get (F.EVT_QSTAT.LOST 0) := by
    refine State.get_tellSide_ne _ r ?_ ?_ ?_ (fun w hw => ?_) he <;> (apply Fld.key_ne; omega)
  rw [State.occur_of_no_island hisland]
  refine ⟨?_, ?_, ?_, ?_⟩
  · exact ((hsecond.regs _ (queueField_prod 0)).trans hfirst.prod).trans (hget (by omega))
  · exact (hlost.trans hfirst.lost).trans (congrArg (fun x => min 255 (x + 1)) (hget (by omega)))
  · exact hsecond.queue.trans hfirst.queue
  · exact State.evPending_tellSide_of_pending (by decide) hfirst.told 1 r

end

/-! Timers. -/

section
variable {s : State} {n d : Nat} (hd : s.dnow = some d)
include hd

theorem State.timerFire_of_not_due (h : d < s.evt.targets.getD n 0 * 65536) : s.timerFire n = s := by
  unfold State.timerFire
  rw [hd]
  exact if_neg (by rw [State.timerTarget, decide_eq_false (Nat.not_le.mpr h), Bool.and_false]; decide)

theorem State.timerFire_of_due (hen : s.bit (F.EVT_TMR_NS.EN n) = true) (h : s.evt.targets.getD n 0 * 65536 ≤ d) :
    s.timerFire n =
      if s.get (F.EVT_TMR_PER.PER n) = 0 then (s.occur (27 + n) 0xFF n (s.evt.targets.getD n 0 / 1000000000)).set (F.EVT_TMR_NS.EN n) 0
      else (s.occur (27 + n) 0xFF n (s.evt.targets.getD n 0 / 1000000000)).setTarget n
        (s.evt.targets.getD n 0 + s.get (F.EVT_TMR_PER.PER n) * 1000000) := by
  unfold State.timerFire
  rw [hd]
  exact if_pos (by rw [State.timerTarget, decide_eq_true h, hen]; rfl)

end

/-- The targets are no part of what an occurrence writes. -/
theorem State.occur_targets (s : State) (ev bit inst detail : Nat) : (s.occur ev bit inst detail).evt.targets = s.evt.targets := by
  have hpush : ∀ (t : State) (side : Nat) (r : EvRec), (t.pushRecord side r).evt.targets = t.evt.targets := fun t side r => by
    unfold State.pushRecord State.dropRecord
    dsimp only
    split
    · rw [State.pendAndTell_evt]; rfl
    · split <;> rfl
  have htell : ∀ (t : State) (side : Nat) (r : EvRec), (t.tellSide side r).evt.targets = t.evt.targets := fun t side r => by
    unfold State.tellSide
    rw [State.pendAndTell_evt]
    split
    · exact hpush t side r
    · rfl
  unfold State.occur State.occurAt
  exact (htell _ 1 _).trans (htell _ 0 _)

/-! A write that arms a timer. -/

/-- The state in which a write of a timer's registers arms it. -/
def State.timerSet (s : State) (n sec ns per : Nat) : State :=
  (s.sets [(F.EVT_TMR.SEC n, sec), (F.EVT_TMR_PER.PER n, per), (F.EVT_TMR_NS.NS n, ns), (F.EVT_TMR_NS.EN n, 1)]).setTarget n (sec * 1000000000 + ns)

section
variable (s : State) {req : Requester} {n sec ns per : Nat} (hn : n < 5)
include hn

theorem State.evtTimerArm_of_reaches (hr : s.Reaches req (0x1100048 + 0x10 * n)) :
    exec (.evtTimerArm req n sec ns per) s = .next (let a := s.set (F.XBR_TSTAT.OWNER 6) req.master
      if 1000000000 ≤ ns then a.accessError req 4 (0x1100048 + 0x10 * n)
      else (a.sets [(F.EVT_TMR.SEC n, sec), (F.EVT_TMR_PER.PER n, per), (F.EVT_TMR_NS.NS n, ns), (F.EVT_TMR_NS.EN n, 1)]).armTimer n) := by
  change onUnit (decide (n < 5)) _ = _
  rw [decide_eq_true hn, onUnit_true, State.atFabric_of_reaches hr]

/-- A timer's registers after the write. -/
theorem State.timerSet_shows (hsec : sec < 2 ^ 48) (hns : ns < 1000000000) (hper : per < 2 ^ 32) (hlen : s.evt.targets.length = 5) :
    (s.timerSet n sec ns per).get (F.EVT_TMR.SEC n) = sec ∧ (s.timerSet n sec ns per).get (F.EVT_TMR_PER.PER n) = per ∧
      (s.timerSet n sec ns per).get (F.EVT_TMR_NS.NS n) = ns ∧ (s.timerSet n sec ns per).bit (F.EVT_TMR_NS.EN n) = true ∧
      (s.timerSet n sec ns per).evt.targets.getD n 0 = sec * 1000000000 + ns ∧
      (s.timerSet n sec ns per).get (F.EVT_COUNT.COUNT (27 + n)) = s.get (F.EVT_COUNT.COUNT (27 + n)) := by
  refine ⟨?_, ?_, ?_, ?_, getD_modAt_self _ 0 (hlen ▸ hn), ?_⟩
  · exact (State.get_sets_at s [] _ (by (repeat' apply And.intro) <;> (apply Fld.key_ne; omega))).trans (Nat.mod_eq_of_lt hsec)
  · exact (State.get_sets_at s [_] _ (by (repeat' apply And.intro) <;> (apply Fld.key_ne; omega))).trans (Nat.mod_eq_of_lt hper)
  · exact (State.get_sets_at s [_, _] _ (by apply Fld.key_ne; omega)).trans
      (Nat.mod_eq_of_lt (show ns < 2 ^ 30 by omega))
  · exact bne_iff_ne.mpr (ne_of_eq_of_ne (State.get_sets_at s [_, _, _] [] trivial) Nat.one_ne_zero)
  · exact State.get_sets_off s (by (repeat' apply And.intro) <;> (apply Fld.key_ne; omega))

omit hn in
theorem State.armTimer_of_set (hsec : sec < 2 ^ 48) (hns : ns < 1000000000) :
    (s.sets [(F.EVT_TMR.SEC n, sec), (F.EVT_TMR_PER.PER n, per), (F.EVT_TMR_NS.NS n, ns), (F.EVT_TMR_NS.EN n, 1)]).armTimer n =
      (s.timerSet n sec ns per).timerFire n := by
  let a := s.sets [(F.EVT_TMR.SEC n, sec), (F.EVT_TMR_PER.PER n, per), (F.EVT_TMR_NS.NS n, ns), (F.EVT_TMR_NS.EN n, 1)]
  have hs : a.get (F.EVT_TMR.SEC n) = sec :=
    (State.get_sets_at s [] _ (by (repeat' apply And.intro) <;> (apply Fld.key_ne; omega))).trans (Nat.mod_eq_of_lt hsec)
  have hq : a.get (F.EVT_TMR_NS.NS n) = ns := (State.get_sets_at s [_, _] _ (by apply Fld.key_ne; omega)).trans
    (Nat.mod_eq_of_lt (show ns < 2 ^ 30 by omega))
  rw [State.armTimer, hs, hq]
  rfl

end

/-! The enables of a side. -/

/-- Messages change no register. -/
theorem State.get_messages (s : State) (p : State → Nat → Bool) (side group : Nat) (l : List Nat) (f : Fld) :
    (l.foldl (fun u k => if p u k then u.message side (32 * group + k) else u) s).get f = s.get f := by
  refine foldl_keeps (fun t => t.get f) (fun t k => ?_) l s
  split
  · exact State.get_message _ _ _ f
  · rfl

/-- No message is sent where no event meets its condition. -/
theorem foldl_eq_self {α : Type} {f : State → α → State} {s : State} {l : List α} (h : ∀ a ∈ l, f s a = s) : l.foldl f s = s := by
  induction l with
  | nil => rfl
  | cons a l ih =>
    rw [List.foldl_cons, h a List.mem_cons_self]
    exact ih fun b hb => h b (List.mem_cons_of_mem a hb)

section
variable (s : State) {side group v : Nat}

theorem State.get_writeEnables (f : Fld) : (s.writeEnables side group v).get f = (s.set (F.EVT_EN.EN side group) v).get f :=
  State.get_messages _ (fun u k => v.testBit k && !(s.get (F.EVT_EN.EN side group)).testBit k && u.evPending side (32 * group + k)) side group _ f

theorem State.writeEnables_of_none (h : ∀ k < 32, s.evPending side (32 * group + k) = false) :
    s.writeEnables side group v = s.set (F.EVT_EN.EN side group) v := by
  refine foldl_eq_self fun k hk => if_neg ?_
  have hlt := List.mem_range.mp hk
  have hsame : (s.set (F.EVT_EN.EN side group) v).evPending side (32 * group + k) = s.evPending side (32 * group + k) := by
    rw [State.evPending, State.get_set_ne s v (by apply Fld.key_ne; omega), State.evPending]
  rw [hsame, h k hlt, Bool.and_false]
  decide

end

/-! The clauses of the obligation, one by one. -/

theorem State.signalInstruction_drops {s : State} {engine k : Nat} (he : engine < 16) (hk : k < 16) (hen : s.evEnabled 0 (48 + k) = true)
    (hfull : 32 ≤ (s.get (F.EVT_QSTAT.PROD 0) + 256 - s.get (F.EVT_QCONS.CONS 0)) % 256) :
    ∃ t, exec (.signalInstruction engine k) s = .next t ∧ t.get (F.EVT_QSTAT.PROD 0) = s.get (F.EVT_QSTAT.PROD 0) ∧ t.evt.q0 = s.evt.q0 ∧
      t.get (F.EVT_QSTAT.LOST 0) = min 255 (s.get (F.EVT_QSTAT.LOST 0) + 1) ∧ t.evPending 0 87 = true := by
  have hexec : exec (.signalInstruction engine k) s = .next (s.occur (swEvent k) 0xFF 6 engine) := by
    change onUnit (decide (engine < 16) && decide (k < 16)) _ = _
    rw [decide_eq_true he, decide_eq_true hk]
    rfl
  obtain ⟨hprod, hlost, hqueue, htold⟩ := State.occur_drops 0xFF 6 engine (swEvent_lt (k := k) (by omega)) (evIsland_swEvent (by omega))
    (by rw [swEvent_of_lt hk]; exact hen) hfull
  exact ⟨_, hexec, hprod, hqueue, hlost, htold⟩

theorem State.evtTimerArm_ahead {s : State} {req : Requester} {n sec ns per d : Nat} (hn : n < 5) (hr : s.Reaches req (0x1100048 + 0x10 * n))
    (hns : ns < 1000000000) (hsec : sec < 2 ^ 48) (hper : per < 2 ^ 32) (hlen : s.evt.targets.length = 5) (hd : s.dnow = some d)
    (hlate : d < (sec * 1000000000 + ns) * 65536) :
    ∃ t, exec (.evtTimerArm req n sec ns per) s = .next t ∧ t.bit (F.EVT_TMR_NS.EN n) = true ∧ t.get (F.EVT_TMR_NS.NS n) = ns ∧
      t.get (F.EVT_TMR_PER.PER n) = per ∧ t.evt.targets.getD n 0 = sec * 1000000000 + ns ∧
      t.get (F.EVT_COUNT.COUNT (27 + n)) = s.get (F.EVT_COUNT.COUNT (27 + n)) := by
  let a := s.set (F.XBR_TSTAT.OWNER 6) req.master
  obtain ⟨-, hp, hq, hb, ht, hc⟩ := a.timerSet_shows hn hsec hns hper hlen
  have hexec := s.evtTimerArm_of_reaches (sec := sec) (ns := ns) (per := per) hn hr
  rw [if_neg (by omega), State.armTimer_of_set _ hsec hns, State.timerFire_of_not_due (s := a.timerSet n sec ns per) hd (ht.symm ▸ hlate)] at hexec
  exact ⟨_, hexec, hb, hq, hp, ht, hc.trans (State.get_count_owner s _ (by omega))⟩

theorem State.evtTimerArm_once {s : State} {req : Requester} {n sec ns per d : Nat} (hn : n < 5) (hr : s.Reaches req (0x1100048 + 0x10 * n))
    (hns : ns < 1000000000) (hsec : sec < 2 ^ 48) (hper : per < 2 ^ 32) (hlen : s.evt.targets.length = 5) (hd : s.dnow = some d)
    (hdue : (sec * 1000000000 + ns) * 65536 ≤ d) (hzero : per = 0) :
    ∃ t, exec (.evtTimerArm req n sec ns per) s = .next t ∧ t.bit (F.EVT_TMR_NS.EN n) = false ∧
      t.get (F.EVT_COUNT.COUNT (27 + n)) = (s.get (F.EVT_COUNT.COUNT (27 + n)) + 1) % 2 ^ 32 := by
  let a := s.set (F.XBR_TSTAT.OWNER 6) req.master
  obtain ⟨-, hp, hq, hb, ht, hc⟩ := a.timerSet_shows hn hsec hns hper hlen
  have hexec := s.evtTimerArm_of_reaches (sec := sec) (ns := ns) (per := per) hn hr
  rw [if_neg (by omega), State.armTimer_of_set _ hsec hns, State.timerFire_of_due (s := a.timerSet n sec ns per) hd hb (ht.symm ▸ hdue), if_pos
    (hp.trans hzero)]
    at hexec
  refine ⟨_, hexec, State.bit_set _ 0 rfl, (State.get_set_ne _ _ (by apply Fld.key_ne; omega)).trans ?_⟩
  refine (State.get_count_occur _ _ _ _ (by omega) (by omega)).trans ?_
  rw [hc, State.get_count_owner s _ (by omega)]

theorem State.evtTimerArm_refuses {s : State} {req : Requester} {n ns : Nat} (sec per : Nat) (hn : n < 5) (hr : s.Reaches req (0x1100048 + 0x10 * n))
    (hns : 1000000000 ≤ ns) (hclear : s.bit F.XBR_AERR.AERR = false) :
    ∃ t, exec (.evtTimerArm req n sec ns per) s = .next t ∧ t.get F.XBR_AERR.CAUSE = 4 ∧ t.get (F.EVT_TMR_NS.EN n) = s.get (F.EVT_TMR_NS.EN n) ∧
      t.evt.targets = s.evt.targets := by
  have hexec := s.evtTimerArm_of_reaches (sec := sec) (ns := ns) (per := per) hn hr
  have hserving : (s.set (F.XBR_TSTAT.OWNER 6) req.master).bit F.XBR_AERR.AERR = false := (State.bit_set_ne s _ (by decide)).trans hclear
  rw [if_pos hns] at hexec
  refine ⟨_, hexec, State.accessError_cause hserving req 4 _ (by decide), ?_, ?_⟩
  · rw [State.accessError_of_clear hserving]
    refine (State.get_occur_below _ _ _ _ (by decide) ?_).trans ((State.get_aerrRecorded_ne _ _ _ _ ?_).trans
      (State.get_set_ne s _ (by apply Fld.key_ne; omega)))
    · simp only [Fld.key, F.EVT_TMR_NS.EN]; omega
    · simp only [List.forall_mem_cons]
      refine ⟨?_, ?_, ?_, ?_, nofun⟩ <;> (apply Fld.key_ne; omega)
  · rw [State.accessError_of_clear hserving]
    exact State.occur_targets _ _ _ _ _

theorem State.evtTimerExpiry_due {s : State} {n d : Nat} (hn : n < 5) (hd : s.dnow = some d) (hen : s.bit (F.EVT_TMR_NS.EN n) = true)
    (hlen : s.evt.targets.length = 5) (hdue : s.evt.targets.getD n 0 * 65536 ≤ d) :
    ∃ t, exec (.evtTimerExpiry n) s = .next t ∧ t.get (F.EVT_COUNT.COUNT (27 + n)) = (s.get (F.EVT_COUNT.COUNT (27 + n)) + 1) % 2 ^ 32 ∧
      (s.get (F.EVT_TMR_PER.PER n) = 0 → t.bit (F.EVT_TMR_NS.EN n) = false) ∧
      (s.get (F.EVT_TMR_PER.PER n) ≠ 0 → t.bit (F.EVT_TMR_NS.EN n) = true ∧
        t.evt.targets.getD n 0 = s.evt.targets.getD n 0 + s.get (F.EVT_TMR_PER.PER n) * 1000000) ∧ RegsOutside [0x11] s t := by
  have hexec : exec (.evtTimerExpiry n) s = .next (s.timerFire n) := by
    change onUnit (decide (n < 5)) _ = _
    rw [decide_eq_true hn, onUnit_true]
  rw [State.timerFire_of_due hd hen hdue] at hexec
  by_cases hper : s.get (F.EVT_TMR_PER.PER n) = 0
  · rw [if_pos hper] at hexec
    refine ⟨_, hexec, ?_, fun _ => State.bit_set _ 0 rfl, fun h => absurd hper h, ?_⟩
    · exact (State.get_set_ne _ _ (by apply Fld.key_ne; omega)).trans (State.get_count_occur s _ _ _ (by omega) (by omega))
    · exact .set (.occur (.refl _ s) (by omega) (by simp)) (by simp only [List.mem_singleton]; apply Fld.blk_eq; omega)
  · rw [if_neg hper] at hexec
    refine ⟨_, hexec, State.get_count_occur s _ _ _ (by omega) (by omega), fun h => absurd h hper, fun _ => ⟨?_, ?_⟩,
      .of_regs (.occur (.refl _ s) (ev := 27 + n) (by omega) (by simp)) rfl⟩
    · refine (State.bit_eq_of_get (State.get_occur_below s _ _ _ (by omega) ?_)).trans hen
      simp only [Fld.key, F.EVT_TMR_NS.EN]; omega
    · exact getD_modAt_self _ 0 (by rw [State.occur_targets, hlen]; exact hn)

/-- The consumer index moves forwards and to PROD at most. -/
theorem State.evtQconsWrite_moves {s : State} {req : Requester} {side : Nat} (v : Nat) (hs : side < 2)
    (hr : s.Reaches req (0x1101024 + 0x1000 * side)) :
    let room := (s.get (F.EVT_QSTAT.PROD side) + 256 - s.get (F.EVT_QCONS.CONS side)) % 256
    let move := (v % 256 + 256 - s.get (F.EVT_QCONS.CONS side)) % 256
    (move ≤ room → ∃ t, exec (.evtQconsWrite req side v) s = .next t ∧ t.get (F.EVT_QCONS.CONS side) = v % 256 ∧ t.evt = s.evt ∧
      RegsBut [F.XBR_TSTAT.OWNER 6] s t) ∧
    (room < move → s.bit F.XBR_AERR.AERR = false → ∃ t, exec (.evtQconsWrite req side v) s = .next t ∧
      t.get (F.EVT_QCONS.CONS side) = s.get (F.EVT_QCONS.CONS side) ∧ t.get F.XBR_AERR.CAUSE = 7) := by
  have hexec : exec (.evtQconsWrite req side v) s = .next ((s.set (F.XBR_TSTAT.OWNER 6) req.master).writeQcons req side v) := by
    change onUnit (decide (side < 2)) _ = _
    rw [decide_eq_true hs, onUnit_true, State.atFabric_of_reaches hr]
  have hcons : (s.set (F.XBR_TSTAT.OWNER 6) req.master).get (F.EVT_QCONS.CONS side) = s.get (F.EVT_QCONS.CONS side) :=
    State.get_set_ne s _ (by apply Fld.key_ne; omega)
  have hprod : (s.set (F.XBR_TSTAT.OWNER 6) req.master).get (F.EVT_QSTAT.PROD side) = s.get (F.EVT_QSTAT.PROD side) :=
    State.get_set_ne s _ (by apply Fld.key_ne; omega)
  unfold State.writeQcons at hexec
  rw [hcons, hprod] at hexec
  refine ⟨fun hle => ?_, fun hlt hclear => ?_⟩
  · rw [if_pos hle] at hexec
    refine ⟨_, hexec, State.get_set_of_lt _ (Nat.mod_lt _ (by decide)), rfl, fun f hb hf => ?_⟩
    refine (State.get_set_ne _ _ fun hk => hb ((Fld.blk_of_key hk).trans ?_)).trans (State.get_set_ne s _ (hf _ (by simp)))
    apply Fld.blk_eq; omega
  · have hserving : (s.set (F.XBR_TSTAT.OWNER 6) req.master).bit F.XBR_AERR.AERR = false := (State.bit_set_ne s _ (by decide)).trans hclear
    rw [if_neg (by omega)] at hexec
    refine ⟨_, hexec, ?_, State.accessError_cause hserving req 7 _ (by decide)⟩
    rw [State.accessError_of_clear hserving]
    refine (State.get_occur_cons _ _ _ _ (by decide)).trans ((State.get_aerrRecorded_ne _ _ _ _ ?_).trans hcons)
    simp only [List.forall_mem_cons]
    refine ⟨?_, ?_, ?_, ?_, nofun⟩ <;> (apply Fld.key_ne; omega)

theorem State.evtEnWrite_whole {s : State} {req : Requester} {side group v : Nat} (hs : side < 2) (hg : group < 3) (hv : v < 2 ^ 32)
    (hr : s.Reaches req (0x1101010 + 0x1000 * side + 4 * group)) :
    ∃ t, exec (.evtEnWrite req side group v) s = .next t ∧ t.get (F.EVT_EN.EN side group) = v ∧
      (∀ f : Fld, f.key ≠ (F.EVT_EN.EN side group).key → f.key ≠ (F.XBR_TSTAT.OWNER 6).key → t.get f = s.get f) ∧
      ((∀ k < 32, s.evPending side (32 * group + k) = false) → t.out = s.out ∧ t.sys = s.sys) := by
  let a := s.set (F.XBR_TSTAT.OWNER 6) req.master
  have hexec : exec (.evtEnWrite req side group v) s = .next (a.writeEnables side group v) := by
    change onUnit (decide (side < 2) && decide (group < 3)) _ = _
    rw [decide_eq_true hs, decide_eq_true hg]
    exact congrArg Host.Outcome.next (State.atFabric_of_reaches hr _)
  refine ⟨_, hexec, (a.get_writeEnables _).trans (State.get_set_of_lt a hv), fun f hf ho => ?_, fun hnone => ?_⟩
  · exact ((a.get_writeEnables f).trans (State.get_set_ne a v hf)).trans (State.get_set_ne s _ ho)
  · have hnone' : ∀ k < 32, a.evPending side (32 * group + k) = false := fun k hk => by
      rw [State.evPending, show a.get (F.EVT_PEND.PEND side ((32 * group + k) / 32)) = s.get (F.EVT_PEND.PEND side ((32 * group + k) / 32)) from
        State.get_set_ne s _ (by apply Fld.key_ne; omega)]
      exact hnone k hk
    rw [a.writeEnables_of_none hnone']
    exact ⟨rfl, rfl⟩

/-- Settles O57, by the writes and the occurrences of the event block. -/
theorem timersQueuesAndEnables : Obligations.TimersQueuesAndEnables := by
  refine ⟨fun s engine k he hk hen hfull => ?_, fun s req n sec ns per d hn hr hns hsec hper hlen hd => ⟨fun hlate => ?_, fun hdue hzero => ?_⟩,
    fun s req n sec ns per hn hr hns hclear => ?_, fun s n d hn hd hen hlen => ⟨fun hdue => ?_, fun hlate => ?_⟩, fun s req side v hs hr => ?_,
    fun s req side group v hs hg hv hr => ?_⟩
  · exact State.signalInstruction_drops he hk hen hfull
  · exact State.evtTimerArm_ahead hn hr hns hsec hper hlen hd hlate
  · exact State.evtTimerArm_once hn hr hns hsec hper hlen hd hdue hzero
  · exact State.evtTimerArm_refuses sec per hn hr hns hclear
  · exact State.evtTimerExpiry_due hn hd hen hlen hdue
  · change onUnit (decide (n < 5)) _ = _
    rw [decide_eq_true hn, onUnit_true, State.timerFire_of_not_due hd hlate]
  · exact State.evtQconsWrite_moves v hs hr
  · exact State.evtEnWrite_whole hs hg hv hr

end Sys2Proof.Machine

/-! PROOF. The rules of the crossbar that accesses to SRAM rest on (R490, R493, R494, R496). -/

namespace Sys2Proof.Machine

/-! A request that waits alone is granted at once. -/

section
variable {s : State} {t : Nat} {r : XbarReq}

theorem State.nextGrant_alone (hw : s.sys.waits = [r]) (hbank : bankOf r.addr = some t) : s.nextGrant t = some r := by
  unfold State.nextGrant
  rw [hw]
  have hws : [r].filter (fun r => bankOf r.addr == some t) = [r] := by simp [hbank]
  rw [hws]
  dsimp only
  have hpick : ∀ p : XbarReq → Bool, [r].filter p = [r] ∨ [r].filter p = [] := fun p => by
    cases hp : p r <;> simp [hp]
  rcases hpick (fun r => !s.highPri r.master && decide (8 ≤ (lookup (16 * t + r.master) s.sys.starve).getD 0)) with h | h <;> rw [h]
  · rfl
  · rcases hpick (fun r => s.highPri r.master) with h' | h' <;> rw [h'] <;> rfl

theorem State.serveTarget_of_none (hw : s.sys.waits = []) : s.serveTarget t s.sys.waits.length = s := by rw [hw]; rfl

theorem State.sramReady_state (h : s.sramReady t = true) : s.get (F.PWR_DOM_STAT.STATE 5) = 0 := by
  simp only [State.sramReady, Bool.and_eq_true, beq_iff_eq] at h
  exact h.1.1

theorem State.askTarget_alone (hw : s.sys.waits = []) (hlock : s.lockOn t = none) (hready : s.sramReady t = true) (hbank : bankOf r.addr = some t) :
    ∃ st, s.askTarget t r = (s.updSys fun y => { y with waits := [], starve := st }).grantAccess t r := by
  let a := s.updSys fun y => { y with waits := y.waits ++ [r] }
  have hwaits : a.sys.waits = [r] := congrArg (· ++ [r]) hw
  have htouch : a.touchSram r.master = a := if_pos (State.sramReady_state hready)
  have hready' : ((a.lockOn t).isSome || !a.sramReady t) = false := by
    rw [show a.lockOn t = none from hlock, show a.sramReady t = true from hready]
    rfl
  have hdrop : dropFirst r a.sys.waits = [] := by rw [hwaits]; simp [dropFirst]
  have hask : s.askTarget t r = a.serveTarget t 1 := by
    change (a.touchSram r.master).serveTarget t (a.touchSram r.master).sys.waits.length = _
    rw [htouch, hwaits]
    rfl
  rw [hask, State.serveTarget, hready']
  simp only [Bool.false_eq_true, if_false, State.nextGrant_alone hwaits hbank, hdrop, List.filter_nil, List.map_nil, List.eraseDups_nil,
    List.foldl_nil,
    ite_self, State.serveTarget]
  exact ⟨_, rfl⟩

end

theorem bankOf_lt {addr t : Nat} (h : bankOf addr = some t) : t < 6 := by
  unfold bankOf at h
  split at h
  · cases h; omega
  · cases h

/-! The end of a lock while nothing waits. -/

theorem State.unlock_of_no_waits {s : State} {t : Nat} (hw : s.sys.waits = []) :
    s.unlock t = (s.set (F.XBR_TSTAT.LOCKED t) 0).updSys fun y => { y with locks := dropKey t y.locks } :=
  State.serveTarget_of_none (s := (s.set (F.XBR_TSTAT.LOCKED t) 0).updSys fun y => { y with locks := dropKey t y.locks }) hw

/-! Messages. -/

/-- Of the system's own state only the messages that wait have changed. -/
def PendsOnly (s t : State) : Prop := t.sys = { s.sys with pba := t.sys.pba }

section
variable {s t u : State}

theorem PendsOnly.refl (s : State) : PendsOnly s s := rfl

theorem PendsOnly.trans (h : PendsOnly s t) (k : PendsOnly t u) : PendsOnly s u := by
  unfold PendsOnly at h k ⊢
  rw [h] at k
  exact k

theorem PendsOnly.of_sys (h : PendsOnly s t) (hu : u.sys = t.sys) : PendsOnly s u := h.trans (by rw [PendsOnly, hu])

theorem PendsOnly.ite {c : Prop} [Decidable c] (ht : PendsOnly s t) (hu : PendsOnly s u) : PendsOnly s (if c then t else u) := by split <;> assumption

theorem PendsOnly.emit {e : Emission} (h : PendsOnly s t) : PendsOnly s (t.emit e) := h.of_sys (State.emit_sys t e)

theorem PendsOnly.msix {v : Nat} (h : PendsOnly s t) : PendsOnly s (t.msix v) := .ite h (.ite (h.trans rfl) h.emit)

theorem PendsOnly.message {side ev : Nat} (h : PendsOnly s t) : PendsOnly s (t.message side ev) := .ite h.msix h.emit

theorem PendsOnly.pendAndTell {side ev : Nat} (h : PendsOnly s t) : PendsOnly s (t.pendAndTell side ev) :=
  .ite (.message (h.of_sys rfl)) (h.of_sys rfl)

theorem PendsOnly.pushRecord {side : Nat} {r : EvRec} (h : PendsOnly s t) : PendsOnly s (t.pushRecord side r) :=
  .ite (.pendAndTell (h.of_sys rfl)) (.ite (h.of_sys rfl) (h.of_sys rfl))

theorem PendsOnly.tellSide {side : Nat} {r : EvRec} (h : PendsOnly s t) : PendsOnly s (t.tellSide side r) := .pendAndTell (.ite h.pushRecord h)

theorem PendsOnly.occur {ev bit inst detail : Nat} (h : PendsOnly s t) : PendsOnly s (t.occur ev bit inst detail) :=
  .tellSide (.tellSide (h.of_sys rfl))

theorem PendsOnly.flag {f : Fld} {ev inst detail : Nat} (h : PendsOnly s t) : PendsOnly s (t.flag f ev inst detail) :=
  .ite h (.occur (h.of_sys rfl))

theorem PendsOnly.locks (h : PendsOnly s t) : t.sys.locks = s.sys.locks := by rw [show t.sys = _ from h]

theorem PendsOnly.table (h : PendsOnly s t) : t.sys.msixTable = s.sys.msixTable := by rw [show t.sys = _ from h]

theorem PendsOnly.bad (h : PendsOnly s t) : t.sys.bad = s.sys.bad := by rw [show t.sys = _ from h]

end

/-! A crossbar error. -/

/-- The fields that tell the first error. -/
def xbrErrFields : List Fld := [F.XBR_ERR.MASTER, F.XBR_ERR.TARGET, F.XBR_ERR.CODE, F.XBR_ERR.ERR, F.XBR_ERR.MORE, F.XBR_ERRADDR.ADDR]

section
variable (s : State) (m t code addr : Nat)

theorem State.xbrFail_regs : RegsBut xbrErrFields s (s.xbrFail m t code addr) := by
  refine .emit (.ite (.set (.refl _ s) (by simp [xbrErrFields])) (.flag (.sets (.refl _ s) ?_) (by decide) (by simp [xbrErrFields])))
  simp [xbrErrFields]

theorem State.xbrFail_parts : EventsOnly s (s.xbrFail m t code addr) := by
  have herr : EventsOnly s (s.xbrError m t code addr) := by
    unfold State.xbrError
    split
    · rfl
    · exact EventsOnly.trans (t := s.sets [(F.XBR_ERR.MASTER, m), (F.XBR_ERR.TARGET, t), (F.XBR_ERR.CODE, code), (F.XBR_ERRADDR.ADDR, addr)]) rfl
        (State.flag_parts _ _ _ _ _)
  refine herr.trans ?_
  rw [State.xbrFail, State.emit]
  split <;> rfl

/-- The state of a target is no part of the error's record. -/
theorem State.get_xbrFail_tstat {n l w r : Nat} (hn : n < 16) (hl : l < 32) :
    (s.xbrFail m t code addr).get ⟨0, 0x1000040 + 0x4 * n, l, w, r⟩ = s.get ⟨0, 0x1000040 + 0x4 * n, l, w, r⟩ := by
  refine s.xbrFail_regs m t code addr _ (by apply Fld.blk_ne; omega) ?_
  simp only [xbrErrFields, List.forall_mem_cons]
  refine ⟨?_, ?_, ?_, ?_, ?_, ?_, nofun⟩ <;> (apply Fld.key_ne; omega)

/-- Of the system's own state an error changes the messages that wait alone. -/
theorem State.xbrFail_pends : PendsOnly s (s.xbrFail m t code addr) :=
  .emit (.ite (.refl s) (.flag (.of_sys (.refl s) rfl)))

end

end Sys2Proof.Machine

/-! PROOF. Locked sequences and atomic operations (R493 to R495, R502). -/

namespace Sys2Proof.Machine

theorem State.emit_out_on {s : State} (h : s.supply.on = true) (e : Emission) : (s.emit e).out = s.out ++ [e] := by rw [State.emit, if_pos h]

/-! What a grant does. -/

section
variable {s : State} {t : Nat} {r : XbarReq}

theorem State.grantAccess_locks (hstore : r.store = none) (hplain : r.plain = false) (hatomic : r.atomic = none) (hbad : s.badWord r.addr r.n =
    false) :
    s.grantAccess t r = (((s.set (F.XBR_TSTAT.OWNER t) r.master).set (F.XBR_TSTAT.LOCKED t) 1).updSys
      (fun y => { y with locks := insertAt t (r.master, s.raw) y.locks })).emit (.completion r.master 0 (s.sramRead r.addr r.n)) := by
  unfold State.grantAccess
  rw [hstore, hatomic]
  dsimp only
  rw [if_neg (by rw [show (s.set (F.XBR_TSTAT.OWNER t) r.master).badWord r.addr r.n = _ from hbad]; decide), if_neg (by rw [hplain]; decide)]
  rfl

theorem State.grantAccess_atomic {k : AtomicKind} {x y : Nat} (hstore : r.store = none) (hplain : r.plain = false) (hatomic : r.atomic = some (k,
    x, y))
    (hbad : s.badWord r.addr r.n = false) :
    s.grantAccess t r = if r.late then ((s.set (F.XBR_TSTAT.OWNER t) r.master).bumpSat (F.XBR_TSTAT.LOCKTO t)).xbrFail r.master t 2 r.addr
      else ((s.set (F.XBR_TSTAT.OWNER t) r.master).sramStore r.addr (leBytes r.n (atomicValue k r.n (leNat (s.sramRead r.addr r.n)) x y))).emit
        (.completion r.master 0 (s.sramRead r.addr r.n)) := by
  unfold State.grantAccess
  rw [hstore, hatomic]
  dsimp only
  rw [if_neg (by rw [show (s.set (F.XBR_TSTAT.OWNER t) r.master).badWord r.addr r.n = _ from hbad]; decide), if_neg (by rw [hplain]; decide)]
  rfl

end

/-! A locked sequence. -/

section
variable {s : State} {m addr k : Nat} (habort : s.aborted m = false) (hbank : bankOf addr = some k)
include habort hbank

theorem State.lockedRead_eq (n : Nat) : s.lockedAccess m addr n none = s.askTarget k { master := m, addr := addr, n := n } := by
  unfold State.lockedAccess
  rw [if_neg (by rw [habort]; decide), hbank]

theorem State.lockedWrite_eq {g : Nat} (b : List Byte) (hlock : s.lockOn k = some (m, g)) :
    s.lockedAccess m addr 0 (some b) = if g + lockLimit < s.raw then (s.lockExpires k).xbrFail m k 2 addr
      else ((s.sramStore addr b).emit (.completion m 0 [])).unlock k := by
  unfold State.lockedAccess
  rw [if_neg (by rw [habort]; decide), hbank]
  dsimp only
  rw [hlock]
  exact if_neg (by simp)

end

theorem exec_lockedSequence {m : Nat} (hm : m < 12) (s : State) (addr n : Nat) (w : Option (List Byte)) :
    exec (.lockedSequence m addr n w) s = .next (s.lockedAccess m addr n w) := by
  change onUnit (decide (m < 12)) _ = _
  rw [decide_eq_true hm, onUnit_true]

/-! The limit of a lock. -/

section
variable (s : State) {k : Nat} (hk : k < 6) (hw : s.sys.waits = [])
include hw

theorem State.lockExpires_eq : s.lockExpires k = ((s.bumpSat (F.XBR_TSTAT.LOCKTO k)).set (F.XBR_TSTAT.LOCKED k) 0).updSys
    fun y => { y with locks := dropKey k y.locks } := State.unlock_of_no_waits (s := s.bumpSat (F.XBR_TSTAT.LOCKTO k)) hw

theorem State.lockExpires_shows : (s.lockExpires k).lockOn k = none ∧ (s.lockExpires k).bit (F.XBR_TSTAT.LOCKED k) = false ∧
    (s.lockExpires k).get (F.XBR_TSTAT.LOCKTO k) = min 65535 (s.get (F.XBR_TSTAT.LOCKTO k) + 1) ∧
    RegsBut [F.XBR_TSTAT.LOCKTO k, F.XBR_TSTAT.LOCKED k] s (s.lockExpires k) ∧ MemorySame s (s.lockExpires k) := by
  rw [s.lockExpires_eq hw]
  refine ⟨lookup_dropKey_self k _, State.bit_set (s.bumpSat _) 0 rfl, ?_, .of_regs (.set (.set (.refl _ s) (by simp)) (by simp)) rfl, .of_eq rfl rfl⟩
  exact (State.get_set_ne (s.bumpSat _) 0 (by apply Fld.key_ne; omega)).trans (State.get_bumpSat_self s _ 1)

end

/-! The reset of a master. -/

theorem mem_of_lookup {α : Type} {k : Nat} {l : List (Nat × α)} {a : α} (h : lookup k l = some a) : (k, a) ∈ l := by
  induction l with
  | nil => cases h
  | cons e l ih =>
    obtain ⟨q, b⟩ := e
    rw [lookup] at h
    split at h
    · next hk => rw [hk, Option.some.inj h]; exact List.mem_cons_self
    · exact List.mem_cons_of_mem _ (ih h)

/-- What the release of several locks leaves while nothing waits. -/
structure Unlocked (s t : State) (l : List Nat) : Prop where
  waits : t.sys.waits = []
  aborts : t.sys.aborts = s.sys.aborts
  locks : ∀ p ∈ t.sys.locks, p.1 ∉ l ∧ p ∈ s.sys.locks
  memory : MemorySame s t

theorem State.unlock_all {s : State} (hw : s.sys.waits = []) (l : List Nat) : Unlocked s (l.foldl State.unlock s) l := by
  induction l generalizing s with
  | nil => exact ⟨hw, rfl, fun p hp => ⟨List.not_mem_nil, hp⟩, .refl s⟩
  | cons k l ih =>
    rw [List.foldl_cons, State.unlock_of_no_waits hw]
    obtain ⟨hwaits, haborts, hlocks, hmem⟩ := ih (s := (s.set (F.XBR_TSTAT.LOCKED k) 0).updSys fun y => { y with locks := dropKey k y.locks }) hw
    refine ⟨hwaits, haborts, fun p hp => ?_, hmem⟩
    obtain ⟨hnot, hin⟩ := hlocks p hp
    obtain ⟨hin, hne⟩ := List.mem_filter.mp hin
    exact ⟨fun h => (List.mem_cons.mp h).elim (fun hk => by simp [hk] at hne) hnot, hin⟩

theorem State.resetMaster_shows {s : State} (m : Nat) (burst : Bool) (hw : s.sys.waits = []) :
    (s.resetMaster m burst).aborted m = (s.aborted m || burst) ∧ (∀ k g, (s.resetMaster m burst).lockOn k ≠ some (m, g)) ∧
      MemorySame s (s.resetMaster m burst) := by
  let held := (s.sys.locks.filter (fun l => l.2.1 == m)).map (·.1)
  obtain ⟨u, hu, hsys, hmem⟩ : ∃ u : State, s.resetMaster m burst = held.foldl State.unlock u ∧
      u.sys = { s.sys with waits := s.sys.waits.filter (fun r => r.master != m),
                           aborts := if burst && !s.aborted m then s.sys.aborts ++ [m] else s.sys.aborts } ∧ MemorySame s u := by
    refine ⟨_, rfl, ?_, ?_⟩
    · split <;> (split <;> rfl)
    · split <;> (split <;> exact .refl s)
  obtain ⟨-, haborts, hlocks, hmem'⟩ := State.unlock_all (s := u) (by rw [hsys, hw]; rfl) held
  rw [hu]
  refine ⟨?_, fun k g hl => ?_, ⟨fun a => (hmem'.1 a).trans (hmem.1 a), fun a => (hmem'.2 a).trans (hmem.2 a)⟩⟩
  · rw [State.aborted, haborts, hsys]
    cases burst <;> cases h : s.aborted m <;> simp_all [State.aborted]
  · obtain ⟨hnot, hin⟩ := hlocks _ (mem_of_lookup hl)
    rw [hsys] at hin
    exact hnot (List.mem_map.mpr ⟨_, List.mem_filter.mpr ⟨hin, by simp⟩, rfl⟩)

/-! An atomic operation. -/

section
variable {s : State} {kind : AtomicKind} {n addr k a b : Nat} (hn : n = 4 ∨ n = 8) (habort : s.aborted 4 = false) (hbank : bankOf addr = some k)
  (hopen : s.bankOpen addr = true)
include hn habort hbank hopen

theorem State.atomicOp_eq (late : Bool) : s.atomicOp kind .bar2 n addr a b late =
    s.askTarget k { master := 4, addr := addr, n := n, atomic := some (kind, a, b), late := late } := by
  unfold State.atomicOp
  rw [if_neg (by rcases hn with h | h <;> simp [h]), if_neg (by rw [habort]; decide), hbank]
  exact if_pos hopen

end

theorem atomicValue_lt {kind : AtomicKind} {n old a b : Nat} (h : old < 256 ^ n) : atomicValue kind n old a b < 256 ^ n := by
  have hpos : 0 < 256 ^ n := Nat.pow_pos (by decide)
  unfold atomicValue
  split
  · exact Nat.mod_lt _ hpos
  · exact Nat.mod_lt _ hpos
  · split
    · exact Nat.mod_lt _ hpos
    · exact h

/-! The clauses of the obligation, one by one. -/

/-- The read of a locked sequence takes the lock. -/
theorem State.lockedSequence_locks {s : State} {m addr n k : Nat} (hm : m < 12) (hon : s.supply.on = true) (habort : s.aborted m = false)
    (hbank : bankOf addr = some k) (hlock : s.lockOn k = none) (hready : s.sramReady k = true) (hw : s.sys.waits = []) (hbad : s.badWord addr n = false) :
    ∃ t, exec (.lockedSequence m addr n none) s = .next t ∧ t.lockOn k = some (m, s.raw) ∧ t.bit (F.XBR_TSTAT.LOCKED k) = true ∧
      t.out = s.out ++ [.completion m 0 (s.sramRead addr n)] ∧ RegsBut [F.XBR_TSTAT.LOCKED k, F.XBR_TSTAT.OWNER k] s t ∧ MemorySame s t := by
  have hexec := exec_lockedSequence hm s addr n none
  let r : XbarReq := { master := m, addr := addr, n := n }
  obtain ⟨st, hask⟩ := State.askTarget_alone (r := r) hw hlock hready hbank
  rw [State.lockedRead_eq habort hbank, hask, State.grantAccess_locks rfl rfl rfl (by exact hbad)] at hexec
  have hk := bankOf_lt hbank
  refine ⟨_, hexec, ?_, ?_, ?_, ?_, ?_⟩
  · rw [State.lockOn, State.emit_sys]
    exact lookup_insertAt_self k _ _
  · rw [State.bit, State.get_congr (State.emit_regs _ _)]
    exact State.bit_set ((s.updSys _).set (F.XBR_TSTAT.OWNER k) m) 1 rfl
  · apply State.emit_out_on; exact hon
  · exact .emit (.of_regs (.set (.set (.of_regs (.refl _ s) rfl) (by simp)) (by simp)) rfl)
  · exact .of_eq (State.emit_sram _ _) (State.emit_flash _ _)

/-- A write within the limit is stored and ends the lock. -/
theorem State.lockedSequence_writes {s : State} {m addr k g : Nat} (b : List Byte) (hm : m < 12) (hon : s.supply.on = true) (habort : s.aborted m = false)
    (hbank : bankOf addr = some k) (hlock : s.lockOn k = some (m, g)) (hw : s.sys.waits = []) (hin : s.raw ≤ g + 40) :
    ∃ t, exec (.lockedSequence m addr 0 (some b)) s = .next t ∧ t.lockOn k = none ∧ t.bit (F.XBR_TSTAT.LOCKED k) = false ∧
      t.out = s.out ++ [.completion m 0 []] ∧ t.sramRead addr b.length = b ∧
      (∀ a, a < addr ∨ addr + b.length ≤ a → memGet sramDefault t.sram a = memGet sramDefault s.sram a) ∧ RegsBut [F.XBR_TSTAT.LOCKED k] s t := by
  have hexec := exec_lockedSequence hm s addr 0 (some b)
  rw [State.lockedWrite_eq habort hbank b hlock, if_neg (by unfold lockLimit; omega), State.unlock_of_no_waits (by rw [State.emit_sys]; exact hw)]
    at hexec
  refine ⟨_, hexec, lookup_dropKey_self k _, State.bit_set _ 0 rfl,
    State.emit_out_on (s := s.sramStore addr b) hon (.completion m 0 []), ?_, fun x hx => ?_, ?_⟩
  · refine Eq.trans (congrArg (fun l => memGets sramDefault l addr b.length) (State.emit_sram _ _)) (State.sramRead_sramStore s addr b)
  · exact (congrArg (fun l => memGet sramDefault l x) (State.emit_sram _ _)).trans (memGet_memSets_outside _ _ _ _ _ hx)
  · exact .of_regs (.set (.emit (t := s.sramStore addr b) (.of_regs (.refl _ s) rfl)) (f := F.XBR_TSTAT.LOCKED k) (v := 0) (by simp)) rfl

/-- A write past the limit finds its lock expired and leaves memory as it was. -/
theorem State.lockedSequence_late {s : State} {m addr k g : Nat} (b : List Byte) (hm : m < 12) (habort : s.aborted m = false)
    (hbank : bankOf addr = some k) (hlock : s.lockOn k = some (m, g)) (hw : s.sys.waits = []) (hlate : g + 40 < s.raw) :
    ∃ t, exec (.lockedSequence m addr 0 (some b)) s = .next t ∧ t.lockOn k = none ∧
      t.get (F.XBR_TSTAT.LOCKTO k) = min 65535 (s.get (F.XBR_TSTAT.LOCKTO k) + 1) ∧ MemorySame s t := by
  have hexec := exec_lockedSequence hm s addr 0 (some b)
  rw [State.lockedWrite_eq habort hbank b hlock, if_pos (show g + lockLimit < s.raw from hlate)] at hexec
  obtain ⟨hnone, -, hto, -, hmem⟩ := s.lockExpires_shows (k := k) hw
  refine ⟨_, hexec, ?_, ?_, ?_⟩
  · rw [State.lockOn, ((s.lockExpires k).xbrFail_pends m k 2 addr).locks]
    exact hnone
  · exact ((s.lockExpires k).get_xbrFail_tstat m k 2 addr (by have := bankOf_lt hbank; omega) (by decide)).trans hto
  · have hparts := (s.lockExpires k).xbrFail_parts m k 2 addr
    exact ⟨fun x => by rw [hparts.sram]; exact hmem.1 x, fun x => by rw [hparts.flash]; exact hmem.2 x⟩

theorem State.lockTimeout_expires {s : State} {m addr k g : Nat} (hbank : bankOf addr = some k) (hlock : s.lockOn k = some (m, g)) (hw : s.sys.waits = [])
    (hlimit : g + 40 ≤ s.raw) :
    ∃ t, exec (.lockTimeout k) s = .next t ∧ t.lockOn k = none ∧ t.bit (F.XBR_TSTAT.LOCKED k) = false ∧
      t.get (F.XBR_TSTAT.LOCKTO k) = min 65535 (s.get (F.XBR_TSTAT.LOCKTO k) + 1) ∧ RegsBut [F.XBR_TSTAT.LOCKTO k, F.XBR_TSTAT.LOCKED k] s t ∧
      MemorySame s t := by
  have hexec : exec (.lockTimeout k) s = .next (s.lockExpires k) := by
    have hk := bankOf_lt hbank
    change onUnit (decide (k < 6)) (match s.lockOn k with
      | some (_, g) => s.when (decide (g + lockLimit ≤ s.raw)) (·.lockExpires k)
      | none => s) = _
    rw [decide_eq_true hk, onUnit_true, hlock]
    exact next_when (by unfold lockLimit; simp [hlimit]) _
  exact ⟨_, hexec, s.lockExpires_shows hw⟩

/-- The result that an atomic operation stores. -/
theorem State.atomicOp_stores {s : State} {n addr k : Nat} (kind : AtomicKind) (a b : Nat) (hn : n = 4 ∨ n = 8) (hon : s.supply.on = true)
    (habort : s.aborted 4 = false) (hbank : bankOf addr = some k) (hopen : s.bankOpen addr = true) (hlock : s.lockOn k = none)
    (hready : s.sramReady k = true) (hw : s.sys.waits = []) (hbad : s.badWord addr n = false) :
    ∃ t, exec (.atomicOp kind .bar2 n addr a b false) s = .next t ∧ t.out = s.out ++ [.completion 4 0 (s.sramRead addr n)] ∧
      leAt (t.sramRead addr n) 0 n = atomicValue kind n (leAt (s.sramRead addr n) 0 n) a b ∧
      (∀ x, x < addr ∨ addr + n ≤ x → memGet sramDefault t.sram x = memGet sramDefault s.sram x) ∧ RegsBut [F.XBR_TSTAT.OWNER k] s t := by
  let r : XbarReq := { master := 4, addr := addr, n := n, atomic := some (kind, a, b) }
  obtain ⟨st, hask⟩ := State.askTarget_alone (r := r) hw hlock hready hbank
  have hexec : exec (.atomicOp kind .bar2 n addr a b false) s = .next (s.atomicOp kind .bar2 n addr a b false) := rfl
  rw [State.atomicOp_eq hn habort hbank hopen, hask, State.grantAccess_atomic rfl rfl rfl (by exact hbad)] at hexec
  let v := atomicValue kind n (leNat (s.sramRead addr n)) a b
  have hlen : (s.sramRead addr n).length = n := memGets_length _ _ _ _
  have hold : leAt (s.sramRead addr n) 0 n = leNat (s.sramRead addr n) := by
    have h := leAt_zero (c := []) hlen
    rwa [List.append_nil] at h
  have hold_lt : leNat (s.sramRead addr n) < 256 ^ n := by
    have h := leNat_lt (s.sramRead addr n)
    rwa [hlen] at h
  refine ⟨_, hexec, by apply State.emit_out_on; exact hon, ?_, fun x hx => ?_, ?_⟩
  · have hread : ((((s.updSys fun y => { y with waits := [], starve := st }).set (F.XBR_TSTAT.OWNER k) 4).sramStore addr (leBytes n v)).emit
        (.completion 4 0 (s.sramRead addr n))).sramRead addr n = leBytes n v := by
      have h := State.sramRead_sramStore ((s.updSys fun y => { y with waits := [], starve := st }).set (F.XBR_TSTAT.OWNER k) 4) addr (leBytes n v)
      rw [leBytes_length] at h
      exact (congrArg (fun l => memGets sramDefault l addr n) (State.emit_sram _ _)).trans h
    have hval : leAt (leBytes n v) 0 n = v := by
      have h := leAt_zero (b := leBytes n v) (c := []) (leBytes_length n v)
      rw [List.append_nil] at h
      rw [h, leNat_leBytes_of_lt (atomicValue_lt hold_lt)]
    refine (congrArg (fun l => leAt l 0 n) hread).trans (hval.trans ?_)
    rw [hold]
  · refine (congrArg (fun l => memGet sramDefault l x) (State.emit_sram _ _)).trans (memGet_memSets_outside _ _ _ _ _ ?_)
    rw [leBytes_length]
    exact hx
  · exact .emit (.of_regs (.set (.of_regs (.refl _ s) rfl) (f := F.XBR_TSTAT.OWNER k) (v := 4) (by simp)) rfl)

/-- A request that comes too late counts in LOCKTO and leaves memory as it was. -/
theorem State.atomicOp_late {s : State} {n addr k : Nat} (kind : AtomicKind) (a b : Nat) (hn : n = 4 ∨ n = 8)
    (habort : s.aborted 4 = false) (hbank : bankOf addr = some k) (hopen : s.bankOpen addr = true) (hlock : s.lockOn k = none)
    (hready : s.sramReady k = true) (hw : s.sys.waits = []) (hbad : s.badWord addr n = false) :
    ∃ t, exec (.atomicOp kind .bar2 n addr a b true) s = .next t ∧ MemorySame s t ∧
      t.get (F.XBR_TSTAT.LOCKTO k) = min 65535 (s.get (F.XBR_TSTAT.LOCKTO k) + 1) := by
  let r : XbarReq := { master := 4, addr := addr, n := n, atomic := some (kind, a, b), late := true }
  obtain ⟨st, hask⟩ := State.askTarget_alone (r := r) hw hlock hready hbank
  have hexec : exec (.atomicOp kind .bar2 n addr a b true) s = .next (s.atomicOp kind .bar2 n addr a b true) := rfl
  rw [State.atomicOp_eq hn habort hbank hopen, hask, State.grantAccess_atomic rfl rfl rfl (by exact hbad), if_pos rfl] at hexec
  let u := ((s.updSys fun y => { y with waits := [], starve := st }).set (F.XBR_TSTAT.OWNER k) 4).bumpSat (F.XBR_TSTAT.LOCKTO k)
  have hparts := u.xbrFail_parts 4 k 2 addr
  refine ⟨_, hexec, .of_eq hparts.sram hparts.flash, (u.get_xbrFail_tstat 4 k 2 addr (by have := bankOf_lt hbank; omega) (by decide)).trans ?_⟩
  refine (State.get_bumpSat_self _ _ 1).trans (congrArg (fun x => min 65535 (x + 1)) ?_)
  exact State.get_set_ne _ _ (by apply Fld.key_ne; omega)

/-- Settles O49, by the grant of a request that waits alone and the end of a lock. -/
theorem locksAndAtomics : Obligations.LocksAndAtomics := by
  refine ⟨fun s m addr n k hm hon habort hbank hlock hready hw hbad => ?_, fun s m addr k g b hm hon habort hbank hlock hw => ⟨fun hin => ?_,
    fun hlate => ?_, fun hlimit => ?_⟩, fun s m burst hm hw => ?_, fun s kind n addr k a b hn hon habort hbank hopen hlock hready hw hbad => ⟨?_, ?_⟩,
    fun s kind space n addr a b late h => ?_⟩
  · exact State.lockedSequence_locks hm hon habort hbank hlock hready hw hbad
  · exact State.lockedSequence_writes b hm hon habort hbank hlock hw hin
  · exact State.lockedSequence_late b hm habort hbank hlock hw hlate
  · exact State.lockTimeout_expires hbank hlock hw hlimit
  · refine ⟨_, ?_, State.resetMaster_shows m burst hw⟩
    change onUnit (decide (m < 12)) _ = _
    rw [decide_eq_true hm, onUnit_true]
  · exact State.atomicOp_stores kind a b hn hon habort hbank hopen hlock hready hw hbad
  · exact State.atomicOp_late kind a b hn habort hbank hopen hlock hready hw hbad
  · refine congrArg Host.Outcome.next (if_pos h)

end Sys2Proof.Machine

/-! PROOF. The mailbox between host and supervisor (R486, R487). -/

namespace Sys2Proof.Machine

/-! A field that is written with its own value. -/

theorem State.get_set_get (s : State) {f : Fld} (h : s.get f < 2 ^ f.w) (g : Fld) : (s.set f (s.get f)).get g = s.get g := by
  by_cases hk : g.key = f.key
  · rw [State.set, Nat.mod_eq_of_lt h]
    simp only [State.get, hk, storeGet_storeSet_self, Nat.xor_xor_cancel_right]
  · exact State.get_set_ne s _ hk

/-! What the firmware answers. -/

section
variable {s u : State}

/-- The answer is formed of the request as it stands. -/
theorem State.mbxAnswer_answered (status : Nat) (payload : List Nat) (h : u.mbxWord 0 = s.mbxWord 0) :
    s.Answered (u.mbxAnswer status payload) status payload := by
  have hop : u.mbxOp = s.mbxOp := congrArg (· % 65536) h
  refine ⟨State.bit_set (f := F.SUP_MBX.H2SBUSY) u 0 rfl, ?_⟩
  change some ((u.mbxOp + 4 * payload.length * 65536 + bitsOf (u.mbxWord 0) 24 8 * 2 ^ 24) :: status :: payload) = _
  rw [hop, h]

/-- The header of an answer without a payload carries OP. -/
theorem State.mbxAnswer_head (u : State) (status : Nat) :
    ∃ h, (u.mbxAnswer status []).sys.answer = some [h, status] ∧ h % 2 ^ 32 % 65536 = u.mbxOp := by
  have hop : u.mbxOp < 65536 := Nat.mod_lt _ (by decide)
  refine ⟨_, rfl, ?_⟩
  rw [List.length_nil]
  omega

/-- Besides the mailbox's busy bit the answer changes no register. -/
theorem State.get_mbxAnswer_ne (u : State) (status : Nat) (payload : List Nat) {f : Fld} (h : f.key ≠ F.SUP_MBX.H2SBUSY.key) :
    (u.mbxAnswer status payload).get f = u.get f := State.get_set_ne u 0 h

theorem State.mbxServe_of_waits {op n : Nat} (hw : s.mbxWaits op = true) (hlen : s.mbxLen = 4 * n) (f : State → List Nat → State) :
    s.mbxServe op n f = f s s.mbxPayload := by
  rw [State.mbxServe, State.when, hw]
  exact if_pos hlen

end

/-! The doorbell. -/

section
variable {s : State} {req : Requester} (hr : s.Serves req 0x1400010)
include hr

/-- A write of SUP_MBX with the doorbell's bit and the vector as they stand. -/
def State.doorbellWord (s : State) : Nat := s.get F.SUP_MBX.VEC * 256 + s.get F.SUP_MBX.IRQEN * 32768 + 2

theorem State.mbxDoorbell_of_serves :
    exec (.mbxDoorbell req) s = .next ((s.set (F.XBR_TSTAT.OWNER 6) req.master).writeMbx req s.doorbellWord) := by
  refine congrArg Host.Outcome.next ((State.atDomain_of_serves hr _ _).trans ?_)
  rw [State.get_set_ne s _ (by decide), State.get_set_ne s _ (by decide)]
  rfl

end

theorem doorbell_bits {vec irq : Nat} (hv : vec ≤ 95) (hi : irq ≤ 1) : (vec * 256 + irq * 32768 + 2).testBit 1 = true ∧
    (vec * 256 + irq * 32768 + 2).testBit 2 = false ∧ bitsOf (vec * 256 + irq * 32768 + 2) 8 7 = vec ∧
    bitsOf (vec * 256 + irq * 32768 + 2) 15 1 = irq := by
  simp only [Nat.testBit_eq_decide_div_mod_eq, decide_eq_true_eq, decide_eq_false_iff_not, bitsOf]
  omega

/-- The state in which a doorbell that is not refused leaves the mailbox. -/
theorem State.writeMbx_doorbell {s : State} {req : Requester} {vec irq : Nat} (hv : vec ≤ 95) (hi : irq ≤ 1) (hready : s.bit F.SUP_STATUS.READY =
    true)
    (hbusy : s.bit F.SUP_MBX.H2SBUSY = false) (hvalid : s.bit F.SUP_MBX.S2HVALID = false) :
    s.writeMbx req (vec * 256 + irq * 32768 + 2) = (s.sets [(F.SUP_MBX.VEC, vec), (F.SUP_MBX.IRQEN, irq)]).set F.SUP_MBX.H2SBUSY 1 := by
  obtain ⟨h1, h2, h8, h15⟩ := doorbell_bits hv hi
  unfold State.writeMbx
  rw [h1, h2, h8, h15, hready, hbusy, hvalid]
  exact if_neg (by simp; omega)

theorem State.writeMbx_refused {s : State} {req : Requester} {data : Nat} (hbit : data.testBit 1 = true)
    (h : s.bit F.SUP_STATUS.READY = false ∨ s.bit F.SUP_MBX.H2SBUSY = true ∨ s.bit F.SUP_MBX.S2HVALID = true) :
    s.writeMbx req data = s.accessError req 7 0x1400010 := by
  unfold State.writeMbx
  refine if_pos (.inl ?_)
  rw [hbit]
  rcases h with h | h | h <;> simp [h]

theorem State.doorbellWord_testBit (s : State) : s.doorbellWord.testBit 1 = true := by
  simp only [State.doorbellWord, Nat.testBit_eq_decide_div_mod_eq, decide_eq_true_eq]
  omega

/-! The response. -/

section
variable {s : State} {w : List Nat}

/-- The state in which the firmware posts an answer. -/
def State.posted (s : State) (w : List Nat) : State :=
  (((s.sets (w.zipIdx.map (fun p => (F.SUP_S2H.WORD p.2, p.1)))).updSys (fun y => { y with answer := none })).set F.SUP_MBX.S2HVALID 1)

theorem State.posted_word {k : Nat} (hk : k < w.length) : (s.posted w).get (F.SUP_S2H.WORD k) = w.getD k 0 % 2 ^ 32 := by
  refine (State.get_set_ne _ 1 (by apply Fld.key_ne; omega)).trans ?_
  have hmem : (w[k], k) ∈ w.zipIdx := List.mem_zipIdx_iff_getElem?.mpr (by simp [hk])
  refine (State.get_sets_map s (fun p : Nat × Nat => F.SUP_S2H.WORD p.2) (fun p => p.1) (fun a ha b hb h => ?_) hmem).trans ?_
  · have hidx : a.2 = b.2 := by simp only [Fld.key, F.SUP_S2H.WORD] at h; omega
    have ha' := List.mem_zipIdx_iff_getElem?.mp ha
    have hb' := List.mem_zipIdx_iff_getElem?.mp hb
    rw [hidx, hb'] at ha'
    exact Prod.ext (Option.some.inj ha').symm hidx
  · simp [hk, F.SUP_S2H.WORD]

/-- The response is the posted answer, with the message that IRQEN asks for. -/
theorem State.mbxResponse_of {a : State} (hready : s.bit F.SUP_STATUS.READY = true) (hvalid : s.bit F.SUP_MBX.S2HVALID = false)
    (ha : (if s.bit F.SUP_MBX.H2SBUSY && s.sys.answer.isNone && !mbxOps.contains s.mbxOp then s.mbxAnswer 1 [] else s) = a)
    (hanswer : a.sys.answer = some w) :
    exec .mbxResponse s = .next (if (a.posted w).bit F.SUP_MBX.IRQEN then (a.posted w).msix ((a.posted w).get F.SUP_MBX.VEC) else a.posted w) := by
  refine (next_when (by simp [hready, hvalid]) _).trans (congrArg Host.Outcome.next ?_)
  dsimp only
  rw [ha, hanswer]
  rfl

/-- The message changes no register, and no answer. -/
theorem State.get_told (c : State) (v : Nat) (b : Bool) (f : Fld) : (if b then c.msix v else c).get f = c.get f := by
  split
  · exact State.get_msix c v f
  · rfl

theorem State.told_answer (c : State) (v : Nat) (b : Bool) : (if b then c.msix v else c).sys.answer = c.sys.answer := by
  have h : PendsOnly c (if b then c.msix v else c) := .ite (.msix (.refl c)) (.refl c)
  rw [show _ = _ from h]

end

theorem toSigned_of_small {v : Nat} (h : v < 2 ^ 31) : toSigned 32 v = v := by
  unfold toSigned
  rw [Nat.mod_eq_of_lt (by omega), if_pos (by omega)]

/-! The mailbox's words and the positioning block. -/

theorem State.mbxWord_sets {s u : State} {l : List (Fld × Nat)} (hu : u.regs = s.regs) (hl : ∀ p ∈ l, p.1.blk = 0x15) :
    (u.sets l).mbxWord 0 = s.mbxWord 0 :=
  (State.get_sets_ne u l fun p hp hk => absurd ((Fld.blk_of_key hk).trans (hl p hp)) (by decide)).trans (State.get_congr hu _)

theorem State.restartSurvey_shows (s : State) : s.restartSurvey.mbxWord 0 = s.mbxWord 0 ∧ s.restartSurvey.bit F.GNS_STAT.SURVEY = true ∧
    s.restartSurvey.bit F.GNS_STAT.HOLD = false ∧ s.restartSurvey.get F.GNS_SURVEY.LEFT = 3600 := by
  refine ⟨State.mbxWord_sets rfl ?_, ?_, ?_, ?_⟩
  · simp only [List.forall_mem_cons]
    exact ⟨by decide, by decide, by decide, nofun⟩
  · exact bne_iff_ne.mpr (ne_of_eq_of_ne (State.get_sets_at _ [_] [_] (by decide)) (by decide))
  · exact bne_eq_false_iff_eq.mpr (State.get_sets_at _ [] [_, _] (by decide))
  · exact State.get_sets_at _ [_, _] [] trivial

theorem State.setPosition_shows (s : State) {lat lon hgt : Nat} (hlat : lat < 2 ^ 32) (hlon : lon < 2 ^ 32) (hhgt : hgt < 2 ^ 32) :
    (s.setPosition lat lon hgt).mbxWord 0 = s.mbxWord 0 ∧ (s.setPosition lat lon hgt).get F.GNS_LAT.LAT = lat ∧
    (s.setPosition lat lon hgt).get F.GNS_LON.LON = lon ∧ (s.setPosition lat lon hgt).get F.GNS_HGT.HGT = hgt ∧
    (s.setPosition lat lon hgt).bit F.GNS_STAT.HOLD = true ∧ (s.setPosition lat lon hgt).bit F.GNS_STAT.SURVEY = false := by
  refine ⟨State.mbxWord_sets rfl ?_, ?_, ?_, ?_, ?_, ?_⟩
  · simp only [List.forall_mem_cons]
    exact ⟨by decide, by decide, by decide, by decide, by decide, by decide, nofun⟩
  · exact (State.get_sets_at _ [] [_, _, _, _, _] (by (repeat' apply And.intro) <;> (apply Fld.key_ne; omega))).trans (Nat.mod_eq_of_lt hlat)
  · exact (State.get_sets_at _ [_] [_, _, _, _] (by (repeat' apply And.intro) <;> (apply Fld.key_ne; omega))).trans (Nat.mod_eq_of_lt hlon)
  · exact (State.get_sets_at _ [_, _] [_, _, _] (by (repeat' apply And.intro) <;> (apply Fld.key_ne; omega))).trans (Nat.mod_eq_of_lt hhgt)
  · exact bne_iff_ne.mpr (ne_of_eq_of_ne (State.get_sets_at _ [_, _, _] [_, _] (by decide)) (by decide))
  · exact bne_eq_false_iff_eq.mpr (State.get_sets_at _ [_, _, _, _] [_] (by decide))

/-! The longer clauses of the obligation. -/

theorem State.mbxDoorbell_busy {s : State} {req : Requester} (hr : s.Serves req 0x1400010) (hready : s.bit F.SUP_STATUS.READY = true)
    (hbusy : s.bit F.SUP_MBX.H2SBUSY = false) (hvalid : s.bit F.SUP_MBX.S2HVALID = false) (hvec : s.get F.SUP_MBX.VEC ≤ 95)
    (hirq : s.get F.SUP_MBX.IRQEN ≤ 1) : ∃ t, exec (.mbxDoorbell req) s = .next t ∧ t.bit F.SUP_MBX.H2SBUSY = true ∧ RegsOnly s t ∧
      RegsBut [F.SUP_MBX.H2SBUSY, F.XBR_TSTAT.OWNER 6] s t := by
  let a := s.set (F.XBR_TSTAT.OWNER 6) req.master
  let b := a.sets [(F.SUP_MBX.VEC, s.get F.SUP_MBX.VEC), (F.SUP_MBX.IRQEN, s.get F.SUP_MBX.IRQEN)]
  have hbit : ∀ f, f.key ≠ (F.XBR_TSTAT.OWNER 6).key → a.bit f = s.bit f := fun f hf => State.bit_set_ne s _ hf
  have hexec := State.mbxDoorbell_of_serves hr
  rw [State.doorbellWord, State.writeMbx_doorbell hvec hirq ((hbit _ (by decide)).trans hready) ((hbit _ (by decide)).trans hbusy)
    ((hbit _ (by decide)).trans hvalid)] at hexec
  have hsame : ∀ f, b.get f = a.get f := fun f => by
    have hv : a.get F.SUP_MBX.VEC = s.get F.SUP_MBX.VEC := State.get_set_ne s _ (by decide)
    have hi : (a.set F.SUP_MBX.VEC (s.get F.SUP_MBX.VEC)).get F.SUP_MBX.IRQEN = s.get F.SUP_MBX.IRQEN :=
      (State.get_set_ne a _ (by decide)).trans (State.get_set_ne s _ (by decide))
    have hfirst := a.get_set_get (f := F.SUP_MBX.VEC) (by rw [hv]; exact Nat.lt_of_le_of_lt hvec (by decide)) f
    have hsecond := (a.set F.SUP_MBX.VEC (s.get F.SUP_MBX.VEC)).get_set_get (f := F.SUP_MBX.IRQEN)
      (by rw [hi]; exact Nat.lt_of_le_of_lt hirq (by decide)) f
    rw [hi] at hsecond
    rw [hv] at hfirst
    exact hsecond.trans hfirst
  refine ⟨_, hexec, State.bit_set b 1 rfl, rfl, fun f _ hf => ?_⟩
  exact (State.get_set_ne b 1 (hf _ (by simp))).trans ((hsame f).trans (State.get_set_ne s _ (hf _ (by simp))))

theorem State.mbxDoorbell_refused {s : State} {req : Requester} (hr : s.Serves req 0x1400010)
    (hrefused : s.bit F.SUP_STATUS.READY = false ∨ s.bit F.SUP_MBX.H2SBUSY = true ∨ s.bit F.SUP_MBX.S2HVALID = true)
    (hclear : s.bit F.XBR_AERR.AERR = false) :
    ∃ t, exec (.mbxDoorbell req) s = .next t ∧ t.get F.XBR_AERR.CAUSE = 7 ∧ t.get F.XBR_AERRADDR.ADDR = 0x1400010 ∧
      t.get F.SUP_MBX.H2SBUSY = s.get F.SUP_MBX.H2SBUSY ∧ t.get F.SUP_MBX.S2HVALID = s.get F.SUP_MBX.S2HVALID := by
  have hserving : (s.set (F.XBR_TSTAT.OWNER 6) req.master).bit F.XBR_AERR.AERR = false := (State.bit_set_ne s _ (by decide)).trans hclear
  have hexec := State.mbxDoorbell_of_serves hr
  rw [State.writeMbx_refused s.doorbellWord_testBit (by
    rw [State.bit_set_ne s _ (by decide), State.bit_set_ne s _ (by decide), State.bit_set_ne s _ (by decide)]; exact hrefused)] at hexec
  refine ⟨_, hexec, State.accessError_cause hserving req 7 _ (by decide), State.accessError_addr hserving req 7 _ (by decide), ?_, ?_⟩
  · exact (State.accessError_get_ne _ req 7 _ (by decide) (by decide)).trans (State.get_set_ne s _ (by decide))
  · exact (State.accessError_get_ne _ req 7 _ (by decide) (by decide)).trans (State.get_set_ne s _ (by decide))

theorem State.mbxNav_survey {s : State} (hw : s.mbxWaits 0x40 = true) (hlen : s.mbxLen = 4) (hzero : s.mbxPayload.getD 0 0 = 0) :
    ∃ t, exec .mbxNav s = .next t ∧ s.Answered t 0 [] ∧ t.bit F.GNS_STAT.SURVEY = true ∧ t.bit F.GNS_STAT.HOLD = false ∧
      t.get F.GNS_SURVEY.LEFT = 3600 ∧ t.sel.posHeld = false := by
  refine ⟨_, (next_when hw _).trans (congrArg Host.Outcome.next (if_pos ⟨hlen, hzero⟩)), State.mbxAnswer_answered 0 _ ?_, ?_, ?_, ?_, rfl⟩
  all_goals obtain ⟨hword, hsurvey, hhold, hleft⟩ := s.restartSurvey_shows
  · exact hword
  · exact (State.bit_eq_of_get (s.restartSurvey.get_mbxAnswer_ne 0 [] (by decide))).trans hsurvey
  · exact (State.bit_eq_of_get (s.restartSurvey.get_mbxAnswer_ne 0 [] (by decide))).trans hhold
  · exact (s.restartSurvey.get_mbxAnswer_ne 0 [] (by decide)).trans hleft

theorem State.mbxNav_position {s : State} (hw : s.mbxWaits 0x40 = true) (hlen : s.mbxLen = 16) (hone : s.mbxPayload.getD 0 0 = 1)
    (hlat : s.mbxPayload.getD 1 0 ≤ 900000000) (hlon : s.mbxPayload.getD 2 0 ≤ 1800000000) (hhgt : s.mbxPayload.getD 3 0 < 2 ^ 32) :
    ∃ t, exec .mbxNav s = .next t ∧ s.Answered t 0 [] ∧ t.get F.GNS_LAT.LAT = s.mbxPayload.getD 1 0 ∧ t.get F.GNS_LON.LON = s.mbxPayload.getD 2 0 ∧
      t.get F.GNS_HGT.HGT = s.mbxPayload.getD 3 0 ∧ t.bit F.GNS_STAT.HOLD = true ∧ t.bit F.GNS_STAT.SURVEY = false := by
  let u := s.setPosition (s.mbxPayload.getD 1 0) (s.mbxPayload.getD 2 0) (s.mbxPayload.getD 3 0)
  have hexec : exec .mbxNav s = .next (u.mbxAnswer 0 []) := by
    refine (next_when hw _).trans (congrArg Host.Outcome.next ?_)
    rw [if_neg (by omega), if_pos ⟨hlen, hone⟩]
    refine if_pos ?_
    rw [toSigned_of_small (Nat.lt_of_le_of_lt hlat (by decide)), toSigned_of_small (Nat.lt_of_le_of_lt hlon (by decide))]
    omega
  obtain ⟨hword, ha, ho, hh, hhold, hsurvey⟩ := s.setPosition_shows (Nat.lt_of_le_of_lt hlat (by decide)) (Nat.lt_of_le_of_lt hlon (by decide)) hhgt
  refine ⟨_, hexec, State.mbxAnswer_answered 0 _ hword, ?_, ?_, ?_, ?_, ?_⟩
  · exact (u.get_mbxAnswer_ne 0 [] (by decide)).trans ha
  · exact (u.get_mbxAnswer_ne 0 [] (by decide)).trans ho
  · exact (u.get_mbxAnswer_ne 0 [] (by decide)).trans hh
  · exact (State.bit_eq_of_get (u.get_mbxAnswer_ne 0 [] (by decide))).trans hhold
  · exact (State.bit_eq_of_get (u.get_mbxAnswer_ne 0 [] (by decide))).trans hsurvey

/-- A doorbell of an unknown operation is answered with UNKNOWN_OP. -/
theorem State.mbxResponse_unknown {s : State} (hready : s.bit F.SUP_STATUS.READY = true) (hvalid : s.bit F.SUP_MBX.S2HVALID = false)
    (hnone : s.sys.answer = none) (hbusy : s.bit F.SUP_MBX.H2SBUSY = true) (hop : s.mbxOp ∉ mbxOps) :
    ∃ t, exec .mbxResponse s = .next t ∧ t.bit F.SUP_MBX.S2HVALID = true ∧ t.bit F.SUP_MBX.H2SBUSY = false ∧
      t.get (F.SUP_S2H.WORD 0) % 65536 = s.mbxOp ∧ t.get (F.SUP_S2H.WORD 1) = 1 := by
  obtain ⟨h, hanswer, hlow⟩ := s.mbxAnswer_head 1
  have hexec := State.mbxResponse_of (w := [h, 1]) hready hvalid (if_pos (by simp [hbusy, hnone, hop])) hanswer
  refine ⟨_, hexec, ?_, ?_, ?_, ?_⟩
  · exact (State.bit_eq_of_get (State.get_told _ _ _ _)).trans (State.bit_set _ 1 rfl)
  · refine (State.bit_eq_of_get (State.get_told _ _ _ _)).trans ((State.bit_set_ne _ 1 (by decide)).trans ?_)
    refine (State.bit_eq_of_get (State.get_sets_ne (s.mbxAnswer 1 []) _ fun p hp hk => ?_)).trans (State.bit_set (f := F.SUP_MBX.H2SBUSY) s 0 rfl)
    obtain ⟨q, -, rfl⟩ := List.mem_map.mp hp
    simp only [Fld.key, F.SUP_S2H.WORD, F.SUP_MBX.H2SBUSY] at hk
    omega
  · refine (congrArg (· % 65536) ((State.get_told _ _ _ _).trans (State.posted_word (k := 0) (by simp)))).trans ?_
    exact hlow
  · exact (State.get_told _ _ _ _).trans (State.posted_word (k := 1) (by simp))

/-- Settles O47, by what each operation answers. -/
theorem mailbox : Obligations.Mailbox := by
  refine ⟨fun s req hr hready hbusy hvalid hvec hirq => ?_, fun s req hr hrefused hclear => ?_, fun s hw => ⟨fun hgood => ?_, fun hbad => ?_⟩,
    fun s hw hlen => ?_, fun s a hw hlen ha => ?_, fun s hw hlen ha => ?_, fun s hw hlen => ?_, fun s hw hlen => ?_, fun s hw hlen hport hk => ?_,
    fun s hw => ⟨fun hlen hzero => ?_, fun hlen hone hlat hlon hhgt => ?_, fun hlen => ?_⟩, fun s hw hlen => ?_, fun s w hready hvalid hanswer
      hlen => ?_,
    fun s hready hvalid hnone hbusy hop => ?_⟩
  · exact State.mbxDoorbell_busy hr hready hbusy hvalid hvec hirq
  · exact State.mbxDoorbell_refused hr hrefused hclear
  · refine ⟨_, (next_when hw _).trans (congrArg Host.Outcome.next (if_pos hgood)), State.mbxAnswer_answered 0 _ rfl⟩
  · refine ⟨_, (next_when hw _).trans (congrArg Host.Outcome.next (if_neg (by rw [hbad]; decide))), State.mbxAnswer_answered 2 _ rfl⟩
  · exact ⟨_, congrArg Host.Outcome.next (State.mbxServe_of_waits (n := 0) hw hlen _), State.mbxAnswer_answered 0 _ rfl⟩
  · have hexec : exec .mbxAddrSet s = .next ((s.updSys (fun y => { y with addrs := insertAt (s.mbxPayload.getD 0 0) a y.addrs })).mbxAnswer 0 [])
    := by
      refine congrArg Host.Outcome.next ((State.mbxServe_of_waits (n := 10) hw hlen _).trans ?_)
      rw [ha]
    exact ⟨_, hexec, rfl, State.mbxAnswer_answered 0 _ rfl⟩
  · have hexec : exec .mbxAddrSet s = .next (s.mbxAnswer 3 []) := by
      refine congrArg Host.Outcome.next ((State.mbxServe_of_waits (n := 10) hw hlen _).trans ?_)
      rw [ha]
    exact ⟨_, hexec, rfl, State.mbxAnswer_answered 3 _ rfl⟩
  · intro k
    have hexec : exec .mbxAddrGet s = .next (if k < 16 then s.mbxAnswer 0 (addrWords k (lookup k s.sys.addrs)) else s.mbxAnswer 3 []) :=
      congrArg Host.Outcome.next (State.mbxServe_of_waits (n := 1) hw hlen _)
    refine ⟨_, hexec, ?_⟩
    split
    · exact State.mbxAnswer_answered 0 _ rfl
    · exact State.mbxAnswer_answered 3 _ rfl
  · intro a n h1 h2 h3
    have hexec : exec .mbxKeCert s = .next (if s.leafMatches (s.sramRead a n) then
        (s.updSys (fun y => { y with keCert := s.sramRead a n, keCertWarned := false })).mbxAnswer 0 [] else s.mbxAnswer 4 []) := by
      refine congrArg Host.Outcome.next ((State.mbxServe_of_waits (n := 2) hw hlen _).trans ?_)
      exact if_neg (by omega)
    refine ⟨_, hexec, ?_⟩
    split
    · exact ⟨rfl, State.mbxAnswer_answered 0 _ rfl⟩
    · exact ⟨rfl, State.mbxAnswer_answered 4 _ rfl⟩
  · have hexec : exec .mbxPtpDs s = .next (s.mbxAnswer 0 (wordsOf 62 (s.dataSet (s.mbxPayload.getD 0 0) (s.mbxPayload.getD 1 0)))) := by
      refine congrArg Host.Outcome.next ((State.mbxServe_of_waits (n := 2) hw hlen _).trans ?_)
      exact if_pos ⟨hport, hk⟩
    exact ⟨_, hexec, State.mbxAnswer_answered 0 _ rfl⟩
  · exact State.mbxNav_survey hw hlen hzero
  · exact State.mbxNav_position hw hlen hone hlat hlon hhgt
  · refine ⟨_, (next_when hw _).trans (congrArg Host.Outcome.next ?_), State.mbxAnswer_answered 2 _ rfl, rfl⟩
    rw [if_neg (by omega), if_neg (by omega), if_pos (by omega)]
  · intro a n h1 h2 b
    have hexec : exec .mbxLog s = .next ((s.useFree.sramStore a b).mbxAnswer 0 [b.length]) := by
      refine congrArg Host.Outcome.next ((State.mbxServe_of_waits (n := 2) hw hlen _).trans ?_)
      exact if_neg (by omega)
    exact ⟨_, hexec, State.mbxAnswer_answered 0 _ rfl, State.sramRead_sramStore s.useFree a b⟩
  · have hexec := State.mbxResponse_of hready hvalid (if_neg (by rw [hanswer]; simp)) hanswer
    refine ⟨_, hexec, ?_, ?_, fun k hk => ?_⟩
    · exact (State.bit_eq_of_get (State.get_told _ _ _ _)).trans (State.bit_set _ 1 rfl)
    · exact State.told_answer _ _ _
    · exact (State.get_told _ _ _ _).trans (State.posted_word hk)
  · exact State.mbxResponse_unknown hready hvalid hnone hbusy hop

end Sys2Proof.Machine

/-! PROOF. Performance counters and precise samples (R523 to R535). -/

namespace Sys2Proof.Machine

/-! A field of a record after others. -/

theorem leAt_skip {a b : List Byte} {k : Nat} (ha : a.length = k) (off n : Nat) : leAt (a ++ b) (k + off) n = leAt b off n := by
  rw [leAt, leAt, sliceB, sliceB, ← ha, List.drop_length_add_append]

/-! What the cluster's own counters leave of the sampler's registers. -/

section
variable {f : Fld} (hlow : 0x1200900 * 32 ≤ f.key) (hhigh : f.key < 0x1300000 * 32)
include hlow hhigh

theorem State.get_pmuReport_sampler (t : State) (j : Nat) : (t.pmuReport .cluster j).get f = t.get f := by
  have hovf : f.key ≠ (pmuOvf .cluster).key := by
    refine fun hk => absurd hk ?_
    simp only [Fld.key, pmuOvf, F.PMU_COVF.OVF] at hlow ⊢
    omega
  have hfreeze : f.key ≠ F.PMU_CTRL.FREEZE.key := by
    simp only [Fld.key, F.PMU_CTRL.FREEZE] at hlow ⊢
    omega
  have hblk : f.blk ≠ 0x11 := by
    unfold Fld.blk
    omega
  unfold State.pmuReport
  extract_lets a b
  have hb : b.get f = t.get f := by
    have ha : a.get f = t.get f := State.get_set_ne t _ hovf
    by_cases hirq : a.bit (pmuIrq .cluster j)
    · rw [show b = a.occur 46 0xFF (pmuInst .cluster + 256 * j) 0 from if_pos hirq, State.get_occur _ _ _ _ (by decide) hblk, ha]
    · rw [show b = a from if_neg hirq, ha]
  split
  · rw [State.get_set_ne b _ hfreeze, hb]
  · exact hb

theorem State.get_pmuAdd_sampler (t : State) {fuel j n : Nat} (hj : j < 16) : (t.pmuAdd .cluster fuel j n).1.get f = t.get f := by
  induction fuel generalizing t j n with
  | zero => rfl
  | succ fuel ih =>
    unfold State.pmuAdd
    extract_lets c a
    have ha : a.get f = t.get f := State.get_set_ne t _ (by
      simp only [Fld.key, pmuCnt, F.PMU_CCNT.COUNT] at hlow ⊢
      omega)
    split
    · exact ha
    · split
      · next hchain =>
        have hnext : j + 1 < 16 := of_decide_eq_true (Bool.and_eq_true_iff.mp hchain).1
        split
        · exact (ih a hnext).trans ha
        · exact ha
      · exact (State.get_pmuReport_sampler hlow hhigh a j).trans ha

theorem State.get_clusterEvent_sampler (t : State) (ev filt : Nat) : (t.clusterEvent ev filt).get f = t.get f := by
  refine List.foldlRecOn (motive := fun u : State => u.get f = t.get f) (List.range 16) _ rfl fun u hu j hj => ?_
  split
  · exact (State.get_pmuAdd_sampler hlow hhigh u (List.mem_range.mp hj)).trans hu
  · exact hu

end

/-! Counting leaves the sampler's ring. -/

theorem State.pmuReport_pmu (t : State) (set : PmuSet) (j : Nat) : (t.pmuReport set j).pmu = t.pmu := by
  unfold State.pmuReport
  extract_lets a b
  have hb : b.pmu = t.pmu := by
    by_cases hirq : a.bit (pmuIrq set j)
    · rw [show b = a.occur 46 0xFF (pmuInst set + 256 * j) 0 from if_pos hirq, State.occur_pmu]
      rfl
    · rw [show b = a from if_neg hirq]
      rfl
  split
  · exact hb
  · exact hb

theorem State.pmuAdd_pmu (t : State) (set : PmuSet) (fuel j n : Nat) : (t.pmuAdd set fuel j n).1.pmu = t.pmu := by
  induction fuel generalizing t j n with
  | zero => rfl
  | succ fuel ih =>
    unfold State.pmuAdd
    extract_lets c a
    split
    · rfl
    · split
      · split
        · exact ih a _ _
        · rfl
      · exact State.pmuReport_pmu a set j

theorem State.clusterEvent_pmu (t : State) (ev filt : Nat) : (t.clusterEvent ev filt).pmu = t.pmu := by
  refine foldl_keeps State.pmu (fun u j => ?_) (List.range 16) t
  split
  · exact State.pmuAdd_pmu u _ _ _ _
  · rfl

/-! A record that finds room. -/

theorem State.pushSample_shows {s : State} (b : List Byte) (h : s.pmu.ring.length < 4096) : (s.pushSample b).pmu.ring = s.pmu.ring ++ [b] ∧
    (s.pushSample b).pmu.tags = s.pmu.tags ∧ (s.pushSample b).get F.PMU_SR_PROD.PROD = (s.get F.PMU_SR_PROD.PROD + 1) % 8192 := by
  let a := s.updPmu (fun p => { p with ring := s.pmu.ring ++ [b], seq := (p.seq + 1) % 2 ^ 32 })
  let c := a.bump F.PMU_SR_PROD.PROD
  obtain ⟨d, hd, hpmu, hprod⟩ : ∃ d : State, s.pushSample b = d.clusterEvent 0xE 0 ∧ d.pmu = c.pmu ∧ d.get F.PMU_SR_PROD.PROD = c.get
    F.PMU_SR_PROD.PROD := by
    have hfull : decide (4096 ≤ s.pmu.ring.length) = false := decide_eq_false (by omega)
    refine ⟨if s.pmu.ring.length + 1 == s.get F.PMU_SR_CFG.THR then c.pmuFlag F.PMU_STAT.SRHIGH else c, ?_, ?_, ?_⟩
    · unfold State.pushSample
      rw [if_neg (by omega)]
      simp only [hfull, Bool.false_eq_true, if_false, Bool.not_false, Bool.true_and]
      rfl
    · split
      · exact (State.flag_pmu _ _ _ _ _).trans rfl
      · rfl
    · split
      · exact State.flag_get_ne c 0 0 (by decide) (by decide) (by decide)
      · rfl
  rw [hd, State.clusterEvent_pmu, hpmu, State.get_clusterEvent_sampler (by decide) (by decide), hprod]
  exact ⟨rfl, rfl, State.get_bump_self a _ 1⟩

/-- The fields of a record. -/
theorem State.sampleRec_shows (s : State) (pc insn k thread kind skid lat flags counter ctx : Nat) (hk : k < 256) (hlat : lat < 65536) :
    (s.sampleRec pc insn k thread kind skid lat flags counter ctx).length = 32 ∧
    leAt (s.sampleRec pc insn k thread kind skid lat flags counter ctx) 0 4 = pc % 2 ^ 32 ∧
    leAt (s.sampleRec pc insn k thread kind skid lat flags counter ctx) 4 4 = insn % 2 ^ 32 ∧
    leAt (s.sampleRec pc insn k thread kind skid lat flags counter ctx) 8 1 = k ∧
    leAt (s.sampleRec pc insn k thread kind skid lat flags counter ctx) 12 2 = lat := by
  unfold State.sampleRec
  extract_lets r crumbs t
  simp only [List.append_assoc]
  have h4 : ∀ v, (leBytes 4 v).length = 4 := fun v => leBytes_length 4 v
  have h1 : ∀ v, (leBytes 1 v).length = 1 := fun v => leBytes_length 1 v
  refine ⟨by simp [leBytes_length], ?_, ?_, ?_, ?_⟩
  · exact (leAt_zero (h4 pc)).trans (leNat_leBytes 4 pc)
  · exact (leAt_mid (h4 pc) (h4 insn)).trans (leNat_leBytes 4 insn)
  · rw [show 8 = 4 + 4 from rfl, leAt_skip (h4 pc), leAt_mid (h4 insn) (h1 k), leNat_leBytes]
    exact Nat.mod_eq_of_lt hk
  · rw [show 12 = 4 + (4 + (1 + (1 + (1 + (1 + 0))))) from rfl, leAt_skip (h4 pc), leAt_skip (h4 insn), leAt_skip (h1 k), leAt_skip (h1 thread),
      leAt_skip (h1 kind), leAt_skip (h1 skid), leAt_zero (leBytes_length 2 lat), leNat_leBytes]
    exact Nat.mod_eq_of_lt hlat

/-! CLRALL. -/

theorem storeGet_filter (l : List (Nat × Nat)) (p : Nat × Nat → Bool) {q : Nat} {b : Bool} (h : ∀ v, p (q, v) = b) :
    storeGet (l.filter p) q = if b then storeGet l q else 0 := by
  induction l with
  | nil => simp [storeGet]
  | cons e l ih =>
    obtain ⟨k, v⟩ := e
    by_cases hk : q = k
    · subst hk
      cases b
      · rw [List.filter_cons_of_neg (by simp [h v]), ih]
        rfl
      · rw [List.filter_cons_of_pos (h v)]
        simp [storeGet]
    · cases hp : p (k, v)
      · rw [List.filter_cons_of_neg (by simp [hp]), ih, storeGet, if_neg hk]
      · rw [List.filter_cons_of_pos hp, storeGet, if_neg hk, storeGet, if_neg hk, ih]

/-- Whether CLRALL clears the register at an offset. -/
def clearedByAll (o : Nat) : Bool :=
  (decide (0x1200120 ≤ o) && decide (o < 0x1200500) && decide (0x20 ≤ o % 0x40)) || (decide (0x1200600 ≤ o) && decide (o < 0x1200640)) ||
    (decide (0x1200840 ≤ o) && decide (o < 0x1200884))

section
variable (s : State) {c o l w r : Nat}

/-- A register outside the sampler's own four. -/
theorem State.get_clrAll (hc : c = 0) (hl : l < 32) (ho : o < 0x1200900) :
    s.clrAll.get ⟨c, o, l, w, r⟩ = if clearedByAll o then r else s.get ⟨c, o, l, w, r⟩ := by
  have hkey : Fld.key ⟨c, o, l, w, r⟩ / 32 % 0x4000000 = o := by
    simp only [Fld.key]
    omega
  refine (State.get_sets_off _ (by (repeat' apply And.intro) <;> (apply Fld.key_ne; omega))).trans ?_
  have hfilter := storeGet_filter s.regs (fun e => !clearedByAll (e.1 / 32 % 0x4000000)) (q := Fld.key ⟨c, o, l, w, r⟩) (b := !clearedByAll o)
    (fun v => by rw [hkey])
  refine (congrArg (· ^^^ r) hfilter).trans ?_
  cases clearedByAll o
  · rfl
  · exact Nat.zero_xor r

theorem State.clrAll_ring : s.clrAll.get F.PMU_SR_PROD.PROD = 0 ∧ s.clrAll.get F.PMU_SR_CONS.CONS = 0 := by
  unfold State.clrAll
  extract_lets a
  let l := [(F.PMU_PS_SKIP.SKIP, 0), (F.PMU_SR_LOST.LOST, 0), (F.PMU_SR_PROD.PROD, 0), (F.PMU_SR_CONS.CONS, 0)]
  have hprod : (a.sets l).get F.PMU_SR_PROD.PROD = 0 := State.get_sets_at a [_, _] [_] (by apply Fld.key_ne; omega)
  have hcons : (a.sets l).get F.PMU_SR_CONS.CONS = 0 := State.get_sets_at a [_, _, _] [] trivial
  exact ⟨hprod, hcons⟩

end

/-! A counter's own occurrences. -/

section
variable {s : State} {set : PmuSet} {j n : Nat}

theorem State.pmuCounterOverflow_of (hex : pmuExists set j = true) (hruns : s.pmuRuns set j = true) (hchain : s.bit (pmuChain set j) = false)
    (hevt : s.get (pmuEvt set j) ≠ 0) (hown : pmuOwn set (s.get (pmuEvt set j)) = false) (hn : n < 2 ^ 32) :
    exec (.pmuCounterOverflow set j n) s = .next (match set with | .engine k => s.engineCount k j n | .cluster => (s.pmuAdd .cluster 16 j n).1) := by
  change onUnit (pmuExists set j) _ = _
  rw [hex, onUnit_true]
  exact next_when (by rw [hruns, hchain, hown, decide_eq_true hn, bne_iff_ne.mpr hevt]; rfl) _

/-- A count below 2³² changes the counter alone. -/
theorem State.pmuAdd_of_lt (fuel : Nat) (h : s.get (pmuCnt set j) + n < 2 ^ 32) :
    s.pmuAdd set (fuel + 1) j n = (s.set (pmuCnt set j) (s.get (pmuCnt set j) + n), none) := by
  unfold State.pmuAdd
  exact if_pos h

/-- An overflow of a counter that is not chained. -/
theorem State.pmuAdd_of_overflow (fuel : Nat) (h : 2 ^ 32 ≤ s.get (pmuCnt set j) + n) (hlast : s.pmuChained set j = false) :
    s.pmuAdd set (fuel + 1) j n = ((s.set (pmuCnt set j) (s.get (pmuCnt set j) + n)).pmuReport set j, some j) := by
  unfold State.pmuAdd
  exact (if_neg (by omega)).trans (if_neg (by rw [hlast]; decide))

theorem pmuCnt_w (set : PmuSet) (j : Nat) : (pmuCnt set j).w = 32 := by cases set <;> rfl

/-- The report of a cluster counter's overflow, while FRZOVF is 0. -/
theorem State.pmuReport_shows (a : State) (hj : j < 16) (hfrz : a.bit F.PMU_CTRL.FRZOVF = false) :
    (a.pmuReport .cluster j).get (F.PMU_CCNT.COUNT j) = a.get (F.PMU_CCNT.COUNT j) ∧
      ((a.pmuReport .cluster j).get F.PMU_COVF.OVF).testBit j = true ∧ RegsBut [F.PMU_COVF.OVF] a (a.pmuReport .cluster j) := by
  let u := a.set F.PMU_COVF.OVF (setBitN (a.get F.PMU_COVF.OVF) j)
  have hget : ∀ f : Fld, f.blk ≠ 0x11 → (a.pmuReport .cluster j).get f = u.get f := fun f hf => by
    unfold State.pmuReport
    extract_lets a' b
    have hb : b.get f = u.get f ∧ b.bit F.PMU_CTRL.FRZOVF = false := by
      have hu : u.bit F.PMU_CTRL.FRZOVF = false := (State.bit_set_ne a _ (by decide)).trans hfrz
      by_cases hirq : a'.bit (pmuIrq .cluster j)
      · rw [show b = u.occur 46 0xFF (pmuInst .cluster + 256 * j) 0 from if_pos hirq]
        exact ⟨State.get_occur u _ _ _ (by decide) hf, (State.bit_eq_of_get (State.get_occur u _ _ _ (by decide) (by decide))).trans hu⟩
      · rw [show b = u from if_neg hirq]
        exact ⟨rfl, hu⟩
    rw [if_neg (by rw [hb.2]; decide), hb.1]
  refine ⟨(hget _ (by apply Fld.blk_ne; omega)).trans (State.get_set_ne a _ (by apply Fld.key_ne; omega)), ?_, fun f hf hk => ?_⟩
  · rw [hget _ (by decide), State.get_set_self, Nat.testBit_mod_two_pow, setBitN, Nat.testBit_or, Nat.testBit_two_pow_self]
    simp [F.PMU_COVF.OVF, hj]
  · exact (hget f hf).trans (State.get_set_ne a _ (hk _ (by simp)))

end

/-! Writes. -/

section
variable {s : State} {req : Requester} {data : Nat}

theorem State.writePmuCtl_engine (a : State) {k j : Nat} (huser : req.isUser = false) (h0 : j ≠ 0 ∨ data.testBit 7 = false) :
    a.writePmuCtl req (.engine k) j data = a.sets [(F.PMU_ECTL.EVT k j, bitsOf data 0 6), (F.PMU_ECTL.EN k j, bitsOf data 6 1),
      (F.PMU_ECTL.CHAIN k j, bitsOf data 7 1), (F.PMU_ECTL.SMP k j, bitsOf data 8 1), (F.PMU_ECTL.IRQ k j, bitsOf data 9 1),
      (F.PMU_ECTL.THR k j, bitsOf data 12 3)] := by
  unfold State.writePmuCtl
  refine if_neg ?_
  rw [huser]
  rcases h0 with h | h <;> simp [h]

theorem State.pmuCounterWrite_of_serves {k j : Nat} (hk : k < 16) (hj : j < 8) (ctl : Bool) {off : Nat} (hr : s.Serves req off)
    (hoff : (if ctl then pmuCtlOff (.engine k) j else pmuCntOff (.engine k) j) = off) :
    exec (.pmuCounterWrite req (.engine k) j ctl data) s = .next (if ctl then (s.set (F.XBR_TSTAT.OWNER 6) req.master).writePmuCtl req (.engine
      k) j data
      else (s.set (F.XBR_TSTAT.OWNER 6) req.master).writePmuCnt req (.engine k) j data) := by
  change onUnit (decide (j < 8) && decide (k < 16)) _ = _
  subst hoff
  rw [decide_eq_true hj, decide_eq_true hk]
  cases ctl
  · exact congrArg Host.Outcome.next (State.atDomain_of_serves hr _ _)
  · exact congrArg Host.Outcome.next (State.atDomain_of_serves hr _ _)

/-- The bit of a word that a field takes. -/
theorem bitsOf_one (data i : Nat) : (bitsOf data i 1 != 0) = data.testBit i := by
  rw [bitsOf, Nat.testBit_eq_decide_div_mod_eq]
  rcases Nat.mod_two_eq_zero_or_one (data / 2 ^ i) with h | h <;> simp [h]

/-- What a write of a counter's control register shows. -/
theorem State.ectl_shows (a : State) (data k j : Nat) :
    let t := a.sets [(F.PMU_ECTL.EVT k j, bitsOf data 0 6), (F.PMU_ECTL.EN k j, bitsOf data 6 1), (F.PMU_ECTL.CHAIN k j, bitsOf data 7 1),
      (F.PMU_ECTL.SMP k j, bitsOf data 8 1), (F.PMU_ECTL.IRQ k j, bitsOf data 9 1), (F.PMU_ECTL.THR k j, bitsOf data 12 3)]
    t.get (F.PMU_ECTL.EVT k j) = data % 64 ∧ t.bit (F.PMU_ECTL.EN k j) = data.testBit 6 ∧ t.bit (F.PMU_ECTL.CHAIN k j) = data.testBit 7 := by
  intro t
  have hevt : t.get (F.PMU_ECTL.EVT k j) = bitsOf data 0 6 % 2 ^ 6 :=
    State.get_sets_at a [] _ (by (repeat' apply And.intro) <;> (apply Fld.key_ne; omega))
  have hen : t.get (F.PMU_ECTL.EN k j) = bitsOf data 6 1 % 2 ^ 1 :=
    State.get_sets_at a [_] _ (by (repeat' apply And.intro) <;> (apply Fld.key_ne; omega))
  have hchain : t.get (F.PMU_ECTL.CHAIN k j) = bitsOf data 7 1 % 2 ^ 1 :=
    State.get_sets_at a [_, _] _ (by (repeat' apply And.intro) <;> (apply Fld.key_ne; omega))
  refine ⟨?_, ?_, ?_⟩
  · rw [hevt, Nat.mod_eq_of_lt (bitsOf_lt _ _ _)]
    simp [bitsOf]
  · rw [State.bit, hen, Nat.mod_eq_of_lt (bitsOf_lt _ _ _), bitsOf_one]
  · rw [State.bit, hchain, Nat.mod_eq_of_lt (bitsOf_lt _ _ _), bitsOf_one]

theorem pmuCtrl_bits {u f o b : Nat} (hu : u ≤ 1) (hf : f ≤ 1) (ho : o ≤ 1) (hb : b ≤ 1) :
    bitsOf (u + 2 * f + 4 * o + 8 * b) 0 1 = u ∧ bitsOf (u + 2 * f + 4 * o + 8 * b) 1 1 = f ∧ bitsOf (u + 2 * f + 4 * o + 8 * b) 2 1 = o ∧
      (u + 2 * f + 4 * o + 8 * b).testBit 3 = decide (b = 1) := by
  simp only [bitsOf, Nat.testBit_eq_decide_div_mod_eq, decide_eq_decide]
  omega

theorem putBits_freeze {u f o b : Nat} (hf : f ≤ 1) (hu : u ≤ 1) (hb : b ≤ 1) : putBits (u + 2 * f + 4 * o) 1 1 b = u + 2 * b + 4 * o + 8 * 0 := by
  unfold putBits bitsOf
  omega

/-- A write of PMU_CTRL with the other two fields as they stand. -/
theorem State.writePmuCtrl_fields (a : State) {u f o b : Nat} (huser : req.isUser = false) (hu : u ≤ 1) (hf : f ≤ 1) (ho : o ≤ 1) (hb : b ≤ 1) :
    a.writePmuCtrl req (u + 2 * f + 4 * o + 8 * b) =
      if b = 1 then (a.sets [(F.PMU_CTRL.USER_EN, u), (F.PMU_CTRL.FREEZE, f), (F.PMU_CTRL.FRZOVF, o)]).clrAll
      else a.sets [(F.PMU_CTRL.USER_EN, u), (F.PMU_CTRL.FREEZE, f), (F.PMU_CTRL.FRZOVF, o)] := by
  obtain ⟨h0, h1, h2, h3⟩ := pmuCtrl_bits hu hf ho hb
  unfold State.writePmuCtrl
  rw [huser, h0, h1, h2, h3]
  simp

end

/-! Each clause of the block's writes and counts. -/

section
variable {s : State} {req : Requester}

/-- A count below 2³² is written and changes nothing else. -/
theorem State.pmuCounterOverflow_counts {set : PmuSet} {j n : Nat} (hex : pmuExists set j = true) (hruns : s.pmuRuns set j = true)
    (hchain : s.bit (pmuChain set j) = false) (hevt : s.get (pmuEvt set j) ≠ 0) (hown : pmuOwn set (s.get (pmuEvt set j)) = false) (hn : n < 2 ^ 32)
    (hlt : s.get (pmuCnt set j) + n < 2 ^ 32) : ∃ t, exec (.pmuCounterOverflow set j n) s = .next t ∧
      t.get (pmuCnt set j) = s.get (pmuCnt set j) + n ∧ RegsOnly s t ∧ RegsBut [pmuCnt set j] s t := by
  have hexec := State.pmuCounterOverflow_of hex hruns hchain hevt hown hn
  let t := s.set (pmuCnt set j) (s.get (pmuCnt set j) + n)
  have ht : exec (.pmuCounterOverflow set j n) s = .next t := by
    rw [hexec]
    cases set with
    | engine k =>
      change Host.Outcome.next (s.engineCount k j n) = _
      rw [State.engineCount, s.pmuAdd_of_lt (set := .engine k) 7 hlt]
    | cluster =>
      change Host.Outcome.next (s.pmuAdd .cluster 16 j n).1 = _
      rw [s.pmuAdd_of_lt (set := .cluster) 15 hlt]
  exact ⟨t, ht, State.get_set_of_lt s (by rw [pmuCnt_w]; exact hlt), rfl, .set (.refl _ s) (by simp)⟩

/-- The overflow of a counter of the cluster that is not chained sets its bit. -/
theorem State.pmuCounterOverflow_overflows {j n : Nat} (hex : pmuExists .cluster j = true) (hruns : s.pmuRuns .cluster j = true)
    (hchain : s.bit (pmuChain .cluster j) = false) (hevt : s.get (pmuEvt .cluster j) ≠ 0)
    (hown : pmuOwn .cluster (s.get (pmuEvt .cluster j)) = false) (hn : n < 2 ^ 32) (hover : 2 ^ 32 ≤ s.get (pmuCnt .cluster j) + n)
    (hlast : s.pmuChained .cluster j = false) (hfrz : s.bit F.PMU_CTRL.FRZOVF = false) :
    ∃ t, exec (.pmuCounterOverflow .cluster j n) s = .next t ∧ t.get (pmuCnt .cluster j) = (s.get (pmuCnt .cluster j) + n) % 2 ^ 32 ∧
      (t.get (pmuOvf .cluster)).testBit j = true ∧ RegsBut [pmuCnt .cluster j, pmuOvf .cluster] s t := by
  have hj : j < 16 := by
    simp only [pmuExists, Bool.and_true, decide_eq_true_eq] at hex
    exact hex
  have hexec := State.pmuCounterOverflow_of hex hruns hchain hevt hown hn
  let a := s.set (F.PMU_CCNT.COUNT j) (s.get (F.PMU_CCNT.COUNT j) + n)
  have ht : exec (.pmuCounterOverflow .cluster j n) s = .next (a.pmuReport .cluster j) := by
    rw [hexec]
    exact congrArg (fun p : State × Option Nat => Host.Outcome.next p.1) (s.pmuAdd_of_overflow (set := .cluster) 15 hover hlast)
  obtain ⟨hcnt, hbit, hregs⟩ := a.pmuReport_shows hj ((State.bit_set_ne s _ (by apply Fld.key_ne; omega)).trans hfrz)
  refine ⟨_, ht, hcnt.trans (State.get_set_self s _ _), hbit, ?_⟩
  exact RegsBut.trans (t := a) (.set (.refl _ s) (by simp [pmuCnt])) (hregs.mono (by simp [pmuOvf]))

section
variable {k j : Nat} (data : Nat) (hk : k < 16) (hj : j < 8)
include hk hj

theorem State.pmuCounterWrite_controls (hr : s.Serves req (0x1200100 + 0x40 * k + 4 * j)) (huser : req.isUser = false)
    (h0 : j ≠ 0 ∨ data.testBit 7 = false) : ∃ t, exec (.pmuCounterWrite req (.engine k) j true data) s = .next t ∧
      t.get (F.PMU_ECTL.EVT k j) = data % 64 ∧ t.bit (F.PMU_ECTL.EN k j) = data.testBit 6 ∧ t.bit (F.PMU_ECTL.CHAIN k j) = data.testBit 7 ∧
      RegsOnly s t := by
  have hexec := State.pmuCounterWrite_of_serves (data := data) hk hj true hr (if_pos rfl)
  rw [if_pos rfl, State.writePmuCtl_engine _ huser h0] at hexec
  obtain ⟨hevt, hen, hchain⟩ := (s.set (F.XBR_TSTAT.OWNER 6) req.master).ectl_shows data k j
  have honly : RegsOnly s (s.set (F.XBR_TSTAT.OWNER 6) req.master) := rfl
  exact ⟨_, hexec, hevt, hen, hchain, honly.trans (State.sets_regsOnly _ _)⟩

theorem State.pmuCounterWrite_counts (hr : s.Serves req (0x1200120 + 0x40 * k + 4 * j)) (huser : req.isUser = false) :
    ∃ t, exec (.pmuCounterWrite req (.engine k) j false data) s = .next t ∧ t.get (F.PMU_ECNT.COUNT k j) = data % 2 ^ 32 ∧ RegsOnly s t ∧
      RegsBut [F.PMU_ECNT.COUNT k j, F.XBR_TSTAT.OWNER 6] s t := by
  have hexec := State.pmuCounterWrite_of_serves (data := data) hk hj false hr (if_neg (by decide))
  rw [if_neg (by decide), State.writePmuCnt, if_neg (by rw [huser]; decide)] at hexec
  exact ⟨_, hexec, State.get_set_self _ _ _, rfl, .set (.set (.refl _ s) (by simp)) (by simp [pmuCnt])⟩

/-- User-mode code writes no count. -/
theorem State.pmuCounterWrite_refuses (hr : s.Serves req (0x1200120 + 0x40 * k + 4 * j)) (huser : req.isUser = true)
    (hclear : s.bit F.XBR_AERR.AERR = false) : ∃ t, exec (.pmuCounterWrite req (.engine k) j false data) s = .next t ∧
      t.get (F.PMU_ECNT.COUNT k j) = s.get (F.PMU_ECNT.COUNT k j) ∧ t.get F.XBR_AERR.CAUSE = 7 := by
  have hexec := State.pmuCounterWrite_of_serves (data := data) hk hj false hr (if_neg (by decide))
  rw [if_neg (by decide), State.writePmuCnt, if_pos huser] at hexec
  refine ⟨_, hexec, ?_, State.accessError_cause ((State.bit_set_ne s _ (by decide)).trans hclear) req 7 _ (by decide)⟩
  refine (State.accessError_get_ne _ req 7 _ (by apply Fld.blk_ne; omega) ?_).trans (State.get_set_ne s _ (by apply Fld.key_ne; omega))
  simp only [List.forall_mem_cons]
  refine ⟨?_, ?_, ?_, ?_, ?_, nofun⟩ <;> (apply Fld.key_ne; omega)

end

section
variable (hr : s.Serves req 0x1200000) (huser : req.isUser = false) (hu : s.get F.PMU_CTRL.USER_EN ≤ 1) (ho : s.get F.PMU_CTRL.FRZOVF ≤ 1)
  (hf : s.get F.PMU_CTRL.FREEZE ≤ 1)
include hr huser hu ho hf

theorem State.pmuFreezeWrite_freezes (on : Bool) : ∃ t, exec (.pmuFreezeWrite req on) s = .next t ∧ t.bit F.PMU_CTRL.FREEZE = on ∧ RegsOnly s t ∧
    RegsBut [F.PMU_CTRL.FREEZE, F.XBR_TSTAT.OWNER 6] s t := by
  let a := s.set (F.XBR_TSTAT.OWNER 6) req.master
  have hword : putBits s.pmuCtrlWord 1 1 (if on then 1 else 0) =
      s.get F.PMU_CTRL.USER_EN + 2 * (if on then 1 else 0) + 4 * s.get F.PMU_CTRL.FRZOVF + 8 * 0 :=
    putBits_freeze hf hu (by cases on <;> decide)
  have hexec : exec (.pmuFreezeWrite req on) s = .next (a.sets [(F.PMU_CTRL.USER_EN, s.get F.PMU_CTRL.USER_EN),
      (F.PMU_CTRL.FREEZE, if on then 1 else 0), (F.PMU_CTRL.FRZOVF, s.get F.PMU_CTRL.FRZOVF)]) := by
    refine congrArg Host.Outcome.next ((State.atDomain_of_serves hr _ _).trans ?_)
    rw [hword, State.writePmuCtrl_fields _ huser hu (by cases on <;> decide) ho (by decide)]
    rfl
  refine ⟨_, hexec, ?_, rfl, fun g hg hk => ?_⟩
  · refine Eq.trans (congrArg (· != 0) (State.get_sets_at a [_] [_] (by apply Fld.key_ne; omega))) ?_
    cases on <;> rfl
  · have h1 : a.get F.PMU_CTRL.USER_EN = s.get F.PMU_CTRL.USER_EN := State.get_set_ne s _ (by decide)
    have hfirst : ∀ g, (a.set F.PMU_CTRL.USER_EN (s.get F.PMU_CTRL.USER_EN)).get g = a.get g := fun g => by
      have h := a.get_set_get (f := F.PMU_CTRL.USER_EN) (by rw [h1]; exact Nat.lt_of_le_of_lt hu (by decide)) g
      rwa [h1] at h
    let b := (a.set F.PMU_CTRL.USER_EN (s.get F.PMU_CTRL.USER_EN)).set F.PMU_CTRL.FREEZE (if on then 1 else 0)
    have h3 : b.get F.PMU_CTRL.FRZOVF = s.get F.PMU_CTRL.FRZOVF :=
      ((State.get_set_ne _ _ (by decide)).trans (hfirst _)).trans (State.get_set_ne s _ (by decide))
    have hlast := b.get_set_get (f := F.PMU_CTRL.FRZOVF) (by rw [h3]; exact Nat.lt_of_le_of_lt ho (by decide)) g
    rw [h3] at hlast
    exact ((hlast.trans (State.get_set_ne _ _ (hk _ (by simp)))).trans (hfirst g)).trans (State.get_set_ne s _ (hk _ (by simp)))

/-- CLRALL clears every count, the overflows and the ring, and leaves the controls. -/
theorem State.pmuClrall_clears : ∃ t, exec (.pmuClrall req) s = .next t ∧ (∀ k j, k < 16 → j < 8 → t.get (F.PMU_ECNT.COUNT k j) = 0 ∧
      t.get (F.PMU_EOVF.OVF k) = 0 ∧ t.get (F.PMU_ECTL.EVT k j) = s.get (F.PMU_ECTL.EVT k j)) ∧ (∀ j < 16, t.get (F.PMU_CCNT.COUNT j) = 0) ∧
    t.get F.PMU_COVF.OVF = 0 ∧ t.pmu.ring = [] ∧ t.get F.PMU_SR_PROD.PROD = 0 ∧ t.get F.PMU_SR_CONS.CONS = 0 ∧
    t.get F.PMU_CTRL.FREEZE = s.get F.PMU_CTRL.FREEZE := by
  let a := s.set (F.XBR_TSTAT.OWNER 6) req.master
  let b := a.sets [(F.PMU_CTRL.USER_EN, s.get F.PMU_CTRL.USER_EN), (F.PMU_CTRL.FREEZE, s.get F.PMU_CTRL.FREEZE),
    (F.PMU_CTRL.FRZOVF, s.get F.PMU_CTRL.FRZOVF)]
  have hexec : exec (.pmuClrall req) s = .next b.clrAll := by
    refine congrArg Host.Outcome.next ((State.atDomain_of_serves hr _ _).trans ?_)
    exact (a.writePmuCtrl_fields (b := 1) huser hu hf ho (le_refl 1)).trans (if_pos rfl)
  refine ⟨_, hexec, fun k j hk hj => ⟨?_, ?_, ?_⟩, fun j hj => ?_, ?_, rfl, ?_, ?_, ?_⟩
  · refine (b.get_clrAll rfl (by decide) (by omega)).trans (if_pos ?_)
    simp only [clearedByAll, Bool.or_eq_true, Bool.and_eq_true, decide_eq_true_eq]
    omega
  · refine (b.get_clrAll rfl (by decide) (by omega)).trans (if_pos ?_)
    simp only [clearedByAll, Bool.or_eq_true, Bool.and_eq_true, decide_eq_true_eq]
    omega
  · refine (b.get_clrAll rfl (by decide) (by omega)).trans ((if_neg ?_).trans ?_)
    · simp only [clearedByAll, Bool.or_eq_true, Bool.and_eq_true, decide_eq_true_eq]
      omega
    · exact (State.get_sets_off a (by (repeat' apply And.intro) <;> (apply Fld.key_ne; omega))).trans
        (State.get_set_ne s _ (by apply Fld.key_ne; omega))
  · refine (b.get_clrAll rfl (by decide) (by omega)).trans (if_pos ?_)
    simp only [clearedByAll, Bool.or_eq_true, Bool.and_eq_true, decide_eq_true_eq]
    omega
  · exact (b.get_clrAll rfl (by decide) (by decide)).trans (if_pos (by decide))
  · exact b.clrAll_ring.1
  · exact b.clrAll_ring.2
  · refine (b.get_clrAll rfl (by decide) (by decide)).trans ((if_neg (by decide)).trans ?_)
    exact (State.get_sets_at a [_] [_] (by apply Fld.key_ne; omega)).trans (Nat.mod_eq_of_lt (Nat.lt_of_le_of_lt hf (by decide)))

end

/-- An engine that samples and is drawn: its tag is held, or the sample is skipped where one is held already. -/
theorem exec_preciseSampleTag {k : Nat} (hk : k < 16) (hen : s.bit F.PMU_PS_CTRL.EN = true) (hmask : (s.get F.PMU_PS_ENG.MASK).testBit k = true) :
    exec (.preciseSampleTag k) s = .next (if s.pmu.tags.contains k then s.bumpSat F.PMU_PS_SKIP.SKIP
      else s.updPmu (fun p => { p with tags := p.tags ++ [k] })) := by
  change onUnit (decide (k < 16)) _ = _
  rw [decide_eq_true hk, onUnit_true]
  exact next_when (by rw [hen, hmask]; rfl) _

/-- An instruction that retires with its tag held leaves a record in the ring. -/
theorem State.preciseSampleRecord_records {k : Nat} (pc insn thread lat flags ctx : Nat) (hk : k < 16) (hin : k ∈ s.pmu.tags)
    (hroom : s.pmu.ring.length < 4096) : ∃ t r, exec (.preciseSampleRecord k pc insn thread lat flags ctx) s = .next t ∧
      t.pmu.ring = s.pmu.ring ++ [r] ∧ r.length = 32 ∧ leAt r 0 4 = pc % 2 ^ 32 ∧ leAt r 4 4 = insn % 2 ^ 32 ∧ leAt r 8 1 = k ∧
      leAt r 12 2 = min 65535 lat ∧ k ∉ t.pmu.tags ∧ t.get F.PMU_SR_PROD.PROD = (s.get F.PMU_SR_PROD.PROD + 1) % 8192 ∧
      RegsOutside [0x11, 0x12] s t ∧ MemorySame s t := by
  let a := s.updPmu (fun p => { p with tags := p.tags.filter (· != k) })
  let r := a.sampleRec pc insn k (thread % 8) 0 0 (min 65535 lat) (flags % 64) 0xFF ctx
  have hexec : exec (.preciseSampleRecord k pc insn thread lat flags ctx) s = .next (a.pushSample r) := by
    change onUnit (decide (k < 16)) _ = _
    rw [decide_eq_true hk, onUnit_true]
    exact next_when (by simpa using hin) _
  obtain ⟨hlen, hpc, hinsn, heng, hlat⟩ := a.sampleRec_shows pc insn k (thread % 8) 0 0 (min 65535 lat) (flags % 64) 0xFF ctx (by omega) (by omega)
  obtain ⟨hring, htags, hprod⟩ := State.pushSample_shows (s := a) r hroom
  have honly : CountsOnly s (a.pushSample r) := .pushSample (.updPmu (.refl s))
  refine ⟨_, r, hexec, hring, hlen, hpc, hinsn, heng, hlat, ?_, hprod, honly.regs, .of_eq honly.sram honly.flash⟩
  rw [htags]
  simp [a, State.updPmu]

/-- The consumer index takes records off the ring. -/
theorem State.pmuSrConsWrite_takes (value : Nat) (hr : s.Serves req 0x1200918) (huser : req.isUser = false) {n : Nat}
    (hvalue : n = (value % 8192 + 8192 - s.get F.PMU_SR_CONS.CONS) % 8192) (hn : n ≤ s.pmu.ring.length) :
    ∃ t, exec (.pmuSrConsWrite req value) s = .next t ∧ t.get F.PMU_SR_CONS.CONS = value % 8192 ∧ t.pmu.ring = s.pmu.ring.drop n ∧
      RegsBut [F.PMU_SR_CONS.CONS, F.XBR_TSTAT.OWNER 6] s t := by
  subst hvalue
  let a := s.set (F.XBR_TSTAT.OWNER 6) req.master
  have hcons : a.get F.PMU_SR_CONS.CONS = s.get F.PMU_SR_CONS.CONS := State.get_set_ne s _ (by decide)
  have hexec : exec (.pmuSrConsWrite req value) s = .next ((a.set F.PMU_SR_CONS.CONS value).updPmu fun p =>
      { p with ring := p.ring.drop ((value % 8192 + 8192 - s.get F.PMU_SR_CONS.CONS) % 8192) }) := by
    refine congrArg Host.Outcome.next ((State.atDomain_of_serves hr _ _).trans ((if_neg (by rw [huser]; decide)).trans ?_))
    unfold State.writeSrCons
    rw [hcons]
    exact if_neg (Nat.not_lt.mpr hn)
  exact ⟨_, hexec, State.get_set_self a _ _, rfl, .of_regs (.set (.set (.refl _ s) (f := F.XBR_TSTAT.OWNER 6) (v := req.master) (by simp))
    (f := F.PMU_SR_CONS.CONS) (v := value) (by simp)) rfl⟩

end

/-- Settles O53, by the counters' arithmetic, the writes of the block and the sampler's ring. -/
theorem performanceMonitoring : Obligations.PerformanceMonitoring := by
  refine ⟨fun s set j n hex hruns hchain hevt hown hn => ⟨fun hlt => ?_, fun hover hlast hset hfrz => ?_⟩,
    fun s req k j data hk hj => ⟨fun hr huser h0 => ?_, fun hr huser => ?_, fun hr huser hclear => ?_⟩,
    fun s req hr huser hu hf ho => ⟨fun on => ?_, ?_⟩, fun s k hk hen hmask => ⟨fun hnot => ?_, fun hin => ?_⟩,
    fun s k pc insn thread lat flags ctx hk hin hroom => ?_, fun s req value hr huser => ?_⟩
  · exact State.pmuCounterOverflow_counts hex hruns hchain hevt hown hn hlt
  · subst hset
    exact State.pmuCounterOverflow_overflows hex hruns hchain hevt hown hn hover hlast hfrz
  · exact State.pmuCounterWrite_controls data hk hj hr huser h0
  · exact State.pmuCounterWrite_counts data hk hj hr huser
  · exact State.pmuCounterWrite_refuses data hk hj hr huser hclear
  · exact State.pmuFreezeWrite_freezes hr huser hu ho hf on
  · exact State.pmuClrall_clears hr huser hu ho hf
  · rw [exec_preciseSampleTag hk hen hmask, if_neg (by simpa using hnot)]
    rfl
  · rw [exec_preciseSampleTag hk hen hmask, if_pos (by simpa using hin)]
    exact ⟨_, rfl, State.get_bumpSat_self s _ 1, rfl, .set (.refl _ s) (by simp)⟩
  · exact State.preciseSampleRecord_records pc insn thread lat flags ctx hk hin hroom
  · exact fun hn => State.pmuSrConsWrite_takes value hr huser rfl hn

end Sys2Proof.Machine

/-! PROOF. The link to the twin: what selection and the outputs leave of the pair's registers and of its state. -/

namespace Sys2Proof.Machine

/-- The pair's state but for what sending changes: the number and the store of records, the lane's turn and the payloads sent last. -/
def PairSt.core (p : PairSt) : PairSt := { p with select := [], leap := [], param := [], seq := 0, store := [], turn := 0 }

/-- The fields of the pair's block but the listed ones, the count of records sent and the shown U_PAIR stay. -/
def LinkBut (fs : List Fld) (s t : State) : Prop :=
  ∀ g : Fld, g.blk = 0xF → g.key ≠ F.PAIR_JTX.TX.key → g.key ≠ F.PAIR_UPAIR.UPAIR.key → (∀ f ∈ fs, g.key ≠ f.key) → t.get g = s.get g

/-- The pair's registers and its state stay, whatever is sent or shown. -/
structure LinkKept (s t : State) : Prop where
  regs : LinkBut [] s t
  core : t.pair.core = s.pair.core

section
variable {fs : List Fld} {s t u : State}

theorem LinkBut.refl (fs : List Fld) (s : State) : LinkBut fs s s := fun _ _ _ _ _ => rfl

theorem LinkBut.trans (h : LinkBut fs s t) (k : LinkBut fs t u) : LinkBut fs s u := fun g hb ht hu hf => (k g hb ht hu hf).trans (h g hb ht hu hf)

theorem LinkBut.mono {gs : List Fld} (h : LinkBut fs s t) (hsub : ∀ f ∈ fs, f ∈ gs) : LinkBut gs s t :=
  fun g hb ht hu hf => h g hb ht hu fun f hm => hf f (hsub f hm)

theorem LinkBut.kept (h : LinkBut fs s t) (k : LinkKept t u) : LinkBut fs s u := h.trans (k.regs.mono nofun)

theorem LinkBut.of_regs (h : LinkBut fs s t) (hu : u.regs = t.regs) : LinkBut fs s u := h.trans fun g _ _ _ _ => State.get_congr hu g

theorem LinkBut.set {f : Fld} {v : Nat} (h : LinkBut fs s t) (hf : f ∈ fs) : LinkBut fs s (t.set f v) :=
  h.trans fun _ _ _ _ hne => State.get_set_ne t v (hne f hf)

theorem LinkBut.sets {l : List (Fld × Nat)} (h : LinkBut fs s t) (hl : ∀ p ∈ l, p.1 ∈ fs) : LinkBut fs s (t.sets l) :=
  h.trans fun _ _ _ _ hne => State.get_sets_ne t l fun p hp => hne p.1 (hl p hp)

theorem LinkBut.updPair {f : PairSt → PairSt} (h : LinkBut fs s t) : LinkBut fs s (t.updPair f) := h.of_regs rfl

theorem LinkBut.pairFlag {f : Fld} (h : LinkBut fs s t) (hf : f ∈ fs) : LinkBut fs s (t.pairFlag f) :=
  h.trans fun g hb _ _ hne => State.flag_get_ne t _ _ (by decide) (by rw [hb]; decide) (hne f hf)

theorem LinkBut.ite {c : Prop} [Decidable c] (ht : LinkBut fs s t) (hu : LinkBut fs s u) : LinkBut fs s (if c then t else u) := by
  split <;> assumption

end

/-! What sending keeps. -/

theorem State.updPair_core (s : State) {f : PairSt → PairSt} (hf : ∀ p, (f p).core = p.core) : (s.updPair f).pair.core = s.pair.core := hf s.pair

theorem State.onLane_core (s : State) (b : List Byte) : (s.onLane b).pair.core = s.pair.core :=
  (State.updPair_core _ fun _ => rfl).trans (congrArg PairSt.core (s.emit_pair _))

theorem State.sendRecord_core (s : State) (type : Nat) (payload : List Byte) : (s.sendRecord type payload).pair.core = s.pair.core := by
  unfold State.sendRecord
  split
  · rfl
  · extract_lets b
    exact (State.updPair_core (s.onLane b) fun _ => rfl).trans (s.onLane_core b)

section
variable {s₀ s t : State}

theorem LinkKept.refl (s : State) : LinkKept s s := ⟨.refl _ s, rfl⟩

theorem LinkKept.trans (h : LinkKept s₀ s) (k : LinkKept s t) : LinkKept s₀ t := ⟨h.regs.trans k.regs, k.core.trans h.core⟩

theorem LinkKept.get (h : LinkKept s₀ s) {g : Fld} (hb : g.blk = 0xF) (ht : g.key ≠ F.PAIR_JTX.TX.key) (hu : g.key ≠ F.PAIR_UPAIR.UPAIR.key) :
    s.get g = s₀.get g := h.regs g hb ht hu nofun

theorem LinkKept.of_eq (h : LinkKept s₀ s) (hr : t.regs = s.regs) (hp : t.pair = s.pair) : LinkKept s₀ t :=
  h.trans ⟨fun g _ _ _ _ => State.get_congr hr g, by rw [hp]⟩

/-- A change of parts other than the register store and the pair's state. -/
theorem LinkKept.parts {raw pending supply nv flash sram boot rcp tb hrt ref sel bound tdc osc syn outp pwr evt sys pmu pnl pke port nts ptp kvt snaps
    free out} (h : LinkKept s₀ s) : LinkKept s₀
      { s with
        raw := raw, pending := pending, supply := supply, nv := nv, flash := flash, sram := sram, boot := boot, rcp := rcp, tb := tb, hrt := hrt
        ref := ref, sel := sel, bound := bound, tdc := tdc, osc := osc, syn := syn, outp := outp, pwr := pwr, evt := evt, sys := sys, pmu := pmu
        pnl := pnl, pke := pke, port := port, nts := nts, ptp := ptp, kvt := kvt, snaps := snaps, out := out, free := free } :=
  ⟨h.regs, h.core⟩

theorem LinkKept.ite {c : Prop} [Decidable c] (ht : LinkKept s₀ s) (he : LinkKept s₀ t) : LinkKept s₀ (if c then s else t) := by
  split <;> assumption

theorem LinkKept.foldl {α : Type} {f : State → α → State} {l : List α} (h : LinkKept s₀ s) (hf : ∀ t, ∀ a ∈ l, LinkKept s₀ t → LinkKept s₀ (f t a)) :
    LinkKept s₀ (l.foldl f s) := List.foldlRecOn (motive := fun t : State => LinkKept s₀ t) l f h fun t ht a ha => hf t a ha ht

/-- A write of a field of another block. -/
theorem LinkKept.set {f v} (h : LinkKept s₀ s) (hf : f.blk ≠ 0xF) : LinkKept s₀ (State.set s f v) :=
  h.trans ⟨fun _ hb _ _ _ => State.get_set_ne s v fun hk => hf ((Fld.blk_of_key hk).symm.trans hb), rfl⟩

theorem LinkKept.setBit {f b} (h : LinkKept s₀ s) (hf : f.blk ≠ 0xF) : LinkKept s₀ (s.setBit f b) := .set h hf

theorem LinkKept.sets {l : List (Fld × Nat)} (h : LinkKept s₀ s) (hl : l.Forall (fun p => p.1.blk ≠ 0xF)) : LinkKept s₀ (s.sets l) := by
  refine h.trans ⟨fun g hb _ _ _ => State.get_sets_ne s l fun p hp hk => ?_, by rw [s.sets_regsOnly l]⟩
  exact List.forall_iff_forall_mem.mp hl p hp ((Fld.blk_of_key hk).symm.trans hb)

theorem LinkKept.occur {ev bit inst detail} (h : LinkKept s₀ s) (he : ev < 128) : LinkKept s₀ (s.occur ev bit inst detail) :=
  h.trans ⟨fun _ hb _ _ _ => State.get_occur s bit inst detail he (by rw [hb]; decide), by rw [(State.occur_parts s ev bit inst detail).pair]⟩

theorem LinkKept.flag {f ev inst detail} (h : LinkKept s₀ s) (hf : f.blk ≠ 0xF) (he : ev < 128) : LinkKept s₀ (s.flag f ev inst detail) :=
  .ite h (.occur (.set h hf) he)

theorem LinkKept.sendRecord {type payload} (h : LinkKept s₀ s) : LinkKept s₀ (s.sendRecord type payload) :=
  h.trans ⟨fun g _ ht _ _ => ((SendsOnly.refl s).sendRecord type payload).regs g ht, s.sendRecord_core type payload⟩

theorem LinkKept.updPair {f} (h : LinkKept s₀ s) (hf : ∀ p, (f p).core = p.core) : LinkKept s₀ (s.updPair f) :=
  h.trans ⟨fun _ _ _ _ _ => rfl, hf s.pair⟩

theorem LinkKept.journalChanges (h : LinkKept s₀ s) : LinkKept s₀ s.journalChanges := by
  unfold State.journalChanges
  extract_lets a b
  have ha : LinkKept s₀ a := .ite h (h.sendRecord.updPair fun _ => rfl)
  have hb : LinkKept s₀ b := .ite ha (ha.sendRecord.updPair fun _ => rfl)
  exact .ite h (.ite hb (hb.sendRecord.updPair fun _ => rfl))

theorem LinkKept.updSrv {n f} (h : LinkKept s₀ s) : LinkKept s₀ (s.updSrv n f) := .parts h

theorem LinkKept.selFlag {f inst detail} (h : LinkKept s₀ s) (hf : f.blk ≠ 0xF) : LinkKept s₀ (s.selFlag f inst detail) := .flag h hf (by omega)

theorem LinkKept.hrtFlag {f detail} (h : LinkKept s₀ s) (hf : f.blk ≠ 0xF) : LinkKept s₀ (s.hrtFlag f detail) := .flag h hf (by omega)

/-! The selection. -/

theorem LinkKept.reviewAcal (h : LinkKept s₀ s) : LinkKept s₀ s.reviewAcal := .foldl h fun u n hn hu => by
  have hlt : n < 4 := List.mem_range.mp hn
  split
  · exact hu
  · refine .ite hu (.flag (.set (.set (.parts hu) (Fld.blk_ne ?_)) (Fld.blk_ne ?_)) (Fld.blk_ne ?_) ?_) <;> omega

theorem LinkKept.freezeYat (h : LinkKept s₀ s) : LinkKept s₀ s.freezeYat := .ite (.parts h) h

theorem LinkKept.setSrvState {n} (h : LinkKept s₀ s) : LinkKept s₀ (s.setSrvState n) :=
  .ite h (.reviewAcal (.hrtFlag (.set (.parts (.freezeYat h)) (by decide)) (by decide)))

theorem LinkKept.openCarry {errb freq sy0 hset} (h : LinkKept s₀ s) : LinkKept s₀ (s.openCarry errb freq sy0 hset) := .setBit (.parts h) (by decide)

theorem LinkKept.enterHoldover {errb} (h : LinkKept s₀ s) : LinkKept s₀ (s.enterHoldover errb) :=
  .selFlag (.parts (.openCarry (.setSrvState (.parts h)))) (by decide)

theorem LinkKept.settle {inst} (h : LinkKept s₀ s) : LinkKept s₀ (s.settle inst) :=
  .foldl (.parts h) fun u _ _ hu => .ite (by
    split
    · exact .ite (.selFlag (.parts hu) (by decide)) (.parts hu)
    · exact hu) hu

theorem LinkKept.reviewDisagree (h : LinkKept s₀ s) : LinkKept s₀ s.reviewDisagree := by
  unfold State.reviewDisagree
  extract_lets r other t since _ u
  have ht : LinkKept s₀ t := by
    unfold t
    clear_value other
    cases other with
    | none => exact h
    | some d => exact .set h (by decide)
  have hu : LinkKept s₀ u := .parts ht
  exact .ite (.ite (.set h (by decide)) h) (.ite hu (.selFlag (.set hu (by decide)) (by decide)))

theorem LinkKept.showCandidates (h : LinkKept s₀ s) : LinkKept s₀ s.showCandidates :=
  .foldl h fun u c _ hu => .setBit (.setBit hu (Fld.blk_ne (by omega))) (Fld.blk_ne (by omega))

theorem LinkKept.showSel {n} (h : LinkKept s₀ s) : LinkKept s₀ (s.showSel n) := by
  unfold State.showSel
  split
  · exact .set (.set h (by decide)) (by decide)
  · exact .set (.set h (by decide)) (by decide)

theorem LinkKept.carryFor {c errb} (h : LinkKept s₀ s) : LinkKept s₀ (s.carryFor c errb) := .ite (.openCarry h) (.openCarry h)

theorem LinkKept.changeSel {old new} (h : LinkKept s₀ s) : LinkKept s₀ (s.changeSel old new) := by
  unfold State.changeSel
  extract_lets _ _ _ t
  have ht : LinkKept s₀ t := .showSel (.parts h)
  split
  · exact ht
  · split
    · split
      · exact .enterHoldover ht
      · exact .ite (.setSrvState (.parts (.ite ht (.selFlag ht (by decide))))) (.ite ht (.selFlag ht (by decide)))
    · extract_lets u
      have hu : LinkKept s₀ u := .carryFor ht
      exact .ite (.selFlag (.parts (.updSrv (.setSrvState hu))) (by decide)) (.ite (.selFlag (.parts (.updSrv (.setSrvState hu))) (by decide))
        (.selFlag hu (by decide)))

theorem LinkKept.evalSelection (h : LinkKept s₀ s) : LinkKept s₀ s.evalSelection := by
  unfold State.evalSelection
  extract_lets a b r c st due d e g f
  have hc : LinkKept s₀ c := .setBit (.settle (.setBit h (by decide))) (by decide)
  have hd : LinkKept s₀ d := .ite hc (.changeSel hc)
  have he : LinkKept s₀ e := .setBit (.showCandidates (.reviewDisagree hd)) (by decide)
  exact .journalChanges (.reviewAcal (.ite (.parts (.settle he)) he))

/-! The outputs and the ports. -/

theorem LinkKept.showOut {n} (h : LinkKept s₀ s) : LinkKept s₀ (s.showOut n) :=
  .setBit (.setBit (.setBit (.setBit (.setBit h (Fld.blk_ne (by omega))) (Fld.blk_ne (by omega))) (Fld.blk_ne (by omega))) (Fld.blk_ne (by omega)))
    (Fld.blk_ne (by omega))

theorem LinkKept.showUPair (h : LinkKept s₀ s) : LinkKept s₀ s.showUPair := h.trans ⟨fun _ _ _ hu _ => State.get_set_ne s _ hu, rfl⟩

theorem LinkKept.roleChanged (h : LinkKept s₀ s) : LinkKept s₀ s.roleChanged := .showUPair (.foldl h fun _ _ _ hu => hu.showOut)

theorem LinkKept.announceNow (h : LinkKept s₀ s) : LinkKept s₀ s.announceNow := .foldl h fun _ _ _ hu => .ite (.parts hu) hu

theorem LinkKept.ownSelection {u} (h : LinkKept s₀ s) : LinkKept s₀ (s.ownSelection u) := by
  unfold State.ownSelection
  extract_lets _ a b
  have ha : LinkKept s₀ a := .evalSelection (.updSrv (.parts h))
  refine .parts (.ite ha ?_)
  split
  · exact ha.carryFor
  · exact ha.openCarry

end

end Sys2Proof.Machine

/-! PROOF. The front panel (R537 to R544). -/

namespace Sys2Proof.Machine

/-! One bit of a field. -/

theorem putBits_one (v i x : Nat) (hx : x < 2) : putBits v i 1 x = 2 ^ i * (2 * (v / 2 ^ i / 2) + x) + v % 2 ^ i := by
  have hv : v = 2 ^ i * (2 * (v / 2 ^ i / 2)) + v % 2 ^ i + v / 2 ^ i % 2 * 2 ^ i := by
    have hq : v / 2 ^ i = 2 * (v / 2 ^ i / 2) + v / 2 ^ i % 2 := by omega
    calc v = 2 ^ i * (v / 2 ^ i) + v % 2 ^ i := (Nat.div_add_mod v (2 ^ i)).symm
      _ = 2 ^ i * (2 * (v / 2 ^ i / 2) + v / 2 ^ i % 2) + v % 2 ^ i := by rw [← hq]
      _ = _ := by ring
  have hx' : x % 2 ^ 1 = x := Nat.mod_eq_of_lt hx
  have hsub : v - v / 2 ^ i % 2 ^ 1 * 2 ^ i = 2 ^ i * (2 * (v / 2 ^ i / 2)) + v % 2 ^ i := Nat.sub_eq_of_eq_add hv
  rw [putBits, bitsOf, hx', hsub]
  ring

theorem testBit_putBits_one (v i j : Nat) (b : Bool) : (putBits v i 1 (if b then 1 else 0)).testBit j = if j = i then b else v.testBit j := by
  have hlow : v % 2 ^ i < 2 ^ i := Nat.mod_lt _ (Nat.two_pow_pos i)
  rw [putBits_one v i _ (by cases b <;> decide), Nat.testBit_two_pow_mul_add _ hlow]
  by_cases hji : j < i
  · rw [if_pos hji, if_neg (by omega), Nat.testBit_mod_two_pow, decide_eq_true hji, Bool.true_and]
  · rw [if_neg hji]
    obtain ⟨m, rfl⟩ : ∃ m, j = i + m := ⟨j - i, by omega⟩
    rw [Nat.add_sub_cancel_left, show v.testBit (i + m) = (v / 2 ^ i).testBit m by rw [Nat.testBit_div_two_pow, Nat.add_comm]]
    cases m with
    | zero => cases b <;> simp
    | succ m =>
      rw [if_neg (show ¬ i + (m + 1) = i by omega), Nat.testBit_succ, Nat.testBit_succ]
      congr 1
      rw [Nat.mul_add_div (by decide)]
      cases b <;> rfl

section
variable (s : State) {f : Fld} {i j : Nat}

theorem State.putBit_testBit (b : Bool) (hj : j < f.w) : ((s.putBit f i b).get f).testBit j = if j = i then b else (s.get f).testBit j := by
  rw [State.putBit, State.get_set_self, Nat.testBit_mod_two_pow, decide_eq_true hj, Bool.true_and, testBit_putBits_one]

theorem State.setBitN_testBit (v : Nat) : (setBitN v i).testBit j = (decide (j = i) || v.testBit j) := by
  rw [setBitN, Nat.testBit_or, Nat.testBit_two_pow, Bool.or_comm]
  congr 1
  exact decide_eq_decide.mpr eq_comm

/-- What a raised bit leaves of the field's others. -/
theorem State.flagBit_testBit (ev inst detail : Nat) (he : ev < 128) (hb : f.blk ≠ 0x11) (hj : j < f.w) :
    ((s.flagBit f i ev inst detail).get f).testBit j = (decide (j = i) || (s.get f).testBit j) := by
  unfold State.flagBit
  split
  · next hset =>
    by_cases hji : j = i
    · rw [hji, hset, Bool.or_true]
    · rw [decide_eq_false hji, Bool.false_or]
  · rw [State.get_occur _ _ _ _ he hb, State.get_set_self, Nat.testBit_mod_two_pow, decide_eq_true hj, Bool.true_and, State.setBitN_testBit]

end

/-! A sample of a key. -/

/-- The fields that tell of the keys, and the rest of the panel's state. -/
structure KeyKept (k : Nat) (s t : State) : Prop where
  down : (t.get F.PNL_KSTAT.KDOWN).testBit k = (s.get F.PNL_KSTAT.KDOWN).testBit k
  press : (t.get F.PNL_KEV.KPRESS).testBit k = (s.get F.PNL_KEV.KPRESS).testBit k
  rel : (t.get F.PNL_KEV.KREL).testBit k = (s.get F.PNL_KEV.KREL).testBit k
  key : t.pnl.keys.getD k {} = s.pnl.keys.getD k {}
  deb : t.get F.PNL_KCFG.DEB = s.get F.PNL_KCFG.DEB

theorem KeyKept.trans {k : Nat} {s t u : State} (h : KeyKept k s t) (g : KeyKept k t u) : KeyKept k s u :=
  ⟨g.down.trans h.down, g.press.trans h.press, g.rel.trans h.rel, g.key.trans h.key, g.deb.trans h.deb⟩

@[simp] theorem State.get_updKey (s : State) (k : Nat) (f : KeySt → KeySt) (g : Fld) : (s.updKey k f).get g = s.get g := rfl

/-- A bit raised for another key. -/
theorem State.pnlBit_keeps (s : State) {f : Fld} {j k : Nat} (hf : f = F.PNL_KEV.KPRESS ∨ f = F.PNL_KEV.KREL) (hk : k < 8) (hne : k ≠ j) :
    KeyKept k s (s.pnlBit f j) := by
  have hbit : ∀ g : Fld, g = f → g.w = 8 → g.blk = 0x13 → ((s.pnlBit f j).get g).testBit k = (s.get g).testBit k := fun g hg hw hb => by
    subst hg
    rw [State.pnlBit, State.flagBit_testBit _ 83 j _ (by decide) (by rw [hb]; decide) (by rw [hw]; exact hk), decide_eq_false hne, Bool.false_or]
  have hoff : ∀ g : Fld, g.blk = 0x13 → g.key ≠ f.key → (s.pnlBit f j).get g = s.get g := fun g hb hg =>
    State.get_flagBit_ne s _ _ _ (by decide) (by rw [hb]; decide) hg
  have hkey : (s.pnlBit f j).pnl.keys.getD k {} = s.pnl.keys.getD k {} := by rw [State.pnlBit, State.flagBit_pnl]
  rcases hf with rfl | rfl
  · exact ⟨congrArg (·.testBit k) (hoff _ rfl (by decide)), hbit _ rfl rfl rfl, congrArg (·.testBit k) (hoff _ rfl (by decide)), hkey, hoff _ rfl (by decide)⟩
  · exact ⟨congrArg (·.testBit k) (hoff _ rfl (by decide)), congrArg (·.testBit k) (hoff _ rfl (by decide)), hbit _ rfl rfl rfl, hkey, hoff _ rfl (by decide)⟩

/-- Another key's sample leaves this one. -/
theorem State.sampleKey_keeps (s : State) {j k : Nat} (low : Bool) (hk : k < 8) (hne : k ≠ j) : KeyKept k s (s.sampleKey j low) := by
  have hkey : ∀ (t : State) (f : KeySt → KeySt), KeyKept k t (t.updKey j f) := fun t f => ⟨rfl, rfl, rfl, getD_modAt_ne _ f {} hne, rfl⟩
  have hdown : KeyKept k s (s.putBit F.PNL_KSTAT.KDOWN j low) :=
    ⟨(s.putBit_testBit low (f := F.PNL_KSTAT.KDOWN) hk).trans (if_neg hne), congrArg (·.testBit k) (State.get_set_ne s _ (by decide)),
      congrArg (·.testBit k) (State.get_set_ne s _ (by decide)), rfl, State.get_set_ne s _ (by decide)⟩
  unfold State.sampleKey
  extract_lets _ _ a
  split
  · exact hkey s _
  · split
    · exact hkey s _
    · split
      · exact (hdown.trans (hkey a _)).trans (State.pnlBit_keeps _ (.inl rfl) hk hne)
      · exact (hdown.trans (hkey a _)).trans (State.pnlBit_keeps _ (.inr rfl) hk hne)

/-- A key that has lasted DEB samples against its state changes it. -/
theorem State.sampleKey_changes {s : State} {k : Nat} {low : Bool} (hk : k < 8) (hne : (s.get F.PNL_KSTAT.KDOWN).testBit k = !low)
    (hdeb : s.get F.PNL_KCFG.DEB ≤ (s.pnl.keys.getD k {}).run + 1) : ((s.sampleKey k low).get F.PNL_KSTAT.KDOWN).testBit k = low ∧
    ((s.sampleKey k low).get (if low then F.PNL_KEV.KPRESS else F.PNL_KEV.KREL)).testBit k = true := by
  let a := s.putBit F.PNL_KSTAT.KDOWN k low
  have hdown : (a.get F.PNL_KSTAT.KDOWN).testBit k = low := (s.putBit_testBit low (f := F.PNL_KSTAT.KDOWN) hk).trans (if_pos rfl)
  unfold State.sampleKey
  extract_lets down
  rw [if_neg (by rw [show down = !low from hne]; cases low <;> decide), if_neg (show ¬ (s.pnl.keys.getD k {}).run + 1 < s.get F.PNL_KCFG.DEB by omega)]
  cases low
  · refine ⟨?_, ?_⟩
    · rw [if_neg (by decide), State.pnlBit, State.get_flagBit_ne _ _ _ _ (by decide) (by decide) (by decide)]
      exact hdown
    · rw [if_neg (by decide), if_neg (by decide), State.pnlBit, State.flagBit_testBit _ 83 k _ (by decide) (by decide) hk, decide_eq_true rfl, Bool.true_or]
  · refine ⟨?_, ?_⟩
    · rw [if_pos rfl, State.pnlBit, State.get_flagBit_ne _ _ _ _ (by decide) (by decide) (by decide)]
      exact hdown
    · rw [if_pos rfl, if_pos rfl, State.pnlBit, State.flagBit_testBit _ 83 k _ (by decide) (by decide) hk, decide_eq_true rfl, Bool.true_or]

/-- The samples of all keys: one that has lasted changes its key. -/
theorem State.sampleKeys_change {s : State} {k : Nat} (low : Nat → Bool) {l : List Nat} (hl : l.Nodup) (hin : k ∈ l) (hk : k < 8)
    (hne : (s.get F.PNL_KSTAT.KDOWN).testBit k = !low k) (hdeb : s.get F.PNL_KCFG.DEB ≤ (s.pnl.keys.getD k {}).run + 1) :
    ((l.foldl (fun t j => t.sampleKey j (low j)) s).get F.PNL_KSTAT.KDOWN).testBit k = low k ∧
    ((l.foldl (fun t j => t.sampleKey j (low j)) s).get (if low k then F.PNL_KEV.KPRESS else F.PNL_KEV.KREL)).testBit k = true := by
  have hkeeps : ∀ (l : List Nat) (s : State), k ∉ l → KeyKept k s (l.foldl (fun t j => t.sampleKey j (low j)) s) := fun l => by
    induction l with
    | nil => exact fun s _ => ⟨rfl, rfl, rfl, rfl, rfl⟩
    | cons j l ih =>
      intro s hnot
      obtain ⟨hkj, hnot⟩ := List.ne_and_not_mem_of_not_mem_cons hnot
      exact (s.sampleKey_keeps (low j) hk hkj).trans (ih _ hnot)
  induction l generalizing s with
  | nil => cases hin
  | cons j l ih =>
    obtain ⟨hj, hl⟩ := List.nodup_cons.mp hl
    by_cases hkj : k = j
    · subst hkj
      obtain ⟨hdown, hev⟩ := State.sampleKey_changes hk hne hdeb
      have hrest := hkeeps l (s.sampleKey k (low k)) hj
      refine ⟨hrest.down.trans hdown, ?_⟩
      by_cases hlow : low k = true
      · rw [if_pos hlow] at hev ⊢
        exact hrest.press.trans hev
      · rw [if_neg hlow] at hev ⊢
        exact hrest.rel.trans hev
    · have hfirst := s.sampleKey_keeps (low j) hk hkj
      exact ih hl ((List.mem_cons.mp hin).resolve_left hkj) (hfirst.down.trans hne) (by rw [hfirst.deb, hfirst.key]; exact hdeb)

/-- The samples touch the panel's registers alone, and no count of the zeroise balls. -/
theorem State.sampleKeys_frame (s : State) (low : Nat → Bool) (l : List Nat) :
    RegsOutside [0x11, 0x13] s (l.foldl (fun t j => t.sampleKey j (low j)) s) ∧
    (l.foldl (fun t j => t.sampleKey j (low j)) s).pnl.zBoth = s.pnl.zBoth ∧ (l.foldl (fun t j => t.sampleKey j (low j)) s).pnl.zOne = s.pnl.zOne := by
  refine ⟨.foldl (.refl _ s) fun u j _ hu => ?_, foldl_keeps (fun t => t.pnl.zBoth) (fun t j => ?_) l s, foldl_keeps (fun t => t.pnl.zOne) (fun t j => ?_) l s⟩
  · have ha := hu.set (f := F.PNL_KSTAT.KDOWN) (v := putBits (u.get F.PNL_KSTAT.KDOWN) j 1 (if low j then 1 else 0)) (by decide)
    refine .ite (.of_regs hu rfl) (.ite (.of_regs hu rfl) (.ite ?_ ?_))
    · exact .flagBit (.of_regs ha rfl) (by decide) (by decide) (by decide)
    · exact .flagBit (.of_regs ha rfl) (by decide) (by decide) (by decide)
  all_goals
    unfold State.sampleKey State.pnlBit
    extract_lets down run a
    split
    · rfl
    · split
      · rfl
      · split
        · rw [State.flagBit_pnl]; rfl
        · rw [State.flagBit_pnl]; rfl

/-- What a sample of the zeroise balls shows and leaves. -/
theorem State.sampleZero_shows (s : State) (a b : Bool) : (s.sampleZero a b).bit F.PNL_ZSTAT.A = a ∧ (s.sampleZero a b).bit F.PNL_ZSTAT.B = b ∧
    (s.sampleZero a b).pnl.zBoth = (if a && b then s.pnl.zBoth + 1 else 0) ∧ (s.sampleZero a b).pnl.zOne = (if a != b then s.pnl.zOne + 1 else 0) ∧
    RegsBut [F.PNL_ZSTAT.A, F.PNL_ZSTAT.B, F.PNL_ZSTAT.COUNTING] s (s.sampleZero a b) ∧ RegsOutside [0x11, 0x13] s (s.sampleZero a b) := by
  unfold State.sampleZero
  extract_lets p t
  have hbut : RegsBut [F.PNL_ZSTAT.A, F.PNL_ZSTAT.B, F.PNL_ZSTAT.COUNTING] s t := .of_regs (.refl _ s) rfl
  have hout : RegsOutside [0x11, 0x13] s t := .of_regs (.refl _ s) rfl
  refine ⟨?_, ?_, rfl, rfl, ((hbut.setBit (by simp)).setBit (by simp)).setBit (by simp), ((hout.set (by decide)).set (by decide)).set (by decide)⟩
  · refine (State.bit_set_ne _ _ (by decide)).trans ((State.bit_set_ne _ _ (by decide)).trans ((State.bit_set _ _ rfl).trans ?_))
    cases a <;> rfl
  · refine (State.bit_set_ne _ _ (by decide)).trans ((State.bit_set _ _ rfl).trans ?_)
    cases b <;> rfl

/-- A sample of the keys and of the balls, for a key that has lasted DEB samples against its state. -/
theorem State.keySample_shows {s : State} {low k : Nat} {a b : Bool} (hon : s.supply.on = true) (hk : k < 8)
    (hne : (s.get F.PNL_KSTAT.KDOWN).testBit k = !low.testBit k) (hdeb : s.get F.PNL_KCFG.DEB ≤ (s.pnl.keys.getD k {}).run + 1) :
    ∃ t, exec (.keySample low a b) s = .next t ∧ (t.get F.PNL_KSTAT.KDOWN).testBit k = low.testBit k ∧
      (t.get (if low.testBit k then F.PNL_KEV.KPRESS else F.PNL_KEV.KREL)).testBit k = true ∧ t.bit F.PNL_ZSTAT.A = a ∧ t.bit F.PNL_ZSTAT.B = b ∧
      t.pnl.zBoth = (if a && b then s.pnl.zBoth + 1 else 0) ∧ t.pnl.zOne = (if a != b then s.pnl.zOne + 1 else 0) ∧ RegsOutside [0x11, 0x13] s t := by
  obtain ⟨hframe, hboth, hone⟩ := s.sampleKeys_frame low.testBit (List.range 8)
  obtain ⟨hdown, hev⟩ := State.sampleKeys_change low.testBit List.nodup_range (List.mem_range.mpr hk) hk hne hdeb
  have hexec : exec (.keySample low a b) s = .next (((List.range 8).foldl (fun t k => t.sampleKey k (low.testBit k)) s).sampleZero a b) := next_when hon _
  generalize (List.range 8).foldl (fun t k => t.sampleKey k (low.testBit k)) s = u at *
  obtain ⟨ha, hb, hzb, hzo, hbut, hout⟩ := u.sampleZero_shows a b
  refine ⟨_, hexec, ?_, ?_, ha, hb, by rw [hzb, hboth], by rw [hzo, hone], hframe.trans hout⟩
  · rw [hbut _ (by decide) (by decide)]
    exact hdown
  · rw [hbut _ (by split <;> decide) (by split <;> decide)]
    exact hev

/-! A sample of an electrode. -/

/-- The fields that tell of an electrode, and its state. -/
structure TouchKept (k : Nat) (s t : State) : Prop where
  down : (t.get F.PNL_KSTAT.TDOWN).testBit k = (s.get F.PNL_KSTAT.TDOWN).testBit k
  press : (t.get F.PNL_TEV.TPRESS).testBit k = (s.get F.PNL_TEV.TPRESS).testBit k
  cap : t.get (F.PNL_TCAP.C k) = s.get (F.PNL_TCAP.C k)
  touch : t.pnl.touch.getD k {} = s.pnl.touch.getD k {}
  thr : t.get F.PNL_TCFG.TTHR = s.get F.PNL_TCFG.TTHR
  length : t.pnl.touch.length = s.pnl.touch.length

theorem TouchKept.refl (k : Nat) (s : State) : TouchKept k s s := ⟨rfl, rfl, rfl, rfl, rfl, rfl⟩

theorem TouchKept.trans {k : Nat} {s t u : State} (h : TouchKept k s t) (g : TouchKept k t u) : TouchKept k s u :=
  ⟨g.down.trans h.down, g.press.trans h.press, g.cap.trans h.cap, g.touch.trans h.touch, g.thr.trans h.thr, g.length.trans h.length⟩

theorem TouchKept.ite {k : Nat} {s t u : State} {c : Prop} [Decidable c] (ht : TouchKept k s t) (hu : TouchKept k s u) :
    TouchKept k s (if c then t else u) := by split <;> assumption

theorem length_updTouch (s : State) (k : Nat) (f : TouchSt → TouchSt) : (s.updTouch k f).pnl.touch.length = s.pnl.touch.length :=
  length_modAt s.pnl.touch k f

section
variable (s : State) {j k : Nat} (hk : k < 4) (hne : k ≠ j)
include hk hne

/-- A bit of the touch events raised for another electrode. -/
theorem State.pnlBit_keeps_touch {f : Fld} (hf : f.off = 0x1300008) (hch : f.ch = 0) (hl : f.lo < 16) (h : f = F.PNL_TEV.TPRESS ∨ f.lo ≠ 0) :
    TouchKept k s (s.pnlBit f j) := by
  have hoff : ∀ {o l w r : Nat}, 0x1300000 ≤ o → o < 0x1300100 → l < 32 → o ≠ 0x1300008 ∨ l ≠ f.lo → (s.pnlBit f j).get ⟨0, o, l, w, r⟩ = s.get ⟨0, o, l, w, r⟩ :=
    fun hlo hhi hl' hne' => State.get_flagBit_ne s _ _ _ (by decide) (by apply Fld.blk_ne; omega) (by
      unfold Fld.key
      rw [hch, hf]
      dsimp only
      omega)
  refine ⟨congrArg (·.testBit k) (hoff (by decide) (by decide) (by decide) (.inl (by decide))), ?_,
    hoff (by omega) (by omega) (by decide) (by omega), ?_, hoff (by decide) (by decide) (by decide) (.inl (by decide)), ?_⟩
  · rcases h with rfl | h
    · rw [State.pnlBit, State.flagBit_testBit _ 83 j _ (by decide) (by decide) (show k < F.PNL_TEV.TPRESS.w from hk), decide_eq_false hne, Bool.false_or]
    · exact congrArg (·.testBit k) (hoff (o := 0x1300008) (l := 0) (by decide) (by decide) (by decide) (.inr (Ne.symm h)))
  · rw [State.pnlBit, State.flagBit_pnl]
  · rw [State.pnlBit, State.flagBit_pnl]

theorem State.putTdown_keeps (b : Bool) : TouchKept k s (s.putBit F.PNL_KSTAT.TDOWN j b) :=
  ⟨(s.putBit_testBit b (f := F.PNL_KSTAT.TDOWN) hk).trans (if_neg hne), congrArg (·.testBit k) (State.get_set_ne s _ (by decide)),
    State.get_set_ne s _ (by apply Fld.key_ne; omega), rfl, State.get_set_ne s _ (by decide), rfl⟩

omit hk in
theorem State.showTouch_keeps (c : Nat) : TouchKept k s (s.showTouch j c) := by
  have hget : ∀ {o l w r : Nat}, o ≠ 0x1300020 + 4 * j → l < 32 → (s.showTouch j c).get ⟨0, o, l, w, r⟩ = s.get ⟨0, o, l, w, r⟩ := fun ho hl =>
    (State.get_set_ne _ _ (by apply Fld.key_ne; omega)).trans (State.get_set_ne s _ (by apply Fld.key_ne; omega))
  exact ⟨congrArg (·.testBit k) (hget (by omega) (by decide)), congrArg (·.testBit k) (hget (by omega) (by decide)), hget (by omega) (by decide), rfl,
    hget (by omega) (by decide), rfl⟩

/-- Another electrode's sample leaves this one. -/
theorem State.sampleTouch_keeps (c : Nat) : TouchKept k s (s.sampleTouch j c) := by
  unfold State.sampleTouch
  extract_lets x b down inside bad fault thr touched held y a e f
  have hy : TouchKept k s (s.updTouch j (fun _ => y)) := ⟨rfl, rfl, rfl, getD_modAt_ne s.pnl.touch (fun _ => y) {} hne, rfl, length_updTouch s j _⟩
  have ha : TouchKept k s a := hy.trans (State.showTouch_keeps _ hne c)
  have he : TouchKept k s e := .ite (ha.trans (a.pnlBit_keeps_touch hk hne rfl rfl (by decide) (.inr (by decide)))) ha
  have hpress : TouchKept k s ((e.putBit F.PNL_KSTAT.TDOWN j true).pnlBit F.PNL_TEV.TPRESS j) :=
    (he.trans (e.putTdown_keeps hk hne true)).trans (State.pnlBit_keeps_touch _ hk hne rfl rfl (by decide) (.inl rfl))
  have hend : TouchKept k s (e.endTouch j) :=
    (he.trans (e.putTdown_keeps hk hne false)).trans (State.pnlBit_keeps_touch _ hk hne rfl rfl (by decide) (.inr (by decide)))
  have hf : TouchKept k s f := .ite hpress (.ite hend he)
  exact .ite (hf.trans (f.pnlBit_keeps_touch hk hne rfl rfl (by decide) (.inr (by decide)))) hf

end

section
variable {s : State} {k c : Nat}

/-- What an electrode's own sample shows. -/
theorem State.showTouch_shows (s : State) (hc : c ≤ 5000) : (s.showTouch k c).get (F.PNL_TCAP.C k) = c ∧
    (s.showTouch k c).get F.PNL_KSTAT.TDOWN = s.get F.PNL_KSTAT.TDOWN := by
  refine ⟨(State.get_set_ne _ _ (by apply Fld.key_ne; omega)).trans ?_, (State.get_set_ne _ _ (by apply Fld.key_ne; omega)).trans
    (State.get_set_ne s _ (by apply Fld.key_ne; omega))⟩
  refine (State.get_set_self s _ _).trans ?_
  change min (2 ^ 13 - 1) c % 2 ^ 13 = c
  omega

/-- Whether a sample is a touch by the threshold. -/
def State.touchedBy (s : State) (c : Nat) (b : Rat) : Bool := decide ((s.get F.PNL_TCFG.TTHR : Rat) ≤ (c : Rat) - b)

/-- A sample in range of an electrode that is not touched. -/
theorem State.sampleTouch_eq {b : Rat} (h1 : 500 ≤ c) (h2 : c ≤ 5000) (hbase : (s.pnl.touch.getD k {}).base = some b)
    (hdown : (s.get F.PNL_KSTAT.TDOWN).testBit k = false) : ∃ y : TouchSt, y.base = some (if s.touchedBy c b then b else b + ((c : Rat) - b) / 256) ∧
    s.sampleTouch k c = if s.touchedBy c b then
        ((((s.updTouch k (fun _ => y)).showTouch k c).putBit F.PNL_KSTAT.TDOWN k true).pnlBit F.PNL_TEV.TPRESS k)
      else (s.updTouch k (fun _ => y)).showTouch k c := by
  unfold State.sampleTouch
  extract_lets x b' down inside bad fault thr touched held y a e f
  have hb : b' = b := by rw [show b' = x.base.getD c from rfl, show x.base = some b from hbase]; rfl
  have hinside : inside = true := by rw [show inside = (decide (500 ≤ c) && decide (c ≤ 5000)) from rfl, decide_eq_true h1, decide_eq_true h2]; rfl
  have hfault : fault = false := by rw [show fault = (!inside && (x.fault || decide (100 ≤ bad))) from rfl, hinside]; rfl
  have htouched : touched = s.touchedBy c b := by
    rw [show touched = (!fault && (if down then decide (thr / 2 ≤ (c : Rat) - b') else decide (thr ≤ (c : Rat) - b'))) from rfl, hfault, hb,
      show down = false from hdown]
    rfl
  have hheld : held = false := by
    rw [show held = (touched && down && (x.held || decide (x.downAt + s.holdTicks ≤ s.raw))) from rfl, show down = false from hdown]
    simp
  have he : e = a := if_neg (by rw [hfault]; simp)
  have hf : f = if s.touchedBy c b then (a.putBit F.PNL_KSTAT.TDOWN k true).pnlBit F.PNL_TEV.TPRESS k else a := by
    rw [show f = if touched && !down then (e.putBit F.PNL_KSTAT.TDOWN k true).pnlBit F.PNL_TEV.TPRESS k else
      if !touched && down then e.endTouch k else e from rfl, htouched, he, show down = false from hdown]
    cases s.touchedBy c b <;> rfl
  refine ⟨y, ?_, ?_⟩
  · rw [show y.base = some (if touched then b' else b' + ((c : Rat) - b') / 256) from rfl, htouched, hb]
  · rw [if_neg (by rw [hheld]; simp), hf]

/-- What it shows. -/
theorem State.sampleTouch_shows {b : Rat} (hk : k < 4) (hlen : s.pnl.touch.length = 4) (h1 : 500 ≤ c) (h2 : c ≤ 5000)
    (hbase : (s.pnl.touch.getD k {}).base = some b) (hdown : (s.get F.PNL_KSTAT.TDOWN).testBit k = false) :
    ((s.sampleTouch k c).get F.PNL_KSTAT.TDOWN).testBit k = s.touchedBy c b ∧
      (s.touchedBy c b = true → ((s.sampleTouch k c).get F.PNL_TEV.TPRESS).testBit k = true) ∧ (s.sampleTouch k c).get (F.PNL_TCAP.C k) = c ∧
      ((s.sampleTouch k c).pnl.touch.getD k {}).base = some (if s.touchedBy c b then b else b + ((c : Rat) - b) / 256) := by
  obtain ⟨y, hy, heq⟩ := State.sampleTouch_eq h1 h2 hbase hdown
  let a := (s.updTouch k (fun _ => y)).showTouch k c
  obtain ⟨hcap, hstat⟩ := (s.updTouch k (fun _ => y)).showTouch_shows (k := k) h2
  have htouch : (a.pnl.touch.getD k {}).base = y.base := congrArg TouchSt.base (getD_modAt_self (l := s.pnl.touch) (fun _ => y) {} (by rw [hlen]; exact hk))
  rw [heq]
  cases ht : s.touchedBy c b
  · rw [if_neg (by decide)]
    refine ⟨(congrArg (·.testBit k) hstat).trans hdown, nofun, hcap, ?_⟩
    rw [htouch, hy, ht]
  · rw [if_pos rfl]
    let u := a.putBit F.PNL_KSTAT.TDOWN k true
    have hoff : ∀ g : Fld, g.blk ≠ 0x11 → g.key ≠ F.PNL_TEV.TPRESS.key → (u.pnlBit F.PNL_TEV.TPRESS k).get g = u.get g := fun g hb hg =>
      State.get_flagBit_ne u _ _ _ (by decide) hb hg
    refine ⟨?_, fun _ => ?_, ?_, ?_⟩
    · rw [hoff _ (by decide) (by decide), a.putBit_testBit true (f := F.PNL_KSTAT.TDOWN) hk, if_pos rfl]
    · rw [State.pnlBit, State.flagBit_testBit _ 83 k _ (by decide) (by decide) hk, decide_eq_true rfl, Bool.true_or]
    · rw [hoff _ (by apply Fld.blk_ne; omega) (by apply Fld.key_ne; omega)]
      exact (State.get_set_ne a _ (by apply Fld.key_ne; omega)).trans hcap
    · rw [State.pnlBit, State.flagBit_pnl]
      exact htouch.trans (by rw [hy, ht])

/-- One electrode's part of a sample. -/
def State.sampleElectrode (caps : List Nat) (t : State) (k : Nat) : State := match caps[k]? with | some c => t.sampleTouch k c | none => t

theorem exec_touchSample (caps : List Nat) (s : State) :
    exec (.touchSample caps) s = .next (s.when s.supply.on (fun s => (List.range 4).foldl (State.sampleElectrode caps) s)) := rfl

theorem State.sampleElectrode_keeps (caps : List Nat) (s : State) {j k : Nat} (hk : k < 4) (hne : k ≠ j) : TouchKept k s (s.sampleElectrode caps j) := by
  unfold State.sampleElectrode
  split
  · exact s.sampleTouch_keeps hk hne _
  · exact .refl k s

/-- The samples of all electrodes. -/
theorem State.sampleElectrodes_shows {caps l : List Nat} {b : Rat} (hl : l.Nodup) (hin : k ∈ l) (hk : k < 4) (hlen : s.pnl.touch.length = 4)
    (hc : caps[k]? = some c) (h1 : 500 ≤ c) (h2 : c ≤ 5000) (hbase : (s.pnl.touch.getD k {}).base = some b)
    (hdown : (s.get F.PNL_KSTAT.TDOWN).testBit k = false) :
    let t := l.foldl (State.sampleElectrode caps) s
    (t.get F.PNL_KSTAT.TDOWN).testBit k = s.touchedBy c b ∧ (s.touchedBy c b = true → (t.get F.PNL_TEV.TPRESS).testBit k = true) ∧
      t.get (F.PNL_TCAP.C k) = c ∧ (t.pnl.touch.getD k {}).base = some (if s.touchedBy c b then b else b + ((c : Rat) - b) / 256) := by
  have hkeeps : ∀ (l : List Nat) (s : State), k ∉ l → TouchKept k s (l.foldl (State.sampleElectrode caps) s) := fun l => by
    induction l with
    | nil => exact fun s _ => .refl k s
    | cons j l ih =>
      intro s hnot
      obtain ⟨hkj, hnot⟩ := List.ne_and_not_mem_of_not_mem_cons hnot
      exact (s.sampleElectrode_keeps caps hk hkj).trans (ih _ hnot)
  induction l generalizing s with
  | nil => cases hin
  | cons j l ih =>
    obtain ⟨hj, hl⟩ := List.nodup_cons.mp hl
    by_cases hkj : k = j
    · subst hkj
      have hown : s.sampleElectrode caps k = s.sampleTouch k c := by rw [State.sampleElectrode, hc]
      obtain ⟨hd, hp, hcap, hb⟩ := State.sampleTouch_shows hk hlen h1 h2 hbase hdown
      have hrest := hkeeps l (s.sampleElectrode caps k) hj
      rw [hown] at hrest
      refine ⟨?_, fun ht => ?_, ?_, ?_⟩
      · rw [List.foldl_cons, hown, hrest.down, hd]
      · rw [List.foldl_cons, hown, hrest.press, hp ht]
      · rw [List.foldl_cons, hown, hrest.cap, hcap]
      · rw [List.foldl_cons, hown, hrest.touch, hb]
    · have hfirst := s.sampleElectrode_keeps caps hk hkj
      have hthr : (s.sampleElectrode caps j).touchedBy c b = s.touchedBy c b := by rw [State.touchedBy, hfirst.thr, State.touchedBy]
      have hrest := ih (s := s.sampleElectrode caps j) hl ((List.mem_cons.mp hin).resolve_left hkj) (hfirst.length.trans hlen)
        (by rw [hfirst.touch]; exact hbase) (hfirst.down.trans hdown)
      rw [hthr] at hrest
      exact hrest

end

/-! A touch that times out. -/

theorem State.touchTimeout_shows {s : State} {k : Nat} (hk : k < 4) (hlen : s.pnl.touch.length = 4) :
    let t := ((s.updTouch k (fun x => { x with base := some (s.get (F.PNL_TCAP.C k) : Rat) })).endTouch k).showTouch k (s.get (F.PNL_TCAP.C k))
    (t.get F.PNL_KSTAT.TDOWN).testBit k = false ∧ (t.get F.PNL_TEV.TREL).testBit k = true ∧
      (t.pnl.touch.getD k {}).base = some (s.get (F.PNL_TCAP.C k) : Rat) := by
  intro t
  let a := (s.updTouch k (fun x => { x with base := some (s.get (F.PNL_TCAP.C k) : Rat) })).putBit F.PNL_KSTAT.TDOWN k false
  have hoff : ∀ {o l w r : Nat}, o < 0x1300020 → l < 32 → t.get ⟨0, o, l, w, r⟩ = (a.pnlBit F.PNL_TEV.TREL k).get ⟨0, o, l, w, r⟩ := fun ho hl =>
    (State.get_set_ne _ _ (by apply Fld.key_ne; omega)).trans (State.get_set_ne _ _ (by apply Fld.key_ne; omega))
  refine ⟨?_, ?_, ?_⟩
  · refine (congrArg (·.testBit k) ((hoff (o := 0x1300000) (l := 8) (w := 4) (r := 0) (by decide) (by decide)).trans (State.get_flagBit_ne a _ _ _ (g := F.PNL_KSTAT.TDOWN) (by decide) (by decide) (by decide)))).trans ?_
    exact (State.putBit_testBit _ false (f := F.PNL_KSTAT.TDOWN) hk).trans (if_pos rfl)
  · refine (congrArg (·.testBit k) (hoff (o := 0x1300008) (l := 4) (w := 4) (r := 0) (by decide) (by decide))).trans ?_
    exact State.get_flagBit_testBit a _ _ (by decide) hk (by decide)
  · have hpnl : t.pnl = a.pnl := State.flagBit_pnl a _ _ _ _ _
    rw [hpnl]
    exact congrArg TouchSt.base (getD_modAt_self (l := s.pnl.touch) _ {} (by rw [hlen]; exact hk))

/-! The LEDs. -/

theorem State.ledUpdate_eq (s : State) : (List.range 16).foldl (fun t n => t.setBit (F.PNL_LED.LIT n) (s.ledLit n)) s =
    s.sets ((List.range 16).map fun n => (F.PNL_LED.LIT n, if s.ledLit n then 1 else 0)) := by
  rw [State.sets, List.foldl_map]
  rfl

theorem State.leds_show (s : State) : ∃ t, t = (List.range 16).foldl (fun t n => t.setBit (F.PNL_LED.LIT n) (s.ledLit n)) s ∧
    (∀ n < 16, t.bit (F.PNL_LED.LIT n) = s.ledLit n) ∧ RegsOnly s t ∧ RegsBut ((List.range 16).map F.PNL_LED.LIT) s t := by
  refine ⟨_, rfl, fun n hn => ?_, ?_, ?_⟩
  · have hget := s.get_sets_map F.PNL_LED.LIT (fun n => if s.ledLit n then 1 else 0) (fun i _ j _ hk => by
      have hkey : (0 * 0x4000000 + (0x1300040 + 0x4 * i)) * 32 + 17 = (0 * 0x4000000 + (0x1300040 + 0x4 * j)) * 32 + 17 := hk
      omega) (List.mem_range.mpr hn)
    rw [s.ledUpdate_eq, State.bit, hget]
    cases s.ledLit n <;> rfl
  · rw [s.ledUpdate_eq]
    exact s.sets_regsOnly _
  · refine .foldl (.refl _ s) fun u n hn hu => ?_
    exact hu.setBit (List.mem_map_of_mem hn)

/-! A press that lasts. -/

/-- A swap that nothing stands against is scheduled. -/
theorem State.requestSwap_schedules {s : State} (hrole : s.role = 1) (hstate : s.pairState = 5) (hask : s.bit F.PAIR_CTRL.SWAP = false)
    (hswap : s.pair.swap = none) : s.requestSwap.pair.swap = some (s.swapSecond, false) ∧ s.requestSwap.bit F.PAIR_CTRL.SWAP = true ∧
      RegsBut [F.PAIR_CTRL.SWAP, F.PAIR_JTX.TX] s s.requestSwap := by
  let a := s.set F.PAIR_CTRL.SWAP 1
  let b := a.updPair (fun p => { p with swap := some (s.swapSecond, false) })
  have hrole' : a.role = 1 := (State.get_set_ne s 1 (by decide)).trans hrole
  have hstate' : a.pairState = 5 := (State.get_set_ne s 1 (by decide)).trans hstate
  have hnone : ¬ a.pair.swap.isSome = true := by rw [show a.pair.swap = none from hswap]; decide
  have heq : s.requestSwap = b.sendRecord 0x22 (leBytes 8 s.swapSecond) := by
    rw [State.requestSwap, hask, if_neg Bool.false_ne_true]
    change a.askSwap = _
    rw [State.askSwap, if_pos ⟨hrole', hstate'⟩, State.scheduleSwap, if_neg hnone]
    rfl
  have hsends : SendsOnly b (b.sendRecord 0x22 (leBytes 8 s.swapSecond)) := (SendsOnly.refl b).sendRecord _ _
  rw [heq]
  refine ⟨congrArg PairSt.swap (b.sendRecord_core 0x22 (leBytes 8 s.swapSecond)), ?_, fun g _ hne => ?_⟩
  · rw [hsends.bit (by decide)]
    exact State.bit_set s (f := F.PAIR_CTRL.SWAP) 1 rfl
  · exact (hsends.regs g (hne _ (by decide))).trans (State.get_set_ne (f := F.PAIR_CTRL.SWAP) s 1 (hne _ (by decide)))

/-! Zeroise by the balls. -/

/-- The queue of the vault that is shown writes registers of the vault. -/
theorem RegsOutside.showQueue {blocks : List Nat} (hv : 0xE ∈ blocks) {s t : State} (h : RegsOutside blocks s t) : RegsOutside blocks s t.showQueue := by
  have hset := @RegsOutside.setIn blocks 0xE hv s
  refine RegsOutside.set (.foldl h fun u p _ hu => .ite ?_ hu) hv
  exact hset (by decide) (by decide) (by decide) (hset (by decide) (by decide) (by decide) hu)

/-- The count of both balls. -/
theorem State.zeroCount_zeroises {s : State} (hon : s.supply.on = true) :
    let a := (({ s with pnl := { s.pnl with zDone := true } } : State).set F.PNL_ZSTAT.COUNTING 0).flag F.PNL_ZSTAT.ZSTART 85 0
    a.zeroise.bit F.PNL_ZSTAT.ZSTART = true ∧ a.zeroise.bit F.PNL_ZSTAT.COUNTING = false ∧ a.zeroise.pnl.zDone = true ∧
      a.zeroise.bit F.KVT_STAT.ZEROISED = true ∧ a.zeroise.nv.zepoch = (if s.nv.zepoch < 32 then s.nv.zepoch + 1 else 32) := by
  intro a
  let b := ({ s with pnl := { s.pnl with zDone := true } } : State).set F.PNL_ZSTAT.COUNTING 0
  have hparts : EventsOnly b a := State.flag_parts b F.PNL_ZSTAT.ZSTART 85 0 0
  have hzepoch : a.nv.zepoch = s.nv.zepoch := by rw [hparts]; rfl
  obtain ⟨c, f, hc, hregs, hf, hz⟩ := a.zeroise_of (by rw [hparts]; exact hon)
  have hflag := State.flag_parts (f.set F.KVT_CTRL.ZEROISE 0).showQueue F.KVT_STAT.ZEROISED 68 0 0
  have hend : a.zeroise.nv = a.emptied.nv ∧ a.zeroise.pnl = a.pnl := by
    rw [hz, State.kvtFlag, hflag, (f.set F.KVT_CTRL.ZEROISE 0).showQueue_regsOnly]
    change f.nv = _ ∧ f.pnl = _
    rw [hf, hc]
    exact ⟨rfl, rfl⟩
  have hframe : RegsOutside [0x11, 0xC, 0xE] a a.zeroise := by
    rw [hz]
    exact RegsOutside.flag (.showQueue (by decide) ((hregs.of_regs hf.regs).set (by decide))) (by decide) (by decide) (by decide)
  refine ⟨?_, ?_, ?_, ?_, ?_⟩
  · exact (State.bit_eq_of_get (hframe F.PNL_ZSTAT.ZSTART (by decide))).trans (State.flag_get b 0 0 (by decide) rfl (by decide))
  · refine (State.bit_eq_of_get (hframe F.PNL_ZSTAT.COUNTING (by decide))).trans ?_
    exact (State.bit_eq_of_get (State.flag_get_ne b 0 0 (by decide) (by decide) (by decide))).trans (State.bit_set _ 0 rfl)
  · rw [hend.2, hparts]
    rfl
  · rw [hz]
    exact State.flag_get _ 0 0 (by decide) rfl (by decide)
  · rw [hend.1, ← hzepoch]
    change (if a.nv.zepoch < 32 then (a.nv.zepoch + 1, false) else (32, true)).1 = _
    split <;> rfl

/-- Settles O54: samples change keys and electrodes one by one, each touching its own bits; the balls' count is a zeroise. -/
theorem frontPanel : Obligations.FrontPanel := by
  unfold Obligations.FrontPanel
  refine ⟨?_, ?_, ?_, ?_, ?_, ?_, ?_⟩
  · intro s low a b k hon hk hdeb
    refine ⟨fun hlow hup => ?_, fun hlow hdown => ?_⟩
    · obtain ⟨t, hexec, hd, hp, hrest⟩ := State.keySample_shows (a := a) (b := b) hon hk (by rw [hlow, hup]; rfl) hdeb
      rw [hlow] at hd
      rw [hlow, if_pos rfl] at hp
      exact ⟨t, hexec, hd, hp, hrest⟩
    · obtain ⟨t, hexec, hd, hr, -⟩ := State.keySample_shows (a := a) (b := b) hon hk (by rw [hlow, hdown]; rfl) hdeb
      rw [hlow] at hd
      rw [hlow, if_neg Bool.false_ne_true] at hr
      exact ⟨t, hexec, hd, hr⟩
  · intro s k hk hdown hheld hlast
    let a := (s.updKey k (fun x => { x with held := true })).pnlBit F.PNL_KEV.KHOLD k
    have hoff : ∀ g : Fld, g.blk ≠ 0x11 → g.key ≠ F.PNL_KEV.KHOLD.key → a.get g = s.get g := fun g hb hg =>
      State.get_flagBit_ne _ _ _ _ (by decide) hb hg
    have hcond : ((s.get F.PNL_KSTAT.KDOWN).testBit k && !(s.pnl.keys.getD k {}).held && decide ((s.pnl.keys.getD k {}).downAt + s.holdTicks ≤ s.raw))
        = true := by
      rw [hdown, hheld, decide_eq_true hlast]; rfl
    have hexec : exec (.keyHold k) s = .next (if a.kact k = 2 ∧ a.pairState ≠ 0 then a.requestSwap else a) := by
      change onUnit _ _ = _
      rw [decide_eq_true hk, onUnit_true, next_when hcond]
    have hkact : a.kact k = s.kact k := by rw [State.kact, hoff _ (by decide) (by decide), State.kact]
    have hkhold : (a.get F.PNL_KEV.KHOLD).testBit k = true := State.get_flagBit_testBit _ _ _ (by decide) hk (by decide)
    have hparts : EventsOnly (s.updKey k (fun x => { x with held := true })) a := State.flagBit_parts _ _ _ _ _ _
    refine ⟨fun hact => ?_, fun hact hrole hstate hask hswap => ?_⟩
    · rw [if_neg (by rw [hkact]; exact fun h => hact h.1)] at hexec
      refine ⟨a, hexec, hkhold, ?_, ?_⟩
      · rw [hparts]; rfl
      · exact .flagBit (.of_regs (.refl _ s) rfl) (by decide) (by simp)
    · have hrole' : a.role = 1 := (hoff _ (by decide) (by decide)).trans hrole
      have hstate' : a.pairState = 5 := (hoff _ (by decide) (by decide)).trans hstate
      have hsecond : a.swapSecond = s.swapSecond := by rw [State.swapSecond, State.dnow, State.now, hparts]; rfl
      rw [if_pos ⟨hkact.trans hact, by rw [hstate']; decide⟩] at hexec
      obtain ⟨hs, hb, -⟩ := State.requestSwap_schedules hrole' hstate' ((State.bit_eq_of_get (hoff _ (by decide) (by decide))).trans hask)
        (by rw [hparts]; exact hswap)
      exact ⟨_, hexec, hs.trans (by rw [hsecond]), hb⟩
  · intro s caps k c b hon hk hlen hc h1 h2 hbase hup
    have hexec := (exec_touchSample caps s).trans (next_when hon _)
    obtain ⟨hd, hp, hcap, hb⟩ := State.sampleElectrodes_shows List.nodup_range (List.mem_range.mpr hk) hk hlen hc h1 h2 hbase hup
    refine ⟨fun htouch => ?_, fun hless => ?_⟩
    · have ht : s.touchedBy c b = true := decide_eq_true htouch
      rw [ht] at hd hb
      exact ⟨_, hexec, hd, hp ht, hcap, hb⟩
    · have ht : s.touchedBy c b = false := decide_eq_false (not_le.mpr hless)
      rw [ht] at hd hb
      exact ⟨_, hexec, hd, hcap, hb⟩
  · intro s k hk hlen hdown hlast
    refine ⟨_, ?_, State.touchTimeout_shows hk hlen⟩
    change onUnit _ _ = _
    rw [decide_eq_true hk, onUnit_true]
    exact next_when (by rw [hdown, decide_eq_true hlast]; rfl) _
  · intro s hon
    obtain ⟨t, ht, hshow, honly, hbut⟩ := s.leds_show
    exact ⟨t, by rw [ht]; exact next_when hon _, hshow, honly, hbut⟩
  · intro s n hn hlit
    refine ⟨s.flag (F.PNL_LED.LEDOPEN n) 84 n, ?_, State.flag_get s _ _ (by decide) rfl (by apply Fld.blk_ne; omega), ?_, State.flag_parts s _ _ _ _⟩
    · change onUnit _ _ = _
      rw [decide_eq_true hn, onUnit_true, next_when hlit]
    · exact .flag (.refl _ s) (by decide) (by simp)
  · intro s hon hdone hcount hpos
    exact ⟨_, next_when (by rw [hdone, decide_eq_true hcount, decide_eq_true hpos]; rfl) _, State.zeroCount_zeroises hon⟩

end Sys2Proof.Machine

/-! PROOF. Register accesses: byte enables, fields that are read and written, bits that a 1 clears, ranges, and SRAM through BAR2 (R11 to R19, R500). -/

namespace Sys2Proof.Machine

/-! A write that the fabric serves. -/

section
variable {s : State} {req : Requester} {off : Nat}

/-- A write is served by the register's block, no thread's counter read being concerned. -/
theorem State.access_write_of_serves (h : s.Serves req off) (halign : off % 4 = 0) (hjtag : req ≠ .jtag) (data be : Nat) :
    s.access req .bar0 off (some (data, be)) = (s.set (F.XBR_TSTAT.OWNER 6) req.master).writeReg req off data be := by
  obtain ⟨hreach, hdom⟩ := h
  have hready := (State.regsReady_owner s (domOf off) req.master (domOf_lt off)).trans hdom
  have htap : (req == .jtag) = false := beq_eq_false_iff_ne.mpr hjtag
  have hoff : ¬ (!s.supply.on) = true := by rw [hreach.1]; decide
  unfold State.access
  rw [htap]
  change s.splitAccess req off (some (data, be)) = _
  unfold State.splitAccess
  rw [if_pos halign]
  unfold State.regAccess
  rw [if_neg hoff, if_neg (by simp), if_neg (by simp), State.atFabric_of_reaches hreach, if_pos hready]
  rfl

theorem exec_registerWrite (h : s.Serves req off) (halign : off % 4 = 0) (hbar : off < 0x4000000) (hjtag : req ≠ .jtag) (data be : Nat)
    {t : State} (hwrite : (s.set (F.XBR_TSTAT.OWNER 6) req.master).writeReg req off (data % 2 ^ 32) (be % 16) = t) (hwarm : t.pair.warmWait = false) :
    exec (.registerWrite req .bar0 off data be) s = .next t := by
  have hexists : accessExists req .bar0 off = true := decide_eq_true hbar
  change onUnit (accessExists req .bar0 off) _ = _
  rw [hexists, onUnit_true, State.access_write_of_serves h halign hjtag, hwrite, State.resumeWarm_of_not_waiting hwarm]

/-- An access error under the requester's grant of the fabric. -/
theorem State.owned_accessError (s : State) (req : Requester) (cause off : Nat) (hclear : s.bit F.XBR_AERR.AERR = false) :
    let t := (s.set (F.XBR_TSTAT.OWNER 6) req.master).accessError req cause off
    t.pair = s.pair ∧ MemorySame s t ∧ (∀ g : Fld, g.blk ≠ 0x11 → g.key ≠ (F.XBR_TSTAT.OWNER 6).key → (∀ f ∈ [F.XBR_AERR.REQ,
      F.XBR_AERR.CAUSE, F.XBR_AERRADDR.ADDR, F.XBR_AERR.AERR], g.key ≠ f.key) → t.get g = s.get g) ∧ (cause < 16 → t.get F.XBR_AERR.CAUSE = cause) ∧
      (off < 2 ^ 32 → t.get F.XBR_AERRADDR.ADDR = off) := by
  intro t
  let a := s.set (F.XBR_TSTAT.OWNER 6) req.master
  have hparts : EventsOnly a t := State.accessError_parts a req cause off
  have haclear : a.bit F.XBR_AERR.AERR = false := (State.bit_set_ne s _ (by decide)).trans hclear
  refine ⟨?_, .of_eq ?_ ?_, fun g hb ho hf => ?_, State.accessError_cause haclear req cause off, State.accessError_addr haclear req cause off⟩
  · rw [hparts]; rfl
  · rw [hparts]; rfl
  · rw [hparts]; rfl
  · rw [State.get_accessError_of_clear haclear req cause off hb, State.get_aerrRecorded_ne a req cause off hf]
    exact State.get_set_ne s _ ho

end

/-! A write into a register's pieces. -/

/-- Without locked bits a write is stored whole or refused. -/
theorem State.storeWrite_of_no_locks {s : State} (hlocks : s.rcp.locks = []) {data : Nat} (hd : data < 2 ^ 32) (req : Requester) (r : RegRow)
    (i ch off : Nat) : s.storeWrite req r i ch off data =
      if selectBad r.name data || s.refusesWrite req r.name i ch (s.fieldWord r ch off) data then
        s.accessError req (if selectBad r.name data then 5 else 7) off
      else (r.pieces.foldl (fun t p => t.storePiece ch off data p) s).afterStore r.name i ch (s.fieldWord r ch off) data := by
  have hmask : s.lockMask off = 0 := by rw [State.lockMask, hlocks]; rfl
  have hdata : (data &&& (0xFFFFFFFF ^^^ 0)) ||| (s.fieldWord r ch off &&& 0) = data := by
    rw [Nat.xor_zero, Nat.and_zero, Nat.or_zero]
    exact (Nat.and_two_pow_sub_one_eq_mod data 32).trans (Nat.mod_eq_of_lt hd)
  have hfree : decide (data &&& 0 ≠ s.fieldWord r ch off &&& 0) = false := by rw [Nat.and_zero, Nat.and_zero]; rfl
  unfold State.storeWrite
  rw [hmask]
  dsimp only
  rw [hdata, hfree]
  rfl

/-- The register at an offset, and how a write reaches it. -/
theorem State.writeReg_stores {s : State} {req : Requester} {off data i j : Nat} {r : RegRow} (hreg : findReg off = some (r, i, j))
    (hoff : off / 0x20 ≠ 0x300100 / 0x20) (hsel : isSelect r.name = false) (hscope : r.scope = .plain) (hd : data < 2 ^ 32)
    (hact : s.actingWrite req r.name i j 0 data = none) : s.writeReg req off data 15 = s.storeWrite req r i 0 off data := by
  have hch : s.chanOf req r.scope = 0 := by rw [hscope]; rfl
  unfold State.writeReg
  rw [if_neg (by decide), hreg]
  dsimp only
  rw [if_neg hoff, hsel, hch, Nat.mod_eq_of_lt hd, hact, Bool.and_false]
  rfl

/-- GLB_SCRATCH's row of the register map. -/
def scratchRow : RegRow := ⟨.GLB_SCRATCH, 0x1C, 1, 0, 1, 0, .plain, .single, [⟨0, 32, .rw, 0x0, 0, 0, 0, 32⟩]⟩

/-- GLB_SUPPLY's row: VIN is only read, and a 1 clears each warning. -/
def supplyRow : RegRow := ⟨.GLB_SUPPLY, 0x8, 1, 0, 1, 0, .plain, .single, [⟨0, 11, .ro, 0x0, 0, 0, 0, 11⟩, ⟨12, 1, .w1c, 0x0, 0, 12, 0, 1⟩,
  ⟨13, 1, .w1c, 0x0, 0, 13, 0, 1⟩, ⟨14, 1, .w1c, 0x0, 0, 14, 0, 1⟩, ⟨16, 8, .ro, 0x0, 0, 16, 0, 8⟩]⟩

/-- BOOT_LIMIT's row. -/
def limitRow : RegRow := ⟨.BOOT_LIMIT, 0x10000C, 1, 0, 1, 0, .plain, .single, [⟨0, 16, .rw, 0x78, 0, 0, 0, 16⟩]⟩

theorem findReg_scratch : findReg 0x1C = some (scratchRow, 0, 0) := by decide +kernel
theorem findReg_supply : findReg 0x8 = some (supplyRow, 0, 0) := by decide +kernel
theorem findReg_limit : findReg 0x10000C = some (limitRow, 0, 0) := by decide +kernel

/-- A field that is replaced whole. -/
theorem putBits_whole (v x w : Nat) : putBits v 0 w x % 2 ^ w = x % 2 ^ w := by
  rw [putBits, bitsOf, Nat.pow_zero, Nat.div_one, Nat.mul_one, Nat.mul_one]
  have hv : v - v % 2 ^ w = 2 ^ w * (v / 2 ^ w) := Nat.sub_eq_of_eq_add (Nat.div_add_mod v (2 ^ w)).symm
  rw [hv, Nat.mul_add_mod, Nat.mod_mod]

section
variable {s : State} {req : Requester} {data : Nat} (hlocks : s.rcp.locks = []) (hd : data < 2 ^ 32)
include hlocks hd

theorem State.writeReg_scratch : s.writeReg req 0x1C data 15 = s.set F.GLB_SCRATCH.DATA (putBits (s.get F.GLB_SCRATCH.DATA) 0 32 (bitsOf data 0 32)) := by
  rw [State.writeReg_stores findReg_scratch (by decide) rfl rfl hd rfl, State.storeWrite_of_no_locks hlocks hd]
  rfl

/-- The state that a write of GLB_SUPPLY leaves: each warning whose bit is 1 is cleared. -/
def State.supplyWritten (s : State) (data : Nat) : State :=
  [(F.GLB_SUPPLY.UVW, 12), (F.GLB_SUPPLY.OVW, 13), (F.GLB_SUPPLY.HOTW, 14)].foldl (fun t p =>
    t.set p.1 (putBits (t.get p.1) 0 1 (clearBits 1 (bitsOf (t.get p.1) 0 1) (bitsOf data p.2 1)))) s

theorem State.writeReg_supply : s.writeReg req 0x8 data 15 = s.supplyWritten data := by
  rw [State.writeReg_stores findReg_supply (by decide) rfl rfl hd rfl, State.storeWrite_of_no_locks hlocks hd]
  rfl

theorem State.writeReg_limit : s.writeReg req 0x10000C data 15 = if !within 10 600 (bitsOf data 0 16) then s.accessError req 7 0x10000C
    else s.set F.BOOT_LIMIT.LIMIT (putBits (s.get F.BOOT_LIMIT.LIMIT) 0 16 (bitsOf data 0 16)) := by
  rw [State.writeReg_stores findReg_limit (by decide) rfl rfl hd rfl, State.storeWrite_of_no_locks hlocks hd]
  rfl

end

theorem ownCounter_scratch (req : Requester) : ownCounter req .GLB_SCRATCH 0 = false := by cases req <;> rfl

theorem threadRead_scratch (req : Requester) : threadRead req 0x1C = false := by
  unfold threadRead
  rw [findReg_scratch]
  exact ownCounter_scratch req

theorem State.liveWord_scratch (s : State) (req : Requester) : s.liveWord req 0x1C = s.get F.GLB_SCRATCH.DATA % 2 ^ 32 := by
  unfold State.liveWord
  rw [findReg_scratch]
  change 0 + bitsOf (s.get F.GLB_SCRATCH.DATA) 0 32 * 2 ^ 0 = _
  rw [bitsOf, Nat.pow_zero, Nat.div_one, Nat.mul_one, Nat.zero_add]

theorem State.readReg_scratch (s : State) (req : Requester) :
    s.readReg req 0x1C = s.emit (.readback req.idx (s.get F.GLB_SCRATCH.DATA % 2 ^ 32)) := by
  have hvalue : s.valueAt scratchRow 0 0 0x1C = (0x1C, 1) := rfl
  have hdenied : s.userDenied req scratchRow.name = false := by
    unfold State.userDenied
    cases req.isUser <;> rfl
  have hown : ownCounter req scratchRow.name 0 = false := ownCounter_scratch req
  have hwhole : ¬ (!hasCopies req && (isSelect scratchRow.name || (decide (1 < 1) && (0x1C == 0x1C)))) = true := by
    rw [show (isSelect scratchRow.name || (decide (1 < 1) && (0x1C == 0x1C))) = false from rfl, Bool.and_false]
    decide
  unfold State.readReg
  rw [findReg_scratch]
  dsimp only
  rw [hvalue, hdenied, if_neg Bool.false_ne_true, hown, if_neg Bool.false_ne_true, if_neg hwhole, if_neg (by decide), if_pos (by decide),
    s.liveWord_scratch]

theorem clearBits_one (v m : Nat) (hv : v < 2) : clearBits 1 v m = if m % 2 = 1 then 0 else v := by
  unfold clearBits
  rcases Nat.mod_two_eq_zero_or_one m with hm | hm
  · rw [show m % 2 ^ 1 = 0 from hm, hm]
    interval_cases v <;> rfl
  · rw [show m % 2 ^ 1 = 1 from hm, hm]
    interval_cases v <;> rfl

theorem State.supplyWritten_shows (s : State) (data : Nat) :
    (data.testBit 12 = true → (s.supplyWritten data).bit F.GLB_SUPPLY.UVW = false) ∧
    (data.testBit 12 = false → s.get F.GLB_SUPPLY.UVW ≤ 1 → (s.supplyWritten data).get F.GLB_SUPPLY.UVW = s.get F.GLB_SUPPLY.UVW) ∧
    (s.supplyWritten data).get F.GLB_SUPPLY.VIN = s.get F.GLB_SUPPLY.VIN ∧ (s.supplyWritten data).pair = s.pair := by
  have hother : ∀ g : Fld, (∀ f ∈ [F.GLB_SUPPLY.OVW, F.GLB_SUPPLY.HOTW], g.key ≠ f.key) → (s.supplyWritten data).get g =
      (s.set F.GLB_SUPPLY.UVW (putBits (s.get F.GLB_SUPPLY.UVW) 0 1 (clearBits 1 (bitsOf (s.get F.GLB_SUPPLY.UVW) 0 1) (bitsOf data 12 1)))).get g :=
    fun g hg => (State.get_set_ne _ _ (hg _ (by simp))).trans (State.get_set_ne _ _ (hg _ (by simp)))
  have huvw : (s.supplyWritten data).get F.GLB_SUPPLY.UVW = if data.testBit 12 then 0 else s.get F.GLB_SUPPLY.UVW % 2 := by
    have hlt : bitsOf (s.get F.GLB_SUPPLY.UVW) 0 1 < 2 := Nat.mod_lt _ (by decide)
    have hbit : (bitsOf data 12 1 % 2 = 1) = (data.testBit 12 = true) := by
      rw [Nat.testBit_eq_decide_div_mod_eq, decide_eq_true_eq, bitsOf]
      exact congrArg (· = 1) (Nat.mod_mod _ 2)
    rw [hother _ (by decide), State.get_set_self]
    refine (putBits_whole _ _ 1).trans ?_
    rw [clearBits_one _ _ hlt]
    simp only [hbit]
    split
    · rfl
    · rw [bitsOf, Nat.pow_zero, Nat.div_one]
      exact Nat.mod_mod _ 2
  refine ⟨fun h => ?_, fun h hle => ?_, (hother _ (by decide)).trans (State.get_set_ne s _ (by decide)), rfl⟩
  · rw [State.bit, huvw, h]
    rfl
  · rw [huvw, h]
    exact Nat.mod_eq_of_lt (by omega)

/-! SRAM through BAR2. -/

/-- A plain read that is granted is answered with the bytes. -/
theorem State.grantAccess_read {s : State} {t : Nat} {r : XbarReq} (hstore : r.store = none) (hplain : r.plain = true)
    (hbad : s.badWord r.addr r.n = false) :
    s.grantAccess t r = (s.set (F.XBR_TSTAT.OWNER t) r.master).emit (.completion r.master 0 (s.sramRead r.addr r.n)) := by
  unfold State.grantAccess
  rw [hstore]
  dsimp only
  rw [if_neg (by rw [show (s.set (F.XBR_TSTAT.OWNER t) r.master).badWord r.addr r.n = _ from hbad]; decide), if_pos hplain]
  rfl

/-- A write that is granted stores its bytes. -/
theorem State.grantAccess_write {s : State} {t : Nat} {r : XbarReq} {l : List (Nat × Byte)} (hstore : r.store = some l) :
    s.grantAccess t r = (s.set (F.XBR_TSTAT.OWNER t) r.master).sramBytes l := by
  unfold State.grantAccess
  rw [hstore]

theorem ofNat_byte_eq {a b : Nat} (h : a % 256 = b % 256) : BitVec.ofNat 8 a = BitVec.ofNat 8 b := BitVec.eq_of_toNat_eq h

/-- The four bytes of a word whose byte enables are all set. -/
theorem enabledBytes_word (addr data : Nat) : enabledBytes addr (data % 2 ^ 32) 15 =
    [(addr, BitVec.ofNat 8 data), (addr + 1, BitVec.ofNat 8 (data / 256)), (addr + 2, BitVec.ofNat 8 (data / 256 / 256)),
      (addr + 3, BitVec.ofNat 8 (data / 256 / 256 / 256))] := by
  have h0 : BitVec.ofNat 8 (data % 2 ^ 32 / 256 ^ 0) = BitVec.ofNat 8 data := ofNat_byte_eq (by omega)
  have h1 : BitVec.ofNat 8 (data % 2 ^ 32 / 256 ^ 1) = BitVec.ofNat 8 (data / 256) := ofNat_byte_eq (by omega)
  have h2 : BitVec.ofNat 8 (data % 2 ^ 32 / 256 ^ 2) = BitVec.ofNat 8 (data / 256 / 256) := ofNat_byte_eq (by omega)
  have h3 : BitVec.ofNat 8 (data % 2 ^ 32 / 256 ^ 3) = BitVec.ofNat 8 (data / 256 / 256 / 256) := ofNat_byte_eq (by omega)
  rw [← h0, ← h1, ← h2, ← h3]
  rfl

theorem State.sramStore_sram (s : State) (a : Nat) (b : List Byte) : (s.sramStore a b).sram = memSets sramDefault s.sram a b := rfl
theorem State.sramStore_regs (s : State) (a : Nat) (b : List Byte) : (s.sramStore a b).regs = s.regs := rfl
theorem State.sramStore_pair (s : State) (a : Nat) (b : List Byte) : (s.sramStore a b).pair = s.pair := rfl

theorem State.sramBytes_four (s : State) (addr : Nat) (b0 b1 b2 b3 : Byte) :
    (s.sramBytes [(addr, b0), (addr + 1, b1), (addr + 2, b2), (addr + 3, b3)]).sram = memSets sramDefault s.sram addr [b0, b1, b2, b3] ∧
    (s.sramBytes [(addr, b0), (addr + 1, b1), (addr + 2, b2), (addr + 3, b3)]).regs = s.regs ∧
    (s.sramBytes [(addr, b0), (addr + 1, b1), (addr + 2, b2), (addr + 3, b3)]).pair = s.pair := by
  simp only [State.sramBytes, List.foldl_cons, List.foldl_nil, State.sramStore_sram, State.sramStore_regs, State.sramStore_pair, memSets, Nat.add_assoc,
    Nat.reduceAdd, and_self]

theorem State.sramBytes_word (s : State) (addr data : Nat) :
    (s.sramBytes (enabledBytes addr (data % 2 ^ 32) 15)).sram = memSets sramDefault s.sram addr (leBytes 4 data) ∧
    (s.sramBytes (enabledBytes addr (data % 2 ^ 32) 15)).regs = s.regs ∧ (s.sramBytes (enabledBytes addr (data % 2 ^ 32) 15)).pair = s.pair := by
  rw [enabledBytes_word]
  exact s.sramBytes_four addr _ _ _ _

section
variable {s : State} {addr k : Nat} (hon : s.supply.on = true) (habort : s.aborted 4 = false) (hbank : bankOf addr = some k)
  (hopen : s.bankOpen addr = true) (hstage : s.stage ≠ 7) (hlock : s.lockOn k = none) (hready : s.sramReady k = true) (hw : s.sys.waits = [])
include hon habort hbank hopen hstage

theorem State.bar2_eq (write : Option (Nat × Nat)) : s.access .host .bar2 addr write = match write with
    | none => s.askTarget k { master := 4, addr := addr, n := 4, plain := true }
    | some (data, be) => s.askTarget k { master := 4, addr := addr, n := 0, plain := true, store := some (enabledBytes addr data be) } := by
  change s.sramAccess .host addr write = _
  unfold State.sramAccess
  dsimp only
  rw [if_neg (by rw [hon]; decide), if_neg (by rw [show Requester.host.master = 4 from rfl, habort]; decide), hbank]
  dsimp only
  rw [if_neg (fun h => hstage h.1), if_neg (by rw [hopen]; simp)]
  rfl

include hlock hready hw

theorem State.bar2_reads (hbar : addr < 0x4000000) (hbad : s.badWord addr 4 = false) :
    ∃ t, exec (.snapshotRead .host .bar2 addr) s = .next t ∧ t.out = s.out ++ [.completion 4 0 (s.sramRead addr 4)] ∧
      RegsBut [F.XBR_TSTAT.OWNER k] s t ∧ MemorySame s t := by
  let r : XbarReq := { master := 4, addr := addr, n := 4, plain := true }
  obtain ⟨st, hask⟩ := State.askTarget_alone (r := r) hw hlock hready hbank
  let a := (s.updSys fun y => { y with waits := [], starve := st }).set (F.XBR_TSTAT.OWNER k) 4
  have hgrant : (s.updSys fun y => { y with waits := [], starve := st }).grantAccess k r = a.emit (.completion 4 0 (s.sramRead addr 4)) :=
    State.grantAccess_read rfl rfl hbad
  have hexec : exec (.snapshotRead .host .bar2 addr) s = .next (a.emit (.completion 4 0 (s.sramRead addr 4))) := by
    change onUnit (decide (addr < 0x4000000)) _ = _
    rw [decide_eq_true hbar, onUnit_true, State.bar2_eq hon habort hbank hopen hstage, hask, hgrant]
  refine ⟨_, hexec, State.emit_out_on (show a.supply.on = true from hon) _, .emit (.set (.of_regs (.refl _ s) rfl) (by simp)), ?_⟩
  exact .of_eq (State.emit_sram _ _) (State.emit_flash _ _)

theorem State.bar2_writes (hbar : addr < 0x4000000) (hwarm : s.pair.warmWait = false) (data : Nat) :
    ∃ t, exec (.registerWrite .host .bar2 addr data 15) s = .next t ∧ t.sramRead addr 4 = leBytes 4 data ∧
      (∀ a, a < addr ∨ addr + 4 ≤ a → memGet sramDefault t.sram a = memGet sramDefault s.sram a) ∧ RegsBut [F.XBR_TSTAT.OWNER k] s t := by
  let r : XbarReq := { master := 4, addr := addr, n := 0, plain := true, store := some (enabledBytes addr (data % 2 ^ 32) 15) }
  obtain ⟨st, hask⟩ := State.askTarget_alone (r := r) hw hlock hready hbank
  let a := (s.updSys fun y => { y with waits := [], starve := st }).set (F.XBR_TSTAT.OWNER k) 4
  obtain ⟨hsram, hregs, hpair⟩ := a.sramBytes_word addr data
  have hexec : exec (.registerWrite .host .bar2 addr data 15) s = .next (a.sramBytes (enabledBytes addr (data % 2 ^ 32) 15)) := by
    change onUnit (decide (addr < 0x4000000)) _ = _
    rw [decide_eq_true hbar, onUnit_true, State.bar2_eq hon habort hbank hopen hstage]
    change Host.Outcome.next (s.askTarget k r).resumeWarm = _
    rw [hask, State.grantAccess_write rfl]
    exact congrArg Host.Outcome.next (State.resumeWarm_of_not_waiting (by exact (congrArg PairSt.warmWait hpair).trans hwarm))
  refine ⟨_, hexec, ?_, fun x hx => ?_, .of_regs (.set (.of_regs (.refl _ s) rfl) (by simp)) hregs⟩
  · have h := a.sramRead_sramStore addr (leBytes 4 data)
    rw [leBytes_length] at h
    exact (congrArg (fun l => memGets sramDefault l addr 4) hsram).trans h
  · rw [hsram]
    refine memGet_memSets_outside _ _ _ _ _ ?_
    rw [leBytes_length]
    exact hx

end

/-- Settles O59: each register's row says what a write of it does; a word of SRAM is granted at once. -/
theorem registerAccesses : Obligations.RegisterAccesses := by
  unfold Obligations.RegisterAccesses
  refine ⟨?_, ?_, ?_⟩
  · intro s req off data be hserves halign hbar hjtag hbe hclear hwarm
    obtain ⟨hpair, hmem, hregs, hcause, haddr⟩ := s.owned_accessError req 2 off hclear
    have hwrite : (s.set (F.XBR_TSTAT.OWNER 6) req.master).writeReg req off (data % 2 ^ 32) (be % 16) =
        (s.set (F.XBR_TSTAT.OWNER 6) req.master).accessError req 2 off := if_pos (by omega)
    refine ⟨_, exec_registerWrite hserves halign hbar hjtag data be hwrite (by rw [hpair]; exact hwarm), hcause (by decide), haddr (by omega),
      fun g hb hne => hregs g hb (hne _ (by simp)) fun f hf => hne f ?_, hmem⟩
    simp only [List.mem_cons] at hf ⊢
    tauto
  · intro s req data hwarm hlocks hjtag
    have hd : data % 2 ^ 32 < 2 ^ 32 := Nat.mod_lt _ (by decide)
    let a := s.set (F.XBR_TSTAT.OWNER 6) req.master
    refine ⟨fun hserves => ⟨?_, fun hlt => ?_⟩, fun hserves => ?_, fun hserves hlo hhi => ?_, fun hserves hlo hclear => ?_⟩
    · refine ⟨_, exec_registerWrite hserves rfl (by decide) hjtag data 15 (State.writeReg_scratch (s := a) hlocks hd) hwarm, ?_, ?_, rfl⟩
      · rw [State.get_set_self]
        refine (putBits_whole _ _ 32).trans ?_
        rw [bitsOf, Nat.pow_zero, Nat.div_one, Nat.mod_mod, Nat.mod_mod]
      · exact .set (.set (.refl _ s) (by simp)) (by simp)
    · have hserving : s.serving req = a := by
        unfold State.serving State.tapShown
        rw [show (req == .jtag) = false from beq_eq_false_iff_ne.mpr hjtag]
        rfl
      have hvalue : a.get F.GLB_SCRATCH.DATA % 2 ^ 32 = s.get F.GLB_SCRATCH.DATA := by
        rw [show a.get F.GLB_SCRATCH.DATA = s.get F.GLB_SCRATCH.DATA from State.get_set_ne s _ (by decide)]
        exact Nat.mod_eq_of_lt hlt
      have hexec : exec (.snapshotRead req .bar0 0x1C) s = .next (a.emit (.readback req.idx (s.get F.GLB_SCRATCH.DATA))) := by
        refine (execSnapshotRead_of_serves hserves rfl (by decide) (threadRead_scratch req)).trans ?_
        rw [hserving, a.readReg_scratch, hvalue]
      exact ⟨_, hexec, State.emit_out_on (show a.supply.on = true from hserves.1.1) _, .emit (.set (.refl _ s) (by simp))⟩
    · obtain ⟨hset, hkept, hvin, hpair⟩ := a.supplyWritten_shows (data % 2 ^ 32)
      have hbit : (data % 2 ^ 32).testBit 12 = data.testBit 12 := by rw [Nat.testBit_mod_two_pow]; rfl
      rw [hbit] at hset hkept
      have hget : ∀ g : Fld, g.key ≠ (F.XBR_TSTAT.OWNER 6).key → a.get g = s.get g := fun g hg => State.get_set_ne s _ hg
      rw [hget _ (by decide)] at hkept hvin
      exact ⟨_, exec_registerWrite hserves rfl (by decide) hjtag data 15 (State.writeReg_supply (s := a) hlocks hd) hwarm, hset, hkept, hvin⟩
    · have hbits : bitsOf (data % 2 ^ 32) 0 16 = data % 65536 := by
        rw [bitsOf, Nat.pow_zero, Nat.div_one]
        omega
      have hin : (!within 10 600 (bitsOf (data % 2 ^ 32) 0 16)) = false := by rw [hbits, within, decide_eq_true hlo, decide_eq_true hhi]; rfl
      have hwrite := State.writeReg_limit (s := a) (req := req) hlocks hd
      rw [hin, if_neg Bool.false_ne_true] at hwrite
      refine ⟨_, exec_registerWrite hserves rfl (by decide) hjtag data 15 hwrite hwarm, ?_⟩
      rw [State.get_set_self]
      refine (putBits_whole _ _ 16).trans ?_
      rw [hbits]
      omega
    · have hbits : bitsOf (data % 2 ^ 32) 0 16 = data % 65536 := by
        rw [bitsOf, Nat.pow_zero, Nat.div_one]
        omega
      have hout : (!within 10 600 (bitsOf (data % 2 ^ 32) 0 16)) = true := by rw [hbits, within, decide_eq_false (by omega)]; rfl
      have hwrite := State.writeReg_limit (s := a) (req := req) hlocks hd
      rw [hout, if_pos rfl] at hwrite
      obtain ⟨hpair, hmem, hregs, hcause, haddr⟩ := s.owned_accessError req 7 0x10000C hclear
      exact ⟨_, exec_registerWrite hserves rfl (by decide) hjtag data 15 hwrite (by rw [hpair]; exact hwarm),
        hregs _ (by decide) (by decide) (by decide), hcause (by decide)⟩
  · intro s addr k data hon habort hbank hopen hstage hlock hready hw hwarm hbar
    exact ⟨State.bar2_reads hon habort hbank hopen hstage hlock hready hw hbar, State.bar2_writes hon habort hbank hopen hstage hlock hready hw hbar hwarm data⟩

end Sys2Proof.Machine

/-! PROOF. The SRAM scrubber, the host window and the PCIe link (R498, R501, R504, R506). -/

namespace Sys2Proof.Machine

/-! What the scrubber finds. -/

theorem State.eccError_shows (s : State) (addr : Nat) (h : addr < 2 ^ 32) : (s.eccError addr).bit F.XBR_ECC.UE = true ∧
    (s.eccError addr).get F.XBR_ECC.UECNT = min 255 (s.get F.XBR_ECC.UECNT + 1) ∧ (s.eccError addr).get F.XBR_ECCADDR.ADDR = addr ∧
    MemorySame s (s.eccError addr) := by
  let a := s.bumpSat F.XBR_ECC.UECNT
  let b := a.sets [(F.XBR_ECC.BANK, (bankOf addr).getD 0), (F.XBR_ECCADDR.ADDR, addr)]
  have hparts : EventsOnly b (s.eccError addr) := State.flag_parts b _ _ _ _
  have hoff : ∀ g : Fld, g.blk ≠ 0x11 → g.key ≠ F.XBR_ECC.UE.key → (s.eccError addr).get g = b.get g := fun g hb hg => State.flag_get_ne b _ _ (by decide) hb hg
  refine ⟨State.flag_get b _ _ (by decide) rfl (by decide), ?_, ?_, .of_eq ?_ ?_⟩
  · rw [hoff _ (by decide) (by decide)]
    exact (State.get_sets_off a (by (repeat' apply And.intro) <;> (apply Fld.key_ne; omega))).trans (State.get_bumpSat_self s _ 1)
  · rw [hoff _ (by decide) (by decide)]
    exact (State.get_sets_at a [(F.XBR_ECC.BANK, (bankOf addr).getD 0)] [] trivial).trans (Nat.mod_eq_of_lt h)
  · rw [hparts]; rfl
  · rw [hparts]; rfl

/-- A word with an uncorrectable error is kept as one. -/
theorem State.scrubWord_bad (s : State) (addr : Nat) : (s.scrubWord addr true).badWord (addr / 8 * 8) 8 = true := by
  let w := addr / 8 * 8
  have hmem : w ∈ (s.scrubWord addr true).sys.bad := by
    change w ∈ if (s.eccError w).sys.bad.any (· == w) then (s.eccError w).sys.bad else (s.eccError w).sys.bad ++ [w]
    split
    · next hany =>
      obtain ⟨v, hv, hw⟩ := List.any_eq_true.mp hany
      exact (beq_iff_eq.mp hw) ▸ hv
    · exact List.mem_append_right _ List.mem_cons_self
  exact List.any_eq_true.mpr ⟨w, hmem, by simp [w]⟩

theorem exec_sramScrub {s : State} {addr : Nat} (hawake : s.get (F.PWR_DOM_STAT.STATE 5) = 0) (haddr : addr < 0x3000000) (double : Bool) :
    exec (.sramScrub [(addr, double)]) s = .next (s.scrubWord addr double) := by
  have hbank : (bankOf addr).isSome = true := by rw [bankOf, if_pos haddr]; rfl
  have hfound : [(addr, double)].filter (fun e => (bankOf e.1).isSome) = [(addr, double)] := by
    rw [List.filter_cons, if_pos hbank, List.filter_nil]
  have hexec : exec (.sramScrub [(addr, double)]) s =
      .next (([(addr, double)].filter (fun e => (bankOf e.1).isSome)).foldl (fun t e => t.scrubWord e.1 e.2) s) := next_when (beq_iff_eq.mpr hawake) _
  rw [hexec, hfound]
  rfl

/-! The reset of the PCI domain. -/

/-- The MSI-X table and the link's speed stay. -/
def TableKept (s t : State) : Prop := t.sys.msixTable = s.sys.msixTable ∧ t.get F.SUP_LINK.SPEED = s.get F.SUP_LINK.SPEED

section
variable {s t u : State}

theorem TableKept.refl (s : State) : TableKept s s := ⟨rfl, rfl⟩

theorem TableKept.trans (h : TableKept s t) (k : TableKept t u) : TableKept s u := ⟨k.1.trans h.1, k.2.trans h.2⟩

theorem TableKept.ite {c : Prop} [Decidable c] (ht : TableKept s t) (hu : TableKept s u) : TableKept s (if c then t else u) := by split <;> assumption

theorem TableKept.foldl {α : Type} {f : State → α → State} {l : List α} (h : TableKept s t)
    (hf : ∀ u, ∀ a ∈ l, TableKept s u → TableKept s (f u a)) : TableKept s (l.foldl f t) :=
  List.foldlRecOn (motive := fun u : State => TableKept s u) l f h fun u hu a ha => hf u a ha hu

theorem TableKept.set {f : Fld} {v : Nat} (h : TableKept s t) (hf : F.SUP_LINK.SPEED.key ≠ f.key) : TableKept s (t.set f v) :=
  h.trans ⟨rfl, State.get_set_ne t v hf⟩

theorem TableKept.updSys {f : SysSt → SysSt} (h : TableKept s t) (hf : (f t.sys).msixTable = t.sys.msixTable) : TableKept s (t.updSys f) :=
  h.trans ⟨hf, rfl⟩

theorem TableKept.emit {e : Emission} (h : TableKept s t) : TableKept s (t.emit e) :=
  h.trans ⟨congrArg (·.msixTable) (State.emit_sys t e), State.get_emit t e _⟩

theorem TableKept.flag {f : Fld} {ev inst detail : Nat} (h : TableKept s t) (he : ev < 128) (hf : F.SUP_LINK.SPEED.key ≠ f.key) :
    TableKept s (t.flag f ev inst detail) :=
  h.trans ⟨(PendsOnly.flag (.refl t)).table, State.flag_get_ne t _ _ he (by decide) hf⟩

theorem TableKept.xbrFail {m k code addr : Nat} (h : TableKept s t) : TableKept s (t.xbrFail m k code addr) :=
  h.trans ⟨(t.xbrFail_pends m k code addr).table, t.xbrFail_regs m k code addr _ (by decide) (by decide)⟩

theorem TableKept.eccError {addr : Nat} (h : TableKept s t) : TableKept s (t.eccError addr) :=
  .flag (.set (f := F.XBR_ECCADDR.ADDR) (.set (f := F.XBR_ECC.BANK) (.set h (by decide)) (by decide)) (by decide)) (by decide) (by decide)

theorem TableKept.sramBytes {l : List (Nat × Byte)} (h : TableKept s t) : TableKept s (t.sramBytes l) :=
  .foldl h fun _ _ _ hu => hu.trans ⟨rfl, rfl⟩

theorem TableKept.grantAccess {k : Nat} {r : XbarReq} (h : TableKept s t) (hk : k < 6) : TableKept s (t.grantAccess k r) := by
  have hset : ∀ {l : Nat} {u : State} {w v rst : Nat}, l < 32 → TableKept s u → TableKept s (u.set ⟨0, 0x1000040 + 0x4 * k, l, w, rst⟩ v) :=
    fun hl hu => hu.set (by apply Fld.key_ne; omega)
  have ha := hset (l := 0) (w := 4) (rst := 0) (v := r.master) (by decide) h
  unfold State.grantAccess
  extract_lets a old
  split
  · exact ha.sramBytes
  · refine .ite ha.eccError.xbrFail (.ite ha.emit ?_)
    split
    · exact (TableKept.updSys (hset (by decide) ha) rfl).emit
    · exact .ite (hset (by decide) ha).xbrFail (TableKept.trans (u := a.sramStore _ _) ha ⟨rfl, rfl⟩).emit

/-- The crossbar grants a target's own requests. -/
theorem State.nextGrant_bank {k : Nat} {r : XbarReq} (h : s.nextGrant k = some r) : bankOf r.addr = some k := by
  unfold State.nextGrant at h
  extract_lets ws starved high cls dist at h
  have hws : ∀ r ∈ ws, bankOf r.addr = some k := fun r hr => beq_iff_eq.mp (List.mem_filter.mp hr).2
  have hcls : ∀ r ∈ cls, bankOf r.addr = some k := by
    unfold cls
    split
    · exact fun r hr => hws r (List.mem_of_mem_filter hr)
    · split
      · exact fun r hr => hws r (List.mem_of_mem_filter hr)
      · exact hws
  refine (List.foldlRecOn (motive := fun b : Option XbarReq => ∀ r, b = some r → bankOf r.addr = some k) cls _ (fun _ hr => by cases hr) fun b hb a ha r hr => ?_) r h
  split at hr
  · exact Option.some.inj hr ▸ hcls a ha
  · split at hr
    · exact Option.some.inj hr ▸ hcls a ha
    · exact hb r hr

theorem TableKept.serveTarget {k n : Nat} (h : TableKept s t) : TableKept s (t.serveTarget k n) := by
  induction n generalizing t with
  | zero => exact h
  | succ n ih =>
    unfold State.serveTarget
    split
    · exact h
    · split
      · exact h
      · next r hr =>
        exact ih (.grantAccess (.updSys h rfl) (bankOf_lt (State.nextGrant_bank hr)))

theorem TableKept.unlock {k : Nat} (h : TableKept s t) : TableKept s (t.unlock k) :=
  .serveTarget (.updSys (.set h (by apply Fld.key_ne; omega)) rfl)

theorem TableKept.resetMaster {m : Nat} {burst : Bool} (h : TableKept s t) : TableKept s (t.resetMaster m burst) := by
  unfold State.resetMaster
  extract_lets held a b
  have hb : TableKept s b := by
    unfold b
    split
    · exact h.trans ⟨rfl, rfl⟩
    · exact h.trans ⟨rfl, rfl⟩
  exact .foldl (.ite (hb.set (by decide)) hb) fun u k _ hu => hu.unlock

theorem TableKept.ringDrop {r : Nat} (h : TableKept s t) (hr : r < 128) : TableKept s (t.ringDrop r) :=
  .flag (.set h (by apply Fld.key_ne; omega)) (by decide) (by decide)

theorem TableKept.stopRing {r : Nat} (h : TableKept s t) (hr : r < 128) : TableKept s (t.stopRing r) := by
  have ha : TableKept s (t.set (F.PKE_RING_CFG.EN r) 0) := h.set (by apply Fld.key_ne; omega)
  unfold State.stopRing
  extract_lets a b cons onWire inFifo mine c
  split
  · refine .foldl (ha.trans ⟨rfl, rfl⟩) fun u k _ hu => ?_
    exact .ite hu (hu.trans ⟨rfl, rfl⟩)
  · exact .foldl (ha.trans ⟨rfl, rfl⟩) fun u _ _ hu => hu.ringDrop hr

end

/-- The reset of the PCI domain empties the MSI-X table and leaves the link's speed. -/
theorem State.resetPci_shows (s : State) : s.resetPci.sys.msixTable = [] ∧ s.resetPci.get F.SUP_LINK.SPEED = s.get F.SUP_LINK.SPEED := by
  let e := s.updSys (fun y => { y with msixTable := [], pba := 0, lowPower := false })
  have hkept : TableKept e s.resetPci := by
    unfold State.resetPci
    extract_lets a b left c
    have hb : TableKept e b := .foldl (TableKept.refl e).resetMaster.resetMaster fun u r hr hu => .ite (hu.stopRing (List.mem_range.mp hr)) hu
    refine .foldl (hb.trans ⟨rfl, rfl⟩) fun u i hi hu => hu.ringDrop ?_
    have := of_decide_eq_true (List.mem_filter.mp hi).2
    omega
  exact hkept

/-! The link's training. -/

theorem State.linkReturnMessages_keeps (s : State) : RegsBut [] s s.linkReturnMessages ∧ MemorySame s s.linkReturnMessages := by
  refine ⟨.foldl (.refl _ s) fun u v _ hu => hu.step fun f _ _ => State.get_msix u v f, ?_⟩
  have hparts : EventsOnly s s.linkReturnMessages := List.foldlRecOn (motive := fun u : State => EventsOnly s u) _ _ rfl fun u hu v _ => hu.trans (u.msix_parts v)
  exact .of_eq (by rw [hparts]) (by rw [hparts])

/-- Settles O50: a found error is recorded, the window is a supervisor core's, and the link's resets empty the MSI-X table. -/
theorem scrubWindowAndLink : Obligations.ScrubWindowAndLink := by
  unfold Obligations.ScrubWindowAndLink
  refine ⟨fun s addr hawake haddr => ⟨?_, ?_⟩, fun s req data hserves => ⟨fun hsup => ?_, fun hsup hclear => ?_⟩, fun s k => ?_,
    fun s speed width h1 h4 hw => ?_⟩
  · refine ⟨_, exec_sramScrub hawake haddr false, State.get_bumpSat_self s _ 1, rfl, .set (.refl _ s) (by simp)⟩
  · obtain ⟨hue, hcount, haddr', hmem⟩ := s.eccError_shows (addr / 8 * 8) (by omega)
    exact ⟨_, exec_sramScrub hawake haddr true, hue, hcount, haddr', s.scrubWord_bad addr, hmem⟩
  · let a := s.set (F.XBR_TSTAT.OWNER 6) req.master
    have hexec : exec (.xbrHwinWrite req data) s = .next (a.set F.XBR_HWIN.BANKS (data % 64)) := by
      refine congrArg Host.Outcome.next ((State.atDomain_of_serves hserves data _).trans ?_)
      rw [State.writeHwin, if_pos hsup]
    refine ⟨_, hexec, ?_, rfl, .set (.set (.refl _ s) (by simp)) (by simp)⟩
    exact (State.get_set_self a _ _).trans (Nat.mod_mod data 64)
  · have hexec : exec (.xbrHwinWrite req data) s = .next ((s.set (F.XBR_TSTAT.OWNER 6) req.master).accessError req 7 0x100001C) := by
      refine congrArg Host.Outcome.next ((State.atDomain_of_serves hserves data _).trans ?_)
      rw [State.writeHwin, if_neg (by rw [hsup]; decide)]
    obtain ⟨-, -, hregs, hcause, haddr⟩ := s.owned_accessError req 7 0x100001C hclear
    exact ⟨_, hexec, hregs _ (by decide) (by decide) (by decide), hcause (by decide), haddr (by decide)⟩
  · obtain ⟨htable, hspeed⟩ := s.resetPci_shows
    let d := (s.resetPci.set F.SUP_LINK.SPEED 0).set F.SUP_LINK.WIDTH 0
    let ready := s.get F.SUP_STATUS.READY
    by_cases hk : k = .flr
    · have hexec : exec (.pcieLinkReset k) s = .next (s.resetPci.flag F.SUP_LINK.FLR 70 0 ready) := congrArg Host.Outcome.next (if_pos hk)
      refine ⟨_, hexec, (PendsOnly.flag (.refl _)).table.trans htable, fun _ => ⟨State.flag_get _ _ _ (by decide) rfl (by decide), ?_⟩,
        fun hne => absurd hk hne⟩
      exact (State.flag_get_ne _ _ _ (by decide) (by decide) (by decide)).trans hspeed
    · have hexec : exec (.pcieLinkReset k) s = .next (d.flag F.SUP_LINK.LINKDN 70 0 ready) := congrArg Host.Outcome.next (if_neg hk)
      have hoff : ∀ g : Fld, g.blk ≠ 0x11 → g.key ≠ F.SUP_LINK.LINKDN.key → (d.flag F.SUP_LINK.LINKDN 70 0 ready).get g = d.get g := fun g hb hg =>
        State.flag_get_ne d _ _ (by decide) hb hg
      refine ⟨_, hexec, (PendsOnly.flag (.refl d)).table.trans htable, fun h => absurd h hk,
        fun _ => ⟨State.flag_get d _ _ (by decide) rfl (by decide), ?_, ?_⟩⟩
      · rw [hoff _ (by decide) (by decide)]
        exact (State.get_set_ne _ _ (by decide)).trans (State.get_set_self _ _ _)
      · rw [hoff _ (by decide) (by decide)]
        exact State.get_set_self _ _ _
  · let a := s.sets [(F.SUP_LINK.SPEED, speed), (F.SUP_LINK.WIDTH, width)]
    have hcond : (decide (1 ≤ speed) && decide (speed ≤ 4) && (width == 1 || width == 2 || width == 4)) = true := by
      rw [decide_eq_true h1, decide_eq_true h4]
      rcases hw with rfl | rfl | rfl <;> rfl
    obtain ⟨hregs, hmem⟩ := a.linkReturnMessages_keeps
    refine ⟨_, next_when hcond _, ?_, ?_, ?_, hmem⟩
    · rw [hregs _ (by decide) nofun]
      refine (State.get_sets_at s [] [(F.SUP_LINK.WIDTH, width)] (by apply Fld.key_ne; omega)).trans (Nat.mod_eq_of_lt ?_)
      change speed < 16
      omega
    · rw [hregs _ (by decide) nofun]
      refine (State.get_sets_at s [(F.SUP_LINK.SPEED, speed)] [] trivial).trans (Nat.mod_eq_of_lt ?_)
      change width < 8
      omega
    · exact RegsBut.trans (t := a) (.sets (.refl _ s) (by simp)) (hregs.mono nofun)

end Sys2Proof.Machine

/-! PROOF. What the power controller's own registers are safe from: the crossbar, the contexts and the ports write above them. -/

namespace Sys2Proof.Machine

/-- The domains' state stays, and so does every field whose key is below a bound. -/
structure KeptBelow (b : Nat) (s t : State) : Prop where
  pwr : t.pwr = s.pwr
  regs : ∀ g : Fld, g.key < b → t.get g = s.get g

section
variable {b : Nat} {s t u : State}

theorem KeptBelow.refl (b : Nat) (s : State) : KeptBelow b s s := ⟨rfl, fun _ _ => rfl⟩

theorem KeptBelow.trans (h : KeptBelow b s t) (k : KeptBelow b t u) : KeptBelow b s u :=
  ⟨k.pwr.trans h.pwr, fun g hg => (k.regs g hg).trans (h.regs g hg)⟩

theorem KeptBelow.of_eq (h : KeptBelow b s t) (hp : u.pwr = t.pwr) (hr : u.regs = t.regs) : KeptBelow b s u :=
  h.trans ⟨hp, fun g _ => State.get_congr hr g⟩

theorem KeptBelow.ite {c : Prop} [Decidable c] (ht : KeptBelow b s t) (hu : KeptBelow b s u) : KeptBelow b s (if c then t else u) := by
  split <;> assumption

theorem KeptBelow.foldl {α : Type} {f : State → α → State} {l : List α} (h : KeptBelow b s t)
    (hf : ∀ u, ∀ a ∈ l, KeptBelow b s u → KeptBelow b s (f u a)) : KeptBelow b s (l.foldl f t) :=
  List.foldlRecOn (motive := fun u : State => KeptBelow b s u) l f h fun u hu a ha => hf u a ha hu

theorem KeptBelow.set {f : Fld} {v : Nat} (h : KeptBelow b s t) (hf : b ≤ f.key) : KeptBelow b s (t.set f v) :=
  h.trans ⟨rfl, fun g hg => State.get_set_ne t v (by omega)⟩

theorem KeptBelow.sets {l : List (Fld × Nat)} (h : KeptBelow b s t) (hl : ∀ p ∈ l, b ≤ p.1.key) : KeptBelow b s (t.sets l) :=
  h.trans ⟨by rw [(t.sets_regsOnly l)], fun g hg => State.get_sets_ne t l fun p hp => by have := hl p hp; omega⟩

theorem KeptBelow.emit {e : Emission} (h : KeptBelow b s t) : KeptBelow b s (t.emit e) :=
  h.of_eq (by unfold State.emit; split <;> rfl) (State.emit_regs t e)

theorem KeptBelow.updSys {f : SysSt → SysSt} (h : KeptBelow b s t) : KeptBelow b s (t.updSys f) := h.of_eq rfl rfl
theorem KeptBelow.updPort {n : Nat} {f : PortSt → PortSt} (h : KeptBelow b s t) : KeptBelow b s (t.updPort n f) := h.of_eq rfl rfl
theorem KeptBelow.updPair {f : PairSt → PairSt} (h : KeptBelow b s t) : KeptBelow b s (t.updPair f) := h.of_eq rfl rfl
theorem KeptBelow.updCtx {id : Nat} {f : Ctx → Ctx} (h : KeptBelow b s t) : KeptBelow b s (t.updCtx id f) := h.of_eq rfl rfl

variable (hb : b ≤ 0x12000000)
include hb

theorem KeptBelow.flag {f : Fld} {ev inst detail : Nat} (h : KeptBelow b s t) (hf : b ≤ f.key) : KeptBelow b s (t.flag f ev inst detail) := by
  refine h.trans ⟨(State.flag_parts t f ev inst detail).pwr, fun g hg => OffEvents.get_flag ⟨?_, .inr (by omega)⟩ t (by omega) _ _ _⟩
  unfold Fld.blk
  omega

theorem KeptBelow.counts (h : KeptBelow b s t) (k : CountsOnly t u) : KeptBelow b s u :=
  h.trans ⟨by rw [k.parts], fun g hg => k.get (by unfold Fld.blk; omega) (by unfold Fld.blk; omega)⟩

/-! The crossbar. -/

theorem KeptBelow.xbrFail {m k code addr : Nat} (h : KeptBelow b s t) : KeptBelow b s (t.xbrFail m k code addr) := by
  have hset : ∀ {u : State} {o l w r v : Nat}, 0x1000000 ≤ o → KeptBelow b s u → KeptBelow b s (u.set ⟨0, o, l, w, r⟩ v) := fun ho hu =>
    hu.set (Fld.le_key (by omega))
  refine KeptBelow.emit (.ite (hset (by decide) h) (.flag hb ?_ (Fld.le_key (by omega))))
  exact hset (by decide) (hset (by decide) (hset (by decide) (hset (by decide) h)))

omit hb in
theorem KeptBelow.sramBytes {l : List (Nat × Byte)} (h : KeptBelow b s t) : KeptBelow b s (t.sramBytes l) :=
  .foldl h fun _ _ _ hu => hu.of_eq rfl rfl

theorem KeptBelow.grantAccess {k : Nat} {r : XbarReq} (h : KeptBelow b s t) : KeptBelow b s (t.grantAccess k r) := by
  have hset : ∀ {u : State} {o l w r v : Nat}, 0x1000000 ≤ o → KeptBelow b s u → KeptBelow b s (u.set ⟨0, o, l, w, r⟩ v) := fun ho hu =>
    hu.set (Fld.le_key (by omega))
  have ha : KeptBelow b s (t.set (F.XBR_TSTAT.OWNER k) r.master) := hset (by omega) h
  unfold State.grantAccess
  extract_lets a old
  split
  · exact ha.sramBytes
  · refine .ite (.xbrFail hb ?_) (.ite ha.emit ?_)
    · exact .flag hb (hset (by decide) (hset (by decide) (hset (by decide) ha))) (Fld.le_key (by omega))
    · split
      · exact (KeptBelow.updSys (hset (by omega) ha)).emit
      · exact .ite (.xbrFail hb (hset (by omega) ha)) (KeptBelow.of_eq (u := a.sramStore _ _) ha rfl rfl).emit

theorem KeptBelow.serveTarget {k n : Nat} (h : KeptBelow b s t) : KeptBelow b s (t.serveTarget k n) := by
  induction n generalizing t with
  | zero => exact h
  | succ n ih =>
    unfold State.serveTarget
    split
    · exact h
    · split
      · exact h
      · exact ih (.grantAccess hb h.updSys)

theorem KeptBelow.serveTargets (h : KeptBelow b s t) : KeptBelow b s t.serveTargets := .foldl h fun _ _ _ hu => hu.serveTarget hb

theorem KeptBelow.unlock {k : Nat} (h : KeptBelow b s t) : KeptBelow b s (t.unlock k) :=
  .serveTarget hb (.updSys (.set h (Fld.le_key (by omega))))

/-- The reset of a master that is not the test port. -/
theorem KeptBelow.resetMaster {m : Nat} {burst : Bool} (h : KeptBelow b s t) (hm : m ≠ 8) : KeptBelow b s (t.resetMaster m burst) := by
  unfold State.resetMaster
  extract_lets held a c
  rw [if_neg hm]
  refine .foldl ?_ fun u k _ hu => hu.unlock hb
  unfold c
  split
  · exact h.of_eq rfl rfl
  · exact h.of_eq rfl rfl

/-! Contexts and what a port has sent. -/

theorem KeptBelow.freeCtx {id : Nat} (h : KeptBelow b s t) : KeptBelow b s (t.freeCtx id) := by
  unfold State.freeCtx
  split
  · exact h
  · extract_lets _ a c
    have ha : KeptBelow b s a := h.of_eq rfl rfl
    exact .set (.ite (.set ha (Fld.le_key (by omega))) ha) (Fld.le_key (by omega))

theorem KeptBelow.cancelResv {id : Nat} (h : KeptBelow b s t) : KeptBelow b s (t.cancelResv id) :=
  .foldl h fun u n _ hu => .set (.set hu.updPort (Fld.le_key (by omega))) (Fld.le_key (by omega))

theorem KeptBelow.gateInc {n : Nat} {g : GateCount} (h : KeptBelow b s t) : KeptBelow b s (t.gateInc n g) := by
  have hset : ∀ {o l w r v : Nat}, 0xA00000 ≤ o → KeptBelow b s (t.set ⟨0, o, l, w, r⟩ v) := fun ho => h.set (Fld.le_key (by omega))
  cases g with
  | appt => exact hset (by omega)
  | coll cause =>
    change KeptBelow b s (t.bumpSat (if cause % 2 = 1 then _ else _))
    split
    · exact hset (by omega)
    · exact hset (by omega)
  | reseal => exact hset (by omega)
  | twoStep => exact hset (by omega)
  | freeRel => exact hset (by omega)

theorem KeptBelow.dropMsg {x : Ctx} {cause : Nat} (h : KeptBelow b s t) : KeptBelow b s (t.dropMsg x cause) := by
  unfold State.dropMsg
  extract_lets n a c
  have hheld : KeptBelow b s (t.gateHeld x) := .foldl h fun u g _ hu => hu.gateInc hb
  have ha : KeptBelow b s a := .flag hb (.set (.set hheld (Fld.le_key (by omega))) (Fld.le_key (by omega))) (Fld.le_key (by omega))
  have hc : KeptBelow b s c := (ha.cancelResv hb).freeCtx hb
  exact .ite hc (hc.set (Fld.le_key (by omega)))

omit hb in
theorem KeptBelow.sendOn {n : Nat} {f : TxFrame} (h : KeptBelow b s t) : KeptBelow b s (t.sendOn n f) := .ite h.emit h.updPort

theorem KeptBelow.tryRelease {id : Nat} (h : KeptBelow b s t) : KeptBelow b s (t.tryRelease id) := by
  unfold State.tryRelease
  split
  · exact h
  · exact .ite (.ite (h.dropMsg hb) h.updCtx.sendOn) h

theorem KeptBelow.laneAsk {o : LaneOp} (h : KeptBelow b s t) : KeptBelow b s (t.laneAsk o) := by
  unfold State.laneAsk
  extract_lets a
  have ha : KeptBelow b s a := by
    unfold a
    split
    · exact .counts hb h (CountsOnly.refl t).engineEvent
    · exact h
  exact KeptBelow.updCtx (ha.of_eq rfl rfl)

theorem KeptBelow.askSeal {x : Ctx} {deadline : Option Nat} (h : KeptBelow b s t) : KeptBelow b s (t.askSeal x deadline) :=
  .ite h.updCtx (.ite (h.laneAsk hb) (h.laneAsk hb))

theorem KeptBelow.afterSent {f : TxFrame} {r : Option StampRec} {trunc : Bool} (h : KeptBelow b s t) : KeptBelow b s (t.afterSent f r trunc) := by
  unfold State.afterSent
  split
  · exact h
  · exact h.of_eq rfl rfl
  · split
    · exact h
    · next x _ =>
      refine .ite ?_ (.ite (.freeCtx hb (.of_eq h rfl rfl)) (.ite (.freeCtx hb (.of_eq h rfl rfl)) (h.freeCtx hb)))
      split
      · exact h.freeCtx hb
      · refine .ite (h.freeCtx hb) (((KeptBelow.set h.updCtx (Fld.le_key ?_)).askSeal hb).tryRelease hb)
        omega

theorem KeptBelow.drainFifo {n : Nat} (h : KeptBelow b s t) : KeptBelow b s (t.drainFifo n) :=
  .ite h (.foldl h.updPort fun _ _ _ hu => hu.afterSent hb)

/-! What a recipe's fields return. -/

theorem KeptBelow.loadEngines {q : Nat} (h : KeptBelow b s t) : KeptBelow b s (t.loadEngines q) :=
  .foldl h fun u i _ hu => .set (.set (.set hu (Fld.le_key (by omega))) (Fld.le_key (by omega))) (Fld.le_key (by omega))

theorem KeptBelow.runEngines {q : Nat} (h : KeptBelow b s t) : KeptBelow b s (t.runEngines q) :=
  .foldl h fun u i _ hu => .set hu (Fld.le_key (by omega))

theorem KeptBelow.loadClass (h : KeptBelow b s t) : KeptBelow b s t.loadClass := by
  have hset : ∀ {u : State} {o l w r v : Nat}, 0xB00000 ≤ o → KeptBelow b s u → KeptBelow b s (u.set ⟨0, o, l, w, r⟩ v) := fun ho hu =>
    hu.set (Fld.le_key (by omega))
  exact hset (by decide) (hset (by decide) (hset (by decide) (h.of_eq rfl rfl)))

theorem KeptBelow.loadSvc (h : KeptBelow b s t) : KeptBelow b s t.loadSvc := by
  have hset : ∀ {u : State} {o l w r v : Nat}, 0xA00000 ≤ o → KeptBelow b s u → KeptBelow b s (u.set ⟨0, o, l, w, r⟩ v) := fun ho hu =>
    hu.set (Fld.le_key (by omega))
  exact hset (by decide) (hset (by decide) (hset (by decide) (hset (by decide) (hset (by decide) (hset (by decide) (hset (by decide)
    (hset (by decide) h)))))))

theorem KeptBelow.showTxdis {n : Nat} (h : KeptBelow b s t) : KeptBelow b s (t.showTxdis n) := h.set (Fld.le_key (by omega))

theorem KeptBelow.loadPort {n : Nat} (h : KeptBelow b s t) : KeptBelow b s (t.loadPort n) := by
  have hset : ∀ {u : State} {o l w r v : Nat}, 0x900000 ≤ o → KeptBelow b s u → KeptBelow b s (u.set ⟨0, o, l, w, r⟩ v) := fun ho hu =>
    hu.set (Fld.le_key (by omega))
  refine .foldl (.showTxdis hb (hset (by omega) (hset (by omega) (hset (by omega) (hset (by omega) (hset (by omega) (hset (by omega) h)))))))
    fun u k _ hu => hset (by omega) hu

theorem KeptBelow.reloadDomain {d : Nat} (h : KeptBelow b s t) : KeptBelow b s (t.reloadDomain d) := by
  have hset : ∀ {u : State} {o l w r v : Nat}, 0x900000 ≤ o → KeptBelow b s u → KeptBelow b s (u.set ⟨0, o, l, w, r⟩ v) := fun ho hu =>
    hu.set (Fld.le_key (by omega))
  refine .ite (((((hset (by decide) h).loadEngines hb).loadClass hb).loadSvc hb).runEngines hb) (.ite ((h.loadEngines hb).runEngines hb)
    (.ite (h.loadPort hb) (.ite ?_ h)))
  exact hset (by decide) (hset (by decide) h)

end

end Sys2Proof.Machine

/-! PROOF. Entry into sleep, waking, the checks of what was retained, and performance levels (R509 to R516). -/

namespace Sys2Proof.Machine

/-! The state that a domain shows. -/

section
variable (s : State) {d st : Nat}

theorem State.showDom_parts (d st : Nat) : RegsOnly s (s.showDom d st) := by
  unfold State.showDom
  extract_lets g a
  split
  · rfl
  · split <;> rfl

theorem State.get_showDom_ne {o l w r : Nat} (ho : o < 0x900000) (hl : l < 32) (hs : o ≠ 0x300104 + 0x20 * d ∨ l ≠ 0) (hg : o ≠ 0x300000) :
    (s.showDom d st).get ⟨0, o, l, w, r⟩ = s.get ⟨0, o, l, w, r⟩ := by
  have ha : ((s.set (F.PWR_DOM_STAT.STATE d) st).set F.PWR_GSTAT.ASLEEP (if st = 0 then clearBits 13 (s.get F.PWR_GSTAT.ASLEEP) (2 ^ d)
      else setBitN (s.get F.PWR_GSTAT.ASLEEP) d)).get ⟨0, o, l, w, r⟩ = s.get ⟨0, o, l, w, r⟩ :=
    (State.get_set_ne _ _ (by apply Fld.key_ne; omega)).trans (State.get_set_ne s _ (by apply Fld.key_ne; omega))
  unfold State.showDom
  extract_lets g a
  split
  · exact (State.get_set_ne a _ (by apply Fld.key_ne; omega)).trans ha
  · split
    · exact (State.get_set_ne a _ (by apply Fld.key_ne; omega)).trans ha
    · exact ha

theorem State.get_showDom_self (hst : st < 4) (hd : d < 13) : (s.showDom d st).get (F.PWR_DOM_STAT.STATE d) = st := by
  have ha : ((s.set (F.PWR_DOM_STAT.STATE d) st).set F.PWR_GSTAT.ASLEEP (if st = 0 then clearBits 13 (s.get F.PWR_GSTAT.ASLEEP) (2 ^ d)
      else setBitN (s.get F.PWR_GSTAT.ASLEEP) d)).get (F.PWR_DOM_STAT.STATE d) = st :=
    (State.get_set_ne _ _ (by apply Fld.key_ne; omega)).trans (State.get_set_of_lt s hst)
  unfold State.showDom
  extract_lets g a
  split
  · exact (State.get_set_ne a _ (by apply Fld.key_ne; omega)).trans ha
  · split
    · exact (State.get_set_ne a _ (by apply Fld.key_ne; omega)).trans ha
    · exact ha

/-! The replicas of a domain's islands. -/

theorem Fld.key_mod {c o l w r m : Nat} (h : ((c * 0x4000000 + o) * 32 + l) % 32 = m) : Fld.key ⟨c, o, l, w, r⟩ % 32 = m := h

theorem key_mod_cal (n : Nat) : (F.HRT_TB_ROUTE.CAL n).key % 32 = 30 := by apply Fld.key_mod; omega

theorem key_mod_state (d : Nat) : (F.PWR_DOM_STAT.STATE d).key % 32 = 0 := by apply Fld.key_mod; omega

theorem key_mod_entering (d : Nat) : (F.PWR_DOM_STAT.ENTERING d).key % 32 = 2 := by apply Fld.key_mod; omega

theorem key_mod_valid (n : Nat) : (F.HRT_TB_ROUTE.VALID n).key % 32 = 29 := by apply Fld.key_mod; omega

theorem State.queueCal_keeps (l : List Nat) : (s.queueCal l).pwr = s.pwr ∧ ∀ g : Fld, g.key % 32 ≠ 30 → (s.queueCal l).get g = s.get g := by
  unfold State.queueCal
  extract_lets q a
  split
  · exact ⟨rfl, fun g hg => State.get_set_ne _ _ fun hk => hg (by rw [hk, key_mod_cal])⟩
  · exact ⟨rfl, fun _ _ => rfl⟩

theorem State.loseReplica_keeps (n : Nat) : (s.loseReplica n).pwr = s.pwr ∧
    ∀ g : Fld, g.key % 32 ≠ 30 → (s.loseReplica n).get g = (s.set (F.HRT_TB_ROUTE.VALID n) 0).get g := by
  let a : State := { s with tb := { s.tb with calQ := [] } }
  let b := (a.sets [(F.HRT_TB_ROUTE.VALID n, 0), (F.HRT_TB_ROUTE.CAL n, 0)]).updIsle n (fun _ => {})
  obtain ⟨hpwr, hget⟩ := b.queueCal_keeps (s.tb.calQ.filter (· != n))
  refine ⟨hpwr, fun g hg => (hget g hg).trans (State.get_set_ne (s.set (F.HRT_TB_ROUTE.VALID n) 0) 0 fun hk => hg ?_)⟩
  exact (congrArg (· % 32) hk).trans (key_mod_cal n)

/-- Lost replicas are shown as such, and no other field but the calibrations' changes. -/
theorem State.loseReplicas_show (l : List Nat) : (l.foldl State.loseReplica s).pwr = s.pwr ∧
    (∀ g : Fld, g.key % 32 ≠ 30 → g.key % 32 ≠ 29 → (l.foldl State.loseReplica s).get g = s.get g) ∧
    ∀ n, n ∈ l ∨ s.get (F.HRT_TB_ROUTE.VALID n) = 0 → (l.foldl State.loseReplica s).get (F.HRT_TB_ROUTE.VALID n) = 0 := by
  induction l generalizing s with
  | nil => exact ⟨rfl, fun _ _ _ => rfl, fun n h => h.resolve_left List.not_mem_nil⟩
  | cons m l ih =>
    obtain ⟨hpwr, hget⟩ := s.loseReplica_keeps m
    obtain ⟨hpwr', hget', hshow⟩ := ih (s.loseReplica m)
    refine ⟨hpwr'.trans hpwr, fun g h30 h29 => ?_, fun n hn => hshow n ?_⟩
    · refine ((hget' g h30 h29).trans (hget g h30)).trans (State.get_set_ne s 0 fun hk => h29 ?_)
      rw [hk, key_mod_valid]
    · rw [hget _ (by rw [key_mod_valid]; decide)]
      by_cases hnm : n = m
      · subst hnm
        exact .inr (State.get_set_self s _ 0)
      · rcases hn with hin | hzero
        · exact .inl ((List.mem_cons.mp hin).resolve_left hnm)
        · exact .inr ((State.get_set_ne s 0 (by apply Fld.key_ne; omega)).trans hzero)

end

/-! The end of an entry. -/

section
variable {s : State} {d : Nat} (hd : d < 13) (hp : s.pwr.length = 13)
include hd

theorem State.sleepEntry_of (hent : s.bit (F.PWR_DOM_STAT.ENTERING d) = true) : exec (.sleepEntryComplete d) s = .next (s.endEntry d) := by
  change onUnit (decide (d < 13)) _ = _
  rw [decide_eq_true hd, onUnit_true]
  exact next_when hent _

include hp

/-- The state in which an entry has ended but for what the state reached takes. -/
def State.entered (s : State) (d : Nat) : State :=
  ((s.set (F.PWR_DOM_STAT.ENTERING d) 0).bump (F.PWR_SLEEP_CNT.ENTRIES d)).updDom d (fun x => { x with sleepStart := s.raw })

theorem State.entered_shows : (s.entered d).bit (F.PWR_DOM_STAT.ENTERING d) = false ∧
    (s.entered d).get (F.PWR_SLEEP_CNT.ENTRIES d) = (s.get (F.PWR_SLEEP_CNT.ENTRIES d) + 1) % 2 ^ 32 ∧ ((s.entered d).dm d).sleepStart = s.raw ∧
    ((s.entered d).dm d).wakePending = (s.dm d).wakePending := by
  let a := s.set (F.PWR_DOM_STAT.ENTERING d) 0
  have hdm : (s.entered d).dm d = { s.dm d with sleepStart := s.raw } := State.dm_updDom (s := a.bump (F.PWR_SLEEP_CNT.ENTRIES d)) _ (hp ▸ hd)
  refine ⟨?_, ?_, by rw [hdm], by rw [hdm]⟩
  · exact (State.bit_set_ne a _ (by apply Fld.key_ne; omega)).trans (State.bit_set s 0 rfl)
  · refine (State.get_bump_self a _ 1).trans ?_
    rw [State.get_set_ne s 0 (by apply Fld.key_ne; omega)]
    rfl

end

section
variable {s : State} {d : Nat}

theorem State.endEntry_one (ht : (s.dm d).target = 1) (hw : (s.dm d).wakePending = none) : s.endEntry d = (s.entered d).showDom d 1 := by
  unfold State.endEntry
  rw [ht, hw]
  dsimp only
  rw [if_neg (show ¬ (1 = 3) by decide), if_neg (show ¬ (1 = 2) by decide), if_neg (show ¬ (d = 1 ∧ 2 ≤ 1) by omega)]
  rfl

/-- The state in which an entry into S2 has lost the replicas. -/
def State.enteredTwo (s : State) (d : Nat) : State :=
  let b := (domRoutes d).foldl State.loseReplica (s.entered d)
  if d = 1 ∧ 2 ≤ 2 then ((b.updPmu (fun p => { p with ring := [] })).sets [(F.PMU_SR_PROD.PROD, 0), (F.PMU_SR_CONS.CONS, 0)]).resetMaster 6 false else b

theorem State.endEntry_two (ht : (s.dm d).target = 2) (hw : (s.dm d).wakePending = none) : s.endEntry d = (s.enteredTwo d).showDom d 2 := by
  unfold State.endEntry
  rw [ht, hw]
  rfl

theorem State.enteredTwo_shows (hd : d < 13) (hp : s.pwr.length = 13) : (s.enteredTwo d).bit (F.PWR_DOM_STAT.ENTERING d) = false ∧
    ∀ n ∈ domRoutes d, (s.enteredTwo d).bit (F.HRT_TB_ROUTE.VALID n) = false := by
  obtain ⟨-, hget, hshow⟩ := (s.entered d).loseReplicas_show (domRoutes d)
  let b := (domRoutes d).foldl State.loseReplica (s.entered d)
  have hkept : KeptBelow 0x12000000 b (s.enteredTwo d) := by
    refine .ite (.resetMaster (le_refl _) ?_ (by decide)) (.refl _ b)
    exact .set (.set (.of_eq (.refl _ b) rfl rfl) (by decide)) (by decide)
  have hent : b.bit (F.PWR_DOM_STAT.ENTERING d) = false :=
    (State.bit_eq_of_get (hget _ (by rw [key_mod_entering]; decide) (by rw [key_mod_entering]; decide))).trans
      (State.entered_shows hd hp).1
  refine ⟨(State.bit_eq_of_get (hkept.regs _ ?_)).trans hent, fun n hn => (State.bit_eq_of_get (hkept.regs _ ?_)).trans ?_⟩
  · change (0 * 0x4000000 + (0x300104 + 0x20 * d)) * 32 + 2 < 0x12000000
    omega
  · have hlt : n < 14 := List.mem_range.mp (List.mem_filter.mp hn).1
    change (0 * 0x4000000 + (0x400C00 + 0x4 * n)) * 32 + 29 < 0x12000000
    omega
  · exact bne_eq_false_iff_eq.mpr (hshow n (.inl hn))

end

/-! The end of a wake, and accesses that waited. -/

/-- No access has waited. -/
theorem State.replay_of_none {s : State} {d : Nat} (hd : d < s.pwr.length) (h : (s.dm d).stalled = []) :
    (s.replay d).regs = s.regs ∧ (s.replay d).dm d = s.dm d := by
  unfold State.replay
  split
  · exact ⟨rfl, rfl⟩
  · rw [h]
    refine ⟨rfl, (State.dm_updDom _ _ hd).trans ?_⟩
    rw [← h]

/-- A level that is not held is not applied. -/
theorem State.applyHeld_of_none {s : State} {d : Nat} (h : (s.dm d).heldPlvl = none) : s.applyHeld d = s := by
  unfold State.applyHeld
  rw [h]

/-- What the end of the stall makes of the domain's own state. -/
def DomSt.woken (x : DomSt) (d st : Nat) : DomSt := { x with wakeStart := none, checking := if st = 2 then retBanks d else [] }

theorem State.endStall_shows {s : State} {d : Nat} (hd : d < 13) (hp : s.pwr.length = 13) (hheld : (s.dm d).heldPlvl = none)
    (hreq : s.get (F.PWR_DOM_CTRL.REQ d) = 0) : (s.endStall d).get (F.PWR_DOM_STAT.STATE d) = 0 ∧
    (s.endStall d).pwr.length = 13 ∧ (s.endStall d).dm d = (s.dm d).woken d (s.get (F.PWR_DOM_STAT.STATE d)) := by
  let st := s.get (F.PWR_DOM_STAT.STATE d)
  let a := (s.showDom d 0).updDom d (fun x => { x with wakeStart := none, checking := if st = 2 then retBanks d else [] })
  let b := if st = 2 then a.set (F.PWR_DOM_STAT.CHECK d) 1 else if st = 3 then a.reloadDomain d else a
  let c := if 2 ≤ st then b.queueCal ((domRoutes d).filter (fun n => b.bit (F.HRT_TB_ROUTE.EN n))) else b
  let e := if d = 5 then c.updSys (fun y => { y with supS2 := [], wdogAt := y.wdogAt + (s.raw - (s.dm 5).sleepStart) })
    else if d = 11 then c.updSys (fun y => { y with lowPower := false }) else c
  have hshown : (s.showDom d 0).pwr = s.pwr := by rw [State.showDom_parts]
  have hdm : a.dm d = (s.dm d).woken d st := by
    refine (State.dm_updDom _ _ (by rw [hshown, hp]; exact hd)).trans ?_
    rw [State.dm, hshown]
    rfl
  have hlen : a.pwr.length = 13 := (length_modAt _ _ _).trans (by rw [hshown, hp])
  have hstate : a.get (F.PWR_DOM_STAT.STATE d) = 0 := s.get_showDom_self (by decide) hd
  have hb : b.pwr = a.pwr ∧ b.get (F.PWR_DOM_STAT.STATE d) = 0 := by
    unfold b
    split
    · exact ⟨rfl, (State.get_set_ne a 1 (by apply Fld.key_ne; omega)).trans hstate⟩
    · split
      · have hkept : KeptBelow 0x8000000 a (a.reloadDomain d) := .reloadDomain (by decide) (.refl _ a)
        refine ⟨hkept.pwr, (hkept.regs _ ?_).trans hstate⟩
        change (0 * 0x4000000 + (0x300104 + 0x20 * d)) * 32 + 0 < 0x8000000
        omega
      · exact ⟨rfl, hstate⟩
  have hc : c.pwr = a.pwr ∧ c.get (F.PWR_DOM_STAT.STATE d) = 0 := by
    unfold c
    split
    · obtain ⟨hpwr, hget⟩ := b.queueCal_keeps ((domRoutes d).filter (fun n => b.bit (F.HRT_TB_ROUTE.EN n)))
      exact ⟨hpwr.trans hb.1, (hget _ (by rw [key_mod_state]; decide)).trans hb.2⟩
    · exact hb
  have he : e.pwr = a.pwr ∧ e.get (F.PWR_DOM_STAT.STATE d) = 0 := by
    unfold e
    split
    · exact hc
    · split
      · exact hc
      · exact hc
  have hnone : (e.dm d).heldPlvl = none := by
    rw [State.dm, he.1, show a.pwr.getD d {} = _ from hdm]
    exact hheld
  let g := e.set (F.PWR_DOM_CTRL.REQ d) 0
  have heq : s.endStall d = if d = 1 then (List.range 4).foldl State.drainFifo g else if d = 5 then g.serveTargets else g := by
    have hshape : s.endStall d = (if d = 1 then (List.range 4).foldl State.drainFifo
        (if s.get (F.PWR_DOM_CTRL.REQ d) = 0 ∨ d = 5 then (e.applyHeld d).set (F.PWR_DOM_CTRL.REQ d) 0 else (e.applyHeld d).takeReq d
          (s.get (F.PWR_DOM_CTRL.REQ d)))
      else if d = 5 then (if s.get (F.PWR_DOM_CTRL.REQ d) = 0 ∨ d = 5 then (e.applyHeld d).set (F.PWR_DOM_CTRL.REQ d) 0 else (e.applyHeld d).takeReq d
          (s.get (F.PWR_DOM_CTRL.REQ d))).serveTargets
      else if s.get (F.PWR_DOM_CTRL.REQ d) = 0 ∨ d = 5 then (e.applyHeld d).set (F.PWR_DOM_CTRL.REQ d) 0 else (e.applyHeld d).takeReq d
          (s.get (F.PWR_DOM_CTRL.REQ d))) := rfl
    rw [hshape, if_pos (show s.get (F.PWR_DOM_CTRL.REQ d) = 0 ∨ d = 5 from .inl hreq), State.applyHeld_of_none hnone]
  have hkept : KeptBelow 0x8000000 g (s.endStall d) := by
    rw [heq]
    exact .ite (.foldl (.refl _ g) fun u n _ hu => hu.drainFifo (by decide)) (.ite ((KeptBelow.refl _ g).serveTargets (by decide)) (.refl _ g))
  refine ⟨(hkept.regs _ ?_).trans ((State.get_set_ne e 0 (by apply Fld.key_ne; omega)).trans he.2), ?_, ?_⟩
  · change (0 * 0x4000000 + (0x300104 + 0x20 * d)) * 32 + 0 < 0x8000000
    omega
  · rw [hkept.pwr]
    exact (congrArg List.length he.1).trans hlen
  · rw [State.dm, hkept.pwr, show g.pwr = a.pwr from he.1]
    exact hdm

/-! The checks of what was retained. -/

section
variable {s : State} {d bank : Nat}

theorem State.checkDone_of (hd : d < 13) (hin : bank ∈ (s.dm d).checking) (ok : Bool) :
    exec (.retentionCheckDone d bank ok) s = .next ((s.endCheck d bank ok).replay d) := by
  change onUnit (decide (d < 13)) _ = _
  rw [decide_eq_true hd, onUnit_true]
  exact next_when (List.contains_iff_mem.mpr hin) _

end

/-- The state in which a bank's check has ended well. -/
def State.checked (s : State) (d bank : Nat) : State :=
  let rest := (s.dm d).checking.filter (· != bank)
  (s.updDom d (fun x => { x with checking := rest })).setBit (F.PWR_DOM_STAT.CHECK d) (!rest.isEmpty)

section
variable {s : State} {d bank : Nat} (hd : d < 13) (hp : s.pwr.length = 13)
include hd hp

theorem State.checked_shows : (s.checked d bank).dm d = { s.dm d with checking := (s.dm d).checking.filter (· != bank) } ∧
    (s.checked d bank).bit (F.PWR_DOM_STAT.CHECK d) = !(s.dm d).checking.all (· == bank) ∧ RegsBut [F.PWR_DOM_STAT.CHECK d] s (s.checked d bank) := by
  refine ⟨State.dm_updDom _ _ (hp ▸ hd), ?_, .setBit (.of_regs (.refl _ s) rfl) (by simp)⟩
  have hempty : ((s.dm d).checking.filter (· != bank)).isEmpty = (s.dm d).checking.all (· == bank) := by
    rw [Bool.eq_iff_iff, List.isEmpty_iff, List.filter_eq_nil_iff, List.all_eq_true]
    simp
  refine (State.bit_set _ _ rfl).trans ?_
  rw [hempty]
  cases (s.dm d).checking.all (· == bank) <;> rfl

end

/-! The change of a level. -/

theorem State.endLevel_eq {s : State} {d : Nat} (hheld : (s.dm d).heldPlvl = none) :
    s.endLevel d = s.sets [(F.PWR_DOM_STAT.PLCHG d, 0), (F.PWR_DOM_STAT.PLVL d, (s.dm d).toLevel), (F.PKE_QSTAT.PLEVEL (d - 1), (s.dm d).toLevel)] := by
  unfold State.endLevel
  extract_lets l a
  split
  · rfl
  · exact State.applyHeld_of_none hheld

/-! The clauses of the obligation, one by one. -/

theorem State.sleepEntryComplete_one {s : State} {d : Nat} (hd : d < 13) (hp : s.pwr.length = 13) (hent : s.bit (F.PWR_DOM_STAT.ENTERING d) = true)
    (hw : (s.dm d).wakePending = none) (ht : (s.dm d).target = 1) :
    ∃ t, exec (.sleepEntryComplete d) s = .next t ∧ t.bit (F.PWR_DOM_STAT.ENTERING d) = false ∧ t.get (F.PWR_DOM_STAT.STATE d) = 1 ∧
      t.get (F.PWR_SLEEP_CNT.ENTRIES d) = (s.get (F.PWR_SLEEP_CNT.ENTRIES d) + 1) % 2 ^ 32 ∧ (t.dm d).sleepStart = s.raw ∧ t.tb = s.tb := by
  have hexec := State.sleepEntry_of hd hent
  rw [State.endEntry_one ht hw] at hexec
  obtain ⟨hbit, hcount, hsince, -⟩ := State.entered_shows hd hp
  have hparts := (s.entered d).showDom_parts d 1
  refine ⟨_, hexec, ?_, (s.entered d).get_showDom_self (by decide) hd, ?_, ?_, ?_⟩
  · exact (State.bit_eq_of_get ((s.entered d).get_showDom_ne (by omega) (by decide) (by omega) (by omega))).trans hbit
  · exact ((s.entered d).get_showDom_ne (by omega) (by decide) (by omega) (by omega)).trans hcount
  · rw [State.dm, hparts]
    exact hsince
  · rw [hparts]
    rfl

theorem State.sleepEntryComplete_two {s : State} {d : Nat} (hd : d < 13) (hp : s.pwr.length = 13) (hent : s.bit (F.PWR_DOM_STAT.ENTERING d) = true)
    (hw : (s.dm d).wakePending = none) (ht : (s.dm d).target = 2) :
    ∃ t, exec (.sleepEntryComplete d) s = .next t ∧ t.bit (F.PWR_DOM_STAT.ENTERING d) = false ∧ t.get (F.PWR_DOM_STAT.STATE d) = 2 ∧
      ∀ n ∈ domRoutes d, t.bit (F.HRT_TB_ROUTE.VALID n) = false := by
  have hexec := State.sleepEntry_of hd hent
  rw [State.endEntry_two ht hw] at hexec
  obtain ⟨hbit, hvalid⟩ := State.enteredTwo_shows hd hp
  refine ⟨_, hexec, ?_, (s.enteredTwo d).get_showDom_self (by decide) hd, fun n hn => ?_⟩
  · exact (State.bit_eq_of_get ((s.enteredTwo d).get_showDom_ne (by omega) (by decide) (by omega) (by omega))).trans hbit
  · have hlt : n < 14 := List.mem_range.mp (List.mem_filter.mp hn).1
    exact (State.bit_eq_of_get ((s.enteredTwo d).get_showDom_ne (by omega) (by decide) (by omega) (by omega))).trans (hvalid n hn)

theorem State.domainWake_recorded {s : State} {d src master : Nat} (h1 : 1 ≤ d) (hd : d < 13) (hs1 : 1 ≤ src) (hs7 : src ≤ 7) (hm : master < 12)
    (hp : s.pwr.length = 13) (hent : s.bit (F.PWR_DOM_STAT.ENTERING d) = false) (hasleep : s.asleep d = true) (hstart : (s.dm d).wakeStart = none) :
    ∃ t, exec (.domainWake d src master) s = .next t ∧ (t.dm d).wakeStart = some s.raw ∧ t.get (F.PWR_WAKE.WSRC d) = src ∧
      t.get (F.PWR_WAKE.WREQ d) = (if src = 2 ∨ src = 3 then master else 15) ∧ t.bit (F.PWR_WAKE.DURING d) = false ∧
      t.get (F.PWR_WAKET.TICK d) = s.raw % 2 ^ 64 ∧ t.get (F.PWR_DOM_CTRL.REQ d) = 0 ∧
      t.get (F.PWR_SLEEP_ACC.TICKS d) = (s.get (F.PWR_SLEEP_ACC.TICKS d) + (s.raw - (s.dm d).sleepStart)) % 2 ^ 64 := by
  let m := if src = 2 ∨ src = 3 then master else 0xF
  have hm' : m < 16 := by unfold m; split <;> omega
  have hexec : exec (.domainWake d src master) s = .next (s.beginWake d src m 0) := by
    change onUnit (decide (1 ≤ d) && decide (d < 13) && decide (1 ≤ src) && decide (src ≤ 7) && decide (master < 12)) _ = _
    rw [decide_eq_true h1, decide_eq_true hd, decide_eq_true hs1, decide_eq_true hs7, decide_eq_true hm]
    rfl
  have hshown := s.beginWake_shows (d := d) (src := src) (master := m) (req := 0) (hp ▸ hd) (by omega) hm' (by decide) hent hasleep hstart
  exact ⟨_, hexec, hshown.start, hshown.src, hshown.master, hshown.during, hshown.tick, hshown.req, hshown.acc⟩

theorem State.wakeStallEnd_shows {s : State} {d t0 : Nat} (hd : d < 13) (hp : s.pwr.length = 13) (hstart : (s.dm d).wakeStart = some t0)
    (hheld : (s.dm d).heldPlvl = none) (hstall : (s.dm d).stalled = []) (hreq : s.get (F.PWR_DOM_CTRL.REQ d) = 0) :
    ∃ t, exec (.wakeStallEnd d) s = .next t ∧ t.get (F.PWR_DOM_STAT.STATE d) = 0 ∧ (t.dm d).wakeStart = none ∧
      (t.dm d).checking = (if s.get (F.PWR_DOM_STAT.STATE d) = 2 then retBanks d else []) := by
  have hexec : exec (.wakeStallEnd d) s = .next ((s.endStall d).replay d) := by
    change onUnit (decide (d < 13)) _ = _
    rw [decide_eq_true hd, onUnit_true]
    exact next_when (by rw [hstart]; rfl) _
  obtain ⟨hstate, hlen, hdm⟩ := State.endStall_shows hd hp hheld hreq
  obtain ⟨hregs, hdm'⟩ := State.replay_of_none (s := s.endStall d) (hlen ▸ hd) (by rw [hdm]; exact hstall)
  refine ⟨_, hexec, (State.get_congr hregs _).trans hstate, ?_, ?_⟩
  · rw [hdm', hdm]
    rfl
  · rw [hdm', hdm]
    rfl

theorem State.retentionCheckDone_passes {s : State} {d bank : Nat} (hd : d < 13) (h5 : d ≠ 5) (hp : s.pwr.length = 13) (hin : bank ∈ (s.dm d).checking)
    (hstall : (s.dm d).stalled = []) :
    ∃ t, exec (.retentionCheckDone d bank true) s = .next t ∧ (t.dm d).checking = (s.dm d).checking.filter (· != bank) ∧
      t.bit (F.PWR_DOM_STAT.CHECK d) = !(s.dm d).checking.all (· == bank) ∧ RegsBut [F.PWR_DOM_STAT.CHECK d] s t := by
  have hexec := State.checkDone_of hd hin true
  have hend : s.endCheck d bank true = s.checked d bank := by
    unfold State.endCheck
    rw [if_neg h5]
    rfl
  obtain ⟨hdm, hbit, hbut⟩ := State.checked_shows (bank := bank) hd hp
  obtain ⟨hregs, hdm'⟩ := State.replay_of_none (s := s.checked d bank) (d := d) (by exact (length_modAt _ _ _).symm ▸ hp ▸ hd) (by rw [hdm]; exact hstall)
  rw [hend] at hexec
  refine ⟨_, hexec, ?_, (State.bit_eq_of_get (State.get_congr hregs _)).trans hbit, hbut.of_regs hregs⟩
  rw [hdm', hdm]

/-- A bank of a quarter that fails its check sets RETFAIL and stops its engine. -/
theorem State.retentionCheckDone_fails {s : State} {d bank : Nat} (h1 : 1 ≤ d) (h4 : d ≤ 4) (hb : bank < 4) (hp : s.pwr.length = 13)
    (hin : bank ∈ (s.dm d).checking) (hstall : (s.dm d).stalled = []) :
    ∃ t, exec (.retentionCheckDone d bank false) s = .next t ∧ (t.get (F.PWR_DOM_STAT.RETFAIL d)).testBit bank = true ∧
      t.bit (F.PKE_ENG.RUN (4 * (d - 1) + bank)) = false := by
  have hd : d < 13 := by omega
  have hexec := State.checkDone_of hd hin false
  let a := (s.checked d bank).set (F.PKE_ENG.RUN (4 * (d - 1) + bank)) 0
  let b := a.flagBit (F.PWR_DOM_STAT.RETFAIL d) bank (70 + d) d
  have hend : s.endCheck d bank false = b := by
    unfold State.endCheck State.loseBank
    rw [if_neg (show ¬ d = 5 by omega), if_neg (show ¬ bank = 7 by omega), if_neg (show ¬ d = 5 by omega), if_pos hb]
    rfl
  obtain ⟨hdm, -, -⟩ := State.checked_shows (bank := bank) hd hp
  have hpwr : b.pwr = (s.checked d bank).pwr := (State.flagBit_parts a _ _ _ _ _).pwr
  obtain ⟨hregs, -⟩ := State.replay_of_none (s := b) (d := d) (by rw [hpwr]; exact (length_modAt _ _ _).symm ▸ hp ▸ hd)
    (by rw [State.dm, hpwr, show (s.checked d bank).pwr.getD d {} = _ from hdm]; exact hstall)
  rw [hend] at hexec
  refine ⟨_, hexec, ?_, ?_⟩
  · rw [State.get_congr hregs]
    exact State.get_flagBit_testBit a _ _ (by omega) (show bank < 8 by omega) (by apply Fld.blk_ne; omega)
  · refine (State.bit_eq_of_get ((State.get_congr hregs _).trans (State.get_flagBit_ne a _ _ _ (by omega) ?_ ?_))).trans (State.bit_set _ 0 rfl)
    · apply Fld.blk_ne; omega
    · apply Fld.key_ne; omega

theorem State.plvlWrite_starts {s : State} {req : Requester} {d level : Nat} (hr : s.Reaches req (0x300100 + 0x20 * d)) (h1 : 1 ≤ d) (h4 : d ≤ 4)
    (hl : level < 4) (hp : s.pwr.length = 13) (hchg : s.bit (F.PWR_DOM_STAT.PLCHG d) = false) (hasleep : s.asleep d = false)
    (hent : s.bit (F.PWR_DOM_STAT.ENTERING d) = false) (hne : level ≠ s.get (F.PWR_DOM_STAT.PLVL d)) :
    ∃ t, exec (.plvlWrite req d level) s = .next t ∧ t.get (F.PWR_DOM_CTRL.PLVL d) = level ∧ t.bit (F.PWR_DOM_STAT.PLCHG d) = true ∧
      (t.dm d).toLevel = level ∧ RegsBut [F.PWR_DOM_CTRL.PLVL d, F.PWR_DOM_STAT.PLCHG d, F.XBR_TSTAT.OWNER 6] s t := by
  let a := s.set (F.XBR_TSTAT.OWNER 6) req.master
  have hget : ∀ {off l w r : Nat}, off < 0x300400 → l < 32 → a.get ⟨0, off, l, w, r⟩ = s.get ⟨0, off, l, w, r⟩ := s.get_pwr_owner req.master
  let b := a.set (F.PWR_DOM_CTRL.PLVL d) level
  have hb : ∀ {l w r : Nat}, l < 32 → b.get ⟨0, 0x300104 + 0x20 * d, l, w, r⟩ = s.get ⟨0, 0x300104 + 0x20 * d, l, w, r⟩ := fun hl' =>
    (State.get_set_ne a _ (by apply Fld.key_ne; omega)).trans (hget (by omega) hl')
  have hheld : (a.bit (F.PWR_DOM_STAT.PLCHG d) || a.asleep d || a.bit (F.PWR_DOM_STAT.ENTERING d)) = false := by
    have hplchg : a.bit (F.PWR_DOM_STAT.PLCHG d) = false := (State.bit_eq_of_get (hget (by omega) (by decide))).trans hchg
    have hentering : a.bit (F.PWR_DOM_STAT.ENTERING d) = false := (State.bit_eq_of_get (hget (by omega) (by decide))).trans hent
    have hawake : a.asleep d = false := (congrArg (· != 0) (hget (l := 0) (w := 2) (r := 0) (by omega) (by decide))).trans hasleep
    rw [hplchg, hawake, hentering]
    rfl
  let c := b.set (F.PWR_DOM_STAT.PLCHG d) 1
  have hexec : exec (.plvlWrite req d level) s = .next (c.updDom d (fun x => { x with toLevel := level })) := by
    change onUnit (decide (d < 13)) _ = _
    rw [decide_eq_true (by omega), onUnit_true, State.atFabric_of_reaches hr, if_pos ⟨h1, h4⟩, Nat.mod_eq_of_lt hl]
    change Host.Outcome.next (a.writePlvl d level) = _
    unfold State.writePlvl
    rw [if_neg (by rw [hheld]; decide)]
    change Host.Outcome.next (b.startLevel d level) = _
    unfold State.startLevel
    rw [if_neg (fun h => hne (h.trans (hb (l := 4) (w := 2) (r := 0) (by decide))))]
  refine ⟨_, hexec, ?_, State.bit_set b 1 rfl, congrArg DomSt.toLevel (State.dm_updDom (s := c) _ (by exact hp ▸ (by omega))), ?_⟩
  · exact (State.get_set_ne b 1 (by apply Fld.key_ne; omega)).trans (State.get_set_of_lt a hl)
  · exact .of_regs (.set (.set (.set (.refl _ s) (by simp)) (by simp)) (by simp)) rfl

theorem State.plvlChangeDone_shows {s : State} {d : Nat} (h1 : 1 ≤ d) (h4 : d ≤ 4) (hchg : s.bit (F.PWR_DOM_STAT.PLCHG d) = true)
    (hheld : (s.dm d).heldPlvl = none) (hl : (s.dm d).toLevel < 4) :
    ∃ t, exec (.plvlChangeDone d) s = .next t ∧ t.get (F.PWR_DOM_STAT.PLVL d) = (s.dm d).toLevel ∧ t.bit (F.PWR_DOM_STAT.PLCHG d) = false ∧
      t.get (F.PKE_QSTAT.PLEVEL (d - 1)) = (s.dm d).toLevel ∧
      RegsBut [F.PWR_DOM_STAT.PLVL d, F.PWR_DOM_STAT.PLCHG d, F.PKE_QSTAT.PLEVEL (d - 1)] s t := by
  have hexec : exec (.plvlChangeDone d) s = .next (s.endLevel d) := by
    change onUnit (decide (1 ≤ d) && decide (d ≤ 4)) _ = _
    rw [decide_eq_true h1, decide_eq_true h4]
    exact next_when hchg _
  rw [State.endLevel_eq hheld] at hexec
  refine ⟨_, hexec, ?_, ?_, ?_, .sets (.refl _ s) (by simp)⟩
  · exact (State.get_sets_at s [_] [_] (by apply Fld.key_ne; omega)).trans (Nat.mod_eq_of_lt hl)
  · exact bne_eq_false_iff_eq.mpr (State.get_sets_at s [] [_, _] (by (repeat' apply And.intro) <;> (apply Fld.key_ne; omega)))
  · exact (State.get_sets_at s [_, _] [] trivial).trans (Nat.mod_eq_of_lt hl)

/-- Settles O52: each end of an entry, a wake, a check or a change shows what it names and leaves the power controller's other fields. -/
theorem entryWakeAndLevels : Obligations.EntryWakeAndLevels := by
  unfold Obligations.EntryWakeAndLevels
  refine ⟨fun s d hd hp hent hw => ⟨fun ht => ?_, fun ht => ?_⟩, fun s d src master h1 hd hs1 hs7 hm hp hent hasleep hstart => ?_,
    fun s d t0 hd hp hstart hheld hstall hreq => ?_, fun s d bank hd h5 hp hin hstall => ?_, fun s d bank h1 h4 hb hp hin hstall => ?_,
    fun s req d level hr h1 h4 hl hp hchg hasleep hent hne => ?_, fun s d h1 h4 hp hchg hheld hl => ?_⟩
  · exact State.sleepEntryComplete_one hd hp hent hw ht
  · exact State.sleepEntryComplete_two hd hp hent hw ht
  · exact State.domainWake_recorded h1 hd hs1 hs7 hm hp hent hasleep hstart
  · exact State.wakeStallEnd_shows hd hp hstart hheld hstall hreq
  · exact State.retentionCheckDone_passes hd h5 hp hin hstall
  · exact State.retentionCheckDone_fails h1 h4 hb hp hin hstall
  · exact State.plvlWrite_starts hr h1 h4 hl hp hchg hasleep hent hne
  · exact State.plvlChangeDone_shows h1 h4 hchg hheld hl

end Sys2Proof.Machine

/-! PROOF. A record that the unit expects: its bytes pass their checks, and it is applied in SEQ order (R458 to R461). -/

namespace Sys2Proof.Machine

/-! The checksum of a record. -/

theorem crc32Bit_lt {c : Nat} (h : c < 2 ^ 32) : crc32Bit c < 2 ^ 32 := by
  unfold crc32Bit
  split
  · omega
  · exact Nat.xor_lt_two_pow (by omega) (by omega)

theorem repeat_crc32Bit_lt (k : Nat) {c : Nat} (h : c < 2 ^ 32) : Nat.repeat crc32Bit k c < 2 ^ 32 := by
  induction k with
  | zero => exact h
  | succ k ih => exact crc32Bit_lt ih

theorem crc32c_lt (l : List Byte) : crc32c l < 2 ^ 32 := by
  have step (c : Nat) (hc : c < 2 ^ 32) : l.foldl (fun c b => Nat.repeat crc32Bit 8 (c ^^^ b.toNat)) c < 2 ^ 32 := by
    induction l generalizing c with
    | nil => exact hc
    | cons b l ih =>
      have hbyte : b.toNat < 2 ^ 32 := by have := b.isLt; omega
      rw [List.foldl_cons]
      exact ih _ (repeat_crc32Bit_lt 8 (Nat.xor_lt_two_pow hc hbyte))
  exact Nat.xor_lt_two_pow (step 0xFFFFFFFF (by omega)) (by omega)

/-! The bytes of a record. -/

/-- The sixteen bytes before a record's payload. -/
def recordHead (seq type flags tick len : Nat) : List Byte :=
  leBytes 4 seq ++ (leBytes 1 type ++ (leBytes 1 len ++ (leBytes 1 flags ++ ([0] ++ leBytes 8 tick))))

section
variable (seq type flags tick : Nat) (b : List Byte)

theorem recordHead_length (len : Nat) : (recordHead seq type flags tick len).length = 16 := by simp [recordHead]

theorem recordBytes_eq : recordBytes seq type flags tick b =
    recordHead seq type flags tick b.length ++ b ++ leBytes 4 (crc32c (recordHead seq type flags tick b.length ++ b)) := by
  simp only [recordBytes, recordHead, List.append_assoc]

theorem recordBytes_length : (recordBytes seq type flags tick b).length = b.length + 20 := by
  rw [recordBytes_eq]
  simp only [List.length_append, recordHead_length, leBytes_length]
  omega

theorem recordBytes_body : (recordBytes seq type flags tick b).take (16 + b.length) = recordHead seq type flags tick b.length ++ b := by
  rw [recordBytes_eq]
  exact List.take_left' (by rw [List.length_append, recordHead_length])

theorem recordBytes_payload : ((recordBytes seq type flags tick b).take (16 + b.length)).drop 16 = b := by
  rw [recordBytes_body]
  exact List.drop_left' (recordHead_length seq type flags tick b.length)

theorem recordBytes_crc : leAt (recordBytes seq type flags tick b) (16 + b.length) 4 =
    crc32c ((recordBytes seq type flags tick b).take (16 + b.length)) := by
  rw [recordBytes_body, recordBytes_eq, leAt_last (by rw [List.length_append, recordHead_length]) (leBytes_length 4 _),
    leNat_leBytes_of_lt (crc32c_lt _)]

variable {seq type}

theorem recordBytes_seq (hs : seq < 2 ^ 32) : leAt (recordBytes seq type flags tick b) 0 4 = seq := by
  simp only [recordBytes, List.append_assoc]
  rw [leAt_zero (leBytes_length 4 seq), leNat_leBytes_of_lt hs]

theorem recordBytes_type (ht : type < 256) : leAt (recordBytes seq type flags tick b) 4 1 = type := by
  simp only [recordBytes, List.append_assoc]
  rw [leAt_mid (leBytes_length 4 seq) (leBytes_length 1 type), leNat_leBytes_of_lt ht]

theorem recordBytes_len (hl : b.length < 256) : leAt (recordBytes seq type flags tick b) 5 1 = b.length := by
  have hassoc : recordBytes seq type flags tick b = (leBytes 4 seq ++ leBytes 1 type) ++ (leBytes 1 b.length ++ (leBytes 1 flags ++ ([0] ++
      (leBytes 8 tick ++ (b ++ leBytes 4 (crc32c (recordHead seq type flags tick b.length ++ b))))))) := by
    rw [recordBytes_eq]
    simp only [recordHead, List.append_assoc]
  rw [hassoc, leAt_mid (by simp) (leBytes_length 1 _), leNat_leBytes_of_lt hl]

end

/-! A record in order. -/

/-- The unit awaits the record after this SEQ. -/
def State.awaiting (s : State) (seq : Nat) : State := s.updPair (fun p => { p with next := some ((seq + 1) % 2 ^ 32) })

section
variable {s : State} {lane seq type tick : Nat} {b : List Byte}

/-- A well-formed record of a unit in block lock: what its SEQ decides. -/
theorem State.receive_of (h : s.Expects lane seq b) {n : Nat} (hn : n < 2 ^ 32) (ht : type < 256) : s.receive type (recordBytes n type 0 tick b) =
    let next := s.pair.next.getD n
    let ahead := (n + 2 ^ 32 - next) % 2 ^ 32
    if ahead = 0 then
      let a := (s.awaiting n).applyRecord type b
      let c := a.drainEarly a.pair.early.length
      if c.pair.early.isEmpty then c.updPair (fun p => { p with gapAt := none }) else c
    else if ahead < 2 ^ 31 then (s.updPair (fun p => { p with early := p.early.filter (fun e => e.1 != n) ++ [(n, type, b)] })).openGap
    else s := by
  obtain ⟨hpaired, hlane, hlock, -, -, -, -, hlen⟩ := h
  have hany : s.pair.any = true := by
    unfold PairSt.any
    split at hlock
    · rw [hlock]; rfl
    · rw [hlock, Bool.or_true]
  have hoff : ¬ (!s.paired || !s.pair.any) = true := by rw [hpaired, hany]; decide
  have hgood : ¬ ((recordBytes n type 0 tick b).length ≠ b.length + 20 ∨ leAt (recordBytes n type 0 tick b) 4 1 ≠ type ∨
      leAt (recordBytes n type 0 tick b) (16 + b.length) 4 ≠ crc32c ((recordBytes n type 0 tick b).take (16 + b.length))) := by
    rw [recordBytes_length, recordBytes_type 0 tick b ht, recordBytes_crc]
    simp
  unfold State.receive
  rw [if_neg hoff, recordBytes_len 0 tick b hlen]
  dsimp only
  rw [if_neg hgood, recordBytes_seq 0 tick b hn, recordBytes_payload]
  rfl

/-- A record arrives on a lane in block lock. -/
theorem State.laneRecord_of (h : s.Expects lane seq b) (bytes : List Byte) : s.laneRecord type lane bytes = .next (s.receive type
    bytes).resumeWarm := by
  obtain ⟨-, hlane, hlock, -⟩ := h
  unfold State.laneRecord
  rw [decide_eq_true hlane, onUnit_true, hlock]
  rfl

/-- The record that the unit expects is applied, and nothing waits after it. -/
theorem State.laneRecord_applies (h : s.Expects lane seq b) (ht : type < 256) {u : State} (hu : (s.awaiting seq).applyRecord type b = u)
    (hearly : u.pair.early = []) (hwarm : u.pair.warmWait = false) :
    s.laneRecord type lane (recordBytes seq type 0 tick b) = .next (u.updPair (fun p => { p with gapAt := none })) := by
  have hnext : (seq + 2 ^ 32 - s.pair.next.getD seq) % 2 ^ 32 = 0 := by
    rw [h.2.2.2.1]
    have := h.2.2.2.2.1
    omega
  have hdrain : u.drainEarly u.pair.early.length = u := by rw [hearly]; rfl
  rw [State.laneRecord_of h, State.receive_of h h.2.2.2.2.1 ht]
  dsimp only
  rw [if_pos hnext, hu, hdrain, hearly]
  exact congrArg Host.Outcome.next (State.resumeWarm_of_not_waiting hwarm)

end

end Sys2Proof.Machine

/-! PROOF. The roles of the two units: what each change of a role writes, and what it leaves of the stream between them (R455 to R475). -/

namespace Sys2Proof.Machine

/-- What no change of a role touches of the pair's state: the lanes, the twin's word of itself, the comparison and the order of the stream. -/
def PairSt.stream (p : PairSt) : PairSt :=
  { lane0 := p.lane0, lane1 := p.lane1, downAt := p.downAt, hello := p.hello, twinRole := p.twinRole, twinState := p.twinState
    twinHome := p.twinHome, twinRcp := p.twinRcp, twinCheck := p.twinCheck, conflict := p.conflict, ppiAt := p.ppiAt, mOwn := p.mOwn
    mTwin := p.mTwin, x := p.x, xPrev := p.xPrev, bound := p.bound, next := p.next, early := p.early, gapAt := p.gapAt
    warmWait := p.warmWait, peers := p.peers }

/-- The pair's state but for the payloads and numbers of the stream, the countdown and the swap. -/
def PairSt.calm (p : PairSt) : PairSt := { p.core with wtrFrom := none, swap := none }

theorem PairSt.stream_of_core {p q : PairSt} (h : p.core = q.core) : p.stream = q.stream := (congrArg PairSt.stream h :)

theorem PairSt.calm_of_core {p q : PairSt} (h : p.core = q.core) : p.calm = q.calm := (congrArg PairSt.calm h :)

theorem PairSt.stream_of_calm {p q : PairSt} (h : p.calm = q.calm) : p.stream = q.stream := (congrArg PairSt.stream h :)

/-- The fields of the pair's block but the listed ones stay, and so does the stream. -/
structure LinkSteady (fs : List Fld) (s t : State) : Prop where
  regs : LinkBut fs s t
  stream : t.pair.stream = s.pair.stream

/-- The fields that the end of a clean interval or of a scheduled swap writes. -/
def cleanFlds : List Fld := [F.PAIR_STAT.CLEAN, F.PAIR_WTR.LEFT, F.PAIR_CTRL.SWAP, F.PAIR_STAT.SWAPFAIL, F.PAIR_JERR.RETX]

/-- The fields that a change of the role writes. -/
def roleFlds : List Fld := [F.PAIR_STAT.ROLE, F.PAIR_STAT.STATE, F.PAIR_STAT.ARMED] ++ cleanFlds

theorem State.pairFlag_pair (s : State) (f : Fld) : (s.pairFlag f).pair = s.pair := (State.flag_parts s f 45 0 s.pairState).pair

section
variable {fs : List Fld} {s t u : State}

theorem LinkSteady.refl (fs : List Fld) (s : State) : LinkSteady fs s s := ⟨.refl fs s, rfl⟩

theorem LinkSteady.trans (h : LinkSteady fs s t) (k : LinkSteady fs t u) : LinkSteady fs s u := ⟨h.regs.trans k.regs, k.stream.trans h.stream⟩

theorem LinkSteady.mono {gs : List Fld} (h : LinkSteady fs s t) (hsub : ∀ f ∈ fs, f ∈ gs) : LinkSteady gs s t := ⟨h.regs.mono hsub, h.stream⟩

theorem LinkKept.steady (h : LinkKept s t) : LinkSteady fs s t := ⟨h.regs.mono nofun, PairSt.stream_of_core h.core⟩

theorem LinkSteady.kept (h : LinkSteady fs s t) (k : LinkKept t u) : LinkSteady fs s u := h.trans k.steady

theorem LinkSteady.set {f : Fld} {v : Nat} (h : LinkSteady fs s t) (hf : f ∈ fs) : LinkSteady fs s (t.set f v) := ⟨h.regs.set hf, h.stream⟩

theorem LinkSteady.sets {l : List (Fld × Nat)} (h : LinkSteady fs s t) (hl : ∀ p ∈ l, p.1 ∈ fs) : LinkSteady fs s (t.sets l) :=
  ⟨h.regs.sets hl, by rw [t.sets_regsOnly l]; exact h.stream⟩

theorem LinkSteady.pairFlag {f : Fld} (h : LinkSteady fs s t) (hf : f ∈ fs) : LinkSteady fs s (t.pairFlag f) :=
  ⟨h.regs.pairFlag hf, (congrArg PairSt.stream (t.pairFlag_pair f)).trans h.stream⟩

theorem LinkSteady.updPair {f : PairSt → PairSt} (h : LinkSteady fs s t) (hf : ∀ p, (f p).stream = p.stream) : LinkSteady fs s (t.updPair f) :=
  ⟨h.regs.updPair, (hf t.pair).trans h.stream⟩

theorem LinkSteady.ite {c : Prop} [Decidable c] (ht : LinkSteady fs s t) (hu : LinkSteady fs s u) : LinkSteady fs s (if c then t else u) := by
  split <;> assumption

theorem LinkSteady.get (h : LinkSteady fs s t) {g : Fld} (hb : g.blk = 0xF) (ht : g.key ≠ F.PAIR_JTX.TX.key) (hu : g.key ≠ F.PAIR_UPAIR.UPAIR.key)
    (hf : ∀ f ∈ fs, g.key ≠ f.key) : t.get g = s.get g := h.regs g hb ht hu hf

theorem LinkSteady.early (h : LinkSteady fs s t) : t.pair.early = s.pair.early := (congrArg PairSt.early h.stream :)

theorem LinkSteady.warmWait (h : LinkSteady fs s t) : t.pair.warmWait = s.pair.warmWait := (congrArg PairSt.warmWait h.stream :)

end

/-! Flags of the pair's block. -/

section
variable (s : State)

theorem State.pairFlag_bit {f : Fld} (hw : f.w = 1) (hb : f.blk ≠ 0x11) : (s.pairFlag f).bit f = true :=
  State.flag_get (ev := 45) s 0 s.pairState (by decide) hw hb

theorem State.get_pairFlag_ne {f g : Fld} (hg : g.blk ≠ 0x11) (hk : g.key ≠ f.key) : (s.pairFlag f).get g = s.get g :=
  State.flag_get_ne (ev := 45) s 0 s.pairState (by decide) hg hk

/-! Acknowledgements. -/

theorem State.sendAck_shows (need answer : Nat) :
    LinkBut [F.PAIR_JERR.RETX] s (s.sendAck need answer) ∧ (s.sendAck need answer).pair.core = s.pair.core := by
  have hsends (u : State) (hr : LinkBut [F.PAIR_JERR.RETX] s u) (hp : u.pair = s.pair) (b : List Byte) :
      LinkBut [F.PAIR_JERR.RETX] s (u.sendRecord 0x23 b) ∧ (u.sendRecord 0x23 b).pair.core = s.pair.core :=
    ⟨hr.kept (.sendRecord (.refl u)), (u.sendRecord_core 0x23 b).trans (congrArg PairSt.core hp)⟩
  unfold State.sendAck
  split
  · exact hsends _ (.set (.refl _ s) (List.mem_singleton_self _)) rfl _
  · exact hsends s (.refl _ s) rfl _

theorem State.ackNow_steady (answer : Nat) : LinkSteady cleanFlds s (s.ackNow answer) := by
  obtain ⟨hr, hp⟩ := s.sendAck_shows (s.pair.next.getD 0) answer
  exact ⟨hr.mono (by decide), PairSt.stream_of_core hp⟩

theorem State.askSync_steady : LinkSteady cleanFlds s s.askSync ∧ s.askSync.pair.core = { s.pair.core with phase := 1 } := by
  obtain ⟨hr, hp⟩ := (s.updPair (fun p => { p with phase := 1 })).sendAck_shows ((s.pair.next.getD 0 + 2 ^ 31) % 2 ^ 32) 0
  have hr' := hr.mono (gs := cleanFlds) (by decide)
  exact ⟨⟨hr', (PairSt.stream_of_core hp).trans rfl⟩, hp⟩

/-! A swap that falls, and the end of a clean interval. -/

theorem State.cancelSwap_pair : s.cancelSwap.pair = { s.pair with swap := none } := by
  unfold State.cancelSwap
  split
  · rw [State.pairFlag_pair]
    rfl
  · next h =>
    rw [Option.not_isSome_iff_eq_none] at h
    have hp : { s.pair with swap := s.pair.swap } = s.pair := rfl
    rw [← h, hp]

theorem State.cancelSwap_regs : LinkBut [F.PAIR_CTRL.SWAP, F.PAIR_STAT.SWAPFAIL] s s.cancelSwap :=
  .ite (.pairFlag (.set (.updPair (.refl _ s)) (by decide)) (by decide)) (.refl _ s)

theorem State.cancelSwap_steady : LinkSteady cleanFlds s s.cancelSwap :=
  ⟨s.cancelSwap_regs.mono (by decide), by rw [State.cancelSwap_pair]; rfl⟩

theorem State.cancelSwap_of_none (h : s.pair.swap = none) : s.cancelSwap = s := by
  unfold State.cancelSwap
  rw [h]
  rfl

/-- The end of a clean interval without a swap scheduled. -/
def State.cleanEnded (s : State) : State := ((s.set F.PAIR_STAT.CLEAN 0).set F.PAIR_WTR.LEFT 0).updPair (fun p => { p with wtrFrom := none })

theorem State.cleanEnded_regs : LinkBut [F.PAIR_STAT.CLEAN, F.PAIR_WTR.LEFT] s s.cleanEnded :=
  .updPair (.set (.set (.refl _ s) (by decide)) (by decide))

theorem State.endClean_of_none (h : s.pair.swap = none) : s.endClean = s.cleanEnded := by
  unfold State.endClean
  rw [h]
  rfl

theorem State.endClean_shows : LinkBut cleanFlds s s.endClean ∧ s.endClean.pair.calm = s.pair.calm := by
  have ha : LinkBut cleanFlds s s.cleanEnded := s.cleanEnded_regs.mono (by decide)
  have hfalls : LinkBut cleanFlds s (s.cleanEnded.cancelSwap.ackNow 2) ∧ (s.cleanEnded.cancelSwap.ackNow 2).pair.calm = s.pair.calm := by
    obtain ⟨hr, hp⟩ := s.cleanEnded.cancelSwap.sendAck_shows (s.cleanEnded.cancelSwap.pair.next.getD 0) 2
    refine ⟨(ha.trans s.cleanEnded.cancelSwap_steady.regs).trans (hr.mono (by decide)), ?_⟩
    have hc : s.cleanEnded.cancelSwap.pair.calm = s.pair.calm := by rw [State.cancelSwap_pair]; rfl
    exact (PairSt.calm_of_core hp).trans hc
  unfold State.endClean
  extract_lets a
  split
  · split
    · exact hfalls
    · exact ⟨ha, rfl⟩
  · exact ⟨ha, rfl⟩

theorem State.endClean_steady : LinkSteady cleanFlds s s.endClean := ⟨s.endClean_shows.1, PairSt.stream_of_calm s.endClean_shows.2⟩

theorem State.reviewClean_shows : LinkBut cleanFlds s s.reviewClean ∧ s.reviewClean.pair.calm = s.pair.calm := by
  unfold State.reviewClean
  extract_lets a
  have ha : LinkBut cleanFlds s a ∧ a.pair.calm = s.pair.calm := by
    unfold a
    split
    · exact ⟨.refl _ s, rfl⟩
    · exact ⟨.updPair (.set (.refl _ s) (by decide)), rfl⟩
  split
  · split
    · exact s.endClean_shows
    · exact ⟨.refl _ s, rfl⟩
  · exact ⟨ha.1.set (by decide), ha.2⟩

theorem State.reviewClean_steady : LinkSteady cleanFlds s s.reviewClean := ⟨s.reviewClean_shows.1, PairSt.stream_of_calm s.reviewClean_shows.2⟩

/-- A unit that is not CLEAN, and for which its conditions do not hold, stays so. -/
theorem State.reviewClean_of_unclean (hn : s.cleanNow = false) (hc : s.bit F.PAIR_STAT.CLEAN = false) : s.reviewClean = s := by
  unfold State.reviewClean
  rw [hn, hc]
  rfl

/-! Roles. -/

/-- No exchange is open and no swap is scheduled. -/
def PairSt.Settled (p : PairSt) : Prop := p.exch = none ∧ p.swap = none

theorem PairSt.settled_of_core {p q : PairSt} (h : p.core = q.core) (hq : q.Settled) : p.Settled :=
  ⟨(congrArg PairSt.exch h :).trans hq.1, (congrArg PairSt.swap h :).trans hq.2⟩

/-- The unit has a role and a state, no exchange is open and no swap scheduled, and the stream has stayed. -/
structure State.InRole (s t : State) (role state : Nat) : Prop where
  steady : LinkSteady roleFlds s t
  role : t.role = role
  pairState : t.pairState = state

section
variable {s : State} {role state : Nat} {t u : State}

theorem State.InRole.kept (h : s.InRole t role state) (k : LinkKept t u) : s.InRole u role state :=
  ⟨h.steady.kept k, (k.get (by decide) (by decide) (by decide)).trans h.role, (k.get (by decide) (by decide) (by decide)).trans h.pairState⟩

theorem State.InRole.step (h : s.InRole t role state) (k : LinkSteady cleanFlds t u) : s.InRole u role state :=
  ⟨h.steady.trans (k.mono fun _ => List.mem_append_right _), (k.get (by decide) (by decide) (by decide) (by decide)).trans h.role,
    (k.get (by decide) (by decide) (by decide) (by decide)).trans h.pairState⟩

/-- The role and the state of a unit whose stream has stayed are written. -/
theorem State.InRole.write (h : LinkSteady roleFlds s t) (hr : role < 4) (hs : state < 8) :
    s.InRole (t.sets [(F.PAIR_STAT.ROLE, role), (F.PAIR_STAT.STATE, state)]) role state := by
  have hrole : ((t.set F.PAIR_STAT.ROLE role).set F.PAIR_STAT.STATE state).get F.PAIR_STAT.ROLE = role := by
    rw [State.get_set_ne _ _ (by decide), State.get_set_self]
    exact Nat.mod_eq_of_lt hr
  exact ⟨.set (.set h (List.mem_cons_self ..)) (List.mem_cons_of_mem _ (List.mem_cons_self ..)), hrole,
    (State.get_set_self _ _ _).trans (Nat.mod_eq_of_lt hs)⟩

theorem State.InRole.unarmed (h : s.InRole t role state) : s.InRole (t.set F.PAIR_STAT.ARMED 0) role state :=
  ⟨h.steady.set (by decide), (State.get_set_ne t 0 (by decide)).trans h.role, (State.get_set_ne t 0 (by decide)).trans h.pairState⟩

theorem State.InRole.updPair {f : PairSt → PairSt} (h : s.InRole t role state) (hf : ∀ p, (f p).stream = p.stream) : s.InRole (t.updPair f)
    role state :=
  ⟨h.steady.updPair hf, h.role, h.pairState⟩

end

theorem State.cancelSwap_roles : LinkSteady roleFlds s s.cancelSwap := s.cancelSwap_steady.mono (by decide)

theorem State.cleanEnded_steady : LinkSteady cleanFlds s s.cleanEnded := ⟨s.cleanEnded_regs.mono (by decide), rfl⟩

/-- The pair's state as JOIN starts: no exchange, no result and no key waits. -/
def PairSt.forJoin (p : PairSt) : PairSt := { p with phase := 0, exch := none, results := [], used := [], retry := false, keys := [] }

/-- The pair's state as the unit takes control: no exchange, no result and no payload of the twin's waits. -/
def PairSt.forTakeover (p : PairSt) : PairSt := { p with
    exch := none, results := [], used := [], retry := false, select := [], leap := [], param := [] }

/-- No random wait runs. -/
def PairSt.unwaiting (p : PairSt) : PairSt := { p with waitFrom := none }

/-- A unit without a scheduled swap has a role, a state and its pair's state written, and its clean interval ends. -/
def State.entering (s : State) (f : PairSt → PairSt) (role state : Nat) : State :=
  (((s.cancelSwap.updPair f).sets [(F.PAIR_STAT.ROLE, role), (F.PAIR_STAT.STATE, state)]).set F.PAIR_STAT.ARMED 0).cleanEnded

section
variable {f : PairSt → PairSt} {role state : Nat}

theorem State.entering_inRole (hf : ∀ p, (f p).stream = p.stream) (hr : role < 4) (hs : state < 8) : s.InRole (s.entering f role state) role state :=
  .step (.unarmed (.write (.updPair s.cancelSwap_roles hf) hr hs)) (State.cleanEnded_steady _)

theorem State.entering_unarmed : (s.entering f role state).get F.PAIR_STAT.ARMED = 0 :=
  ((State.cleanEnded_steady _).get (by decide) (by decide) (by decide) (by decide)).trans (State.get_set_self _ _ _)

theorem State.entering_pair : (s.entering f role state).pair = { f { s.pair with swap := none } with wtrFrom := none } := by
  have hp : (s.entering f role state).pair = { f s.cancelSwap.pair with wtrFrom := none } := rfl
  rw [hp, State.cancelSwap_pair]

/-- Where the new role's pair has no swap, the end of its clean interval is plain. -/
theorem State.entering_of (hf : (f { s.pair with swap := none }).swap = none) :
    (((s.cancelSwap.updPair f).sets [(F.PAIR_STAT.ROLE, role), (F.PAIR_STAT.STATE, state), (F.PAIR_STAT.ARMED,
      0)])).endClean = s.entering f role state := by
  refine State.endClean_of_none _ ?_
  have hp : (f s.cancelSwap.pair).swap = none := by rw [State.cancelSwap_pair, hf]
  exact hp

end

theorem State.joinPair_of_entering : LinkKept (s.entering PairSt.forJoin 2 4) s.joinPair := by
  have heq : s.joinPair = (s.entering PairSt.forJoin 2 4).evalSelection.roleChanged := by
    rw [← s.entering_of rfl]
    rfl
  rw [heq]
  exact .roleChanged (.evalSelection (.refl _))

theorem State.joinPair_inRole : s.InRole s.joinPair 2 4 :=
  (s.entering_inRole (f := PairSt.forJoin) (fun _ => rfl) (by decide) (by decide)).kept s.joinPair_of_entering

theorem State.joinPair_unarmed : s.joinPair.bit F.PAIR_STAT.ARMED = false :=
  bne_eq_false_iff_eq.mpr ((s.joinPair_of_entering.get (by decide) (by decide) (by decide)).trans s.entering_unarmed)

theorem State.joinPair_settled : s.joinPair.pair.Settled := by
  refine PairSt.settled_of_core s.joinPair_of_entering.core ?_
  rw [State.entering_pair]
  exact ⟨rfl, rfl⟩

/-- A flag of the pair leaves a role and its state. -/
theorem State.InRole.pairFlag {t : State} {role state : Nat} {f : Fld} (h : s.InRole t role state) (hf : f ∈ [F.PAIR_STAT.YIELD,
    F.PAIR_STAT.TAKEOVER]) :
    (t.pairFlag f).role = role ∧ (t.pairFlag f).pairState = state := by
  have hrole : ∀ g ∈ [F.PAIR_STAT.YIELD, F.PAIR_STAT.TAKEOVER], F.PAIR_STAT.ROLE.key ≠ g.key ∧ F.PAIR_STAT.STATE.key ≠ g.key := by decide
  obtain ⟨hr, hs⟩ := hrole f hf
  exact ⟨(t.get_pairFlag_ne (by decide) hr).trans h.role, (t.get_pairFlag_ne (by decide) hs).trans h.pairState⟩

/-- The active that yields is the standby in JOIN. -/
theorem State.yieldPair_shows : s.yieldPair.role = 2 ∧ s.yieldPair.pairState = 4 ∧ s.yieldPair.bit F.PAIR_STAT.YIELD = true ∧
    s.yieldPair.pair.Settled ∧ s.yieldPair.pair.stream = s.pair.stream := by
  have hk : LinkKept s.joinPair s.joinPair.announceNow := .announceNow (.refl _)
  have hi := s.joinPair_inRole.kept hk
  have hp : s.yieldPair.pair = s.joinPair.announceNow.pair := State.pairFlag_pair _ _
  obtain ⟨hr, hs⟩ := State.InRole.pairFlag s hi (f := F.PAIR_STAT.YIELD) (by decide)
  refine ⟨hr, hs, State.pairFlag_bit _ (by decide) (by decide), ?_, ?_⟩
  · rw [hp]
    exact PairSt.settled_of_core hk.core s.joinPair_settled
  · rw [hp]
    exact hi.steady.stream

/-- The standby that takes over is the active in SOLO. -/
theorem State.takeover_shows : s.takeover.role = 1 ∧ s.takeover.pairState = 2 ∧ s.takeover.bit F.PAIR_STAT.TAKEOVER = true ∧
    s.takeover.pair.Settled ∧ s.takeover.pair.stream = s.pair.stream := by
  obtain ⟨u, hk, hu⟩ : ∃ u, LinkKept (s.entering PairSt.forTakeover 1 2) u ∧ s.takeover = u.pairFlag F.PAIR_STAT.TAKEOVER := by
    refine ⟨(((s.entering PairSt.forTakeover 1 2).ownSelection (s.errbAt s.raw)).sendRecord 0x24 (bytesOf [1, 0, 0, 0, 0, 0, 0,
      0])).roleChanged.announceNow,
      .announceNow (.roleChanged (.sendRecord (.ownSelection (.refl _)))), ?_⟩
    rw [← s.entering_of rfl]
    rfl
  have hi := (s.entering_inRole (f := PairSt.forTakeover) (fun _ => rfl) (by decide : 1 < 4) (by decide : 2 < 8)).kept hk
  have hp : s.takeover.pair = u.pair := by rw [hu, State.pairFlag_pair]
  obtain ⟨hr, hs⟩ := State.InRole.pairFlag s hi (f := F.PAIR_STAT.TAKEOVER) (by decide)
  rw [hp, hu]
  refine ⟨hr, hs, State.pairFlag_bit _ (by decide) (by decide), PairSt.settled_of_core hk.core ?_, hi.steady.stream⟩
  rw [State.entering_pair]
  exact ⟨rfl, rfl⟩

theorem State.becomeActive_shows (st : Nat) (hst : st < 8) : s.InRole (s.becomeActive st) 1 st ∧ (s.becomeActive st).pair.waitFrom = none := by
  have hk : LinkKept ((s.sets [(F.PAIR_STAT.ROLE, 1), (F.PAIR_STAT.STATE, st)]).updPair PairSt.unwaiting) (s.becomeActive st) :=
    .announceNow (.roleChanged (.refl _))
  have hi := (State.InRole.write (.refl _ s) (by decide : 1 < 4) hst).updPair (f := PairSt.unwaiting) fun _ => rfl
  exact ⟨hi.kept hk, (congrArg PairSt.waitFrom hk.core :)⟩

theorem State.standbyPart_inRole : s.InRole s.standbyPart 2 3 := by
  let f (p : PairSt) : PairSt := { p with waitFrom := none, exch := none }
  have hi := (State.InRole.unarmed (.write (.refl _ s) (by decide : 2 < 4) (by decide : 3 < 8))).updPair (f := f) fun _ => rfl
  exact (hi.step (State.endClean_steady _)).kept (.roleChanged (.refl _))

end

end Sys2Proof.Machine

/-! PROOF. The lanes, SEEK's table, the takeover, the self-check and DISPUTE's exchanges (R455 to R470). -/

namespace Sys2Proof.Machine

/-- A command of the pair ends where no warm restart waits for a swap. -/
theorem State.ends_of {t : State} (h : t.pair.warmWait = false) : t.ends = .next t :=
  congrArg Host.Outcome.next (State.resumeWarm_of_not_waiting h)

/-! The twin's channel. -/

theorem State.reviewTwin_of_none {s : State} (h : s.channelOfKind 7 = none) : s.reviewTwin = s := by
  unfold State.reviewTwin
  rw [h]

theorem State.channelOfKind_congr {s t : State} (h : ∀ c < 16, t.get (F.REF_STAT.KIND c) = s.get (F.REF_STAT.KIND c)) (k : Nat) :
    t.channelOfKind k = s.channelOfKind k := by
  have hkind (c : Nat) (hc : c ∈ List.range 16) : (t.kind c == k) = (s.kind c == k) :=
    congrArg (· == k) (h c (List.mem_range.mp hc))
  exact List.find?_congr hkind

theorem RegsOutside.channelOfKind {blocks : List Nat} {s t : State} (h : RegsOutside blocks s t) (hb : 6 ∉ blocks) (k : Nat) :
    t.channelOfKind k = s.channelOfKind k := by
  refine State.channelOfKind_congr (fun c hc => h _ fun hm => hb ?_) k
  have hblk : (F.REF_STAT.KIND c).blk = 6 := Fld.blk_eq (by omega)
  rwa [← hblk]

theorem RegsOutside.pairFlag {s t : State} {f : Fld} (h : RegsOutside [0xF, 0x11] s t) (hf : f.blk = 0xF) :
    RegsOutside [0xF, 0x11] s (t.pairFlag f) := .flag h (by decide) (by decide) (by rw [hf]; decide)

theorem RegsOutside.updPair {blocks : List Nat} {s t : State} {f : PairSt → PairSt} (h : RegsOutside blocks s t) :
    RegsOutside blocks s (t.updPair f) := h.of_regs rfl

theorem State.cancelSwap_outside (s : State) : RegsOutside [0xF, 0x11] s s.cancelSwap :=
  .ite (.pairFlag (.set (.updPair (.refl _ s)) (by decide)) rfl) (.refl _ s)

/-! Lanes. -/

/-- A unit without a twin channel that is not CLEAN shows its lanes. -/
theorem State.showPairLanes_of {s : State} (ht : s.channelOfKind 7 = none) (hc : s.bit F.PAIR_STAT.CLEAN = false)
    (hn : s.role = 1 ∨ s.pair.both = false) :
    s.showPairLanes = s.setBit F.PAIR_STAT.LANE1 (s.pair.any && !s.pair.both) := by
  have hout : RegsOutside [0xF, 0x11] s (s.setBit F.PAIR_STAT.LANE1 (s.pair.any && !s.pair.both)) := .set (.refl _ s) (by decide)
  unfold State.showPairLanes
  generalize hu : s.setBit F.PAIR_STAT.LANE1 (s.pair.any && !s.pair.both) = u at hout ⊢
  have hpair : u.pair = s.pair := by rw [← hu]; rfl
  have hget {g : Fld} (hk : g.key ≠ F.PAIR_STAT.LANE1.key) : u.get g = s.get g := by rw [← hu]; exact State.get_setBit_ne s _ hk
  have hclean : u.bit F.PAIR_STAT.CLEAN = false := (congrArg (· != 0) (hget (by decide))).trans hc
  have hnot : u.cleanNow = false := by
    unfold State.cleanNow
    rcases hn with hr | hb
    · have hr' : u.role = 1 := (hget (by decide)).trans hr
      simp [hr']
    · simp [hpair, hb]
  rw [State.reviewTwin_of_none ((hout.channelOfKind (by decide) 7).trans ht), State.reviewClean_of_unclean u hnot hclean]

/-- The unit as a lane leaves block lock. -/
def State.laneFell (s : State) (p : PairSt) : State := (s.updPair fun _ => p).pairFlag F.PAIR_STAT.LINKFLT

section
variable {s : State} {p : PairSt}

theorem State.laneFell_pair : (s.laneFell p).pair = p := State.pairFlag_pair _ _

theorem State.laneFell_outside : RegsOutside [0xF, 0x11] s (s.laneFell p) := .pairFlag (.updPair (.refl _ s)) rfl

theorem State.get_laneFell {g : Fld} (hg : g.blk ≠ 0x11) (hk : g.key ≠ F.PAIR_STAT.LINKFLT.key) : (s.laneFell p).get g = s.get g :=
  State.get_pairFlag_ne (s.updPair fun _ => p) hg hk

theorem State.laneFell_flagged : (s.laneFell p).bit F.PAIR_STAT.LINKFLT = true := State.pairFlag_bit _ (by decide) (by decide)

end

/-- What the loss of the last lane ends: the twin's word of itself and the stream. -/
def State.cutOff (s : State) (now : Nat) : State := s.updPair (fun p => { p with
  downAt := now, hello := false, next := none, early := [], gapAt := none, rekey := none, seenActive := 0, seenIdle := 0 })

/-- The active unit that has lost both lanes is in PART. -/
def State.parted (s : State) : State :=
  (((s.sets [(F.PAIR_STAT.STATE, 3), (F.PAIR_STAT.ARMED, 0)]).updPair (fun p => { p with exch := none })).cancelSwap).showUPair

theorem State.parted_shows (s : State) : LinkBut [F.PAIR_STAT.STATE, F.PAIR_STAT.ARMED, F.PAIR_CTRL.SWAP, F.PAIR_STAT.SWAPFAIL] s s.parted ∧
    s.parted.pairState = 3 ∧ s.parted.bit F.PAIR_STAT.ARMED = false ∧ s.parted.pair.stream = s.pair.stream ∧ RegsOutside [0xF, 0x11] s s.parted := by
  let a := (s.sets [(F.PAIR_STAT.STATE, 3), (F.PAIR_STAT.ARMED, 0)]).updPair (fun p => { p with exch := none })
  have ha : LinkBut [F.PAIR_STAT.STATE, F.PAIR_STAT.ARMED, F.PAIR_CTRL.SWAP, F.PAIR_STAT.SWAPFAIL] s a :=
    .updPair (.set (.set (.refl _ s) (by decide)) (by decide))
  have hk : LinkKept a.cancelSwap s.parted := .showUPair (.refl _)
  have hget {g : Fld} (hb : g.blk = 0xF) (ht : g.key ≠ F.PAIR_JTX.TX.key) (hu : g.key ≠ F.PAIR_UPAIR.UPAIR.key)
      (hs : ∀ f ∈ [F.PAIR_CTRL.SWAP, F.PAIR_STAT.SWAPFAIL], g.key ≠ f.key) : s.parted.get g = a.get g :=
    (hk.get hb ht hu).trans (a.cancelSwap_regs g hb ht hu hs)
  refine ⟨(ha.trans (a.cancelSwap_regs.mono (by decide))).kept hk, ?_, ?_, ?_, ?_⟩
  · have hstate : a.get F.PAIR_STAT.STATE = 3 :=
      (State.get_set_ne (f := F.PAIR_STAT.ARMED) (s.set F.PAIR_STAT.STATE 3) 0 (by decide)).trans (State.get_set_self s F.PAIR_STAT.STATE 3)
    exact (hget (by decide) (by decide) (by decide) (by decide)).trans hstate
  · exact bne_eq_false_iff_eq.mpr ((hget (by decide) (by decide) (by decide) (by decide)).trans
      (State.get_set_self (s.set F.PAIR_STAT.STATE 3) F.PAIR_STAT.ARMED 0))
  · exact (PairSt.stream_of_core hk.core).trans a.cancelSwap_steady.stream
  · exact .set (.trans (.updPair (.set (.set (.refl _ s) (by decide)) (by decide))) a.cancelSwap_outside) (by decide)

/-- What the loss of a lane makes of the roles. -/
def State.lanesLeft (s : State) (now : Nat) : State :=
  if s.pair.any then s else if (s.cutOff now).role = 1 then (s.cutOff now).parted else s.cutOff now

section
variable {s : State} (hp : s.paired = true) (ht : s.channelOfKind 7 = none) (hw : s.pair.warmWait = false)

section
include hp

theorem State.laneLockLoss_zero (h : s.pair.lane0 = true) :
    exec (.laneLockLoss 0) s = .next ((s.laneFell { s.pair with lane0 := false }).lanesLeft s.raw).showPairLanes.resumeWarm := by
  change onUnit true (State.when s (s.paired && s.pair.lane0) _).resumeWarm = _
  rw [hp, h]
  rfl

theorem State.laneLockLoss_one (h : s.pair.lane1 = true) :
    exec (.laneLockLoss 1) s = .next ((s.laneFell { s.pair with lane1 := false }).lanesLeft s.raw).showPairLanes.resumeWarm := by
  change onUnit true (State.when s (s.paired && s.pair.lane1) _).resumeWarm = _
  rw [hp, h]
  rfl

end

include hp ht hw

theorem State.laneLockLoss_leaves_one (h0 : s.pair.lane0 = true) (h1 : s.pair.lane1 = true) (hc : s.bit F.PAIR_STAT.CLEAN = false) :
    ∃ t, exec (.laneLockLoss 0) s = .next t ∧ t.pair = { s.pair with lane0 := false } ∧ t.bit F.PAIR_STAT.LINKFLT = true ∧
      t.bit F.PAIR_STAT.LANE1 = true ∧ RegsBut [F.PAIR_STAT.LINKFLT, F.PAIR_STAT.LANE1] s t := by
  let p : PairSt := { s.pair with lane0 := false }
  have hpair : (s.laneFell p).pair = p := State.laneFell_pair
  have hany : (s.laneFell p).pair.any = true := by rw [hpair]; exact h1
  have hleft : (s.laneFell p).lanesLeft s.raw = s.laneFell p := if_pos hany
  have hshow : (s.laneFell p).showPairLanes = (s.laneFell p).setBit F.PAIR_STAT.LANE1 true := by
    rw [State.showPairLanes_of ((State.laneFell_outside.channelOfKind (by decide) 7).trans ht)
      ((congrArg (· != 0) (State.get_laneFell (by decide) (by decide))).trans hc) (.inr (by rw [hpair]; rfl)), hany, hpair]
    rfl
  have hwarm : ((s.laneFell p).setBit F.PAIR_STAT.LANE1 true).pair.warmWait = false := (congrArg PairSt.warmWait hpair).trans hw
  refine ⟨(s.laneFell p).setBit F.PAIR_STAT.LANE1 true, ?_, hpair, ?_, State.bit_setBit_self _ _ _ rfl, ?_⟩
  · rw [State.laneLockLoss_zero hp h0, hleft, hshow, State.resumeWarm_of_not_waiting hwarm]
  · exact (congrArg (· != 0) (State.get_setBit_ne _ _ (by decide))).trans State.laneFell_flagged
  · exact .setBit (.flag (.of_regs (.refl _ s) rfl) (by decide) (by decide)) (by decide)

theorem State.laneLockLoss_parts (h0 : s.pair.lane0 = false) (h1 : s.pair.lane1 = true) (hr : s.role = 1) :
    ∃ t, exec (.laneLockLoss 1) s = .next t ∧ t.pair.any = false ∧ t.pairState = 3 ∧ t.role = 1 ∧ t.bit F.PAIR_STAT.LINKFLT = true ∧
      t.bit F.PAIR_STAT.ARMED = false ∧ t.bit F.PAIR_STAT.LANE1 = false ∧ t.pair.downAt = s.raw := by
  let p : PairSt := { s.pair with lane1 := false }
  let a := (s.laneFell p).cutOff s.raw
  have hpair : (s.laneFell p).pair = p := State.laneFell_pair
  have hany : ¬ (s.laneFell p).pair.any = true := by rw [hpair]; simp [p, PairSt.any, h0]
  have hrole : a.role = 1 := (State.get_laneFell (by decide) (by decide)).trans hr
  have hleft : (s.laneFell p).lanesLeft s.raw = a.parted := (if_neg hany).trans (if_pos hrole)
  obtain ⟨hregs, hstate, harmed, hstream, hout⟩ := a.parted_shows
  let v := a.parted.setBit F.PAIR_STAT.LANE1 (a.parted.pair.any && !a.parted.pair.both)
  have hlane0 : a.parted.pair.lane0 = false := (congrArg PairSt.lane0 hstream :).trans ((congrArg PairSt.lane0 hpair).trans h0)
  have hlane1 : a.parted.pair.lane1 = false := (congrArg PairSt.lane1 hstream :).trans (congrArg PairSt.lane1 hpair)
  have hoff : a.parted.pair.any = false := by rw [PairSt.any, hlane0, hlane1]; rfl
  have hkind : v.channelOfKind 7 = none := by
    have houts : RegsOutside [0xF, 0x11] s v := .set ((State.laneFell_outside.of_regs (u := a) rfl).trans hout) (by decide)
    rw [houts.channelOfKind (by decide) 7, ht]
  have hshow : a.parted.showPairLanes = v.reviewClean := congrArg State.reviewClean (State.reviewTwin_of_none hkind)
  have hk := v.reviewClean_steady
  have hwarm : v.reviewClean.pair.warmWait = false :=
    hk.warmWait.trans ((congrArg PairSt.warmWait hstream :).trans ((congrArg PairSt.warmWait hpair).trans hw))
  have hget {g : Fld} (hb : g.blk = 0xF) (h1 : g.key ≠ F.PAIR_JTX.TX.key) (h2 : g.key ≠ F.PAIR_UPAIR.UPAIR.key) (h3 : ∀ f ∈ cleanFlds, g.key ≠ f.key)
      (h4 : g.key ≠ F.PAIR_STAT.LANE1.key) : v.reviewClean.get g = a.parted.get g := (hk.get hb h1 h2 h3).trans (State.get_setBit_ne _ _ h4)
  refine ⟨v.reviewClean, ?_, ?_, ?_, ?_, ?_, ?_, ?_, ?_⟩
  · rw [State.laneLockLoss_one hp h1, hleft, hshow, State.resumeWarm_of_not_waiting hwarm]
  · have hl0 : v.reviewClean.pair.lane0 = false := (congrArg PairSt.lane0 hk.stream :).trans hlane0
    have hl1 : v.reviewClean.pair.lane1 = false := (congrArg PairSt.lane1 hk.stream :).trans hlane1
    rw [PairSt.any, hl0, hl1]
    rfl
  · exact (hget (by decide) (by decide) (by decide) (by decide) (by decide)).trans hstate
  · refine (hget (by decide) (by decide) (by decide) (by decide) (by decide)).trans ?_
    exact (hregs _ (by decide) (by decide) (by decide) (by decide)).trans hrole
  · refine (congrArg (· != 0) ?_).trans (State.laneFell_flagged (s := s) (p := p))
    exact (hget (by decide) (by decide) (by decide) (by decide) (by decide)).trans (hregs _ (by decide) (by decide) (by decide) (by decide))
  · exact (congrArg (· != 0) (hget (by decide) (by decide) (by decide) (by decide) (by decide))).trans harmed
  · refine (congrArg (· != 0) (hk.get (by decide) (by decide) (by decide) (by decide))).trans ?_
    refine (State.bit_setBit_self _ _ _ rfl).trans ?_
    rw [hoff, Bool.false_and]
  · exact (congrArg PairSt.downAt hk.stream :).trans (congrArg PairSt.downAt hstream :)

omit hw in
theorem State.pl0BlockLock_shows (hc : s.bit F.PAIR_STAT.CLEAN = false) (hr : s.role = 1) :
    ∃ t, exec (.pl0BlockLock 0) s = .next t ∧ t.pair = { s.pair with lane0 := true } ∧ t.bit F.PAIR_STAT.LANE1 = (!s.pair.lane1) ∧
      RegsBut [F.PAIR_STAT.LANE1] s t := by
  let a := s.updPair (fun p => { p with lane0 := true })
  have hshow : a.showPairLanes = a.setBit F.PAIR_STAT.LANE1 (a.pair.any && !a.pair.both) := State.showPairLanes_of ht hc (.inl hr)
  refine ⟨a.setBit F.PAIR_STAT.LANE1 (a.pair.any && !a.pair.both), ?_, rfl, State.bit_setBit_self _ _ _ rfl, .setBit (.of_regs (.refl _ s) rfl)
    (by decide)⟩
  change onUnit true (State.when s s.paired _) = _
  rw [hp, onUnit_true, ← hshow]
  rfl

/-- A comparison that is stale raises PPSFLT. -/
theorem State.ppiStale_flags (hs : s.pair.stale s.raw = true) (hc : s.bit F.PAIR_STAT.CLEAN = false) :
    ∃ t, exec .ppiStale s = .next t ∧ t.bit F.PAIR_STAT.PPSFLT = true ∧ RegsBut [F.PAIR_STAT.PPSFLT, F.PAIR_UPAIR.UPAIR] s t := by
  let a := s.pairFlag F.PAIR_STAT.PPSFLT
  have hparts : EventsOnly s a := State.flag_parts s _ _ _ _
  have hpair : a.pair = s.pair := hparts.pair
  have hraw : a.raw = s.raw := hparts.raw
  have hkind : a.channelOfKind 7 = none := ((RegsOutside.pairFlag (.refl _ s) rfl).channelOfKind (by decide) 7).trans ht
  have hclean : a.bit F.PAIR_STAT.CLEAN = false := (congrArg (· != 0) (s.get_pairFlag_ne (by decide) (by decide))).trans hc
  have hnot : a.cleanNow = false := by
    unfold State.cleanNow
    simp [hpair, hraw, hs]
  have hbody : (a.reviewTwin.reviewClean).showUPair = a.showUPair := by
    rw [State.reviewTwin_of_none hkind, State.reviewClean_of_unclean a hnot hclean]
  refine ⟨a.showUPair, ?_, ?_, .set (.flag (.refl _ s) (by decide) (by decide)) (by decide)⟩
  · change State.ends (State.when s (s.paired && s.pair.stale s.raw) _) = _
    rw [hp, hs]
    change State.ends ((a.reviewTwin.reviewClean).showUPair) = _
    rw [hbody]
    exact State.ends_of ((congrArg PairSt.warmWait hpair).trans hw)
  · exact (congrArg (· != 0) (State.get_set_ne a _ (by decide))).trans (State.pairFlag_bit s (by decide) (by decide))

end

/-! SEEK and the takeover. -/

section
variable {s : State}

theorem State.InRole.ends {t : State} {role state : Nat} (h : s.InRole t role state) (hw : s.pair.warmWait = false) : t.ends = .next t :=
  State.ends_of (h.steady.warmWait.trans hw)

theorem State.seekEvaluation_of {alertLow : Bool} (hs : s.pairState = 1) :
    exec (.seekEvaluation alertLow) s = (s.seek (alertLow && !s.supply.alert)).ends := by
  change State.ends (State.when s (s.pairState == 1) _) = _
  rw [hs]
  rfl

/-- Without a lane in block lock none of SEEK's rows for a twin that is heard applies. -/
theorem State.seek_of_deaf (ha : s.pair.any = false) (twinAlert : Bool) :
    s.seek twinAlert = if twinAlert || decide (max s.pair.seekAt (s.pair.ppiAt.getD 0) + 937500000 ≤ s.raw) then s.becomeActive 2
      else if 0 < s.pair.seenActive then s.standbyPart
      else if 2 ≤ s.pair.seenIdle then
        (if !s.homeKnown then (if s.pair.waitFrom.isNone then s.updPair (fun q => { q with waitFrom := some s.raw }) else s)
         else if s.isHome then s.becomeActive 3 else s.standbyPart)
      else s := by
  have hb : s.pair.both = false := by
    rw [PairSt.any, Bool.or_eq_false_iff] at ha
    rw [PairSt.both, ha.1]
    rfl
  unfold State.seek
  extract_lets p silent
  have hp : p = s.pair := rfl
  rw [hp, hb, ha]
  rfl

theorem State.seekEvaluation_table (alertLow : Bool) (hs : s.pairState = 1) (hw : s.pair.warmWait = false) :
    (s.pair.both = true → s.pair.hello = true → s.pair.twinRole = 1 →
      ∃ t, exec (.seekEvaluation alertLow) s = .next t ∧ t.role = 2 ∧ t.pairState = 4) ∧
    (s.pair.any = false → max s.pair.seekAt (s.pair.ppiAt.getD 0) + 937500000 ≤ s.raw →
      ∃ t, exec (.seekEvaluation alertLow) s = .next t ∧ t.role = 1 ∧ t.pairState = 2) ∧
    (s.pair.any = false → 0 < s.pair.seenActive → s.raw < max s.pair.seekAt (s.pair.ppiAt.getD 0) + 937500000 → alertLow = false →
      ∃ t, exec (.seekEvaluation alertLow) s = .next t ∧ t.role = 2 ∧ t.pairState = 3) := by
  rw [State.seekEvaluation_of hs]
  refine ⟨fun hb hh hr => ?_, fun ha hsil => ?_, fun ha hact hheard hlow => ?_⟩
  · have hseek : s.seek (alertLow && !s.supply.alert) = s.joinPair := by
      unfold State.seek
      simp [hb, hh, hr]
    rw [hseek, s.joinPair_inRole.ends hw]
    exact ⟨_, rfl, s.joinPair_inRole.role, s.joinPair_inRole.pairState⟩
  · obtain ⟨hi, -⟩ := s.becomeActive_shows 2 (by decide)
    rw [State.seek_of_deaf ha, decide_eq_true hsil, Bool.or_true, if_pos rfl, hi.ends hw]
    exact ⟨_, rfl, hi.role, hi.pairState⟩
  · rw [State.seek_of_deaf ha, hlow, decide_eq_false (by omega), Bool.false_and, if_neg (by decide), if_pos hact, s.standbyPart_inRole.ends hw]
    exact ⟨_, rfl, s.standbyPart_inRole.role, s.standbyPart_inRole.pairState⟩

theorem State.homeRandomWait_ends {t0 : Nat} (hs : s.pairState = 1) (hw : s.pair.warmWait = false) (h0 : s.pair.waitFrom = some t0)
    (ht : t0 + 625000000 ≤ s.raw) (ha : s.pair.seenActive = 0) :
    ∃ t, exec .homeRandomWait s = .next t ∧ t.role = 1 ∧ t.pairState = 3 ∧ t.pair.waitFrom = none := by
  obtain ⟨hi, hwait⟩ := s.becomeActive_shows 3 (by decide)
  refine ⟨_, ?_, hi.role, hi.pairState, hwait⟩
  have hbody : exec .homeRandomWait s = (s.becomeActive 3).ends := by
    change State.ends (match s.pair.waitFrom with | none => s | some t => _) = _
    rw [h0]
    change State.ends (State.when s (decide (t0 + 625000000 ≤ s.raw)) _) = _
    rw [decide_eq_true ht]
    change State.ends (if s.pairState = 1 then (if 0 < s.pair.seenActive then s.standbyPart else s.becomeActive 3) else _) = _
    rw [if_pos hs, if_neg (by omega)]
  exact hbody.trans (hi.ends hw)

theorem State.twinLost_shows (hp : s.paired = true) (hr : s.role = 2) (ha : s.pair.any = false) (hd : s.pair.downAt + 313 ≤ s.raw)
    (hw : s.pair.warmWait = false) :
    (s.supply.alert = false → ∃ t, exec (.twinLost true) s = .next t ∧ t.role = 1 ∧ t.pairState = 2 ∧ t.bit F.PAIR_STAT.TAKEOVER = true ∧
      t.pair.exch = none ∧ t.pair.swap = none) ∧
    (∃ t, exec (.twinLost false) s = .next t ∧ t.role = 2 ∧ t.pairState = 3) := by
  have hbody (low : Bool) : exec (.twinLost low) s =
      State.ends (if low && !s.supply.alert then s.takeover else if s.pairState = 3 then s else s.standbyPart) := by
    change State.ends (State.when s (s.paired && s.role == 2 && !s.pair.any && decide (s.pair.downAt + 313 ≤ s.raw)) _) = _
    rw [hp, hr, ha, decide_eq_true hd]
    rfl
  refine ⟨fun halert => ?_, ?_⟩
  · obtain ⟨hrole, hstate, hflag, ⟨hexch, hswap⟩, hstream⟩ := s.takeover_shows
    rw [hbody, halert]
    exact ⟨_, State.ends_of ((congrArg PairSt.warmWait hstream :).trans hw), hrole, hstate, hflag, hexch, hswap⟩
  · rw [hbody, Bool.false_and, if_neg (by decide)]
    split
    · next h3 => exact ⟨_, State.ends_of hw, hr, h3⟩
    · exact ⟨_, s.standbyPart_inRole.ends hw, s.standbyPart_inRole.role, s.standbyPart_inRole.pairState⟩

end

/-! The self-check and the exchanges. -/

section
variable (s : State)

theorem State.selfCheck_regs : LinkBut [F.PAIR_STAT.VERD] s s.selfCheck := .updPair (.set (.refl _ s) (by decide))

/-- Without the atomic check the channels alone give the verdict. -/
theorem State.selfCheck_verdict (h : s.atomicGap = none) : s.selfCheck.get F.PAIR_STAT.VERD =
    if s.checkedChans = [] then 0 else if s.checkedChans.filter s.agrees = [] then 2 else 1 := by
  have hset (v : Nat) (hv : v < 4) (f : PairSt → PairSt) : ((s.set F.PAIR_STAT.VERD v).updPair f).get F.PAIR_STAT.VERD = v :=
    (State.get_set_self s _ v).trans (Nat.mod_eq_of_lt hv)
  unfold State.selfCheck
  extract_lets chk ok gap pass fail v
  rw [hset v (by unfold v; split <;> [omega; (split <;> omega)])]
  unfold v fail pass gap ok chk
  rw [h]
  cases hc : s.checkedChans with
  | nil => rfl
  | cons c l => cases hf : (c :: l).filter s.agrees <;> simp

theorem State.selfCheck_shows (hp : s.paired = true) (hw : s.pair.warmWait = false) (hg : s.atomicGap = none) :
    ∃ t, exec .selfCheck s = .next t ∧ t.get F.PAIR_STAT.VERD =
      (if s.checkedChans = [] then 0 else if (s.checkedChans.filter s.agrees) = [] then 2 else 1) ∧
      t.pair.checked = maskOf s.checkedChans ∧ t.pair.agreed = maskOf (s.checkedChans.filter s.agrees) := by
  obtain ⟨hregs, hcalm⟩ := s.selfCheck.reviewClean_shows
  have hk := s.selfCheck.reviewClean_steady
  refine ⟨s.selfCheck.reviewClean, ?_, ?_, ?_, ?_⟩
  · change State.ends (State.when s s.paired _) = _
    rw [hp]
    exact State.ends_of (hk.warmWait.trans hw)
  · exact (hregs _ (by decide) (by decide) (by decide) (by decide)).trans (s.selfCheck_verdict hg)
  · exact (congrArg PairSt.checked hcalm :)
  · exact (congrArg PairSt.agreed hcalm :)

/-- A unit takes part in an exchange: its verdict is shown and stands in the exchange. -/
theorem State.giveVerdict_shows (vid : Nat) : LinkSteady [F.PAIR_STAT.VERD] s (s.giveVerdict vid) ∧
    (s.giveVerdict vid).pair.exch = some (vid, (s.giveVerdict vid).get F.PAIR_STAT.VERD) := by
  unfold State.giveVerdict
  extract_lets a v
  let b := a.updPair (fun p => { p with exch := some (vid, v), vid := max p.vid vid })
  have hk : LinkKept b (b.sendRecord 0x21 (leBytes 1 v ++ leBytes 3 0 ++ leBytes 4 vid)) := .sendRecord (.refl b)
  have hb : LinkSteady [F.PAIR_STAT.VERD] s b := ⟨s.selfCheck_regs.updPair, rfl⟩
  refine ⟨hb.kept hk, (congrArg PairSt.exch hk.core :).trans ?_⟩
  exact congrArg (fun n => some (vid, n)) (hk.get (by decide) (by decide) (by decide)).symm

theorem State.disputeExchange_shows (hs : s.pairState = 6) (he : s.pair.exch = none) (hw : s.pair.warmWait = false) :
    ∃ t, exec .disputeExchange s = .next t ∧ t.pair.exch = some ((s.pair.vid + 1) % 2 ^ 32, t.get F.PAIR_STAT.VERD) ∧ t.pairState = 6 := by
  let vid := (s.pair.vid + 1) % 2 ^ 32
  let a := s.sendRecord 0x20 (leBytes 1 3 ++ leBytes 3 0 ++ leBytes 4 vid)
  have hk : LinkKept s a := .sendRecord (.refl s)
  obtain ⟨hv, hexch⟩ := a.giveVerdict_shows vid
  have hopen : s.openExchange 3 = a.giveVerdict vid := by
    unfold State.openExchange
    rw [he]
    rfl
  refine ⟨a.giveVerdict vid, ?_, hexch, ?_⟩
  · change State.ends (State.when s (s.pairState == 6) _) = _
    rw [hs]
    change State.ends (s.openExchange 3) = _
    rw [hopen]
    exact State.ends_of (hv.warmWait.trans ((congrArg PairSt.warmWait hk.core :).trans hw))
  · exact (hv.get (by decide) (by decide) (by decide) (by decide)).trans ((hk.get (by decide) (by decide) (by decide)).trans hs)

end

/-! An edge of the pulse per second between the units. -/

/-- Registers of the measuring channels and of the ring may change, and the pair's state stays. -/
structure TdcOnly (s t : State) : Prop where
  regs : RegsOutside [0x5, 0xB, 0x11] s t
  pair : t.pair = s.pair

section
variable {s₀ s t : State}

theorem TdcOnly.ite {c : Prop} [Decidable c] (h : TdcOnly s₀ s) (k : TdcOnly s₀ t) : TdcOnly s₀ (if c then s else t) := by
  split <;> assumption

theorem TdcOnly.updTdc {n : Nat} {f : TdcSt → TdcSt} (h : TdcOnly s₀ s) : TdcOnly s₀ (s.updTdc n f) := ⟨h.regs.of_regs rfl, h.pair⟩

theorem TdcOnly.set {f : Fld} {v : Nat} (h : TdcOnly s₀ s) (hf : f.blk = 5) : TdcOnly s₀ (s.set f v) := ⟨h.regs.set (by rw [hf]; decide), h.pair⟩

theorem TdcOnly.deliverRing {i : RingItem} (h : TdcOnly s₀ s) (hi : i.ring = 63) : TdcOnly s₀ (s.deliverRing i) := by
  unfold State.deliverRing
  extract_lets w
  split
  · exact ⟨h.regs.of_regs rfl, h.pair⟩
  · rw [hi]
    have hd : TdcOnly s₀ (s.bumpSat (F.PKE_RING_DROP.DROP 63)) := ⟨h.regs.set (by decide), h.pair⟩
    exact ⟨hd.regs.flag (by decide) (by decide) (by decide), (State.flag_parts _ _ _ _ _).pair.trans hd.pair⟩

theorem TdcOnly.record {n type tb flags stamp : Nat} {value : Int} {count resid : Nat} (h : TdcOnly s₀ s) :
    TdcOnly s₀ (s.record n type tb flags stamp value count resid) := by
  unfold State.record
  extract_lets d fl b t
  split
  · exact .deliverRing (.updTdc h) rfl
  · exact .updTdc h

/-- A stamp of a channel of use 4 becomes a record. -/
theorem TdcOnly.stampTaken {n at16 edge : Nat} {calErr : Bool} (h : TdcOnly s₀ s) (hu : s.tdcUse n = 4) :
    TdcOnly s₀ (s.stampTaken n at16 edge calErr) := by
  unfold State.stampTaken
  extract_lets x st y held
  have hy : TdcOnly s₀ y := .ite (.updTdc h) (.updTdc (.updTdc h))
  rw [hu, if_neg (by decide)]
  exact .record (.ite (.updTdc hy) hy)

end

theorem State.tdc_blk (n : Nat) (_ : n < 24) :
    (F.TDC_CNT.MISS n).blk = 5 ∧ (F.TDC_STAT.MISSED n).blk = 5 ∧ (F.TDC_STAT.ARMED n).blk = 5 := by
  refine ⟨Fld.blk_eq ?_, Fld.blk_eq ?_, Fld.blk_eq ?_⟩ <;> omega

/-- An edge at a channel of use 4 is recorded; it serves no reference. -/
theorem State.tdcEdge_only (s : State) {n : Nat} (half code kStop : Nat) (hn : n < 24) (hu : s.tdcUse n = 4)
    : TdcOnly s (s.tdcEdge n half code kStop) := by
  obtain ⟨hmiss, hmissed, harmed⟩ := State.tdc_blk n hn
  have hroll : s.rollGate n = s := by
    unfold State.rollGate
    extract_lets c
    exact if_neg fun h => by rw [hu] at h; exact absurd h.1 (by decide)
  have hr : TdcOnly s s := ⟨.refl _ s, rfl⟩
  unfold State.tdcEdge
  rw [hroll]
  extract_lets r a h
  have ha : TdcOnly s a := hr.updTdc
  split
  · exact .updTdc (.set (.set ha hmiss) hmissed)
  · exact .stampTaken (.set (.updTdc ha) harmed) hu

/-- What an edge keeps of the pair: all but the own m and what sending changes, the role and the kinds of the channels. -/
structure EdgeKept (s t : State) : Prop where
  pair : { t.pair.core with mOwn := none } = { s.pair.core with mOwn := none }
  regs : RegsOutside [0x5, 0xB, 0x11, 0xF] s t
  role : t.role = s.role

/-- The own m is held and told to the twin. -/
def State.toldOwn (s : State) (k : Nat) (m : Int) (stamp : Nat) : State :=
  (s.updPair (fun q => { q with mOwn := some (k, m, stamp) })).sendRecord 0x02 (leBytes 8 k ++ leBytes 8 (ofSigned 64 m))

theorem EdgeKept.of_tdcOnly {s t : State} (h : TdcOnly s t) : EdgeKept s t :=
  ⟨by rw [h.pair], fun f hf => h.regs f fun hm => hf (List.mem_append_left [0xF] hm), h.regs _ (by decide)⟩

theorem EdgeKept.toldOwn {s t : State} {k : Nat} {m : Int} {stamp : Nat} (h : EdgeKept s t) : EdgeKept s (t.toldOwn k m stamp) := by
  let a := t.updPair (fun q => { q with mOwn := some (k, m, stamp) })
  let b := leBytes 8 k ++ leBytes 8 (ofSigned 64 m)
  have hk : LinkKept a (a.sendRecord 0x02 b) := .sendRecord (.refl a)
  have hpair : { (a.sendRecord 0x02 b).pair.core with mOwn := none } = { a.pair.core with mOwn := none } :=
    congrArg (fun p : PairSt => { p with mOwn := none }) hk.core
  refine ⟨hpair.trans h.pair, ?_, (hk.get (by decide) (by decide) (by decide)).trans h.role⟩
  exact h.regs.step fun f hf => ((SendsOnly.refl a).sendRecord 0x02 b).regs f (Fld.key_ne_of_blk (f := F.PAIR_JTX.TX) (by decide) hf)

/-- A state that keeps the pair and holds no m of the twin forms no x. -/
theorem State.tryX_of_none {s : State} (h : s.pair.mTwin = none) : s.tryX = s := by
  unfold State.tryX
  rw [h]
  split <;> simp_all

/-- The pair's state as an edge of the pulse per second is seen. -/
def PairSt.seen (p : PairSt) (now : Nat) (active : Bool) : PairSt :=
  { p with ppiAt := some now, seenActive := if active then p.seenActive + 1 else 0, seenIdle := if active then 0 else p.seenIdle + 1 }

theorem State.ppiEdge_seen {s : State} {half : Nat} (code k : Nat) (active : Bool) (hp : s.paired = true) (ht : s.channelOfKind 7 = none)
    (hw : s.pair.warmWait = false) (hh : half < 2) (hr : s.role ≠ 1) (hm : s.pair.mTwin = none) :
    ∃ t, exec (.ppiEdge half code k active) s = .next t ∧ t.pair.ppiAt = some s.raw ∧
      t.pair.seenActive = (if active then s.pair.seenActive + 1 else 0) ∧ t.pair.seenIdle = (if active then 0 else s.pair.seenIdle + 1) := by
  have hrun : exec (.ppiEdge half code k active) s = onUnit (decide (half < 2)) (State.when s s.paired _).resumeWarm := rfl
  rw [decide_eq_true hh, onUnit_true, hp, State.when, if_pos rfl] at hrun
  extract_lets p a0 a b at hrun
  have ha : EdgeKept a0 a := by
    unfold a
    split
    · exact ⟨rfl, .refl _ _, rfl⟩
    · next n hn =>
      have hlt : n < 24 := List.mem_range.mp (List.mem_of_find?_eq_some hn)
      extract_lets t
      have hk : EdgeKept a0 t := .of_tdcOnly (State.tdcEdge_only a0 half code k hlt
        (eq_of_beq (List.find?_some (p := fun n => s.tdcUse n == 4) hn)))
      split
      · exact hk
      · split
        · exact hk
        · next at16 _ _ _ =>
          extract_lets pr sec m kk
          have hx := hk.toldOwn (k := kk) (m := m) (stamp := at16 / 16)
          have hnone : (t.toldOwn kk m (at16 / 16)).pair.mTwin = none := (congrArg PairSt.mTwin hx.pair :).trans hm
          exact (congrArg (EdgeKept a0) (State.tryX_of_none hnone)).mpr hx
  have hb : b = a := State.reviewTwin_of_none ((ha.regs.channelOfKind (by decide) 7).trans ht)
  have hnot : ¬ (b.role = 1 ∧ b.pair.any = false ∧ 2 ≤ b.pair.seenActive) := fun h => hr (ha.role.symm.trans (hb ▸ h.1))
  have hwarm : a.pair.warmWait = false := (congrArg PairSt.warmWait ha.pair :).trans hw
  rw [if_neg hnot, hb, State.resumeWarm_of_not_waiting hwarm] at hrun
  exact ⟨a, hrun, (congrArg PairSt.ppiAt ha.pair :), (congrArg PairSt.seenActive ha.pair :), (congrArg PairSt.seenIdle ha.pair :)⟩

/-- Settles O45: the lanes and an edge between the units, SEEK's table, the takeover, the self-check and DISPUTE's exchanges, each by its lemma. -/
theorem rolesAndLanes : Obligations.RolesAndLanes := by
  unfold Obligations.RolesAndLanes
  refine ⟨fun s hp ht hw => ⟨?_, ?_, ?_, ?_, ?_⟩, fun s low hs hw => ?_, fun s hp hr ha hd hw => ?_, fun s hp hw hg => ?_, fun s hs he hw => ?_⟩
  · exact fun h0 h1 hc => State.laneLockLoss_leaves_one hp ht hw h0 h1 hc
  · exact fun h0 h1 hr => State.laneLockLoss_parts hp ht hw h0 h1 hr
  · exact fun hc hr => State.pl0BlockLock_shows hp ht hc hr
  · exact fun half code k active hh hr hm => State.ppiEdge_seen code k active hp ht hw hh hr hm
  · exact fun hs hc => State.ppiStale_flags hp ht hw hs hc
  · obtain ⟨hjoin, hsilent, hpart⟩ := s.seekEvaluation_table low hs hw
    exact ⟨hjoin, hsilent, hpart, fun t0 h0 ht ha => State.homeRandomWait_ends hs hw h0 ht ha⟩
  · exact State.twinLost_shows hp hr ha hd hw
  · exact s.selfCheck_shows hp hw hg
  · exact s.disputeExchange_shows hs he hw

end Sys2Proof.Machine

/-! PROOF. Swaps of the roles (R464, R474, R475). -/

namespace Sys2Proof.Machine

/-! A record that is sent. -/

/-- A paired unit in block lock sends a record: it goes out under the next SEQ, and nothing else but the count of records changes in registers. -/
theorem State.sendRecord_sent {s : State} (hp : s.paired = true) (ha : s.pair.any = true) (hon : s.supply.on = true) (type : Nat) (b : List Byte) :
    s.Sent (s.sendRecord type b) type b ∧ RegsBut [F.PAIR_JTX.TX] s (s.sendRecord type b) := by
  refine ⟨?_, fun g _ hne => ((SendsOnly.refl s).sendRecord type b).regs g (hne _ (by decide))⟩
  have hoff : ¬ (!s.paired || !s.pair.any) = true := by rw [hp, ha]; decide
  rw [State.sendRecord, if_neg hoff]
  refine ⟨if s.pair.both then s.pair.turn else if s.pair.lane0 then 0 else 1, State.emit_out_on hon _, ?_⟩
  have hseq : (s.onLane (recordBytes s.pair.seq type 0 s.raw b)).pair.seq = s.pair.seq := by
    rw [State.onLane]
    change (s.emit _).pair.seq = _
    rw [State.emit_pair]
  exact congrArg (fun n => (n + 1) % 2 ^ 32) hseq

/-- What is sent of a state whose registers and pair are those of another is sent of that one. -/
theorem State.Sent.of_eq {s u t : State} {type : Nat} {b : List Byte} (h : u.Sent t type b) (ho : u.out = s.out) (hq : u.pair.seq = s.pair.seq)
    (hr : u.raw = s.raw) : s.Sent t type b := by
  obtain ⟨lane, hout, hseq⟩ := h
  exact ⟨lane, by rw [hout, ho, hq, hr], by rw [hseq, hq]⟩

/-! PAIR_CTRL. -/

section
variable {s : State} {req : Requester}

theorem exec_pairSwap (hs : s.Serves req 0xF0000C) (key : Nat) : exec (.pairSwap req key) s =
    .next ((s.set (F.XBR_TSTAT.OWNER 6) req.master).writePairCtrl req (1 + key % 65536 * 65536)) :=
  congrArg Host.Outcome.next (State.atDomain_of_serves hs _ _)

theorem exec_pairResync (hs : s.Serves req 0xF0000C) (key : Nat) : exec (.pairResync req key) s =
    .next ((s.set (F.XBR_TSTAT.OWNER 6) req.master).writePairCtrl req (2 + key % 65536 * 65536)) :=
  congrArg Host.Outcome.next (State.atDomain_of_serves hs _ _)

theorem State.writePairCtrl_resync {s : State} (req : Requester) (h : s.inStep = true) : s.writePairCtrl req (2 + 0x9612 % 65536 * 65536)
    = s.askSync := by
  change State.when s s.inStep State.askSync = _
  rw [h]
  rfl

theorem State.writePairCtrl_refuses (s : State) (req : Requester) {key : Nat} (h : key % 65536 ≠ 0x9612) :
    s.writePairCtrl req (1 + key % 65536 * 65536) = s.accessError req 6 0xF0000C := by
  have hlow : bitsOf (1 + key % 65536 * 65536) 0 2 ≠ 0 := by rw [bitsOf]; omega
  have hkey : bitsOf (1 + key % 65536 * 65536) 16 16 ≠ 0x9612 := by rw [bitsOf]; omega
  rw [State.writePairCtrl, if_neg hlow, if_pos hkey]

theorem State.pairSwap_schedules (hs : s.Serves req 0xF0000C) (hask : s.bit F.PAIR_CTRL.SWAP = false) (hr : s.role = 1) (hst : s.pairState = 5)
    (hn : s.pair.swap = none) : ∃ t, exec (.pairSwap req 0x9612) s = .next t ∧ t.pair.swap = some (s.swapSecond, false) ∧
      t.bit F.PAIR_CTRL.SWAP = true ∧ RegsBut [F.PAIR_CTRL.SWAP, F.PAIR_JTX.TX, F.XBR_TSTAT.OWNER 6] s t := by
  let a := s.set (F.XBR_TSTAT.OWNER 6) req.master
  have hsec : a.swapSecond = s.swapSecond := rfl
  obtain ⟨hswap, hbit, hregs⟩ := State.requestSwap_schedules (s := a) ((State.get_set_ne s _ (by decide)).trans hr)
    ((State.get_set_ne s _ (by decide)).trans hst) ((State.bit_set_ne s _ (by decide)).trans hask) hn
  have ha : RegsBut [F.PAIR_CTRL.SWAP, F.PAIR_JTX.TX, F.XBR_TSTAT.OWNER 6] s a := .set (.refl _ s) (by decide)
  exact ⟨a.requestSwap, exec_pairSwap hs _, hswap.trans (by rw [hsec]), hbit, ha.trans (hregs.mono (by decide))⟩

theorem State.pairSwap_fails (hs : s.Serves req 0xF0000C) (hask : s.bit F.PAIR_CTRL.SWAP = false) (hr : s.role = 1) (hst : s.pairState ≠ 5) :
    ∃ t, exec (.pairSwap req 0x9612) s = .next t ∧ t.pair = s.pair ∧ t.bit F.PAIR_CTRL.SWAP = false ∧ t.bit F.PAIR_STAT.SWAPFAIL = true := by
  let a := s.set (F.XBR_TSTAT.OWNER 6) req.master
  let b := a.set F.PAIR_CTRL.SWAP 1
  have hget {g : Fld} (h1 : g.key ≠ F.PAIR_CTRL.SWAP.key) (h2 : g.key ≠ (F.XBR_TSTAT.OWNER 6).key) : b.get g = s.get g :=
    (State.get_set_ne a _ h1).trans (State.get_set_ne s _ h2)
  have hrole : b.role = 1 := (hget (by decide) (by decide)).trans hr
  have hstate : b.pairState ≠ 5 := fun h => hst ((hget (by decide) (by decide)).symm.trans h)
  have hreq : a.requestSwap = (b.set F.PAIR_CTRL.SWAP 0).pairFlag F.PAIR_STAT.SWAPFAIL := by
    rw [State.requestSwap, (State.bit_set_ne s _ (by decide)).trans hask, if_neg Bool.false_ne_true]
    change b.askSwap = _
    rw [State.askSwap, if_neg fun h => hstate h.2, if_neg fun h => by rw [hrole] at h; exact absurd h.1 (by decide)]
  refine ⟨a.requestSwap, exec_pairSwap hs _, ?_⟩
  rw [hreq]
  refine ⟨State.pairFlag_pair _ _, ?_, State.pairFlag_bit _ (by decide) (by decide)⟩
  exact bne_eq_false_iff_eq.mpr ((State.get_pairFlag_ne _ (by decide) (by decide)).trans (State.get_set_self b F.PAIR_CTRL.SWAP 0))

theorem State.pairSwap_refuses {key : Nat} (hs : s.Serves req 0xF0000C) (hk : key % 65536 ≠ 0x9612) (he : s.bit F.XBR_AERR.AERR = false) :
    ∃ t, exec (.pairSwap req key) s = .next t ∧ t.pair = s.pair ∧ t.get F.XBR_AERR.CAUSE = 6 ∧ t.get F.XBR_AERRADDR.ADDR = 0xF0000C := by
  obtain ⟨hpair, -, -, hcause, haddr⟩ := s.owned_accessError req 6 0xF0000C he
  exact ⟨_, (exec_pairSwap hs key).trans (congrArg Host.Outcome.next (State.writePairCtrl_refuses _ req hk)), hpair, hcause (by decide),
    haddr (by decide)⟩

theorem State.pairResync_asks (hs : s.Serves req 0xF0000C) (h : s.inStep = true) :
    ∃ t, exec (.pairResync req 0x9612) s = .next t ∧ t.pair.phase = 1 ∧ t.pairState = s.pairState := by
  let a := s.set (F.XBR_TSTAT.OWNER 6) req.master
  have hin : a.inStep = true := by
    have hrole : a.role = s.role := State.get_set_ne s _ (by decide)
    have hstate : a.pairState = s.pairState := State.get_set_ne s _ (by decide)
    rw [State.inStep, hrole, hstate]
    exact h
  obtain ⟨hk, hcore⟩ := a.askSync_steady
  refine ⟨a.askSync, (exec_pairResync hs _).trans (congrArg Host.Outcome.next (State.writePairCtrl_resync req hin)), ?_, ?_⟩
  · exact (congrArg PairSt.phase hcore :)
  · exact (hk.get (by decide) (by decide) (by decide) (by decide)).trans (State.get_set_ne s _ (by decide))

end

/-! The countdown's end and the second of a swap. -/

section
variable {s : State}

theorem State.wtrExpiry_asks {t0 : Nat} (h0 : s.pair.wtrFrom = some t0) (hc : s.bit F.PAIR_STAT.CLEAN = true) (hh : s.bit F.PAIR_STAT.HOME = true)
    (hr : s.role = 2) (hp : s.paired = true) (ha : s.pair.any = true) (hon : s.supply.on = true) (hn : s.pair.swap = none)
    (hw : s.pair.warmWait = false) (ht : t0 + s.get F.PAIR_CFG.WTR * 625000000 ≤ s.raw) :
    ∃ t, exec .wtrExpiry s = .next t ∧ s.Sent t 0x22 (leBytes 8 s.swapSecond) ∧ RegsBut [F.PAIR_JTX.TX] s t := by
  let b := leBytes 8 s.swapSecond
  have hask : s.askSwap = s.sendRecord 0x22 b := by
    rw [State.askSwap, if_neg fun h => by rw [hr] at h; exact absurd h.1 (by decide), if_pos ⟨hr, hc⟩]
  have hwarm : (s.sendRecord 0x22 b).pair.warmWait = false := (congrArg PairSt.warmWait (s.sendRecord_core 0x22 b) :).trans hw
  refine ⟨s.sendRecord 0x22 b, ?_, State.sendRecord_sent hp ha hon 0x22 b⟩
  change State.ends (match s.pair.wtrFrom with | none => s | some t => _) = _
  rw [h0]
  change State.ends (State.when s (s.bit F.PAIR_STAT.CLEAN && s.bit F.PAIR_STAT.HOME && s.role == 2 && s.pair.swap.isNone &&
    decide (t0 + s.get F.PAIR_CFG.WTR * 625000000 ≤ s.raw)) _) = _
  rw [hc, hh, hr, hn, decide_eq_true ht]
  change State.ends s.askSwap = _
  rw [hask]
  exact State.ends_of hwarm

theorem exec_swapBoundary {n : Nat} {ok : Bool} (hn : n ≤ s.dsec) (h : s.pair.swap = some (n, ok)) :
    exec .swapBoundary s = (if ok then s.swapRoles else s.cancelSwap).ends := by
  change State.ends (match s.pair.swap with | none => s | some (n, ok) => _) = _
  rw [h]
  change State.ends (State.when s (decide (n ≤ s.dsec)) _) = _
  rw [decide_eq_true hn]
  rfl

theorem State.swapBoundary_cancels {n : Nat} (hn : n ≤ s.dsec) (hw : s.pair.warmWait = false) (h : s.pair.swap = some (n, false)) :
    ∃ t, exec .swapBoundary s = .next t ∧ t.pair.swap = none ∧ t.bit F.PAIR_CTRL.SWAP = false ∧ t.bit F.PAIR_STAT.SWAPFAIL = true ∧
      RegsBut [F.PAIR_CTRL.SWAP, F.PAIR_STAT.SWAPFAIL] s t := by
  have hcancel : s.cancelSwap = ((s.updPair (fun p => { p with swap := none })).set F.PAIR_CTRL.SWAP 0).pairFlag F.PAIR_STAT.SWAPFAIL := by
    unfold State.cancelSwap
    rw [h]
    rfl
  have hends : s.cancelSwap.ends = .next s.cancelSwap := State.ends_of (s.cancelSwap_steady.warmWait.trans hw)
  refine ⟨s.cancelSwap, (exec_swapBoundary hn h).trans hends, congrArg PairSt.swap s.cancelSwap_pair, ?_, ?_, ?_⟩
  · rw [hcancel]
    exact bne_eq_false_iff_eq.mpr ((State.get_pairFlag_ne _ (by decide) (by decide)).trans (State.get_set_self _ F.PAIR_CTRL.SWAP 0))
  · rw [hcancel]
    exact State.pairFlag_bit _ (by decide) (by decide)
  · exact .ite (.flag (.set (.of_regs (.refl _ s) rfl) (by decide)) (by decide) (by decide)) (.refl _ s)

/-- The state in which a swap's roles are exchanged: it is scheduled no more, and no exchange is open. -/
def State.unswapped (s : State) : State := (s.updPair (fun p => { p with swap := none, exch := none })).set F.PAIR_CTRL.SWAP 0

/-- Before the twin takes control: the results start again, and the payloads in force are those it replays. -/
def State.handed (a : State) : State :=
  a.updPair (fun p => { p with
    swapState := true, results := [], used := [], rates := pairLog a.hrt.history, select := a.selectPayload, leap := a.leapPayload })

/-- Before the unit takes control: nothing of the twin's stream waits. -/
def State.received (a : State) : State := a.updPair (fun p => { p with
    results := [], used := [], retry := false, select := [], leap := [], param := [] })

/-- A unit with a new role and no swap scheduled: what is sent and shown last leaves it. -/
theorem State.swapRoles_ends {b u : State} {role : Nat} (hrole : b.role = role) (hswap : b.pair.swap = none) (hask : b.get F.PAIR_CTRL.SWAP = 0)
    (hwarm : b.pair.warmWait = false) (hk : LinkKept b u) (heq : s.swapRoles = u.pairFlag F.PAIR_STAT.SWAPPED) :
    s.swapRoles.ends = .next s.swapRoles ∧ s.swapRoles.role = role ∧ s.swapRoles.pair.swap = none ∧ s.swapRoles.bit F.PAIR_STAT.SWAPPED = true ∧
      s.swapRoles.bit F.PAIR_CTRL.SWAP = false := by
  have hpair : s.swapRoles.pair = u.pair := by rw [heq, State.pairFlag_pair]
  have hget {g : Fld} (hb : g.blk = 0xF) (h1 : g.key ≠ F.PAIR_JTX.TX.key) (h2 : g.key ≠ F.PAIR_UPAIR.UPAIR.key)
      (h3 : g.key ≠ F.PAIR_STAT.SWAPPED.key) : s.swapRoles.get g = b.get g := by
    rw [heq, State.get_pairFlag_ne u (by rw [hb]; decide) h3, hk.get hb h1 h2]
  refine ⟨State.ends_of ?_, (hget (by decide) (by decide) (by decide) (by decide)).trans hrole, ?_, ?_, ?_⟩
  · rw [hpair]
    exact (congrArg PairSt.warmWait hk.core :).trans hwarm
  · rw [hpair]
    exact (congrArg PairSt.swap hk.core :).trans hswap
  · rw [heq]
    exact State.pairFlag_bit _ (by decide) (by decide)
  · exact bne_eq_false_iff_eq.mpr ((hget (by decide) (by decide) (by decide) (by decide)).trans hask)

theorem State.swapBoundary_swaps {n : Nat} (hn : n ≤ s.dsec) (hw : s.pair.warmWait = false) (h : s.pair.swap = some (n, true)) :
    (s.role = 1 → ∃ t, exec .swapBoundary s = .next t ∧ t.role = 2 ∧ t.pair.swap = none ∧ t.bit F.PAIR_STAT.SWAPPED = true ∧
      t.bit F.PAIR_CTRL.SWAP = false) ∧
    (s.role = 2 → ∃ t, exec .swapBoundary s = .next t ∧ t.role = 1 ∧ t.pair.swap = none ∧ t.bit F.PAIR_STAT.SWAPPED = true ∧
      t.bit F.PAIR_CTRL.SWAP = false) := by
  have hexec : exec .swapBoundary s = s.swapRoles.ends := exec_swapBoundary hn h
  refine ⟨fun hr => ?_, fun hr => ?_⟩
  · let b := (s.unswapped.handed.set F.PAIR_STAT.ROLE 2).cleanEnded
    have heq : s.swapRoles = b.roleChanged.announceNow.pairFlag F.PAIR_STAT.SWAPPED := by
      have hend : (s.unswapped.handed.set F.PAIR_STAT.ROLE 2).endClean = b := State.endClean_of_none _ rfl
      unfold State.swapRoles
      extract_lets a c _ _ d
      have hd : d = (s.unswapped.handed.set F.PAIR_STAT.ROLE 2).endClean := if_pos hr
      rw [hd, hend]
    have hrole : b.role = 2 := ((State.cleanEnded_steady _).get (by decide) (by decide) (by decide) (by decide)).trans (State.get_set_self _ _ _)
    have hask : b.get F.PAIR_CTRL.SWAP = 0 := ((State.cleanEnded_regs _) _ (by decide) (by decide) (by decide) (by decide)).trans
      ((State.get_set_ne _ _ (by decide)).trans (State.get_set_self (s.updPair _) F.PAIR_CTRL.SWAP 0))
    obtain ⟨hends, hshows⟩ := State.swapRoles_ends (b := b) hrole rfl hask hw (.announceNow (.roleChanged (.refl b))) heq
    exact ⟨s.swapRoles, hexec.trans hends, hshows⟩
  · let b := (s.unswapped.cleanEnded.set F.PAIR_STAT.ROLE 1).received
    obtain ⟨u, hk, heq⟩ : ∃ u, LinkKept b u ∧ s.swapRoles = u.pairFlag F.PAIR_STAT.SWAPPED := by
      have hend : s.unswapped.endClean = s.unswapped.cleanEnded := State.endClean_of_none _ rfl
      unfold State.swapRoles
      extract_lets a _ _ c d
      have hc : LinkKept b c := .ownSelection (by rw [show a.endClean = _ from hend]; exact .refl b)
      have hk : LinkKept b d := by
        unfold d
        rw [if_neg (by rw [hr]; decide)]
        exact .journalChanges (.sendRecord (.sendRecord hc))
      exact ⟨_, .announceNow (.roleChanged hk), rfl⟩
    have hrole : b.role = 1 := State.get_set_self s.unswapped.cleanEnded F.PAIR_STAT.ROLE 1
    have hask : b.get F.PAIR_CTRL.SWAP = 0 := (State.get_set_ne (f := F.PAIR_STAT.ROLE) _ 1 (by decide)).trans
      (((State.cleanEnded_regs _) _ (by decide) (by decide) (by decide) (by decide)).trans (State.get_set_self (s.updPair _) F.PAIR_CTRL.SWAP 0))
    obtain ⟨hends, hshows⟩ := State.swapRoles_ends (b := b) hrole rfl hask hw hk heq
    exact ⟨s.swapRoles, hexec.trans hends, hshows⟩

end

/-- Settles O46: PAIR_CTRL behind its key, the countdown's end, and the second of a swap, each by its lemma. -/
theorem swaps : Obligations.Swaps := by
  unfold Obligations.Swaps
  refine ⟨fun s req hs hask hr hst hn => State.pairSwap_schedules hs hask hr hst hn, fun s req hs hask hr hst => State.pairSwap_fails hs hask hr hst,
    fun s req key hs hk he => State.pairSwap_refuses hs hk he, fun s req hs h _ => State.pairResync_asks hs h,
    fun s t0 h0 hc hh hr hp ha hon hn hw ht => State.wtrExpiry_asks h0 hc hh hr hp ha hon hn hw ht, fun s n hn hw => ⟨fun h => ?_, fun h hr => ?_,
      fun h hr => ?_⟩⟩
  · exact State.swapBoundary_cancels hn hw h
  · exact (State.swapBoundary_swaps hn hw h).1 hr
  · exact (State.swapBoundary_swaps hn hw h).2 hr

end Sys2Proof.Machine

/-! PROOF. What the units send of their own accord, and gaps of the stream (R460, R461). -/

namespace Sys2Proof.Machine

/-! What sending leaves of the CHECK of the pair's key. -/

theorem SendsOnly.pairCheck {s t : State} (h : SendsOnly s t) : t.pairCheck = s.pairCheck := by
  have hslot : t.get F.PAIR_KEY.PSLOT = s.get F.PAIR_KEY.PSLOT := h.regs _ (by decide)
  have hkvt : t.kvt = s.kvt := by rw [h.parts]
  have hpke : t.pke = s.pke := by rw [h.parts]
  have hstore : t.kstore = s.kstore := by
    have hnv : t.nv = s.nv := by rw [h.parts]
    rw [State.kstore, h.bit (by decide), hnv, State.kstore]
  rw [State.pairCheck, State.pairCheck, hslot, State.descriptor, State.descriptor, State.slot, State.slot, hkvt, hpke, hstore]

/-! Records sent of the unit's own accord. -/

/-- HEALTH's payload. -/
def State.healthPayload (s : State) : List Byte :=
  let p := s.pair
  leBytes 1 (s.get F.PAIR_STAT.VERD) ++ leBytes 1 ((if p.atChk then 1 else 0) + (if p.atPass then 2 else 0)) ++
    leBytes 2 p.checked ++ leBytes 2 p.agreed ++ leBytes 2 0 ++ leBytes 4 s.selfB ++ leBytes 4 s.uPair ++
    leBytes 4 (min unbounded (roundAway p.xWorst).toNat)

theorem State.healthPayload_shows (s : State) : leAt s.healthPayload 0 1 = s.get F.PAIR_STAT.VERD % 256 ∧
    leAt s.healthPayload 8 4 = s.selfB % 2 ^ 32 ∧
    leAt s.healthPayload 12 4 = s.uPair % 2 ^ 32 := by
  unfold State.healthPayload
  refine ⟨?_, ?_, ?_⟩
  · simp only [List.append_assoc]
    rw [leAt_zero (leBytes_length 1 _), leNat_leBytes]
    rfl
  · rw [List.append_assoc, List.append_assoc, leAt_mid (by simp) (leBytes_length 4 _), leNat_leBytes]
    rfl
  · rw [List.append_assoc, leAt_mid (by simp) (leBytes_length 4 _), leNat_leBytes]
    rfl

/-- The least ERRB less U_PAIR that holds at a tick. -/
def State.ownBoundAt (s : State) (t : Nat) : Nat := let e := s.errbAt t; if e = unbounded then e else e - min e (s.uPairAt t)

/-- Nothing is journaled where the payloads sent last are those in force. -/
theorem State.journalChanges_of_same {s : State} (hs : s.pair.select = s.selectPayload) (hl : s.pair.leap = s.leapPayload)
    (hq : s.pair.param = s.paramPayload) : s.journalChanges = s := by
  rw [State.journalChanges]
  simp only [hs, hl, hq, if_true, ite_self]

section
variable {s : State} (hp : s.paired = true) (ha : s.pair.any = true) (hon : s.supply.on = true) (hw : s.pair.warmWait = false)
include hp ha hon hw

/-- A record that is sent ends its command. -/
theorem State.sendRecord_ends (type : Nat) (b : List Byte) :
    (s.sendRecord type b).ends = .next (s.sendRecord type b) ∧ s.Sent (s.sendRecord type b) type b ∧ RegsBut [F.PAIR_JTX.TX] s (s.sendRecord type
      b) :=
  ⟨State.ends_of ((congrArg PairSt.warmWait (s.sendRecord_core type b) :).trans hw), State.sendRecord_sent hp ha hon type b⟩

theorem State.helloSend_sends (ht : s.channelOfKind 7 = none) (hc : s.pair.twinCheck = s.pairCheck) (hk : s.pair.rekey = none) :
    ∃ t, exec .helloSend s = .next t ∧ s.Sent t 0x01 (leBytes 8 Config.serial ++ leBytes 1 (s.get F.GLB_STRAP.HOME) ++ leBytes 1 s.role ++
      leBytes 1 s.pairState ++ leBytes 1 (s.get F.PAIR_STAT.VERD) ++ s.rcpDigest ++ leBytes 4 s.pairCheck) ∧ RegsBut [F.PAIR_JTX.TX] s t := by
  let b := leBytes 8 Config.serial ++ leBytes 1 (s.get F.GLB_STRAP.HOME) ++ leBytes 1 s.role ++ leBytes 1 s.pairState ++
    leBytes 1 (s.get F.PAIR_STAT.VERD) ++ s.rcpDigest ++ leBytes 4 s.pairCheck
  obtain ⟨hends, hsent⟩ := State.sendRecord_ends hp ha hon hw 0x01 b
  have hcore := s.sendRecord_core 0x01 b
  have hcheck : (s.sendRecord 0x01 b).pair.twinCheck = (s.sendRecord 0x01 b).pairCheck :=
    (congrArg PairSt.twinCheck hcore :).trans (hc.trans ((SendsOnly.refl s).sendRecord 0x01 b).pairCheck.symm)
  have hrekey : (s.sendRecord 0x01 b).pair.rekey = none := (congrArg PairSt.rekey hcore :).trans hk
  have hkeys : (s.sendRecord 0x01 b).reviewKeys = s.sendRecord 0x01 b := by
    rw [State.reviewKeys, if_pos hcheck, hrekey]
    rfl
  refine ⟨s.sendRecord 0x01 b, ?_, hsent⟩
  change State.ends (State.when s s.paired _) = _
  rw [hp, ← hends]
  change State.ends ((s.reviewTwin.sendRecord 0x01 _).reviewKeys) = _
  rw [State.reviewTwin_of_none ht, hkeys]

theorem State.healthSend_sends : ∃ t b, exec .healthSend s = .next t ∧ s.Sent t 0x03 b ∧ leAt b 0 1 = s.get F.PAIR_STAT.VERD % 256 ∧
    leAt b 8 4 = s.selfB % 2 ^ 32 ∧ leAt b 12 4 = s.uPair % 2 ^ 32 ∧ RegsBut [F.PAIR_JTX.TX, F.PAIR_UPAIR.UPAIR] s t := by
  obtain ⟨-, hsent, hregs⟩ := State.sendRecord_ends hp ha hon hw 0x03 s.healthPayload
  obtain ⟨hverd, hself, hpair⟩ := s.healthPayload_shows
  let t := (s.sendRecord 0x03 s.healthPayload).showUPair
  refine ⟨t, s.healthPayload, ?_, hsent, hverd, hself, hpair, .set (hregs.mono (by decide)) (by decide)⟩
  change State.ends (State.when s s.paired _) = _
  rw [hp]
  exact State.ends_of (t := t) ((congrArg PairSt.warmWait (s.sendRecord_core 0x03 s.healthPayload) :).trans hw)

theorem State.boundSend_sends (hr : s.role = 1) : ∃ t b, exec .boundSend s = .next t ∧ s.Sent t 0x04 b ∧ RegsBut [F.PAIR_JTX.TX] s t := by
  let b := leBytes 4 (max (s.ownBoundAt s.raw) (s.ownBoundAt (s.raw + 40000))) ++ leBytes 4 0
  obtain ⟨hends, hsent⟩ := State.sendRecord_ends hp ha hon hw 0x04 b
  refine ⟨s.sendRecord 0x04 b, b, ?_, hsent⟩
  change State.ends (State.when s (s.role == 1) _) = _
  rw [hr, ← hends]
  rfl

theorem State.digestSend_sends (hj : s.journals = true) (hr : s.raw % 625000 = 0) (hs : s.pair.select = s.selectPayload)
    (hl : s.pair.leap = s.leapPayload) (hq : s.pair.param = s.paramPayload) :
    ∃ t, exec .digestSend s = .next t ∧ s.Sent t 0x14 (leBytes 4 (s.pair.seq + 2 ^ 32 - 1) ++ s.digest ++ leBytes 4 0) ∧
      RegsBut [F.PAIR_JTX.TX] s t := by
  let b := leBytes 4 (s.pair.seq + 2 ^ 32 - 1) ++ s.digest ++ leBytes 4 0
  obtain ⟨hends, hsent⟩ := State.sendRecord_ends hp ha hon hw 0x14 b
  refine ⟨s.sendRecord 0x14 b, ?_, hsent⟩
  change State.ends (State.when s (s.journals && s.raw % 625000 == 0) _) = _
  rw [hj, hr, ← hends]
  change State.ends (s.journalChanges.sendRecord 0x14 _) = _
  rw [State.journalChanges_of_same hs hl hq]

end

/-! Acknowledgements and gaps. -/

/-- The counts that an acknowledgement of an open gap writes first. -/
def State.retxCounted (s : State) : State := if s.pair.gapAt.isSome then s.bumpSat F.PAIR_JERR.RETX else s

theorem State.retxCounted_eq (s : State) : s.retxCounted = { s with regs := s.retxCounted.regs } := by
  unfold State.retxCounted
  split <;> rfl

theorem State.get_retxCounted (s : State) {g : Fld} (h : g.key ≠ F.PAIR_JERR.RETX.key) : s.retxCounted.get g = s.get g := by
  unfold State.retxCounted
  split
  · exact State.get_bumpSat_ne s 1 h
  · rfl

theorem State.retxCounted_shows (s : State) : s.retxCounted.get F.PAIR_JERR.RETX =
    if s.pair.gapAt.isSome then min 65535 (s.get F.PAIR_JERR.RETX + 1) else s.get F.PAIR_JERR.RETX := by
  unfold State.retxCounted
  split
  · exact State.get_bumpSat_self s F.PAIR_JERR.RETX 1
  · rfl

/-- An acknowledgement of a paired unit in block lock goes out, and an open gap is counted. -/
theorem State.sendAck_sent {s : State} (hp : s.paired = true) (ha : s.pair.any = true) (hon : s.supply.on = true) (need answer : Nat) :
    s.Sent (s.sendAck need answer) 0x23 (leBytes 4 need ++ leBytes 1 answer ++ leBytes 3 0) ∧
      (s.sendAck need answer).get F.PAIR_JERR.RETX =
        (if s.pair.gapAt.isSome then min 65535 (s.get F.PAIR_JERR.RETX + 1) else s.get F.PAIR_JERR.RETX) ∧
      RegsBut [F.PAIR_JTX.TX, F.PAIR_JERR.RETX] s (s.sendAck need answer) := by
  let u := s.retxCounted
  let b := leBytes 4 need ++ leBytes 1 answer ++ leBytes 3 0
  have hu := s.retxCounted_eq
  have hpair : u.pair = s.pair := by rw [show u = _ from hu]
  have hpaired : u.paired = true := (congrArg (· != 0) (s.get_retxCounted (by decide))).trans hp
  obtain ⟨hsent, hregs⟩ := State.sendRecord_sent (s := u) hpaired (by rw [hpair]; exact ha) (by rw [show u = _ from hu]; exact hon) 0x23 b
  refine ⟨hsent.of_eq (by rw [show u = _ from hu]) (by rw [hpair]) (by rw [show u = _ from hu]), ?_, ?_⟩
  · exact (hregs _ (by decide) (by decide)).trans s.retxCounted_shows
  · exact fun g hb hne => (hregs g hb fun f hf => hne f (by simp_all)).trans (s.get_retxCounted (hne _ (by decide)))

theorem State.ackSend_sends {s : State} (hp : s.paired = true) (ha : s.pair.any = true) (hon : s.supply.on = true) (hw : s.pair.warmWait = false)
    (hn : ¬ (s.role = 2 ∧ s.pair.phase = 1)) :
    ∃ t, exec .ackSend s = .next t ∧ s.Sent t 0x23 (leBytes 4 (s.pair.next.getD 0) ++ leBytes 1 0 ++ leBytes 3 0) ∧
      t.get F.PAIR_JERR.RETX = (if s.pair.gapAt.isSome then min 65535 (s.get F.PAIR_JERR.RETX + 1) else s.get F.PAIR_JERR.RETX) ∧
      RegsBut [F.PAIR_JTX.TX, F.PAIR_JERR.RETX] s t := by
  refine ⟨s.ackNow 0, ?_, State.sendAck_sent hp ha hon _ 0⟩
  change State.ends (State.when s (s.paired && s.pair.any) _) = _
  rw [hp, ha]
  change State.ends (if s.role = 2 ∧ s.pair.phase = 1 then s.askSync else s.ackNow 0) = _
  rw [if_neg hn]
  exact State.ends_of ((s.ackNow_steady 0).warmWait.trans hw)

/-- A gap that opens is acknowledged, and the stream awaits what it awaited. -/
theorem State.openGap_shows (s : State) : LinkSteady cleanFlds (s.updPair (fun p => { p with gapAt := some (p.gapAt.getD s.raw) })) s.openGap :=
  State.ackNow_steady _ 0

section
variable {s : State} {lane seq : Nat} {b : List Byte}

/-- A unit that expects a record is paired, has a lane in block lock, and no warm restart of it waits. -/
theorem State.Expects.link (h : s.Expects lane seq b) : s.paired = true ∧ s.pair.any = true ∧ s.pair.warmWait = false := by
  obtain ⟨hp, -, hlock, -, -, -, hw, -⟩ := h
  refine ⟨hp, ?_, hw⟩
  unfold PairSt.any
  split at hlock
  · rw [hlock]; rfl
  · rw [hlock, Bool.or_true]

/-- A record that comes early waits, and opens a gap. -/
theorem State.boundRecord_early {ahead tick : Nat} (h : s.Expects lane seq b) (hn : s.pair.next = some seq) (h1 : 1 ≤ ahead) (h2 : ahead < 2 ^ 31) :
    ∃ t, exec (.boundRecord lane (recordBytes ((seq + ahead) % 2 ^ 32) 0x04 0 tick b)) s = .next t ∧ t.pair.bound = s.pair.bound ∧
      t.pair.early = [((seq + ahead) % 2 ^ 32, 4, b)] ∧ t.pair.gapAt.isSome = true ∧ t.pair.next = some seq := by
  let n := (seq + ahead) % 2 ^ 32
  obtain ⟨-, -, -, -, hseq, hearly, hwarm, -⟩ := id h
  let a := s.updPair (fun p => { p with early := p.early.filter (fun e => e.1 != n) ++ [(n, 4, b)] })
  have hrec : s.receive 0x04 (recordBytes n 0x04 0 tick b) = a.openGap := by
    have hahead : (n + 2 ^ 32 - s.pair.next.getD n) % 2 ^ 32 = ahead := by
      rw [hn, Option.getD_some]
      omega
    rw [State.receive_of h (by omega) (by decide)]
    dsimp only
    rw [if_neg (fun h0 => by omega), if_pos (hahead.trans_lt h2)]
  have hk := a.openGap_shows
  have hwarm' : a.openGap.pair.warmWait = false := hk.warmWait.trans hwarm
  refine ⟨a.openGap, ?_, (congrArg PairSt.bound hk.stream :), hk.early.trans ?_, ?_, (congrArg PairSt.next hk.stream :).trans hn⟩
  · refine (State.laneRecord_of h _).trans ?_
    rw [hrec, State.resumeWarm_of_not_waiting hwarm']
  · change s.pair.early.filter _ ++ _ = _
    rw [hearly]
    rfl
  · have hgap : a.openGap.pair.gapAt = some (a.pair.gapAt.getD a.raw) := (congrArg PairSt.gapAt hk.stream :)
    rw [hgap]
    rfl

/-- A record of a wrong type is discarded and opens a gap. -/
theorem State.boundRecord_damaged {bytes : List Byte} (h : s.Expects lane seq b) (ht : leAt bytes 4 1 ≠ 4) (hon : s.supply.on = true) :
    ∃ t, exec (.boundRecord lane bytes) s = .next t ∧ t.pair.bound = s.pair.bound ∧ t.pair.gapAt.isSome = true ∧ t.pair.next = s.pair.next ∧
      s.Sent t 0x23 (leBytes 4 (s.pair.next.getD 0) ++ leBytes 1 0 ++ leBytes 3 0) := by
  obtain ⟨hp, ha, hw⟩ := h.link
  have hrec : s.receive 0x04 bytes = s.openGap := by
    have hoff : ¬ (!s.paired || !s.pair.any) = true := by rw [hp, ha]; decide
    rw [State.receive, if_neg hoff]
    exact if_pos (.inr (.inl ht))
  have hk := s.openGap_shows
  have hwarm : s.openGap.pair.warmWait = false := hk.warmWait.trans hw
  refine ⟨s.openGap, ?_, (congrArg PairSt.bound hk.stream :), ?_, (congrArg PairSt.next hk.stream :), ?_⟩
  · refine (State.laneRecord_of h _).trans ?_
    rw [hrec, State.resumeWarm_of_not_waiting hwarm]
  · have hgap : s.openGap.pair.gapAt = some (s.pair.gapAt.getD s.raw) := (congrArg PairSt.gapAt hk.stream :)
    rw [hgap]
    rfl
  · exact (State.sendAck_sent (s := s.updPair (fun p => { p with gapAt := some (p.gapAt.getD s.raw) })) hp ha hon _ 0).1

/-- A gap that is not filled in time is JGAP; a standby in step or in JOIN enters JOIN again. -/
theorem State.journalGapTimeout_loses {t0 : Nat} (hg : s.pair.gapAt = some t0) (ht : t0 + 62500 ≤ s.raw) (he : s.pair.early = [])
    (hw : s.pair.warmWait = false) :
    ∃ t, exec .journalGapTimeout s = .next t ∧ t.bit F.PAIR_STAT.JGAP = true ∧ t.pair.gapAt = none ∧ t.pair.next = none ∧
      (s.role = 2 → 4 ≤ s.pairState → t.pairState = 4 ∧ t.role = 2) := by
  let a := (s.updPair (fun p => { p with gapAt := none, next := none })).pairFlag F.PAIR_STAT.JGAP
  let u := if a.role = 2 ∧ 4 ≤ a.pairState then a.joinPair else a
  have hpair : a.pair = { s.pair with gapAt := none, next := none } := State.pairFlag_pair _ _
  have hget {g : Fld} (hb : g.blk ≠ 0x11) (hk : g.key ≠ F.PAIR_STAT.JGAP.key) : a.get g = s.get g := State.get_pairFlag_ne (s.updPair _) hb hk
  have hjgap : a.bit F.PAIR_STAT.JGAP = true := State.pairFlag_bit _ (by decide) (by decide)
  have hu : LinkSteady roleFlds a u := .ite a.joinPair_inRole.steady (.refl _ a)
  have hearly : u.pair.early = [] := hu.early.trans (by rw [hpair]; exact he)
  have hlost : s.gapLost = u := by
    have hnx : s.gapLost = u.drainEarly u.pair.early.length := by
      unfold State.gapLost
      rw [he]
      rfl
    rw [hnx, hearly]
    rfl
  refine ⟨u, ?_, ?_, ?_, ?_, fun hr hs => ?_⟩
  · change State.ends (match s.pair.gapAt with | none => s | some t => _) = _
    rw [hg]
    change State.ends (State.when s (decide (t0 + 62500 ≤ s.raw)) _) = _
    rw [decide_eq_true ht]
    change State.ends s.gapLost = _
    rw [hlost]
    exact State.ends_of (hu.warmWait.trans (by rw [hpair]; exact hw))
  · exact (State.bit_eq_of_get (hu.get (by decide) (by decide) (by decide) (by decide))).trans hjgap
  · exact (congrArg PairSt.gapAt hu.stream :).trans (congrArg PairSt.gapAt hpair)
  · exact (congrArg PairSt.next hu.stream :).trans (congrArg PairSt.next hpair)
  · have hin : a.role = 2 ∧ 4 ≤ a.pairState :=
      ⟨(hget (by decide) (by decide)).trans hr, hs.trans_eq (hget (g := F.PAIR_STAT.STATE) (by decide) (by decide)).symm⟩
    have hjoin : u = a.joinPair := if_pos hin
    rw [hjoin]
    exact ⟨a.joinPair_inRole.pairState, a.joinPair_inRole.role⟩

end

/-- Settles O44: each record that a unit sends of its own accord, and the three ways of a gap, by their lemmas. -/
theorem sendingAndGaps : Obligations.SendingAndGaps := by
  unfold Obligations.SendingAndGaps
  refine ⟨fun s hp ha hon hw ht => ⟨?_, ?_, ?_, ?_, ?_⟩, fun s lane seq ahead tick b h hn h1 h2 _ => ?_, fun s lane seq b bytes h ht hon => ?_,
    fun s t0 hg ht he hw => ?_⟩
  · exact fun hc hk => State.helloSend_sends hp ha hon hw ht hc hk
  · exact State.healthSend_sends hp ha hon hw
  · exact fun hr => State.boundSend_sends hp ha hon hw hr
  · exact fun hj hr hs hl hq => State.digestSend_sends hp ha hon hw hj hr hs hl hq
  · exact fun hn => State.ackSend_sends hp ha hon hw hn
  · exact State.boundRecord_early h hn h1 h2
  · exact State.boundRecord_damaged h ht hon
  · exact State.journalGapTimeout_loses hg ht he hw

end Sys2Proof.Machine

/-! PROOF. A record that is taken in order, and what a HELLO makes of the roles (R455 to R457, R465). -/

namespace Sys2Proof.Machine

/-- The unit has counted the record with this SEQ and awaits the one after it. -/
def State.taken (s : State) (seq : Nat) : State := (s.awaiting seq).bump F.PAIR_JRX.RX

/-- No gap of the stream is open. -/
def State.gapless (s : State) : State := s.updPair (fun p => { p with gapAt := none })

section
variable {s : State} {lane seq type tick : Nat} {b : List Byte}

theorem State.get_taken (s : State) (seq : Nat) {g : Fld} (h : g.key ≠ F.PAIR_JRX.RX.key) : (s.taken seq).get g = s.get g :=
  State.get_bump_ne (s.awaiting seq) 1 h

theorem State.bit_taken (s : State) (seq : Nat) {g : Fld} (h : g.key ≠ F.PAIR_JRX.RX.key) : (s.taken seq).bit g = s.bit g :=
  State.bit_eq_of_get (s.get_taken seq h)

theorem State.taken_regs (s : State) (seq : Nat) : RegsBut [F.PAIR_JRX.RX] s (s.taken seq) := .set (.of_regs (.refl _ s) rfl) (by decide)

theorem State.taken_outside (s : State) (seq : Nat) : RegsOutside [0xF, 0x11] s (s.taken seq) := .set (.of_regs (.refl _ s) rfl) (by decide)

/-- A record in order is applied where its effect leaves what waits of the stream. -/
theorem State.laneRecord_taken (h : s.Expects lane seq b) (ht : type < 256) {u : State} (hu : (s.awaiting seq).applyRecord type b = u)
    (he : u.pair.early = s.pair.early) (hw : u.pair.warmWait = s.pair.warmWait) : s.laneRecord type lane (recordBytes seq type 0 tick b)
      = .next u.gapless := by
  obtain ⟨-, -, -, -, -, hearly, hwarm, -⟩ := id h
  exact State.laneRecord_applies h ht hu (he.trans hearly) (hw.trans hwarm)

end

/-! HELLO. -/

/-- The fields that a HELLO may write but for what it tells itself. -/
def helloFlds : List Fld := [F.PAIR_STAT.HOMECONF, F.PAIR_STAT.HOME, F.PAIR_STAT.RCPDIFF, F.PAIR_STAT.JOINED] ++ roleFlds

section
variable {s t : State}

theorem LinkSteady.roles (h : LinkSteady helloFlds s t) {u : State} (k : LinkSteady roleFlds t u) : LinkSteady helloFlds s u :=
  h.trans (k.mono fun _ => List.mem_append_right _)

theorem State.cancelSwap_shown (s : State) : LinkSteady roleFlds s s.cancelSwap.showUPair := s.cancelSwap_roles.kept (.showUPair (.refl _))

theorem State.backToSeek_steady (s : State) : LinkSteady roleFlds s s.backToSeek := by
  have hw : LinkSteady roleFlds s (s.sets [(F.PAIR_STAT.ROLE, 0), (F.PAIR_STAT.STATE, 1)]) := .sets (.refl _ s) (by decide)
  refine (?_ : LinkSteady roleFlds s _).trans (LinkKept.steady (.roleChanged (.refl _)))
  exact ⟨hw.regs.updPair, rfl⟩

/-- The active follows a twin that has left the pair or that joins. -/
theorem State.unjoin_steady (s : State) (st : Nat) : LinkSteady roleFlds s
    ((s.sets [(F.PAIR_STAT.STATE, st), (F.PAIR_STAT.ARMED, 0)]).updPair (fun q => { q with exch := none })).cancelSwap.showUPair := by
  have hw : LinkSteady roleFlds s ((s.set F.PAIR_STAT.STATE st).set F.PAIR_STAT.ARMED 0) := .set (.set (.refl _ s) (by decide)) (by decide)
  refine (?_ : LinkSteady roleFlds s _).trans (State.cancelSwap_shown _)
  exact ⟨hw.regs.updPair, rfl⟩

theorem State.followTwin_steady (s : State) : LinkSteady helloFlds s s.followTwin := by
  have hr {u : State} (k : LinkSteady roleFlds s u) : LinkSteady helloFlds s u := (LinkSteady.refl _ s).roles k
  unfold State.followTwin
  extract_lets p
  refine .ite (.ite (.refl _ s) (hr s.backToSeek_steady)) (.ite (hr s.joinPair_inRole.steady) (.ite ?_ (.ite (hr (s.unjoin_steady 2)) (.refl _ s))))
  exact .ite (.pairFlag (.set (.refl _ s) (by decide)) (by decide)) (.ite (hr (s.unjoin_steady 4)) (.refl _ s))

theorem State.sendKeyx_kept (s : State) (kind : Nat) (b : List Byte) : LinkKept s (s.sendKeyx kind b) := .foldl (.refl s) fun _ _ _ h => h.sendRecord

theorem State.reviewKeys_steady (s : State) : LinkSteady roleFlds s s.reviewKeys := by
  have hu {f : PairSt → PairSt} (hf : ∀ p, (f p).stream = p.stream) : LinkSteady roleFlds s (s.updPair f) := .updPair (.refl _ s) hf
  unfold State.reviewKeys
  extract_lets c
  split
  · split
    · exact ⟨.updPair (.refl _ s), rfl⟩
    · exact .refl _ s
  · split
    · exact .refl _ s
    · exact .kept ⟨.updPair (.refl _ s), rfl⟩ (State.sendKeyx_kept _ 1 _)

/-- What a HELLO tells of the twin. -/
def State.helloTold (s : State) (b : List Byte) : State :=
  let home := leAt b 8 1 == 1
  (s.sets [(F.PAIR_TWINID.MODULE, leAt b 0 8), (F.PAIR_STAT.TVERD, leAt b 11 1)]).updPair (fun p => { p with
    hello := true, twinHome := home, twinRole := leAt b 9 1, twinState := leAt b 10 1, twinRcp := sliceB b 12 8, twinCheck := leAt b 20 4
    conflict := home == s.bit F.GLB_STRAP.HOME })

theorem State.applyHello_steady (s : State) (b : List Byte) : LinkSteady helloFlds (s.helloTold b) (s.applyHello b) := by
  unfold State.applyHello
  extract_lets home a c d diff e f g
  have hc : LinkSteady helloFlds a c := .ite (.pairFlag (.refl _ a) (by decide)) (.refl _ a)
  have hd : LinkSteady helloFlds a d := .set hc (by decide)
  have he : LinkSteady helloFlds a e := .set hd (by decide)
  have hf : LinkSteady helloFlds a f := .ite (he.roles e.joinPair_inRole.steady) he
  have hg : LinkSteady helloFlds a g := by
    unfold g
    split
    · exact hf.kept (.parts (.parts (.refl f)))
    · exact hf
  exact ((hg.trans g.followTwin_steady).roles (State.reviewKeys_steady _)).roles ((State.reviewClean_steady _).mono (by decide))

end

end Sys2Proof.Machine

/-! PROOF. The comparison of the two units' pulses per second (R466). -/

namespace Sys2Proof.Machine

/-! The two units' comparison. -/

theorem roundAway_bounds {q : Rat} {n : Nat} (h : absR q < n) : -(n : Int) ≤ roundAway q ∧ roundAway q ≤ n := by
  have hn : ((n : Int) : Rat) = (n : Rat) := Int.cast_natCast n
  have hlt {r : Rat} (hr : r < n) : (r + 1 / 2).floor ≤ (n : Int) := by
    have hfloor : (r + 1 / 2).floor < (n : Int) + 1 := Rat.floor_lt_iff.mpr (by push_cast; linarith)
    omega
  have hpos {r : Rat} (hr : 0 ≤ r) : 0 ≤ (r + 1 / 2).floor := Rat.le_floor_iff.mpr (by push_cast; linarith)
  unfold absR at h
  unfold roundAway
  split
  · next h0 =>
    rw [if_neg (not_lt.mpr h0)] at h
    have h1 := hlt h
    have h2 := hpos h0
    omega
  · next h0 =>
    have hneg : q < 0 := not_le.mp h0
    rw [if_pos hneg] at h
    have h1 := hlt h
    have h2 := hpos (r := -q) (by linarith)
    omega

/-- A value within its field is written as it is. -/
theorem State.setISat_of_fits (s : State) {f : Fld} {v : Int} (hlo : -(2 ^ (f.w - 1) : Int) ≤ v) (hhi : v < 2 ^ (f.w - 1))
    : s.setISat f v = s.setI f v := by
  rw [State.setISat, min_eq_right (by omega), max_eq_right hlo]

theorem State.reviewJoin_of_active {s : State} (h : s.role ≠ 2) : s.reviewJoin = s := by
  unfold State.reviewJoin
  extract_lets lim
  split
  · exact if_neg fun k => h k.1
  · rfl

/-- The comparison in ps of both units' m in sixteenths of a crumb. -/
def comparison (own twin : Int) : Rat := ((twin - own : Int) : Rat) * 25 / 256

/-- The comparison of both units' m is held and shown. -/
def State.compared (s : State) (own twin : Int) : State :=
  ((s.updPair (fun p => { p with xPrev := p.x.map (·.1), x := some (comparison own twin, s.raw) })).setISat F.PAIR_X.X
    (roundAway (comparison own twin))).setI F.PAIR_DLY.D (roundAway (((twin + own : Int) : Rat) / 32))

/-- A comparison within half of THR arms. -/
def State.armedWithin (s : State) (x : Rat) : State :=
  if s.pairState = 5 ∧ absR x * 2 ≤ (s.get F.PAIR_THR.THR : Rat) then s.set F.PAIR_STAT.ARMED 1 else s

section
variable {s : State}

theorem State.compared_outside (own twin : Int) : RegsOutside [0xF, 0x11] s (s.compared own twin) :=
  .set (.set (.of_regs (.refl _ s) rfl) (by decide)) (by decide)

theorem State.get_compared (own twin : Int) {g : Fld} (h1 : g.key ≠ F.PAIR_X.X.key) (h2 : g.key ≠ F.PAIR_DLY.D.key) :
    (s.compared own twin).get g = s.get g := (State.get_set_ne _ _ h2).trans (State.get_set_ne (s.updPair _) _ h1)

/-- The active in step takes a comparison within THR: it is shown, and may arm. -/
theorem State.newX_of {own twin : Int} {stamp : Nat} (hr : s.role = 1) (hs : s.pairState = 5) (hc : s.channelOfKind 7 = none)
    (ht : absR (comparison own twin) ≤ (s.get F.PAIR_THR.THR : Rat)) :
    s.newX own twin stamp = ((s.compared own twin).armedWithin (comparison own twin)).reviewClean.showUPair := by
  let b := s.compared own twin
  have hkind : b.channelOfKind 7 = none := ((State.compared_outside own twin).channelOfKind (by decide) 7).trans hc
  have hstate : b.pairState = 5 := (State.get_compared own twin (by decide) (by decide)).trans hs
  have hthr : b.get F.PAIR_THR.THR = s.get F.PAIR_THR.THR := State.get_compared own twin (by decide) (by decide)
  have hrole : (b.armedWithin (comparison own twin)).role ≠ 2 := by
    have hkeep : (b.armedWithin (comparison own twin)).role = b.role := by
      unfold State.armedWithin
      split
      · exact State.get_set_ne b 1 (by decide)
      · rfl
    have hb : b.role = 1 := (State.get_compared own twin (by decide) (by decide)).trans hr
    rw [hkeep, hb]
    decide
  unfold State.newX
  extract_lets x a u c d thr e f
  have hu : u = b := rfl
  have hcb : c = b := by
    unfold c
    rw [hu, hkind]
  have hd : d = b := by
    unfold d
    rw [hcb, State.reviewDispute, if_pos (by rw [hstate]; decide)]
  have he : e = b.armedWithin (comparison own twin) := by
    have hd' : thr = (b.get F.PAIR_THR.THR : Rat) := by
      unfold thr
      rw [hd]
    unfold e
    rw [hd, hd']
    rfl
  have hf : f = e := if_neg (by
    change ¬ (d.get F.PAIR_THR.THR : Rat) < absR x
    rw [hd, hthr]
    exact not_lt.mpr ht)
  rw [hf, he, State.reviewJoin_of_active hrole]

theorem State.armedWithin_steady (x : Rat) : LinkSteady [F.PAIR_STAT.ARMED] s (s.armedWithin x) := .ite (.set (.refl _ s) (by decide)) (.refl _ s)

end

section
variable {s : State} {own twin : Int}

/-- The comparison is shown while it lies within its register. -/
theorem State.compared_getI (hb : absR (comparison own twin) < 1073741824) : (s.compared own twin).getI F.PAIR_X.X = roundAway (comparison own
    twin) := by
  obtain ⟨hlo, hhi⟩ := roundAway_bounds (n := 1073741824) (by exact_mod_cast hb)
  have hlo' : -(2 ^ 31 : Int) ≤ roundAway (comparison own twin) := by omega
  have hhi' : roundAway (comparison own twin) < 2 ^ 31 := by omega
  unfold State.compared
  generalize s.updPair _ = a
  rw [State.setISat_of_fits a (f := F.PAIR_X.X) hlo' hhi', State.getI, State.setI, State.get_set_ne _ _ (by decide)]
  exact State.getI_setI a (f := F.PAIR_X.X) (by decide) hlo' hhi'

theorem State.compared_holds : (s.compared own twin).pair.x = some (comparison own twin, s.raw) ∧
    (s.compared own twin).pair.xPrev = s.pair.x.map (·.1) ∧ (s.compared own twin).pair.early = s.pair.early ∧
    (s.compared own twin).pair.warmWait = s.pair.warmWait := ⟨rfl, rfl, rfl, rfl⟩

/-- The m of both units have been compared. -/
def State.unheld (s : State) : State := s.updPair (fun p => { p with mOwn := none, mTwin := none })

theorem State.tryX_of {n stamp : Nat} (hown : s.pair.mOwn = some (n, own, stamp)) (htwin : s.pair.mTwin = some (n, twin)) :
    s.tryX = s.unheld.newX own twin stamp := by
  unfold State.tryX
  rw [hown, htwin]
  exact if_pos rfl

/-- A comparison of the active in step within THR: what is shown and held of it, and when it arms. -/
theorem State.newX_shows {stamp : Nat} (hr : s.role = 1) (hs : s.pairState = 5) (hc : s.channelOfKind 7 = none)
    (ht : absR (comparison own twin) ≤ (s.get F.PAIR_THR.THR : Rat)) (hb : absR (comparison own twin) < 1073741824) :
    LinkSteady ([F.PAIR_STAT.ARMED] ++ cleanFlds) (s.compared own twin) (s.newX own twin stamp) ∧
      (s.newX own twin stamp).getI F.PAIR_X.X = roundAway (comparison own twin) ∧
      (absR (comparison own twin) * 2 ≤ (s.get F.PAIR_THR.THR : Rat) → (s.newX own twin stamp).bit F.PAIR_STAT.ARMED = true) := by
  let c := s.compared own twin
  rw [State.newX_of hr hs hc ht]
  have hclean : LinkSteady cleanFlds (c.armedWithin (comparison own twin)) (c.armedWithin (comparison own twin)).reviewClean.showUPair :=
    (State.reviewClean_steady _).kept (.showUPair (.refl _))
  have hk := ((State.armedWithin_steady (comparison own twin)).mono (by decide)).trans (hclean.mono (gs := [F.PAIR_STAT.ARMED] ++ cleanFlds)
    (by decide))
  refine ⟨hk, ?_, fun harm => ?_⟩
  · exact (congrArg (toSigned 32) (hk.get (g := F.PAIR_X.X) (by decide) (by decide) (by decide) (by decide))).trans (State.compared_getI hb)
  · have harmed : c.armedWithin (comparison own twin) = c.set F.PAIR_STAT.ARMED 1 := by
      refine if_pos ⟨(State.get_compared own twin (by decide) (by decide)).trans hs, ?_⟩
      rw [State.get_compared own twin (by decide) (by decide)]
      exact harm
    have hbit : (c.armedWithin (comparison own twin)).bit F.PAIR_STAT.ARMED = true := by rw [harmed]; exact State.bit_set c 1 rfl
    exact (State.bit_eq_of_get (hclean.get (by decide) (by decide) (by decide) (by decide))).trans hbit

end

end Sys2Proof.Machine

/-! PROOF. The stream's records in order (R455, R460, R462 to R468, R477). -/

namespace Sys2Proof.Machine

/-! HELLO, PPSM, HEALTH, BOUND and RESULT. -/

section
variable {s : State} {lane seq : Nat} {b : List Byte} (tick : Nat) (h : s.Expects lane seq b)
include h

theorem State.helloRecord_tells : ∃ t, exec (.helloRecord lane (recordBytes seq 0x01 0 tick b)) s = .next t ∧ t.pair.hello = true ∧
    t.pair.twinRole = leAt b 9 1 ∧ t.pair.twinState = leAt b 10 1 ∧ t.pair.twinCheck = leAt b 20 4 ∧
    t.pair.conflict = ((leAt b 8 1 == 1) == s.bit F.GLB_STRAP.HOME) ∧ t.get F.PAIR_TWINID.MODULE = leAt b 0 8 ∧
    t.get F.PAIR_STAT.TVERD = leAt b 11 1 % 4 := by
  let a := (s.taken seq).helloTold b
  have hk : LinkSteady helloFlds a ((s.taken seq).applyHello b) := State.applyHello_steady _ b
  refine ⟨_, State.laneRecord_taken h (by decide) rfl hk.early hk.warmWait, (congrArg PairSt.hello hk.stream :),
    (congrArg PairSt.twinRole hk.stream :),
    (congrArg PairSt.twinState hk.stream :), (congrArg PairSt.twinCheck hk.stream :), (congrArg PairSt.conflict hk.stream :).trans ?_, ?_, ?_⟩
  · exact congrArg (fun x => (leAt b 8 1 == 1) == x) (s.bit_taken seq (by decide))
  · refine (hk.get (by decide) (by decide) (by decide) (by decide)).trans ?_
    refine (State.get_set_ne (f := F.PAIR_STAT.TVERD) ((s.taken seq).set F.PAIR_TWINID.MODULE (leAt b 0 8)) _ (by decide)).trans ?_
    exact State.get_set_of_lt _ (leAt_lt b 0 8)
  · exact (hk.get (by decide) (by decide) (by decide) (by decide)).trans (State.get_set_self _ _ _)

theorem State.ppsmRecord_holds (hm : s.pair.mOwn = none) : ∃ t, exec (.ppsmRecord lane (recordBytes seq 0x02 0 tick b)) s = .next t ∧
    t.pair.mTwin = some (leAt b 0 8, toSigned 64 (leAt b 8 8)) ∧ RegsBut [F.PAIR_JRX.RX] s t := by
  let a := (s.taken seq).updPair (fun p => { p with mTwin := some (leAt b 0 8, toSigned 64 (leAt b 8 8)) })
  have ha : a.tryX = a := by
    have hown : a.pair.mOwn = none := hm
    unfold State.tryX
    rw [hown]
  exact ⟨a.gapless, State.laneRecord_taken h (by decide) ha rfl rfl, rfl, (s.taken_regs seq).of_regs rfl⟩

theorem State.ppsmRecord_compares {own twin : Int} {stamp : Nat} (htwin : toSigned 64 (leAt b 8 8) = twin)
    (hm : s.pair.mOwn = some (leAt b 0 8, own, stamp)) (hr : s.role = 1) (hs : s.pairState = 5)
    (hc : s.channelOfKind 7 = none) (ht : absR (comparison own twin) ≤ (s.get F.PAIR_THR.THR : Rat))
    (hb : absR (comparison own twin) < 1073741824) :
    ∃ t, exec (.ppsmRecord lane (recordBytes seq 0x02 0 tick b)) s = .next t ∧
      t.getI F.PAIR_X.X = roundAway (comparison own twin) ∧
      t.pair.x = some (comparison own twin, s.raw) ∧ t.pair.xPrev = s.pair.x.map (·.1) ∧
      (absR (comparison own twin) * 2 ≤ (s.get F.PAIR_THR.THR : Rat) → t.bit F.PAIR_STAT.ARMED = true) := by
  let a := (s.taken seq).updPair (fun p => { p with mTwin := some (leAt b 0 8, toSigned 64 (leAt b 8 8)) })
  let v := a.unheld
  have hget {g : Fld} (hk : g.key ≠ F.PAIR_JRX.RX.key) : v.get g = s.get g := s.get_taken seq hk
  have hkind : v.channelOfKind 7 = none := (((s.taken_outside seq).of_regs (u := v) rfl).channelOfKind (by decide) 7).trans hc
  have htry : a.tryX = v.newX own twin stamp := State.tryX_of (n := leAt b 0 8) hm (by rw [← htwin]; rfl)
  obtain ⟨hk, hx, harm⟩ := State.newX_shows (stamp := stamp) ((hget (by decide)).trans hr) ((hget (by decide)).trans hs) hkind
    (by rw [hget (by decide)]; exact ht) hb
  rw [hget (by decide)] at harm
  generalize v.newX own twin stamp = u at hk hx harm htry
  obtain ⟨hx', hprev, hearly, hwarm⟩ := v.compared_holds (own := own) (twin := twin)
  have hux : u.pair.x = (v.compared own twin).pair.x := (congrArg PairSt.x hk.stream :)
  have huprev : u.pair.xPrev = (v.compared own twin).pair.xPrev := (congrArg PairSt.xPrev hk.stream :)
  exact ⟨u.gapless, State.laneRecord_taken h (by decide) htry (hk.early.trans hearly) (hk.warmWait.trans hwarm), hx, hux.trans hx',
    huprev.trans hprev, harm⟩

theorem State.healthRecord_shows (hr : s.role ≠ 2) (hc : s.channelOfKind 7 = none) :
    ∃ t, exec (.healthRecord lane (recordBytes seq 0x03 0 tick b)) s = .next t ∧ t.get F.PAIR_STAT.TVERD = leAt b 0 1 % 4 ∧
      t.get F.PAIR_TWINB.B = leAt b 8 4 ∧ RegsBut [F.PAIR_JRX.RX, F.PAIR_STAT.TVERD, F.PAIR_TWINB.B, F.PAIR_UPAIR.UPAIR] s t := by
  let v := (s.taken seq).set F.PAIR_STAT.TVERD (leAt b 0 1)
  let a := v.set F.PAIR_TWINB.B (leAt b 8 4)
  have hkind : a.channelOfKind 7 = none :=
    (RegsOutside.channelOfKind (.set (.set (s.taken_outside seq) (by decide)) (by decide)) (by decide) 7).trans hc
  have hrole : a.role ≠ 2 := by
    have hkeep : a.role = s.role := (State.get_set_ne v _ (by decide)).trans ((State.get_set_ne _ _ (by decide)).trans (s.get_taken seq (by decide)))
    rw [hkeep]
    exact hr
  have hu : (s.taken seq).applyHealth b = a.showUPair := by
    unfold State.applyHealth
    extract_lets x y
    have hy : y = a := by
      unfold y
      rw [show x.channelOfKind 7 = none from hkind]
      rfl
    rw [hy, State.reviewJoin_of_active hrole]
  have hregs : RegsBut [F.PAIR_JRX.RX, F.PAIR_STAT.TVERD, F.PAIR_TWINB.B, F.PAIR_UPAIR.UPAIR] s a :=
    .set (.set ((s.taken_regs seq).mono (by decide)) (by decide)) (by decide)
  refine ⟨a.showUPair.gapless, State.laneRecord_taken h (by decide) hu rfl rfl, ?_, ?_, .of_regs (.set hregs (by decide)) rfl⟩
  · exact (State.get_set_ne a _ (by decide)).trans ((State.get_set_ne v _ (by decide)).trans (State.get_set_self _ _ _))
  · exact (State.get_set_ne a _ (by decide)).trans (State.get_set_of_lt v (leAt_lt b 8 4))

theorem State.boundRecord_holds : ∃ t, exec (.boundRecord lane (recordBytes seq 0x04 0 tick b)) s = .next t ∧
    t.pair.bound = some (leAt b 0 4, s.raw) ∧ RegsBut [F.PAIR_JRX.RX, F.PAIR_UPAIR.UPAIR] s t := by
  let a := (s.taken seq).updPair (fun p => { p with bound := some (leAt b 0 4, s.raw) })
  have hregs : RegsBut [F.PAIR_JRX.RX, F.PAIR_UPAIR.UPAIR] s a := ((s.taken_regs seq).mono (by decide)).of_regs rfl
  exact ⟨a.showUPair.gapless, State.laneRecord_taken h (by decide) rfl rfl rfl, rfl, .of_regs (.set hregs (by decide)) rfl⟩

theorem State.resultRecord_waits (hr : s.role = 2) : ∃ t, exec (.resultJournalRecord lane (recordBytes seq 0x10 0 tick b)) s = .next t ∧
    t.pair.results = s.pair.results ++ [{ ch := leAt b 0 1, freq := leAt b 1 1 == 4, value := if leAt b 1 1 = 4 then
      (toSigned 64 (leAt b 4 8) : Rat) / 1000000000000000000 else (toSigned 64 (leAt b 4 8) : Rat) / 65536, stamp := leAt b 12 8 }] ∧
    RegsBut [F.PAIR_JRX.RX] s t := by
  have hrole : ¬ (s.taken seq).role ≠ 2 := not_not.mpr ((s.get_taken seq (by decide)).trans hr)
  refine ⟨_, State.laneRecord_taken h (by decide) (if_neg hrole) rfl rfl, ?_, (s.taken_regs seq).of_regs rfl⟩
  simp only [beq_iff_eq]
  rfl

theorem State.resultRecord_passes (hr : s.role ≠ 2) : ∃ t, exec (.resultJournalRecord lane (recordBytes seq 0x10 0 tick b)) s = .next t ∧
    t.pair.results = s.pair.results ∧ RegsBut [F.PAIR_JRX.RX] s t := by
  have hrole : (s.taken seq).role ≠ 2 := fun k => hr ((s.get_taken seq (by decide)).symm.trans k)
  exact ⟨_, State.laneRecord_taken h (by decide) (if_pos hrole) rfl rfl, rfl, (s.taken_regs seq).of_regs rfl⟩

end

/-! Records in step. -/

theorem State.inStep_iff {s : State} : s.inStep = true ↔ s.role = 2 ∧ (s.pairState = 5 ∨ s.pairState = 6) := by
  rw [State.inStep, Bool.and_eq_true, Bool.or_eq_true, beq_iff_eq, beq_iff_eq, beq_iff_eq]

theorem State.inStep_taken {s : State} (seq : Nat) (h : s.inStep = true) : (s.taken seq).inStep = true := by
  rw [State.inStep_iff] at h ⊢
  have hrole : (s.taken seq).role = s.role := s.get_taken seq (by decide)
  have hstate : (s.taken seq).pairState = s.pairState := s.get_taken seq (by decide)
  rwa [hrole, hstate]

/-- SRV0's shown state, the pair's state and the servos stay. -/
structure SrvShown (s t : State) : Prop where
  shown : t.srvState = s.srvState
  pair : t.pair = s.pair
  hrt : t.hrt = s.hrt

section
variable {s t : State}

theorem SrvShown.set (h : SrvShown s t) {f : Fld} {v : Nat} (hf : (F.HRT_SRV_STAT.STATE 0).key ≠ f.key) : SrvShown s (t.set f v) :=
  ⟨(State.get_set_ne t v hf).trans h.shown, h.pair, h.hrt⟩

theorem SrvShown.flag (h : SrvShown s t) {f : Fld} {ev inst detail : Nat} (hf : (F.HRT_SRV_STAT.STATE 0).key ≠ f.key) (he : ev < 128) :
    SrvShown s (t.flag f ev inst detail) :=
  ⟨(State.flag_get_ne t inst detail he (by decide) hf).trans h.shown, (State.flag_parts t f ev inst detail).pair.trans h.pair,
    (State.flag_hrt t f ev inst detail).trans h.hrt⟩

theorem SrvShown.reviewAcal (h : SrvShown s t) : SrvShown s t.reviewAcal := by
  refine List.foldlRecOn (motive := fun u : State => SrvShown s u) _ _ h fun u hu m hm => ?_
  have hlt : m < 4 := List.mem_range.mp hm
  have hk {f : Fld} (hf : f.blk = 9) : (F.HRT_SRV_STAT.STATE 0).key ≠ f.key := fun k => absurd ((Fld.blk_of_key k).trans hf) (by decide)
  have hp : SrvShown s { u with port := modAt u.port m (fun p => { p with acal := none }) } := ⟨hu.shown, hu.pair, hu.hrt⟩
  split
  · exact hu
  · split
    · exact hu
    · refine .flag (.set (.set hp (hk (Fld.blk_eq ?_))) (hk (Fld.blk_eq ?_))) (hk (Fld.blk_eq ?_)) ?_ <;> omega

/-- The state of SRV0 is shown; the pair's state and the servos stay. -/
theorem State.setSrvState_shows (s : State) {n : Nat} (hn : n < 8) :
    (s.setSrvState n).srvState = n ∧ (s.setSrvState n).pair = s.pair ∧ (s.setSrvState n).hrt = s.hrt := by
  have hfreeze : s.freezeYat.pair = s.pair ∧ s.freezeYat.hrt = s.hrt := by
    unfold State.freezeYat
    split <;> exact ⟨rfl, rfl⟩
  let a := { s.freezeYat with bound := { s.bound with traced := s.bound.traced || s.srvState == 0 } }.set (F.HRT_SRV_STAT.STATE 0) n
  have hk : SrvShown a ((a.hrtFlag F.HRT_STAT.STATE n).reviewAcal) := .reviewAcal (.flag ⟨rfl, rfl, rfl⟩ (by decide) (by decide))
  have hset : a.srvState = n := State.get_set_of_lt (f := F.HRT_SRV_STAT.STATE 0) _ hn
  have hpair : a.pair = s.pair := hfreeze.1
  have hhrt : a.hrt = s.hrt := hfreeze.2
  by_cases h : s.srvState = n
  · have heq : s.setSrvState n = s := if_pos h
    rw [heq]
    exact ⟨h, rfl, rfl⟩
  · have heq : s.setSrvState n = (a.hrtFlag F.HRT_STAT.STATE n).reviewAcal := if_neg h
    rw [heq]
    exact ⟨hk.shown.trans hset, hk.pair.trans hpair, hk.hrt.trans hhrt⟩

end

/-! What LEAP, PARAM and DIGEST read and write. -/

/-- Fields that a list of writes names. -/
theorem RegsBut.setsOf {fs gs : List Fld} {s t : State} {l : List (Fld × Nat)} (h : RegsBut fs s t) (hl : l.map Prod.fst = gs) (hs : ∀ f ∈ gs,
    f ∈ fs) :
    RegsBut fs s (t.sets l) := h.sets fun p hp => hs p.1 (hl ▸ List.mem_map_of_mem hp)

def leapFlds : List Fld := [F.HRT_UTC.OFFSET, F.HRT_UTC.VALID, F.HRT_UTC.LEAPPEND, F.HRT_UTC.DIR, F.HRT_UTC.SRC, F.HRT_LEAP.SEC, F.HRT_UTCPREV.SEC,
  F.HRT_UTCPREV_HI.PREV]

def leapWrites (b : List Byte) : List (Fld × Nat) :=
  [(F.HRT_UTC.OFFSET, leAt b 0 2), (F.HRT_UTC.VALID, bitsOf (leAt b 2 1) 0 1), (F.HRT_UTC.LEAPPEND, bitsOf (leAt b 2 1) 1 1),
    (F.HRT_UTC.DIR, bitsOf (leAt b 2 1) 2 1), (F.HRT_UTC.SRC, leAt b 3 1), (F.HRT_LEAP.SEC, leAt b 4 8), (F.HRT_UTCPREV.SEC, leAt b 12 8),
    (F.HRT_UTCPREV_HI.PREV, leAt b 20 2)]

def paramFlds : List Fld := [F.HRT_SRV_KP.KP 0, F.HRT_SRV_KI.KI 0, F.HRT_SRV_FSTEP.FSTEP 0, F.HRT_SRV_LEAD.LEAD, F.HRT_SRV_LIM.STEPLIM,
  F.HRT_SRV_LIM.LOCKLIM, F.REF_SWSLEW.SLEW, F.REF_HAVG.SEC]

def paramWrites (b : List Byte) : List (Fld × Nat) :=
  [(F.HRT_SRV_KP.KP 0, leAt b 0 4), (F.HRT_SRV_KI.KI 0, leAt b 4 4), (F.HRT_SRV_FSTEP.FSTEP 0, leAt b 8 4), (F.HRT_SRV_LEAD.LEAD, leAt b 12 4),
    (F.HRT_SRV_LIM.STEPLIM, leAt b 16 2), (F.HRT_SRV_LIM.LOCKLIM, leAt b 18 2), (F.REF_SWSLEW.SLEW, leAt b 20 4), (F.REF_HAVG.SEC, leAt b 24 4)]

/-- What a list of writes of distinct fields leaves in one of them. -/
theorem State.get_sets_of_mem (s : State) {l : List (Fld × Nat)} {f : Fld} {v : Nat} (hm : (f, v) ∈ l) (hd : (l.map (fun p => p.1.key)).Nodup) :
    (s.sets l).get f = v % 2 ^ f.w := by
  obtain ⟨pre, post, rfl⟩ := List.append_of_mem hm
  refine State.get_sets_at s pre post (List.forall_iff_forall_mem.mpr fun q hq => ?_)
  rw [List.map_append, List.map_cons, List.nodup_append, List.nodup_cons] at hd
  exact fun hk => hd.2.1.1 (List.mem_map.mpr ⟨q, hq, hk.symm⟩)

theorem leapWrites_nodup (b : List Byte) : ((leapWrites b).map (fun p => p.1.key)).Nodup :=
  (by decide : (leapFlds.map Fld.key).Nodup)

theorem paramWrites_nodup (b : List Byte) : ((paramWrites b).map (fun p => p.1.key)).Nodup :=
  (by decide : (paramFlds.map Fld.key).Nodup)

theorem bit_of_bitsOf {s : State} {f : Fld} {v k : Nat} (h : s.get f = bitsOf v k 1 % 2 ^ 1) : s.bit f = v.testBit k := by
  rw [State.bit, h, bitsOf, Nat.testBit_eq_decide_div_mod_eq]
  have hlt := Nat.mod_lt (v / 2 ^ k) (by decide : 0 < 2)
  rcases Nat.mod_two_eq_zero_or_one (v / 2 ^ k) with h | h <;> simp [h]

theorem State.leapWrites_show (s : State) (b : List Byte) : (s.sets (leapWrites b)).get F.HRT_UTC.OFFSET = leAt b 0 2 ∧
    (s.sets (leapWrites b)).bit F.HRT_UTC.VALID = (leAt b 2 1).testBit 0 ∧ (s.sets (leapWrites b)).bit F.HRT_UTC.LEAPPEND = (leAt b 2 1).testBit 1 ∧
    (s.sets (leapWrites b)).get F.HRT_LEAP.SEC = leAt b 4 8 % 2 ^ 48 := by
  have hget {f : Fld} {v : Nat} (hm : (f, v) ∈ leapWrites b) := State.get_sets_of_mem s hm (leapWrites_nodup b)
  refine ⟨(hget (by simp [leapWrites])).trans (Nat.mod_eq_of_lt (leAt_lt b 0 2)), bit_of_bitsOf (hget (by simp [leapWrites])),
    bit_of_bitsOf (hget (by simp [leapWrites])), hget (by simp [leapWrites])⟩

theorem State.paramWrites_show (s : State) (b : List Byte) : (s.sets (paramWrites b)).get (F.HRT_SRV_KP.KP 0) = leAt b 0 4 ∧
    (s.sets (paramWrites b)).get (F.HRT_SRV_KI.KI 0) = leAt b 4 4 ∧ (s.sets (paramWrites b)).get (F.HRT_SRV_FSTEP.FSTEP 0) = leAt b 8 4 ∧
    (s.sets (paramWrites b)).get F.HRT_SRV_LIM.STEPLIM = leAt b 16 2 := by
  have hget {f : Fld} {v : Nat} (hm : (f, v) ∈ paramWrites b) := State.get_sets_of_mem s hm (paramWrites_nodup b)
  exact ⟨(hget (by simp [paramWrites])).trans (Nat.mod_eq_of_lt (leAt_lt b 0 4)), (hget (by simp [paramWrites])).trans (Nat.mod_eq_of_lt (leAt_lt
    b 4 4)),
    (hget (by simp [paramWrites])).trans (Nat.mod_eq_of_lt (leAt_lt b 8 4)), (hget (by simp [paramWrites])).trans (Nat.mod_eq_of_lt (leAt_lt b 16 2))⟩

/-- The count of a record taken is not among what the digest reads. -/
theorem State.digest_taken (s : State) (seq : Nat) : (s.taken seq).digest = s.digest := by
  have hstate : (s.taken seq).get (F.HRT_SRV_STAT.STATE 0) = s.get (F.HRT_SRV_STAT.STATE 0) := s.get_taken seq (by decide)
  have hpayload : (s.taken seq).srvStatePayload = s.srvStatePayload := by
    rw [State.srvStatePayload, hstate]
    rfl
  rw [State.digest, hpayload]
  rfl

section
variable {s : State} {lane seq : Nat} {b : List Byte} (tick : Nat) (h : s.Expects lane seq b) (hin : s.inStep = true)
include h hin

theorem State.selectRecord_selects (hn : leAt b 1 1 < 8) : ∃ t, exec (.selectRecord lane (recordBytes seq 0x12 0 tick b)) s = .next t ∧
    t.pair.select = b ∧ t.srvState = leAt b 1 1 := by
  let a := (s.taken seq).updPair (fun p => { p with select := b })
  have hina : a.inStep = true := State.inStep_taken seq hin
  obtain ⟨hstate, hpair, -⟩ := a.setSrvState_shows hn
  have hu : (s.taken seq).applySelect b = a.setSrvState (leAt b 1 1) := by
    have hrole : ¬ (s.taken seq).role ≠ 2 := not_not.mpr (State.inStep_iff.mp (State.inStep_taken seq hin)).1
    rw [State.applySelect, if_neg hrole]
    exact if_pos (by rw [Bool.or_eq_true]; exact .inl hina)
  refine ⟨(a.setSrvState (leAt b 1 1)).gapless, State.laneRecord_taken h (by decide) hu ((congrArg PairSt.early hpair).trans rfl)
    ((congrArg PairSt.warmWait hpair).trans rfl), congrArg PairSt.select hpair, hstate⟩

theorem State.leapRecord_applies : ∃ t, exec (.leapRecord lane (recordBytes seq 0x13 0 tick b)) s = .next t ∧ t.pair.leap = b ∧
    t.get F.HRT_UTC.OFFSET = leAt b 0 2 ∧ t.bit F.HRT_UTC.VALID = (leAt b 2 1).testBit 0 ∧ t.bit F.HRT_UTC.LEAPPEND = (leAt b 2 1).testBit 1 ∧
    t.get F.HRT_LEAP.SEC = leAt b 4 8 % 2 ^ 48 ∧ RegsBut [F.PAIR_JRX.RX, F.HRT_UTC.OFFSET, F.HRT_UTC.VALID, F.HRT_UTC.LEAPPEND, F.HRT_UTC.DIR,
      F.HRT_UTC.SRC, F.HRT_LEAP.SEC, F.HRT_UTCPREV.SEC, F.HRT_UTCPREV_HI.PREV] s t := by
  let a := (s.taken seq).updPair (fun p => { p with leap := b })
  have hina : a.inStep = true := State.inStep_taken seq hin
  have hu : (s.taken seq).applyLeap b = a.sets (leapWrites b) := by
    have hrole : ¬ (s.taken seq).role ≠ 2 := not_not.mpr (State.inStep_iff.mp (State.inStep_taken seq hin)).1
    rw [State.applyLeap, if_neg hrole]
    exact if_pos (by rw [Bool.or_eq_true]; exact .inl hina)
  obtain ⟨hoff, hvalid, hpend, hsec⟩ := a.leapWrites_show b
  have hpair : (a.sets (leapWrites b)).pair = a.pair := by rw [a.sets_regsOnly]
  have ha : RegsBut ([F.PAIR_JRX.RX] ++ leapFlds) s a := .of_regs ((s.taken_regs seq).mono (by decide)) rfl
  have hregs : RegsBut ([F.PAIR_JRX.RX] ++ leapFlds) s (a.sets (leapWrites b)) := ha.setsOf (gs := leapFlds) rfl (by decide)
  generalize a.sets (leapWrites b) = u at hu hoff hvalid hpend hsec hpair hregs
  exact ⟨u.gapless, State.laneRecord_taken h (by decide) hu (congrArg PairSt.early hpair :) (congrArg PairSt.warmWait hpair :),
    (congrArg PairSt.leap hpair :), hoff, hvalid, hpend, hsec, hregs⟩

theorem State.paramRecord_applies : ∃ t, exec (.paramRecord lane (recordBytes seq 0x15 0 tick b)) s = .next t ∧ t.get (F.HRT_SRV_KP.KP 0)
    = leAt b 0 4 ∧
    t.get (F.HRT_SRV_KI.KI 0) = leAt b 4 4 ∧ t.get (F.HRT_SRV_FSTEP.FSTEP 0) = leAt b 8 4 ∧ t.get F.HRT_SRV_LIM.STEPLIM = leAt b 16 2 ∧
    RegsBut [F.PAIR_JRX.RX, F.HRT_SRV_KP.KP 0, F.HRT_SRV_KI.KI 0, F.HRT_SRV_FSTEP.FSTEP 0, F.HRT_SRV_LEAD.LEAD, F.HRT_SRV_LIM.STEPLIM,
      F.HRT_SRV_LIM.LOCKLIM, F.REF_SWSLEW.SLEW, F.REF_HAVG.SEC] s t := by
  let a := s.taken seq
  have hu : a.applyParam b = a.sets (paramWrites b) := if_pos (by rw [Bool.or_eq_true]; exact .inl (State.inStep_taken seq hin))
  obtain ⟨hkp, hki, hfstep, hlim⟩ := a.paramWrites_show b
  have hpair : (a.sets (paramWrites b)).pair = a.pair := by rw [a.sets_regsOnly]
  have ha : RegsBut ([F.PAIR_JRX.RX] ++ paramFlds) s a := (s.taken_regs seq).mono (by decide)
  have hregs : RegsBut ([F.PAIR_JRX.RX] ++ paramFlds) s (a.sets (paramWrites b)) := ha.setsOf (gs := paramFlds) rfl (by decide)
  generalize a.sets (paramWrites b) = u at hu hkp hki hfstep hlim hpair hregs
  exact ⟨u.gapless, State.laneRecord_taken h (by decide) hu (congrArg PairSt.early hpair :) (congrArg PairSt.warmWait hpair :),
    hkp, hki, hfstep, hlim, hregs⟩

omit hin in
theorem State.digestRecord_agrees (hd : s.digest = sliceB b 4 8) :
    ∃ t, exec (.digestRecord lane (recordBytes seq 0x14 0 tick b)) s = .next t ∧ RegsBut [F.PAIR_JRX.RX] s t := by
  have hsame : (!(s.taken seq).inStep || (s.taken seq).digest == sliceB b 4 8) = true := by
    rw [State.digest_taken, hd, beq_self_eq_true, Bool.or_true]
  exact ⟨_, State.laneRecord_taken h (by decide) (if_pos hsame) rfl rfl, (s.taken_regs seq).of_regs rfl⟩

theorem State.digestRecord_counts (hd : s.digest ≠ sliceB b 4 8) (ha : s.bit F.PAIR_STAT.ARMED = false) (hs : s.pairState = 5) :
    ∃ t, exec (.digestRecord lane (recordBytes seq 0x14 0 tick b)) s = .next t ∧
      t.get F.PAIR_JERR.DIGERR = min 65535 (s.get F.PAIR_JERR.DIGERR + 1) ∧ RegsBut [F.PAIR_JRX.RX, F.PAIR_JERR.DIGERR] s t := by
  let a := s.taken seq
  let u := a.bumpSat F.PAIR_JERR.DIGERR
  have hdiff : ¬ (!a.inStep || a.digest == sliceB b 4 8) = true := by
    rw [State.digest_taken, State.inStep_taken seq hin]
    simpa using hd
  have hunarmed : u.bit F.PAIR_STAT.ARMED = false :=
    (State.bit_eq_of_get (State.get_bumpSat_ne a 1 (by decide))).trans ((s.bit_taken seq (by decide)).trans ha)
  have hquiet : u.mismatch 2 = u := if_pos (by rw [hunarmed]; rfl)
  have hstate : ¬ a.pairState = 6 := by
    have h5 : a.pairState = 5 := (s.get_taken seq (by decide)).trans hs
    rw [h5]
    decide
  have hu : a.applyDigest b = u := by
    rw [State.applyDigest, if_neg hdiff]
    exact (if_neg hstate).trans hquiet
  refine ⟨u.gapless, State.laneRecord_taken h (by decide) hu rfl rfl, ?_, .of_regs (.set ((s.taken_regs seq).mono (by decide)) (by decide)) rfl⟩
  refine (State.get_bumpSat_self a F.PAIR_JERR.DIGERR 1).trans ?_
  rw [s.get_taken seq (by decide)]
  rfl

/-- An update that stepped sends the standby back to JOIN. -/
theorem State.updateRecord_rejoins (hs : toSigned 64 (leAt b 28 8) ≠ 0) :
    ∃ t, exec (.updateRecord lane (recordBytes seq 0x11 0 tick b)) s = .next t ∧ t.pairState = 4 ∧ t.role = 2 ∧ t.bit F.PAIR_STAT.ARMED = false := by
  let a := s.taken seq
  have hu : a.applyUpdateRecord b = a.joinPair := by
    have hina : ¬ (!a.inStep) = true := by rw [State.inStep_taken seq hin]; decide
    rw [State.applyUpdateRecord, if_neg hina]
    exact if_pos hs
  have hi := a.joinPair_inRole
  exact ⟨a.joinPair.gapless, State.laneRecord_taken h (by decide) hu hi.steady.early hi.steady.warmWait, hi.pairState, hi.role, a.joinPair_unarmed⟩

end

/-! An update that gives the rate. -/

theorem State.propose_keeps (s : State) (host : Bool) (rate : Int) (offset : Option Nat) (anchor commit : Nat) :
    LinkBut [] s (s.propose host rate offset anchor commit) ∧ (s.propose host rate offset anchor commit).pair = s.pair ∧
      (s.propose host rate offset anchor commit).hrt.srv = s.hrt.srv := by
  unfold State.propose
  extract_lets r a g p q c
  have ha : LinkKept s a := .set (.set (.set (.refl s) (by decide)) (by decide)) (by decide)
  split
  · exact ⟨((ha.set (by decide)).parts).regs, rfl, rfl⟩
  · have hf : LinkKept s (a.hrtFlag F.HRT_STAT.DPREF) := ha.hrtFlag (by decide)
    exact ⟨hf.regs, (State.flag_parts a _ _ _ _).pair, congrArg HrtSt.srv (State.flag_hrt a _ _ _ _)⟩

/-- The rate of SRV0 that the active gave, proposed. -/
def State.givenRate (s : State) (rate : Int) : State :=
  (((s.updSrv 0 (fun v => { v with r := rate })).setI (F.HRT_SRV_OUT.RATE 0) rate).proposeSrv rate 0).noteRetry

theorem State.givenRate_keeps (s : State) (rate : Int) : LinkBut [] s (s.givenRate rate) ∧
    (s.givenRate rate).pair = { s.pair with retry := (s.givenRate rate).pair.retry } ∧
    (s.givenRate rate).hrt.srv = modAt s.hrt.srv 0 (fun v => { v with r := rate }) := by
  let w := (s.updSrv 0 (fun v => { v with r := rate })).setI (F.HRT_SRV_OUT.RATE 0) rate
  have hw : LinkKept s w := .set (.updSrv (.refl s)) (by decide)
  obtain ⟨hregs, hpair, hsrv⟩ := w.propose_keeps false (w.committedRate rate) (some ((w.hrt.cur.at (w.raw + w.get F.HRT_SRV_LEAD.LEAD) : Int)
    + 0).toNat)
    (w.raw + w.get F.HRT_SRV_LEAD.LEAD) (w.raw + w.get F.HRT_SRV_LEAD.LEAD)
  exact ⟨(hw.regs.trans hregs).updPair, congrArg (fun p : PairSt => { p with retry := (s.givenRate rate).pair.retry }) hpair, hsrv⟩

/-- The results that an update consumes are used. -/
def PairSt.consumed (p : PairSt) (n : Nat) : PairSt :=
  { p with results := p.results.drop n, used := ((p.results.take n).reverse ++ p.used.filter (fun q => (p.results.take n).all (fun r => r.ch ==
    q.ch))).take 16 }

/-- The tick of an update, and of a result where it consumed one. -/
def SrvSt.noted (v : SrvSt) (nres now : Nat) : SrvSt := { v with lastTick := now, lastResult := if nres = 0 then v.lastResult else now }

/-- The update is noted: its rate under its commit tick, its tick, and SRV0's state. -/
def State.updateNoted (s : State) (commit nres st : Nat) (now : Nat) : State :=
  ((s.updPair (fun p => { p with rates := ((commit, roundAway (s.sv 0).r, 0) :: p.rates).take 16 })).updSrv 0
    (SrvSt.noted · nres now)).setSrvState st

theorem State.updateNoted_keeps (s : State) (commit nres now : Nat) {st : Nat} (hs : st < 8) (hl : s.hrt.srv.length = 4) :
    LinkBut [] s (s.updateNoted commit nres st now) ∧ (s.updateNoted commit nres st now).srvState = st ∧
      ((s.updateNoted commit nres st now).sv 0).r = (s.sv 0).r ∧ (s.updateNoted commit nres st now).pair.results = s.pair.results ∧
      (s.updateNoted commit nres st now).pair.early = s.pair.early ∧ (s.updateNoted commit nres st now).pair.warmWait = s.pair.warmWait := by
  let a := (s.updPair (fun p => { p with rates := ((commit, roundAway (s.sv 0).r, 0) :: p.rates).take 16 })).updSrv 0
    (SrvSt.noted · nres now)
  have ha : LinkBut [] s a := .of_regs (.refl _ s) rfl
  obtain ⟨hstate, hpair, hhrt⟩ := a.setSrvState_shows hs
  have hr : (a.sv 0).r = (s.sv 0).r := 
    (congrArg SrvSt.r (getD_modAt_self (l := s.hrt.srv) (i := 0) (SrvSt.noted · nres now) {} (by omega)) :)
  have hr' : ((a.setSrvState st).sv 0).r = (a.sv 0).r := by rw [State.sv, hhrt, State.sv]
  exact ⟨ha.kept (.setSrvState (.refl a)), hstate, hr'.trans hr, (congrArg PairSt.results hpair :), (congrArg PairSt.early hpair :),
    (congrArg PairSt.warmWait hpair :)⟩

theorem State.applyUpdateRecord_given {s : State} {b : List Byte} (hin : s.inStep = true) (hm : leAt b 16 1 = 1) (hs : leAt b 28 8 = 0) :
    s.applyUpdateRecord b = ((s.updPair (PairSt.consumed · (leAt b 18 2))).givenRate (toSigned 64 (leAt b 20 8))).updateNoted (leAt b 8 8)
      (leAt b 18 2)
      (leAt b 17 1) s.raw := by
  have hina : ¬ (!s.inStep) = true := by rw [hin]; decide
  have hnostep : ¬ toSigned 64 (leAt b 28 8) ≠ 0 := by rw [hs]; decide
  rw [State.applyUpdateRecord, if_neg hina]
  dsimp only
  rw [if_neg hnostep, if_pos hm]
  rfl

/-- An update of mode 1 gives SRV0 its rate and consumes its results. -/
theorem State.updateRecord_gives {s : State} {lane seq : Nat} {b : List Byte} (tick : Nat) (h : s.Expects lane seq b) (hin : s.inStep = true)
    (hm : leAt b 16 1 = 1) (hs : leAt b 28 8 = 0) (hst : leAt b 17 1 < 8) (hl : s.hrt.srv.length = 4) :
    ∃ t, exec (.updateRecord lane (recordBytes seq 0x11 0 tick b)) s = .next t ∧ (t.sv 0).r = toSigned 64 (leAt b 20 8) ∧
      t.srvState = leAt b 17 1 ∧ t.pair.results = s.pair.results.drop (leAt b 18 2) ∧ t.role = 2 ∧ t.pairState = s.pairState := by
  let a := s.taken seq
  let v := a.updPair (PairSt.consumed · (leAt b 18 2))
  let w := v.givenRate (toSigned 64 (leAt b 20 8))
  obtain ⟨hregs, hpair, hsrv⟩ := v.givenRate_keeps (toSigned 64 (leAt b 20 8))
  have hlw : w.hrt.srv.length = 4 := (congrArg List.length hsrv).trans ((length_modAt _ _ _).trans hl)
  obtain ⟨hregs', hstate, hr, hresults, hearly, hwarm⟩ := w.updateNoted_keeps (leAt b 8 8) (leAt b 18 2) a.raw hst hlw
  have hu := State.applyUpdateRecord_given (State.inStep_taken seq hin) hm hs
  have hrate : (w.sv 0).r = toSigned 64 (leAt b 20 8) := by
    rw [State.sv, hsrv, getD_modAt_self (l := v.hrt.srv) _ {} (by change 0 < s.hrt.srv.length; omega)]
  have hget {g : Fld} (hb : g.blk = 0xF) (h1 : g.key ≠ F.PAIR_JTX.TX.key) (h2 : g.key ≠ F.PAIR_UPAIR.UPAIR.key) (h3 : g.key ≠ F.PAIR_JRX.RX.key) :
      (w.updateNoted (leAt b 8 8) (leAt b 18 2) (leAt b 17 1) a.raw).get g = s.get g :=
    (hregs' g hb h1 h2 nofun).trans ((hregs g hb h1 h2 nofun).trans (s.get_taken seq h3))
  generalize w.updateNoted (leAt b 8 8) (leAt b 18 2) (leAt b 17 1) a.raw = u at hu hstate hr hresults hearly hwarm hget
  refine ⟨u.gapless, State.laneRecord_taken h (by decide) hu (hearly.trans (congrArg PairSt.early hpair :))
    (hwarm.trans (congrArg PairSt.warmWait hpair :)),
    hr.trans hrate, hstate, hresults.trans (congrArg PairSt.results hpair :), ?_, ?_⟩
  · exact (hget (by decide) (by decide) (by decide) (by decide)).trans (State.inStep_iff.mp hin).1
  · exact hget (by decide) (by decide) (by decide) (by decide)

/-- Settles O42: each record of the stream by its lemma. -/
theorem recordsOfTheStream : Obligations.RecordsOfTheStream := by
  unfold Obligations.RecordsOfTheStream
  refine ⟨fun s lane seq tick b h _ => State.helloRecord_tells tick h, fun s lane seq tick b h => ⟨State.ppsmRecord_holds tick h, ?_⟩,
    fun s lane seq tick b h hr hc => State.healthRecord_shows tick h hr hc,
    fun s lane seq tick b h => ⟨State.boundRecord_holds tick h, State.resultRecord_waits tick h, State.resultRecord_passes tick h⟩,
    fun s lane seq tick b h hin hm hs hst hl => State.updateRecord_gives tick h hin hm hs hst hl,
    fun s lane seq tick b h hin hs => State.updateRecord_rejoins tick h hin hs, fun s lane seq tick b h hin => ⟨?_, ?_, ?_, ?_, ?_⟩⟩
  · exact fun own stamp hm hr hs hc ht hb => State.ppsmRecord_compares tick h rfl hm hr hs hc ht hb
  · exact State.selectRecord_selects tick h hin
  · exact State.leapRecord_applies tick h hin
  · exact State.paramRecord_applies tick h hin
  · exact State.digestRecord_agrees tick h
  · exact State.digestRecord_counts tick h hin

end Sys2Proof.Machine

/-! PROOF. The records that carry tables and settle roles (R460 to R475). -/

namespace Sys2Proof.Machine

/-! Tables: SRVSTATE, GRANT, NTSKEY and the snapshot. -/

/-- SRV0 as SRVSTATE gives it. -/
def SrvSt.given (b : List Byte) (v : SrvSt) : SrvSt :=
  let q := fun (o : Nat) => (toSigned 64 (leAt b o 8) : Rat)
  { v with
    i := q 0 / 65536, r := q 8, lastE := q 16 / 65536, yhat := q 24 / 65536 / 1000000000000000, phaseState := leAt b 33 1 == 1, run := leAt b 34 2 }

section
variable {s : State} {lane seq : Nat} {b : List Byte} (tick : Nat) (h : s.Expects lane seq b)
include h

theorem State.srvstateRecord_gives (hr : s.role = 2) (hp : s.pair.phase = 2) (hw : s.pair.swapState = false) (hs : leAt b 32 1 < 8)
    (hl : s.hrt.srv.length = 4) :
    ∃ t, exec (.srvstateRecord lane (recordBytes seq 0x16 0 tick b)) s = .next t ∧ (t.sv 0).i = (toSigned 64 (leAt b 0 8) : Rat) / 65536 ∧
      (t.sv 0).r = toSigned 64 (leAt b 8 8) ∧ (t.sv 0).phaseState = (leAt b 33 1 == 1) ∧ (t.sv 0).run = leAt b 34 2 ∧ t.srvState = leAt b 32 1 := by
  let a := (s.taken seq).updSrv 0 (SrvSt.given b)
  obtain ⟨hstate, hpair, hhrt⟩ := a.setSrvState_shows hs
  have hrole : (s.taken seq).role = 2 := (s.get_taken seq (by decide)).trans hr
  have hnot : ¬ (s.taken seq).pair.swapState = true := by
    change ¬ s.pair.swapState = true
    rw [hw]
    decide
  have hu : (s.taken seq).applySrvState b = a.setSrvState (leAt b 32 1) := (if_pos ⟨hrole, .inl hp⟩).trans (if_neg hnot)
  have hsv : (a.setSrvState (leAt b 32 1)).sv 0 = (s.sv 0).given b := by
    have ha : a.sv 0 = (s.sv 0).given b := getD_modAt_self (l := s.hrt.srv) _ {} (by omega)
    rw [← ha, State.sv, hhrt, State.sv]
  generalize a.setSrvState (leAt b 32 1) = u at hu hsv hstate hpair
  exact ⟨u.gapless, State.laneRecord_taken h (by decide) hu (congrArg PairSt.early hpair :) (congrArg PairSt.warmWait hpair :),
    (congrArg SrvSt.i hsv :), (congrArg SrvSt.r hsv :), (congrArg SrvSt.phaseState hsv :), (congrArg SrvSt.run hsv :), hstate⟩

theorem State.grantRecord_puts (hin : s.inStep = true) :
    ∃ t, exec (.grantRecord lane (recordBytes seq 0x18 0 tick b)) s = .next t ∧ t.pair.grants = s.pair.grants + 1 ∧
      t.ptp.grants = (match grantOf (b.drop 4) with | some g => insertAt (leAt b 0 2) g s.ptp.grants | none => dropKey (leAt b 0 2) s.ptp.grants)
        := by
  let a := s.taken seq
  have hina := State.inStep_taken seq hin
  have hquiet (l : List (Nat × Grant)) (i : Nat) (bytes : List Byte) :
      ({ a with ptp := { a.ptp with grants := l } }.showGrants).journalGrant i bytes = { a with ptp := { a.ptp with grants := l } }.showGrants := by
    have hrole : ({ a with ptp := { a.ptp with grants := l } }.showGrants).role = 2 := (State.get_set_ne _ _ (by decide)).trans
      (State.inStep_iff.mp hina).1
    have hj : ({ a with ptp := { a.ptp with grants := l } }.showGrants).journals = false := by
      rw [State.journals, hrole]
      rfl
    rw [State.journalGrant, hj]
    rfl
  let l := match grantOf (b.drop 4) with | some g => insertAt (leAt b 0 2) g s.ptp.grants | none => dropKey (leAt b 0 2) s.ptp.grants
  let u := ({ a with ptp := { a.ptp with grants := l } }.showGrants).updPair (fun p => { p with grants := p.grants + 1 })
  have hu : a.applyGrant b = u := by
    refine (if_pos (by rw [Bool.or_eq_true]; exact .inl hina)).trans ?_
    exact congrArg (State.updPair · _) (hquiet l _ _)
  exact ⟨u.gapless, State.laneRecord_taken h (by decide) hu rfl rfl, rfl, rfl⟩

theorem State.ntskeyRecord_waits (hin : s.inStep = true) (hst : leAt b 1 1 = 0) {d : Nat} (hd : d = (leAt b 8 8 * 1000000000 + leAt b 16 4) * 65536)
    (hdue : s.dnow.getD 0 < d) (hk : s.pair.keys = []) :
    ∃ t, exec (.ntskeyRecord lane (recordBytes seq 0x19 0 tick b)) s = .next t ∧ t.pair.keys = [(leAt b 0 1 % 4, 0, leAt b 4 4, d)] ∧ t.nts = s.nts ∧
      RegsBut [F.PAIR_JRX.RX] s t := by
  let a := s.taken seq
  let u := a.updPair (fun q => { q with keys := q.keys ++ [(leAt b 0 1 % 4, leAt b 1 1, leAt b 4 4, d)] })
  have hkeys : u.pair.keys = [(leAt b 0 1 % 4, 0, leAt b 4 4, d)] := by
    change s.pair.keys ++ [(leAt b 0 1 % 4, leAt b 1 1, leAt b 4 4, d)] = _
    rw [hk, hst]
    rfl
  have hnone : u.applyKeys = u := by
    have hnow : u.dnow = s.dnow := rfl
    unfold State.applyKeys
    extract_lets dn due
    have hempty : due = [] := by
      unfold due dn
      rw [hkeys, hnow, List.filter_cons_of_neg (by simpa using hdue)]
      rfl
    rw [hempty]
    rfl
  have hu : a.applyNtsKey b = u := by
    refine (if_pos (by rw [Bool.or_eq_true]; exact .inl (State.inStep_taken seq hin))).trans ?_
    dsimp only
    rw [if_neg (fun k => k.1 hst), ← hd]
    exact hnone
  exact ⟨u.gapless, State.laneRecord_taken h (by decide) hu rfl rfl, hkeys, rfl, (s.taken_regs seq).of_regs rfl⟩

theorem State.snapRecord_begins (hr : s.role = 2) (hb : beAt b 4 1 = 0) :
    ∃ t, exec (.snapRecord lane (recordBytes seq 0x1A 0 tick b)) s = .next t ∧ t.ptp.grants = [] ∧ t.pair.phase = 2 ∧ t.pair.results = [] ∧
      t.pair.grants = 0 := by
  have hrole : ¬ (s.taken seq).role ≠ 2 := not_not.mpr ((s.get_taken seq (by decide)).trans hr)
  exact ⟨_, State.laneRecord_taken h (by decide) ((if_neg hrole).trans (if_pos hb)) rfl rfl, rfl, rfl, rfl, rfl⟩

theorem State.snapRecord_ends (hr : s.role = 2) (hb : beAt b 4 1 ≠ 0) (hp : s.pair.phase = 2) (hs : s.pairState = 4) :
    ∃ t, exec (.snapRecord lane (recordBytes seq 0x1A 0 tick b)) s = .next t ∧ t.pairState = 5 ∧ t.bit F.PAIR_STAT.JOINED = true ∧ t.pair.phase = 0 ∧
      t.pair.used = s.pair.results.reverse ∧ t.pair.results = [] := by
  let a := s.taken seq
  have hrole : ¬ a.role ≠ 2 := not_not.mpr ((s.get_taken seq (by decide)).trans hr)
  have hstate : ¬ a.pairState = 6 := by
    have h4 : a.pairState = 4 := (s.get_taken seq (by decide)).trans hs
    rw [h4]
    decide
  let v := (a.updPair (fun p => { p with phase := 0, used := p.results.reverse, results := [], rates := [(0, roundAway (a.sv 0).r, 0)] })).startSrv1
  let w := v.set F.PAIR_STAT.STATE 5
  let u := (w.pairFlag F.PAIR_STAT.JOINED).showUPair
  have hu : a.applySnap b = u := by
    have hphase : ¬ a.pair.phase ≠ 2 := not_not.mpr hp
    refine (if_neg hrole).trans ((if_neg hb).trans ((if_neg hphase).trans ?_))
    exact congrArg State.showUPair (if_neg hstate)
  have hpair : u.pair = v.pair := w.pairFlag_pair F.PAIR_STAT.JOINED
  have hshown : u.pairState = 5 := (State.get_set_ne _ _ (by decide)).trans ((State.get_pairFlag_ne w (by decide) (by decide)).trans
    (State.get_set_self v F.PAIR_STAT.STATE 5))
  have hflag : u.bit F.PAIR_STAT.JOINED = true := (State.bit_set_ne _ _ (by decide)).trans (State.pairFlag_bit w (by decide) (by decide))
  exact ⟨u.gapless, State.laneRecord_taken h (by decide) hu (congrArg PairSt.early hpair :) (congrArg PairSt.warmWait hpair :), hshown, hflag,
    (congrArg PairSt.phase hpair :), (congrArg PairSt.used hpair :), (congrArg PairSt.results hpair :)⟩

end

/-! Roles: VREQ, VERDICT, SWAP, TAKE. -/

/-- A role that changes with its exchange settled: what the record's end leaves. -/
theorem State.yields_shows {s u : State} {lane seq type tick : Nat} {b : List Byte} (h : s.Expects lane seq b) (ht : type < 256)
    (hu : (s.awaiting seq).applyRecord type b = u.yieldPair) (hk : u.pair.stream = (s.taken seq).pair.stream) :
    s.laneRecord type lane (recordBytes seq type 0 tick b) = .next u.yieldPair.gapless ∧ u.yieldPair.gapless.role = 2 ∧
      u.yieldPair.gapless.pairState = 4 ∧ u.yieldPair.gapless.bit F.PAIR_STAT.YIELD = true ∧ u.yieldPair.gapless.pair.exch = none := by
  obtain ⟨hrole, hstate, hflag, ⟨hexch, -⟩, hstream⟩ := u.yieldPair_shows
  have hall := hstream.trans hk
  exact ⟨State.laneRecord_taken h ht hu (congrArg PairSt.early hall :) (congrArg PairSt.warmWait hall :), hrole, hstate, hflag, hexch⟩

/-- What an ACK's answer to a SWAP makes of the active. -/
def State.acked (s : State) (b : List Byte) : State :=
  if s.role = 1 then
    (if (leAt b 4 1).testBit 0 then s.updPair (fun p => { p with swap := p.swap.map (fun q => (q.1, true)) })
     else if (leAt b 4 1).testBit 1 then s.cancelSwap else s)
  else s

/-- What an ACK's NEED asks for. -/
def State.ackRest (a : State) (need : Nat) : State :=
  let n := (a.pair.seq + 2 ^ 32 - need) % 2 ^ 32
  if n = 0 then a
  else if n ≤ a.pair.store.length then a.retransmit need
  else if a.role = 1 then a.sendSnapshot else a

/-- The record of type 0x23 is an ACK. Its outcome is named before the cases are compared: unfolded, an ACK's count of records from a SEQ on is
  more than
the kernel evaluates. -/
theorem State.applyRecord_ack (s : State) (b : List Byte) : s.applyRecord 0x23 b = (s.bump F.PAIR_JRX.RX).applyAck b := by
  obtain ⟨u, hu⟩ : ∃ u, u = (s.bump F.PAIR_JRX.RX).applyAck b := ⟨_, rfl⟩
  unfold State.applyRecord
  dsimp only
  rw [← hu]
  rfl

theorem State.applyAck_eq (s : State) (b : List Byte) : s.applyAck b = (s.acked b).ackRest (leAt b 0 4) := rfl

theorem State.ackRest_of_all {a : State} {need : Nat} (h : need = a.pair.seq) (_ : a.pair.seq < 2 ^ 32) : a.ackRest need = a :=
  if_pos (by omega)

theorem State.ackRest_of_stored {a : State} {need n : Nat} (h : (a.pair.seq + 2 ^ 32 - need) % 2 ^ 32 = n) (h1 : 1 ≤ n)
    (hn : n ≤ a.pair.store.length) :
    a.ackRest need = a.retransmit need := by
  unfold State.ackRest
  dsimp only
  rw [if_neg (by omega), if_pos (by omega)]

/-- Records put on the lanes again: each goes out, and the stream's numbers stay. -/
theorem State.foldl_onLane (f : Nat × List Byte → List Byte) (l : List (Nat × List Byte)) (s : State) (hon : s.supply.on = true) :
    let t := l.foldl (fun t e => t.onLane (f e)) s
    t.out.length = s.out.length + l.length ∧ t.pair.seq = s.pair.seq ∧ t.pair.early = s.pair.early ∧ t.pair.warmWait = s.pair.warmWait ∧
      t.regs = s.regs := by
  induction l generalizing s with
  | nil => exact ⟨rfl, rfl, rfl, rfl, rfl⟩
  | cons e l ih =>
    obtain ⟨lane, hout, hpair, hregs, hsupply⟩ : ∃ lane, (s.onLane (f e)).out = s.out ++ [.pairRecord lane (f e)] ∧
        (s.onLane (f e)).pair = { s.pair with turn := 1 - lane } ∧ (s.onLane (f e)).regs = s.regs ∧ (s.onLane (f e)).supply = s.supply := by
      rw [State.onLane, State.emit, if_pos hon]
      exact ⟨_, rfl, rfl, rfl, rfl⟩
    obtain ⟨k1, k2, k3, k4, k5⟩ := ih (s.onLane (f e)) (by rw [hsupply]; exact hon)
    refine ⟨k1.trans ?_, k2.trans (congrArg PairSt.seq hpair :), k3.trans (congrArg PairSt.early hpair :),
      k4.trans (congrArg PairSt.warmWait hpair :),
      k5.trans hregs⟩
    rw [hout, List.length_append, List.length_cons, List.length_cons, List.length_nil]
    omega

/-- A stored record as it is sent again: with RETX set and a checksum of its own. -/
def retxBytes (e : Nat × List Byte) : List Byte :=
  let c := putAt (e.2.take (e.2.length - 4)) 6 [1]
  c ++ leBytes 4 (crc32c c)

theorem State.retransmit_shows {s : State} {need n : Nat} (hn : (s.pair.seq + 2 ^ 32 - need) % 2 ^ 32 = n) (hl : n ≤ s.pair.store.length)
    (hon : s.supply.on = true) : ∃ u, s.retransmit need = u ∧ u.out.length = s.out.length + n ∧ u.pair.seq = s.pair.seq ∧
      u.pair.early = s.pair.early ∧ u.pair.warmWait = s.pair.warmWait ∧ u.regs = s.regs := by
  have heq : s.retransmit need = ((s.pair.store.take n).reverse).foldl (fun t e => t.onLane (retxBytes e)) s := by
    rw [State.retransmit, hn]
    rfl
  have hlen : (s.pair.store.take n).reverse.length = n := by rw [List.length_reverse, List.length_take, Nat.min_eq_left hl]
  have h := State.foldl_onLane retxBytes (s.pair.store.take n).reverse s hon
  rw [hlen] at h
  exact ⟨_, heq, h⟩

section
variable {s : State} {lane seq : Nat} {b : List Byte} (tick : Nat) (h : s.Expects lane seq b)
include h

theorem State.vreqRecord_answers (hr : s.role ≠ 0) (he : s.pair.exch = none) (hw : s.pair.swap = none) :
    ∃ t, exec (.vreqRecord lane (recordBytes seq 0x20 0 tick b)) s = .next t ∧ t.pair.exch = some (leAt b 4 4, t.get F.PAIR_STAT.VERD) ∧
      t.role = s.role := by
  let a := s.taken seq
  have hrole : a.role = s.role := s.get_taken seq (by decide)
  have hu : a.applyVreq b = a.giveVerdict (leAt b 4 4) := by
    have hexch : a.pair.exch = none := he
    rw [State.applyVreq, if_neg (fun k => hr (hrole.symm.trans k)), State.cancelSwap_of_none a hw]
    dsimp only
    rw [hexch]
  obtain ⟨hk, hexch⟩ := a.giveVerdict_shows (leAt b 4 4)
  exact ⟨_, State.laneRecord_taken h (by decide) hu hk.early hk.warmWait, hexch,
    (hk.get (by decide) (by decide) (by decide) (by decide)).trans hrole⟩

theorem State.verdictRecord_shows (he : s.pair.exch = none) :
    ∃ t, exec (.verdictRecord lane (recordBytes seq 0x21 0 tick b)) s = .next t ∧ t.get F.PAIR_STAT.TVERD = leAt b 0 1 % 4 ∧
      RegsBut [F.PAIR_JRX.RX, F.PAIR_STAT.TVERD] s t := by
  let a := (s.taken seq).set F.PAIR_STAT.TVERD (leAt b 0 1)
  have hu : (s.taken seq).applyVerdict b = a := by
    have hexch : ((s.taken seq).set F.PAIR_STAT.TVERD (leAt b 0 1)).pair.exch = none := he
    unfold State.applyVerdict
    dsimp only
    rw [hexch]
  exact ⟨a.gapless, State.laneRecord_taken h (by decide) hu rfl rfl, State.get_set_self _ _ _,
    .of_regs (.set ((s.taken_regs seq).mono (by decide)) (by decide)) rfl⟩

theorem State.verdictRecord_yields (he : s.pair.exch = some (leAt b 4 4, 2)) (hr : s.role = 1) (hv : leAt b 0 1 = 1) :
    ∃ t, exec (.verdictRecord lane (recordBytes seq 0x21 0 tick b)) s = .next t ∧ t.role = 2 ∧ t.pairState = 4 ∧ t.bit F.PAIR_STAT.YIELD = true ∧
      t.pair.exch = none := by
  let a := (s.taken seq).set F.PAIR_STAT.TVERD (leAt b 0 1)
  let u := a.updPair (fun p => { p with exch := none })
  have hrole : a.role = 1 := (State.get_set_ne _ _ (by decide)).trans ((s.get_taken seq (by decide)).trans hr)
  have hu : (s.taken seq).applyVerdict b = u.yieldPair := by
    have hexch : ((s.taken seq).set F.PAIR_STAT.TVERD (leAt b 0 1)).pair.exch = some (leAt b 4 4, 2) := he
    have hsettle : a.settleVerdicts 2 (leAt b 0 1) = u.yieldPair := by
      rw [hv, State.settleVerdicts]
      rw [if_pos hrole, if_pos (by decide)]
    unfold State.applyVerdict
    dsimp only
    rw [hexch]
    exact (if_pos rfl).trans hsettle
  exact ⟨_, State.yields_shows h (by decide) hu rfl⟩

theorem State.swapRecord_answers (hr : s.role = 2) :
    (s.bit F.PAIR_STAT.CLEAN = true → ∃ t, exec (.swapRecord lane (recordBytes seq 0x22 0 tick b)) s = .next t ∧ t.pair.swap = some (leAt b 0 8,
      true)) ∧
    (s.bit F.PAIR_STAT.CLEAN = false → ∃ t, exec (.swapRecord lane (recordBytes seq 0x22 0 tick b)) s = .next t ∧ t.pair.swap = s.pair.swap ∧
      t.bit F.PAIR_CTRL.SWAP = false) := by
  let a := s.taken seq
  have hrole : a.role = 2 := (s.get_taken seq (by decide)).trans hr
  have hone : ¬ a.role = 1 := by rw [hrole]; decide
  refine ⟨fun hc => ?_, fun hc => ?_⟩
  · let v := a.updPair (fun p => { p with swap := some (leAt b 0 8, true) })
    have hclean : a.bit F.PAIR_STAT.CLEAN = true := (s.bit_taken seq (by decide)).trans hc
    have hu : a.applySwap b = v.ackNow 1 := (if_neg hone).trans ((if_pos hrole).trans (if_pos hclean))
    obtain ⟨-, hcore⟩ := v.sendAck_shows (v.pair.next.getD 0) 1
    have hk := v.ackNow_steady 1
    exact ⟨_, State.laneRecord_taken h (by decide) hu hk.early hk.warmWait, (congrArg PairSt.swap hcore :)⟩
  · let v := a.set F.PAIR_CTRL.SWAP 0
    have hclean : ¬ a.bit F.PAIR_STAT.CLEAN = true := by
      rw [s.bit_taken seq (by decide), hc]
      decide
    have hu : a.applySwap b = v.ackNow 2 := (if_neg hone).trans ((if_pos hrole).trans (if_neg hclean))
    obtain ⟨hregs, hcore⟩ := v.sendAck_shows (v.pair.next.getD 0) 2
    have hk := v.ackNow_steady 2
    have hask : (v.ackNow 2).get F.PAIR_CTRL.SWAP = 0 := (hregs _ (by decide) (by decide) (by decide) (by decide)).trans (State.get_set_self a _ 0)
    exact ⟨_, State.laneRecord_taken h (by decide) hu hk.early hk.warmWait, (congrArg PairSt.swap hcore :), bne_eq_false_iff_eq.mpr hask⟩

theorem State.takeRecord_yields (hr : s.role = 1) (hb : leAt b 0 1 = 1) :
    ∃ t, exec (.takeRecord lane (recordBytes seq 0x24 0 tick b)) s = .next t ∧ t.role = 2 ∧ t.pairState = 4 ∧ t.bit F.PAIR_STAT.YIELD = true := by
  have hrole : (s.taken seq).role = 1 := (s.get_taken seq (by decide)).trans hr
  have hu : (s.taken seq).applyTake b = (s.taken seq).yieldPair := (if_pos hrole).trans (if_neg fun k => by rw [hb] at k; exact absurd k.1 (by
    decide))
  obtain ⟨hexec, hrole', hstate, hflag, -⟩ := State.yields_shows (type := 0x24) (tick := tick) h (by decide) hu rfl
  exact ⟨_, hexec, hrole', hstate, hflag⟩

theorem State.takeRecord_passes (hr : s.role ≠ 1) :
    ∃ t, exec (.takeRecord lane (recordBytes seq 0x24 0 tick b)) s = .next t ∧ RegsBut [F.PAIR_JRX.RX] s t := by
  have hrole : ¬ (s.taken seq).role = 1 := fun k => hr ((s.get_taken seq (by decide)).symm.trans k)
  exact ⟨_, State.laneRecord_taken h (by decide) (if_neg hrole) rfl rfl, (s.taken_regs seq).of_regs rfl⟩

/-! ACK and KEYX. -/

theorem State.ackRecord_answers {n : Nat} (hq : s.pair.seq < 2 ^ 32) (ha : leAt b 0 4 = s.pair.seq) (hr : s.role = 1)
    (hw : s.pair.swap.map (·.1) = some n) (hb : (leAt b 4 1).testBit 0 = true) :
    ∃ t, exec (.ackRecord lane (recordBytes seq 0x23 0 tick b)) s = .next t ∧ t.pair.swap = some (n, true) ∧ RegsBut [F.PAIR_JRX.RX] s t := by
  let a := s.taken seq
  let u := a.updPair (fun p => { p with swap := p.swap.map (fun q => (q.1, true)) })
  have hrole : a.role = 1 := (s.get_taken seq (by decide)).trans hr
  have hu : (s.awaiting seq).applyRecord 0x23 b = u := by
    have hacked : a.acked b = u := (if_pos hrole).trans (if_pos hb)
    rw [State.applyRecord_ack, State.applyAck_eq]
    change (a.acked b).ackRest (leAt b 0 4) = _
    rw [hacked]
    exact State.ackRest_of_all ha hq
  have hswap : u.pair.swap = some (n, true) := by
    change s.pair.swap.map (fun q => (q.1, true)) = some (n, true)
    obtain ⟨q, hq, rfl⟩ := Option.map_eq_some_iff.mp hw
    rw [hq]
    rfl
  exact ⟨u.gapless, State.laneRecord_taken h (by decide) hu rfl rfl, hswap, (s.taken_regs seq).of_regs rfl⟩

/-- Stored records are sent again. -/
theorem State.ackRecord_retransmits {n : Nat} (hn : (s.pair.seq + 2 ^ 32 - leAt b 0 4) % 2 ^ 32 = n) (h1 : 1 ≤ n) (hl : n ≤ s.pair.store.length)
    (hr : s.role ≠ 1) (hon : s.supply.on = true) :
    ∃ t, exec (.ackRecord lane (recordBytes seq 0x23 0 tick b)) s = .next t ∧ t.out.length = s.out.length + n ∧ t.pair.seq = s.pair.seq ∧
      RegsBut [F.PAIR_JRX.RX] s t := by
  let a := s.taken seq
  have hacked : a.acked b = a := if_neg fun k => hr ((s.get_taken seq (by decide)).symm.trans k)
  obtain ⟨u, hretx, hout, hseq, hearly, hwarm, hregs⟩ := State.retransmit_shows (s := a) hn hl hon
  have hu : (s.awaiting seq).applyRecord 0x23 b = u := by
    rw [State.applyRecord_ack, State.applyAck_eq]
    change (a.acked b).ackRest (leAt b 0 4) = _
    rw [hacked]
    exact (State.ackRest_of_stored (a := a) hn h1 hl).trans hretx
  exact ⟨u.gapless, State.laneRecord_taken h (by decide) hu hearly hwarm, hout, hseq, (s.taken_regs seq).of_regs hregs⟩

theorem State.keyxRecord_keeps (hn : leAt b 2 1 = 0) :
    ∃ t, exec (.keyxRecord lane (recordBytes seq 0x25 0 tick b)) s = .next t ∧
      t.pair.cert = insertAt (leAt b 0 1 * 256 + leAt b 1 1) (b.drop 4) s.pair.cert ∧ t.kvt = s.kvt ∧ RegsBut [F.PAIR_JRX.RX] s t :=
  ⟨_, State.laneRecord_taken h (by decide) (if_pos (.inl hn)) rfl rfl, rfl, rfl, (s.taken_regs seq).of_regs rfl⟩

/-- A certificate of one part is whole: the vault is asked for AGREE. -/
theorem State.keyxRecord_agrees (hkind : leAt b 0 1 = 1) (hidx : leAt b 1 1 = 0) (hn : leAt b 2 1 = 1) (hc : s.pair.cert = []) :
    ∃ t, exec (.keyxRecord lane (recordBytes seq 0x25 0 tick b)) s = .next t ∧
      ∃ r, t.kvt.queue = s.kvt.queue ++ [r] ∧ r.by_ = 10 ∧ r.code = 5 ∧ r.slot = s.get F.PAIR_KEY.WSLOT ∧ r.data = b.drop 4 := by
  let a := s.taken seq
  have hcert : a.pair.cert = [] := hc
  let r : VaultReq :=
    { by_ := 10, code := 5, slot := a.get F.PAIR_KEY.WSLOT, ctx := bytesOf [0x50, 0x41, 0x49, 0x52] ++ leBytes 8 0, data := b.drop 4 }
  let e := (a.updPair (fun p => { p with cert := [(256, b.drop 4)] })).updPair (fun p => { p with cert := p.cert.filter (fun q => q.1 / 256 != 1) })
  have hu : a.applyKeyx b = (e.enqueue r).showQueue := by
    have hdata : [b.drop 4].flatten = b.drop 4 := by simp
    unfold State.applyKeyx
    rw [hkind, hidx, hn, hcert]
    change (e.enqueue { r with data := [b.drop 4].flatten }).showQueue = _
    rw [hdata]
  have honly := (e.enqueue r).showQueue_regsOnly
  have hpair : (e.enqueue r).showQueue.pair = e.pair := by rw [honly]; rfl
  have hkvt : (e.enqueue r).showQueue.kvt.queue = s.kvt.queue ++ [r] := by rw [honly]; rfl
  generalize (e.enqueue r).showQueue = u at hu hpair hkvt
  exact ⟨u.gapless, State.laneRecord_taken h (by decide) hu (congrArg PairSt.early hpair :) (congrArg PairSt.warmWait hpair :), r, hkvt, rfl, rfl,
    s.get_taken seq (by decide), rfl⟩

end

/-- Settles O43: each record by its lemma. -/
theorem recordsOfRolesAndTables : Obligations.RecordsOfRolesAndTables := by
  unfold Obligations.RecordsOfRolesAndTables
  refine ⟨fun s lane seq tick b h hr hp hw hs hl => State.srvstateRecord_gives tick h hr hp hw hs hl,
    fun s lane seq tick b h hin => State.grantRecord_puts tick h hin,
    fun s lane seq tick b h hin hst hdue hk => State.ntskeyRecord_waits tick h hin hst rfl hdue hk,
    fun s lane seq tick b h hr => ⟨State.snapRecord_begins tick h hr, State.snapRecord_ends tick h hr⟩,
    fun s lane seq tick b h => ⟨State.vreqRecord_answers tick h, State.verdictRecord_shows tick h, State.verdictRecord_yields tick h⟩,
    fun s lane seq tick b h hr => State.swapRecord_answers tick h hr, fun s lane seq tick b h hq => ⟨fun n => ?_, fun n => ?_⟩,
    fun s lane seq tick b h => ⟨State.takeRecord_yields tick h, State.takeRecord_passes tick h, State.keyxRecord_keeps tick h,
      State.keyxRecord_agrees tick h⟩⟩
  · exact State.ackRecord_answers tick h hq
  · exact State.ackRecord_retransmits tick h

end Sys2Proof.Machine
